-- ==== Sys2Proof/Syntax.lean ====
section
/-! DEFINITION. The commands of the block: one inductive, one constructor per row of the command table. -/

namespace Sys2Proof


/-- The four access paths of R87: the host port, the two CAN FD controllers and the Swarm link. -/
inductive Path where
  | host | can0 | can1 | swarm
  deriving DecidableEq, Repr

/-- How a register access arrives: its path, whether it addresses the Keeper view (R79),
and on the Swarm path the node that asks (R454). -/
structure Access where
  path : Path
  keeper : Bool
  node : BitVec 16
  deriving DecidableEq, Repr

/-- The clock islands that a clock monitor of R27 watches. -/
inductive ClockIsland where
  | phase (p : Fin 16) | port (n : Fin 48) | forager (c : Fin 4) | combPll (c : Fin 4)
  | housekeeping | hive | swarmPort (east : Bool) | pdPhy (c : Fin 4)
  deriving DecidableEq, Repr

/-- A plan entry's timing words as the Forager hands them to a phase island (R123). -/
structure Timing where
  tAH : Nat
  tAL : Nat
  tBH : Nat
  tBL : Nat
  ordA : Bool
  ordB : Bool
  index : BitVec 8
  deriving DecidableEq, Repr

/-- A tagged value: the value, its residue tag and its clip flag (R349). -/
structure Tagged where
  val : Int
  tag : BitVec 16
  clip : Bool
  deriving DecidableEq, Repr

/-- What a comparison of a Forager judges: the INDEX of the entry, and `more`: the next command is a further comparison of the
same set on the same Forager edge (R152, R171). -/
structure Compared where
  idx : BitVec 8
  more : Bool
  deriving DecidableEq, Repr

/-- A Swarm frame as a port receives it (R439): the receiving port, the fields of its header, its payload and
the CRC that it ends with. `full` says that the transmit queue which its forwarded copy joins is full (R441). -/
structure SwFrame where
  west : Bool
  keeper : Bool
  bcast : Bool
  dst : BitVec 16
  src : BitVec 16
  ttl : BitVec 8
  seq : BitVec 8
  payload : List (BitVec 8)
  crc : BitVec 32
  full : Bool
  deriving DecidableEq, Repr


/-- The commands that the block takes: one constructor per row of the table, with the row's operands.
A row that is a register write carries the access and the whole word written; a row that is an event
carries which unit it happens in and what the device measured there. -/
inductive Instr where
  /-- `REGISTER_WRITE` (R9): A write to a register that has no row of its own sets, clears or refuses each field according to its type code and the access view. -/
  | registerWrite (a : Access) (addr : BitVec 20) (w : BitVec 32)
  /-- `CLOCK_MONITOR_TRIP` (R27): A clock monitor trips on a count error or a missing edge, and the device takes the action that R27 gives for the island that lost its clock. -/
  | clockMonitorTrip (i : ClockIsland)
  /-- `REF_LOST` (R28): On loss of the external reference, both PLL types enter holdover and switch to the backup oscillator within 10 µs, and a C2 fault is recorded. -/
  | refLost
  /-- `RET_READY` (R29): The source that a return would take has been valid continuously for 100 ms, so RET_READY rises and CLK EVT bit 0 is set. -/
  | retReady
  /-- `RETURN` (R30): A Keeper write of CLK_CTL.RETURN moves the PLLs back to the external source named by PREF, or is refused with RET_RESULT 2. -/
  | clkReturn (a : Access) (w : BitVec 32)
  /-- `GANG_REQ` (R170): A write of CMB_GANG.REQ requests a gang, or changes a gang's membership. -/
  | gangReq (a : Access) (c : Fin 4) (w : BitVec 32)
  /-- `GANG_CHECK` (R18): At the next mark of the lowest-numbered member, the battery-bus voltages are checked, and the gang either forms or is refused with GANG_REFUSED. -/
  | gangCheck (c : Fin 4)
  /-- `GANG_DISSOLVE` (R170): The gang dissolves at the next mark after a member changes its REQ or clears CMB_CTL.EN. -/
  | gangDissolve (c : Fin 4)
  /-- `PRE_REGULATOR_START` (R45): The pre-regulator starts when the OR node reaches 3.8 V. -/
  | preRegulatorStart
  /-- `IDEAL_DIODE_SWITCH` (R45): Within 1 ms of the pre-regulator starting, the OR elements switch to ideal-diode conduction. -/
  | idealDiodeSwitch
  /-- `IO_RAIL_TO_VDDIO` (R47): After VDDIO has stayed above 3.10 V for 4 always-on cycles, the I/O rail moves from VIOI to VDDIO. -/
  | ioRailToVddio
  /-- `IO_RAIL_TO_VIOI` (R47): VDDIO falls below 3.05 V, and the I/O rail moves back to VIOI within 1 µs. -/
  | ioRailToVioi
  /-- `DOMAIN_TAKES_VDDC` (R48): Once VDDC has stayed above 0.80 V for 4 always-on cycles after CORE_EN rose, the core domains take VDDC. -/
  | domainTakesVddc
  /-- `VDDC_LOSS` (R48): VDDC falls below 0.78 V while a domain draws from it, so every PWM output is forced to hold and a supply-loss reset follows. -/
  | vddcLoss
  /-- `REFERENCE_SELECT` (R42): During START-UP the CLK block takes REFIN, the crystal or, after 5 ms with no valid source, the backup oscillator. -/
  | referenceSelect (refinAt xtalAt : Option Nat)
  /-- `POWER_ON_RESET` (R55): The OR node falls below 3.6 V or VAO below 0.75 V, and power-on reset asserts with the PWM outputs, gates and CORE_EN held off. -/
  | powerOnReset
  /-- `POR_RELEASE` (R55): VPRE and VAO have stayed valid for 32 always-on cycles, so power-on reset is released. -/
  | porRelease
  /-- `CORE_FAIL` (R58): VDDC has not met its validity condition within 20 ms of CORE_EN rising, so CORE_EN is driven low, a C3 fault is recorded and the claim is refused. -/
  | coreFail
  /-- `RST_N_ASSERT` (R61): An assertion of RST_N is qualified and causes a pin reset, unless the device itself drives ERR_N low. -/
  | rstNAssert
  /-- `KEEPER_SOFTWARE_RESET` (R59): Code 0xC0DE written to HIVE_CMD within a Keeper session triggers the Keeper software reset. -/
  | keeperSoftwareReset (a : Access)
  /-- `RESET_RELEASE` (R60): The internal reset, held for at least 4 always-on cycles, is released, which is t0 of START-UP, with the primary and secondary causes recorded. -/
  | resetRelease
  /-- `HIVE_PLL_LOCK` (R68): The hive PLL locks at step 2 of START-UP, and the host port and CAN FD controllers begin to accept claims. -/
  | hivePllLock
  /-- `IMAGE_SELECT` (R66): At step 3 the retention SRAM is restored, an image or the built-in record is selected, loaded into bank A and applied, and HIVE_BOOT_STAT is set. -/
  | imageSelect (vaux vinMax vbusMax : Nat)
  /-- `FIRST_EVALUATION` (R68): At step 5 all blocks are evaluated for the first time, ERR_N is released if no fault is uncleared, and FULL or SAFE-BOOT entry follows under step 6. -/
  | firstEvaluation
  /-- `CLAIM_WINDOW_END` (R68): At the end of always-on cycle 65,536, with no counted claim, the device enters SAFE-BOOT within 1 ms. -/
  | claimWindowEnd
  /-- `CLAIM` (R69): Code 0xC1A1 written to HIVE_CMD claims the host port or starts a hand-over, and CORE_EN is driven high. -/
  | claim (a : Access)
  /-- `COMB_RELEASE` (R69): The comb PLLs lock and the combs are released, MODE becomes FULL and CLAIMED is set. -/
  | combRelease
  /-- `STABLE_SERVICE` (R67): After 60 s of stable service, the attempt counter of the booted slot is cleared. -/
  | stableService
  /-- `RETENTION_SHADOW_COPY` (R74): A retention SRAM word that has been written is copied atomically to the MRAM shadow within 100 µs. -/
  | retentionShadowCopy (word : Fin 512)
  /-- `PWR_RET_DATA` (R75): An access to PWR_RET_DATA reads or writes the retention word at WORD, with writes only to the host area in the Keeper view, and increments WORD. -/
  | pwrRetData (a : Access) (w : Option (BitVec 32))
  /-- `HIVE_SLEEP` (R76): Code 0x51EE written in FULL within a Keeper session runs the hive-sleep entry steps. -/
  | hiveSleep (a : Access)
  /-- `SLEEP_ABORT` (R77): An enabled wake source that fires before step 5 aborts the sleep entry, and the device returns to FULL. -/
  | sleepAbort (src : Fin 12)
  /-- `SLEEP_TIMER_EXPIRY` (R78): HIVE_SLEEP_TMR expires in hive-sleep and acts as a wake source. -/
  | sleepTimerExpiry
  /-- `WAKE` (R78): A wake source registered in the always-on domain runs the wake to FULL and records HIVE_WAKE.SRC. -/
  | wake (src : Fin 12) (lost : Bool)
  /-- `PAGE_IRQ_SET` (R85): A write to PAGE_IRQ_SET sets each EVT bit written 1 as if its event had occurred. -/
  | pageIrqSet (a : Access) (page : BitVec 8) (w : BitVec 32)
  /-- `FAULT_ACK` (R387): A Keeper write to PAGE_FLT_ACK acknowledges an active class, sets ACKED and stops its reaction timer. -/
  | faultAck (a : Access) (page : BitVec 8) (w : BitVec 32)
  /-- `FAULT_INJECT` (R384): A write to PAGE_FLT_INJ raises each cause written 1 with its full class action, unless the page's injection lock refuses it. -/
  | faultInject (a : Access) (page : BitVec 8) (w : BitVec 32)
  /-- `READ_HOLDER_CAPTURE` (R97): A read of the low word of a 64-bit register captures both words and the tag in the path's read holder. -/
  | readHolderCapture (a : Access) (addr : BitVec 20)
  /-- `LOW_WORD_WRITE` (R98): A write of the low word of a 64-bit register is held in the path's write holder. -/
  | lowWordWrite (a : Access) (addr : BitVec 20) (w : BitVec 32)
  /-- `HIGH_WORD_COMMIT` (R98): A write of the high word commits both words of the 64-bit register on one edge. -/
  | highWordCommit (a : Access) (addr : BitVec 20) (w : BitVec 32)
  /-- `PIN_SESSION_OPEN` (R92): KEEPER_EN rises, and a pin session opens on the host-port path within 1 µs. -/
  | pinSessionOpen
  /-- `PIN_SESSION_CLOSE` (R92): KEEPER_EN falls, and the pin session closes within 1 µs. -/
  | pinSessionClose
  /-- `KSESS_CODE_LO` (R92): A write of HIVE_KSESS_CODE_LO stores the low word of an attempt, held per path. -/
  | ksessCodeLo (a : Access) (w : BitVec 32)
  /-- `ATTEMPT` (R92): A write of HIVE_KSESS_CODE_HI compares the 64-bit code in constant time and opens a code session or counts a failed attempt. -/
  | attempt (a : Access) (w : BitVec 32)
  /-- `LOCKOUT_END` (R93): The lockout expires after 1,966,080 always-on cycles, and FAILS returns to 0. -/
  | lockoutEnd
  /-- `SESSION_CLOSE` (R94): A write of 1 to HIVE_KSESS_CTL.CLOSE closes the code session of the writing path. -/
  | sessionClose (a : Access) (w : BitVec 32)
  /-- `SESSION_IDLE_CLOSE` (R94): A code session with no Keeper-view access for IDLE seconds closes. -/
  | sessionIdleClose (path : Path)
  /-- `RD` (R102): A frame with opcode RD reads N words from ADDR onwards, after its frame-level checks. -/
  | rd (keeper : Bool) (addr : BitVec 24) (len : BitVec 8) (rcrc : BitVec 16)
  /-- `WR` (R102): A frame with opcode WR writes N words from ADDR onwards, after its frame-level checks. -/
  | wr (keeper : Bool) (addr : BitVec 24) (len : BitVec 8) (data : List (BitVec 32)) (rcrc : BitVec 16)
  /-- `RDN` (R102): A frame with opcode RDN reads ADDR N times. -/
  | rdn (keeper : Bool) (addr : BitVec 24) (len : BitVec 8) (rcrc : BitVec 16)
  /-- `WRN` (R102): A frame with opcode WRN writes N words in turn to ADDR. -/
  | wrn (keeper : Bool) (addr : BitVec 24) (len : BitVec 8) (data : List (BitVec 32)) (rcrc : BitVec 16)
  /-- `NOP` (R102): A frame with opcode NOP performs no access and returns STATUS and SCRC. -/
  | nop (op : BitVec 8) (addr : BitVec 24) (len : BitVec 8) (rcrc : BitVec 16)
  /-- `CHUNK_READY` (R105): A response chunk has been filled, and HRDY rises. -/
  | chunkReady
  /-- `CHUNK_DRAINED` (R105): The last nibble of a chunk has been shifted, so HRDY falls and the next chunk is filled. -/
  | chunkDrained
  /-- `FRAME_ABORT` (R109): A frame that ends before its RCRC check performs nothing and is recorded as ABORTED. -/
  | frameAbort
  /-- `FRAME_END_AFTER_CHECK` (R109): A frame that ends after its check performs its remaining accesses in one run, and HRDY stays low until they complete. -/
  | frameEndAfterCheck
  /-- `STALL` (R107): An HSCK pause longer than HOST_CFG.STALL ends the frame as if HCS_N had risen. -/
  | stall
  /-- `CAN_REQUEST` (R115): A CAN FD request frame addressed to the node is queued, performed and answered with one response frame, or is dropped at a full queue. -/
  | canRequest (n : Fin 2) (id : Option (BitVec 29)) (payload : List (BitVec 8)) (waiting : Fin 5)
  /-- `HEARTBEAT` (R117): Every HB × 10 ms each enabled controller sends a heartbeat frame. -/
  | heartbeat (n : Fin 2)
  /-- `ERR_PASSIVE` (R113): A CAN controller enters the error-passive state. -/
  | errPassive (n : Fin 2)
  /-- `BUS_OFF` (R113): A CAN controller enters the bus-off state. -/
  | busOff (n : Fin 2)
  /-- `BUS_OFF_RECOVERY` (R113): After 128 occurrences of 11 recessive bits, the controller recovers from bus-off. -/
  | busOffRecovery (n : Fin 2)
  /-- `COMB_MARK` (R121): The comb period mark falls and is registered in every island of the comb, starting their offsets. -/
  | combMark (c : Fin 4)
  /-- `ISSUE_DECISION` (R124): Four cycles before a period start, the island issues, discards or keeps S0, and otherwise runs an underrun. -/
  | issueDecision (p : Fin 16)
  /-- `PERIOD_START` (R121): A period of the phase timebase starts, the period counter advances and the issued entry begins. -/
  | periodStart (p : Fin 16)
  /-- `SLOT_WRITE` (R123): The Forager writes a plan entry into the free staged slot, or the write is discarded and counted. -/
  | slotWrite (p : Fin 16) (e : Timing)
  /-- `WALK` (R122): A write of PH_ILV.ANGLE while the timebase runs starts a walk to the new offset. -/
  | walk (a : Access) (p : Fin 16) (w : BitVec 32)
  /-- `SQUASH` (R128): A squash registered in a phase island clears S0 and S1 within 20 ns. -/
  | squash (p : Fin 16)
  /-- `DSAT` (R134): DSATk_N is sampled low for its filter time, so the phase enters ALL_OFF hold and DSAT is recorded as C4. -/
  | dsat (p : Fin 16)
  /-- `DUV` (R134): DUVk_N is sampled low for its filter time, so the phase enters ALL_OFF hold and DUV is recorded as C4. -/
  | duv (p : Fin 16)
  /-- `FW_TIMEOUT` (R129): The decay has not reached ZBAND within FW_MAX µs of hold entry, so all switches turn off and a C4 cause is raised. -/
  | fwTimeout (p : Fin 16)
  /-- `DECAY_COMPLETE` (R129): The sensed current falls within ZBAND during supervised decay, and the freewheel switches turn off. -/
  | decayComplete (p : Fin 16)
  /-- `RUN_SET` (R131): A write of PH_CTL.RUN = 1 permits the phase to leave the hold state at a matching issue decision. -/
  | runSet (a : Access) (p : Fin 16) (w : BitVec 32)
  /-- `RUN_CLEARED` (R130): PH_CTL.RUN is cleared, so the phase holds at the end of the issued period with its slots cleared. -/
  | runCleared (a : Access) (p : Fin 16) (w : BitVec 32)
  /-- `CBC` (R132): A cycle-by-cycle comparator trips, and the switches that build current turn off within 40 ns for the rest of the period. -/
  | cbc (p : Fin 16) (neg : Bool) (t : Nat)
  /-- `CBC_PERSIST` (R133): PERSIST consecutive limited periods raise the C2 cause CBC_PERSIST. -/
  | cbcPersist (p : Fin 16)
  /-- `SAMPLE_POINT` (R135): A phase-sense conversion at SP0–SP3 is corrected, tagged and delivered to the Forager. -/
  | samplePoint (p : Fin 16) (sp : Fin 4) (raw : BitVec 12)
  /-- `SNS_SAT` (R137): SP0 clipped in 8 consecutive periods raises SNS_SAT. -/
  | snsSat (p : Fin 16)
  /-- `PLAN_STARVED` (R140): 64 consecutive underrun periods while RUN is 1 raise PLAN_STARVED. -/
  | planStarved (p : Fin 16)
  /-- `CONFIRMATION` (R152): The comparison unit compares an SP0 result with I_PRED, confirming the entry and writing checkpoints or declaring a miss. -/
  | confirmation (p : Fin 16) (k : Compared) (x : Tagged) (cbcNow : Bool)
  /-- `NOSAMPLE` (R152): No SP0 result arrives within 120 ns after the end of the issued period, so the entry is missed with cause NOSAMPLE. -/
  | nosample (p : Fin 16) (k : Compared)
  /-- `PLAN_ENTRY_COMMIT` (R147): A lane completes FETCH through COMMIT and places an entry in the window as PLANNED. `close`: the issue decision of the first period not yet issued lies less than 400 ns ahead (R154, R156). -/
  | planEntryCommit (p : Fin 16) (e : Timing) (close : Bool)
  /-- `COEFFICIENT_RECOMPUTE` (R149): Every TUPD ms the Forager recomputes its working coefficients from the table and the temperatures. -/
  | coefficientRecompute (c : Fin 4)
  /-- `GANG_SQUASH` (R157): A squash relayed through the hive is registered in a gang partner Forager, which squashes and replans its own phases. -/
  | gangSquash (c : Fin 4)
  /-- `DEGRADE` (R159): A consecutive-miss count of 8 degrades the phase to average-current control and raises DEGRADED. -/
  | degrade (p : Fin 16)
  /-- `STORM_ENTER` (R160): The squash count in the window reaches TH, so the comb enters storm with double bands and reduced depth. -/
  | stormEnter (c : Fin 4)
  /-- `STORM_EXIT` (R160): At a bucket boundary with the count at most floor(TH / 4), storm ends. -/
  | stormExit (c : Fin 4)
  /-- `FEEDER_PRE` (R162): A FEEDER_PRE anticipation record is registered and queued, and the affected set is replanned. -/
  | feederPre (c : Fin 4) (r : BitVec 64)
  /-- `FEEDER_MAIN` (R162): A FEEDER_MAIN anticipation record is registered and queued, and the Forager pre-biases the set. -/
  | feederMain (c : Fin 4) (r : BitVec 64)
  /-- `FEEDER_OFF` (R162): A FEEDER_OFF anticipation record of a commanded turn-off is registered and queued. -/
  | feederOff (c : Fin 4) (r : BitVec 64)
  /-- `PD_TRANS` (R162): A PD_TRANS anticipation record from a PD port is registered and queued. -/
  | pdTrans (c : Fin 4) (r : BitVec 64)
  /-- `CHANGEOVER` (R162): A CHANGEOVER anticipation record from the power path is registered and queued. -/
  | changeover (c : Fin 4) (r : BitVec 64)
  /-- `BUDGET` (R162): A BUDGET record bounds the set target with a ramp to AMP. -/
  | budget (c : Fin 4) (r : BitVec 64)
  /-- `SHARE` (R162): A SHARE record from the Swarm link replaces the queued SHARE record and bounds the set target. -/
  | share (c : Fin 4) (r : BitVec 64)
  /-- `HOST` (R162): A HOST anticipation record posted by host software is registered and queued. -/
  | hostRecord (c : Fin 4) (r : BitVec 64)
  /-- `CANCEL` (R162): A CANCEL record removes every queued record of the same ORIGIN. -/
  | cancel (c : Fin 4) (r : BitVec 64)
  /-- `RECORD_RETIRE` (R166): A record retires once START plus TIME has passed, and its contribution moves to the residual load estimate. -/
  | recordRetire (c : Fin 4) (idx : Fin 16)
  /-- `MARK_PER_WRITE` (R169): A write of CMB_MARK.PER takes effect from the first period not yet staged, and PLANNED entries are replanned. -/
  | markPerWrite (a : Access) (c : Fin 4) (w : BitVec 32)
  /-- `MODEL_WRITE` (R154): A change of CMB_PLAN_CTL.MODEL squashes the entries of the old model, recomputes coefficients and replans. -/
  | modelWrite (a : Access) (c : Fin 4) (w : BitVec 32)
  /-- `FORAGER_ENABLE` (R149): The registration of CMB_CTL.EN = 1 validates the model table and recomputes the working coefficients. -/
  | foragerEnable (a : Access) (c : Fin 4) (w : BitVec 32)
  /-- `PEEK` (R175): A read of CMB_PEEK0 captures the whole plan entry at the selected position on one Forager edge. -/
  | peek (a : Access) (c : Fin 4)
  /-- `STALE` (R177): A needed arbiter quantity has not been renewed for 100 µs, so I_T is held and GOVERN reads 9. -/
  | stale (c : Fin 4) (q : Fin 48)
  /-- `STALE_RAMP` (R177): After 10 ms of staleness, the arbiter ramps I_T towards 0 at SLEW. -/
  | staleRamp (c : Fin 4)
  /-- `BATTERY_UNUSABLE` (R178): VBB at or below CUT for 1 s makes the battery unusable, which changes the mode and records BAT_CUTOFF. -/
  | batteryUnusable (c : Fin 4)
  /-- `BATTERY_USABLE` (R178): VBB at or above MIN + HYST for 1 s with a port closed makes the battery usable again. -/
  | batteryUsable (c : Fin 4)
  /-- `SOURCE_QUALIFIED` (R182): A source port has been inside its window for QUAL ms and becomes qualified. -/
  | sourceQualified (c : Fin 4) (m : Fin 2)
  /-- `REVERT` (R185): The preferred port has been qualified for RET_DLY seconds, so a planned changeover back to it starts. -/
  | revert (c : Fin 4)
  /-- `PLANNED_CHANGEOVER` (R185): A write of SEL or PRI that moves the selection sends a CHANGEOVER record with START = LEAD. -/
  | plannedChangeover (a : Access) (c : Fin 4) (w : BitVec 32)
  /-- `CHANGEOVER_LEAD_EXPIRY` (R185): The START of a planned changeover passes, and the pair that is on is commanded off. -/
  | changeoverLeadExpiry (c : Fin 4)
  /-- `ON_COMMAND` (R183): BBM_GAP has passed since the other pair was reported off, so the on command is launched to a qualified port. -/
  | onCommand (c : Fin 4)
  /-- `PAIR_ON_REPORT` (R258): A port island reports its main switch at full enhancement to its comb. -/
  | pairOnReport (n : Fin 48)
  /-- `PAIR_OFF_REPORT` (R258): A port island reports its main switch off to its comb. -/
  | pairOffReport (n : Fin 48)
  /-- `BUDGET_WRITE` (R188): A budget write raises the draw limit at once or starts a ramp down with a BUDGET record. -/
  | budgetWrite (a : Access) (c : Fin 4) (which : Fin 3) (w : BitVec 32)
  /-- `RAMP_DONE` (R188): The budget ramp reaches its new value, so RAMP clears and EVT bit 5 is set. -/
  | rampDone (c : Fin 4)
  /-- `SHED_CHECK` (R189): Each 5 ms after a ramp, the arbiter checks the draw and sheds one feeder or raises BUDGET_HELD. -/
  | shedCheck (c : Fin 4)
  /-- `SHED_RESTORE` (R190): A write of 1 to a CMB_SHED_STAT bit restores the feeder through its insertion sequence. -/
  | shedRestore (a : Access) (c : Fin 4) (w : BitVec 32)
  /-- `PD_CUT` (R191): A write putting CMB_PD_BUDGET.LIM below the limit in force starts a 20 ms PD cut. -/
  | pdCut (a : Access) (c : Fin 4) (w : BitVec 32)
  /-- `PD_CUT_ENFORCED` (R191): 20 ms after the cut started, the new PD limit comes into force. -/
  | pdCutEnforced (c : Fin 4)
  /-- `SUP_EXIT` (R192): The headroom has stood at or above EXIT for HOLD ms, so the arbiter returns from SUPPLEMENT to CHARGE. -/
  | supExit (c : Fin 4)
  /-- `BAT_LOW` (R194): VBB at or below MIN for 1 s in BATTERY_ONLY sheds feeders below KEEP and starts a PD cut to 0. -/
  | batLow (c : Fin 4)
  /-- `SHARE_LOST` (R198): Share records stop for HOLD ms, so the arbiter ramps constraint 6 out. -/
  | shareLost (c : Fin 4)
  /-- `EVALUATION` (R204): At its 100 ms instant, a charge engine updates its quantities, decides one transition and forms its set-points. -/
  | evaluation (n : Fin 8)
  /-- `ENGINE_ENABLE` (R204): A write of CHG_CTL.EN starts the engine at its next instant, with the profile validated. -/
  | engineEnable (a : Access) (n : Fin 8) (w : BitVec 32)
  /-- `PROFILE_WRITE` (R231): A write of CHG_CTL.PROFILE restarts the engine at the new START, or raises PROFILE for an invalid profile. -/
  | profileWrite (a : Access) (n : Fin 8) (w : BitVec 32)
  /-- `STALE_INPUT` (R205): An accumulator has not advanced by 4,096 samples within 2 s, so the engine commands zero current. -/
  | staleInput (n : Fin 8)
  /-- `RESTART` (R236): CHG_CMD RESTART enters START and clears every counter at the next evaluation. -/
  | restart (a : Access) (n : Fin 8)
  /-- `GOTO` (R236): CHG_CMD GOTO enters state ARG when it is below NSTATES. -/
  | gotoState (a : Access) (n : Fin 8) (arg : BitVec 8)
  /-- `CLEAR_TOTAL` (R236): CHG_CMD CLEAR_TOTAL sets AH_TOTAL to 0. -/
  | clearTotal (a : Access) (n : Fin 8)
  /-- `EXIT_MET` (R212): An exit condition has been satisfied for its QUAL time, and the engine enters its NEXT state. -/
  | exitMet (n : Fin 8) (e : Fin 4)
  /-- `CHARGE_TIMEOUT` (R223): The safety timer expires, so the engine enters CHARGE_TIMEOUT and raises TIMEOUT. -/
  | chargeTimeout (n : Fin 8)
  /-- `VCELL_HIGH` (R234): V_CELL above V_CELL_MAX at 10 consecutive evaluations raises VCELL_HIGH, with zero current. -/
  | vcellHigh (n : Fin 8)
  /-- `BLOCK_CLOSE` (R218): The voltage accumulator advances by the block length, so a block closes and PEAK and NDV are updated. -/
  | blockClose (n : Fin 8)
  /-- `DTDT_UPDATE` (R220): Every 10 s a new T_BAT mean is formed and DTDT is updated. -/
  | dtdtUpdate (n : Fin 8)
  /-- `PROBE_TRIGGER` (R224): A current collapse or a loss of presence triggers an absence probe and pauses the engine timers. -/
  | probeTrigger (n : Fin 8)
  /-- `PERIODIC_PROBE` (R224): In MODE CHARGE the periodic probe falls due every PERIOD seconds. -/
  | periodicProbe (n : Fin 8)
  /-- `PROBE_END` (R225): At the end of PROBE_T, absence is confirmed and the port opened, or the probe rejects absence. -/
  | probeEnd (n : Fin 8) (below : Bool)
  /-- `BATTERY_RETURN` (R227): The string voltage stands in range for 500 ms, so the port closes and the engine resumes the checkpoint or starts as for a new battery. -/
  | batteryReturn (n : Fin 8)
  /-- `LAMP_PATTERN_CHANGE` (R228): A change of lamp pattern takes effect at the next 125 ms boundary of the frame. -/
  | lampPatternChange (m : Fin 8)
  /-- `SWEEP_REQUEST` (R242): A write of CHG_IMP_CTL.START requests an impedance sweep, which is refused or enters PENDING. -/
  | sweepRequest (a : Access) (n : Fin 8) (w : BitVec 32)
  /-- `AUTO_SWEEP` (R242): T_STATE reaches a multiple of AUTO minutes, and the engine requests a sweep. -/
  | autoSweep (n : Fin 8)
  /-- `SWEEP_ABORT` (R250): CHG_IMP_CTL.ABORT, or an aborting event, ends the sweep with ABORTED and removes the perturbation. -/
  | sweepAbort (n : Fin 8)
  /-- `SWEEP_RESUME` (R242): A pending sweep starts or resumes when limiting ends and no other sweep runs on the bus. -/
  | sweepResume (n : Fin 8)
  /-- `STEP` (R244): The step index of the phase accumulator changes, so a conversion pair is requested and k is sent to the Forager. -/
  | impStep (n : Fin 8)
  /-- `IMPEDANCE_PAIR` (R246): A voltage and current conversion pair starts on two lanes and enters the I/Q accumulators. -/
  | impedancePair (n : Fin 8)
  /-- `SETTLE_DONE` (R243): SETTLE cycles have passed, and integration of the point begins at index 0. -/
  | settleDone (n : Fin 8)
  /-- `INTEGRATION_DONE` (R243): INTEG cycles have been integrated, and the point ends. -/
  | integrationDone (n : Fin 8)
  /-- `POINT_RESULT` (R248): Within 1 ms of the last pair, Z_RE, Z_IM, IAMP and the status of the point are stored. -/
  | pointResult (n : Fin 8)
  /-- `WINDOW_OUTSIDE` (R259): The judged voltage leaves the window for FILT, and the port is reported outside. -/
  | windowOutside (n : Fin 48)
  /-- `WINDOW_INSIDE` (R259): The judged voltage returns within the hysteresis bounds for FILT, and the port is reported inside. -/
  | windowInside (n : Fin 48)
  /-- `OVP` (R260): The judged voltage stands above LEVEL for FILT, so the gate is pulled down and OVP is recorded. -/
  | ovp (n : Fin 48)
  /-- `PRESENCE_ASSERTED` (R261): Pnn_PRES is asserted after its filter, which restarts a feeder's insertion delay. -/
  | presenceAsserted (n : Fin 48)
  /-- `PRESENCE_DEASSERTED` (R261): Pnn_PRES is deasserted after its filter, with the effect that its port kind gives. -/
  | presenceDeasserted (n : Fin 48)
  /-- `PORT_ENABLE` (R264): A write of PORT_CTL.EN = 1 is honoured, which restarts the insertion delay or counts towards TOGGLED. -/
  | portEnable (a : Access) (n : Fin 48) (w : BitVec 32)
  /-- `COMMANDED_TURN_OFF` (R269): A write of EN = 0 enters TURN_OFF and sends FEEDER_OFF, or a CANCEL before enhancement. -/
  | commandedTurnOff (a : Access) (n : Fin 48) (w : BitVec 32)
  /-- `INS_DLY_EXPIRY` (R264): The insertion delay expires. -/
  | insDlyExpiry (n : Fin 48)
  /-- `PRECHARGE_START` (R268): At the START of FEEDER_PRE, the pre-charge gate turns on. -/
  | prechargeStart (n : Fin 48)
  /-- `ENHANCEMENT_START` (R268): At the START of FEEDER_MAIN, the main gate is driven and ENHANCE is entered. -/
  | enhancementStart (n : Fin 48)
  /-- `PRECHARGE_END` (R265): The voltage across the switch falls to PCG_DV, and pre-charge ends. -/
  | prechargeEnd (n : Fin 48)
  /-- `PCG_FAIL` (R265): Pre-charge has not ended within PCG_MAX, so the port is latched and PCG_FAIL is recorded. -/
  | pcgFail (n : Fin 48)
  /-- `FULL_ENHANCEMENT` (R257): V_GS reaches 10.0 V, and the port enters ON and starts PG_DLY. -/
  | fullEnhancement (n : Fin 48)
  /-- `GATE_RISE` (R266): Full enhancement has not been reached within GRISE, so the gate is pulled down and the port latched. -/
  | gateRise (n : Fin 48)
  /-- `PG_ASSERT` (R267): PG_DLY expires with the gate full and no limit, so PG asserts. -/
  | pgAssert (n : Fin 48)
  /-- `PULL_DOWN_START` (R269): At START of FEEDER_OFF, the gate pull-down of a commanded turn-off begins. -/
  | pullDownStart (n : Fin 48)
  /-- `GATE_FALL` (R269): V_GS has not reached off within GFALL, so GATE_FALL is recorded. -/
  | gateFall (n : Fin 48)
  /-- `LIMIT` (R270): The limit amplifier takes the gate out of full enhancement, so the fault timer starts and the port enters LIMIT. -/
  | limit (n : Fin 48)
  /-- `LIMIT_RELEASE` (R270): The gate returns to full enhancement, and the fault timer counts down. -/
  | limitRelease (n : Fin 48)
  /-- `OC_TRIP` (R270): The fault timer reaches FT, so the gate is pulled down and the port is latched. -/
  | ocTrip (n : Fin 48)
  /-- `SHORT` (R271): The shunt voltage crosses SC, and the analog pull-down acts within 200 ns, latching the port. -/
  | short (n : Fin 48)
  /-- `RETRY_DONE` (R273): The retry timer expires after MIN and cooling to T_OK, and a completed toggle then ends the latch. -/
  | retryDone (n : Fin 48)
  /-- `MODEL_STEP` (R274): Every 100 µs the port island advances its FET thermal model. -/
  | modelStep (n : Fin 48)
  /-- `MODEL_INPUT_STALE` (R275): A model input has not been renewed for 100 µs, and a hot-erring stand-in value is used. -/
  | modelInputStale (n : Fin 48) (which : Fin 4)
  /-- `REV_HOLD` (R278): Current into a string that may not charge exceeds REV_TH, and the amplifier regulates it in REV_HOLD. -/
  | revHold (n : Fin 48)
  /-- `REVERSE` (R278): REV_HOLD lasts REV_T, so the pair opens and REVERSE is recorded. -/
  | reverse (n : Fin 48)
  /-- `ATTACH` (R289): The CC logic recognises an attach after debounce, latches role and polarity, and requests PD duty as source. -/
  | attach (c : Fin 4) (kind : Fin 3) (cc2 : Bool) (rp : Fin 4)
  /-- `DETACH` (R303): A registered detach cancels transitions and timers, clears CONTRACT, zeroes the reference and acts as a DETACH miss. -/
  | detach (c : Fin 4)
  /-- `ROLE_TOGGLE` (R289): In dual-role toggling, the port alternates between Rp and Rd within its 75 ms period. -/
  | roleToggle (c : Fin 4)
  /-- `DUTY_ENTRY` (R287): The PD phase issues its first duty entry, and the VBUS switch may close. -/
  | dutyEntry (c : Fin 4)
  /-- `PD_RELEASE` (R288): The port releases the PD phase, which rejoins the pool at the next mark. -/
  | pdRelease (c : Fin 4)
  /-- `TRANSITION` (R293): A change of PDP_VBUS.TGT in duty starts a transition wait and sends a PD_TRANS record. -/
  | transition (a : Access) (c : Fin 4) (w : BitVec 32)
  /-- `TRANSITION_START` (R293): After DLY ms, or DLY after the armed GoodCRC, the reference starts to move at SLEW. -/
  | transitionStart (c : Fin 4)
  /-- `TRANS_DONE` (R293): The reference reaches TGT, so TRANS clears and EVT bit 11 is set. -/
  | transDone (c : Fin 4)
  /-- `RX_MSG` (R294): A BMC message is received, checked, acknowledged with GoodCRC and buffered. -/
  | rxMsg (c : Fin 4) (sop : Fin 3) (bytes : List (BitVec 8)) (crcOk early : Bool)
  /-- `TX_OK` (R294): A GoodCRC for the transmitted message arrives. -/
  | txOk (c : Fin 4)
  /-- `TX_RETRY` (R294): No GoodCRC arrives within tReceive, so the message is retried. -/
  | txRetry (c : Fin 4)
  /-- `GO` (R295): A write of PDP_TX.GO sends the transmit buffer. -/
  | go (a : Access) (c : Fin 4) (w : BitVec 32)
  /-- `TX_DATA` (R295): A write of PDP_TX_DATA appends four bytes to the transmit buffer. -/
  | txData (a : Access) (c : Fin 4) (w : BitVec 32)
  /-- `RX_DATA` (R295): A read of PDP_RX_DATA returns the next four bytes and releases the message after its last word. -/
  | rxData (a : Access) (c : Fin 4)
  /-- `HARD_RESET` (R296): PDP_SIG OP 1 sends Hard Reset signalling, clears the contract and runs the source sequence. -/
  | hardReset (a : Access) (c : Fin 4)
  /-- `CABLE_RESET` (R296): PDP_SIG OP 2 sends Cable Reset signalling. -/
  | cableReset (a : Access) (c : Fin 4)
  /-- `SRC_OFF` (R301): PDP_SIG OP 3 moves the reference to 0 V and at vSafe0V makes the port a sink. -/
  | srcOff (a : Access) (c : Fin 4)
  /-- `SRC_ON` (R301): PDP_SIG OP 4 replaces Rd by Rp, requests duty and ramps VBUS to 5 V. -/
  | srcOn (a : Access) (c : Fin 4)
  /-- `HARD_RESET_RX` (R296): Received Hard Reset signalling clears the contract and runs the Hard Reset sequence. -/
  | hardResetRx (c : Fin 4)
  /-- `CABLE_RESET_RX` (R296): Received Cable Reset signalling sets EVT bit 6. -/
  | cableResetRx (c : Fin 4)
  /-- `T_PS_HARD_RESET` (R296): tPSHardReset after the signalling, the reference moves to 0 V and VBUS is discharged. -/
  | tPsHardReset (c : Fin 4)
  /-- `T_SRC_RECOVER` (R296): After tSrcRecover, the reference returns to 5.00 V. -/
  | tSrcRecover (c : Fin 4)
  /-- `HARD_RESET_DONE` (R296): VBUS reaches vSafe5V after a Hard Reset, and EVT bit 5 is set. -/
  | hardResetDone (c : Fin 4)
  /-- `FRS_SIGNAL` (R297): A CC low of 50 µs or longer is the Fast Role Swap signal. -/
  | frsSignal (c : Fin 4)
  /-- `FRS_TAKEOVER` (R297): Connector VBUS falls to 4.90 V after the signal, and the PD phase supplies it. -/
  | frsTakeover (c : Fin 4)
  /-- `HOST_TIMER_START` (R298): A write of PDP_TMRn.START starts the host timer from LOAD. -/
  | hostTimerStart (a : Access) (c : Fin 4) (t : Fin 8) (w : BitVec 32)
  /-- `HOST_TIMER_STOP` (R298): A write of PDP_TMRn.STOP cancels the host timer. -/
  | hostTimerStop (a : Access) (c : Fin 4) (t : Fin 8) (w : BitVec 32)
  /-- `HOST_TIMER_EXPIRY` (R298): A host timer expires, and EVT bit 7 is set. -/
  | hostTimerExpiry (c : Fin 4) (t : Fin 8)
  /-- `PD_SHORT_CIRCUIT` (R299): The PD shunt exceeds SC, so the VBUS switch gate is pulled down and ERROR_RECOVERY is entered. -/
  | pdShortCircuit (c : Fin 4)
  /-- `PD_OVER_CURRENT` (R299): The port current exceeds the limit in force plus OC_MARGIN for OC_T, so the switch opens. -/
  | pdOverCurrent (c : Fin 4)
  /-- `PD_OVER_VOLTAGE` (R299): The connector exceeds its over-voltage threshold, so the switch opens and DIS sinks. -/
  | pdOverVoltage (c : Fin 4)
  /-- `PD_REVERSE_CURRENT` (R299): Current into the port exceeds REV_TH, so the switch opens. -/
  | pdReverseCurrent (c : Fin 4)
  /-- `CC_OVP` (R299): A CC pin rises above 6.0 V, so the CC pins are isolated and VCONN is turned off. -/
  | ccOvp (c : Fin 4)
  /-- `VCONN_OC` (R299): VCONN above 250 mA for 100 µs turns VCONN off. -/
  | vconnOc (c : Fin 4)
  /-- `PD_GATE_RISE` (R299): The VBUS switch gate is not full within GRISE, so it is pulled down. -/
  | pdGateRise (c : Fin 4)
  /-- `ERROR_RECOVERY_END` (R300): tErrorRecovery ends, and the port starts again from unattached. -/
  | errorRecoveryEnd (c : Fin 4)
  /-- `PD_ENABLE` (R300): A write of PDP_CTL.EN disables the port, or enables it and ends a protective latch. -/
  | pdEnable (a : Access) (c : Fin 4) (w : BitVec 32)
  /-- `SWITCH_OPEN` (R303): After detach, the switch opens when the current is within ZBAND for two marks or at OPEN_MAX. -/
  | switchOpen (c : Fin 4)
  /-- `VSAFE0V` (R303): The connector discharges to 0.8 V, and the discharge sink stops. -/
  | vsafe0v (c : Fin 4)
  /-- `DISCHARGE` (R303): The discharge has not completed within 650 ms, so the C3 cause DISCHARGE is recorded. -/
  | discharge (c : Fin 4)
  /-- `CONVERSION_END` (R313): A housekeeping conversion ends 64 cycles after its start edge, and the lane is free. -/
  | conversionEnd (lane : Fin 4) (outside : Bool)
  /-- `VALUE_AVAILABLE` (R325): A corrected, tagged value is delivered to the Forager, the port island, the thermal block, accumulators and trackers. -/
  | valueAvailable (input : Fin 256) (raw : BitVec 12) (birthOk : Bool) (upset : BitVec 16)
  /-- `SEQ_TIMER` (R321): A sequence timer fires every PER µs and triggers its sequences. -/
  | seqTimer (t : Fin 8)
  /-- `PHASE_EVENT_TRIGGER` (R321): A phase period start or sample point is registered as a sequence trigger. -/
  | phaseEventTrigger (p : Fin 16) (ev : Fin 8)
  /-- `SW_TRIG` (R321): A write of HKS_SW_TRIG triggers each sequence written 1. -/
  | swTrig (a : Access) (w : BitVec 32)
  /-- `SEQUENCE_DUE` (R321): DELAY cycles after its trigger, a sequence becomes pending, or a repeat trigger is queued or dropped. -/
  | sequenceDue (q : Fin 32)
  /-- `SEQUENCE_STEP_START` (R322): The lanes that a step names are free, so the step starts its conversions under the allocation order. -/
  | sequenceStepStart
  /-- `URGENT` (R324): An urgent request through HKS_URGENT is served on a free lane, or waits or is dropped. -/
  | urgent (a : Access) (w : BitVec 32)
  /-- `LANE_REF_WRITE` (R314): A write of HKS_LANE_REF switches a lane's reference, and SETTLED clears. -/
  | laneRefWrite (a : Access) (w : BitVec 32)
  /-- `SETTLED` (R314): The reference settling time passes, and SETTLED is set. -/
  | settled (conv : Fin 5)
  /-- `REF_TIMEOUT` (R314): A converter not settled 5 ms after a switch is withdrawn. -/
  | refTimeout (conv : Fin 5)
  /-- `CALIBRATION` (R334): A write of HKS_CAL.GO starts the calibration of TARGET, switching the spare to the lane's reference. -/
  | calibration (a : Access) (w : BitVec 32)
  /-- `AUTO_CALIBRATION` (R334): Every AUTO minutes, a calibration pass of all converters starts. -/
  | autoCalibration
  /-- `LANE_HANDOVER` (R334): On the first edge on which the lane is free, it passes to the settled spare. -/
  | laneHandover
  /-- `CAL_DONE` (R334): After 25 ms the converter stores its factors and becomes the spare. -/
  | calDone (ofs : BitVec 12) (gain : BitVec 16)
  /-- `TDAC_WRITE` (R336): A write of HKS_TDAC drives the test DAC onto INPUT. -/
  | tdacWrite (a : Access) (w : BitVec 32)
  /-- `TDAC_READY` (R336): 20 µs after the write, READY is set. -/
  | tdacReady
  /-- `ACC_CLR` (R329): A write of ACC_CFG.CLR clears the accumulator and increments EPOCH. -/
  | accClr (a : Access) (acc : Fin 512) (w : BitVec 32)
  /-- `MMT_CLR` (R333): A write of MMT_CFG.CLR clears MIN and MAX. -/
  | mmtClr (a : Access) (t : Fin 256) (w : BitVec 32)
  /-- `ACC_CAPTURE` (R328): A read of ACC_SUM_LO captures SUM, CNT, SQ and CLIPS on one edge. -/
  | accCapture (a : Access) (acc : Fin 512)
  /-- `THRESHOLD_BLOCK` (R330): CNT advances by 2^BLK since the boundary, and the sum advance is compared with HI and LO. -/
  | thresholdBlock (acc : Fin 512)
  /-- `SRAM_SCRUB` (R359): Each µs the SRAM scrubber reads one word under SECDED. -/
  | sramScrub (upset : BitVec 8)
  /-- `RETENTION_SCRUB` (R359): Each 32 always-on cycles the retention scrubber reads one word. -/
  | retentionScrub (upset : BitVec 8)
  /-- `MRAM_SCRUB` (R359): Each ms the MRAM scrubber reads one word and rewrites it if corrected. -/
  | mramScrub (upset : BitVec 8)
  /-- `RETENTION_RESTORE` (R358): A poisoned retention word is restored from the MRAM shadow within 100 µs. -/
  | retentionRestore (word : Fin 512)
  /-- `WINDOW_WRITE` (R81): A write through the SRAM or MRAM window updates its SECDED word by read-modify-write or is refused. -/
  | windowWrite (a : Access) (addr : BitVec 24) (w : BitVec 32)
  /-- `INJECTION_ARM` (R360): A Keeper write of MEM_INJ or MRAM_INJ arms check-bit injection at INJ_ADDR. -/
  | injectionArm (a : Access) (mram : Bool) (w : BitVec 32)
  /-- `TAG_INJ` (R361): A Keeper write of TAG_INJ arms a residue injection at a page checker or a read path. -/
  | tagInj (a : Access) (w : BitVec 32)
  /-- `THERMAL_SAMPLE` (R369): At its interval boundary, a sensor takes a sample, judges sanity and updates its level, shutdown count and interval. -/
  | thermalSample (k : Fin 88)
  /-- `THERMAL_URGENT_REQUEST` (R369): With no value 20 µs before the boundary, the thermal block makes an urgent request. -/
  | thermalUrgentRequest (k : Fin 88)
  /-- `THROTTLE_LEVEL` (R372): A third consecutive sample across a threshold changes the sensor level and the zone percentage. -/
  | throttleLevel (k : Fin 88)
  /-- `SHUTDOWN` (R375): A second consecutive sample at or above SD shuts down the guarded hardware. -/
  | shutdown (k : Fin 88)
  /-- `SENSOR_FAILED` (R371): A third consecutive insane sample fails the sensor and starts substitution. -/
  | sensorFailed (k : Fin 88)
  /-- `INTERVAL_LENGTHEN` (R370): After 8 samples beyond the band margin, the sampling interval lengthens. -/
  | intervalLengthen (k : Fin 88)
  /-- `SUBSTITUTION_END` (R377): After 10 s of sane samples, substitution ends. -/
  | substitutionEnd (k : Fin 88)
  /-- `DIE_COMPARATOR` (R375): The analog die comparator trips at 160 °C and acts as a DIE shutdown. -/
  | dieComparator
  /-- `COOLED` (R376): A sensor held at or below SD − 20 K for 1 s ends a STAGE or PORT_FET shutdown. -/
  | cooled (k : Fin 88)
  /-- `THM_ACK` (R376): A Keeper write of THM_ACK acknowledges a shutdown record and appends an acknowledgement record. -/
  | thmAck (a : Access) (w : BitVec 32)
  /-- `MIN_POWER` (R378): A failed sensor without an estimate for 10 s drives its zone to minimum power. -/
  | minPower (k : Fin 88)
  /-- `SD_WRITE` (R374): The first Keeper write of THS_SD sets the level and LOCK. -/
  | sdWrite (a : Access) (k : Fin 88) (w : BitVec 32)
  /-- `REACTION_TIMER` (R386): A C2 or C3 reaction timer expires with the class unacknowledged, and the class action is applied. -/
  | reactionTimer (page : BitVec 8) (cls : Fin 4)
  /-- `QUIET_PERIOD_END` (R389): A quiet period runs out, so the class clears and its action is withdrawn. -/
  | quietPeriodEnd (page : BitVec 8) (cls : Fin 4)
  /-- `LAMP_OC` (R398): A LAMP ball sinking above 40 mA for 10 µs is released for 1 s. -/
  | lampOc (m : Fin 8)
  /-- `LAMP_OC_RELEASE_END` (R398): After 1 s the overloaded lamp is driven again. -/
  | lampOcReleaseEnd (m : Fin 8)
  /-- `LINE_CHANGE` (R402): A change of a source line is registered in the interrupt controller and updates pending, ownership and the pins. -/
  | lineChange (src : Fin 256)
  /-- `PEND_SET` (R403): A write of INTC_PEND_SETj sets and latches pending bits. -/
  | pendSet (a : Access) (j : Fin 8) (w : BitVec 32)
  /-- `PEND_CLR` (R403): A write of INTC_PEND_CLRj clears latched pending bits. -/
  | pendClr (a : Access) (j : Fin 8) (w : BitVec 32)
  /-- `INTC_CLAIM` (R408): A read of INTC_Tt_CLAIM atomically claims the candidate and pushes it on the target's stack, or returns spurious. -/
  | intcClaim (a : Access) (t : Fin 4)
  /-- `END_OF_INTERRUPT` (R409): A write of INTC_Tt_EOI pops the stack for the top source and re-samples a level line. -/
  | endOfInterrupt (a : Access) (t : Fin 4) (w : BitVec 32)
  /-- `ACTIVE_LONG` (R415): A source active without completion for ACT_MAX raises ACTIVE_LONG. -/
  | activeLong (src : Fin 256)
  /-- `WINDOW_CLOSE` (R428): At the end of tick CLOSE, the watchdog judges the cycle for missing slots and late service. -/
  | windowClose
  /-- `EARLY_WARNING` (R429): At tick EW with SERVED 0, the early warning is set and wakes the device. -/
  | earlyWarning
  /-- `FIRST_KEY` (R424): A write of the first key to WDG_SVC sets ARMED. -/
  | firstKey (a : Access)
  /-- `KEY_PAIR` (R425): A write of the expected second key completes a key pair, which is judged and may serve the window. -/
  | keyPair (a : Access) (w : BitVec 32)
  /-- `BAD_KEY` (R424): A write of any other value to WDG_SVC is a BAD_KEY failure. -/
  | badKey (a : Access) (w : BitVec 32)
  /-- `CHECKIN` (R426): A write of WDG_CHECKIN checks in host slots. -/
  | checkin (a : Access) (w : BitVec 32)
  /-- `INTERNAL_CHECKIN` (R426): An internal source completes its condition and checks in its slot. -/
  | internalCheckin (code : BitVec 8)
  /-- `CLK_STOP` (R421): The monitor finds the watchdog clock in use stopped for 4 ms, and a watchdog reset follows at once. -/
  | clkStop
  /-- `CLK_MON` (R421): The monitor finds the other clock stopped, so MON_OTHER is set and CLK_MON is raised. -/
  | clkMon
  /-- `MON_OTHER_CLEAR` (R421): The other source runs 4 ms without a gap, and MON_OTHER clears. -/
  | monOtherClear
  /-- `LINK` (R437): A LINK frame is received, measuring the link delay and bringing the port up after three valid frames. -/
  | link (f : SwFrame) (rx : BitVec 48)
  /-- `LINK_SEND` (R437): Every 10 µs each port sends a LINK frame. -/
  | linkSend (west : Bool) (tTx tHold : BitVec 48)
  /-- `PORT_DOWN` (R437): 30 µs without a valid frame reports the Swarm port down. -/
  | portDown (west : Bool)
  /-- `ANNOUNCE` (R443): An ANNOUNCE frame updates reachability, hop counts, ring state and the queen and heir seen. -/
  | announce (f : SwFrame)
  /-- `ANNOUNCE_SEND` (R440): Every 1 ms and at each role change, the node broadcasts ANNOUNCE. -/
  | announceSend
  /-- `SHARE_FRAME` (R452): A SHARE frame is received, and each entry for a local member comb is delivered to its Forager as a SHARE record. -/
  | shareFrame (f : SwFrame) (dt : Nat)
  /-- `SHARE_COMPUTE` (R451): Every 20 µs the queen computes the targets of each group and broadcasts a SHARE frame. -/
  | shareCompute (dt : Nat)
  /-- `REPORT` (R450): A REPORT frame adds or removes roster members and refreshes their deficits. -/
  | report (f : SwFrame)
  /-- `REPORT_SEND` (R450): Every REP the node broadcasts a REPORT for its member combs. -/
  | reportSend
  /-- `REQ` (R454): A REQ frame is performed on the target's Swarm path and answered with RSP. -/
  | req (f : SwFrame)
  /-- `RSP` (R454): An RSP frame completes the outstanding remote words at the originating device. -/
  | rsp (f : SwFrame)
  /-- `RESET` (R455): A RESET frame from the bound Keeper node performs the Swarm-commanded reset, or is discarded. -/
  | resetFrame (f : SwFrame)
  /-- `GROUP_SET` (R451): A GROUP_SET frame changes a group's total in force, or forgets unreachable members. -/
  | groupSet (f : SwFrame)
  /-- `TIME` (R449): A TIME frame disciplines the node's swarm time by step or slew, and is forwarded with CORR updated. -/
  | timeFrame (f : SwFrame) (dt : Nat) (residence : BitVec 32)
  /-- `TIME_SEND` (R449): Every 250 µs the queen broadcasts TIME. -/
  | timeSend (dt : Nat)
  /-- `ADDRESS_ASSIGN` (R438): 3 ms after the first port comes up, an AUTO node takes the lowest free node number. -/
  | addressAssign
  /-- `ELECTION` (R446): After holding ANNOUNCE frames for 3 ms with no queen, the best-ranked eligible node declares itself queen. -/
  | election
  /-- `HEIR_TAKEOVER` (R447): With no queen frame for 100 µs, the heir becomes queen and continues the targets. -/
  | heirTakeover (dt : Nat)
  /-- `NODE_UNREACHABLE` (R443): A node's ANNOUNCE frames stop for 3 ms, so it becomes unreachable. -/
  | nodeUnreachable (west : Bool) (node : Fin 64)
  /-- `HOLDOVER` (R449): No TIME frame for 1 ms sets HOLDOVER. -/
  | holdover
  /-- `NO_QUEEN` (R446): A node with a share member and no queen for 10 ms raises NO_QUEEN. -/
  | noQueen
  /-- `REMOTE_ACCESS` (R454): An access to the Swarm remote window sends REQ frames to SW_RMT.TGT, or fails at once. -/
  | remoteAccess (a : Access) (addr : BitVec 20) (len : BitVec 8) (data : Option (List (BitVec 32)))
  /-- `REMOTE_TIMEOUT` (R454): An RSP that does not arrive within TIMEOUT fails its words with REASON 1. -/
  | remoteTimeout (path : Path)
  /-- `RESET_COMMAND` (R455): SW_CMD OP 1 within a Keeper session sends RESET to node TGT. -/
  | resetCommand (a : Access) (w : BitVec 32)
  /-- `GROUP_TOTAL_WRITE` (R451): A write of SW_GRP_TOTAL sends a GROUP_SET frame. -/
  | groupTotalWrite (a : Access) (w : BitVec 32)
  /-- `FORGET` (R450): A write of SW_GRP_SEL.FORGET sends a GROUP_SET frame with FORGET. -/
  | forget (a : Access) (w : BitVec 32)
  /-- `LOAD_START` (R465): A Keeper write of TBL_LD_CTL.START opens a table load. -/
  | loadStart (a : Access) (w : BitVec 32)
  /-- `LOAD_DATA` (R465): A write of TBL_LD_DATA header-checks the first word and writes each word into the partition, ending as DONE or OVERRUN. -/
  | loadData (a : Access) (w : BitVec 32)
  /-- `COPY` (R467): TBL_CMD COPY copies the active bank into the inactive bank. -/
  | copy (a : Access)
  /-- `COPY_DONE` (R467): The copy completes, and the inactive bank is LOADING. -/
  | copyDone
  /-- `ERASE` (R467): TBL_CMD ERASE zeroes the inactive bank. -/
  | erase (a : Access)
  /-- `ERASE_DONE` (R467): The erase completes, and the inactive bank is EMPTY. -/
  | eraseDone
  /-- `VERIFY` (R468): TBL_CMD VERIFY starts verification of the inactive bank. -/
  | verify (a : Access)
  /-- `VERIFY_DONE` (R468): Verification ends VERIFIED or FAILED, and EVT bit 2 is set. -/
  | verifyDone
  /-- `COMMIT` (R470): TBL_CMD COMMIT is refused, or sends the prepare request to every island. -/
  | commit (a : Access)
  /-- `BARRIER` (R470): Every island reports ready, so the active bank flips and GEN increments. -/
  | barrier
  /-- `COMMIT_TIMEOUT` (R470): Step 2 is not complete within 1 ms, so the commit is abandoned. -/
  | commitTimeout
  /-- `BARRIER_REGISTERED` (R471): An island registers the barrier and adopts the new bank. -/
  | barrierRegistered (i : Fin 53) (prepared : List (Fin 16 × Timing))
  /-- `RELEASED` (R472): No island reads the former bank, which becomes inactive and VERIFIED. -/
  | released
  /-- `RETIRE_TIMEOUT` (R472): The former bank is not released within 1 ms of the barrier. -/
  | retireTimeout
  /-- `IMG_CHECK` (R473): TBL_CMD IMG_CHECK validates the non-booted image slot. -/
  | imgCheck (a : Access)
  /-- `IMG_CHECK_DONE` (R473): The image check reports its result in TBL_IMG_STAT. -/
  | imgCheckDone
  /-- `PHASE_OUT` (R475): MAINT PHASE_OUT ramps a phase's share to zero, unless it is refused. -/
  | phaseOut (a : Access) (arg : BitVec 16)
  /-- `PHASE_AT_ZERO` (R475): The phase current lies within ZBAND, so RUN is cleared at the next mark. -/
  | phaseAtZero (p : Fin 16)
  /-- `PHASE_OUT_COMPLETE` (R476): The phase is at rest and the walks are complete, so it is out and DRAINED is set. -/
  | phaseOutComplete (p : Fin 16)
  /-- `PHASE_IN` (R477): MAINT PHASE_IN sets RUN, respaces the phases and ramps the share up. -/
  | phaseIn (a : Access) (arg : BitVec 16)
  /-- `COMB_DRAIN` (R478): MAINT COMB_DRAIN leaves the roster, ramps I_T to zero and takes every phase out. -/
  | combDrain (a : Access) (arg : BitVec 16)
  /-- `COMB_RESTORE` (R479): MAINT COMB_RESTORE returns the phases and rejoins the gang and roster. -/
  | combRestore (a : Access) (arg : BitVec 16)
  /-- `SENSOR_OUT` (R480): MAINT SENSOR_OUT treats the sensor as failed and substitutes it. -/
  | sensorOut (a : Access) (arg : BitVec 16)
  /-- `SENSOR_IN` (R480): MAINT SENSOR_IN returns the sensor under the 10 s sane rule. -/
  | sensorIn (a : Access) (arg : BitVec 16)
  /-- `PORT_HOLD` (R481): MAINT PORT_HOLD freezes the port's state and stages writes. -/
  | portHold (a : Access) (arg : BitVec 16)
  /-- `PORT_RELEASE` (R481): MAINT PORT_RELEASE applies the staged writes on one edge. -/
  | portRelease (a : Access) (arg : BitVec 16)
  /-- `CONV_OUT` (R482): MAINT CONV_OUT hands the converter's lane to the spare and withdraws it. -/
  | convOut (a : Access) (arg : BitVec 16)
  /-- `CONV_IN` (R482): MAINT CONV_IN calibrates the converter and makes it the spare. -/
  | convIn (a : Access) (arg : BitVec 16)
  /-- `DRAIN_TIMEOUT` (R483): A drain not complete in DRAIN_MAX returns the channel to service with RESULT 4. -/
  | drainTimeout (held : Option (Fin 48))
  /-- `CLOCK_RETURN` (R27): A lost island clock returns: frozen port timers and enable changes resume, due latched actions are applied, and the CLK_LOSS condition ends so its quiet period can start. -/
  | clockReturn (i : ClockIsland)
  /-- `GATE_DRIVER_INPUT_HIGH` (R134): DSATk_N or DUVk_N rises and has been high for its filter time, which ends HOLD_CAUSE 3 and the block on RUN. -/
  | gateDriverInputHigh (p : Fin 16) (duv : Bool)
  /-- `RST_N_QUALIFIED_HIGH` (R61): RST_N is qualified high, which ends the present assertion so that a later low can cause a new pin reset. -/
  | rstNQualifiedHigh
  /-- `RECEIVER_LOCK_LOST` (R437): A Swarm port receiver loses lock, and the port is reported down at once. -/
  | receiverLockLost (east : Bool)
  /-- `REFERENCE_VALIDITY_CHANGE` (R29): The reference monitor judges REFIN or the crystal newly valid or invalid while it is not the source in use, which updates XTAL_VALID or REFIN_VALID and starts or resets the 100 ms count of RET_READY. -/
  | referenceValidityChange (xtal valid : Bool)
  /-- `VSAFE5V` (R301): Connector VBUS reaches vSafe5V after Attached.SRC or SRC_ON, and PWR_ROLE becomes source with EVT bit 11 set. -/
  | vsafe5v (c : Fin 4)
  deriving DecidableEq, Repr

end Sys2Proof
end

