-- ==== Sys2Proof/Decode.lean ====
section
/-! DEFINITION. Commands as words: no row of the command table gives bits, so no word spells a command. -/

namespace Sys2Proof

/-- The command that a word of the table spells: the table gives no row any bits, so every word is rejected. -/
def decodeTableWord (_nbits _w : Nat) : Option Instr := none

end Sys2Proof
end

