-- ==== Sys2Proof/Word.lean ====
section
/-! DEFINITION. Plain arithmetic on the fields of registers (R4, R5): numbers in place of words. -/

namespace Sys2Proof

/-- The bits of `v` that `m` names, cleared. -/
def andNot (v m : Nat) : Nat := v ^^^ (v &&& m)

/-- The `len` bits of `v` from bit `lo` upwards (R4). -/
def slice (v lo len : Nat) : Nat := (v >>> lo) % 2 ^ len

/-- A field of `len` bits read as two's complement (R5). -/
def toSigned (len v : Nat) : Int :=
  if v < 2 ^ (len - 1) then (v : Int) else (v : Int) - 2 ^ len

/-- A number written to a field of `len` bits as two's complement (R5). -/
def ofSigned (len : Nat) (z : Int) : Nat := (z % 2 ^ len).toNat

/-- A number held within bounds. -/
def clampInt (lo hi z : Int) : Int := max lo (min hi z)

/-- The bit of a Boolean. -/
def bitOf (b : Bool) : Nat := if b then 1 else 0

/-- The indexes below `n` whose bit of `m` is set, in rising order. -/
def bitsOf (n m : Nat) : List Nat := (List.range n).filter (fun i => m.testBit i)

/-- How many of the low `n` bits of `m` are set. -/
def popCount (n m : Nat) : Nat := (bitsOf n m).length

/-- The integer square root by its bits, from bit `b - 1` downwards. -/
def isqrtFrom (n r : Nat) : Nat → Nat
  | 0 => r
  | b + 1 => isqrtFrom n (if (r + 2 ^ b) * (r + 2 ^ b) ≤ n then r + 2 ^ b else r) b

/-- The integer square root, rounded down, of a number below 2^256. -/
def isqrt (n : Nat) : Nat := isqrtFrom n 0 128

end Sys2Proof
end

