-- ==== Sys2Proof/Machine/Crc.lean ====
section
/-! DEFINITION. The cyclic redundancy checks of the device and the byte order of its frames (R65, R101, R103, R439). -/

namespace Sys2Proof.Machine

/-- One bit of the reflected CRC-32 of R65. -/
def crc32Bit (c : Nat) : Nat := if c % 2 = 1 then (c / 2) ^^^ 0xEDB88320 else c / 2

/-- One byte of it. -/
def crc32Byte (c : Nat) (b : BitVec 8) : Nat :=
  crc32Bit (crc32Bit (crc32Bit (crc32Bit (crc32Bit (crc32Bit (crc32Bit (crc32Bit (c ^^^ b.toNat))))))))

/-- The CRC-32 of IEEE 802.3 over a list of bytes (R65). -/
def crc32 (l : List (BitVec 8)) : Nat := l.foldl crc32Byte 0xFFFFFFFF ^^^ 0xFFFFFFFF

/-- One bit of the CRC-16 of R103. -/
def crc16Bit (c : Nat) : Nat := if 0x8000 ≤ c then (2 * c) % 65536 ^^^ 0x1021 else 2 * c

/-- One byte of it. -/
def crc16Byte (c : Nat) (b : BitVec 8) : Nat :=
  crc16Bit (crc16Bit (crc16Bit (crc16Bit (crc16Bit (crc16Bit (crc16Bit (crc16Bit (c ^^^ (b.toNat * 256)))))))))

/-- The CRC-16 of R103 continued over a list of bytes; it starts at 0xFFFF. -/
def crc16 (c : Nat) (l : List (BitVec 8)) : Nat := l.foldl crc16Byte c

/-- The `n` bytes of a number, most significant first. -/
def beBytes : Nat → Nat → List (BitVec 8)
  | 0, _ => []
  | n + 1, v => BitVec.ofNat 8 (v / 256 ^ n) :: beBytes n v

/-- The number that bytes spell, most significant first. -/
def beNat (l : List (BitVec 8)) : Nat := l.foldl (fun a b => a * 256 + b.toNat) 0

/-- The number in `n` bytes from offset `i` of a payload. -/
def field (l : List (BitVec 8)) (i n : Nat) : Nat := beNat ((l.drop i).take n)

end Sys2Proof.Machine
end

