-- ==== Sys2Proof/Machine/Store.lean ====
section
/-! DEFINITION. The sparse stores of the state: lists of a number and a value in one canonical form,
with the value that an unlisted number reads as given once by the caller. -/

namespace Sys2Proof.Machine

/-- Read: the listed value, or `d` where nothing is listed. -/
def Sparse.look {α : Type} (d : α) : List (Nat × α) → Nat → α
  | [], _ => d
  | (k, v) :: t, a => if a = k then v else Sparse.look d t a

/-- Remove every entry of `a`. -/
def Sparse.erase {α : Type} (l : List (Nat × α)) (a : Nat) : List (Nat × α) :=
  l.filter (fun p => p.1 != a)

/-- Insert before the first greater number. -/
def Sparse.insert {α : Type} : List (Nat × α) → Nat → α → List (Nat × α)
  | [], a, v => [(a, v)]
  | (k, w) :: t, a, v => if a < k then (a, v) :: (k, w) :: t else (k, w) :: Sparse.insert t a v

/-- Write: writing what an unlisted number reads as removes the entry. -/
def Sparse.set {α : Type} [DecidableEq α] (d : α) (l : List (Nat × α)) (a : Nat) (v : α) :
    List (Nat × α) :=
  if v = d then Sparse.erase l a else Sparse.insert (Sparse.erase l a) a v

/-- Keep the entries whose number satisfies `p`: every other number reads as `d` again. -/
def Sparse.keep {α : Type} (p : Nat → Bool) (l : List (Nat × α)) : List (Nat × α) :=
  l.filter (fun e => p e.1)

/-- The numbers rise strictly from `lo` upwards and no listed value is `d`. -/
def Sparse.wfFrom {α : Type} [DecidableEq α] (d : α) : Nat → List (Nat × α) → Bool
  | _, [] => true
  | lo, (k, v) :: t => decide (lo ≤ k) && decide (v ≠ d) && Sparse.wfFrom d (k + 1) t

/-- The canonical form of a sparse store. -/
def Sparse.wf {α : Type} [DecidableEq α] (d : α) (l : List (Nat × α)) : Bool := Sparse.wfFrom d 0 l

/-- A field of a register or of the internal state: the register it stands in, its lowest bit, its
width and its reset value (R4, R5, R7). -/
structure Fld where
  key : Nat
  lo : Nat
  len : Nat
  rst : Nat
  deriving DecidableEq, Repr

/-- The number under which the field store lists a field. -/
def Fld.id (f : Fld) : Nat := f.key * 32 + f.lo

end Sys2Proof.Machine
end

