-- ==== Sys2Proof/Machine/Inner.lean ====
section
/-! DEFINITION. State that the spec gives the block without a register address: pins, latches, timers,
counters and phases of a sequence. Each is a field of the same store as the registers, at a key above
every register's. -/

namespace Sys2Proof.Machine

namespace Pin
/-- level of the KEEPER_EN ball (R41 R92). -/
abbrev KEEPER_EN : Fld := ⟨0x1000000, 0, 1, 0⟩
/-- level that the device drives at CORE_EN (R57). -/
abbrev CORE_EN : Fld := ⟨0x1010000, 0, 1, 0⟩
/-- RST_N has been qualified low and not yet qualified high again (R61). -/
abbrev RST_LOW : Fld := ⟨0x1020000, 0, 1, 0⟩
/-- the present assertion of RST_N has caused its reset (R61). -/
abbrev RST_USED : Fld := ⟨0x1030000, 0, 1, 0⟩
/-- the present assertion of RST_N has been counted in PIN_REFUSED (R61). -/
abbrev RST_COUNTED : Fld := ⟨0x1040000, 0, 1, 0⟩
/-- level of the HRDY ball (R105). -/
abbrev HRDY : Fld := ⟨0x1050000, 0, 1, 0⟩
/-- bit t set while INTt_N is driven low (R41). -/
abbrev INTN : Fld := ⟨0x1060000, 0, 4, 0⟩
/-- lamp ball n is held released after an overload (R228 R398). -/
abbrev LAMP (n : Nat) : Fld := ⟨0x1070000 + n, 0, 1, 0⟩
end Pin

namespace Pwr
/-- the pre-regulator runs (R45). -/
abbrev PREREG : Fld := ⟨0x1080000, 0, 1, 1⟩
/-- the OR elements conduct as ideal diodes (R45). -/
abbrev IDEAL : Fld := ⟨0x1090000, 0, 1, 1⟩
/-- the I/O rail is carried by VDDIO (R47). -/
abbrev IO_VDDIO : Fld := ⟨0x10A0000, 0, 1, 0⟩
/-- core domains that draw from VDDC: bit 0 the hive, bit 1 + c comb c (R48). -/
abbrev VDDC_DOM : Fld := ⟨0x10B0000, 0, 5, 0⟩
/-- VDDC has met its validity condition since CORE_EN rose (R48 R58). -/
abbrev VDDC_OK : Fld := ⟨0x10C0000, 0, 1, 0⟩
end Pwr

namespace Boot
/-- the internal reset is held (R60). -/
abbrev HELD : Fld := ⟨0x10D0000, 0, 1, 0⟩
/-- power-on reset is asserted (R55). -/
abbrev POR : Fld := ⟨0x10E0000, 0, 1, 0⟩
/-- reset triggers registered since the first, bit CAUSE code - 1 (R60). -/
abbrev TRIGS : Fld := ⟨0x10F0000, 0, 6, 0⟩
/-- the last step of START-UP that has been done (R68). -/
abbrev STEP : Fld := ⟨0x1100000, 0, 3, 0⟩
/-- the hive PLL has locked and the paths are served (R68). -/
abbrev PLL : Fld := ⟨0x1110000, 0, 1, 0⟩
/-- the claim held: 0 none, 1 counted, 2 a hand-over (R69). -/
abbrev CLAIM : Fld := ⟨0x1120000, 0, 2, 0⟩
/-- the claim window has ended (R68). -/
abbrev WINDOW : Fld := ⟨0x1130000, 0, 1, 0⟩
/-- a claim proceeds and awaits the release of the combs (R69). -/
abbrev RELEASE : Fld := ⟨0x1140000, 0, 1, 0⟩
/-- the always-on domain recorded the loss of the hive clock (R395). -/
abbrev REC_HIVE : Fld := ⟨0x1150000, 0, 1, 0⟩
/-- the always-on domain recorded the loss of VDDC (R395). -/
abbrev REC_VDDC : Fld := ⟨0x1160000, 0, 1, 0⟩
/-- no watchdog failure since the present boot entered service (R67). -/
abbrev STABLE : Fld := ⟨0x1170000, 0, 1, 0⟩
end Boot

namespace Sleep
/-- 0 awake, 1 entering hive-sleep, 2 in hive-sleep, 3 waking (R76 R78). -/
abbrev STATE : Fld := ⟨0x1180000, 0, 2, 0⟩
/-- wake sources registered and not yet recorded (R77 R78). -/
abbrev PEND : Fld := ⟨0x1190000, 0, 12, 0⟩
/-- milliseconds since step 5 of hive-sleep entry (R78). -/
abbrev TIMER : Fld := ⟨0x11A0000, 0, 34, 0⟩
/-- ERR_N as the always-on domain holds it in hive-sleep: 1 driven low (R392). -/
abbrev ERR : Fld := ⟨0x11B0000, 0, 1, 0⟩
end Sleep

namespace Dev
/-- time since power-on, LSB 1 ms, as the fault log records it (R394). -/
abbrev TIME : Fld := ⟨0x11C0000, 0, 32, 0⟩
/-- how many free values the model has drawn; the model's own counter, not the spec's (model). -/
abbrev FREE : Fld := ⟨0x11D0000, 0, 32, 0⟩
end Dev

namespace Clk
/-- clock of the island of this index is lost (R27). -/
abbrev LOST (i : Nat) : Fld := ⟨0x11E0000 + i, 0, 1, 0⟩
/-- reference 0 REFIN or 1 the crystal is judged valid (R29). -/
abbrev REF_VALID (i : Nat) : Fld := ⟨0x11F0000 + i, 0, 1, 0⟩
/-- milliseconds for which reference i has been valid continuously, to 100 (R29). -/
abbrev READY_T (i : Nat) : Fld := ⟨0x1200000 + i, 0, 7, 0⟩
end Clk

namespace Err
/-- ERR_N is held low until the first evaluation of all blocks (R41 R392). -/
abbrev HOLD : Fld := ⟨0x1210000, 0, 1, 1⟩
end Err

namespace Flt
/-- the class at which cause 16 + i of page n stands, 0 none (R384). -/
abbrev STAND (n i : Nat) : Fld := ⟨0x1220000 + n * 256 + i, 0, 3, 0⟩
/-- causes of the page whose detecting condition holds (R384). -/
abbrev PRESENT (n : Nat) : Fld := ⟨0x1230000 + n, 0, 16, 0⟩
/-- classes of the page that are active and unacknowledged (R386). -/
abbrev UNACK (n : Nat) : Fld := ⟨0x1240000 + n, 0, 4, 0⟩
/-- classes of the page whose reaction timer runs (R386). -/
abbrev TIMER (n : Nat) : Fld := ⟨0x1250000 + n, 0, 4, 0⟩
/-- classes of the page whose quiet period runs (R389). -/
abbrev QUIET (n : Nat) : Fld := ⟨0x1260000 + n, 0, 4, 0⟩
/-- events counted in the present second for the burst causes of the page (R398 R356). -/
abbrev BURST (n : Nat) : Fld := ⟨0x1270000 + n, 0, 16, 0⟩
end Flt

namespace Ses
/-- the pin session is open (R92). -/
abbrev PIN : Fld := ⟨0x1280000, 0, 1, 0⟩
/-- the code session of path i is open (R92). -/
abbrev CODE (i : Nat) : Fld := ⟨0x1290000 + i, 0, 1, 0⟩
/-- the node address to which the Swarm path's code session is bound (R92). -/
abbrev NODE : Fld := ⟨0x12A0000, 0, 16, 0⟩
/-- milliseconds since the last Keeper-view access of path i (R94). -/
abbrev IDLE_T (i : Nat) : Fld := ⟨0x12B0000 + i, 0, 32, 0⟩
/-- milliseconds of lockout remaining (R93). -/
abbrev LOCK_T : Fld := ⟨0x12C0000, 0, 16, 0⟩
end Ses

namespace Ph
/-- period counter of the timebase (R120). -/
abbrev PERCNT (n : Nat) : Fld := ⟨0x12D0000 + n, 0, 8, 0⟩
/-- RUN has been cleared and the issued period has not yet ended (R130). -/
abbrev ENDRUN (n : Nat) : Fld := ⟨0x12E0000 + n, 0, 1, 0⟩
/-- the next slot write sets the sequence (R124). -/
abbrev SEQANY (n : Nat) : Fld := ⟨0x12F0000 + n, 0, 1, 1⟩
/-- consecutive underrun periods, to 64 (R140). -/
abbrev UNDER_RUN (n : Nat) : Fld := ⟨0x1300000 + n, 0, 7, 0⟩
/-- PLAN_STARVED has been raised in the present run of underruns (R140). -/
abbrev STARVED (n : Nat) : Fld := ⟨0x1310000 + n, 0, 1, 0⟩
/-- consecutive limited periods, to 256 (R133). -/
abbrev CBC_RUN (n : Nat) : Fld := ⟨0x1320000 + n, 0, 9, 0⟩
/-- CBC_PERSIST has been raised in the present run of limited periods (R133). -/
abbrev CBC_SAID (n : Nat) : Fld := ⟨0x1330000 + n, 0, 1, 0⟩
/-- consecutive periods with SP0 clipped, to 8 (R137). -/
abbrev SAT_RUN (n : Nat) : Fld := ⟨0x1340000 + n, 0, 4, 0⟩
/-- SNS_SAT has been raised in the present run of clipped periods (R137). -/
abbrev SAT_SAID (n : Nat) : Fld := ⟨0x1350000 + n, 0, 1, 0⟩
/-- the next issue sets EVT bit 6 (R131). -/
abbrev RESTART (n : Nat) : Fld := ⟨0x1360000 + n, 0, 1, 0⟩
/-- filtered gate-driver inputs asserted: bit 0 DSATk_N, bit 1 DUVk_N (R134). -/
abbrev GD (n : Nat) : Fld := ⟨0x1370000 + n, 0, 2, 0⟩
/-- a FW_TIMEOUT hold lasts until C4 ends (R130). -/
abbrev FWT (n : Nat) : Fld := ⟨0x1380000 + n, 0, 1, 0⟩
/-- gate commands of the hold state: bit 0 AH, 1 AL, 2 BH, 3 BL (R119 R129). -/
abbrev GATES (n : Nat) : Fld := ⟨0x1390000 + n, 0, 4, 0⟩
/-- comparators that have tripped in the present period: bit 0 positive, bit 1 negative (R132). -/
abbrev CUT (n : Nat) : Fld := ⟨0x13A0000 + n, 0, 2, 0⟩
/-- free-running period in force, LSB one tap (R121). -/
abbrev PER (n : Nat) : Fld := ⟨0x13B0000 + n, 0, 17, 51200⟩
/-- offset after the mark at which the next period starts, LSB one tap (R121 R122). -/
abbrev OFS (n : Nat) : Fld := ⟨0x13C0000 + n, 0, 17, 0⟩
/-- the phase is in PD duty (R287). -/
abbrev DUTY (n : Nat) : Fld := ⟨0x13D0000 + n, 0, 1, 0⟩
end Ph

namespace Port
/-- latest port current, two's complement, LSB 10 mA (R257). -/
abbrev I (n : Nat) : Fld := ⟨0x13E0000 + n, 0, 32, 0⟩
/-- latest Pnn_VS, or the connector voltage of a PD port, LSB 10 mV (R257). -/
abbrev VS (n : Nat) : Fld := ⟨0x13F0000 + n, 0, 16, 0⟩
/-- EN = 0 has been registered since the trip (R272). -/
abbrev OFFSEEN (n : Nat) : Fld := ⟨0x1400000 + n, 0, 1, 0⟩
/-- the arbiter or the engine commands the pair on (R276 R277). -/
abbrev CMD (n : Nat) : Fld := ⟨0x1410000 + n, 0, 1, 0⟩
/-- milliseconds of the insertion delay that have passed (R264). -/
abbrev INS_T (n : Nat) : Fld := ⟨0x1420000 + n, 0, 16, 0⟩
/-- the scheduled start includes pre-charge (R268). -/
abbrev PCG (n : Nat) : Fld := ⟨0x1430000 + n, 0, 1, 0⟩
/-- a FEEDER_MAIN record stands for the scheduled start (R268). -/
abbrev MAIN (n : Nat) : Fld := ⟨0x1440000 + n, 0, 1, 0⟩
/-- the START of FEEDER_MAIN passed with pre-charge running (R268). -/
abbrev PCG_OVER (n : Nat) : Fld := ⟨0x1450000 + n, 0, 1, 0⟩
/-- pre-charge of the present start has ended (R265). -/
abbrev PCG_DONE (n : Nat) : Fld := ⟨0x1460000 + n, 0, 1, 0⟩
/-- fault timer: 0 at rest, 1 counting up, 2 counting down (R270). -/
abbrev FT (n : Nat) : Fld := ⟨0x1470000 + n, 0, 2, 0⟩
/-- the PG delay runs (R267). -/
abbrev PG_RUN (n : Nat) : Fld := ⟨0x1480000 + n, 0, 1, 0⟩
/-- an over-voltage pull-down stands until the window is inside (R260). -/
abbrev PULLED (n : Nat) : Fld := ⟨0x1490000 + n, 0, 1, 0⟩
/-- the present turn-off was commanded by the arbiter (R186 R269). -/
abbrev OFF_CMD (n : Nat) : Fld := ⟨0x14A0000 + n, 0, 1, 0⟩
/-- the pair was opened by REVERSE (R278). -/
abbrev REV_OPEN (n : Nat) : Fld := ⟨0x14B0000 + n, 0, 1, 0⟩
/-- an enable change frozen by the loss of the clock: 0 none, 2 EN = 0, 3 EN = 1 (R27). -/
abbrev EN_PEND (n : Nat) : Fld := ⟨0x14C0000 + n, 0, 2, 0⟩
/-- classes of the page whose action waits for the clock (R279). -/
abbrev ACT_PEND (n : Nat) : Fld := ⟨0x14D0000 + n, 0, 4, 0⟩
/-- a PORT_FET shutdown holds the port off (R280). -/
abbrev HOT (n : Nat) : Fld := ⟨0x14E0000 + n, 0, 1, 0⟩
/-- stage excess dT[i], two's complement, LSB 1 microkelvin (R274). -/
abbrev DT (n i : Nat) : Fld := ⟨0x14F0000 + n * 256 + i, 0, 48, 0⟩
/-- model parameter i that the island holds, in the order of the table of R274 (R275). -/
abbrev PAR (n i : Nat) : Fld := ⟨0x1500000 + n * 256 + i, 0, 32, 0⟩
/-- the model parameters held come from a valid table (R274). -/
abbrev PAR_OK (n : Nat) : Fld := ⟨0x1510000 + n, 0, 1, 0⟩
/-- model input i is stale: 0 current, 1 V_DS, 2 T_AMB, 3 remote diode (R275). -/
abbrev STALE (n i : Nat) : Fld := ⟨0x1520000 + n * 256 + i, 0, 1, 0⟩
/-- latest ambient reference, two's complement, LSB 0.1 degree (R274). -/
abbrev AMB (n : Nat) : Fld := ⟨0x1530000 + n, 0, 16, 0⟩
/-- latest remote-diode reading, two's complement, LSB 0.1 degree (R274). -/
abbrev DIODE_T (n : Nat) : Fld := ⟨0x1540000 + n, 0, 16, 0⟩
/-- the remote-diode reading is valid (R274). -/
abbrev DIODE_OK (n : Nat) : Fld := ⟨0x1550000 + n, 0, 1, 0⟩
/-- gate transitions since the last model step (R274). -/
abbrev TRANS (n : Nat) : Fld := ⟨0x1560000 + n, 0, 8, 0⟩
end Port

namespace Pd
/-- VBUS reference, LSB 1 mV (R292). -/
abbrev REF (n : Nat) : Fld := ⟨0x1570000 + n, 0, 16, 0⟩
/-- transition: 0 none, 1 waiting for DLY, 2 moving, 3 waiting for the armed GoodCRC (R293). -/
abbrev TR (n : Nat) : Fld := ⟨0x1580000 + n, 0, 2, 0⟩
/-- the port requests PD duty (R287). -/
abbrev REQ (n : Nat) : Fld := ⟨0x1590000 + n, 0, 1, 0⟩
/-- the CC pins are isolated (R299). -/
abbrev CC_OFF (n : Nat) : Fld := ⟨0x15A0000 + n, 0, 1, 0⟩
/-- VCONN is applied (R289). -/
abbrev VCONN (n : Nat) : Fld := ⟨0x15B0000 + n, 0, 1, 0⟩
/-- CBc_P11_DIS sinks (R293 R303). -/
abbrev DIS (n : Nat) : Fld := ⟨0x15C0000 + n, 0, 1, 0⟩
/-- Rp is presented (R289). -/
abbrev RP (n : Nat) : Fld := ⟨0x15D0000 + n, 0, 1, 0⟩
/-- Rd is presented (R290). -/
abbrev RD (n : Nat) : Fld := ⟨0x15E0000 + n, 0, 1, 1⟩
/-- transmitter: 0 idle, 1 a message awaits GoodCRC (R294). -/
abbrev TX (n : Nat) : Fld := ⟨0x15F0000 + n, 0, 2, 0⟩
/-- retries made of the present message (R294). -/
abbrev RETRY (n : Nat) : Fld := ⟨0x1600000 + n, 0, 2, 0⟩
/-- MessageID of the last message received of SOP type i, plus 1; 0 none (R294). -/
abbrev MSGID (n i : Nat) : Fld := ⟨0x1610000 + n * 256 + i, 0, 4, 0⟩
/-- Hard Reset sequence as source: 0 none, 1 before the drop, 2 at 0 V, 3 rising (R296). -/
abbrev HR (n : Nat) : Fld := ⟨0x1620000 + n, 0, 2, 0⟩
/-- turning from source to sink at vSafe0V: 0 no, 1 by SRC_OFF, 2 by an abandoned swap (R301 R302). -/
abbrev SRCOFF (n : Nat) : Fld := ⟨0x1630000 + n, 0, 2, 0⟩
/-- the Fast Role Swap signal has been seen (R297). -/
abbrev FRS (n : Nat) : Fld := ⟨0x1640000 + n, 0, 1, 0⟩
/-- EN has been written 0 since the protective latch (R300). -/
abbrev LATCH_OFF (n : Nat) : Fld := ⟨0x1650000 + n, 0, 1, 0⟩
/-- the port runs sink-only for DUTY_FAIL (R306). -/
abbrev SINK_ONLY (n : Nat) : Fld := ⟨0x1660000 + n, 0, 1, 0⟩
/-- AMP still to be announced of the present ramp, two's complement (R293). -/
abbrev AMP_LEFT (n : Nat) : Fld := ⟨0x1670000 + n, 0, 32, 0⟩
/-- duration still to be announced, LSB 10 microseconds (R293). -/
abbrev TIME_LEFT (n : Nat) : Fld := ⟨0x1680000 + n, 0, 24, 0⟩
/-- bytes of the head message already read (R295). -/
abbrev RX_AT (n : Nat) : Fld := ⟨0x1690000 + n, 0, 9, 0⟩
end Pd

namespace Comb
/-- latest system-bus voltage, LSB 10 mV (R257). -/
abbrev VSYS (n : Nat) : Fld := ⟨0x16A0000 + n, 0, 16, 0⟩
/-- latest battery-bus voltage, LSB 10 mV (R257). -/
abbrev VBB (n : Nat) : Fld := ⟨0x16B0000 + n, 0, 16, 0⟩
end Comb

namespace Pd
/-- time of the i-th latest protective response, LSB 1 ms, plus 1; 0 none (R300). -/
abbrev TRIP_T (n i : Nat) : Fld := ⟨0x16C0000 + n * 256 + i, 0, 33, 0⟩
end Pd

namespace Hks
/-- no valid sequence table stands, so the built-in set is in force (R320). -/
abbrev TABLE_BAD : Fld := ⟨0x16D0000, 0, 1, 1⟩
end Hks

namespace Ph
/-- outcome of the issue decision for the coming period: 0 none, 1 issued, 2 underrun (R124). -/
abbrev NEXT (n : Nat) : Fld := ⟨0x16E0000 + n, 0, 2, 0⟩
end Ph

namespace Comb
/-- period of the comb mark in force, LSB one tap (R121 R169). -/
abbrev PER (n : Nat) : Fld := ⟨0x16F0000 + n, 0, 17, 51200⟩
/-- marks until a period written is in force (R169). -/
abbrev PERWAIT (n : Nat) : Fld := ⟨0x1700000 + n, 0, 2, 0⟩
/-- mark periods counted in the present bucket (R160). -/
abbrev MARKN (n : Nat) : Fld := ⟨0x1710000 + n, 0, 12, 0⟩
/-- squashes caused by misses in bucket i, 0 the present one (R160). -/
abbrev BUCKET (n i : Nat) : Fld := ⟨0x1720000 + n * 256 + i, 0, 16, 0⟩
end Comb

namespace Ph
/-- latest corrected result of sample point i, two's complement (R136). -/
abbrev SPV (n i : Nat) : Fld := ⟨0x1730000 + n * 256 + i, 0, 29, 0⟩
/-- that result is clipped (R137). -/
abbrev SPC (n i : Nat) : Fld := ⟨0x1740000 + n * 256 + i, 0, 1, 0⟩
end Ph

namespace Pd
/-- PD limit in force, LSB 10 mA (R191 R291). -/
abbrev LIM (n : Nat) : Fld := ⟨0x1750000 + n, 0, 16, 150⟩
end Pd

namespace Ph
/-- working coefficient i of phase n: 0 inductance, 1 winding resistance, 2 shunt (R149). -/
abbrev COEF (n i : Nat) : Fld := ⟨0x1760000 + n * 256 + i, 0, 32, 0⟩
/-- checkpoint: INDEX of the entry last confirmed (R155). -/
abbrev CP_IDX (n : Nat) : Fld := ⟨0x1770000 + n, 0, 8, 0⟩
/-- checkpoint: on-time i of that entry, in the order AH, AL, BH, BL (R155). -/
abbrev CP_ON (n i : Nat) : Fld := ⟨0x1780000 + n * 256 + i, 0, 17, 0⟩
/-- checkpoint: measured C, two's complement (R155). -/
abbrev CP_C (n : Nat) : Fld := ⟨0x1790000 + n, 0, 29, 0⟩
/-- checkpoint: tag of the measured C (R155). -/
abbrev CP_TAG (n : Nat) : Fld := ⟨0x17A0000 + n, 0, 16, 0⟩
/-- checkpoint: model inductor current, two's complement, C units (R155). -/
abbrev CP_I (n : Nat) : Fld := ⟨0x17B0000 + n, 0, 29, 0⟩
/-- checkpoint: integrator of the set-point loop, two's complement, LSB 10 mA / 256 (R155). -/
abbrev CP_INT (n : Nat) : Fld := ⟨0x17C0000 + n, 0, 32, 0⟩
/-- checkpoint: coefficient epoch (R155). -/
abbrev CP_EPOCH (n : Nat) : Fld := ⟨0x17D0000 + n, 0, 16, 0⟩
/-- checkpoint: generation (R155). -/
abbrev CP_GEN (n : Nat) : Fld := ⟨0x17E0000 + n, 0, 1, 0⟩
end Ph

namespace Comb
/-- coefficient recomputations, modulo 2^16 (R149 R155). -/
abbrev EPOCH (n : Nat) : Fld := ⟨0x17F0000 + n, 0, 16, 0⟩
/-- working coefficient i of the comb's bus: 0 C_SYS, 1 C_BB (R149). -/
abbrev COEF (n i : Nat) : Fld := ⟨0x1800000 + n * 256 + i, 0, 32, 0⟩
/-- a valid model table stands under the present selection (R148 R149). -/
abbrev MODEL_OK (n : Nat) : Fld := ⟨0x1810000 + n, 0, 1, 0⟩
/-- modelled capacitor voltage of bus i, 0 system and 1 battery, two's complement, LSB 1 microvolt (R503). -/
abbrev VC (n i : Nat) : Fld := ⟨0x1820000 + n * 256 + i, 0, 48, 0⟩
/-- residual load estimate of bus i, two's complement, LSB 10 mA (R155 R503). -/
abbrev IRES (n i : Nat) : Fld := ⟨0x1830000 + n * 256 + i, 0, 32, 0⟩
/-- mark periods since the previous set checkpoint (R503). -/
abbrev SINCE (n : Nat) : Fld := ⟨0x1840000 + n, 0, 16, 0⟩
/-- set checkpoint value i: 0 and 1 modelled VSYS and VBB, 2 and 3 housekeeping VSYS and VBB, 4 and 5 their tags, 6 and 7 residual load, 8 current target, 9 share target, 10 queued records folded in, 11 mark count (R155). -/
abbrev CP (n i : Nat) : Fld := ⟨0x1850000 + n * 256 + i, 0, 48, 0⟩
/-- tag of the latest VSYS (0) or VBB (1) (R155 R352). -/
abbrev TAGV (n i : Nat) : Fld := ⟨0x1860000 + n * 256 + i, 0, 16, 0⟩
/-- share target in force, two's complement, LSB 10 mA (R198). -/
abbrev SHARE_TGT (n : Nat) : Fld := ⟨0x1870000 + n, 0, 16, 0⟩
/-- a share target bounds the set (constraint 6) (R198). -/
abbrev SHARE_ON (n : Nat) : Fld := ⟨0x1880000 + n, 0, 1, 0⟩
/-- integrator of loop constraint i + 1, two's complement, LSB 10 mA / 256 (R180). -/
abbrev INTEG (n i : Nat) : Fld := ⟨0x1890000 + n * 256 + i, 0, 32, 0⟩
end Comb

namespace Tag
/-- tag errors registered in the present second (R356). -/
abbrev SEC : Fld := ⟨0x18A0000, 0, 16, 0⟩
end Tag

namespace Mem
/-- corrected errors in the present pass of the scrubber of memory n (R359). -/
abbrev PASS_CE (n : Nat) : Fld := ⟨0x18B0000 + n, 0, 16, 0⟩
end Mem

namespace Port
/-- a gate pull-down has started and V_GS has not reached off (R269). -/
abbrev FALL (n : Nat) : Fld := ⟨0x18C0000 + n, 0, 1, 0⟩
/-- the port is held by PORT_HOLD (R481). -/
abbrev HELD (n : Nat) : Fld := ⟨0x18D0000 + n, 0, 1, 0⟩
/-- the analog short-circuit pull-down has acted and its latch awaits the clock (R27 R271). -/
abbrev SHORT_PEND (n : Nat) : Fld := ⟨0x18E0000 + n, 0, 1, 0⟩
/-- the gate had not reached full enhancement when the limit amplifier took it (R266 R270). -/
abbrev ENH (n : Nat) : Fld := ⟨0x18F0000 + n, 0, 1, 0⟩
end Port

namespace Arb
/-- changeover in progress: 0 none, 1 waiting for LEAD, 2 waiting for the off report, 3 in the gap, 4 on command given (R184 R185). -/
abbrev CHG (n : Nat) : Fld := ⟨0x1900000 + n, 0, 3, 0⟩
end Arb

namespace Pd
/-- SRC_ON runs until vSafe5V (R301). -/
abbrev SRCON (n : Nat) : Fld := ⟨0x1910000 + n, 0, 1, 0⟩
/-- AMP_total of the ramp announced, two's complement (R293). -/
abbrev AMP_TOT (n : Nat) : Fld := ⟨0x1920000 + n, 0, 32, 0⟩
/-- duration of the ramp announced, LSB 10 microseconds (R293). -/
abbrev TIME_TOT (n : Nat) : Fld := ⟨0x1930000 + n, 0, 24, 0⟩
end Pd

namespace Arb
/-- a planned changeover is due and waits (R185). -/
abbrev DUE (n : Nat) : Fld := ⟨0x1940000 + n, 0, 1, 0⟩
/-- supplement_held (R179 R192). -/
abbrev SUPHELD (n : Nat) : Fld := ⟨0x1950000 + n, 0, 1, 0⟩
/-- consecutive evaluations that ask for supplement (R192). -/
abbrev SUPCNT (n : Nat) : Fld := ⟨0x1960000 + n, 0, 2, 0⟩
/-- ramp value of the draw limit, LSB 10 mA / 65536 (R188). -/
abbrev RAMPV (n : Nat) : Fld := ⟨0x1970000 + n, 0, 32, 0⟩
/-- ramp still to be announced, LSB 10 microseconds (R188). -/
abbrev BUD_LEFT (n : Nat) : Fld := ⟨0x1980000 + n, 0, 24, 0⟩
/-- AMP of the ramp's end, two's complement (R188). -/
abbrev BUD_AMP (n : Nat) : Fld := ⟨0x1990000 + n, 0, 16, 0⟩
/-- a PD cut is pending (R191). -/
abbrev PD_CUT (n : Nat) : Fld := ⟨0x19A0000 + n, 0, 1, 0⟩
/-- the PD limit to be enforced, LSB 10 mA (R191). -/
abbrev PD_NEW (n : Nat) : Fld := ⟨0x19B0000 + n, 0, 16, 0⟩
/-- a needed quantity is stale (R177). -/
abbrev STALE (n : Nat) : Fld := ⟨0x19C0000 + n, 0, 1, 0⟩
/-- the staleness has lasted 10 ms (R177). -/
abbrev STALE_RAMP (n : Nat) : Fld := ⟨0x19D0000 + n, 0, 1, 0⟩
/-- the battery has become unusable and not yet usable again (R178). -/
abbrev UNUS (n : Nat) : Fld := ⟨0x19E0000 + n, 0, 1, 0⟩
/-- I_T ramps to 0 after the cut-off (R194). -/
abbrev CUTRAMP (n : Nat) : Fld := ⟨0x19F0000 + n, 0, 1, 0⟩
/-- constraint 6 is being ramped out (R198). -/
abbrev SHARE_OUT (n : Nat) : Fld := ⟨0x1A00000 + n, 0, 1, 0⟩
/-- fraction of 10 mA / 256 that the ramps of I_T have still to move, LSB 1/256 (R177 R194). -/
abbrev FRAC (n : Nat) : Fld := ⟨0x1A10000 + n, 0, 16, 0⟩
/-- mode that the comb requires of its gang (R197). -/
abbrev REQ_MODE (n : Nat) : Fld := ⟨0x1A20000 + n, 0, 3, 0⟩
/-- lowest upper bound of the comb per pool phase, two's complement, LSB 10 mA / 256 (R197). -/
abbrev PERPH (n : Nat) : Fld := ⟨0x1A30000 + n, 0, 32, 0⟩
/-- per-phase value in force in the gang, two's complement, LSB 10 mA / 256 (R197). -/
abbrev GANG_PER (n : Nat) : Fld := ⟨0x1A40000 + n, 0, 32, 0⟩
/-- mode of the gang (R197). -/
abbrev GANG_MODE (n : Nat) : Fld := ⟨0x1A50000 + n, 0, 3, 0⟩
end Arb

namespace Port
/-- latest port current accepted in the comb's Forager, two's complement, LSB 10 mA (R176 R325). -/
abbrev IF (n : Nat) : Fld := ⟨0x1A60000 + n, 0, 32, 0⟩
end Port

namespace Acc
/-- accumulator i takes no samples until its CFG or CLR is written (R331). -/
abbrev STOP (i : Nat) : Fld := ⟨0x1A70000 + i, 0, 1, 0⟩
/-- claim of accumulator i: 0 none, else 16 + 4 x (impedance channel) + place from BASE (R331). -/
abbrev CLAIM (i : Nat) : Fld := ⟨0x1A80000 + i, 0, 7, 0⟩
/-- a test-DAC sample has entered the sums since the clear (R346). -/
abbrev TESTED (i : Nat) : Fld := ⟨0x1A90000 + i, 0, 1, 0⟩
/-- SUM at the block boundary, two's complement (R330). -/
abbrev BSUM (i : Nat) : Fld := ⟨0x1AA0000 + i, 0, 64, 0⟩
/-- CNT at the block boundary (R330). -/
abbrev BCNT (i : Nat) : Fld := ⟨0x1AB0000 + i, 0, 64, 0⟩
/-- sum advance of the block that has ended, two's complement (R330). -/
abbrev DS (i : Nat) : Fld := ⟨0x1AC0000 + i, 0, 64, 0⟩
/-- that advance awaits its comparison (R330). -/
abbrev DUE (i : Nat) : Fld := ⟨0x1AD0000 + i, 0, 1, 0⟩
end Acc

namespace Mmt
/-- MIN of tracker i holds a test-DAC sample (R346). -/
abbrev TESTMIN (i : Nat) : Fld := ⟨0x1AE0000 + i, 0, 1, 0⟩
/-- MAX of tracker i holds a test-DAC sample (R346). -/
abbrev TESTMAX (i : Nat) : Fld := ⟨0x1AF0000 + i, 0, 1, 0⟩
end Mmt

namespace Lane
/-- a conversion runs on lane i (R313). -/
abbrev BUSY (i : Nat) : Fld := ⟨0x1B00000 + i, 0, 1, 0⟩
/-- its input (R313). -/
abbrev IN (i : Nat) : Fld := ⟨0x1B10000 + i, 0, 8, 0⟩
/-- its converter (R313). -/
abbrev CONV (i : Nat) : Fld := ⟨0x1B20000 + i, 0, 3, 0⟩
/-- its kind: 0 sequence step, 1 built-in set, 2 recovery, 3 impedance pair, 4 urgent request (R322). -/
abbrev KIND (i : Nat) : Fld := ⟨0x1B30000 + i, 0, 3, 0⟩
/-- its impedance channel or requester (R322 R324). -/
abbrev WHO (i : Nat) : Fld := ⟨0x1B40000 + i, 0, 4, 0⟩
/-- 0 front end, 1 its value is discarded, 2 test DAC (R336). -/
abbrev TD (i : Nat) : Fld := ⟨0x1B50000 + i, 0, 2, 0⟩
/-- input plus 1 of the second slot that follows on the lane; 0 none (R335). -/
abbrev SEC (i : Nat) : Fld := ⟨0x1B60000 + i, 0, 9, 0⟩
/-- a conversion of lane i has ended and its value is not yet available (R313). -/
abbrev VON (i : Nat) : Fld := ⟨0x1B70000 + i, 0, 1, 0⟩
/-- its input (R313). -/
abbrev VIN (i : Nat) : Fld := ⟨0x1B80000 + i, 0, 8, 0⟩
/-- its converter (R313). -/
abbrev VCONV (i : Nat) : Fld := ⟨0x1B90000 + i, 0, 3, 0⟩
/-- its kind (R322). -/
abbrev VKIND (i : Nat) : Fld := ⟨0x1BA0000 + i, 0, 3, 0⟩
/-- its impedance channel or requester (R322 R324). -/
abbrev VWHO (i : Nat) : Fld := ⟨0x1BB0000 + i, 0, 4, 0⟩
/-- 0 front end, 1 its value is discarded, 2 test DAC (R336). -/
abbrev VTD (i : Nat) : Fld := ⟨0x1BC0000 + i, 0, 2, 0⟩
end Lane

namespace Ch
/-- HKS_CH_COR.GAIN of input i (R315 R342). -/
abbrev GAIN (i : Nat) : Fld := ⟨0x1BD0000 + i, 0, 16, 32768⟩
/-- HKS_CH_COR.OFS of input i (R315 R342). -/
abbrev OFS (i : Nat) : Fld := ⟨0x1BE0000 + i, 0, 16, 0⟩
/-- HKS_CH_INFO.REF of input i (R314 R342). -/
abbrev REF (i : Nat) : Fld := ⟨0x1BF0000 + i, 0, 2, 0⟩
end Ch

namespace Hks
/-- triggers of sequence i that are registered and not yet due (R321). -/
abbrev DLY (i : Nat) : Fld := ⟨0x1C00000 + i, 0, 16, 0⟩
/-- window address of the table under which the present sequence runs (R337). -/
abbrev RUNAT : Fld := ⟨0x1C10000, 0, 24, 0⟩
/-- the last step of the running sequence has started (R322). -/
abbrev LAST : Fld := ⟨0x1C20000, 0, 1, 0⟩
/-- step of the built-in set that comes next (R320). -/
abbrev BSTEP : Fld := ⟨0x1C30000, 0, 6, 0⟩
/-- waiting urgent request i in arrival order: requester plus 1 in [11:8], input in [7:0]; 0 none (R324). -/
abbrev UQ (i : Nat) : Fld := ⟨0x1C40000 + i, 0, 12, 0⟩
/-- accumulator of the host's request (R324). -/
abbrev UACC : Fld := ⟨0x1C50000, 0, 9, 0⟩
/-- within 20 us of the end of a test (R336). -/
abbrev TDOFF : Fld := ⟨0x1C60000, 0, 1, 0⟩
/-- input of the test that has ended (R336). -/
abbrev TDLAST : Fld := ⟨0x1C70000, 0, 8, 0⟩
/-- calibration: 0 none, 1 waiting for the handover, 2 converting the calibration points (R334). -/
abbrev CALSTEP : Fld := ⟨0x1C80000, 0, 2, 0⟩
/-- lane that the calibration takes (R334). -/
abbrev CALLANE : Fld := ⟨0x1C90000, 0, 2, 0⟩
/-- the pass calibrates all converters (R334). -/
abbrev CALALL : Fld := ⟨0x1CA0000, 0, 1, 0⟩
/-- next lane of the pass (R334). -/
abbrev CALNEXT : Fld := ⟨0x1CB0000, 0, 3, 0⟩
end Hks

namespace Cap
/-- path i holds a capture of an accumulator (R328). -/
abbrev ON (i : Nat) : Fld := ⟨0x1CC0000 + i, 0, 1, 0⟩
/-- the accumulator captured (R328). -/
abbrev ACC (i : Nat) : Fld := ⟨0x1CD0000 + i, 0, 9, 0⟩
/-- SUM captured (R328). -/
abbrev SUM (i : Nat) : Fld := ⟨0x1CE0000 + i, 0, 64, 0⟩
/-- CNT captured (R328). -/
abbrev CNT (i : Nat) : Fld := ⟨0x1CF0000 + i, 0, 64, 0⟩
/-- SQ captured (R328). -/
abbrev SQ (i : Nat) : Fld := ⟨0x1D00000 + i, 0, 64, 0⟩
/-- CLIPS captured (R328). -/
abbrev CLIPS (i : Nat) : Fld := ⟨0x1D10000 + i, 0, 32, 0⟩
/-- tag of SUM captured (R328). -/
abbrev SUMTAG (i : Nat) : Fld := ⟨0x1D20000 + i, 0, 16, 0⟩
/-- tag of SQ captured (R328). -/
abbrev SQTAG (i : Nat) : Fld := ⟨0x1D30000 + i, 0, 16, 0⟩
end Cap

namespace Thm
/-- latest code delivered for sensor i (R369). -/
abbrev CODE (i : Nat) : Fld := ⟨0x1D40000 + i, 0, 12, 0⟩
/-- its tag (R369 R371). -/
abbrev TAG (i : Nat) : Fld := ⟨0x1D50000 + i, 0, 16, 0⟩
/-- its CLIP mark (R371). -/
abbrev CLIP (i : Nat) : Fld := ⟨0x1D60000 + i, 0, 1, 0⟩
/-- it has arrived since the previous boundary (R369). -/
abbrev NEW (i : Nat) : Fld := ⟨0x1D70000 + i, 0, 1, 0⟩
end Thm

namespace Imp
/-- step index k of channel i (R244). -/
abbrev K (i : Nat) : Fld := ⟨0x1D80000 + i, 0, 6, 0⟩
end Imp

namespace Arb
/-- needed quantities of the comb that are stale, by input offset in the comb (R177). -/
abbrev STALEM (n : Nat) : Fld := ⟨0x1D90000 + n, 0, 48, 0⟩
/-- sum of the error of loop constraint i + 1 over the present cycle of a sweep point, two's complement (R245). -/
abbrev ESUM (n i : Nat) : Fld := ⟨0x1DA0000 + n * 256 + i, 0, 64, 0⟩
/-- evaluations in that sum (R245). -/
abbrev ECNT (n : Nat) : Fld := ⟨0x1DB0000 + n, 0, 24, 0⟩
end Arb

namespace Chg
/-- the engine has entered a state since EN or PROFILE was written (R204 R231). -/
abbrev STARTED (n : Nat) : Fld := ⟨0x1DC0000 + n, 0, 1, 0⟩
/-- command registered since the previous evaluation: 0 none, else 65536 + 256 x OP + ARG (R211). -/
abbrev CMD (n : Nat) : Fld := ⟨0x1DD0000 + n, 0, 17, 0⟩
/-- evaluations for which exit i has been satisfied without a break (R212). -/
abbrev Q (n i : Nat) : Fld := ⟨0x1DE0000 + n * 256 + i, 0, 20, 0⟩
/-- T_STATE, LSB 100 ms (R221). -/
abbrev TW (n : Nat) : Fld := ⟨0x1DF0000 + n, 0, 36, 0⟩
/-- T_SAFE, LSB 1 us (R221). -/
abbrev TS (n : Nat) : Fld := ⟨0x1E00000 + n, 0, 48, 0⟩
/-- AH_STATE, two's complement, LSB 10 mA x 100 ms (R209). -/
abbrev AHS (n : Nat) : Fld := ⟨0x1E10000 + n, 0, 64, 0⟩
/-- AH_TOTAL, two's complement, LSB 10 mA x 100 ms (R209). -/
abbrev AHT (n : Nat) : Fld := ⟨0x1E20000 + n, 0, 64, 0⟩
/-- mean port current of the last evaluation, two's complement, LSB 10 mA (R209). -/
abbrev IB (n : Nat) : Fld := ⟨0x1E30000 + n, 0, 32, 0⟩
/-- that mean is valid (R209). -/
abbrev IBOK (n : Nat) : Fld := ⟨0x1E40000 + n, 0, 1, 0⟩
/-- SUM of the current accumulator at the last evaluation, two's complement (R209). -/
abbrev ISUM (n : Nat) : Fld := ⟨0x1E50000 + n, 0, 64, 0⟩
/-- CNT of it (R209). -/
abbrev ICNT (n : Nat) : Fld := ⟨0x1E60000 + n, 0, 64, 0⟩
/-- EPOCH of it (R329). -/
abbrev IEP (n : Nat) : Fld := ⟨0x1E70000 + n, 0, 4, 0⟩
/-- CNT of the voltage (0) and current (1) accumulator from which 4,096 samples are awaited (R205). -/
abbrev REFC (n i : Nat) : Fld := ⟨0x1E80000 + n * 256 + i, 0, 64, 0⟩
/-- evaluations since then (R205). -/
abbrev REFT (n i : Nat) : Fld := ⟨0x1E90000 + n * 256 + i, 0, 8, 0⟩
/-- SUM of the voltage accumulator at the last block boundary, two's complement (R218). -/
abbrev VSUM (n : Nat) : Fld := ⟨0x1EA0000 + n, 0, 64, 0⟩
/-- CNT of it (R218). -/
abbrev VCNT (n : Nat) : Fld := ⟨0x1EB0000 + n, 0, 64, 0⟩
/-- EPOCH of it (R218 R329). -/
abbrev VEP (n : Nat) : Fld := ⟨0x1EC0000 + n, 0, 4, 0⟩
/-- SUM of the current accumulator at the last block boundary, two's complement (R219). -/
abbrev BSUM (n : Nat) : Fld := ⟨0x1ED0000 + n, 0, 64, 0⟩
/-- CNT of it (R219). -/
abbrev BCNT (n : Nat) : Fld := ⟨0x1EE0000 + n, 0, 64, 0⟩
/-- EPOCH of it (R219 R329). -/
abbrev BEP (n : Nat) : Fld := ⟨0x1EF0000 + n, 0, 4, 0⟩
/-- mean current of the previous block, two's complement, LSB 10 mA (R219). -/
abbrev BI (n : Nat) : Fld := ⟨0x1F00000 + n, 0, 32, 0⟩
/-- that mean stands (R219). -/
abbrev BIOK (n : Nat) : Fld := ⟨0x1F10000 + n, 0, 1, 0⟩
/-- mean string voltage of the latest block, LSB 1 nV (R218). -/
abbrev MEAN (n : Nat) : Fld := ⟨0x1F20000 + n, 0, 48, 0⟩
/-- a block has closed since the engine started (R209). -/
abbrev VCOK (n : Nat) : Fld := ⟨0x1F30000 + n, 0, 1, 0⟩
/-- a block has closed since engine start, RESTART, state entry or return (R215). -/
abbrev BLKOK (n : Nat) : Fld := ⟨0x1F40000 + n, 0, 1, 0⟩
/-- highest block mean of the state, LSB 1 nV (R218). -/
abbrev PEAK (n : Nat) : Fld := ⟨0x1F50000 + n, 0, 48, 0⟩
/-- the present block contains a probe (R219). -/
abbrev PRBLK (n : Nat) : Fld := ⟨0x1F60000 + n, 0, 1, 0⟩
/-- consecutive evaluations with V_CELL above V_CELL_MAX, to 10 (R234). -/
abbrev VH (n : Nat) : Fld := ⟨0x1F70000 + n, 0, 4, 0⟩
/-- T_BAT is valid (R209). -/
abbrev TBOK (n : Nat) : Fld := ⟨0x1F80000 + n, 0, 1, 0⟩
/-- sum of T_BAT in the present 10 s interval, two's complement (R220). -/
abbrev TSUM (n : Nat) : Fld := ⟨0x1F90000 + n, 0, 32, 0⟩
/-- evaluations in that sum (R220). -/
abbrev TCNT (n : Nat) : Fld := ⟨0x1FA0000 + n, 0, 16, 0⟩
/-- the i-th latest mean of T_BAT, two's complement, LSB 0.1 degree (R220). -/
abbrev TM (n i : Nat) : Fld := ⟨0x1FB0000 + n * 256 + i, 0, 16, 0⟩
/-- means held, to 7 (R220). -/
abbrev TMN (n : Nat) : Fld := ⟨0x1FC0000 + n, 0, 3, 0⟩
/-- the port of engine n is confirmed absent (R226). -/
abbrev ABS (n : Nat) : Fld := ⟨0x1FD0000 + n, 0, 1, 0⟩
/-- checkpoint at the probe trigger: the engine's fields in the order of the model's list (R226). -/
abbrev CK (n i : Nat) : Fld := ⟨0x1FE0000 + n * 256 + i, 0, 64, 0⟩
/-- state of the checkpoint (R226). -/
abbrev CKST (n : Nat) : Fld := ⟨0x1FF0000 + n, 0, 6, 0⟩
/-- VBB at the probe trigger, LSB 10 mV (R225). -/
abbrev PV (n : Nat) : Fld := ⟨0x2000000 + n, 0, 16, 0⟩
/-- summed current of the other closed battery ports at the probe trigger, two's complement, LSB 10 mA (R225). -/
abbrev PI (n : Nat) : Fld := ⟨0x2010000 + n, 0, 32, 0⟩
end Chg

namespace Pin
/-- pattern that lamp i shows (R228). -/
abbrev PAT (i : Nat) : Fld := ⟨0x2020000 + i, 0, 3, 0⟩
end Pin

namespace Imp
/-- Z_RE of point i, two's complement (R248). -/
abbrev RE (n i : Nat) : Fld := ⟨0x2030000 + n * 256 + i, 0, 32, 0⟩
/-- Z_IM of point i, two's complement (R248). -/
abbrev IM (n i : Nat) : Fld := ⟨0x2040000 + n * 256 + i, 0, 32, 0⟩
/-- status of point i (R248). -/
abbrev STATUS (n i : Nat) : Fld := ⟨0x2050000 + n * 256 + i, 0, 3, 6⟩
/-- measured current amplitude of point i, LSB 10 mA (R248). -/
abbrev IAMP (n i : Nat) : Fld := ⟨0x2060000 + n * 256 + i, 0, 9, 0⟩
/-- T_BAT at the end of point i, two's complement (R255). -/
abbrev TBAT (n i : Nat) : Fld := ⟨0x2070000 + n * 256 + i, 0, 16, 0⟩
/-- amplitude A of the present point, LSB 10 mA (R245). -/
abbrev AMP (n : Nat) : Fld := ⟨0x2080000 + n, 0, 16, 0⟩
/-- perturbation in force, two's complement, LSB 1 mA (R245). -/
abbrev DELTA (n : Nat) : Fld := ⟨0x2090000 + n, 0, 16, 0⟩
/-- cycles of the present phase that have passed (R243). -/
abbrev CYC (n : Nat) : Fld := ⟨0x20A0000 + n, 0, 9, 0⟩
/-- the present point waits for its first index 0 (R243). -/
abbrev WAIT (n : Nat) : Fld := ⟨0x20B0000 + n, 0, 1, 0⟩
/-- a conversion pair waits for its lanes (R246). -/
abbrev PAIR (n : Nat) : Fld := ⟨0x20C0000 + n, 0, 1, 0⟩
/-- a clamp or a clipped value has touched the present point (R248). -/
abbrev CLIP (n : Nat) : Fld := ⟨0x20D0000 + n, 0, 1, 0⟩
/-- disturbances of the present point (R250). -/
abbrev DIST (n : Nat) : Fld := ⟨0x20E0000 + n, 0, 2, 0⟩
/-- bit c: index 0 has been stepped to and no evaluation of comb c has followed (R245). -/
abbrev ZERO (n : Nat) : Fld := ⟨0x20F0000 + n, 0, 4, 0⟩
end Imp

namespace Chg
/-- the engine restarts because PROFILE was written (R231). -/
abbrev NEWPROF (n : Nat) : Fld := ⟨0x2100000 + n, 0, 1, 0⟩
end Chg

namespace Imp
/-- the pending sweep has not started yet (R242). -/
abbrev NEW (n : Nat) : Fld := ⟨0x2110000 + n, 0, 1, 0⟩
/-- phase accumulator (R244). -/
abbrev PHASE (n : Nat) : Fld := ⟨0x2120000 + n, 0, 48, 0⟩
/-- what each housekeeping cycle adds to it (R244). -/
abbrev FTW (n : Nat) : Fld := ⟨0x2130000 + n, 0, 36, 0⟩
end Imp

namespace Acc
/-- the sum holds products of an impedance point (R346). -/
abbrev IQ (i : Nat) : Fld := ⟨0x2140000 + i, 0, 1, 0⟩
end Acc

namespace Mem
/-- next 64-bit word of the retention scrubber (R359). -/
abbrev RETPOS : Fld := ⟨0x2150000, 0, 9, 0⟩
end Mem

namespace Ths
/-- last sane sample of sensor i, two's complement, LSB 0.1 degree (R371 R377). -/
abbrev LAST (i : Nat) : Fld := ⟨0x2160000 + i, 0, 16, 0⟩
/-- sensor i has had a sane sample (R371). -/
abbrev LASTOK (i : Nat) : Fld := ⟨0x2170000 + i, 0, 1, 0⟩
/-- consecutive insane samples, to 3 (R371). -/
abbrev INS (i : Nat) : Fld := ⟨0x2180000 + i, 0, 2, 0⟩
/-- cause of the latest insane sample, as FAIL_CAUSE codes it (R371 R383). -/
abbrev ICAUSE (i : Nat) : Fld := ⟨0x2190000 + i, 0, 3, 0⟩
/-- consecutive samples at or above TH1, to 3 (R372). -/
abbrev UP1 (i : Nat) : Fld := ⟨0x21A0000 + i, 0, 2, 0⟩
/-- consecutive samples at or above TH2, to 3 (R372). -/
abbrev UP2 (i : Nat) : Fld := ⟨0x21B0000 + i, 0, 2, 0⟩
/-- consecutive samples below TH1 - 4 K, to 3 (R372). -/
abbrev DN1 (i : Nat) : Fld := ⟨0x21C0000 + i, 0, 2, 0⟩
/-- consecutive samples below TH2 - 4 K, to 3 (R372). -/
abbrev DN2 (i : Nat) : Fld := ⟨0x21D0000 + i, 0, 2, 0⟩
/-- sensor i stands above TH1 (R372). -/
abbrev OVER1 (i : Nat) : Fld := ⟨0x21E0000 + i, 0, 1, 0⟩
/-- sensor i stands above TH2 (R372). -/
abbrev OVER2 (i : Nat) : Fld := ⟨0x21F0000 + i, 0, 1, 0⟩
/-- consecutive samples at or above SD, to 2 (R375). -/
abbrev SDN (i : Nat) : Fld := ⟨0x2200000 + i, 0, 2, 0⟩
/-- the second such sample has been taken and its shutdown is due (R375). -/
abbrev SDDUE (i : Nat) : Fld := ⟨0x2210000 + i, 0, 1, 0⟩
/-- the sample that shut down, two's complement (R376). -/
abbrev SHUTT (i : Nat) : Fld := ⟨0x2220000 + i, 0, 16, 0⟩
/-- shutdown records of sensor i that await acknowledgement; survives every reset (R376 R380). -/
abbrev RECS (i : Nat) : Fld := ⟨0x2230000 + i, 0, 8, 0⟩
/-- consecutive samples beyond the margin of the present band, to 8 (R370). -/
abbrev LEN (i : Nat) : Fld := ⟨0x2240000 + i, 0, 4, 0⟩
/-- every sample since the shutdown, or since the last warmer one, has stood at or below SD - 20 K (R376). -/
abbrev COLD (i : Nat) : Fld := ⟨0x2250000 + i, 0, 1, 0⟩
/-- the sensor has been cooled and its record awaits acknowledgement (R376). -/
abbrev COOLED (i : Nat) : Fld := ⟨0x2260000 + i, 0, 1, 0⟩
/-- milliseconds for which every sample has been sane during substitution, to 10,000 (R377 R383). -/
abbrev SANEMS (i : Nat) : Fld := ⟨0x2270000 + i, 0, 14, 0⟩
/-- the latest sample of a substituted sensor was sane (R377). -/
abbrev SANERUN (i : Nat) : Fld := ⟨0x2280000 + i, 0, 1, 0⟩
/-- the sensor failed of itself, not by SENSOR_OUT (R371). -/
abbrev FAILED (i : Nat) : Fld := ⟨0x2290000 + i, 0, 1, 0⟩
/-- the sensor is out by SENSOR_OUT (R480). -/
abbrev OUT (i : Nat) : Fld := ⟨0x22A0000 + i, 0, 1, 0⟩
/-- the sensor holds its zone at minimum power (R378). -/
abbrev MINP (i : Nat) : Fld := ⟨0x22B0000 + i, 0, 1, 0⟩
end Ths

namespace Log
/-- records in the MRAM event log; survives every reset (R64 R376 R428). -/
abbrev NEXT : Fld := ⟨0x22C0000, 0, 16, 0⟩
end Log

namespace Intc
/-- registered level of the line of source i (R402 R411). -/
abbrev LINE (i : Nat) : Fld := ⟨0x22D0000 + i, 0, 1, 0⟩
/-- the pending bit of source i is latched by INTC_PEND_SET (R403). -/
abbrev LATCH (i : Nat) : Fld := ⟨0x22E0000 + i, 0, 1, 0⟩
/-- source of entry i of the stack of target n (R408 R410). -/
abbrev STKSRC (n i : Nat) : Fld := ⟨0x22F0000 + n * 256 + i, 0, 8, 0⟩
/-- its priority at the claim (R408 R410). -/
abbrev STKPRI (n i : Nat) : Fld := ⟨0x2300000 + n * 256 + i, 0, 4, 0⟩
end Intc

namespace Last
/-- value of the latest register read of path i, as its response carries it (R101 R110). -/
abbrev DATA (i : Nat) : Fld := ⟨0x2310000 + i, 0, 32, 0⟩
/-- its tag (R99 R110). -/
abbrev TAG (i : Nat) : Fld := ⟨0x2320000 + i, 0, 16, 0⟩
/-- status code of the latest register access of path i (R111). -/
abbrev CODE (i : Nat) : Fld := ⟨0x2330000 + i, 0, 4, 0⟩
end Last

namespace Wdg
/-- OPEN in force in the present cycle (R422). -/
abbrev OPEN : Fld := ⟨0x2340000, 0, 16, 200⟩
/-- CLOSE in force in the present cycle (R422). -/
abbrev CLOSE : Fld := ⟨0x2350000, 0, 16, 999⟩
/-- slot enables in force in the present cycle (R426). -/
abbrev EN : Fld := ⟨0x2360000, 0, 16, 4096⟩
/-- slot codes in force in the present cycle, slot s in [4s+3:4s] (R426). -/
abbrev MAP : Fld := ⟨0x2370000, 0, 64, 281474976710656⟩
/-- the host record applies from the next cycle start (R432). -/
abbrev HOSTNEXT : Fld := ⟨0x2380000, 0, 1, 0⟩
/-- CLKSEL of the host record of the booted image (R432). -/
abbrev HCLK : Fld := ⟨0x2390000, 0, 1, 0⟩
/-- WDG_WIN of the host record (R432). -/
abbrev HWIN : Fld := ⟨0x23A0000, 0, 32, 65470664⟩
/-- WDG_SLOT_EN of the host record (R432). -/
abbrev HEN : Fld := ⟨0x23B0000, 0, 16, 0⟩
/-- WDG_SLOT_MAP0 and WDG_SLOT_MAP1 of the host record (R432). -/
abbrev HMAP : Fld := ⟨0x23C0000, 0, 64, 0⟩
/-- cause of the first failure of the present cycle, 0 none (R431). -/
abbrev FCAUSE : Fld := ⟨0x23D0000, 0, 4, 0⟩
/-- its slot (R431). -/
abbrev FSLOT : Fld := ⟨0x23E0000, 0, 8, 0⟩
/-- a watchdog reset awaits its record and causes at step 3 (R431). -/
abbrev RPEND : Fld := ⟨0x23F0000, 0, 1, 0⟩
/-- cause of the first failure of the failed cycle (R431). -/
abbrev RCAUSE : Fld := ⟨0x2400000, 0, 4, 0⟩
/-- its slot (R431). -/
abbrev RSLOT : Fld := ⟨0x2410000, 0, 8, 0⟩
/-- WDG_SEQ of the failed cycle (R431). -/
abbrev RSEQ : Fld := ⟨0x2420000, 0, 32, 0⟩
/-- time since power-on at the watchdog reset (R431). -/
abbrev RTIME : Fld := ⟨0x2430000, 0, 32, 0⟩
/-- reset count after the increment (R431). -/
abbrev RCOUNT : Fld := ⟨0x2440000, 0, 32, 0⟩
/-- slots missing in the failed cycle (R431). -/
abbrev RMISS : Fld := ⟨0x2450000, 0, 16, 0⟩
/-- slots duplicated in the failed cycle (R431). -/
abbrev RDUP : Fld := ⟨0x2460000, 0, 16, 0⟩
/-- other failures of the failed cycle, as WDG_CAUSE_X codes them (R431). -/
abbrev RX : Fld := ⟨0x2470000, 0, 4, 0⟩
end Wdg

namespace Boot
/-- milliseconds of stable service of the present boot, to 60,000 (R67). -/
abbrev STABLEMS : Fld := ⟨0x2480000, 0, 32, 0⟩
end Boot

namespace Ses
/-- session code in the lock settings of the booted image; 0 permits pin sessions only (R92). -/
abbrev IMGCODE : Fld := ⟨0x2490000, 0, 64, 0⟩
end Ses

namespace Sw
/-- consecutive valid LINK frames of port i, 0 east and 1 west, to 3 (R437). -/
abbrev RUN (i : Nat) : Fld := ⟨0x24A0000 + i, 0, 2, 0⟩
/-- T_TX of the last LINK frame received on port i (R440). -/
abbrev TTX (i : Nat) : Fld := ⟨0x24B0000 + i, 0, 48, 0⟩
/-- hops plus 1 to node n of the segment through port i; 0 not reachable through it (R443). -/
abbrev HOP (n i : Nat) : Fld := ⟨0x24C0000 + n * 256 + i, 0, 9, 0⟩
/-- UID of node n, from its latest ANNOUNCE (R440). -/
abbrev UIDN (n : Nat) : Fld := ⟨0x24D0000 + n, 0, 48, 0⟩
/-- its QPRI (R440). -/
abbrev QPRIN (n : Nat) : Fld := ⟨0x24E0000 + n, 0, 4, 0⟩
/-- its ELIG (R440). -/
abbrev ELIGN (n : Nat) : Fld := ⟨0x24F0000 + n, 0, 1, 0⟩
/-- last SEQ of a broadcast of node n plus 1; 0 none (R441). -/
abbrev SEQN (n : Nat) : Fld := ⟨0x2500000 + n, 0, 9, 0⟩
/-- SEQ of the next frame that the device originates (R439). -/
abbrev SEQ : Fld := ⟨0x2510000, 0, 8, 0⟩
/-- the device is queen (R446). -/
abbrev ISQ : Fld := ⟨0x2520000, 0, 1, 0⟩
/-- the device has a swarm time (R449). -/
abbrev HAS : Fld := ⟨0x2530000, 0, 1, 0⟩
/-- offset that is still to be slewed, two's complement, LSB 1 ns (R449). -/
abbrev SLEW : Fld := ⟨0x2540000, 0, 16, 0⟩
/-- share group plus 1 of member n, 4 x node + comb; 0 not on a roster (R450). -/
abbrev MEM (n : Nat) : Fld := ⟨0x2550000 + n, 0, 5, 0⟩
/-- WEIGHT of its latest REPORT entry (R450). -/
abbrev WT (n : Nat) : Fld := ⟨0x2560000 + n, 0, 8, 4⟩
/-- DEFICIT of it, LSB 10 mA (R450). -/
abbrev DEF (n : Nat) : Fld := ⟨0x2570000 + n, 0, 16, 0⟩
/-- instants of the share computation since that entry (R450). -/
abbrev AGE (n : Nat) : Fld := ⟨0x2580000 + n, 0, 16, 0⟩
/-- target last sent to member n, two's complement, LSB 10 mA (R447 R452). -/
abbrev TGT (n : Nat) : Fld := ⟨0x2590000 + n, 0, 16, 0⟩
/-- its tag (R447 R452). -/
abbrev TGTTAG (n : Nat) : Fld := ⟨0x25A0000 + n, 0, 16, 0⟩
/-- total in force of group n, two's complement, LSB 10 mA (R451). -/
abbrev TOTAL (n : Nat) : Fld := ⟨0x25B0000 + n, 0, 16, 0⟩
/-- PART of group n (R451). -/
abbrev PART (n : Nat) : Fld := ⟨0x25C0000 + n, 0, 1, 0⟩
/-- SW_GRP_TOTAL.CEIL of group n (R461). -/
abbrev CEIL (n : Nat) : Fld := ⟨0x25D0000 + n, 0, 16, 65535⟩
/-- SW_GRP_TOTAL.TOTAL of group n (R461). -/
abbrev REQT (n : Nat) : Fld := ⟨0x25E0000 + n, 0, 16, 0⟩
/-- tag of SW_MEMB.TARGET of comb n (R452). -/
abbrev MTAG (n : Nat) : Fld := ⟨0x25F0000 + n, 0, 16, 49152⟩
/-- REQ frames sent (R454). -/
abbrev STAMP : Fld := ⟨0x2600000, 0, 32, 0⟩
end Sw

namespace Mnt
/-- phase p: 0 in service, 1 ramping out, 2 RUN cleared, 3 out (R475 R476). -/
abbrev OUT (p : Nat) : Fld := ⟨0x2610000 + p, 0, 2, 0⟩
/-- it leaves by the drain of its comb (R478 R483). -/
abbrev BYC (p : Nat) : Fld := ⟨0x2620000 + p, 0, 1, 0⟩
/-- the target of comb c is ramped to zero and held there by a drain (R478). -/
abbrev DRAIN (c : Nat) : Fld := ⟨0x2630000 + c, 0, 1, 0⟩
/-- OP of the command that runs (R474). -/
abbrev OP : Fld := ⟨0x2640000, 0, 4, 0⟩
/-- its ARG (R474). -/
abbrev ARG : Fld := ⟨0x2650000, 0, 16, 0⟩
/-- converter command that runs: 0 none, 1 CONV_OUT waits for its handover, 2 CONV_IN calibrates (R482). -/
abbrev CV : Fld := ⟨0x2660000, 0, 2, 0⟩
end Mnt

namespace Tbl
/-- TBL command that runs, as OP codes it; 0 none (R467 R469). -/
abbrev RUN : Fld := ⟨0x2670000, 0, 3, 0⟩
/-- window address of the partition of the open load (R465). -/
abbrev LBASE : Fld := ⟨0x2680000, 0, 24, 0⟩
/-- words that the load takes (R465). -/
abbrev LWORDS : Fld := ⟨0x2690000, 0, 18, 0⟩
/-- slot that IMG_CHECK checks (R473). -/
abbrev SLOT : Fld := ⟨0x26A0000, 0, 1, 0⟩
end Tbl

namespace Port
/-- turned off by the entry to hive-sleep, and off until its enable is written (R76 R77). -/
abbrev SLEPT (n : Nat) : Fld := ⟨0x26B0000 + n, 0, 1, 0⟩
end Port

namespace Can
/-- SEQ of the next heartbeat of controller n (R114 R117). -/
abbrev HBSEQ (n : Nat) : Fld := ⟨0x26C0000 + n, 0, 8, 0⟩
end Can

namespace Dev
/-- milliseconds of the present second since reset (R356 R398). -/
abbrev MS : Fld := ⟨0x26D0000, 0, 10, 0⟩
end Dev

namespace Chg
/-- milliseconds since the entry to ABSENT (R226 R236). -/
abbrev ABSMS (n : Nat) : Fld := ⟨0x26E0000 + n, 0, 23, 0⟩
end Chg

namespace Imp
/-- the point that waits to become the present point, plus 1; 0 none (R243). -/
abbrev AWAIT (n : Nat) : Fld := ⟨0x26F0000 + n, 0, 6, 0⟩
/-- the perturbation of the last point goes on to the next index 0 (R243). -/
abbrev TAIL (n : Nat) : Fld := ⟨0x2700000 + n, 0, 1, 0⟩
end Imp

namespace Sleep
/-- the last step of hive-sleep entry that has been done (R76). -/
abbrev STEP : Fld := ⟨0x2710000, 0, 3, 0⟩
end Sleep

namespace Pin
/-- level of CANn_TXD between frames: recessive (R41). -/
abbrev TXD (n : Nat) : Fld := ⟨0x2720000 + n, 0, 1, 1⟩
/-- TDO is driven; no command of the block shifts the boundary-scan chain (R41). -/
abbrev TDO : Fld := ⟨0x2730000, 0, 1, 0⟩
end Pin

namespace Err
/-- another device holds the shared ERR_N low; no command of the block changes it (R392 R393). -/
abbrev EXT : Fld := ⟨0x2740000, 0, 1, 0⟩
end Err

namespace Ph
/-- length of the present period, LSB one tap (R122). -/
abbrev LEN (n : Nat) : Fld := ⟨0x2750000 + n, 0, 18, 51200⟩
/-- taps from the start of the present period to the first phase-island edge (R135). -/
abbrev EDGE (n : Nat) : Fld := ⟨0x2760000 + n, 0, 5, 0⟩
/-- cycles of the present period for which a conversion of the period before delays the first (R135). -/
abbrev SPWAIT (n : Nat) : Fld := ⟨0x2770000 + n, 0, 4, 0⟩
/-- taps of the present period, or of a hold state entered in it, for which the interlock keeps switch i off: 0 AH, 1 AL, 2 BH, 3 BL (R127). -/
abbrev LOCK (n i : Nat) : Fld := ⟨0x2780000 + n * 256 + i, 0, 13, 0⟩
/-- switches that were on as the present period began: bit 0 AH, 1 AL, 2 BH, 3 BL (R125). -/
abbrev CONT (n : Nat) : Fld := ⟨0x2790000 + n, 0, 4, 0⟩
/-- slot writes that the phase may still take without a confirmation (R145). -/
abbrev FIRST (n : Nat) : Fld := ⟨0x27A0000 + n, 0, 2, 2⟩
/-- an entry has been confirmed since RUN was set or the last hold (R145 R151). -/
abbrev CP_OK (n : Nat) : Fld := ⟨0x27B0000 + n, 0, 1, 0⟩
/-- checkpoint: orders of the entry last confirmed, bit 0 leg A, bit 1 leg B (R155). -/
abbrev CP_ORD (n : Nat) : Fld := ⟨0x27C0000 + n, 0, 2, 0⟩
/-- integral of degraded control, two's complement, LSB 2^-20 of the period / 100 (R159). -/
abbrev DINT (n : Nat) : Fld := ⟨0x27D0000 + n, 0, 48, 0⟩
/-- output of degraded control, two's complement, LSB 2^-20 of the period (R159). -/
abbrev DOUT (n : Nat) : Fld := ⟨0x27E0000 + n, 0, 48, 0⟩
end Ph

namespace Comb
/-- local phases with a miss on the present Forager edge, whose squash is still to come (R171). -/
abbrev MISSED (n : Nat) : Fld := ⟨0x27F0000 + n, 0, 4, 0⟩
/-- squashes of the 16 buckets that ended at the last bucket boundary (R160). -/
abbrev EDGECNT (n : Nat) : Fld := ⟨0x2800000 + n, 0, 16, 0⟩
end Comb

namespace Arb
/-- source port, by offset plus 1, on which a changeover failed and the comb continues; 0 none (R186). -/
abbrev STUCK (n : Nat) : Fld := ⟨0x2810000 + n, 0, 2, 0⟩
/-- taps since the last SHARE record, saturating (R198). -/
abbrev SHARE_AGE (n : Nat) : Fld := ⟨0x2820000 + n, 0, 22, 0⟩
/-- fraction of the share target in its ramp, LSB 10 mA / 65536 (R198). -/
abbrev SHARE_FRAC (n : Nat) : Fld := ⟨0x2830000 + n, 0, 16, 0⟩
/-- highest lower bound of the comb per pool phase, two's complement, LSB 10 mA / 256 (R197). -/
abbrev PERLO (n : Nat) : Fld := ⟨0x2840000 + n, 0, 32, 0⟩
/-- the feeder next to shed has tripped since the last evaluation (R201). -/
abbrev SHEDTRIP (n : Nat) : Fld := ⟨0x2850000 + n, 0, 1, 0⟩
end Arb

namespace Chg
/-- zero current is commanded for STALE_INPUT (R205). -/
abbrev NOFEED (n : Nat) : Fld := ⟨0x2860000 + n, 0, 1, 0⟩
/-- a table commit waits for the end of a probe; till then the engine follows the bank before (R233). -/
abbrev COMMIT_PEND (n : Nat) : Fld := ⟨0x2870000 + n, 0, 1, 0⟩
end Chg

namespace Imp
/-- step index of the conversion pair last requested on channel n (R244 R247). -/
abbrev PK (n : Nat) : Fld := ⟨0x2880000 + n, 0, 6, 0⟩
/-- the values of that pair belong to the integration of the point (R243 R247). -/
abbrev PON (n : Nat) : Fld := ⟨0x2890000 + n, 0, 1, 0⟩
end Imp

namespace Port
/-- latest bus voltage as the port island keeps it: VBB for a battery port, VSYS for the others, LSB 10 mV (R257). -/
abbrev BUSV (n : Nat) : Fld := ⟨0x28A0000 + n, 0, 16, 0⟩
/-- a FET_HOT raised without a shutdown holds the port off until its class clears (R263 R280). -/
abbrev HOT_ACT (n : Nat) : Fld := ⟨0x28B0000 + n, 0, 1, 0⟩
end Port

namespace Pd
/-- change of the VBUS switch that waits for the clock of the port island: 0 none, else the state plus 1 (R27). -/
abbrev SW_PEND (n : Nat) : Fld := ⟨0x28C0000 + n, 0, 3, 0⟩
/-- the reference moves at SLEW outside a transition (R296 R301). -/
abbrev RAMP (n : Nat) : Fld := ⟨0x28D0000 + n, 0, 1, 0⟩
/-- value to which it moves, LSB 1 mV (R296 R301). -/
abbrev GOAL (n : Nat) : Fld := ⟨0x28E0000 + n, 0, 16, 0⟩
/-- tErrorRecovery is over and VBUS is not yet discharged (R300). -/
abbrev ERR_OVER (n : Nat) : Fld := ⟨0x28F0000 + n, 0, 1, 0⟩
/-- polarity seen by a port that waits to attach (R289). -/
abbrev WAIT_CC2 (n : Nat) : Fld := ⟨0x2900000 + n, 0, 1, 0⟩
/-- what the partner's source presents to a port that waits to attach (R289). -/
abbrev WAIT_RP (n : Nat) : Fld := ⟨0x2910000 + n, 0, 2, 0⟩
/-- SOP type of the message sent (R294). -/
abbrev TX_SOP (n : Nat) : Fld := ⟨0x2920000 + n, 0, 2, 0⟩
end Pd

namespace Acc
/-- residue of SUM, formed from the residues of what has entered it (R348). -/
abbrev RSUM (i : Nat) : Fld := ⟨0x2930000 + i, 0, 13, 0⟩
/-- residue of SQ, likewise (R348). -/
abbrev RSQ (i : Nat) : Fld := ⟨0x2940000 + i, 0, 13, 0⟩
end Acc

namespace Mmt
/-- residue of MIN, that of the value selected (R348). -/
abbrev RMIN (i : Nat) : Fld := ⟨0x2950000 + i, 0, 13, 0⟩
/-- residue of MAX, likewise (R348). -/
abbrev RMAX (i : Nat) : Fld := ⟨0x2960000 + i, 0, 13, 0⟩
end Mmt

namespace Flt
/-- causes of page p that stand at their catalogue class by an injection (R395). -/
abbrev INJ (p : Nat) : Fld := ⟨0x2970000 + p, 0, 16, 0⟩
end Flt

namespace Mnt
/-- the share of phase p is ramped up from zero (R477). -/
abbrev BACK (p : Nat) : Fld := ⟨0x2980000 + p, 0, 1, 0⟩
/-- share at which a ramping phase is held, two's complement, LSB 10 mA / 65536 (R475 R477). -/
abbrev SHARE (p : Nat) : Fld := ⟨0x2990000 + p, 0, 40, 0⟩
end Mnt

end Sys2Proof.Machine
end

