-- ==== Sys2Proof/Machine/Regs.lean ====
section
/-! DEFINITION. The register fields of every page, from the register tables of the rules named:
the page and offset, the lowest bit, the width and the reset value of each. A block that stands on
several pages takes its number `n`, a register that repeats takes its index `i`. -/

namespace Sys2Proof.Machine

-- CLK_STAT: R29.
namespace CLK_STAT
/-- [31:24] LOSSES, type RO. -/
abbrev LOSSES : Fld := ⟨0x01040, 24, 8, 0⟩
/-- [9:8] RET_RESULT, type RO. -/
abbrev RET_RESULT : Fld := ⟨0x01040, 8, 2, 0⟩
/-- [7] RET_READY, type RO. -/
abbrev RET_READY : Fld := ⟨0x01040, 7, 1, 0⟩
/-- [6] XTAL_VALID, type RO. -/
abbrev XTAL_VALID : Fld := ⟨0x01040, 6, 1, 0⟩
/-- [5] REFIN_VALID, type RO. -/
abbrev REFIN_VALID : Fld := ⟨0x01040, 5, 1, 0⟩
/-- [4] HOLDOVER, type RO. -/
abbrev HOLDOVER : Fld := ⟨0x01040, 4, 1, 0⟩
/-- [2:0] SRC, type RO. -/
abbrev SRC : Fld := ⟨0x01040, 0, 3, 0x2⟩
end CLK_STAT

-- CLK_CTL: R29.
namespace CLK_CTL
/-- [8] RETURN, type K. -/
abbrev RETURN : Fld := ⟨0x01044, 8, 1, 0⟩
/-- [1:0] PREF, type KRW. -/
abbrev PREF : Fld := ⟨0x01044, 0, 2, 0⟩
end CLK_CTL

-- HIVE_MODE: R34.
namespace HIVE_MODE
/-- [11] RECOVERY, type RO. -/
abbrev RECOVERY : Fld := ⟨0x00040, 11, 1, 0⟩
/-- [10] TEST, type KRW. -/
abbrev TEST : Fld := ⟨0x00040, 10, 1, 0⟩
/-- [7:4] MAINT, type RO. -/
abbrev MAINT : Fld := ⟨0x00040, 4, 4, 0⟩
/-- [2:0] MODE, type RO. -/
abbrev MODE : Fld := ⟨0x00040, 0, 3, 0⟩
end HIVE_MODE

-- PWR_RET_ADDR: R75.
namespace PWR_RET_ADDR
/-- [11:2] WORD, type RW. -/
abbrev WORD : Fld := ⟨0x02040, 2, 10, 0⟩
end PWR_RET_ADDR

-- PWR_RET_DATA: R75.
namespace PWR_RET_DATA
/-- [31:0] DATA, type KRW. -/
abbrev DATA : Fld := ⟨0x02044, 0, 32, 0⟩
end PWR_RET_DATA

-- HIVE_BOOT_STAT: R78.
namespace HIVE_BOOT_STAT
/-- [31:28] PIN_REFUSED, type RO. -/
abbrev PIN_REFUSED : Fld := ⟨0x00044, 28, 4, 0⟩
/-- [23:20] ATTEMPT, type RO. -/
abbrev ATTEMPT : Fld := ⟨0x00044, 20, 4, 0⟩
/-- [18] CORE_FAIL, type RO. -/
abbrev CORE_FAIL : Fld := ⟨0x00044, 18, 1, 0⟩
/-- [17:16] SAFE_COMB, type RO. -/
abbrev SAFE_COMB : Fld := ⟨0x00044, 16, 2, 0⟩
/-- [15] LATE_CLAIM, type RO. -/
abbrev LATE_CLAIM : Fld := ⟨0x00044, 15, 1, 0⟩
/-- [14] CLAIMED, type RO. -/
abbrev CLAIMED : Fld := ⟨0x00044, 14, 1, 0⟩
/-- [13] DEADBAT, type RO. -/
abbrev DEADBAT : Fld := ⟨0x00044, 13, 1, 0⟩
/-- [12] NOIMG, type RO. -/
abbrev NOIMG : Fld := ⟨0x00044, 12, 1, 0⟩
/-- [11] FALLBACK, type RO. -/
abbrev FALLBACK : Fld := ⟨0x00044, 11, 1, 0⟩
/-- [10] IMG, type RO. -/
abbrev IMG : Fld := ⟨0x00044, 10, 1, 0⟩
/-- [9:4] SECONDARY, type RO. -/
abbrev SECONDARY : Fld := ⟨0x00044, 4, 6, 0⟩
/-- [3:0] CAUSE, type RO. -/
abbrev CAUSE : Fld := ⟨0x00044, 0, 4, 0x1⟩
end HIVE_BOOT_STAT

-- HIVE_CMD: R78.
namespace HIVE_CMD
/-- [15:0] CODE, type WO. -/
abbrev CODE : Fld := ⟨0x00048, 0, 16, 0⟩
end HIVE_CMD

-- HIVE_WAKE: R78.
namespace HIVE_WAKE
/-- [27:16] SRC, type W1C. -/
abbrev SRC : Fld := ⟨0x0004C, 16, 12, 0⟩
/-- [11:0] EN, type KRW. -/
abbrev EN : Fld := ⟨0x0004C, 0, 12, 0x4⟩
end HIVE_WAKE

-- HIVE_SLEEP_TMR: R78.
namespace HIVE_SLEEP_TMR
/-- [23:0] DURATION, type KRW. -/
abbrev DURATION : Fld := ⟨0x00050, 0, 24, 0⟩
end HIVE_SLEEP_TMR

-- PAGE_ID: R85.
namespace PAGE_ID
/-- [27:24] PORTKIND, type RO. -/
abbrev PORTKIND (p : Nat) : Fld := ⟨p * 0x1000 + 0x000, 24, 4, 0⟩
/-- [23:16] INSTANCE, type RO. -/
abbrev INSTANCE (p : Nat) : Fld := ⟨p * 0x1000 + 0x000, 16, 8, 0⟩
/-- [15:8] KIND, type RO. -/
abbrev KIND (p : Nat) : Fld := ⟨p * 0x1000 + 0x000, 8, 8, 0⟩
/-- [7:0] PAGE, type RO. -/
abbrev PAGE (p : Nat) : Fld := ⟨p * 0x1000 + 0x000, 0, 8, 0⟩
end PAGE_ID

-- PAGE_VER: R85.
namespace PAGE_VER
/-- [15:8] MAJOR, type RO. -/
abbrev MAJOR (p : Nat) : Fld := ⟨p * 0x1000 + 0x004, 8, 8, 0x1⟩
/-- [7:0] MINOR, type RO. -/
abbrev MINOR (p : Nat) : Fld := ⟨p * 0x1000 + 0x004, 0, 8, 0⟩
end PAGE_VER

-- PAGE_STAT: R85.
namespace PAGE_STAT
/-- [31:16] BLOCK, type RO. -/
abbrev BLOCK (p : Nat) : Fld := ⟨p * 0x1000 + 0x008, 16, 16, 0⟩
/-- [7:6] REFUSE_WHY, type RO. -/
abbrev REFUSE_WHY (p : Nat) : Fld := ⟨p * 0x1000 + 0x008, 6, 2, 0⟩
/-- [5] REFUSED, type W1C. -/
abbrev REFUSED (p : Nat) : Fld := ⟨p * 0x1000 + 0x008, 5, 1, 0⟩
/-- [4] LOCKED, type RO. -/
abbrev LOCKED (p : Nat) : Fld := ⟨p * 0x1000 + 0x008, 4, 1, 0⟩
/-- [3] FAULT, type RO. -/
abbrev FAULT (p : Nat) : Fld := ⟨p * 0x1000 + 0x008, 3, 1, 0⟩
/-- [2] DRAINED, type RO. -/
abbrev DRAINED (p : Nat) : Fld := ⟨p * 0x1000 + 0x008, 2, 1, 0⟩
/-- [1] ABSENT, type RO. -/
abbrev ABSENT (p : Nat) : Fld := ⟨p * 0x1000 + 0x008, 1, 1, 0⟩
/-- [0] READY, type RO. -/
abbrev READY (p : Nat) : Fld := ⟨p * 0x1000 + 0x008, 0, 1, 0⟩
end PAGE_STAT

-- PAGE_CTL: R85.
namespace PAGE_CTL
/-- [31:16] BLOCK, type KRW. -/
abbrev BLOCK (p : Nat) : Fld := ⟨p * 0x1000 + 0x00C, 16, 16, 0⟩
/-- [1] TAG_CHK, type KRW. -/
abbrev TAG_CHK (p : Nat) : Fld := ⟨p * 0x1000 + 0x00C, 1, 1, 0x1⟩
/-- [0] IRQ_GATE, type RW. -/
abbrev IRQ_GATE (p : Nat) : Fld := ⟨p * 0x1000 + 0x00C, 0, 1, 0x1⟩
end PAGE_CTL

-- PAGE_IRQ_STAT: R85.
namespace PAGE_IRQ_STAT
/-- [15:0] EVT, type W1C. -/
abbrev EVT (p : Nat) : Fld := ⟨p * 0x1000 + 0x010, 0, 16, 0⟩
end PAGE_IRQ_STAT

-- PAGE_IRQ_EN: R85.
namespace PAGE_IRQ_EN
/-- [15:0] EN, type RW. -/
abbrev EN (p : Nat) : Fld := ⟨p * 0x1000 + 0x014, 0, 16, 0⟩
end PAGE_IRQ_EN

-- PAGE_IRQ_SET: R85.
namespace PAGE_IRQ_SET
/-- [15:0] SET, type WO. -/
abbrev SET (p : Nat) : Fld := ⟨p * 0x1000 + 0x018, 0, 16, 0⟩
end PAGE_IRQ_SET

-- PAGE_FLT_STAT: R86.
namespace PAGE_FLT_STAT
/-- [31:16] CAUSE, type RO. -/
abbrev CAUSE (p : Nat) : Fld := ⟨p * 0x1000 + 0x01C, 16, 16, 0⟩
/-- [11:8] ACTIVE, type RO. -/
abbrev ACTIVE (p : Nat) : Fld := ⟨p * 0x1000 + 0x01C, 8, 4, 0⟩
/-- [7:4] ACTED, type RO. -/
abbrev ACTED (p : Nat) : Fld := ⟨p * 0x1000 + 0x01C, 4, 4, 0⟩
/-- [3:0] ACKED, type RO. -/
abbrev ACKED (p : Nat) : Fld := ⟨p * 0x1000 + 0x01C, 0, 4, 0⟩
end PAGE_FLT_STAT

-- PAGE_FLT_ACK: R86.
namespace PAGE_FLT_ACK
/-- [3:0] ACK, type K. -/
abbrev ACK (p : Nat) : Fld := ⟨p * 0x1000 + 0x020, 0, 4, 0⟩
end PAGE_FLT_ACK

-- PAGE_FLT_CFG: R86.
namespace PAGE_FLT_CFG
/-- [23:16] QUIET, type KRW. -/
abbrev QUIET (p : Nat) : Fld := ⟨p * 0x1000 + 0x024, 16, 8, 0x31⟩
/-- [9:0] REACT, type KRW. -/
abbrev REACT (p : Nat) : Fld := ⟨p * 0x1000 + 0x024, 0, 10, 0x64⟩
end PAGE_FLT_CFG

-- PAGE_FLT_INJ: R86.
namespace PAGE_FLT_INJ
/-- [31:16] CAUSE, type K. -/
abbrev CAUSE (p : Nat) : Fld := ⟨p * 0x1000 + 0x028, 16, 16, 0⟩
end PAGE_FLT_INJ

-- PAGE_FLT_CNT: R86.
namespace PAGE_FLT_CNT
/-- [31:16] RECOV, type RO. -/
abbrev RECOV (p : Nat) : Fld := ⟨p * 0x1000 + 0x02C, 16, 16, 0⟩
/-- [15:0] FAULTS, type RO. -/
abbrev FAULTS (p : Nat) : Fld := ⟨p * 0x1000 + 0x02C, 0, 16, 0⟩
end PAGE_FLT_CNT

-- PAGE_LOCK: R86.
namespace PAGE_LOCK
/-- [2] INJ, type KRW. -/
abbrev INJ (p : Nat) : Fld := ⟨p * 0x1000 + 0x030, 2, 1, 0⟩
/-- [1] BY_IMAGE, type RO. -/
abbrev BY_IMAGE (p : Nat) : Fld := ⟨p * 0x1000 + 0x030, 1, 1, 0⟩
/-- [0] CFG, type KRW. -/
abbrev CFG (p : Nat) : Fld := ⟨p * 0x1000 + 0x030, 0, 1, 0⟩
end PAGE_LOCK

-- PAGE_TAG_ERR: R86.
namespace PAGE_TAG_ERR
/-- [22:20] ORIGIN, type RO. -/
abbrev ORIGIN (p : Nat) : Fld := ⟨p * 0x1000 + 0x034, 20, 3, 0⟩
/-- [16] FLAG, type W1C. -/
abbrev FLAG (p : Nat) : Fld := ⟨p * 0x1000 + 0x034, 16, 1, 0⟩
/-- [15:0] COUNT, type RO. -/
abbrev COUNT (p : Nat) : Fld := ⟨p * 0x1000 + 0x034, 0, 16, 0⟩
end PAGE_TAG_ERR

-- HIVE_KSESS_CODE_LO: R95.
namespace HIVE_KSESS_CODE_LO
/-- [31:0] CODE, type WO. -/
abbrev CODE : Fld := ⟨0x00060, 0, 32, 0⟩
end HIVE_KSESS_CODE_LO

-- HIVE_KSESS_CODE_HI: R95.
namespace HIVE_KSESS_CODE_HI
/-- [31:0] CODE, type WO. -/
abbrev CODE : Fld := ⟨0x00064, 0, 32, 0⟩
end HIVE_KSESS_CODE_HI

-- HIVE_KSESS_CTL: R95.
namespace HIVE_KSESS_CTL
/-- [15:8] IDLE, type KRW. -/
abbrev IDLE : Fld := ⟨0x00068, 8, 8, 0x3C⟩
/-- [0] CLOSE, type WO. -/
abbrev CLOSE : Fld := ⟨0x00068, 0, 1, 0⟩
end HIVE_KSESS_CTL

-- HIVE_KSESS_STAT: R95.
namespace HIVE_KSESS_STAT
/-- [31:24] TOTAL_FAILS, type RO. -/
abbrev TOTAL_FAILS : Fld := ⟨0x0006C, 24, 8, 0⟩
/-- [21:16] LOCK_REM, type RO. -/
abbrev LOCK_REM : Fld := ⟨0x0006C, 16, 6, 0⟩
/-- [7:6] FAILS, type RO. -/
abbrev FAILS : Fld := ⟨0x0006C, 6, 2, 0⟩
/-- [5] LOCKOUT, type RO. -/
abbrev LOCKOUT : Fld := ⟨0x0006C, 5, 1, 0⟩
/-- [4] PIN, type RO. -/
abbrev PIN : Fld := ⟨0x0006C, 4, 1, 0⟩
/-- [3:0] OPEN, type RO. -/
abbrev OPEN : Fld := ⟨0x0006C, 0, 4, 0⟩
end HIVE_KSESS_STAT

-- HIVE_KSESS_EVT: R95.
namespace HIVE_KSESS_EVT
/-- [3] LOCKOUT, type W1C. -/
abbrev LOCKOUT : Fld := ⟨0x00070, 3, 1, 0⟩
/-- [2] FAILED, type W1C. -/
abbrev FAILED : Fld := ⟨0x00070, 2, 1, 0⟩
/-- [1] CLOSED, type W1C. -/
abbrev CLOSED : Fld := ⟨0x00070, 1, 1, 0⟩
/-- [0] OPENED, type W1C. -/
abbrev OPENED : Fld := ⟨0x00070, 0, 1, 0⟩
end HIVE_KSESS_EVT

-- HOST_CFG: R112.
namespace HOST_CFG
/-- [15:8] STALL, type KRW. -/
abbrev STALL : Fld := ⟨0x04040, 8, 8, 0xA⟩
/-- [1:0] FIFO, type KRW. -/
abbrev FIFO : Fld := ⟨0x04040, 0, 2, 0⟩
end HOST_CFG

-- HOST_STAT: R112.
namespace HOST_STAT
/-- [31:24] CRC_ERRS, type RO. -/
abbrev CRC_ERRS : Fld := ⟨0x04044, 24, 8, 0⟩
/-- [23:16] ABORTS, type RO. -/
abbrev ABORTS : Fld := ⟨0x04044, 16, 8, 0⟩
/-- [15:12] CODE, type RO. -/
abbrev CODE : Fld := ⟨0x04044, 12, 4, 0⟩
/-- [7:0] INDEX, type RO. -/
abbrev INDEX : Fld := ⟨0x04044, 0, 8, 0⟩
end HOST_STAT

-- CAN_CFG: R118.
namespace CAN_CFG
/-- [23:16] NODE, type KRW. -/
abbrev NODE (n : Nat) : Fld := ⟨(0x05 + n) * 0x1000 + 0x040, 16, 8, 0⟩
/-- [15:8] HB, type KRW. -/
abbrev HB (n : Nat) : Fld := ⟨(0x05 + n) * 0x1000 + 0x040, 8, 8, 0xA⟩
/-- [1] LISTEN, type KRW. -/
abbrev LISTEN (n : Nat) : Fld := ⟨(0x05 + n) * 0x1000 + 0x040, 1, 1, 0⟩
/-- [0] EN, type KRW. -/
abbrev EN (n : Nat) : Fld := ⟨(0x05 + n) * 0x1000 + 0x040, 0, 1, 0⟩
end CAN_CFG

-- CAN_NBT: R118.
namespace CAN_NBT
/-- [31:24] BRP, type KRW. -/
abbrev BRP (n : Nat) : Fld := ⟨(0x05 + n) * 0x1000 + 0x044, 24, 8, 0x4⟩
/-- [23:16] TSEG1, type KRW. -/
abbrev TSEG1 (n : Nat) : Fld := ⟨(0x05 + n) * 0x1000 + 0x044, 16, 8, 0x3E⟩
/-- [15:8] TSEG2, type KRW. -/
abbrev TSEG2 (n : Nat) : Fld := ⟨(0x05 + n) * 0x1000 + 0x044, 8, 8, 0xF⟩
/-- [7:0] SJW, type KRW. -/
abbrev SJW (n : Nat) : Fld := ⟨(0x05 + n) * 0x1000 + 0x044, 0, 8, 0xF⟩
end CAN_NBT

-- CAN_DBT: R118.
namespace CAN_DBT
/-- [31:24] BRP, type KRW. -/
abbrev BRP (n : Nat) : Fld := ⟨(0x05 + n) * 0x1000 + 0x048, 24, 8, 0⟩
/-- [23:16] TSEG1, type KRW. -/
abbrev TSEG1 (n : Nat) : Fld := ⟨(0x05 + n) * 0x1000 + 0x048, 16, 8, 0x4E⟩
/-- [15:8] TSEG2, type KRW. -/
abbrev TSEG2 (n : Nat) : Fld := ⟨(0x05 + n) * 0x1000 + 0x048, 8, 8, 0x13⟩
/-- [7:0] SJW, type KRW. -/
abbrev SJW (n : Nat) : Fld := ⟨(0x05 + n) * 0x1000 + 0x048, 0, 8, 0x13⟩
end CAN_DBT

-- CAN_STAT: R118.
namespace CAN_STAT
/-- [31:24] TEC, type RO. -/
abbrev TEC (n : Nat) : Fld := ⟨(0x05 + n) * 0x1000 + 0x04C, 24, 8, 0⟩
/-- [23:16] REC, type RO. -/
abbrev REC (n : Nat) : Fld := ⟨(0x05 + n) * 0x1000 + 0x04C, 16, 8, 0⟩
/-- [15:8] DROPPED, type RO. -/
abbrev DROPPED (n : Nat) : Fld := ⟨(0x05 + n) * 0x1000 + 0x04C, 8, 8, 0⟩
/-- [1:0] STATE, type RO. -/
abbrev STATE (n : Nat) : Fld := ⟨(0x05 + n) * 0x1000 + 0x04C, 0, 2, 0⟩
end CAN_STAT

-- PH_CTL: R142.
namespace PH_CTL
/-- [6:4] SPEN, type KRW. -/
abbrev SPEN (n : Nat) : Fld := ⟨(0x20 + n) * 0x1000 + 0x040, 4, 3, 0x1⟩
/-- [3] SYNC, type KRW. -/
abbrev SYNC (n : Nat) : Fld := ⟨(0x20 + n) * 0x1000 + 0x040, 3, 1, 0⟩
/-- [2:1] HOLD, type KRW. -/
abbrev HOLD (n : Nat) : Fld := ⟨(0x20 + n) * 0x1000 + 0x040, 1, 2, 0x2⟩
/-- [0] RUN, type KRW. -/
abbrev RUN (n : Nat) : Fld := ⟨(0x20 + n) * 0x1000 + 0x040, 0, 1, 0⟩
end PH_CTL

-- PH_TB_PER: R142.
namespace PH_TB_PER
/-- [16:0] PER, type KRW. -/
abbrev PER (n : Nat) : Fld := ⟨(0x20 + n) * 0x1000 + 0x044, 0, 17, 0xC800⟩
end PH_TB_PER

-- PH_DT: R142.
namespace PH_DT
/-- [31:28] MIN_ON, type KRW. -/
abbrev MIN_ON (n : Nat) : Fld := ⟨(0x20 + n) * 0x1000 + 0x048, 28, 4, 0x4⟩
/-- [26:16] DT_LH, type KRW. -/
abbrev DT_LH (n : Nat) : Fld := ⟨(0x20 + n) * 0x1000 + 0x048, 16, 11, 0x200⟩
/-- [10:0] DT_HL, type KRW. -/
abbrev DT_HL (n : Nat) : Fld := ⟨(0x20 + n) * 0x1000 + 0x048, 0, 11, 0x200⟩
end PH_DT

-- PH_ILV: R142.
namespace PH_ILV
/-- [7:0] ANGLE, type KRW. -/
abbrev ANGLE (n : Nat) : Fld := ⟨(0x20 + n) * 0x1000 + 0x04C, 0, 8, (0x40 * (n % 4))⟩
end PH_ILV

-- PH_CBC: R142.
namespace PH_CBC
/-- [31:24] PERSIST, type KRW. -/
abbrev PERSIST (n : Nat) : Fld := ⟨(0x20 + n) * 0x1000 + 0x050, 24, 8, 0x10⟩
/-- [20:16] LEB, type KRW. -/
abbrev LEB (n : Nat) : Fld := ⟨(0x20 + n) * 0x1000 + 0x050, 16, 5, 0x8⟩
/-- [14:8] NEG, type KRW. -/
abbrev NEG (n : Nat) : Fld := ⟨(0x20 + n) * 0x1000 + 0x050, 8, 7, 0x7F⟩
/-- [6:0] POS, type KRW. -/
abbrev POS (n : Nat) : Fld := ⟨(0x20 + n) * 0x1000 + 0x050, 0, 7, 0x7F⟩
end PH_CBC

-- PH_GDF: R142.
namespace PH_GDF
/-- [7:4] DUV_FILT, type KRW. -/
abbrev DUV_FILT (n : Nat) : Fld := ⟨(0x20 + n) * 0x1000 + 0x054, 4, 4, 0x3⟩
/-- [3:0] DSAT_FILT, type KRW. -/
abbrev DSAT_FILT (n : Nat) : Fld := ⟨(0x20 + n) * 0x1000 + 0x054, 0, 4, 0x3⟩
end PH_GDF

-- PH_SP01: R142.
namespace PH_SP01
/-- [27:16] SP1, type KRW. -/
abbrev SP1 (n : Nat) : Fld := ⟨(0x20 + n) * 0x1000 + 0x058, 16, 12, 0x320⟩
/-- [11:0] SP0, type KRW. -/
abbrev SP0 (n : Nat) : Fld := ⟨(0x20 + n) * 0x1000 + 0x058, 0, 12, 0x62C⟩
end PH_SP01

-- PH_SP23: R142.
namespace PH_SP23
/-- [27:16] SP3, type KRW. -/
abbrev SP3 (n : Nat) : Fld := ⟨(0x20 + n) * 0x1000 + 0x05C, 16, 12, 0⟩
/-- [11:0] SP2, type KRW. -/
abbrev SP2 (n : Nat) : Fld := ⟨(0x20 + n) * 0x1000 + 0x05C, 0, 12, 0⟩
end PH_SP23

-- PH_HOLD: R142.
namespace PH_HOLD
/-- [23:16] FW_MAX, type KRW. -/
abbrev FW_MAX (n : Nat) : Fld := ⟨(0x20 + n) * 0x1000 + 0x060, 16, 8, 0x32⟩
/-- [7:0] ZBAND, type KRW. -/
abbrev ZBAND (n : Nat) : Fld := ⟨(0x20 + n) * 0x1000 + 0x060, 0, 8, 0x19⟩
end PH_HOLD

-- PH_SNS_CAL: R142.
namespace PH_SNS_CAL
/-- [27:16] OFS, type KRW. -/
abbrev OFS (n : Nat) : Fld := ⟨(0x20 + n) * 0x1000 + 0x064, 16, 12, 0⟩
/-- [15:0] GAIN, type KRW. -/
abbrev GAIN (n : Nat) : Fld := ⟨(0x20 + n) * 0x1000 + 0x064, 0, 16, 0x8000⟩
end PH_SNS_CAL

-- PH_SNS_SCALE: R142.
namespace PH_SNS_SCALE
/-- [28:24] SHIFT, type RO. -/
abbrev SHIFT (n : Nat) : Fld := ⟨(0x20 + n) * 0x1000 + 0x068, 24, 5, 0xF⟩
/-- [23:0] NUM, type RO. -/
abbrev NUM (n : Nat) : Fld := ⟨(0x20 + n) * 0x1000 + 0x068, 0, 24, 0x9C40⟩
end PH_SNS_SCALE

-- PH_STAT: R142.
namespace PH_STAT
/-- [31:24] ISSUED_IDX, type RO. -/
abbrev ISSUED_IDX (n : Nat) : Fld := ⟨(0x20 + n) * 0x1000 + 0x06C, 24, 8, 0⟩
/-- [23:16] NEXT_IDX, type RO. -/
abbrev NEXT_IDX (n : Nat) : Fld := ⟨(0x20 + n) * 0x1000 + 0x06C, 16, 8, 0⟩
/-- [15] PER_PENDING, type RO. -/
abbrev PER_PENDING (n : Nat) : Fld := ⟨(0x20 + n) * 0x1000 + 0x06C, 15, 1, 0⟩
/-- [14] WALKING, type RO. -/
abbrev WALKING (n : Nat) : Fld := ⟨(0x20 + n) * 0x1000 + 0x06C, 14, 1, 0⟩
/-- [13:12] SLOTS, type RO. -/
abbrev SLOTS (n : Nat) : Fld := ⟨(0x20 + n) * 0x1000 + 0x06C, 12, 2, 0⟩
/-- [11] CBC_NOW, type RO. -/
abbrev CBC_NOW (n : Nat) : Fld := ⟨(0x20 + n) * 0x1000 + 0x06C, 11, 1, 0⟩
/-- [10:8] HOLD_CAUSE, type RO. -/
abbrev HOLD_CAUSE (n : Nat) : Fld := ⟨(0x20 + n) * 0x1000 + 0x06C, 8, 3, 0⟩
/-- [2:0] STATE, type RO. -/
abbrev STATE (n : Nat) : Fld := ⟨(0x20 + n) * 0x1000 + 0x06C, 0, 3, 0⟩
end PH_STAT

-- PH_ISNS_EOP: R142.
namespace PH_ISNS_EOP
/-- [31] CLIP, type RO. -/
abbrev CLIP (n : Nat) : Fld := ⟨(0x20 + n) * 0x1000 + 0x070, 31, 1, 0⟩
/-- [28:0] VALUE, type RO. -/
abbrev VALUE (n : Nat) : Fld := ⟨(0x20 + n) * 0x1000 + 0x070, 0, 29, 0⟩
end PH_ISNS_EOP

-- PH_CNT0: R142.
namespace PH_CNT0
/-- [31:16] STALE, type RO. -/
abbrev STALE (n : Nat) : Fld := ⟨(0x20 + n) * 0x1000 + 0x074, 16, 16, 0⟩
/-- [15:0] UNDER, type RO. -/
abbrev UNDER (n : Nat) : Fld := ⟨(0x20 + n) * 0x1000 + 0x074, 0, 16, 0⟩
end PH_CNT0

-- PH_CNT1: R142.
namespace PH_CNT1
/-- [31:16] CLIPPED, type RO. -/
abbrev CLIPPED (n : Nat) : Fld := ⟨(0x20 + n) * 0x1000 + 0x078, 16, 16, 0⟩
/-- [15:0] CBC, type RO. -/
abbrev CBC (n : Nat) : Fld := ⟨(0x20 + n) * 0x1000 + 0x078, 0, 16, 0⟩
end PH_CNT1

-- CMB_CTL: R175.
namespace CMB_CTL
/-- [11:10] PDPH, type KRW. -/
abbrev PDPH (n : Nat) : Fld := ⟨(0x10 + n) * 0x1000 + 0x040, 10, 2, 0x3⟩
/-- [1] ANT_EN, type KRW. -/
abbrev ANT_EN (n : Nat) : Fld := ⟨(0x10 + n) * 0x1000 + 0x040, 1, 1, 0x1⟩
/-- [0] EN, type KRW. -/
abbrev EN (n : Nat) : Fld := ⟨(0x10 + n) * 0x1000 + 0x040, 0, 1, 0⟩
end CMB_CTL

-- CMB_MARK: R175.
namespace CMB_MARK
/-- [16:0] PER, type KRW. -/
abbrev PER (n : Nat) : Fld := ⟨(0x10 + n) * 0x1000 + 0x044, 0, 17, 0xC800⟩
end CMB_MARK

-- CMB_PLAN_CTL: R175.
namespace CMB_PLAN_CTL
/-- [23:16] MODEL, type KRW. -/
abbrev MODEL (n : Nat) : Fld := ⟨(0x10 + n) * 0x1000 + 0x048, 16, 8, 0⟩
/-- [15:8] TUPD, type KRW. -/
abbrev TUPD (n : Nat) : Fld := ⟨(0x10 + n) * 0x1000 + 0x048, 8, 8, 0xA⟩
/-- [4:0] DEPTH, type KRW. -/
abbrev DEPTH (n : Nat) : Fld := ⟨(0x10 + n) * 0x1000 + 0x048, 0, 5, 0x10⟩
end CMB_PLAN_CTL

-- CMB_ANT_CFG: R175.
namespace CMB_ANT_CFG
/-- [31:24] PREBIAS, type KRW. -/
abbrev PREBIAS (n : Nat) : Fld := ⟨(0x10 + n) * 0x1000 + 0x04C, 24, 8, 0xC0⟩
/-- [23:16] PRE_PER, type KRW. -/
abbrev PRE_PER (n : Nat) : Fld := ⟨(0x10 + n) * 0x1000 + 0x04C, 16, 8, 0x8⟩
/-- [15:8] VHEAD, type KRW. -/
abbrev VHEAD (n : Nat) : Fld := ⟨(0x10 + n) * 0x1000 + 0x04C, 8, 8, 0x5⟩
end CMB_ANT_CFG

-- CMB_STORM: R175.
namespace CMB_STORM
/-- [15:8] WIN16, type KRW. -/
abbrev WIN16 (n : Nat) : Fld := ⟨(0x10 + n) * 0x1000 + 0x050, 8, 8, 0x10⟩
/-- [7:0] TH, type KRW. -/
abbrev TH (n : Nat) : Fld := ⟨(0x10 + n) * 0x1000 + 0x050, 0, 8, 0x20⟩
end CMB_STORM

-- CMB_GANG: R175.
namespace CMB_GANG
/-- [11:8] MEMBERS, type RO. -/
abbrev MEMBERS (n : Nat) : Fld := ⟨(0x10 + n) * 0x1000 + 0x054, 8, 4, 0⟩
/-- [5:4] STATE, type RO. -/
abbrev STATE (n : Nat) : Fld := ⟨(0x10 + n) * 0x1000 + 0x054, 4, 2, 0⟩
/-- [3:0] REQ, type KRW. -/
abbrev REQ (n : Nat) : Fld := ⟨(0x10 + n) * 0x1000 + 0x054, 0, 4, 0⟩
end CMB_GANG

-- CMB_STAT: R175.
namespace CMB_STAT
/-- [31:28] DEGRADED, type RO. -/
abbrev DEGRADED (n : Nat) : Fld := ⟨(0x10 + n) * 0x1000 + 0x058, 28, 4, 0⟩
/-- [27:24] COUPLED, type RO. -/
abbrev COUPLED (n : Nat) : Fld := ⟨(0x10 + n) * 0x1000 + 0x058, 24, 4, 0⟩
/-- [23] STORM, type RO. -/
abbrev STORM (n : Nat) : Fld := ⟨(0x10 + n) * 0x1000 + 0x058, 23, 1, 0⟩
/-- [22] GEN, type RO. -/
abbrev GEN (n : Nat) : Fld := ⟨(0x10 + n) * 0x1000 + 0x058, 22, 1, 0⟩
/-- [15:8] INFLIGHT, type RO. -/
abbrev INFLIGHT (n : Nat) : Fld := ⟨(0x10 + n) * 0x1000 + 0x058, 8, 8, 0⟩
/-- [4:0] ANTQ, type RO. -/
abbrev ANTQ (n : Nat) : Fld := ⟨(0x10 + n) * 0x1000 + 0x058, 0, 5, 0⟩
end CMB_STAT

-- CMB_CONSEC: R175.
namespace CMB_CONSEC
/-- [31:16] STORM_CNT, type RO. -/
abbrev STORM_CNT (n : Nat) : Fld := ⟨(0x10 + n) * 0x1000 + 0x05C, 16, 16, 0⟩
/-- [15:0] CONSEC, type RO. -/
abbrev CONSEC (n : Nat) : Fld := ⟨(0x10 + n) * 0x1000 + 0x05C, 0, 16, 0⟩
end CMB_CONSEC

-- CMB_MISS01: R175.
namespace CMB_MISS01
/-- [31:16] MISS1, type RO. -/
abbrev MISS1 (n : Nat) : Fld := ⟨(0x10 + n) * 0x1000 + 0x060, 16, 16, 0⟩
/-- [15:0] MISS0, type RO. -/
abbrev MISS0 (n : Nat) : Fld := ⟨(0x10 + n) * 0x1000 + 0x060, 0, 16, 0⟩
end CMB_MISS01

-- CMB_MISS23: R175.
namespace CMB_MISS23
/-- [31:16] MISS3, type RO. -/
abbrev MISS3 (n : Nat) : Fld := ⟨(0x10 + n) * 0x1000 + 0x064, 16, 16, 0⟩
/-- [15:0] MISS2, type RO. -/
abbrev MISS2 (n : Nat) : Fld := ⟨(0x10 + n) * 0x1000 + 0x064, 0, 16, 0⟩
end CMB_MISS23

-- CMB_SQ_CNT: R175.
namespace CMB_SQ_CNT
/-- [31:16] STORMS, type RO. -/
abbrev STORMS (n : Nat) : Fld := ⟨(0x10 + n) * 0x1000 + 0x068, 16, 16, 0⟩
/-- [15:0] SQUASHES, type RO. -/
abbrev SQUASHES (n : Nat) : Fld := ⟨(0x10 + n) * 0x1000 + 0x068, 0, 16, 0⟩
end CMB_SQ_CNT

-- CMB_CONF_LO: R175.
namespace CMB_CONF_LO
/-- [31:0] CONF, type RO. -/
abbrev CONF (n : Nat) : Fld := ⟨(0x10 + n) * 0x1000 + 0x06C, 0, 32, 0⟩
end CMB_CONF_LO

-- CMB_CONF_HI: R175.
namespace CMB_CONF_HI
/-- [31:0] CONF, type RO. -/
abbrev CONF (n : Nat) : Fld := ⟨(0x10 + n) * 0x1000 + 0x070, 0, 32, 0⟩
end CMB_CONF_HI

-- CMB_ANT_POST_LO: R175.
namespace CMB_ANT_POST_LO
/-- [31:0] REC, type WO. -/
abbrev REC (n : Nat) : Fld := ⟨(0x10 + n) * 0x1000 + 0x074, 0, 32, 0⟩
end CMB_ANT_POST_LO

-- CMB_ANT_POST_HI: R175.
namespace CMB_ANT_POST_HI
/-- [31:0] REC, type WO. -/
abbrev REC (n : Nat) : Fld := ⟨(0x10 + n) * 0x1000 + 0x078, 0, 32, 0⟩
end CMB_ANT_POST_HI

-- CMB_ANT_CNT: R175.
namespace CMB_ANT_CNT
/-- [31:24] LATE, type RO. -/
abbrev LATE (n : Nat) : Fld := ⟨(0x10 + n) * 0x1000 + 0x07C, 24, 8, 0⟩
/-- [23:16] OVF, type RO. -/
abbrev OVF (n : Nat) : Fld := ⟨(0x10 + n) * 0x1000 + 0x07C, 16, 8, 0⟩
/-- [15:0] ACCEPTED, type RO. -/
abbrev ACCEPTED (n : Nat) : Fld := ⟨(0x10 + n) * 0x1000 + 0x07C, 0, 16, 0⟩
end CMB_ANT_CNT

-- CMB_PEEK_SEL: R175.
namespace CMB_PEEK_SEL
/-- [5:4] PHASE, type RW. -/
abbrev PHASE (n : Nat) : Fld := ⟨(0x10 + n) * 0x1000 + 0x080, 4, 2, 0⟩
/-- [3:0] POS, type RW. -/
abbrev POS (n : Nat) : Fld := ⟨(0x10 + n) * 0x1000 + 0x080, 0, 4, 0⟩
end CMB_PEEK_SEL

-- CMB_PEEK0: R175.
namespace CMB_PEEK0
/-- [31:0] ENTRY, type RO. -/
abbrev ENTRY (n : Nat) : Fld := ⟨(0x10 + n) * 0x1000 + 0x084, 0, 32, 0⟩
end CMB_PEEK0

-- CMB_PEEK1: R175.
namespace CMB_PEEK1
/-- [31:0] ENTRY, type RO. -/
abbrev ENTRY (n : Nat) : Fld := ⟨(0x10 + n) * 0x1000 + 0x088, 0, 32, 0⟩
end CMB_PEEK1

-- CMB_PEEK2: R175.
namespace CMB_PEEK2
/-- [31:0] ENTRY, type RO. -/
abbrev ENTRY (n : Nat) : Fld := ⟨(0x10 + n) * 0x1000 + 0x08C, 0, 32, 0⟩
end CMB_PEEK2

-- CMB_PEEK3: R175.
namespace CMB_PEEK3
/-- [31:0] ENTRY, type RO. -/
abbrev ENTRY (n : Nat) : Fld := ⟨(0x10 + n) * 0x1000 + 0x090, 0, 32, 0⟩
end CMB_PEEK3

-- CMB_LAST_MISS: R175.
namespace CMB_LAST_MISS
/-- [28:27] PHASE, type RO. -/
abbrev PHASE (n : Nat) : Fld := ⟨(0x10 + n) * 0x1000 + 0x094, 27, 2, 0⟩
/-- [26:19] INDEX, type RO. -/
abbrev INDEX (n : Nat) : Fld := ⟨(0x10 + n) * 0x1000 + 0x094, 19, 8, 0⟩
/-- [18:16] CAUSE, type RO. -/
abbrev CAUSE (n : Nat) : Fld := ⟨(0x10 + n) * 0x1000 + 0x094, 16, 3, 0⟩
/-- [15:0] DEV, type RO. -/
abbrev DEV (n : Nat) : Fld := ⟨(0x10 + n) * 0x1000 + 0x094, 0, 16, 0⟩
end CMB_LAST_MISS

-- CMB_PP_CTL: R202.
namespace CMB_PP_CTL
/-- [23:16] QUAL, type KRW. -/
abbrev QUAL (n : Nat) : Fld := ⟨(0x10 + n) * 0x1000 + 0x0A0, 16, 8, 0x64⟩
/-- [15:8] RET_DLY, type KRW. -/
abbrev RET_DLY (n : Nat) : Fld := ⟨(0x10 + n) * 0x1000 + 0x0A0, 8, 8, 0x1E⟩
/-- [7] SHARE_EN, type KRW. -/
abbrev SHARE_EN (n : Nat) : Fld := ⟨(0x10 + n) * 0x1000 + 0x0A0, 7, 1, 0⟩
/-- [6] SUP_EN, type KRW. -/
abbrev SUP_EN (n : Nat) : Fld := ⟨(0x10 + n) * 0x1000 + 0x0A0, 6, 1, 0x1⟩
/-- [5] REVERT, type KRW. -/
abbrev REVERT (n : Nat) : Fld := ⟨(0x10 + n) * 0x1000 + 0x0A0, 5, 1, 0x1⟩
/-- [4] PRI, type KRW. -/
abbrev PRI (n : Nat) : Fld := ⟨(0x10 + n) * 0x1000 + 0x0A0, 4, 1, 0⟩
/-- [3:2] SEL, type KRW. -/
abbrev SEL (n : Nat) : Fld := ⟨(0x10 + n) * 0x1000 + 0x0A0, 2, 2, 0⟩
/-- [0] EN, type KRW. -/
abbrev EN (n : Nat) : Fld := ⟨(0x10 + n) * 0x1000 + 0x0A0, 0, 1, 0⟩
end CMB_PP_CTL

-- CMB_PP_STAT: R202.
namespace CMB_PP_STAT
/-- [19:16] GOVERN, type RO. -/
abbrev GOVERN (n : Nat) : Fld := ⟨(0x10 + n) * 0x1000 + 0x0A4, 16, 4, 0⟩
/-- [12] SHARE_LIVE, type RO. -/
abbrev SHARE_LIVE (n : Nat) : Fld := ⟨(0x10 + n) * 0x1000 + 0x0A4, 12, 1, 0⟩
/-- [11] SHEDDING, type RO. -/
abbrev SHEDDING (n : Nat) : Fld := ⟨(0x10 + n) * 0x1000 + 0x0A4, 11, 1, 0⟩
/-- [10] RAMP, type RO. -/
abbrev RAMP (n : Nat) : Fld := ⟨(0x10 + n) * 0x1000 + 0x0A4, 10, 1, 0⟩
/-- [9] BREAK, type RO. -/
abbrev BREAK (n : Nat) : Fld := ⟨(0x10 + n) * 0x1000 + 0x0A4, 9, 1, 0⟩
/-- [8] USABLE, type RO. -/
abbrev USABLE (n : Nat) : Fld := ⟨(0x10 + n) * 0x1000 + 0x0A4, 8, 1, 0⟩
/-- [7:6] QUALIFIED, type RO. -/
abbrev QUALIFIED (n : Nat) : Fld := ⟨(0x10 + n) * 0x1000 + 0x0A4, 6, 2, 0⟩
/-- [5:4] ON, type RO. -/
abbrev ON (n : Nat) : Fld := ⟨(0x10 + n) * 0x1000 + 0x0A4, 4, 2, 0⟩
/-- [3] ACTIVE, type RO. -/
abbrev ACTIVE (n : Nat) : Fld := ⟨(0x10 + n) * 0x1000 + 0x0A4, 3, 1, 0⟩
/-- [2:0] MODE, type RO. -/
abbrev MODE (n : Nat) : Fld := ⟨(0x10 + n) * 0x1000 + 0x0A4, 0, 3, 0⟩
end CMB_PP_STAT

-- CMB_CHGOVR: R202.
namespace CMB_CHGOVR
/-- [23:16] BREAK_EST, type KRW. -/
abbrev BREAK_EST (n : Nat) : Fld := ⟨(0x10 + n) * 0x1000 + 0x0A8, 16, 8, 0x5⟩
/-- [15:8] LEAD, type KRW. -/
abbrev LEAD (n : Nat) : Fld := ⟨(0x10 + n) * 0x1000 + 0x0A8, 8, 8, 0x14⟩
/-- [7:0] BBM_GAP, type KRW. -/
abbrev BBM_GAP (n : Nat) : Fld := ⟨(0x10 + n) * 0x1000 + 0x0A8, 0, 8, 0x5⟩
end CMB_CHGOVR

-- CMB_VSYS: R202.
namespace CMB_VSYS
/-- [15:0] TGT, type KRW. -/
abbrev TGT (n : Nat) : Fld := ⟨(0x10 + n) * 0x1000 + 0x0AC, 0, 16, 0⟩
end CMB_VSYS

-- CMB_VBB_LIM: R202.
namespace CMB_VBB_LIM
/-- [31:16] MIN, type KRW. -/
abbrev MIN (n : Nat) : Fld := ⟨(0x10 + n) * 0x1000 + 0x0B0, 16, 16, 0⟩
/-- [15:0] CUT, type KRW. -/
abbrev CUT (n : Nat) : Fld := ⟨(0x10 + n) * 0x1000 + 0x0B0, 0, 16, 0⟩
end CMB_VBB_LIM

-- CMB_VBB_CFG: R202.
namespace CMB_VBB_CFG
/-- [11:8] KEEP, type KRW. -/
abbrev KEEP (n : Nat) : Fld := ⟨(0x10 + n) * 0x1000 + 0x0B4, 8, 4, 0⟩
/-- [7:0] HYST, type KRW. -/
abbrev HYST (n : Nat) : Fld := ⟨(0x10 + n) * 0x1000 + 0x0B4, 0, 8, 0⟩
end CMB_VBB_CFG

-- CMB_SUP: R202.
namespace CMB_SUP
/-- [31:16] LIM, type KRW. -/
abbrev LIM (n : Nat) : Fld := ⟨(0x10 + n) * 0x1000 + 0x0B8, 16, 16, 0xFA0⟩
/-- [15:8] HOLD, type KRW. -/
abbrev HOLD (n : Nat) : Fld := ⟨(0x10 + n) * 0x1000 + 0x0B8, 8, 8, 0x32⟩
/-- [7:0] EXIT, type KRW. -/
abbrev EXIT (n : Nat) : Fld := ⟨(0x10 + n) * 0x1000 + 0x0B8, 0, 8, 0x14⟩
end CMB_SUP

-- CMB_SRC0_BUD: R202.
namespace CMB_SRC0_BUD
/-- [31:16] CEIL, type KRW. -/
abbrev CEIL (n : Nat) : Fld := ⟨(0x10 + n) * 0x1000 + 0x0BC, 16, 16, 0xFFFF⟩
/-- [15:0] LIM, type RW. -/
abbrev LIM (n : Nat) : Fld := ⟨(0x10 + n) * 0x1000 + 0x0BC, 0, 16, 0xFFFF⟩
end CMB_SRC0_BUD

-- CMB_SRC1_BUD: R202.
namespace CMB_SRC1_BUD
/-- [31:16] CEIL, type KRW. -/
abbrev CEIL (n : Nat) : Fld := ⟨(0x10 + n) * 0x1000 + 0x0C0, 16, 16, 0xFFFF⟩
/-- [15:0] LIM, type RW. -/
abbrev LIM (n : Nat) : Fld := ⟨(0x10 + n) * 0x1000 + 0x0C0, 0, 16, 0xFFFF⟩
end CMB_SRC1_BUD

-- CMB_BUDGET: R202.
namespace CMB_BUDGET
/-- [31:16] CEIL, type KRW. -/
abbrev CEIL (n : Nat) : Fld := ⟨(0x10 + n) * 0x1000 + 0x0C4, 16, 16, 0xFFFF⟩
/-- [15:0] LIM, type RW. -/
abbrev LIM (n : Nat) : Fld := ⟨(0x10 + n) * 0x1000 + 0x0C4, 0, 16, 0xFFFF⟩
end CMB_BUDGET

-- CMB_PD_BUDGET: R202.
namespace CMB_PD_BUDGET
/-- [31:16] CEIL, type KRW. -/
abbrev CEIL (n : Nat) : Fld := ⟨(0x10 + n) * 0x1000 + 0x0C8, 16, 16, 0x1F4⟩
/-- [15:0] LIM, type RW. -/
abbrev LIM (n : Nat) : Fld := ⟨(0x10 + n) * 0x1000 + 0x0C8, 0, 16, 0x96⟩
end CMB_PD_BUDGET

-- CMB_BUDGET_SLEW: R202.
namespace CMB_BUDGET_SLEW
/-- [11:0] SLEW, type KRW. -/
abbrev SLEW (n : Nat) : Fld := ⟨(0x10 + n) * 0x1000 + 0x0CC, 0, 12, 0x64⟩
end CMB_BUDGET_SLEW

-- CMB_SHED_PRI: R202.
namespace CMB_SHED_PRI
/-- [27:0] PRI, type KRW. -/
abbrev PRI (n : Nat) : Fld := ⟨(0x10 + n) * 0x1000 + 0x0D0, 0, 28, 0⟩
end CMB_SHED_PRI

-- CMB_SHED_STAT: R202.
namespace CMB_SHED_STAT
/-- [6:0] SHED, type W1C. -/
abbrev SHED (n : Nat) : Fld := ⟨(0x10 + n) * 0x1000 + 0x0D4, 0, 7, 0⟩
end CMB_SHED_STAT

-- CMB_PP_LOOP: R202.
namespace CMB_PP_LOOP
/-- [15:8] KI_V, type KRW. -/
abbrev KI_V (n : Nat) : Fld := ⟨(0x10 + n) * 0x1000 + 0x0D8, 8, 8, 0x40⟩
/-- [7:0] KI_I, type KRW. -/
abbrev KI_I (n : Nat) : Fld := ⟨(0x10 + n) * 0x1000 + 0x0D8, 0, 8, 0x10⟩
end CMB_PP_LOOP

-- CMB_PP_EVT: R202.
namespace CMB_PP_EVT
/-- [31:16] EN, type RW. -/
abbrev EN (n : Nat) : Fld := ⟨(0x10 + n) * 0x1000 + 0x0DC, 16, 16, 0⟩
/-- [13:0] EVT, type W1C. -/
abbrev EVT (n : Nat) : Fld := ⟨(0x10 + n) * 0x1000 + 0x0DC, 0, 14, 0⟩
end CMB_PP_EVT

-- CMB_TARGET: R202.
namespace CMB_TARGET
/-- [31:16] LIMIT, type RO. -/
abbrev LIMIT (n : Nat) : Fld := ⟨(0x10 + n) * 0x1000 + 0x0E0, 16, 16, 0xFFFF⟩
/-- [15:0] TGT, type RO. -/
abbrev TGT (n : Nat) : Fld := ⟨(0x10 + n) * 0x1000 + 0x0E0, 0, 16, 0⟩
end CMB_TARGET

-- CMB_SHARE: R202.
namespace CMB_SHARE
/-- [31:24] HOLD, type KRW. -/
abbrev HOLD (n : Nat) : Fld := ⟨(0x10 + n) * 0x1000 + 0x0E4, 24, 8, 0x5⟩
/-- [15:0] DEFICIT, type RO. -/
abbrev DEFICIT (n : Nat) : Fld := ⟨(0x10 + n) * 0x1000 + 0x0E4, 0, 16, 0⟩
end CMB_SHARE

-- PINS_LAMP_SEL: R229.
namespace PINS_LAMP_SEL
/-- [31:0] SEL, type KRW. -/
abbrev SEL : Fld := ⟨0x0C080, 0, 32, 0x76543210⟩
end PINS_LAMP_SEL

-- CHG_CTL: R236.
namespace CHG_CTL
/-- [11:8] PROFILE, type KRW. -/
abbrev PROFILE (n : Nat) : Fld := ⟨(0x88 + n) * 0x1000 + 0x040, 8, 4, 0⟩
/-- [3] STRETCH_BUD, type KRW. -/
abbrev STRETCH_BUD (n : Nat) : Fld := ⟨(0x88 + n) * 0x1000 + 0x040, 3, 1, 0⟩
/-- [2] FOLLOW, type KRW. -/
abbrev FOLLOW (n : Nat) : Fld := ⟨(0x88 + n) * 0x1000 + 0x040, 2, 1, 0⟩
/-- [0] EN, type KRW. -/
abbrev EN (n : Nat) : Fld := ⟨(0x88 + n) * 0x1000 + 0x040, 0, 1, 0⟩
end CHG_CTL

-- CHG_CMD: R236.
namespace CHG_CMD
/-- [15:8] OP, type K. -/
abbrev OP (n : Nat) : Fld := ⟨(0x88 + n) * 0x1000 + 0x044, 8, 8, 0⟩
/-- [7:0] ARG, type K. -/
abbrev ARG (n : Nat) : Fld := ⟨(0x88 + n) * 0x1000 + 0x044, 0, 8, 0⟩
end CHG_CMD

-- CHG_TRIM: R236.
namespace CHG_TRIM
/-- [15:8] CEIL, type KRW. -/
abbrev CEIL (n : Nat) : Fld := ⟨(0x88 + n) * 0x1000 + 0x048, 8, 8, 0x64⟩
/-- [7:0] SCALE, type RW. -/
abbrev SCALE (n : Nat) : Fld := ⟨(0x88 + n) * 0x1000 + 0x048, 0, 8, 0x64⟩
end CHG_TRIM

-- CHG_STAT: R236.
namespace CHG_STAT
/-- [31] FOLLOWER, type RO. -/
abbrev FOLLOWER (n : Nat) : Fld := ⟨(0x88 + n) * 0x1000 + 0x04C, 31, 1, 0⟩
/-- [30] RESUMED, type RO. -/
abbrev RESUMED (n : Nat) : Fld := ⟨(0x88 + n) * 0x1000 + 0x04C, 30, 1, 0⟩
/-- [29] PROBING, type RO. -/
abbrev PROBING (n : Nat) : Fld := ⟨(0x88 + n) * 0x1000 + 0x04C, 29, 1, 0⟩
/-- [28] LIMITED, type RO. -/
abbrev LIMITED (n : Nat) : Fld := ⟨(0x88 + n) * 0x1000 + 0x04C, 28, 1, 0⟩
/-- [27] DV_ARMED, type RO. -/
abbrev DV_ARMED (n : Nat) : Fld := ⟨(0x88 + n) * 0x1000 + 0x04C, 27, 1, 0⟩
/-- [26] DTDT_VALID, type RO. -/
abbrev DTDT_VALID (n : Nat) : Fld := ⟨(0x88 + n) * 0x1000 + 0x04C, 26, 1, 0⟩
/-- [25] SWEEP_PEND, type RO. -/
abbrev SWEEP_PEND (n : Nat) : Fld := ⟨(0x88 + n) * 0x1000 + 0x04C, 25, 1, 0⟩
/-- [22:20] LAMP, type RO. -/
abbrev LAMP (n : Nat) : Fld := ⟨(0x88 + n) * 0x1000 + 0x04C, 20, 3, 0⟩
/-- [19:16] KIND, type RO. -/
abbrev KIND (n : Nat) : Fld := ⟨(0x88 + n) * 0x1000 + 0x04C, 16, 4, 0⟩
/-- [15:14] MODE, type RO. -/
abbrev MODE (n : Nat) : Fld := ⟨(0x88 + n) * 0x1000 + 0x04C, 14, 2, 0⟩
/-- [5:0] STATE, type RO. -/
abbrev STATE (n : Nat) : Fld := ⟨(0x88 + n) * 0x1000 + 0x04C, 0, 6, 0⟩
end CHG_STAT

-- CHG_SAFE: R236.
namespace CHG_SAFE
/-- [31:0] T_SAFE, type RO. -/
abbrev T_SAFE (n : Nat) : Fld := ⟨(0x88 + n) * 0x1000 + 0x050, 0, 32, 0⟩
end CHG_SAFE

-- CHG_WALL: R236.
namespace CHG_WALL
/-- [31:0] T_STATE, type RO. -/
abbrev T_STATE (n : Nat) : Fld := ⟨(0x88 + n) * 0x1000 + 0x054, 0, 32, 0⟩
end CHG_WALL

-- CHG_SETPT: R236.
namespace CHG_SETPT
/-- [31:16] V_EFF, type RO. -/
abbrev V_EFF (n : Nat) : Fld := ⟨(0x88 + n) * 0x1000 + 0x058, 16, 16, 0⟩
/-- [15:0] I_EFF, type RO. -/
abbrev I_EFF (n : Nat) : Fld := ⟨(0x88 + n) * 0x1000 + 0x058, 0, 16, 0⟩
end CHG_SETPT

-- CHG_AH_STATE: R236.
namespace CHG_AH_STATE
/-- [31:0] AH, type RO. -/
abbrev AH (n : Nat) : Fld := ⟨(0x88 + n) * 0x1000 + 0x05C, 0, 32, 0⟩
end CHG_AH_STATE

-- CHG_AH_TOTAL: R236.
namespace CHG_AH_TOTAL
/-- [31:0] AH, type RO. -/
abbrev AH (n : Nat) : Fld := ⟨(0x88 + n) * 0x1000 + 0x060, 0, 32, 0⟩
end CHG_AH_TOTAL

-- CHG_VCELL: R236.
namespace CHG_VCELL
/-- [31:16] PEAK, type RO. -/
abbrev PEAK (n : Nat) : Fld := ⟨(0x88 + n) * 0x1000 + 0x064, 16, 16, 0⟩
/-- [15:0] VCELL, type RO. -/
abbrev VCELL (n : Nat) : Fld := ⟨(0x88 + n) * 0x1000 + 0x064, 0, 16, 0⟩
end CHG_VCELL

-- CHG_DV: R236.
namespace CHG_DV
/-- [31:16] DTDT, type RO. -/
abbrev DTDT (n : Nat) : Fld := ⟨(0x88 + n) * 0x1000 + 0x068, 16, 16, 0⟩
/-- [15:0] NDV, type RO. -/
abbrev NDV (n : Nat) : Fld := ⟨(0x88 + n) * 0x1000 + 0x068, 0, 16, 0⟩
end CHG_DV

-- CHG_TEMP: R236.
namespace CHG_TEMP
/-- [15:0] T_BAT, type RO. -/
abbrev T_BAT (n : Nat) : Fld := ⟨(0x88 + n) * 0x1000 + 0x06C, 0, 16, 0⟩
end CHG_TEMP

-- CHG_ACC: R236.
namespace CHG_ACC
/-- [24:16] IACC, type KRW. -/
abbrev IACC (n : Nat) : Fld := ⟨(0x88 + n) * 0x1000 + 0x070, 16, 9, 0⟩
/-- [8:0] VACC, type KRW. -/
abbrev VACC (n : Nat) : Fld := ⟨(0x88 + n) * 0x1000 + 0x070, 0, 9, 0⟩
end CHG_ACC

-- CHG_ABS: R236.
namespace CHG_ABS
/-- [31:24] PERIOD, type KRW. -/
abbrev PERIOD (n : Nat) : Fld := ⟨(0x88 + n) * 0x1000 + 0x074, 24, 8, 0x3C⟩
/-- [23:16] PROBE_T, type KRW. -/
abbrev PROBE_T (n : Nat) : Fld := ⟨(0x88 + n) * 0x1000 + 0x074, 16, 8, 0x32⟩
/-- [15:8] PROBE_DV, type KRW. -/
abbrev PROBE_DV (n : Nat) : Fld := ⟨(0x88 + n) * 0x1000 + 0x074, 8, 8, 0x32⟩
/-- [7:0] I_TH, type KRW. -/
abbrev I_TH (n : Nat) : Fld := ⟨(0x88 + n) * 0x1000 + 0x074, 0, 8, 0x32⟩
end CHG_ABS

-- CHG_RET: R236.
namespace CHG_RET
/-- [31:16] RET_VMIN, type KRW. -/
abbrev RET_VMIN (n : Nat) : Fld := ⟨(0x88 + n) * 0x1000 + 0x078, 16, 16, 0x320⟩
/-- [15:0] ABS_ELAPSED, type RO. -/
abbrev ABS_ELAPSED (n : Nat) : Fld := ⟨(0x88 + n) * 0x1000 + 0x078, 0, 16, 0⟩
end CHG_RET

-- CHG_LAST: R236.
namespace CHG_LAST
/-- [23:20] CAUSE, type RO. -/
abbrev CAUSE (n : Nat) : Fld := ⟨(0x88 + n) * 0x1000 + 0x07C, 20, 4, 0⟩
/-- [17:16] EXIT, type RO. -/
abbrev EXIT (n : Nat) : Fld := ⟨(0x88 + n) * 0x1000 + 0x07C, 16, 2, 0⟩
/-- [13:8] TO, type RO. -/
abbrev TO (n : Nat) : Fld := ⟨(0x88 + n) * 0x1000 + 0x07C, 8, 6, 0⟩
/-- [5:0] FROM, type RO. -/
abbrev FROM (n : Nat) : Fld := ⟨(0x88 + n) * 0x1000 + 0x07C, 0, 6, 0⟩
end CHG_LAST

-- CHG_ABS_CNT: R236.
namespace CHG_ABS_CNT
/-- [31:16] REMOVALS, type RO. -/
abbrev REMOVALS (n : Nat) : Fld := ⟨(0x88 + n) * 0x1000 + 0x080, 16, 16, 0⟩
/-- [15:0] PROBES, type RO. -/
abbrev PROBES (n : Nat) : Fld := ⟨(0x88 + n) * 0x1000 + 0x080, 0, 16, 0⟩
end CHG_ABS_CNT

-- CHG_IMP_CTL: R255.
namespace CHG_IMP_CTL
/-- [8] EN, type KRW. -/
abbrev EN (n : Nat) : Fld := ⟨(0x88 + n) * 0x1000 + 0x100, 8, 1, 0⟩
/-- [1] ABORT, type WO. -/
abbrev ABORT (n : Nat) : Fld := ⟨(0x88 + n) * 0x1000 + 0x100, 1, 1, 0⟩
/-- [0] START, type WO. -/
abbrev START (n : Nat) : Fld := ⟨(0x88 + n) * 0x1000 + 0x100, 0, 1, 0⟩
end CHG_IMP_CTL

-- CHG_IMP_ACC: R255.
namespace CHG_IMP_ACC
/-- [8:0] BASE, type KRW. -/
abbrev BASE (n : Nat) : Fld := ⟨(0x88 + n) * 0x1000 + 0x104, 0, 9, 0⟩
end CHG_IMP_ACC

-- CHG_IMP_STAT: R255.
namespace CHG_IMP_STAT
/-- [26:24] END, type RO. -/
abbrev END (n : Nat) : Fld := ⟨(0x88 + n) * 0x1000 + 0x108, 24, 3, 0⟩
/-- [23:16] TABLE, type RO. -/
abbrev TABLE (n : Nat) : Fld := ⟨(0x88 + n) * 0x1000 + 0x108, 16, 8, 0⟩
/-- [12:8] POINT, type RO. -/
abbrev POINT (n : Nat) : Fld := ⟨(0x88 + n) * 0x1000 + 0x108, 8, 5, 0⟩
/-- [2:0] STATE, type RO. -/
abbrev STATE (n : Nat) : Fld := ⟨(0x88 + n) * 0x1000 + 0x108, 0, 3, 0⟩
end CHG_IMP_STAT

-- CHG_IMP_EVT: R255.
namespace CHG_IMP_EVT
/-- [31:16] EN, type RW. -/
abbrev EN (n : Nat) : Fld := ⟨(0x88 + n) * 0x1000 + 0x10C, 16, 16, 0⟩
/-- [5:0] EVT, type W1C. -/
abbrev EVT (n : Nat) : Fld := ⟨(0x88 + n) * 0x1000 + 0x10C, 0, 6, 0⟩
end CHG_IMP_EVT

-- CHG_IMP_SEL: R255.
namespace CHG_IMP_SEL
/-- [4:0] POINT, type RW. -/
abbrev POINT (n : Nat) : Fld := ⟨(0x88 + n) * 0x1000 + 0x110, 0, 5, 0⟩
end CHG_IMP_SEL

-- CHG_IMP_PT_RE: R255.
namespace CHG_IMP_PT_RE
/-- [31:0] Z_RE, type RO. -/
abbrev Z_RE (n : Nat) : Fld := ⟨(0x88 + n) * 0x1000 + 0x114, 0, 32, 0⟩
end CHG_IMP_PT_RE

-- CHG_IMP_PT_IM: R255.
namespace CHG_IMP_PT_IM
/-- [31:0] Z_IM, type RO. -/
abbrev Z_IM (n : Nat) : Fld := ⟨(0x88 + n) * 0x1000 + 0x118, 0, 32, 0⟩
end CHG_IMP_PT_IM

-- CHG_IMP_PT_INFO: R255.
namespace CHG_IMP_PT_INFO
/-- [31:29] STATUS, type RO. -/
abbrev STATUS (n : Nat) : Fld := ⟨(0x88 + n) * 0x1000 + 0x11C, 29, 3, 0x6⟩
/-- [24:16] IAMP, type RO. -/
abbrev IAMP (n : Nat) : Fld := ⟨(0x88 + n) * 0x1000 + 0x11C, 16, 9, 0⟩
/-- [15:0] T_BAT, type RO. -/
abbrev T_BAT (n : Nat) : Fld := ⟨(0x88 + n) * 0x1000 + 0x11C, 0, 16, 0⟩
end CHG_IMP_PT_INFO

-- CHG_IMP_ZMAG: R255.
namespace CHG_IMP_ZMAG
/-- [31] VALID, type RO. -/
abbrev VALID (n : Nat) : Fld := ⟨(0x88 + n) * 0x1000 + 0x120, 31, 1, 0⟩
/-- [30:0] ZMAG, type RO. -/
abbrev ZMAG (n : Nat) : Fld := ⟨(0x88 + n) * 0x1000 + 0x120, 0, 31, 0⟩
end CHG_IMP_ZMAG

-- CHG_IMP_SOH: R255.
namespace CHG_IMP_SOH
/-- [31:24] SOH, type RO. -/
abbrev SOH (n : Nat) : Fld := ⟨(0x88 + n) * 0x1000 + 0x124, 24, 8, 0⟩
/-- [23:0] R25, type RO. -/
abbrev R25 (n : Nat) : Fld := ⟨(0x88 + n) * 0x1000 + 0x124, 0, 24, 0⟩
end CHG_IMP_SOH

-- CHG_IMP_GREF: R255.
namespace CHG_IMP_GREF
/-- [31:0] G_REF, type RO. -/
abbrev G_REF (n : Nat) : Fld := ⟨(0x88 + n) * 0x1000 + 0x128, 0, 32, 0⟩
end CHG_IMP_GREF

-- CHG_IMP_CNT: R255.
namespace CHG_IMP_CNT
/-- [31:16] ABORTS, type RO. -/
abbrev ABORTS (n : Nat) : Fld := ⟨(0x88 + n) * 0x1000 + 0x12C, 16, 16, 0⟩
/-- [15:0] COMPLETED, type RO. -/
abbrev COMPLETED (n : Nat) : Fld := ⟨(0x88 + n) * 0x1000 + 0x12C, 0, 16, 0⟩
end CHG_IMP_CNT

-- PORT_CTL: R283.
namespace PORT_CTL
/-- [15:8] ANT_LEAD, type KRW. -/
abbrev ANT_LEAD (n : Nat) : Fld := ⟨(0x30 + n) * 0x1000 + 0x040, 8, 8, 0xA⟩
/-- [7] TD_USE, type RO. -/
abbrev TD_USE (n : Nat) : Fld := ⟨(0x30 + n) * 0x1000 + 0x040, 7, 1, 0⟩
/-- [6] PRES_USE, type RO. -/
abbrev PRES_USE (n : Nat) : Fld := ⟨(0x30 + n) * 0x1000 + 0x040, 6, 1, 0⟩
/-- [4] SAFE, type KRW. -/
abbrev SAFE (n : Nat) : Fld := ⟨(0x30 + n) * 0x1000 + 0x040, 4, 1, 0⟩
/-- [3] SLEEP_ON, type KRW. -/
abbrev SLEEP_ON (n : Nat) : Fld := ⟨(0x30 + n) * 0x1000 + 0x040, 3, 1, 0⟩
/-- [0] EN, type RW. -/
abbrev EN (n : Nat) : Fld := ⟨(0x30 + n) * 0x1000 + 0x040, 0, 1, 0⟩
end PORT_CTL

-- PORT_STAT: R283.
namespace PORT_STAT
/-- [20:16] TRIP_CAUSE, type RO. -/
abbrev TRIP_CAUSE (n : Nat) : Fld := ⟨(0x30 + n) * 0x1000 + 0x044, 16, 5, 0⟩
/-- [12] SHED, type RO. -/
abbrev SHED (n : Nat) : Fld := ⟨(0x30 + n) * 0x1000 + 0x044, 12, 1, 0⟩
/-- [11] RETRY_RUN, type RO. -/
abbrev RETRY_RUN (n : Nat) : Fld := ⟨(0x30 + n) * 0x1000 + 0x044, 11, 1, 0⟩
/-- [10] TOGGLED, type RO. -/
abbrev TOGGLED (n : Nat) : Fld := ⟨(0x30 + n) * 0x1000 + 0x044, 10, 1, 0⟩
/-- [9] INS_DONE, type RO. -/
abbrev INS_DONE (n : Nat) : Fld := ⟨(0x30 + n) * 0x1000 + 0x044, 9, 1, 0⟩
/-- [8] WIN, type RO. -/
abbrev WIN (n : Nat) : Fld := ⟨(0x30 + n) * 0x1000 + 0x044, 8, 1, 0⟩
/-- [7] PRES, type RO. -/
abbrev PRES (n : Nat) : Fld := ⟨(0x30 + n) * 0x1000 + 0x044, 7, 1, 0⟩
/-- [6] GATE_OFF, type RO. -/
abbrev GATE_OFF (n : Nat) : Fld := ⟨(0x30 + n) * 0x1000 + 0x044, 6, 1, 0⟩
/-- [5] GATE_FULL, type RO. -/
abbrev GATE_FULL (n : Nat) : Fld := ⟨(0x30 + n) * 0x1000 + 0x044, 5, 1, 0⟩
/-- [4] PG, type RO. -/
abbrev PG (n : Nat) : Fld := ⟨(0x30 + n) * 0x1000 + 0x044, 4, 1, 0⟩
/-- [3:0] STATE, type RO. -/
abbrev STATE (n : Nat) : Fld := ⟨(0x30 + n) * 0x1000 + 0x044, 0, 4, 0⟩
end PORT_STAT

-- PORT_WIN: R283.
namespace PORT_WIN
/-- [31:16] OV, type KRW. -/
abbrev OV (n : Nat) : Fld := ⟨(0x30 + n) * 0x1000 + 0x048, 16, 16, 0x2134⟩
/-- [15:0] UV, type KRW. -/
abbrev UV (n : Nat) : Fld := ⟨(0x30 + n) * 0x1000 + 0x048, 0, 16, 0⟩
end PORT_WIN

-- PORT_WIN_CFG: R283.
namespace PORT_WIN_CFG
/-- [15:8] FILT, type KRW. -/
abbrev FILT (n : Nat) : Fld := ⟨(0x30 + n) * 0x1000 + 0x04C, 8, 8, 0xA⟩
/-- [7:0] HYST, type KRW. -/
abbrev HYST (n : Nat) : Fld := ⟨(0x30 + n) * 0x1000 + 0x04C, 0, 8, 0x32⟩
end PORT_WIN_CFG

-- PORT_OVP: R283.
namespace PORT_OVP
/-- [23:16] FILT, type KRW. -/
abbrev FILT (n : Nat) : Fld := ⟨(0x30 + n) * 0x1000 + 0x050, 16, 8, 0x5⟩
/-- [15:0] LEVEL, type KRW. -/
abbrev LEVEL (n : Nat) : Fld := ⟨(0x30 + n) * 0x1000 + 0x050, 0, 16, 0⟩
end PORT_OVP

-- PORT_TMR: R283.
namespace PORT_TMR
/-- [31:24] GRISE, type KRW. -/
abbrev GRISE (n : Nat) : Fld := ⟨(0x30 + n) * 0x1000 + 0x054, 24, 8, 0x64⟩
/-- [23:16] PRES_FILT, type KRW. -/
abbrev PRES_FILT (n : Nat) : Fld := ⟨(0x30 + n) * 0x1000 + 0x054, 16, 8, 0xA⟩
/-- [15:8] PG_DLY, type KRW. -/
abbrev PG_DLY (n : Nat) : Fld := ⟨(0x30 + n) * 0x1000 + 0x054, 8, 8, 0xA⟩
/-- [7:0] INS_DLY, type KRW. -/
abbrev INS_DLY (n : Nat) : Fld := ⟨(0x30 + n) * 0x1000 + 0x054, 0, 8, 0xA⟩
end PORT_TMR

-- PORT_PCG: R283.
namespace PORT_PCG
/-- [31:24] PCG_MAX, type KRW. -/
abbrev PCG_MAX (n : Nat) : Fld := ⟨(0x30 + n) * 0x1000 + 0x058, 24, 8, 0x64⟩
/-- [23:16] PCG_DV, type KRW. -/
abbrev PCG_DV (n : Nat) : Fld := ⟨(0x30 + n) * 0x1000 + 0x058, 16, 8, 0xA⟩
/-- [15:0] R_PRE, type KRW. -/
abbrev R_PRE (n : Nat) : Fld := ⟨(0x30 + n) * 0x1000 + 0x058, 0, 16, 0x64⟩
end PORT_PCG

-- PORT_LOAD: R283.
namespace PORT_LOAD
/-- [31:16] I_MAIN, type KRW. -/
abbrev I_MAIN (n : Nat) : Fld := ⟨(0x30 + n) * 0x1000 + 0x05C, 16, 16, 0⟩
/-- [15:8] GFALL, type KRW. -/
abbrev GFALL (n : Nat) : Fld := ⟨(0x30 + n) * 0x1000 + 0x05C, 8, 8, 0x64⟩
/-- [7:0] PCG_T, type KRW. -/
abbrev PCG_T (n : Nat) : Fld := ⟨(0x30 + n) * 0x1000 + 0x05C, 0, 8, 0xA⟩
end PORT_LOAD

-- PORT_OC: R283.
namespace PORT_OC
/-- [27:16] FT, type KRW. -/
abbrev FT (n : Nat) : Fld := ⟨(0x30 + n) * 0x1000 + 0x060, 16, 12, 0xA⟩
/-- [15:8] SC, type KRW. -/
abbrev SC (n : Nat) : Fld := ⟨(0x30 + n) * 0x1000 + 0x060, 8, 8, 0x28⟩
/-- [7:0] LIM, type KRW. -/
abbrev LIM (n : Nat) : Fld := ⟨(0x30 + n) * 0x1000 + 0x060, 0, 8, 0x14⟩
end PORT_OC

-- PORT_REV: R283.
namespace PORT_REV
/-- [15:8] REV_T, type KRW. -/
abbrev REV_T (n : Nat) : Fld := ⟨(0x30 + n) * 0x1000 + 0x064, 8, 8, 0xA⟩
/-- [7:0] REV_TH, type KRW. -/
abbrev REV_TH (n : Nat) : Fld := ⟨(0x30 + n) * 0x1000 + 0x064, 0, 8, 0x2⟩
end PORT_REV

-- PORT_RETRY: R283.
namespace PORT_RETRY
/-- [23:16] T_OK, type KRW. -/
abbrev T_OK (n : Nat) : Fld := ⟨(0x30 + n) * 0x1000 + 0x068, 16, 8, 0x3C⟩
/-- [7:0] MIN, type KRW. -/
abbrev MIN (n : Nat) : Fld := ⟨(0x30 + n) * 0x1000 + 0x068, 0, 8, 0xA⟩
end PORT_RETRY

-- PORT_TM: R283.
namespace PORT_TM
/-- [17:8] AMB, type KRW. -/
abbrev AMB (n : Nat) : Fld := ⟨(0x30 + n) * 0x1000 + 0x06C, 8, 10, 0⟩
/-- [7:0] MODEL, type KRW. -/
abbrev MODEL (n : Nat) : Fld := ⟨(0x30 + n) * 0x1000 + 0x06C, 0, 8, 0⟩
end PORT_TM

-- PORT_FET_T: R283.
namespace PORT_FET_T
/-- [16] DIODE, type RO. -/
abbrev DIODE (n : Nat) : Fld := ⟨(0x30 + n) * 0x1000 + 0x070, 16, 1, 0⟩
/-- [15:0] T_FET, type RO. -/
abbrev T_FET (n : Nat) : Fld := ⟨(0x30 + n) * 0x1000 + 0x070, 0, 16, 0⟩
end PORT_FET_T

-- PORT_RETRY_STAT: R283.
namespace PORT_RETRY_STAT
/-- [31] RUN, type RO. -/
abbrev RUN (n : Nat) : Fld := ⟨(0x30 + n) * 0x1000 + 0x074, 31, 1, 0⟩
/-- [23:0] ELAPSED, type RO. -/
abbrev ELAPSED (n : Nat) : Fld := ⟨(0x30 + n) * 0x1000 + 0x074, 0, 24, 0⟩
end PORT_RETRY_STAT

-- PORT_CNT: R283.
namespace PORT_CNT
/-- [31:16] SC, type RO. -/
abbrev SC (n : Nat) : Fld := ⟨(0x30 + n) * 0x1000 + 0x078, 16, 16, 0⟩
/-- [15:0] TRIPS, type RO. -/
abbrev TRIPS (n : Nat) : Fld := ⟨(0x30 + n) * 0x1000 + 0x078, 0, 16, 0⟩
end PORT_CNT

-- PORT_CNT1: R283.
namespace PORT_CNT1
/-- [31:16] PRES_CHG, type RO. -/
abbrev PRES_CHG (n : Nat) : Fld := ⟨(0x30 + n) * 0x1000 + 0x07C, 16, 16, 0⟩
/-- [15:0] LIMITS, type RO. -/
abbrev LIMITS (n : Nat) : Fld := ⟨(0x30 + n) * 0x1000 + 0x07C, 0, 16, 0⟩
end PORT_CNT1

-- PDP_CTL: R309.
namespace PDP_CTL
/-- [23:22] RP, type RW. -/
abbrev RP (n : Nat) : Fld := ⟨(0x60 + n) * 0x1000 + 0x040, 22, 2, 0x2⟩
/-- [21] EPR, type RW. -/
abbrev EPR (n : Nat) : Fld := ⟨(0x60 + n) * 0x1000 + 0x040, 21, 1, 0⟩
/-- [20] CONTRACT, type RW. -/
abbrev CONTRACT (n : Nat) : Fld := ⟨(0x60 + n) * 0x1000 + 0x040, 20, 1, 0⟩
/-- [19] FRS_ARM, type RW. -/
abbrev FRS_ARM (n : Nat) : Fld := ⟨(0x60 + n) * 0x1000 + 0x040, 19, 1, 0⟩
/-- [18] VCONN, type RW. -/
abbrev VCONN (n : Nat) : Fld := ⟨(0x60 + n) * 0x1000 + 0x040, 18, 1, 0⟩
/-- [17:16] SOP_EN, type RW. -/
abbrev SOP_EN (n : Nat) : Fld := ⟨(0x60 + n) * 0x1000 + 0x040, 16, 2, 0⟩
/-- [3:2] ROLE, type KRW. -/
abbrev ROLE (n : Nat) : Fld := ⟨(0x60 + n) * 0x1000 + 0x040, 2, 2, 0⟩
/-- [0] EN, type KRW. -/
abbrev EN (n : Nat) : Fld := ⟨(0x60 + n) * 0x1000 + 0x040, 0, 1, 0⟩
end PDP_CTL

-- PDP_STAT: R309.
namespace PDP_STAT
/-- [31:28] HR_CODE, type RO. -/
abbrev HR_CODE (n : Nat) : Fld := ⟨(0x60 + n) * 0x1000 + 0x044, 28, 4, 0⟩
/-- [22] DEADBAT, type RO. -/
abbrev DEADBAT (n : Nat) : Fld := ⟨(0x60 + n) * 0x1000 + 0x044, 22, 1, 0⟩
/-- [21] DUTY, type RO. -/
abbrev DUTY (n : Nat) : Fld := ⟨(0x60 + n) * 0x1000 + 0x044, 21, 1, 0⟩
/-- [20] TRANS, type RO. -/
abbrev TRANS (n : Nat) : Fld := ⟨(0x60 + n) * 0x1000 + 0x044, 20, 1, 0⟩
/-- [19] SW_ON, type RO. -/
abbrev SW_ON (n : Nat) : Fld := ⟨(0x60 + n) * 0x1000 + 0x044, 19, 1, 0⟩
/-- [18] VBUS_PRES, type RO. -/
abbrev VBUS_PRES (n : Nat) : Fld := ⟨(0x60 + n) * 0x1000 + 0x044, 18, 1, 0⟩
/-- [17] ATTACH_ROLE, type RO. -/
abbrev ATTACH_ROLE (n : Nat) : Fld := ⟨(0x60 + n) * 0x1000 + 0x044, 17, 1, 0⟩
/-- [16] PWR_ROLE, type RO. -/
abbrev PWR_ROLE (n : Nat) : Fld := ⟨(0x60 + n) * 0x1000 + 0x044, 16, 1, 0⟩
/-- [15] POLARITY, type RO. -/
abbrev POLARITY (n : Nat) : Fld := ⟨(0x60 + n) * 0x1000 + 0x044, 15, 1, 0⟩
/-- [14:12] RP_SEEN, type RO. -/
abbrev RP_SEEN (n : Nat) : Fld := ⟨(0x60 + n) * 0x1000 + 0x044, 12, 3, 0⟩
/-- [3:0] CC_STATE, type RO. -/
abbrev CC_STATE (n : Nat) : Fld := ⟨(0x60 + n) * 0x1000 + 0x044, 0, 4, 0⟩
end PDP_STAT

-- PDP_VBUS: R309.
namespace PDP_VBUS
/-- [27:16] CEIL, type KRW. -/
abbrev CEIL (n : Nat) : Fld := ⟨(0x60 + n) * 0x1000 + 0x048, 16, 12, 0x3E8⟩
/-- [11:0] TGT, type RW. -/
abbrev TGT (n : Nat) : Fld := ⟨(0x60 + n) * 0x1000 + 0x048, 0, 12, 0xFA⟩
end PDP_VBUS

-- PDP_TRANS: R309.
namespace PDP_TRANS
/-- [31:24] SLEW, type RW. -/
abbrev SLEW (n : Nat) : Fld := ⟨(0x60 + n) * 0x1000 + 0x04C, 24, 8, 0xA⟩
/-- [23:16] DLY, type RW. -/
abbrev DLY (n : Nat) : Fld := ⟨(0x60 + n) * 0x1000 + 0x04C, 16, 8, 0x1E⟩
/-- [1] ARM_TX, type RW. -/
abbrev ARM_TX (n : Nat) : Fld := ⟨(0x60 + n) * 0x1000 + 0x04C, 1, 1, 0⟩
end PDP_TRANS

-- PDP_TX: R309.
namespace PDP_TX
/-- [31] GO, type WO. -/
abbrev GO (n : Nat) : Fld := ⟨(0x60 + n) * 0x1000 + 0x050, 31, 1, 0⟩
/-- [18:16] SOP, type RW. -/
abbrev SOP (n : Nat) : Fld := ⟨(0x60 + n) * 0x1000 + 0x050, 16, 3, 0⟩
/-- [8:0] LEN, type RW. -/
abbrev LEN (n : Nat) : Fld := ⟨(0x60 + n) * 0x1000 + 0x050, 0, 9, 0⟩
end PDP_TX

-- PDP_TX_DATA: R309.
namespace PDP_TX_DATA
/-- [31:0] DATA, type WO. -/
abbrev DATA (n : Nat) : Fld := ⟨(0x60 + n) * 0x1000 + 0x054, 0, 32, 0⟩
end PDP_TX_DATA

-- PDP_RX_DATA: R309.
namespace PDP_RX_DATA
/-- [31:0] DATA, type RO. -/
abbrev DATA (n : Nat) : Fld := ⟨(0x60 + n) * 0x1000 + 0x058, 0, 32, 0⟩
end PDP_RX_DATA

-- PDP_RX_STAT: R309.
namespace PDP_RX_STAT
/-- [25:24] COUNT, type RO. -/
abbrev COUNT (n : Nat) : Fld := ⟨(0x60 + n) * 0x1000 + 0x05C, 24, 2, 0⟩
/-- [23] OVF, type W1C. -/
abbrev OVF (n : Nat) : Fld := ⟨(0x60 + n) * 0x1000 + 0x05C, 23, 1, 0⟩
/-- [18:16] SOP, type RO. -/
abbrev SOP (n : Nat) : Fld := ⟨(0x60 + n) * 0x1000 + 0x05C, 16, 3, 0⟩
/-- [8:0] LEN, type RO. -/
abbrev LEN (n : Nat) : Fld := ⟨(0x60 + n) * 0x1000 + 0x05C, 0, 9, 0⟩
end PDP_RX_STAT

-- PDP_SIG: R309.
namespace PDP_SIG
/-- [3:0] OP, type WO. -/
abbrev OP (n : Nat) : Fld := ⟨(0x60 + n) * 0x1000 + 0x060, 0, 4, 0⟩
end PDP_SIG

-- PDP_SWAP: R309.
namespace PDP_SWAP
/-- [1:0] STATE, type RW. -/
abbrev STATE (n : Nat) : Fld := ⟨(0x60 + n) * 0x1000 + 0x064, 0, 2, 0⟩
end PDP_SWAP

-- PDP_TMRn: R309.
namespace PDP_TMR
/-- [31] RUN, type RO. -/
abbrev RUN (n i : Nat) : Fld := ⟨(0x60 + n) * 0x1000 + 0x070 + 0x4 * i, 31, 1, 0⟩
/-- [30] SWAP, type RW. -/
abbrev SWAP (n i : Nat) : Fld := ⟨(0x60 + n) * 0x1000 + 0x070 + 0x4 * i, 30, 1, 0⟩
/-- [29] START, type WO. -/
abbrev START (n i : Nat) : Fld := ⟨(0x60 + n) * 0x1000 + 0x070 + 0x4 * i, 29, 1, 0⟩
/-- [28] STOP, type WO. -/
abbrev STOP (n i : Nat) : Fld := ⟨(0x60 + n) * 0x1000 + 0x070 + 0x4 * i, 28, 1, 0⟩
/-- [15:0] LOAD, type RW. -/
abbrev LOAD (n i : Nat) : Fld := ⟨(0x60 + n) * 0x1000 + 0x070 + 0x4 * i, 0, 16, 0⟩
end PDP_TMR

-- PDP_CNT: R309.
namespace PDP_CNT
/-- [31:24] TX_FAIL, type RO. -/
abbrev TX_FAIL (n : Nat) : Fld := ⟨(0x60 + n) * 0x1000 + 0x090, 24, 8, 0⟩
/-- [23:16] CRC_ERR, type RO. -/
abbrev CRC_ERR (n : Nat) : Fld := ⟨(0x60 + n) * 0x1000 + 0x090, 16, 8, 0⟩
/-- [15:8] HARD_RESETS, type RO. -/
abbrev HARD_RESETS (n : Nat) : Fld := ⟨(0x60 + n) * 0x1000 + 0x090, 8, 8, 0⟩
/-- [7:0] TRIPS, type RO. -/
abbrev TRIPS (n : Nat) : Fld := ⟨(0x60 + n) * 0x1000 + 0x090, 0, 8, 0⟩
end PDP_CNT

-- PORT_PD_CFG: R310.
namespace PORT_PD_CFG
/-- [31:16] C_OUT, type KRW. -/
abbrev C_OUT (n : Nat) : Fld := ⟨(0x3B + 12 * n) * 0x1000 + 0x040, 16, 16, 0xA⟩
/-- [15:8] GRISE, type KRW. -/
abbrev GRISE (n : Nat) : Fld := ⟨(0x3B + 12 * n) * 0x1000 + 0x040, 8, 8, 0x64⟩
/-- [7:0] OPEN_MAX, type KRW. -/
abbrev OPEN_MAX (n : Nat) : Fld := ⟨(0x3B + 12 * n) * 0x1000 + 0x040, 0, 8, 0x32⟩
end PORT_PD_CFG

-- PORT_PD_PROT: R310.
namespace PORT_PD_PROT
/-- [31:24] OVP_PCT, type KRW. -/
abbrev OVP_PCT (n : Nat) : Fld := ⟨(0x3B + 12 * n) * 0x1000 + 0x044, 24, 8, 0xA⟩
/-- [23:16] OC_MARGIN, type KRW. -/
abbrev OC_MARGIN (n : Nat) : Fld := ⟨(0x3B + 12 * n) * 0x1000 + 0x044, 16, 8, 0xA⟩
/-- [15:8] OC_T, type KRW. -/
abbrev OC_T (n : Nat) : Fld := ⟨(0x3B + 12 * n) * 0x1000 + 0x044, 8, 8, 0xA⟩
/-- [7:0] SC, type KRW. -/
abbrev SC (n : Nat) : Fld := ⟨(0x3B + 12 * n) * 0x1000 + 0x044, 0, 8, 0x28⟩
end PORT_PD_PROT

-- PORT_PD_REV: R310.
namespace PORT_PD_REV
/-- [7:0] REV_TH, type KRW. -/
abbrev REV_TH (n : Nat) : Fld := ⟨(0x3B + 12 * n) * 0x1000 + 0x048, 0, 8, 0x4⟩
end PORT_PD_REV

-- PORT_PD_STAT: R310.
namespace PORT_PD_STAT
/-- [20:16] TRIP_CAUSE, type RO. -/
abbrev TRIP_CAUSE (n : Nat) : Fld := ⟨(0x3B + 12 * n) * 0x1000 + 0x04C, 16, 5, 0⟩
/-- [9:8] TRIPS10, type RO. -/
abbrev TRIPS10 (n : Nat) : Fld := ⟨(0x3B + 12 * n) * 0x1000 + 0x04C, 8, 2, 0⟩
/-- [2:0] STATE, type RO. -/
abbrev STATE (n : Nat) : Fld := ⟨(0x3B + 12 * n) * 0x1000 + 0x04C, 0, 3, 0⟩
end PORT_PD_STAT

-- HKS_CTL: R342.
namespace HKS_CTL
/-- [23:16] TABLE, type KRW. -/
abbrev TABLE : Fld := ⟨0x68040, 16, 8, 0⟩
/-- [0] RECOV_EN, type KRW. -/
abbrev RECOV_EN : Fld := ⟨0x68040, 0, 1, 0x1⟩
end HKS_CTL

-- HKS_LANE_REF: R342.
namespace HKS_LANE_REF
/-- [7:0] REF, type KRW. -/
abbrev REF : Fld := ⟨0x68044, 0, 8, 0⟩
end HKS_LANE_REF

-- HKS_STAT: R342.
namespace HKS_STAT
/-- [27] CAL_BUSY, type RO. -/
abbrev CAL_BUSY : Fld := ⟨0x68048, 27, 1, 0⟩
/-- [26] BUILTIN, type RO. -/
abbrev BUILTIN : Fld := ⟨0x68048, 26, 1, 0x1⟩
/-- [25] STRICT, type RO. -/
abbrev STRICT : Fld := ⟨0x68048, 25, 1, 0x1⟩
/-- [22:20] CAL_CONV, type RO. -/
abbrev CAL_CONV : Fld := ⟨0x68048, 20, 3, 0x7⟩
/-- [18:16] SPARE, type RO. -/
abbrev SPARE : Fld := ⟨0x68048, 16, 3, 0x4⟩
/-- [15:0] LANES, type RO. -/
abbrev LANES : Fld := ⟨0x68048, 0, 16, 0x3210⟩
end HKS_STAT

-- HKS_CAL: R342.
namespace HKS_CAL
/-- [31:16] AUTO, type KRW. -/
abbrev AUTO : Fld := ⟨0x6804C, 16, 16, 0⟩
/-- [9:8] RESULT, type RO. -/
abbrev RESULT : Fld := ⟨0x6804C, 8, 2, 0⟩
/-- [3] GO, type K. -/
abbrev GO : Fld := ⟨0x6804C, 3, 1, 0⟩
/-- [2:0] TARGET, type KRW. -/
abbrev TARGET : Fld := ⟨0x6804C, 0, 3, 0x5⟩
end HKS_CAL

-- HKS_TMRn: R342.
namespace HKS_TMR
/-- [31] EN, type KRW. -/
abbrev EN (i : Nat) : Fld := ⟨0x68050 + 0x4 * i, 31, 1, 0⟩
/-- [23:0] PER, type KRW. -/
abbrev PER (i : Nat) : Fld := ⟨0x68050 + 0x4 * i, 0, 24, 0⟩
end HKS_TMR

-- HKS_SW_TRIG: R342.
namespace HKS_SW_TRIG
/-- [31:0] TRIG, type WO. -/
abbrev TRIG : Fld := ⟨0x68070, 0, 32, 0⟩
end HKS_SW_TRIG

-- HKS_SEQ_DONE: R342.
namespace HKS_SEQ_DONE
/-- [31:0] DONE, type W1C. -/
abbrev DONE : Fld := ⟨0x68074, 0, 32, 0⟩
end HKS_SEQ_DONE

-- HKS_SEQ_DONE_EN: R342.
namespace HKS_SEQ_DONE_EN
/-- [31:0] EN, type RW. -/
abbrev EN : Fld := ⟨0x68078, 0, 32, 0⟩
end HKS_SEQ_DONE_EN

-- HKS_RUN: R342.
namespace HKS_RUN
/-- [31] ACTIVE, type RO. -/
abbrev ACTIVE : Fld := ⟨0x6807C, 31, 1, 0⟩
/-- [11:8] STEP, type RO. -/
abbrev STEP : Fld := ⟨0x6807C, 8, 4, 0⟩
/-- [4:0] SEQ, type RO. -/
abbrev SEQ : Fld := ⟨0x6807C, 0, 5, 0⟩
end HKS_RUN

-- HKS_PEND: R342.
namespace HKS_PEND
/-- [31:0] PEND, type RO. -/
abbrev PEND : Fld := ⟨0x68080, 0, 32, 0⟩
end HKS_PEND

-- HKS_QUEUED: R342.
namespace HKS_QUEUED
/-- [31:0] QUEUED, type RO. -/
abbrev QUEUED : Fld := ⟨0x68084, 0, 32, 0⟩
end HKS_QUEUED

-- HKS_CNT0: R342.
namespace HKS_CNT0
/-- [31:16] TRIG_DROP, type RO. -/
abbrev TRIG_DROP : Fld := ⟨0x68088, 16, 16, 0⟩
/-- [15:0] URG_DROP, type RO. -/
abbrev URG_DROP : Fld := ⟨0x68088, 0, 16, 0⟩
end HKS_CNT0

-- HKS_CNT1: R342.
namespace HKS_CNT1
/-- [31:16] REFUSED, type RO. -/
abbrev REFUSED : Fld := ⟨0x6808C, 16, 16, 0⟩
/-- [15:0] RECOV, type RO. -/
abbrev RECOV : Fld := ⟨0x6808C, 0, 16, 0⟩
end HKS_CNT1

-- HKS_URGENT: R342.
namespace HKS_URGENT
/-- [31] GO, type WO. -/
abbrev GO : Fld := ⟨0x68090, 31, 1, 0⟩
/-- [29:28] RESULT, type RO. -/
abbrev RESULT : Fld := ⟨0x68090, 28, 2, 0⟩
/-- [24:16] ACC, type RW. -/
abbrev ACC : Fld := ⟨0x68090, 16, 9, 0⟩
/-- [7:0] INPUT, type RW. -/
abbrev INPUT : Fld := ⟨0x68090, 0, 8, 0⟩
end HKS_URGENT

-- HKS_TDAC: R342.
namespace HKS_TDAC
/-- [31] EN, type KRW. -/
abbrev EN : Fld := ⟨0x68094, 31, 1, 0⟩
/-- [30] READY, type RO. -/
abbrev READY : Fld := ⟨0x68094, 30, 1, 0⟩
/-- [25:16] CODE, type KRW. -/
abbrev CODE : Fld := ⟨0x68094, 16, 10, 0⟩
/-- [7:0] INPUT, type KRW. -/
abbrev INPUT : Fld := ⟨0x68094, 0, 8, 0⟩
end HKS_TDAC

-- HKS_CH_SEL: R342.
namespace HKS_CH_SEL
/-- [7:0] CH, type RW. -/
abbrev CH : Fld := ⟨0x68098, 0, 8, 0⟩
end HKS_CH_SEL

-- HKS_CH_COR: R342.
namespace HKS_CH_COR
/-- [31:16] GAIN, type KRW. -/
abbrev GAIN : Fld := ⟨0x6809C, 16, 16, 0x8000⟩
/-- [15:0] OFS, type KRW. -/
abbrev OFS : Fld := ⟨0x6809C, 0, 16, 0⟩
end HKS_CH_COR

-- HKS_CH_SCALE: R342.
namespace HKS_CH_SCALE
/-- [31:0] K, type RO. -/
abbrev K : Fld := ⟨0x680A0, 0, 32, 0⟩
end HKS_CH_SCALE

-- HKS_CH_KI: R342.
namespace HKS_CH_KI
/-- [31:0] KI, type RO. -/
abbrev KI : Fld := ⟨0x680A4, 0, 32, 0⟩
end HKS_CH_KI

-- HKS_CH_INFO: R342.
namespace HKS_CH_INFO
/-- [31:30] KIND, type RO. -/
abbrev KIND : Fld := ⟨0x680A8, 30, 2, 0⟩
/-- [17:16] REF, type KRW. -/
abbrev REF : Fld := ⟨0x680A8, 16, 2, 0⟩
/-- [11:0] ZERO, type RO. -/
abbrev ZERO : Fld := ⟨0x680A8, 0, 12, 0⟩
end HKS_CH_INFO

-- HKS_OVRn: R342.
namespace HKS_OVR
/-- [31:0] OVR, type W1C. -/
abbrev OVR (i : Nat) : Fld := ⟨0x680B0 + 0x4 * i, 0, 32, 0⟩
end HKS_OVR

-- HKS_SEQ_TRIGn: R342.
namespace HKS_SEQ_TRIG
/-- [31:16] DELAY, type KRW. -/
abbrev DELAY (i : Nat) : Fld := ⟨0x68100 + 0x4 * i, 16, 16, 0⟩
/-- [10:8] EVENT, type KRW. -/
abbrev EVENT (i : Nat) : Fld := ⟨0x68100 + 0x4 * i, 8, 3, 0⟩
/-- [7:4] PHASE, type KRW. -/
abbrev PHASE (i : Nat) : Fld := ⟨0x68100 + 0x4 * i, 4, 4, 0⟩
/-- [3:0] SRC, type KRW. -/
abbrev SRC (i : Nat) : Fld := ⟨0x68100 + 0x4 * i, 0, 4, 0⟩
end HKS_SEQ_TRIG

-- HKC_STAT: R343.
namespace HKC_STAT
/-- [7] SETTLED, type RO. -/
abbrev SETTLED (n : Nat) : Fld := ⟨(0x69 + n) * 0x1000 + 0x040, 7, 1, 0⟩
/-- [6:5] REF, type RO. -/
abbrev REF (n : Nat) : Fld := ⟨(0x69 + n) * 0x1000 + 0x040, 5, 2, 0⟩
/-- [2:0] ROLE, type RO. -/
abbrev ROLE (n : Nat) : Fld := ⟨(0x69 + n) * 0x1000 + 0x040, 0, 3, n⟩
end HKC_STAT

-- HKC_CAL: R343.
namespace HKC_CAL
/-- [31:16] GAIN, type KRW. -/
abbrev GAIN (n : Nat) : Fld := ⟨(0x69 + n) * 0x1000 + 0x044, 16, 16, 0x8000⟩
/-- [11:0] OFS, type KRW. -/
abbrev OFS (n : Nat) : Fld := ⟨(0x69 + n) * 0x1000 + 0x044, 0, 12, 0⟩
end HKC_CAL

-- HKC_CNT: R343.
namespace HKC_CNT
/-- [31:16] REFUSED, type RO. -/
abbrev REFUSED (n : Nat) : Fld := ⟨(0x69 + n) * 0x1000 + 0x048, 16, 16, 0⟩
/-- [15:0] CALS, type RO. -/
abbrev CALS (n : Nat) : Fld := ⟨(0x69 + n) * 0x1000 + 0x048, 0, 16, 0⟩
end HKC_CNT

-- HKC_AGE: R343.
namespace HKC_AGE
/-- [31:0] AGE, type RO. -/
abbrev AGE (n : Nat) : Fld := ⟨(0x69 + n) * 0x1000 + 0x04C, 0, 32, 0⟩
end HKC_AGE

-- ACC_CFG: R344.
namespace ACC_CFG
/-- [31] CLR, type K. -/
abbrev CLR (n i : Nat) : Fld := ⟨(0x70 + n) * 0x1000 + 0x100 + 0x30 * i, 31, 1, 0⟩
/-- [25] SAT, type RO. -/
abbrev SAT (n i : Nat) : Fld := ⟨(0x70 + n) * 0x1000 + 0x100 + 0x30 * i, 25, 1, 0⟩
/-- [24] CLAIMED, type RO. -/
abbrev CLAIMED (n i : Nat) : Fld := ⟨(0x70 + n) * 0x1000 + 0x100 + 0x30 * i, 24, 1, 0⟩
/-- [23:20] EPOCH, type RO. -/
abbrev EPOCH (n i : Nat) : Fld := ⟨(0x70 + n) * 0x1000 + 0x100 + 0x30 * i, 20, 4, 0⟩
/-- [19] TEST, type KRW. -/
abbrev TEST (n i : Nat) : Fld := ⟨(0x70 + n) * 0x1000 + 0x100 + 0x30 * i, 19, 1, 0⟩
/-- [18] THR_EN, type KRW. -/
abbrev THR_EN (n i : Nat) : Fld := ⟨(0x70 + n) * 0x1000 + 0x100 + 0x30 * i, 18, 1, 0⟩
/-- [17:14] BLK, type KRW. -/
abbrev BLK (n i : Nat) : Fld := ⟨(0x70 + n) * 0x1000 + 0x100 + 0x30 * i, 14, 4, 0⟩
/-- [13:11] IQCH, type KRW. -/
abbrev IQCH (n i : Nat) : Fld := ⟨(0x70 + n) * 0x1000 + 0x100 + 0x30 * i, 11, 3, 0⟩
/-- [10:9] MODE, type KRW. -/
abbrev MODE (n i : Nat) : Fld := ⟨(0x70 + n) * 0x1000 + 0x100 + 0x30 * i, 9, 2, 0⟩
/-- [8:0] SRC, type KRW. -/
abbrev SRC (n i : Nat) : Fld := ⟨(0x70 + n) * 0x1000 + 0x100 + 0x30 * i, 0, 9, 0⟩
end ACC_CFG

-- ACC_THR: R344.
namespace ACC_THR
/-- [31:16] HI, type KRW. -/
abbrev HI (n i : Nat) : Fld := ⟨(0x70 + n) * 0x1000 + 0x104 + 0x30 * i, 16, 16, 0xFFFF⟩
/-- [15:0] LO, type KRW. -/
abbrev LO (n i : Nat) : Fld := ⟨(0x70 + n) * 0x1000 + 0x104 + 0x30 * i, 0, 16, 0⟩
end ACC_THR

-- ACC_SUM_LO: R344.
namespace ACC_SUM_LO
/-- [31:0] SUM, type RO. -/
abbrev SUM (n i : Nat) : Fld := ⟨(0x70 + n) * 0x1000 + 0x108 + 0x30 * i, 0, 32, 0⟩
end ACC_SUM_LO

-- ACC_SUM_HI: R344.
namespace ACC_SUM_HI
/-- [31:0] SUM, type RO. -/
abbrev SUM (n i : Nat) : Fld := ⟨(0x70 + n) * 0x1000 + 0x10C + 0x30 * i, 0, 32, 0⟩
end ACC_SUM_HI

-- ACC_CNT_LO: R344.
namespace ACC_CNT_LO
/-- [31:0] CNT, type RO. -/
abbrev CNT (n i : Nat) : Fld := ⟨(0x70 + n) * 0x1000 + 0x110 + 0x30 * i, 0, 32, 0⟩
end ACC_CNT_LO

-- ACC_CNT_HI: R344.
namespace ACC_CNT_HI
/-- [31:0] CNT, type RO. -/
abbrev CNT (n i : Nat) : Fld := ⟨(0x70 + n) * 0x1000 + 0x114 + 0x30 * i, 0, 32, 0⟩
end ACC_CNT_HI

-- ACC_SQ_LO: R344.
namespace ACC_SQ_LO
/-- [31:0] SQ, type RO. -/
abbrev SQ (n i : Nat) : Fld := ⟨(0x70 + n) * 0x1000 + 0x118 + 0x30 * i, 0, 32, 0⟩
end ACC_SQ_LO

-- ACC_SQ_HI: R344.
namespace ACC_SQ_HI
/-- [31:0] SQ, type RO. -/
abbrev SQ (n i : Nat) : Fld := ⟨(0x70 + n) * 0x1000 + 0x11C + 0x30 * i, 0, 32, 0⟩
end ACC_SQ_HI

-- ACC_CLIPS: R344.
namespace ACC_CLIPS
/-- [31:0] CLIPS, type RO. -/
abbrev CLIPS (n i : Nat) : Fld := ⟨(0x70 + n) * 0x1000 + 0x120 + 0x30 * i, 0, 32, 0⟩
end ACC_CLIPS

-- MMT_CFG: R345.
namespace MMT_CFG
/-- [31] CLR, type K. -/
abbrev CLR (i : Nat) : Fld := ⟨0x78100 + 0xC * i, 31, 1, 0⟩
/-- [27:16] LIMIT, type KRW. -/
abbrev LIMIT (i : Nat) : Fld := ⟨0x78100 + 0xC * i, 16, 12, 0⟩
/-- [11] TEST, type KRW. -/
abbrev TEST (i : Nat) : Fld := ⟨0x78100 + 0xC * i, 11, 1, 0⟩
/-- [10] LIM_EN, type KRW. -/
abbrev LIM_EN (i : Nat) : Fld := ⟨0x78100 + 0xC * i, 10, 1, 0⟩
/-- [9] DIR, type KRW. -/
abbrev DIR (i : Nat) : Fld := ⟨0x78100 + 0xC * i, 9, 1, 0⟩
/-- [8] EN, type KRW. -/
abbrev EN (i : Nat) : Fld := ⟨0x78100 + 0xC * i, 8, 1, 0⟩
/-- [7:0] SRC, type KRW. -/
abbrev SRC (i : Nat) : Fld := ⟨0x78100 + 0xC * i, 0, 8, 0⟩
end MMT_CFG

-- MMT_MIN: R345.
namespace MMT_MIN
/-- [31] VALID, type RO. -/
abbrev VALID (i : Nat) : Fld := ⟨0x78104 + 0xC * i, 31, 1, 0⟩
/-- [30] CLIP, type RO. -/
abbrev CLIP (i : Nat) : Fld := ⟨0x78104 + 0xC * i, 30, 1, 0⟩
/-- [11:0] VALUE, type RO. -/
abbrev VALUE (i : Nat) : Fld := ⟨0x78104 + 0xC * i, 0, 12, 0⟩
end MMT_MIN

-- MMT_MAX: R345.
namespace MMT_MAX
/-- [31] VALID, type RO. -/
abbrev VALID (i : Nat) : Fld := ⟨0x78108 + 0xC * i, 31, 1, 0⟩
/-- [30] CLIP, type RO. -/
abbrev CLIP (i : Nat) : Fld := ⟨0x78108 + 0xC * i, 30, 1, 0⟩
/-- [11:0] VALUE, type RO. -/
abbrev VALUE (i : Nat) : Fld := ⟨0x78108 + 0xC * i, 0, 12, 0⟩
end MMT_MAX

-- MEM_SCRUB: R365.
namespace MEM_SCRUB
/-- [15:8] CE_TH, type KRW. -/
abbrev CE_TH (n : Nat) : Fld := ⟨(0xA0 + n) * 0x1000 + 0x040, 8, 8, 0x10⟩
/-- [0] EN, type KRW. -/
abbrev EN (n : Nat) : Fld := ⟨(0xA0 + n) * 0x1000 + 0x040, 0, 1, 0x1⟩
end MEM_SCRUB

-- MEM_SCRUB_POS: R365.
namespace MEM_SCRUB_POS
/-- [18:0] POS, type RO. -/
abbrev POS (n : Nat) : Fld := ⟨(0xA0 + n) * 0x1000 + 0x044, 0, 19, 0⟩
end MEM_SCRUB_POS

-- MEM_PASS: R365.
namespace MEM_PASS
/-- [31:0] PASS, type RO. -/
abbrev PASS (n : Nat) : Fld := ⟨(0xA0 + n) * 0x1000 + 0x048, 0, 32, 0⟩
end MEM_PASS

-- MEM_CNT: R365.
namespace MEM_CNT
/-- [31:16] UE, type RO. -/
abbrev UE (n : Nat) : Fld := ⟨(0xA0 + n) * 0x1000 + 0x04C, 16, 16, 0⟩
/-- [15:0] CE, type RO. -/
abbrev CE (n : Nat) : Fld := ⟨(0xA0 + n) * 0x1000 + 0x04C, 0, 16, 0⟩
end MEM_CNT

-- MEM_CE_ADDR: R365.
namespace MEM_CE_ADDR
/-- [31] RET, type RO. -/
abbrev RET (n : Nat) : Fld := ⟨(0xA0 + n) * 0x1000 + 0x050, 31, 1, 0⟩
/-- [23:0] ADDR, type RO. -/
abbrev ADDR (n : Nat) : Fld := ⟨(0xA0 + n) * 0x1000 + 0x050, 0, 24, 0⟩
end MEM_CE_ADDR

-- MEM_UE_ADDR: R365.
namespace MEM_UE_ADDR
/-- [31] RET, type RO. -/
abbrev RET (n : Nat) : Fld := ⟨(0xA0 + n) * 0x1000 + 0x054, 31, 1, 0⟩
/-- [23:0] ADDR, type RO. -/
abbrev ADDR (n : Nat) : Fld := ⟨(0xA0 + n) * 0x1000 + 0x054, 0, 24, 0⟩
end MEM_UE_ADDR

-- MEM_INJ: R365.
namespace MEM_INJ
/-- [31] ARM, type K. -/
abbrev ARM (n : Nat) : Fld := ⟨(0xA0 + n) * 0x1000 + 0x058, 31, 1, 0⟩
/-- [7:0] MASK, type K. -/
abbrev MASK (n : Nat) : Fld := ⟨(0xA0 + n) * 0x1000 + 0x058, 0, 8, 0⟩
end MEM_INJ

-- MEM_INJ_ADDR: R365.
namespace MEM_INJ_ADDR
/-- [23:0] ADDR, type K. -/
abbrev ADDR (n : Nat) : Fld := ⟨(0xA0 + n) * 0x1000 + 0x05C, 0, 24, 0⟩
end MEM_INJ_ADDR

-- TAG_PAGESn: R366.
namespace TAG_PAGES
/-- [31:0] FLAGS, type RO. -/
abbrev FLAGS (i : Nat) : Fld := ⟨0xA2040 + 0x4 * i, 0, 32, 0⟩
end TAG_PAGES

-- TAG_TOTAL: R366.
namespace TAG_TOTAL
/-- [31:0] TOTAL, type RO. -/
abbrev TOTAL : Fld := ⟨0xA2060, 0, 32, 0⟩
end TAG_TOTAL

-- TAG_CFG: R366.
namespace TAG_CFG
/-- [7:0] TH, type KRW. -/
abbrev TH : Fld := ⟨0xA2064, 0, 8, 0x40⟩
end TAG_CFG

-- TAG_INJ: R366.
namespace TAG_INJ
/-- [31] ARM, type K. -/
abbrev ARM : Fld := ⟨0xA2068, 31, 1, 0⟩
/-- [30] PATH_SEL, type K. -/
abbrev PATH_SEL : Fld := ⟨0xA2068, 30, 1, 0⟩
/-- [29:28] PATH, type K. -/
abbrev PATH : Fld := ⟨0xA2068, 28, 2, 0⟩
/-- [23:16] PAGE, type K. -/
abbrev PAGE : Fld := ⟨0xA2068, 16, 8, 0⟩
/-- [12:0] MASK, type K. -/
abbrev MASK : Fld := ⟨0xA2068, 0, 13, 0⟩
end TAG_INJ

-- THM_CTL: R383.
namespace THM_CTL
/-- [23:16] TABLE, type KRW. -/
abbrev TABLE : Fld := ⟨0x80040, 16, 8, 0⟩
end THM_CTL

-- THM_ACK: R383.
namespace THM_ACK
/-- [6:0] SENSOR, type K. -/
abbrev SENSOR : Fld := ⟨0x80044, 0, 7, 0⟩
end THM_ACK

-- THM_PENDn: R383.
namespace THM_PEND
/-- [31:0] PEND, type RO. -/
abbrev PEND (i : Nat) : Fld := ⟨0x80048 + 0x4 * i, 0, 32, 0⟩
end THM_PEND

-- THM_SUBSTn: R383.
namespace THM_SUBST
/-- [31:0] SUBST, type RO. -/
abbrev SUBST (i : Nat) : Fld := ⟨0x80054 + 0x4 * i, 0, 32, 0⟩
end THM_SUBST

-- THS_CFG: R383.
namespace THS_CFG
/-- [31] EN, type KRW. -/
abbrev EN (i : Nat) : Fld := ⟨0x80100 + 0x14 * i, 31, 1, 0x1⟩
/-- [27:24] ZONE, type KRW. -/
abbrev ZONE (i : Nat) : Fld := ⟨0x80100 + 0x14 * i, 24, 4, 0⟩
/-- [22:20] CURVE, type KRW. -/
abbrev CURVE (i : Nat) : Fld := ⟨0x80100 + 0x14 * i, 20, 3, (if i < 8 then 7 else 0)⟩
/-- [17:16] EST, type KRW. -/
abbrev EST (i : Nat) : Fld := ⟨0x80100 + 0x14 * i, 16, 2, 0⟩
/-- [15:8] PARTNER, type KRW. -/
abbrev PARTNER (i : Nat) : Fld := ⟨0x80100 + 0x14 * i, 8, 8, 0⟩
/-- [7:0] EST_OFS, type KRW. -/
abbrev EST_OFS (i : Nat) : Fld := ⟨0x80100 + 0x14 * i, 0, 8, 0⟩
end THS_CFG

-- THS_TH: R383.
namespace THS_TH
/-- [31:16] TH2, type KRW. -/
abbrev TH2 (i : Nat) : Fld := ⟨0x80104 + 0x14 * i, 16, 16, 0x7FFF⟩
/-- [15:0] TH1, type KRW. -/
abbrev TH1 (i : Nat) : Fld := ⟨0x80104 + 0x14 * i, 0, 16, 0x7FFF⟩
end THS_TH

-- THS_SD: R383.
namespace THS_SD
/-- [31] LOCK, type RO. -/
abbrev LOCK (i : Nat) : Fld := ⟨0x80108 + 0x14 * i, 31, 1, 0⟩
/-- [15:0] SD, type KRW. -/
abbrev SD (i : Nat) : Fld := ⟨0x80108 + 0x14 * i, 0, 16, (if i < 8 then 1600 else if i < 24 then 1250 else if i < 40 then 600 else 1500)⟩
end THS_SD

-- THS_VAL: R383.
namespace THS_VAL
/-- [31] VALID, type RO. -/
abbrev VALID (i : Nat) : Fld := ⟨0x8010C + 0x14 * i, 31, 1, 0⟩
/-- [30] SUBST, type RO. -/
abbrev SUBST (i : Nat) : Fld := ⟨0x8010C + 0x14 * i, 30, 1, 0⟩
/-- [15:0] T, type RO. -/
abbrev T (i : Nat) : Fld := ⟨0x8010C + 0x14 * i, 0, 16, 0⟩
end THS_VAL

-- THS_STAT: R383.
namespace THS_STAT
/-- [31] SD, type RO. -/
abbrev SD (i : Nat) : Fld := ⟨0x80110 + 0x14 * i, 31, 1, 0⟩
/-- [30] PEND_ACK, type RO. -/
abbrev PEND_ACK (i : Nat) : Fld := ⟨0x80110 + 0x14 * i, 30, 1, 0⟩
/-- [29] SUBST, type RO. -/
abbrev SUBST (i : Nat) : Fld := ⟨0x80110 + 0x14 * i, 29, 1, 0⟩
/-- [26:24] FAIL_CAUSE, type RO. -/
abbrev FAIL_CAUSE (i : Nat) : Fld := ⟨0x80110 + 0x14 * i, 24, 3, 0⟩
/-- [21:20] LEVEL, type RO. -/
abbrev LEVEL (i : Nat) : Fld := ⟨0x80110 + 0x14 * i, 20, 2, 0⟩
/-- [17:16] INTERVAL, type RO. -/
abbrev INTERVAL (i : Nat) : Fld := ⟨0x80110 + 0x14 * i, 16, 2, 0x2⟩
/-- [15:8] SANE, type RO. -/
abbrev SANE (i : Nat) : Fld := ⟨0x80110 + 0x14 * i, 8, 8, 0⟩
end THS_STAT

-- THZ_TGT: R383.
namespace THZ_TGT
/-- [19:16] PD, type KRW. -/
abbrev PD (i : Nat) : Fld := ⟨0x80800 + 0x10 * i, 16, 4, 0⟩
/-- [15:8] CHG, type KRW. -/
abbrev CHG (i : Nat) : Fld := ⟨0x80800 + 0x10 * i, 8, 8, 0⟩
/-- [3:0] PH, type KRW. -/
abbrev PH (i : Nat) : Fld := ⟨0x80800 + 0x10 * i, 0, 4, 0⟩
end THZ_TGT

-- THZ_PCT: R383.
namespace THZ_PCT
/-- [23:16] MIN, type KRW. -/
abbrev MIN (i : Nat) : Fld := ⟨0x80804 + 0x10 * i, 16, 8, 0⟩
/-- [15:8] PCT2, type KRW. -/
abbrev PCT2 (i : Nat) : Fld := ⟨0x80804 + 0x10 * i, 8, 8, 0x32⟩
/-- [7:0] PCT1, type KRW. -/
abbrev PCT1 (i : Nat) : Fld := ⟨0x80804 + 0x10 * i, 0, 8, 0x4B⟩
end THZ_PCT

-- THZ_STAT: R383.
namespace THZ_STAT
/-- [3] SUBST, type RO. -/
abbrev SUBST (i : Nat) : Fld := ⟨0x80808 + 0x10 * i, 3, 1, 0⟩
/-- [2] MINPWR, type RO. -/
abbrev MINPWR (i : Nat) : Fld := ⟨0x80808 + 0x10 * i, 2, 1, 0⟩
/-- [1:0] LEVEL, type RO. -/
abbrev LEVEL (i : Nat) : Fld := ⟨0x80808 + 0x10 * i, 0, 2, 0⟩
end THZ_STAT

-- THZ_EVT: R383.
namespace THZ_EVT
/-- [31:16] EN, type RW. -/
abbrev EN (i : Nat) : Fld := ⟨0x8080C + 0x10 * i, 16, 16, 0⟩
/-- [6:0] EVT, type W1C. -/
abbrev EVT (i : Nat) : Fld := ⟨0x8080C + 0x10 * i, 0, 7, 0⟩
end THZ_EVT

-- PINS_ERR: R393.
namespace PINS_ERR
/-- [31] PIN, type RO. -/
abbrev PIN : Fld := ⟨0x0C040, 31, 1, 0⟩
/-- [30] DRIVE, type RO. -/
abbrev DRIVE : Fld := ⟨0x0C040, 30, 1, 0x1⟩
/-- [23:16] FIRST, type RO. -/
abbrev FIRST : Fld := ⟨0x0C040, 16, 8, 0⟩
/-- [8:0] PAGES, type RO. -/
abbrev PAGES : Fld := ⟨0x0C040, 0, 9, 0⟩
end PINS_ERR

-- PINS_LAMP_STAT: R393.
namespace PINS_LAMP_STAT
/-- [7:0] OC, type W1C. -/
abbrev OC : Fld := ⟨0x0C084, 0, 8, 0⟩
end PINS_LAMP_STAT

-- HIVE_FLT_LOG: R394.
namespace HIVE_FLT_LOG
/-- [31] EN, type KRW. -/
abbrev EN : Fld := ⟨0x00080, 31, 1, 0x1⟩
/-- [12:0] NEXT, type RO. -/
abbrev NEXT : Fld := ⟨0x00080, 0, 13, 0⟩
end HIVE_FLT_LOG

-- HIVE_FLT_SEQ: R394.
namespace HIVE_FLT_SEQ
/-- [31:0] SEQ, type RO. -/
abbrev SEQ : Fld := ⟨0x00084, 0, 32, 0⟩
end HIVE_FLT_SEQ

-- INTC_PENDn: R419.
namespace INTC_PEND
/-- [31:0] PEND, type RO. -/
abbrev PEND (i : Nat) : Fld := ⟨0x08040 + 0x4 * i, 0, 32, 0⟩
end INTC_PEND

-- INTC_PEND_SETn: R419.
namespace INTC_PEND_SET
/-- [31:0] SET, type WO. -/
abbrev SET (i : Nat) : Fld := ⟨0x08060 + 0x4 * i, 0, 32, 0⟩
end INTC_PEND_SET

-- INTC_PEND_CLRn: R419.
namespace INTC_PEND_CLR
/-- [31:0] CLR, type WO. -/
abbrev CLR (i : Nat) : Fld := ⟨0x08080 + 0x4 * i, 0, 32, 0⟩
end INTC_PEND_CLR

-- INTC_ACTn: R419.
namespace INTC_ACT
/-- [31:0] ACT, type RO. -/
abbrev ACT (i : Nat) : Fld := ⟨0x080A0 + 0x4 * i, 0, 32, 0⟩
end INTC_ACT

-- INTC_CTL: R419.
namespace INTC_CTL
/-- [15:0] ACT_MAX, type KRW. -/
abbrev ACT_MAX : Fld := ⟨0x080C0, 0, 16, 0⟩
end INTC_CTL

-- INTC_Tt_CLAIM: R419.
namespace INTC_T_CLAIM
/-- [19:16] PRIO, type RO. -/
abbrev PRIO (i : Nat) : Fld := ⟨0x08100 + 0x20 * i, 16, 4, 0⟩
/-- [8] VALID, type RO. -/
abbrev VALID (i : Nat) : Fld := ⟨0x08100 + 0x20 * i, 8, 1, 0⟩
/-- [7:0] SRC, type RO. -/
abbrev SRC (i : Nat) : Fld := ⟨0x08100 + 0x20 * i, 0, 8, 0⟩
end INTC_T_CLAIM

-- INTC_Tt_EOI: R419.
namespace INTC_T_EOI
/-- [7:0] SRC, type WO. -/
abbrev SRC (i : Nat) : Fld := ⟨0x08104 + 0x20 * i, 0, 8, 0⟩
end INTC_T_EOI

-- INTC_Tt_CTL: R419.
namespace INTC_T_CTL
/-- [11:8] STK_SEL, type RW. -/
abbrev STK_SEL (i : Nat) : Fld := ⟨0x08108 + 0x20 * i, 8, 4, 0⟩
/-- [3:0] THRESH, type RW. -/
abbrev THRESH (i : Nat) : Fld := ⟨0x08108 + 0x20 * i, 0, 4, 0⟩
end INTC_T_CTL

-- INTC_Tt_STAT: R419.
namespace INTC_T_STAT
/-- [31] CANDV, type RO. -/
abbrev CANDV (i : Nat) : Fld := ⟨0x0810C + 0x20 * i, 31, 1, 0⟩
/-- [23:16] CAND, type RO. -/
abbrev CAND (i : Nat) : Fld := ⟨0x0810C + 0x20 * i, 16, 8, 0⟩
/-- [11:8] DEPTH, type RO. -/
abbrev DEPTH (i : Nat) : Fld := ⟨0x0810C + 0x20 * i, 8, 4, 0⟩
/-- [3:0] RUNPRIO, type RO. -/
abbrev RUNPRIO (i : Nat) : Fld := ⟨0x0810C + 0x20 * i, 0, 4, 0⟩
end INTC_T_STAT

-- INTC_Tt_STK: R419.
namespace INTC_T_STK
/-- [31] VALID, type RO. -/
abbrev VALID (i : Nat) : Fld := ⟨0x08110 + 0x20 * i, 31, 1, 0⟩
/-- [19:16] PRIO, type RO. -/
abbrev PRIO (i : Nat) : Fld := ⟨0x08110 + 0x20 * i, 16, 4, 0⟩
/-- [7:0] SRC, type RO. -/
abbrev SRC (i : Nat) : Fld := ⟨0x08110 + 0x20 * i, 0, 8, 0⟩
end INTC_T_STK

-- INTC_Tt_CNT: R419.
namespace INTC_T_CNT
/-- [31:16] SPURIOUS, type RO. -/
abbrev SPURIOUS (i : Nat) : Fld := ⟨0x08114 + 0x20 * i, 16, 16, 0⟩
/-- [15:0] CLAIMS, type RO. -/
abbrev CLAIMS (i : Nat) : Fld := ⟨0x08114 + 0x20 * i, 0, 16, 0⟩
end INTC_T_CNT

-- INTC_SRC_CFG: R419.
namespace INTC_SRC_CFG
/-- [29:28] NEXT, type RO. -/
abbrev NEXT (i : Nat) : Fld := ⟨0x08400 + 0x4 * i, 28, 2, 0⟩
/-- [25] ACTIVE, type RO. -/
abbrev ACTIVE (i : Nat) : Fld := ⟨0x08400 + 0x4 * i, 25, 1, 0⟩
/-- [24] PEND, type RO. -/
abbrev PEND (i : Nat) : Fld := ⟨0x08400 + 0x4 * i, 24, 1, 0⟩
/-- [16] SENSE, type KRW. -/
abbrev SENSE (i : Nat) : Fld := ⟨0x08400 + 0x4 * i, 16, 1, (if i < 16 then 0 else 1)⟩
/-- [11:8] TGT, type RW. -/
abbrev TGT (i : Nat) : Fld := ⟨0x08400 + 0x4 * i, 8, 4, 0⟩
/-- [3:0] PRIO, type RW. -/
abbrev PRIO (i : Nat) : Fld := ⟨0x08400 + 0x4 * i, 0, 4, 0⟩
end INTC_SRC_CFG

-- WDG_CFG: R435.
namespace WDG_CFG
/-- [0] CLKSEL, type KRW. -/
abbrev CLKSEL : Fld := ⟨0x09040, 0, 1, 0⟩
end WDG_CFG

-- WDG_WIN: R435.
namespace WDG_WIN
/-- [31:16] CLOSE, type KRW. -/
abbrev CLOSE : Fld := ⟨0x09044, 16, 16, 0x3E7⟩
/-- [15:0] OPEN, type KRW. -/
abbrev OPEN : Fld := ⟨0x09044, 0, 16, 0xC8⟩
end WDG_WIN

-- WDG_SLOT_EN: R435.
namespace WDG_SLOT_EN
/-- [15:0] EN, type KRW. -/
abbrev EN : Fld := ⟨0x09048, 0, 16, 0x1000⟩
end WDG_SLOT_EN

-- WDG_SLOT_MAP0: R435.
namespace WDG_SLOT_MAP0
/-- [31:0] MAP, type KRW. -/
abbrev MAP : Fld := ⟨0x0904C, 0, 32, 0⟩
end WDG_SLOT_MAP0

-- WDG_SLOT_MAP1: R435.
namespace WDG_SLOT_MAP1
/-- [31:0] MAP, type KRW. -/
abbrev MAP : Fld := ⟨0x09050, 0, 32, 0x10000⟩
end WDG_SLOT_MAP1

-- WDG_SVC: R435.
namespace WDG_SVC
/-- [31:0] KEY, type WO. -/
abbrev KEY : Fld := ⟨0x09054, 0, 32, 0⟩
end WDG_SVC

-- WDG_CHECKIN: R435.
namespace WDG_CHECKIN
/-- [15:0] SLOT, type WO. -/
abbrev SLOT : Fld := ⟨0x09058, 0, 16, 0⟩
end WDG_CHECKIN

-- WDG_STAT: R435.
namespace WDG_STAT
/-- [31:16] CHECKED, type RO. -/
abbrev CHECKED : Fld := ⟨0x0905C, 16, 16, 0⟩
/-- [15] SERVED, type RO. -/
abbrev SERVED : Fld := ⟨0x0905C, 15, 1, 0⟩
/-- [14] ARMED, type RO. -/
abbrev ARMED : Fld := ⟨0x0905C, 14, 1, 0⟩
/-- [13] FAILED, type RO. -/
abbrev FAILED : Fld := ⟨0x0905C, 13, 1, 0⟩
/-- [12] EW, type RO. -/
abbrev EW : Fld := ⟨0x0905C, 12, 1, 0⟩
/-- [8] CLK_INUSE, type RO. -/
abbrev CLK_INUSE : Fld := ⟨0x0905C, 8, 1, 0⟩
/-- [1] MON_OTHER, type RO. -/
abbrev MON_OTHER : Fld := ⟨0x0905C, 1, 1, 0⟩
/-- [0] SVC_BY_HW, type RO. -/
abbrev SVC_BY_HW : Fld := ⟨0x0905C, 0, 1, 0x1⟩
end WDG_STAT

-- WDG_SEQ: R435.
namespace WDG_SEQ
/-- [31:0] SEQ, type RO. -/
abbrev SEQ : Fld := ⟨0x09060, 0, 32, 0⟩
end WDG_SEQ

-- WDG_TICK: R435.
namespace WDG_TICK
/-- [31:16] EW, type RO. -/
abbrev EW : Fld := ⟨0x09064, 16, 16, 0x31F⟩
/-- [15:0] TICK, type RO. -/
abbrev TICK : Fld := ⟨0x09064, 0, 16, 0⟩
end WDG_TICK

-- WDG_CAUSE: R435.
namespace WDG_CAUSE
/-- [31:16] MISSING, type W1C. -/
abbrev MISSING : Fld := ⟨0x09068, 16, 16, 0⟩
/-- [15:0] DUP, type W1C. -/
abbrev DUP : Fld := ⟨0x09068, 0, 16, 0⟩
end WDG_CAUSE

-- WDG_CAUSE_X: R435.
namespace WDG_CAUSE_X
/-- [31] FROM_RESET, type W1C. -/
abbrev FROM_RESET : Fld := ⟨0x0906C, 31, 1, 0⟩
/-- [3] CLK_STOP, type W1C. -/
abbrev CLK_STOP : Fld := ⟨0x0906C, 3, 1, 0⟩
/-- [2] BAD_KEY, type W1C. -/
abbrev BAD_KEY : Fld := ⟨0x0906C, 2, 1, 0⟩
/-- [1] LATE, type W1C. -/
abbrev LATE : Fld := ⟨0x0906C, 1, 1, 0⟩
/-- [0] EARLY, type W1C. -/
abbrev EARLY : Fld := ⟨0x0906C, 0, 1, 0⟩
end WDG_CAUSE_X

-- WDG_RST_CNT: R435.
namespace WDG_RST_CNT
/-- [31:0] COUNT, type RO. -/
abbrev COUNT : Fld := ⟨0x09070, 0, 32, 0⟩
end WDG_RST_CNT

-- WDG_CNT: R435.
namespace WDG_CNT
/-- [31:16] KEYS_IGNORED, type RO. -/
abbrev KEYS_IGNORED : Fld := ⟨0x09074, 16, 16, 0⟩
/-- [15:0] STRAY, type RO. -/
abbrev STRAY : Fld := ⟨0x09074, 0, 16, 0⟩
end WDG_CNT

-- SW_CTL: R461.
namespace SW_CTL
/-- [11:8] QPRI, type KRW. -/
abbrev QPRI : Fld := ⟨0x98040, 8, 4, 0x8⟩
/-- [1] QUEEN_EN, type KRW. -/
abbrev QUEEN_EN : Fld := ⟨0x98040, 1, 1, 0x1⟩
/-- [0] EN, type KRW. -/
abbrev EN : Fld := ⟨0x98040, 0, 1, 0x1⟩
end SW_CTL

-- SW_ADDR: R461.
namespace SW_ADDR
/-- [31] VALID, type RO. -/
abbrev VALID : Fld := ⟨0x98044, 31, 1, 0⟩
/-- [30] DUP, type RO. -/
abbrev DUP : Fld := ⟨0x98044, 30, 1, 0⟩
/-- [29:24] NODE_ACT, type RO. -/
abbrev NODE_ACT : Fld := ⟨0x98044, 24, 6, 0⟩
/-- [16] AUTO, type KRW. -/
abbrev AUTO : Fld := ⟨0x98044, 16, 1, 0x1⟩
/-- [15:6] SEG, type KRW. -/
abbrev SEG : Fld := ⟨0x98044, 6, 10, 0⟩
/-- [5:0] NODE, type KRW. -/
abbrev NODE : Fld := ⟨0x98044, 0, 6, 0⟩
end SW_ADDR

-- SW_PORT_E: R461.
namespace SW_PORT_E
/-- [31:30] MODE, type KRW. -/
abbrev MODE : Fld := ⟨0x98048, 30, 2, 0⟩
/-- [29:20] ROUTE_HI, type KRW. -/
abbrev ROUTE_HI : Fld := ⟨0x98048, 20, 10, 0⟩
/-- [19:10] ROUTE_LO, type KRW. -/
abbrev ROUTE_LO : Fld := ⟨0x98048, 10, 10, 0⟩
/-- [2] PARTNER, type RO. -/
abbrev PARTNER : Fld := ⟨0x98048, 2, 1, 0⟩
/-- [1] LOCK, type RO. -/
abbrev LOCK : Fld := ⟨0x98048, 1, 1, 0⟩
/-- [0] UP, type RO. -/
abbrev UP : Fld := ⟨0x98048, 0, 1, 0⟩
end SW_PORT_E

-- SW_PORT_W: R461.
namespace SW_PORT_W
/-- [31:30] MODE, type KRW. -/
abbrev MODE : Fld := ⟨0x9804C, 30, 2, 0⟩
/-- [29:20] ROUTE_HI, type KRW. -/
abbrev ROUTE_HI : Fld := ⟨0x9804C, 20, 10, 0⟩
/-- [19:10] ROUTE_LO, type KRW. -/
abbrev ROUTE_LO : Fld := ⟨0x9804C, 10, 10, 0⟩
/-- [2] PARTNER, type RO. -/
abbrev PARTNER : Fld := ⟨0x9804C, 2, 1, 0⟩
/-- [1] LOCK, type RO. -/
abbrev LOCK : Fld := ⟨0x9804C, 1, 1, 0⟩
/-- [0] UP, type RO. -/
abbrev UP : Fld := ⟨0x9804C, 0, 1, 0⟩
end SW_PORT_W

-- SW_LINK_E: R461.
namespace SW_LINK_E
/-- [31:16] PEER, type RO. -/
abbrev PEER : Fld := ⟨0x98050, 16, 16, 0⟩
/-- [15:0] DELAY, type RO. -/
abbrev DELAY : Fld := ⟨0x98050, 0, 16, 0⟩
end SW_LINK_E

-- SW_LINK_W: R461.
namespace SW_LINK_W
/-- [31:16] PEER, type RO. -/
abbrev PEER : Fld := ⟨0x98054, 16, 16, 0⟩
/-- [15:0] DELAY, type RO. -/
abbrev DELAY : Fld := ⟨0x98054, 0, 16, 0⟩
end SW_LINK_W

-- SW_TOPO: R461.
namespace SW_TOPO
/-- [31] QVALID, type RO. -/
abbrev QVALID : Fld := ⟨0x98058, 31, 1, 0⟩
/-- [30] HVALID, type RO. -/
abbrev HVALID : Fld := ⟨0x98058, 30, 1, 0⟩
/-- [29] RING, type RO. -/
abbrev RING : Fld := ⟨0x98058, 29, 1, 0⟩
/-- [28:26] ROLE, type RO. -/
abbrev ROLE : Fld := ⟨0x98058, 26, 3, 0⟩
/-- [23:16] NODES, type RO. -/
abbrev NODES : Fld := ⟨0x98058, 16, 8, 0⟩
/-- [13:8] HEIR, type RO. -/
abbrev HEIR : Fld := ⟨0x98058, 8, 6, 0⟩
/-- [5:0] QUEEN, type RO. -/
abbrev QUEEN : Fld := ⟨0x98058, 0, 6, 0⟩
end SW_TOPO

-- SW_TIME_LO: R461.
namespace SW_TIME_LO
/-- [31:0] TIME, type RO. -/
abbrev TIME : Fld := ⟨0x9805C, 0, 32, 0⟩
end SW_TIME_LO

-- SW_TIME_HI: R461.
namespace SW_TIME_HI
/-- [31:0] TIME, type RO. -/
abbrev TIME : Fld := ⟨0x98060, 0, 32, 0⟩
end SW_TIME_HI

-- SW_TIME_STAT: R461.
namespace SW_TIME_STAT
/-- [31] VALID, type RO. -/
abbrev VALID : Fld := ⟨0x98064, 31, 1, 0⟩
/-- [30] HOLDOVER, type RO. -/
abbrev HOLDOVER : Fld := ⟨0x98064, 30, 1, 0⟩
/-- [15:0] OFS, type RO. -/
abbrev OFS : Fld := ⟨0x98064, 0, 16, 0⟩
end SW_TIME_STAT

-- SW_RMT: R461.
namespace SW_RMT
/-- [31:24] TIMEOUT, type KRW. -/
abbrev TIMEOUT : Fld := ⟨0x98068, 24, 8, 0xA⟩
/-- [15:0] TGT, type RW. -/
abbrev TGT : Fld := ⟨0x98068, 0, 16, 0⟩
end SW_RMT

-- SW_RMT_STAT: R461.
namespace SW_RMT_STAT
/-- [31:28] REASON, type RO. -/
abbrev REASON : Fld := ⟨0x9806C, 28, 4, 0⟩
/-- [15:0] ERRS, type RO. -/
abbrev ERRS : Fld := ⟨0x9806C, 0, 16, 0⟩
end SW_RMT_STAT

-- SW_CMD: R461.
namespace SW_CMD
/-- [31:16] TGT, type K. -/
abbrev TGT : Fld := ⟨0x98070, 16, 16, 0⟩
/-- [3:0] OP, type K. -/
abbrev OP : Fld := ⟨0x98070, 0, 4, 0⟩
end SW_CMD

-- SW_SHARE_CFG: R461.
namespace SW_SHARE_CFG
/-- [31:24] LEAD, type KRW. -/
abbrev LEAD : Fld := ⟨0x98074, 24, 8, 0xA⟩
/-- [23:16] RAMP, type KRW. -/
abbrev RAMP : Fld := ⟨0x98074, 16, 8, 0x2⟩
/-- [15:8] REP, type KRW. -/
abbrev REP : Fld := ⟨0x98074, 8, 8, 0xA⟩
/-- [7:0] DEADBAND, type KRW. -/
abbrev DEADBAND : Fld := ⟨0x98074, 0, 8, 0x32⟩
end SW_SHARE_CFG

-- SW_GRP_SEL: R461.
namespace SW_GRP_SEL
/-- [8] FORGET, type WO. -/
abbrev FORGET : Fld := ⟨0x98078, 8, 1, 0⟩
/-- [3:0] GROUP, type RW. -/
abbrev GROUP : Fld := ⟨0x98078, 0, 4, 0⟩
end SW_GRP_SEL

-- SW_GRP_TOTAL: R461.
namespace SW_GRP_TOTAL
/-- [31:16] CEIL, type KRW. -/
abbrev CEIL : Fld := ⟨0x9807C, 16, 16, 0xFFFF⟩
/-- [15:0] TOTAL, type RW. -/
abbrev TOTAL : Fld := ⟨0x9807C, 0, 16, 0⟩
end SW_GRP_TOTAL

-- SW_GRP_STAT: R461.
namespace SW_GRP_STAT
/-- [31:16] INFORCE, type RO. -/
abbrev INFORCE : Fld := ⟨0x98080, 16, 16, 0⟩
/-- [15:8] ROSTER, type RO. -/
abbrev ROSTER : Fld := ⟨0x98080, 8, 8, 0⟩
/-- [7:0] REACH, type RO. -/
abbrev REACH : Fld := ⟨0x98080, 0, 8, 0⟩
end SW_GRP_STAT

-- SW_MEMBn: R461.
namespace SW_MEMB
/-- [31] EN, type KRW. -/
abbrev EN (i : Nat) : Fld := ⟨0x98084 + 0x4 * i, 31, 1, 0⟩
/-- [27:24] GROUP, type KRW. -/
abbrev GROUP (i : Nat) : Fld := ⟨0x98084 + 0x4 * i, 24, 4, 0⟩
/-- [23:16] WEIGHT, type KRW. -/
abbrev WEIGHT (i : Nat) : Fld := ⟨0x98084 + 0x4 * i, 16, 8, 0x4⟩
/-- [15:0] TARGET, type RO. -/
abbrev TARGET (i : Nat) : Fld := ⟨0x98084 + 0x4 * i, 0, 16, 0⟩
end SW_MEMB

-- SW_CNT0: R461.
namespace SW_CNT0
/-- [31:16] CRC_ERR, type RO. -/
abbrev CRC_ERR : Fld := ⟨0x98094, 16, 16, 0⟩
/-- [15:0] FWD_DROP, type RO. -/
abbrev FWD_DROP : Fld := ⟨0x98094, 0, 16, 0⟩
end SW_CNT0

-- SW_CNT1: R461.
namespace SW_CNT1
/-- [31:16] SHARE_LATE, type RO. -/
abbrev SHARE_LATE : Fld := ⟨0x98098, 16, 16, 0⟩
/-- [15:0] NO_ROUTE, type RO. -/
abbrev NO_ROUTE : Fld := ⟨0x98098, 0, 16, 0⟩
end SW_CNT1

-- SW_CNT2: R461.
namespace SW_CNT2
/-- [31:16] QUEEN_CHG, type RO. -/
abbrev QUEEN_CHG : Fld := ⟨0x9809C, 16, 16, 0⟩
/-- [15:0] DUP_SEEN, type RO. -/
abbrev DUP_SEEN : Fld := ⟨0x9809C, 0, 16, 0⟩
end SW_CNT2

-- SW_UID_LO: R461.
namespace SW_UID_LO
/-- [31:0] UID, type RO. -/
abbrev UID : Fld := ⟨0x980A0, 0, 32, 0⟩
end SW_UID_LO

-- SW_UID_HI: R461.
namespace SW_UID_HI
/-- [31:0] UID, type RO. -/
abbrev UID : Fld := ⟨0x980A4, 0, 16, 0⟩
end SW_UID_HI

-- TBL_BANK: R489.
namespace TBL_BANK
/-- [31:16] GEN, type RO. -/
abbrev GEN : Fld := ⟨0x90040, 16, 16, 0⟩
/-- [15:12] WHY, type RO. -/
abbrev WHY : Fld := ⟨0x90040, 12, 4, 0⟩
/-- [11:10] RESULT, type RO. -/
abbrev RESULT : Fld := ⟨0x90040, 10, 2, 0⟩
/-- [6:4] INACT, type RO. -/
abbrev INACT : Fld := ⟨0x90040, 4, 3, 0⟩
/-- [0] ACTIVE, type RO. -/
abbrev ACTIVE : Fld := ⟨0x90040, 0, 1, 0⟩
end TBL_BANK

-- TBL_CMD: R489.
namespace TBL_CMD
/-- [3:0] OP, type K. -/
abbrev OP : Fld := ⟨0x90044, 0, 4, 0⟩
end TBL_CMD

-- TBL_LD_CTL: R489.
namespace TBL_LD_CTL
/-- [31] START, type K. -/
abbrev START : Fld := ⟨0x90048, 31, 1, 0⟩
/-- [23:16] INDEX, type K. -/
abbrev INDEX : Fld := ⟨0x90048, 16, 8, 0⟩
/-- [15:0] TTYPE, type K. -/
abbrev TTYPE : Fld := ⟨0x90048, 0, 16, 0⟩
end TBL_LD_CTL

-- TBL_LD_DATA: R489.
namespace TBL_LD_DATA
/-- [31:0] DATA, type K. -/
abbrev DATA : Fld := ⟨0x9004C, 0, 32, 0⟩
end TBL_LD_DATA

-- TBL_LD_STAT: R489.
namespace TBL_LD_STAT
/-- [31:28] CODE, type RO. -/
abbrev CODE : Fld := ⟨0x90050, 28, 4, 0⟩
/-- [17:0] WORDS, type RO. -/
abbrev WORDS : Fld := ⟨0x90050, 0, 18, 0⟩
end TBL_LD_STAT

-- TBL_VER_STAT: R489.
namespace TBL_VER_STAT
/-- [31:28] RESULT, type RO. -/
abbrev RESULT : Fld := ⟨0x90054, 28, 4, 0⟩
/-- [27:24] WHY, type RO. -/
abbrev WHY : Fld := ⟨0x90054, 24, 4, 0⟩
/-- [7:0] ENTRY, type RO. -/
abbrev ENTRY : Fld := ⟨0x90054, 0, 8, 0⟩
end TBL_VER_STAT

-- TBL_IMG_STAT: R489.
namespace TBL_IMG_STAT
/-- [31:28] RESULT, type RO. -/
abbrev RESULT : Fld := ⟨0x90058, 28, 4, 0⟩
/-- [0] SLOT, type RO. -/
abbrev SLOT : Fld := ⟨0x90058, 0, 1, 0⟩
end TBL_IMG_STAT

-- MAINT_CMD: R490.
namespace MAINT_CMD
/-- [31] GO, type K. -/
abbrev GO : Fld := ⟨0xB0040, 31, 1, 0⟩
/-- [27:24] OP, type K. -/
abbrev OP : Fld := ⟨0xB0040, 24, 4, 0⟩
/-- [15:0] ARG, type K. -/
abbrev ARG : Fld := ⟨0xB0040, 0, 16, 0⟩
end MAINT_CMD

-- MAINT_STAT: R490.
namespace MAINT_STAT
/-- [31] BUSY, type RO. -/
abbrev BUSY : Fld := ⟨0xB0044, 31, 1, 0⟩
/-- [30:28] RESULT, type RO. -/
abbrev RESULT : Fld := ⟨0xB0044, 28, 3, 0⟩
/-- [27:24] WHY, type RO. -/
abbrev WHY : Fld := ⟨0xB0044, 24, 4, 0⟩
/-- [19:16] OP, type RO. -/
abbrev OP : Fld := ⟨0xB0044, 16, 4, 0⟩
/-- [15:0] ARG, type RO. -/
abbrev ARG : Fld := ⟨0xB0044, 0, 16, 0⟩
end MAINT_STAT

-- MAINT_PH_OUT: R490.
namespace MAINT_PH_OUT
/-- [19:16] COMBS, type RO. -/
abbrev COMBS : Fld := ⟨0xB0048, 16, 4, 0⟩
/-- [15:0] PHASES, type RO. -/
abbrev PHASES : Fld := ⟨0xB0048, 0, 16, 0⟩
end MAINT_PH_OUT

-- MAINT_SENSn: R490.
namespace MAINT_SENS
/-- [31:0] OUT, type RO. -/
abbrev OUT (i : Nat) : Fld := ⟨0xB004C + 0x4 * i, 0, 32, 0⟩
end MAINT_SENS

-- MAINT_PORT0: R490.
namespace MAINT_PORT0
/-- [31:0] HOLD, type RO. -/
abbrev HOLD : Fld := ⟨0xB0058, 0, 32, 0⟩
end MAINT_PORT0

-- MAINT_PORT1: R490.
namespace MAINT_PORT1
/-- [31:0] HOLD, type RO. -/
abbrev HOLD : Fld := ⟨0xB005C, 0, 32, 0⟩
end MAINT_PORT1

-- MAINT_CONV: R490.
namespace MAINT_CONV
/-- [4:0] OUT, type RO. -/
abbrev OUT : Fld := ⟨0xB0060, 0, 5, 0⟩
end MAINT_CONV

-- MAINT_CFG: R490.
namespace MAINT_CFG
/-- [31:16] DRAIN_MAX, type KRW. -/
abbrev DRAIN_MAX : Fld := ⟨0xB0064, 16, 16, 0x64⟩
/-- [11:0] SLEW, type KRW. -/
abbrev SLEW : Fld := ⟨0xB0064, 0, 12, 0x64⟩
end MAINT_CFG

-- ACC_THR_EVTn: R344.
namespace ACC_THR_EVT
/-- [31:0] EVT, type W1C. -/
abbrev EVT (n i : Nat) : Fld := ⟨(0x70 + n) * 0x1000 + 0x040 + 0x4 * i, 0, 32, 0⟩
end ACC_THR_EVT

-- ACC_THR_ENn: R344.
namespace ACC_THR_EN
/-- [31:0] EN, type RW. -/
abbrev EN (n i : Nat) : Fld := ⟨(0x70 + n) * 0x1000 + 0x048 + 0x4 * i, 0, 32, 0⟩
end ACC_THR_EN

-- MMT_EVTn: R345.
namespace MMT_EVT
/-- [31:0] EVT, type W1C. -/
abbrev EVT (i : Nat) : Fld := ⟨0x78040 + 0x4 * i, 0, 32, 0⟩
end MMT_EVT

-- MMT_ENn: R345.
namespace MMT_EN
/-- [31:0] EN, type RW. -/
abbrev EN (i : Nat) : Fld := ⟨0x78060 + 0x4 * i, 0, 32, 0⟩
end MMT_EN
end Sys2Proof.Machine
end

