-- ==== Sys2Proof/Machine/RegMap.lean ====
section
/-! DEFINITION. The register map: the fields and type codes of the register at each page and offset
(R9, R79, R84, R85). -/

namespace Sys2Proof.Machine

/-- The type codes of R9. -/
inductive Ty where
  | rw | ro | w1c | wo | krw | k
  deriving DecidableEq, Repr

/-- The fields of one register with their types. -/
abbrev Layout := List (Fld × Ty)

/-- The registers of block CLK by offset. -/
def clkLayout (off : Nat) : Layout :=
  match off with
  | 0x040 => [(CLK_STAT.LOSSES, .ro), (CLK_STAT.RET_RESULT, .ro), (CLK_STAT.RET_READY, .ro), (CLK_STAT.XTAL_VALID, .ro), (CLK_STAT.REFIN_VALID, .ro), (CLK_STAT.HOLDOVER, .ro), (CLK_STAT.SRC, .ro)]
  | 0x044 => [(CLK_CTL.RETURN, .k), (CLK_CTL.PREF, .krw)]
  | _ => []

/-- The registers of block HIVE by offset. -/
def hiveLayout (off : Nat) : Layout :=
  match off with
  | 0x040 => [(HIVE_MODE.RECOVERY, .ro), (HIVE_MODE.TEST, .krw), (HIVE_MODE.MAINT, .ro), (HIVE_MODE.MODE, .ro)]
  | 0x044 => [(HIVE_BOOT_STAT.PIN_REFUSED, .ro), (HIVE_BOOT_STAT.ATTEMPT, .ro), (HIVE_BOOT_STAT.CORE_FAIL, .ro), (HIVE_BOOT_STAT.SAFE_COMB, .ro), (HIVE_BOOT_STAT.LATE_CLAIM, .ro), (HIVE_BOOT_STAT.CLAIMED, .ro), (HIVE_BOOT_STAT.DEADBAT, .ro), (HIVE_BOOT_STAT.NOIMG, .ro), (HIVE_BOOT_STAT.FALLBACK, .ro), (HIVE_BOOT_STAT.IMG, .ro), (HIVE_BOOT_STAT.SECONDARY, .ro), (HIVE_BOOT_STAT.CAUSE, .ro)]
  | 0x048 => [(HIVE_CMD.CODE, .wo)]
  | 0x04C => [(HIVE_WAKE.SRC, .w1c), (HIVE_WAKE.EN, .krw)]
  | 0x050 => [(HIVE_SLEEP_TMR.DURATION, .krw)]
  | 0x060 => [(HIVE_KSESS_CODE_LO.CODE, .wo)]
  | 0x064 => [(HIVE_KSESS_CODE_HI.CODE, .wo)]
  | 0x068 => [(HIVE_KSESS_CTL.IDLE, .krw), (HIVE_KSESS_CTL.CLOSE, .wo)]
  | 0x06C => [(HIVE_KSESS_STAT.TOTAL_FAILS, .ro), (HIVE_KSESS_STAT.LOCK_REM, .ro), (HIVE_KSESS_STAT.FAILS, .ro), (HIVE_KSESS_STAT.LOCKOUT, .ro), (HIVE_KSESS_STAT.PIN, .ro), (HIVE_KSESS_STAT.OPEN, .ro)]
  | 0x070 => [(HIVE_KSESS_EVT.LOCKOUT, .w1c), (HIVE_KSESS_EVT.FAILED, .w1c), (HIVE_KSESS_EVT.CLOSED, .w1c), (HIVE_KSESS_EVT.OPENED, .w1c)]
  | 0x080 => [(HIVE_FLT_LOG.EN, .krw), (HIVE_FLT_LOG.NEXT, .ro)]
  | 0x084 => [(HIVE_FLT_SEQ.SEQ, .ro)]
  | _ => []

/-- The registers of block PWR by offset. -/
def pwrLayout (off : Nat) : Layout :=
  match off with
  | 0x040 => [(PWR_RET_ADDR.WORD, .rw)]
  | 0x044 => [(PWR_RET_DATA.DATA, .krw)]
  | _ => []

/-- The registers of block PAGE by offset. -/
def pageLayout (p : Nat) (off : Nat) : Layout :=
  match off with
  | 0x000 => [(PAGE_ID.PORTKIND p, .ro), (PAGE_ID.INSTANCE p, .ro), (PAGE_ID.KIND p, .ro), (PAGE_ID.PAGE p, .ro)]
  | 0x004 => [(PAGE_VER.MAJOR p, .ro), (PAGE_VER.MINOR p, .ro)]
  | 0x008 => [(PAGE_STAT.BLOCK p, .ro), (PAGE_STAT.REFUSE_WHY p, .ro), (PAGE_STAT.REFUSED p, .w1c), (PAGE_STAT.LOCKED p, .ro), (PAGE_STAT.FAULT p, .ro), (PAGE_STAT.DRAINED p, .ro), (PAGE_STAT.ABSENT p, .ro), (PAGE_STAT.READY p, .ro)]
  | 0x00C => [(PAGE_CTL.BLOCK p, .krw), (PAGE_CTL.TAG_CHK p, .krw), (PAGE_CTL.IRQ_GATE p, .rw)]
  | 0x010 => [(PAGE_IRQ_STAT.EVT p, .w1c)]
  | 0x014 => [(PAGE_IRQ_EN.EN p, .rw)]
  | 0x018 => [(PAGE_IRQ_SET.SET p, .wo)]
  | 0x01C => [(PAGE_FLT_STAT.CAUSE p, .ro), (PAGE_FLT_STAT.ACTIVE p, .ro), (PAGE_FLT_STAT.ACTED p, .ro), (PAGE_FLT_STAT.ACKED p, .ro)]
  | 0x020 => [(PAGE_FLT_ACK.ACK p, .k)]
  | 0x024 => [(PAGE_FLT_CFG.QUIET p, .krw), (PAGE_FLT_CFG.REACT p, .krw)]
  | 0x028 => [(PAGE_FLT_INJ.CAUSE p, .k)]
  | 0x02C => [(PAGE_FLT_CNT.RECOV p, .ro), (PAGE_FLT_CNT.FAULTS p, .ro)]
  | 0x030 => [(PAGE_LOCK.INJ p, .krw), (PAGE_LOCK.BY_IMAGE p, .ro), (PAGE_LOCK.CFG p, .krw)]
  | 0x034 => [(PAGE_TAG_ERR.ORIGIN p, .ro), (PAGE_TAG_ERR.FLAG p, .w1c), (PAGE_TAG_ERR.COUNT p, .ro)]
  | _ => []

/-- The registers of block HOST by offset. -/
def hostLayout (off : Nat) : Layout :=
  match off with
  | 0x040 => [(HOST_CFG.STALL, .krw), (HOST_CFG.FIFO, .krw)]
  | 0x044 => [(HOST_STAT.CRC_ERRS, .ro), (HOST_STAT.ABORTS, .ro), (HOST_STAT.CODE, .ro), (HOST_STAT.INDEX, .ro)]
  | _ => []

/-- The registers of block CAN by offset. -/
def canLayout (n : Nat) (off : Nat) : Layout :=
  match off with
  | 0x040 => [(CAN_CFG.NODE n, .krw), (CAN_CFG.HB n, .krw), (CAN_CFG.LISTEN n, .krw), (CAN_CFG.EN n, .krw)]
  | 0x044 => [(CAN_NBT.BRP n, .krw), (CAN_NBT.TSEG1 n, .krw), (CAN_NBT.TSEG2 n, .krw), (CAN_NBT.SJW n, .krw)]
  | 0x048 => [(CAN_DBT.BRP n, .krw), (CAN_DBT.TSEG1 n, .krw), (CAN_DBT.TSEG2 n, .krw), (CAN_DBT.SJW n, .krw)]
  | 0x04C => [(CAN_STAT.TEC n, .ro), (CAN_STAT.REC n, .ro), (CAN_STAT.DROPPED n, .ro), (CAN_STAT.STATE n, .ro)]
  | _ => []

/-- The registers of block PH by offset. -/
def phLayout (n : Nat) (off : Nat) : Layout :=
  match off with
  | 0x040 => [(PH_CTL.SPEN n, .krw), (PH_CTL.SYNC n, .krw), (PH_CTL.HOLD n, .krw), (PH_CTL.RUN n, .krw)]
  | 0x044 => [(PH_TB_PER.PER n, .krw)]
  | 0x048 => [(PH_DT.MIN_ON n, .krw), (PH_DT.DT_LH n, .krw), (PH_DT.DT_HL n, .krw)]
  | 0x04C => [(PH_ILV.ANGLE n, .krw)]
  | 0x050 => [(PH_CBC.PERSIST n, .krw), (PH_CBC.LEB n, .krw), (PH_CBC.NEG n, .krw), (PH_CBC.POS n, .krw)]
  | 0x054 => [(PH_GDF.DUV_FILT n, .krw), (PH_GDF.DSAT_FILT n, .krw)]
  | 0x058 => [(PH_SP01.SP1 n, .krw), (PH_SP01.SP0 n, .krw)]
  | 0x05C => [(PH_SP23.SP3 n, .krw), (PH_SP23.SP2 n, .krw)]
  | 0x060 => [(PH_HOLD.FW_MAX n, .krw), (PH_HOLD.ZBAND n, .krw)]
  | 0x064 => [(PH_SNS_CAL.OFS n, .krw), (PH_SNS_CAL.GAIN n, .krw)]
  | 0x068 => [(PH_SNS_SCALE.SHIFT n, .ro), (PH_SNS_SCALE.NUM n, .ro)]
  | 0x06C => [(PH_STAT.ISSUED_IDX n, .ro), (PH_STAT.NEXT_IDX n, .ro), (PH_STAT.PER_PENDING n, .ro), (PH_STAT.WALKING n, .ro), (PH_STAT.SLOTS n, .ro), (PH_STAT.CBC_NOW n, .ro), (PH_STAT.HOLD_CAUSE n, .ro), (PH_STAT.STATE n, .ro)]
  | 0x070 => [(PH_ISNS_EOP.CLIP n, .ro), (PH_ISNS_EOP.VALUE n, .ro)]
  | 0x074 => [(PH_CNT0.STALE n, .ro), (PH_CNT0.UNDER n, .ro)]
  | 0x078 => [(PH_CNT1.CLIPPED n, .ro), (PH_CNT1.CBC n, .ro)]
  | _ => []

/-- The registers of block CMB by offset. -/
def cmbLayout (n : Nat) (off : Nat) : Layout :=
  match off with
  | 0x040 => [(CMB_CTL.PDPH n, .krw), (CMB_CTL.ANT_EN n, .krw), (CMB_CTL.EN n, .krw)]
  | 0x044 => [(CMB_MARK.PER n, .krw)]
  | 0x048 => [(CMB_PLAN_CTL.MODEL n, .krw), (CMB_PLAN_CTL.TUPD n, .krw), (CMB_PLAN_CTL.DEPTH n, .krw)]
  | 0x04C => [(CMB_ANT_CFG.PREBIAS n, .krw), (CMB_ANT_CFG.PRE_PER n, .krw), (CMB_ANT_CFG.VHEAD n, .krw)]
  | 0x050 => [(CMB_STORM.WIN16 n, .krw), (CMB_STORM.TH n, .krw)]
  | 0x054 => [(CMB_GANG.MEMBERS n, .ro), (CMB_GANG.STATE n, .ro), (CMB_GANG.REQ n, .krw)]
  | 0x058 => [(CMB_STAT.DEGRADED n, .ro), (CMB_STAT.COUPLED n, .ro), (CMB_STAT.STORM n, .ro), (CMB_STAT.GEN n, .ro), (CMB_STAT.INFLIGHT n, .ro), (CMB_STAT.ANTQ n, .ro)]
  | 0x05C => [(CMB_CONSEC.STORM_CNT n, .ro), (CMB_CONSEC.CONSEC n, .ro)]
  | 0x060 => [(CMB_MISS01.MISS1 n, .ro), (CMB_MISS01.MISS0 n, .ro)]
  | 0x064 => [(CMB_MISS23.MISS3 n, .ro), (CMB_MISS23.MISS2 n, .ro)]
  | 0x068 => [(CMB_SQ_CNT.STORMS n, .ro), (CMB_SQ_CNT.SQUASHES n, .ro)]
  | 0x06C => [(CMB_CONF_LO.CONF n, .ro)]
  | 0x070 => [(CMB_CONF_HI.CONF n, .ro)]
  | 0x074 => [(CMB_ANT_POST_LO.REC n, .wo)]
  | 0x078 => [(CMB_ANT_POST_HI.REC n, .wo)]
  | 0x07C => [(CMB_ANT_CNT.LATE n, .ro), (CMB_ANT_CNT.OVF n, .ro), (CMB_ANT_CNT.ACCEPTED n, .ro)]
  | 0x080 => [(CMB_PEEK_SEL.PHASE n, .rw), (CMB_PEEK_SEL.POS n, .rw)]
  | 0x084 => [(CMB_PEEK0.ENTRY n, .ro)]
  | 0x088 => [(CMB_PEEK1.ENTRY n, .ro)]
  | 0x08C => [(CMB_PEEK2.ENTRY n, .ro)]
  | 0x090 => [(CMB_PEEK3.ENTRY n, .ro)]
  | 0x094 => [(CMB_LAST_MISS.PHASE n, .ro), (CMB_LAST_MISS.INDEX n, .ro), (CMB_LAST_MISS.CAUSE n, .ro), (CMB_LAST_MISS.DEV n, .ro)]
  | 0x0A0 => [(CMB_PP_CTL.QUAL n, .krw), (CMB_PP_CTL.RET_DLY n, .krw), (CMB_PP_CTL.SHARE_EN n, .krw), (CMB_PP_CTL.SUP_EN n, .krw), (CMB_PP_CTL.REVERT n, .krw), (CMB_PP_CTL.PRI n, .krw), (CMB_PP_CTL.SEL n, .krw), (CMB_PP_CTL.EN n, .krw)]
  | 0x0A4 => [(CMB_PP_STAT.GOVERN n, .ro), (CMB_PP_STAT.SHARE_LIVE n, .ro), (CMB_PP_STAT.SHEDDING n, .ro), (CMB_PP_STAT.RAMP n, .ro), (CMB_PP_STAT.BREAK n, .ro), (CMB_PP_STAT.USABLE n, .ro), (CMB_PP_STAT.QUALIFIED n, .ro), (CMB_PP_STAT.ON n, .ro), (CMB_PP_STAT.ACTIVE n, .ro), (CMB_PP_STAT.MODE n, .ro)]
  | 0x0A8 => [(CMB_CHGOVR.BREAK_EST n, .krw), (CMB_CHGOVR.LEAD n, .krw), (CMB_CHGOVR.BBM_GAP n, .krw)]
  | 0x0AC => [(CMB_VSYS.TGT n, .krw)]
  | 0x0B0 => [(CMB_VBB_LIM.MIN n, .krw), (CMB_VBB_LIM.CUT n, .krw)]
  | 0x0B4 => [(CMB_VBB_CFG.KEEP n, .krw), (CMB_VBB_CFG.HYST n, .krw)]
  | 0x0B8 => [(CMB_SUP.LIM n, .krw), (CMB_SUP.HOLD n, .krw), (CMB_SUP.EXIT n, .krw)]
  | 0x0BC => [(CMB_SRC0_BUD.CEIL n, .krw), (CMB_SRC0_BUD.LIM n, .rw)]
  | 0x0C0 => [(CMB_SRC1_BUD.CEIL n, .krw), (CMB_SRC1_BUD.LIM n, .rw)]
  | 0x0C4 => [(CMB_BUDGET.CEIL n, .krw), (CMB_BUDGET.LIM n, .rw)]
  | 0x0C8 => [(CMB_PD_BUDGET.CEIL n, .krw), (CMB_PD_BUDGET.LIM n, .rw)]
  | 0x0CC => [(CMB_BUDGET_SLEW.SLEW n, .krw)]
  | 0x0D0 => [(CMB_SHED_PRI.PRI n, .krw)]
  | 0x0D4 => [(CMB_SHED_STAT.SHED n, .w1c)]
  | 0x0D8 => [(CMB_PP_LOOP.KI_V n, .krw), (CMB_PP_LOOP.KI_I n, .krw)]
  | 0x0DC => [(CMB_PP_EVT.EN n, .rw), (CMB_PP_EVT.EVT n, .w1c)]
  | 0x0E0 => [(CMB_TARGET.LIMIT n, .ro), (CMB_TARGET.TGT n, .ro)]
  | 0x0E4 => [(CMB_SHARE.HOLD n, .krw), (CMB_SHARE.DEFICIT n, .ro)]
  | _ => []

/-- The registers of block PINS by offset. -/
def pinsLayout (off : Nat) : Layout :=
  match off with
  | 0x080 => [(PINS_LAMP_SEL.SEL, .krw)]
  | 0x040 => [(PINS_ERR.PIN, .ro), (PINS_ERR.DRIVE, .ro), (PINS_ERR.FIRST, .ro), (PINS_ERR.PAGES, .ro)]
  | 0x084 => [(PINS_LAMP_STAT.OC, .w1c)]
  | _ => []

/-- The registers of block CHG by offset. -/
def chgLayout (n : Nat) (off : Nat) : Layout :=
  match off with
  | 0x040 => [(CHG_CTL.PROFILE n, .krw), (CHG_CTL.STRETCH_BUD n, .krw), (CHG_CTL.FOLLOW n, .krw), (CHG_CTL.EN n, .krw)]
  | 0x044 => [(CHG_CMD.OP n, .k), (CHG_CMD.ARG n, .k)]
  | 0x048 => [(CHG_TRIM.CEIL n, .krw), (CHG_TRIM.SCALE n, .rw)]
  | 0x04C => [(CHG_STAT.FOLLOWER n, .ro), (CHG_STAT.RESUMED n, .ro), (CHG_STAT.PROBING n, .ro), (CHG_STAT.LIMITED n, .ro), (CHG_STAT.DV_ARMED n, .ro), (CHG_STAT.DTDT_VALID n, .ro), (CHG_STAT.SWEEP_PEND n, .ro), (CHG_STAT.LAMP n, .ro), (CHG_STAT.KIND n, .ro), (CHG_STAT.MODE n, .ro), (CHG_STAT.STATE n, .ro)]
  | 0x050 => [(CHG_SAFE.T_SAFE n, .ro)]
  | 0x054 => [(CHG_WALL.T_STATE n, .ro)]
  | 0x058 => [(CHG_SETPT.V_EFF n, .ro), (CHG_SETPT.I_EFF n, .ro)]
  | 0x05C => [(CHG_AH_STATE.AH n, .ro)]
  | 0x060 => [(CHG_AH_TOTAL.AH n, .ro)]
  | 0x064 => [(CHG_VCELL.PEAK n, .ro), (CHG_VCELL.VCELL n, .ro)]
  | 0x068 => [(CHG_DV.DTDT n, .ro), (CHG_DV.NDV n, .ro)]
  | 0x06C => [(CHG_TEMP.T_BAT n, .ro)]
  | 0x070 => [(CHG_ACC.IACC n, .krw), (CHG_ACC.VACC n, .krw)]
  | 0x074 => [(CHG_ABS.PERIOD n, .krw), (CHG_ABS.PROBE_T n, .krw), (CHG_ABS.PROBE_DV n, .krw), (CHG_ABS.I_TH n, .krw)]
  | 0x078 => [(CHG_RET.RET_VMIN n, .krw), (CHG_RET.ABS_ELAPSED n, .ro)]
  | 0x07C => [(CHG_LAST.CAUSE n, .ro), (CHG_LAST.EXIT n, .ro), (CHG_LAST.TO n, .ro), (CHG_LAST.FROM n, .ro)]
  | 0x080 => [(CHG_ABS_CNT.REMOVALS n, .ro), (CHG_ABS_CNT.PROBES n, .ro)]
  | 0x100 => [(CHG_IMP_CTL.EN n, .krw), (CHG_IMP_CTL.ABORT n, .wo), (CHG_IMP_CTL.START n, .wo)]
  | 0x104 => [(CHG_IMP_ACC.BASE n, .krw)]
  | 0x108 => [(CHG_IMP_STAT.END n, .ro), (CHG_IMP_STAT.TABLE n, .ro), (CHG_IMP_STAT.POINT n, .ro), (CHG_IMP_STAT.STATE n, .ro)]
  | 0x10C => [(CHG_IMP_EVT.EN n, .rw), (CHG_IMP_EVT.EVT n, .w1c)]
  | 0x110 => [(CHG_IMP_SEL.POINT n, .rw)]
  | 0x114 => [(CHG_IMP_PT_RE.Z_RE n, .ro)]
  | 0x118 => [(CHG_IMP_PT_IM.Z_IM n, .ro)]
  | 0x11C => [(CHG_IMP_PT_INFO.STATUS n, .ro), (CHG_IMP_PT_INFO.IAMP n, .ro), (CHG_IMP_PT_INFO.T_BAT n, .ro)]
  | 0x120 => [(CHG_IMP_ZMAG.VALID n, .ro), (CHG_IMP_ZMAG.ZMAG n, .ro)]
  | 0x124 => [(CHG_IMP_SOH.SOH n, .ro), (CHG_IMP_SOH.R25 n, .ro)]
  | 0x128 => [(CHG_IMP_GREF.G_REF n, .ro)]
  | 0x12C => [(CHG_IMP_CNT.ABORTS n, .ro), (CHG_IMP_CNT.COMPLETED n, .ro)]
  | _ => []

/-- The registers of block PORT by offset. -/
def portLayout (n : Nat) (off : Nat) : Layout :=
  match off with
  | 0x040 => [(PORT_CTL.ANT_LEAD n, .krw), (PORT_CTL.TD_USE n, .ro), (PORT_CTL.PRES_USE n, .ro), (PORT_CTL.SAFE n, .krw), (PORT_CTL.SLEEP_ON n, .krw), (PORT_CTL.EN n, .rw)]
  | 0x044 => [(PORT_STAT.TRIP_CAUSE n, .ro), (PORT_STAT.SHED n, .ro), (PORT_STAT.RETRY_RUN n, .ro), (PORT_STAT.TOGGLED n, .ro), (PORT_STAT.INS_DONE n, .ro), (PORT_STAT.WIN n, .ro), (PORT_STAT.PRES n, .ro), (PORT_STAT.GATE_OFF n, .ro), (PORT_STAT.GATE_FULL n, .ro), (PORT_STAT.PG n, .ro), (PORT_STAT.STATE n, .ro)]
  | 0x048 => [(PORT_WIN.OV n, .krw), (PORT_WIN.UV n, .krw)]
  | 0x04C => [(PORT_WIN_CFG.FILT n, .krw), (PORT_WIN_CFG.HYST n, .krw)]
  | 0x050 => [(PORT_OVP.FILT n, .krw), (PORT_OVP.LEVEL n, .krw)]
  | 0x054 => [(PORT_TMR.GRISE n, .krw), (PORT_TMR.PRES_FILT n, .krw), (PORT_TMR.PG_DLY n, .krw), (PORT_TMR.INS_DLY n, .krw)]
  | 0x058 => [(PORT_PCG.PCG_MAX n, .krw), (PORT_PCG.PCG_DV n, .krw), (PORT_PCG.R_PRE n, .krw)]
  | 0x05C => [(PORT_LOAD.I_MAIN n, .krw), (PORT_LOAD.GFALL n, .krw), (PORT_LOAD.PCG_T n, .krw)]
  | 0x060 => [(PORT_OC.FT n, .krw), (PORT_OC.SC n, .krw), (PORT_OC.LIM n, .krw)]
  | 0x064 => [(PORT_REV.REV_T n, .krw), (PORT_REV.REV_TH n, .krw)]
  | 0x068 => [(PORT_RETRY.T_OK n, .krw), (PORT_RETRY.MIN n, .krw)]
  | 0x06C => [(PORT_TM.AMB n, .krw), (PORT_TM.MODEL n, .krw)]
  | 0x070 => [(PORT_FET_T.DIODE n, .ro), (PORT_FET_T.T_FET n, .ro)]
  | 0x074 => [(PORT_RETRY_STAT.RUN n, .ro), (PORT_RETRY_STAT.ELAPSED n, .ro)]
  | 0x078 => [(PORT_CNT.SC n, .ro), (PORT_CNT.TRIPS n, .ro)]
  | 0x07C => [(PORT_CNT1.PRES_CHG n, .ro), (PORT_CNT1.LIMITS n, .ro)]
  | _ => []

/-- The registers of block PDP by offset. -/
def pdpLayout (n : Nat) (off : Nat) : Layout :=
  if 0x070 ≤ off ∧ off < 0x070 + 0x4 * 8 then
    (fun i => [(PDP_TMR.RUN n i, .ro), (PDP_TMR.SWAP n i, .rw), (PDP_TMR.START n i, .wo), (PDP_TMR.STOP n i, .wo), (PDP_TMR.LOAD n i, .rw)]) ((off - 0x070) / 4)
  else
    match off with
    | 0x040 => [(PDP_CTL.RP n, .rw), (PDP_CTL.EPR n, .rw), (PDP_CTL.CONTRACT n, .rw), (PDP_CTL.FRS_ARM n, .rw), (PDP_CTL.VCONN n, .rw), (PDP_CTL.SOP_EN n, .rw), (PDP_CTL.ROLE n, .krw), (PDP_CTL.EN n, .krw)]
    | 0x044 => [(PDP_STAT.HR_CODE n, .ro), (PDP_STAT.DEADBAT n, .ro), (PDP_STAT.DUTY n, .ro), (PDP_STAT.TRANS n, .ro), (PDP_STAT.SW_ON n, .ro), (PDP_STAT.VBUS_PRES n, .ro), (PDP_STAT.ATTACH_ROLE n, .ro), (PDP_STAT.PWR_ROLE n, .ro), (PDP_STAT.POLARITY n, .ro), (PDP_STAT.RP_SEEN n, .ro), (PDP_STAT.CC_STATE n, .ro)]
    | 0x048 => [(PDP_VBUS.CEIL n, .krw), (PDP_VBUS.TGT n, .rw)]
    | 0x04C => [(PDP_TRANS.SLEW n, .rw), (PDP_TRANS.DLY n, .rw), (PDP_TRANS.ARM_TX n, .rw)]
    | 0x050 => [(PDP_TX.GO n, .wo), (PDP_TX.SOP n, .rw), (PDP_TX.LEN n, .rw)]
    | 0x054 => [(PDP_TX_DATA.DATA n, .wo)]
    | 0x058 => [(PDP_RX_DATA.DATA n, .ro)]
    | 0x05C => [(PDP_RX_STAT.COUNT n, .ro), (PDP_RX_STAT.OVF n, .w1c), (PDP_RX_STAT.SOP n, .ro), (PDP_RX_STAT.LEN n, .ro)]
    | 0x060 => [(PDP_SIG.OP n, .wo)]
    | 0x064 => [(PDP_SWAP.STATE n, .rw)]
    | 0x090 => [(PDP_CNT.TX_FAIL n, .ro), (PDP_CNT.CRC_ERR n, .ro), (PDP_CNT.HARD_RESETS n, .ro), (PDP_CNT.TRIPS n, .ro)]
    | _ => []

/-- The registers of block PORTPD by offset. -/
def portpdLayout (n : Nat) (off : Nat) : Layout :=
  match off with
  | 0x040 => [(PORT_PD_CFG.C_OUT n, .krw), (PORT_PD_CFG.GRISE n, .krw), (PORT_PD_CFG.OPEN_MAX n, .krw)]
  | 0x044 => [(PORT_PD_PROT.OVP_PCT n, .krw), (PORT_PD_PROT.OC_MARGIN n, .krw), (PORT_PD_PROT.OC_T n, .krw), (PORT_PD_PROT.SC n, .krw)]
  | 0x048 => [(PORT_PD_REV.REV_TH n, .krw)]
  | 0x04C => [(PORT_PD_STAT.TRIP_CAUSE n, .ro), (PORT_PD_STAT.TRIPS10 n, .ro), (PORT_PD_STAT.STATE n, .ro)]
  | _ => []

/-- The registers of block HKS by offset. -/
def hksLayout (off : Nat) : Layout :=
  if 0x050 ≤ off ∧ off < 0x050 + 0x4 * 8 then
    (fun i => [(HKS_TMR.EN i, .krw), (HKS_TMR.PER i, .krw)]) ((off - 0x050) / 4)
  else if 0x0B0 ≤ off ∧ off < 0x0B0 + 0x4 * 8 then
    (fun i => [(HKS_OVR.OVR i, .w1c)]) ((off - 0x0B0) / 4)
  else if 0x100 ≤ off ∧ off < 0x100 + 0x4 * 32 then
    (fun i => [(HKS_SEQ_TRIG.DELAY i, .krw), (HKS_SEQ_TRIG.EVENT i, .krw), (HKS_SEQ_TRIG.PHASE i, .krw), (HKS_SEQ_TRIG.SRC i, .krw)]) ((off - 0x100) / 4)
  else
    match off with
    | 0x040 => [(HKS_CTL.TABLE, .krw), (HKS_CTL.RECOV_EN, .krw)]
    | 0x044 => [(HKS_LANE_REF.REF, .krw)]
    | 0x048 => [(HKS_STAT.CAL_BUSY, .ro), (HKS_STAT.BUILTIN, .ro), (HKS_STAT.STRICT, .ro), (HKS_STAT.CAL_CONV, .ro), (HKS_STAT.SPARE, .ro), (HKS_STAT.LANES, .ro)]
    | 0x04C => [(HKS_CAL.AUTO, .krw), (HKS_CAL.RESULT, .ro), (HKS_CAL.GO, .k), (HKS_CAL.TARGET, .krw)]
    | 0x070 => [(HKS_SW_TRIG.TRIG, .wo)]
    | 0x074 => [(HKS_SEQ_DONE.DONE, .w1c)]
    | 0x078 => [(HKS_SEQ_DONE_EN.EN, .rw)]
    | 0x07C => [(HKS_RUN.ACTIVE, .ro), (HKS_RUN.STEP, .ro), (HKS_RUN.SEQ, .ro)]
    | 0x080 => [(HKS_PEND.PEND, .ro)]
    | 0x084 => [(HKS_QUEUED.QUEUED, .ro)]
    | 0x088 => [(HKS_CNT0.TRIG_DROP, .ro), (HKS_CNT0.URG_DROP, .ro)]
    | 0x08C => [(HKS_CNT1.REFUSED, .ro), (HKS_CNT1.RECOV, .ro)]
    | 0x090 => [(HKS_URGENT.GO, .wo), (HKS_URGENT.RESULT, .ro), (HKS_URGENT.ACC, .rw), (HKS_URGENT.INPUT, .rw)]
    | 0x094 => [(HKS_TDAC.EN, .krw), (HKS_TDAC.READY, .ro), (HKS_TDAC.CODE, .krw), (HKS_TDAC.INPUT, .krw)]
    | 0x098 => [(HKS_CH_SEL.CH, .rw)]
    | 0x09C => [(HKS_CH_COR.GAIN, .krw), (HKS_CH_COR.OFS, .krw)]
    | 0x0A0 => [(HKS_CH_SCALE.K, .ro)]
    | 0x0A4 => [(HKS_CH_KI.KI, .ro)]
    | 0x0A8 => [(HKS_CH_INFO.KIND, .ro), (HKS_CH_INFO.REF, .krw), (HKS_CH_INFO.ZERO, .ro)]
    | _ => []

/-- The registers of block HKC by offset. -/
def hkcLayout (n : Nat) (off : Nat) : Layout :=
  match off with
  | 0x040 => [(HKC_STAT.SETTLED n, .ro), (HKC_STAT.REF n, .ro), (HKC_STAT.ROLE n, .ro)]
  | 0x044 => [(HKC_CAL.GAIN n, .krw), (HKC_CAL.OFS n, .krw)]
  | 0x048 => [(HKC_CNT.REFUSED n, .ro), (HKC_CNT.CALS n, .ro)]
  | 0x04C => [(HKC_AGE.AGE n, .ro)]
  | _ => []

/-- The registers of block ACC by offset. -/
def accLayout (n : Nat) (off : Nat) : Layout :=
  if 0x100 ≤ off ∧ off < 0x100 + 0x30 * 64 then
    let i := (off - 0x100) / 0x30
    match (off - 0x100) % 0x30 with
    | 0x00 => [(ACC_CFG.CLR n i, .k), (ACC_CFG.SAT n i, .ro), (ACC_CFG.CLAIMED n i, .ro), (ACC_CFG.EPOCH n i, .ro), (ACC_CFG.TEST n i, .krw), (ACC_CFG.THR_EN n i, .krw), (ACC_CFG.BLK n i, .krw), (ACC_CFG.IQCH n i, .krw), (ACC_CFG.MODE n i, .krw), (ACC_CFG.SRC n i, .krw)]
    | 0x04 => [(ACC_THR.HI n i, .krw), (ACC_THR.LO n i, .krw)]
    | 0x08 => [(ACC_SUM_LO.SUM n i, .ro)]
    | 0x0C => [(ACC_SUM_HI.SUM n i, .ro)]
    | 0x10 => [(ACC_CNT_LO.CNT n i, .ro)]
    | 0x14 => [(ACC_CNT_HI.CNT n i, .ro)]
    | 0x18 => [(ACC_SQ_LO.SQ n i, .ro)]
    | 0x1C => [(ACC_SQ_HI.SQ n i, .ro)]
    | 0x20 => [(ACC_CLIPS.CLIPS n i, .ro)]
    | _ => []
  else if 0x040 ≤ off ∧ off < 0x040 + 0x4 * 2 then
    (fun i => [(ACC_THR_EVT.EVT n i, .w1c)]) ((off - 0x040) / 4)
  else if 0x048 ≤ off ∧ off < 0x048 + 0x4 * 2 then
    (fun i => [(ACC_THR_EN.EN n i, .rw)]) ((off - 0x048) / 4)
  else
    []

/-- The registers of block MMT by offset. -/
def mmtLayout (off : Nat) : Layout :=
  if 0x100 ≤ off ∧ off < 0x100 + 0xC * 256 then
    let i := (off - 0x100) / 0xC
    match (off - 0x100) % 0xC with
    | 0x00 => [(MMT_CFG.CLR i, .k), (MMT_CFG.LIMIT i, .krw), (MMT_CFG.TEST i, .krw), (MMT_CFG.LIM_EN i, .krw), (MMT_CFG.DIR i, .krw), (MMT_CFG.EN i, .krw), (MMT_CFG.SRC i, .krw)]
    | 0x04 => [(MMT_MIN.VALID i, .ro), (MMT_MIN.CLIP i, .ro), (MMT_MIN.VALUE i, .ro)]
    | 0x08 => [(MMT_MAX.VALID i, .ro), (MMT_MAX.CLIP i, .ro), (MMT_MAX.VALUE i, .ro)]
    | _ => []
  else if 0x040 ≤ off ∧ off < 0x040 + 0x4 * 8 then
    (fun i => [(MMT_EVT.EVT i, .w1c)]) ((off - 0x040) / 4)
  else if 0x060 ≤ off ∧ off < 0x060 + 0x4 * 8 then
    (fun i => [(MMT_EN.EN i, .rw)]) ((off - 0x060) / 4)
  else
    []

/-- The registers of block MEM by offset. -/
def memLayout (n : Nat) (off : Nat) : Layout :=
  match off with
  | 0x040 => [(MEM_SCRUB.CE_TH n, .krw), (MEM_SCRUB.EN n, .krw)]
  | 0x044 => [(MEM_SCRUB_POS.POS n, .ro)]
  | 0x048 => [(MEM_PASS.PASS n, .ro)]
  | 0x04C => [(MEM_CNT.UE n, .ro), (MEM_CNT.CE n, .ro)]
  | 0x050 => [(MEM_CE_ADDR.RET n, .ro), (MEM_CE_ADDR.ADDR n, .ro)]
  | 0x054 => [(MEM_UE_ADDR.RET n, .ro), (MEM_UE_ADDR.ADDR n, .ro)]
  | 0x058 => [(MEM_INJ.ARM n, .k), (MEM_INJ.MASK n, .k)]
  | 0x05C => [(MEM_INJ_ADDR.ADDR n, .k)]
  | _ => []

/-- The registers of block TAG by offset. -/
def tagLayout (off : Nat) : Layout :=
  if 0x040 ≤ off ∧ off < 0x040 + 0x4 * 8 then
    (fun i => [(TAG_PAGES.FLAGS i, .ro)]) ((off - 0x040) / 4)
  else
    match off with
    | 0x060 => [(TAG_TOTAL.TOTAL, .ro)]
    | 0x064 => [(TAG_CFG.TH, .krw)]
    | 0x068 => [(TAG_INJ.ARM, .k), (TAG_INJ.PATH_SEL, .k), (TAG_INJ.PATH, .k), (TAG_INJ.PAGE, .k), (TAG_INJ.MASK, .k)]
    | _ => []

/-- The registers of block THM by offset. -/
def thmLayout (off : Nat) : Layout :=
  if 0x048 ≤ off ∧ off < 0x048 + 0x4 * 3 then
    (fun i => [(THM_PEND.PEND i, .ro)]) ((off - 0x048) / 4)
  else if 0x054 ≤ off ∧ off < 0x054 + 0x4 * 3 then
    (fun i => [(THM_SUBST.SUBST i, .ro)]) ((off - 0x054) / 4)
  else if 0x100 ≤ off ∧ off < 0x100 + 0x14 * 88 then
    let i := (off - 0x100) / 0x14
    match (off - 0x100) % 0x14 with
    | 0x00 => [(THS_CFG.EN i, .krw), (THS_CFG.ZONE i, .krw), (THS_CFG.CURVE i, .krw), (THS_CFG.EST i, .krw), (THS_CFG.PARTNER i, .krw), (THS_CFG.EST_OFS i, .krw)]
    | 0x04 => [(THS_TH.TH2 i, .krw), (THS_TH.TH1 i, .krw)]
    | 0x08 => [(THS_SD.LOCK i, .ro), (THS_SD.SD i, .krw)]
    | 0x0C => [(THS_VAL.VALID i, .ro), (THS_VAL.SUBST i, .ro), (THS_VAL.T i, .ro)]
    | 0x10 => [(THS_STAT.SD i, .ro), (THS_STAT.PEND_ACK i, .ro), (THS_STAT.SUBST i, .ro), (THS_STAT.FAIL_CAUSE i, .ro), (THS_STAT.LEVEL i, .ro), (THS_STAT.INTERVAL i, .ro), (THS_STAT.SANE i, .ro)]
    | _ => []
  else if 0x800 ≤ off ∧ off < 0x800 + 0x10 * 16 then
    let i := (off - 0x800) / 0x10
    match (off - 0x800) % 0x10 with
    | 0x00 => [(THZ_TGT.PD i, .krw), (THZ_TGT.CHG i, .krw), (THZ_TGT.PH i, .krw)]
    | 0x04 => [(THZ_PCT.MIN i, .krw), (THZ_PCT.PCT2 i, .krw), (THZ_PCT.PCT1 i, .krw)]
    | 0x08 => [(THZ_STAT.SUBST i, .ro), (THZ_STAT.MINPWR i, .ro), (THZ_STAT.LEVEL i, .ro)]
    | 0x0C => [(THZ_EVT.EN i, .rw), (THZ_EVT.EVT i, .w1c)]
    | _ => []
  else
    match off with
    | 0x040 => [(THM_CTL.TABLE, .krw)]
    | 0x044 => [(THM_ACK.SENSOR, .k)]
    | _ => []

/-- The registers of block INTC by offset. -/
def intcLayout (off : Nat) : Layout :=
  if 0x040 ≤ off ∧ off < 0x040 + 0x4 * 8 then
    (fun i => [(INTC_PEND.PEND i, .ro)]) ((off - 0x040) / 4)
  else if 0x060 ≤ off ∧ off < 0x060 + 0x4 * 8 then
    (fun i => [(INTC_PEND_SET.SET i, .wo)]) ((off - 0x060) / 4)
  else if 0x080 ≤ off ∧ off < 0x080 + 0x4 * 8 then
    (fun i => [(INTC_PEND_CLR.CLR i, .wo)]) ((off - 0x080) / 4)
  else if 0x0A0 ≤ off ∧ off < 0x0A0 + 0x4 * 8 then
    (fun i => [(INTC_ACT.ACT i, .ro)]) ((off - 0x0A0) / 4)
  else if 0x100 ≤ off ∧ off < 0x100 + 0x20 * 4 then
    let i := (off - 0x100) / 0x20
    match (off - 0x100) % 0x20 with
    | 0x00 => [(INTC_T_CLAIM.PRIO i, .ro), (INTC_T_CLAIM.VALID i, .ro), (INTC_T_CLAIM.SRC i, .ro)]
    | 0x04 => [(INTC_T_EOI.SRC i, .wo)]
    | 0x08 => [(INTC_T_CTL.STK_SEL i, .rw), (INTC_T_CTL.THRESH i, .rw)]
    | 0x0C => [(INTC_T_STAT.CANDV i, .ro), (INTC_T_STAT.CAND i, .ro), (INTC_T_STAT.DEPTH i, .ro), (INTC_T_STAT.RUNPRIO i, .ro)]
    | 0x10 => [(INTC_T_STK.VALID i, .ro), (INTC_T_STK.PRIO i, .ro), (INTC_T_STK.SRC i, .ro)]
    | 0x14 => [(INTC_T_CNT.SPURIOUS i, .ro), (INTC_T_CNT.CLAIMS i, .ro)]
    | _ => []
  else if 0x400 ≤ off ∧ off < 0x400 + 0x4 * 256 then
    (fun i => [(INTC_SRC_CFG.NEXT i, .ro), (INTC_SRC_CFG.ACTIVE i, .ro), (INTC_SRC_CFG.PEND i, .ro), (INTC_SRC_CFG.SENSE i, .krw), (INTC_SRC_CFG.TGT i, .rw), (INTC_SRC_CFG.PRIO i, .rw)]) ((off - 0x400) / 4)
  else
    match off with
    | 0x0C0 => [(INTC_CTL.ACT_MAX, .krw)]
    | _ => []

/-- The registers of block WDG by offset. -/
def wdgLayout (off : Nat) : Layout :=
  match off with
  | 0x040 => [(WDG_CFG.CLKSEL, .krw)]
  | 0x044 => [(WDG_WIN.CLOSE, .krw), (WDG_WIN.OPEN, .krw)]
  | 0x048 => [(WDG_SLOT_EN.EN, .krw)]
  | 0x04C => [(WDG_SLOT_MAP0.MAP, .krw)]
  | 0x050 => [(WDG_SLOT_MAP1.MAP, .krw)]
  | 0x054 => [(WDG_SVC.KEY, .wo)]
  | 0x058 => [(WDG_CHECKIN.SLOT, .wo)]
  | 0x05C => [(WDG_STAT.CHECKED, .ro), (WDG_STAT.SERVED, .ro), (WDG_STAT.ARMED, .ro), (WDG_STAT.FAILED, .ro), (WDG_STAT.EW, .ro), (WDG_STAT.CLK_INUSE, .ro), (WDG_STAT.MON_OTHER, .ro), (WDG_STAT.SVC_BY_HW, .ro)]
  | 0x060 => [(WDG_SEQ.SEQ, .ro)]
  | 0x064 => [(WDG_TICK.EW, .ro), (WDG_TICK.TICK, .ro)]
  | 0x068 => [(WDG_CAUSE.MISSING, .w1c), (WDG_CAUSE.DUP, .w1c)]
  | 0x06C => [(WDG_CAUSE_X.FROM_RESET, .w1c), (WDG_CAUSE_X.CLK_STOP, .w1c), (WDG_CAUSE_X.BAD_KEY, .w1c), (WDG_CAUSE_X.LATE, .w1c), (WDG_CAUSE_X.EARLY, .w1c)]
  | 0x070 => [(WDG_RST_CNT.COUNT, .ro)]
  | 0x074 => [(WDG_CNT.KEYS_IGNORED, .ro), (WDG_CNT.STRAY, .ro)]
  | _ => []

/-- The registers of block SW by offset. -/
def swLayout (off : Nat) : Layout :=
  if 0x084 ≤ off ∧ off < 0x084 + 0x4 * 4 then
    (fun i => [(SW_MEMB.EN i, .krw), (SW_MEMB.GROUP i, .krw), (SW_MEMB.WEIGHT i, .krw), (SW_MEMB.TARGET i, .ro)]) ((off - 0x084) / 4)
  else
    match off with
    | 0x040 => [(SW_CTL.QPRI, .krw), (SW_CTL.QUEEN_EN, .krw), (SW_CTL.EN, .krw)]
    | 0x044 => [(SW_ADDR.VALID, .ro), (SW_ADDR.DUP, .ro), (SW_ADDR.NODE_ACT, .ro), (SW_ADDR.AUTO, .krw), (SW_ADDR.SEG, .krw), (SW_ADDR.NODE, .krw)]
    | 0x048 => [(SW_PORT_E.MODE, .krw), (SW_PORT_E.ROUTE_HI, .krw), (SW_PORT_E.ROUTE_LO, .krw), (SW_PORT_E.PARTNER, .ro), (SW_PORT_E.LOCK, .ro), (SW_PORT_E.UP, .ro)]
    | 0x04C => [(SW_PORT_W.MODE, .krw), (SW_PORT_W.ROUTE_HI, .krw), (SW_PORT_W.ROUTE_LO, .krw), (SW_PORT_W.PARTNER, .ro), (SW_PORT_W.LOCK, .ro), (SW_PORT_W.UP, .ro)]
    | 0x050 => [(SW_LINK_E.PEER, .ro), (SW_LINK_E.DELAY, .ro)]
    | 0x054 => [(SW_LINK_W.PEER, .ro), (SW_LINK_W.DELAY, .ro)]
    | 0x058 => [(SW_TOPO.QVALID, .ro), (SW_TOPO.HVALID, .ro), (SW_TOPO.RING, .ro), (SW_TOPO.ROLE, .ro), (SW_TOPO.NODES, .ro), (SW_TOPO.HEIR, .ro), (SW_TOPO.QUEEN, .ro)]
    | 0x05C => [(SW_TIME_LO.TIME, .ro)]
    | 0x060 => [(SW_TIME_HI.TIME, .ro)]
    | 0x064 => [(SW_TIME_STAT.VALID, .ro), (SW_TIME_STAT.HOLDOVER, .ro), (SW_TIME_STAT.OFS, .ro)]
    | 0x068 => [(SW_RMT.TIMEOUT, .krw), (SW_RMT.TGT, .rw)]
    | 0x06C => [(SW_RMT_STAT.REASON, .ro), (SW_RMT_STAT.ERRS, .ro)]
    | 0x070 => [(SW_CMD.TGT, .k), (SW_CMD.OP, .k)]
    | 0x074 => [(SW_SHARE_CFG.LEAD, .krw), (SW_SHARE_CFG.RAMP, .krw), (SW_SHARE_CFG.REP, .krw), (SW_SHARE_CFG.DEADBAND, .krw)]
    | 0x078 => [(SW_GRP_SEL.FORGET, .wo), (SW_GRP_SEL.GROUP, .rw)]
    | 0x07C => [(SW_GRP_TOTAL.CEIL, .krw), (SW_GRP_TOTAL.TOTAL, .rw)]
    | 0x080 => [(SW_GRP_STAT.INFORCE, .ro), (SW_GRP_STAT.ROSTER, .ro), (SW_GRP_STAT.REACH, .ro)]
    | 0x094 => [(SW_CNT0.CRC_ERR, .ro), (SW_CNT0.FWD_DROP, .ro)]
    | 0x098 => [(SW_CNT1.SHARE_LATE, .ro), (SW_CNT1.NO_ROUTE, .ro)]
    | 0x09C => [(SW_CNT2.QUEEN_CHG, .ro), (SW_CNT2.DUP_SEEN, .ro)]
    | 0x0A0 => [(SW_UID_LO.UID, .ro)]
    | 0x0A4 => [(SW_UID_HI.UID, .ro)]
    | _ => []

/-- The registers of block TBL by offset. -/
def tblLayout (off : Nat) : Layout :=
  match off with
  | 0x040 => [(TBL_BANK.GEN, .ro), (TBL_BANK.WHY, .ro), (TBL_BANK.RESULT, .ro), (TBL_BANK.INACT, .ro), (TBL_BANK.ACTIVE, .ro)]
  | 0x044 => [(TBL_CMD.OP, .k)]
  | 0x048 => [(TBL_LD_CTL.START, .k), (TBL_LD_CTL.INDEX, .k), (TBL_LD_CTL.TTYPE, .k)]
  | 0x04C => [(TBL_LD_DATA.DATA, .k)]
  | 0x050 => [(TBL_LD_STAT.CODE, .ro), (TBL_LD_STAT.WORDS, .ro)]
  | 0x054 => [(TBL_VER_STAT.RESULT, .ro), (TBL_VER_STAT.WHY, .ro), (TBL_VER_STAT.ENTRY, .ro)]
  | 0x058 => [(TBL_IMG_STAT.RESULT, .ro), (TBL_IMG_STAT.SLOT, .ro)]
  | _ => []

/-- The registers of block MAINT by offset. -/
def maintLayout (off : Nat) : Layout :=
  if 0x04C ≤ off ∧ off < 0x04C + 0x4 * 3 then
    (fun i => [(MAINT_SENS.OUT i, .ro)]) ((off - 0x04C) / 4)
  else
    match off with
    | 0x040 => [(MAINT_CMD.GO, .k), (MAINT_CMD.OP, .k), (MAINT_CMD.ARG, .k)]
    | 0x044 => [(MAINT_STAT.BUSY, .ro), (MAINT_STAT.RESULT, .ro), (MAINT_STAT.WHY, .ro), (MAINT_STAT.OP, .ro), (MAINT_STAT.ARG, .ro)]
    | 0x048 => [(MAINT_PH_OUT.COMBS, .ro), (MAINT_PH_OUT.PHASES, .ro)]
    | 0x058 => [(MAINT_PORT0.HOLD, .ro)]
    | 0x05C => [(MAINT_PORT1.HOLD, .ro)]
    | 0x060 => [(MAINT_CONV.OUT, .ro)]
    | 0x064 => [(MAINT_CFG.DRAIN_MAX, .krw), (MAINT_CFG.SLEW, .krw)]
    | _ => []
/-- The port kind of port `n` (R84): 1 source, 2 battery, 3 feeder, 4 PD port. -/
def portKind (n : Nat) : Nat :=
  if n % 12 < 2 then 1 else if n % 12 < 4 then 2 else if n % 12 < 11 then 3 else 4

/-- The fields of R283 that a port page of the given kind does not hold. -/
def portFieldHeld (kind : Nat) (n : Nat) (f : Fld) : Bool :=
  if f ∈ [PORT_CTL.ANT_LEAD n, PORT_CTL.SAFE n, PORT_STAT.SHED n, PORT_STAT.INS_DONE n, PORT_STAT.PG n,
      PORT_TMR.PG_DLY n, PORT_TMR.INS_DLY n, PORT_LOAD.I_MAIN n, PORT_LOAD.PCG_T n] then kind == 3
  else if f ∈ [PORT_REV.REV_T n, PORT_REV.REV_TH n] then kind == 2
  else true

/-- The block registers of a port page: R283 for kinds 1 to 3, R310 for kind 4. -/
def portPageLayout (n off : Nat) : Layout :=
  if portKind n = 4 then
    (if off = 0x06C ∨ off = 0x070 then portLayout n off else portpdLayout (n / 12) off)
  else (portLayout n off).filter (fun p => portFieldHeld (portKind n) n p.1)

/-- The first page of the block that a page belongs to, none for an unallocated page (R84). -/
def pageKind (p : Nat) : Option Nat :=
  if p ≤ 0x02 ∨ p = 0x04 ∨ p = 0x08 ∨ p = 0x09 ∨ p = 0x0C then some p
  else if p = 0x05 ∨ p = 0x06 then some 0x05
  else if 0x10 ≤ p ∧ p ≤ 0x13 then some 0x10
  else if 0x20 ≤ p ∧ p ≤ 0x2F then some 0x20
  else if 0x30 ≤ p ∧ p ≤ 0x5F then some 0x30
  else if 0x60 ≤ p ∧ p ≤ 0x63 then some 0x60
  else if p = 0x68 then some 0x68
  else if 0x69 ≤ p ∧ p ≤ 0x6D then some 0x69
  else if 0x70 ≤ p ∧ p ≤ 0x77 then some 0x70
  else if p = 0x78 ∨ p = 0x80 then some p
  else if 0x88 ≤ p ∧ p ≤ 0x8F then some 0x88
  else if p = 0x90 ∨ p = 0x98 ∨ p = 0xA0 ∨ p = 0xA1 ∨ p = 0xA2 ∨ p = 0xB0 then some p
  else none

/-- The allocated pages. -/
def allocatedPages : List Nat := (List.range 256).filter (fun p => (pageKind p).isSome)

/-- The fields of the register at a page and offset; an offset that no chapter assigns, and every
offset of an unallocated page, holds none (R80, R84). -/
def regLayout (p off : Nat) : Layout :=
  match pageKind p with
  | none => []
  | some k =>
    if off < 0x040 then pageLayout p off
    else match k with
      | 0x00 => hiveLayout off
      | 0x01 => clkLayout off
      | 0x02 => pwrLayout off
      | 0x04 => hostLayout off
      | 0x05 => canLayout (p - 0x05) off
      | 0x08 => intcLayout off
      | 0x09 => wdgLayout off
      | 0x0C => pinsLayout off
      | 0x10 => cmbLayout (p - 0x10) off
      | 0x20 => phLayout (p - 0x20) off
      | 0x30 => portPageLayout (p - 0x30) off
      | 0x60 => pdpLayout (p - 0x60) off
      | 0x68 => hksLayout off
      | 0x69 => hkcLayout (p - 0x69) off
      | 0x70 => accLayout (p - 0x70) off
      | 0x78 => mmtLayout off
      | 0x80 => thmLayout off
      | 0x88 => chgLayout (p - 0x88) off
      | 0x90 => tblLayout off
      | 0x98 => swLayout off
      | 0xA0 => memLayout 0 off
      | 0xA1 => memLayout 1 off
      | 0xA2 => tagLayout off
      | 0xB0 => maintLayout off
      | _ => []

end Sys2Proof.Machine
end

