-- ==== Sys2Proof/Machine/State.lean ====
section
/-! DEFINITION. The state of the block as plain data, its faults and refusals, and the state after reset. -/

namespace Sys2Proof.Machine

/-- Faults. No command of this block stops it: every error of the spec is an effect on the state.
The one constructor is the machine's stop for a state that no run reaches; nothing raises it (safe). -/
inductive Fault where
  /-- Raised by no command (safe). -/
  | unreachable
  deriving DecidableEq, Repr

/-- Refusals. -/
inductive Refusal where
  /-- Raised by the dispatch for a command that has no meaning yet (safe). -/
  | notModelled (mnemonic : String)
  deriving DecidableEq, Repr

/-- The read holder of a path: the register whose low word was captured, both words and the tag (R97). -/
structure ReadHold where
  key : Nat
  lo : Nat
  hi : Nat
  tag : Nat
  deriving DecidableEq, Repr

/-- The write holder of a path: the register whose low word is held, and the word (R98). -/
structure WriteHold where
  key : Nat
  lo : Nat
  deriving DecidableEq, Repr

/-- A plan entry in flight (R143, R146): its timing part, its stage (0 PLANNED, 1 STAGED, 2 ISSUED), the
marks ANT, PDPH and GEN, its confirmation band, its predicted end current (C units), the mean current of its
period and the phase current target for which it was solved (both 10 mA). -/
structure PlanEntry where
  t : Timing
  stage : Nat
  ant : Bool
  pdph : Bool
  gen : Nat
  band : Nat
  iPred : Int
  iAvg : Int
  goal : Int
  deriving DecidableEq, Repr

/-- A queued anticipation record (R161): its word; the taps from its registration to the last comb mark, below zero
where the mark came first; and the set target in force at its START, from which its bound moves (R166). -/
structure Queued where
  word : Nat
  age : Int
  base : Int
  deriving DecidableEq, Repr

/-- What the block has sent: records, frames and messages, oldest first. -/
inductive Sent where
  /-- An anticipation record to a comb's Forager (R162). -/
  | record (comb : Nat) (word : Nat)
  /-- A squash that a Forager sends to one of its phase islands (R157). -/
  | squash (phase : Nat)
  /-- A squash relayed to the Forager of a gang partner (R157). -/
  | gangSquash (comb : Nat)
  /-- A GoodCRC of a PD port, with the SOP type and MessageID that it answers (R294). -/
  | goodCrc (port : Nat) (sop : Nat) (id : Nat)
  /-- A message of a PD port's transmit buffer, or a retry of it (R294, R295). -/
  | pdMessage (port : Nat) (sop : Nat) (bytes : List (BitVec 8))
  /-- Hard Reset signalling of a PD port (R296). -/
  | hardReset (port : Nat)
  /-- Cable Reset signalling of a PD port (R296). -/
  | cableReset (port : Nat)
  /-- A Swarm frame on a port, 0 east and 1 west, with the bytes of R439. -/
  | swarm (port : Nat) (bytes : List (BitVec 8))
  /-- Response bytes of the host port: a chunk, the last with STATUS and SCRC (R101, R105). -/
  | hostResponse (bytes : List (BitVec 8))
  /-- A CAN FD frame of controller `n`: identifier and payload (R114). -/
  | can (n : Nat) (id : Nat) (payload : List (BitVec 8))
  deriving DecidableEq, Repr

/-- The words of one frame that a path performs (R105, R108, R454): `kind` 0 a host-port frame, 1 a CAN FD request,
2 words of the Swarm remote window on their own, 3 a host-port frame that has ended early, 4 a REQ frame. -/
structure Job where
  kind : Nat
  /-- the frame writes -/
  write : Bool
  /-- every word has the same address: RDN and WRN -/
  fixed : Bool
  /-- the frame carries the Keeper bit, and the path held a session at its first access (R88) -/
  keeper : Bool
  /-- address of the next word -/
  addr : Nat
  /-- the words still to be written -/
  data : List (BitVec 32)
  /-- the words still to be performed -/
  left : Nat
  /-- how many of them belong to the present chunk -/
  quota : Nat
  /-- the chunk size F in force for the frame -/
  fifo : Nat
  /-- the words performed -/
  done : Nat
  /-- CODE and INDEX earned so far -/
  code : Nat
  index : Nat
  /-- the running SCRC -/
  crc : Nat
  /-- the response bytes of the present chunk -/
  out : List (BitVec 8)
  /-- the words of the REQ that awaits its RSP; 0 none -/
  wait : Nat
  /-- the number of that REQ in the order of sending, and its target -/
  stamp : Nat
  target : Nat
  /-- SEQ and SRC of the CAN FD request, as SEQ x 256 + SRC -/
  reply : Nat
  deriving DecidableEq, Repr

/-- A CAN FD request that waits: SEQ x 256 + SRC, and its payload (R115, R116). -/
structure CanWait where
  reply : Nat
  payload : List (BitVec 8)
  deriving DecidableEq, Repr

/-- The state of the block. -/
structure State where
  /-- every register field and every internal field; an unlisted field is at its reset value, and a
  listed one is held as the exclusive-or with it -/
  regs : List (Nat × Nat)
  /-- the bytes of the SRAM and MRAM windows by window address (R81, R82) -/
  mem : List Host.Cell
  /-- the bytes of the retention SRAM (R74) -/
  ret : List Host.Cell
  /-- the condition of the check bits of each 64-bit word, by window address divided by 8, the words of the
  retention SRAM from 0x200000 upwards: bits [7:0] the check bits inverted, bit 8 poisoned, bits 9 and 10
  the half written since (R357, R358, R360) -/
  ecc : List (Nat × Nat)
  /-- the read holder of each path (R97) -/
  readHold : Vector (Option ReadHold) 4
  /-- the write holder of each path (R98) -/
  writeHold : Vector (Option WriteHold) 4
  /-- the session code low word held for each path; none is the empty holder (R92) -/
  codeHold : Vector (Option (BitVec 32)) 4
  /-- the staged register of each phase: the entries of S0 and then S1 (R123) -/
  slots : Vector (List Timing) 16
  /-- the entry of the present period of each phase, clipped as it runs (R124, R126) -/
  exec : Vector (Option Timing) 16
  /-- the entry issued for the coming period of each phase, clipped (R124) -/
  coming : Vector (Option Timing) 16
  /-- the plan window of each phase: its entries in flight, oldest first (R143) -/
  window : Vector (List PlanEntry) 16
  /-- the anticipation records that each comb queues, oldest first (R161, R164) -/
  antq : Vector (List Queued) 4
  /-- the messages that each PD port holds, SOP type and bytes, the head first (R295) -/
  rx : Vector (List (Nat × List (BitVec 8))) 4
  /-- the bytes written to the transmit buffer of each PD port, and the message in transmission (R295) -/
  txBuf : Vector (List (BitVec 8)) 4
  txMsg : Vector (List (BitVec 8)) 4
  /-- the register writes that PORT_HOLD stages for each port, as offset and word, in the order written (R481) -/
  staged : Vector (List (Nat × Nat)) 48
  /-- the frame that each path performs and has not completed (R105, R454) -/
  jobs : Vector (Option Job) 4
  /-- the requests that wait in each CAN FD controller, oldest first (R116) -/
  canq : Vector (List CanWait) 2
  /-- what the block has sent, oldest first -/
  sent : List Sent
  /-- the commands that wait, first in first out -/
  pending : List Instr
  deriving DecidableEq, Repr

/-- The state at the release of power-on reset, which is t0 of START-UP (R60, R68). -/
def State.reset : State where
  regs := []
  mem := []
  ret := []
  ecc := []
  readHold := Vector.replicate 4 none
  writeHold := Vector.replicate 4 none
  codeHold := Vector.replicate 4 none
  slots := Vector.replicate 16 []
  exec := Vector.replicate 16 none
  coming := Vector.replicate 16 none
  window := Vector.replicate 16 []
  antq := Vector.replicate 4 []
  rx := Vector.replicate 4 []
  txBuf := Vector.replicate 4 []
  txMsg := Vector.replicate 4 []
  staged := Vector.replicate 48 []
  jobs := Vector.replicate 4 none
  canq := Vector.replicate 2 []
  sent := []
  pending := []

end Sys2Proof.Machine
end

