-- ==== Sys2Proof/Machine/Ops.lean ====
section
/-! DEFINITION. The named operations over the state: fields, memory bytes and words, and the queue. -/

namespace Sys2Proof.Machine

/-- A command's outcome. -/
abbrev Out := Host.Outcome State Fault Refusal

/-- Read a field (DEDUCED, log entry 11). -/
def State.get (s : State) (f : Fld) : Nat := (Sparse.look 0 s.regs f.id ^^^ f.rst) % 2 ^ f.len

/-- Write a field: the low bits that it holds (DEDUCED, log entry 11). -/
def State.put (s : State) (f : Fld) (v : Nat) : State :=
  { s with regs := Sparse.set 0 s.regs f.id ((v % 2 ^ f.len) ^^^ f.rst) }

/-- Read a field as a flag. -/
def State.flag (s : State) (f : Fld) : Bool := s.get f != 0

/-- Read one bit of a field. -/
def State.bit (s : State) (f : Fld) (i : Nat) : Bool := (s.get f).testBit i

/-- Read a field as two's complement. -/
def State.int (s : State) (f : Fld) : Int := toSigned f.len (s.get f)

/-- Write a flag. -/
def State.putB (s : State) (f : Fld) (b : Bool) : State := s.put f (bitOf b)

/-- Write a two's complement number. -/
def State.putI (s : State) (f : Fld) (z : Int) : State := s.put f (ofSigned f.len z)

/-- Write a number held at the greatest value of the field. -/
def State.putSat (s : State) (f : Fld) (v : Nat) : State := s.put f (min v (2 ^ f.len - 1))

/-- Set bits of a field. -/
def State.orF (s : State) (f : Fld) (m : Nat) : State := s.put f (s.get f ||| m)

/-- Clear bits of a field. -/
def State.clrF (s : State) (f : Fld) (m : Nat) : State := s.put f (andNot (s.get f) m)

/-- Set or clear one bit of a field. -/
def State.putBit (s : State) (f : Fld) (i : Nat) (b : Bool) : State :=
  if b then s.orF f (1 <<< i) else s.clrF f (1 <<< i)

/-- Count up, saturating at the field's greatest value. -/
def State.inc (s : State) (f : Fld) : State := s.putSat f (s.get f + 1)

/-- Count up, wrapping. -/
def State.wrapInc (s : State) (f : Fld) : State := s.put f (s.get f + 1)

/-- An effect that happens only on a condition. -/
def State.on (s : State) (b : Bool) (g : State → State) : State := if b then g s else s

/-- An effect for each member of a list, in its order. -/
def State.each {α : Type} (s : State) (l : List α) (g : State → α → State) : State := l.foldl g s

/-- Read one byte of the SRAM and MRAM windows; a byte that nothing has written reads as zero
(DESIGN CHOICE, log entry 10). -/
def State.byte (s : State) (a : Nat) : BitVec 8 := Sparse.look 0 s.mem a

/-- Write one byte of the windows. -/
def State.setByte (s : State) (a : Nat) (b : BitVec 8) : State :=
  { s with mem := Sparse.set 0 s.mem a b }

/-- Read a little-endian number of `n` bytes. -/
def State.leNat (s : State) (a : Nat) : Nat → Nat
  | 0 => 0
  | n + 1 => (s.byte a).toNat + 256 * s.leNat (a + 1) n

/-- Write a little-endian number of `n` bytes. -/
def State.setLe (s : State) (a v : Nat) : Nat → State
  | 0 => s
  | n + 1 => (s.setByte a (BitVec.ofNat 8 v)).setLe (a + 1) (v / 256) n

/-- Read a 32-bit word of the windows. -/
def State.word (s : State) (a : Nat) : Nat := s.leNat a 4

/-- The memory whose page guards a window address: 0 MEM, 1 MRAM (R81, R82, R365). -/
def memOf (a : Nat) : Nat := if a < 0x600000 then 0 else 1

/-- The check bits of 64-bit word `w` are written with its data; an armed injection at the word inverts
them, clears ARM and sets EVT bit 3 (R357, R360). -/
def State.eccStore (s : State) (w : Nat) : State :=
  let n := memOf (8 * w)
  if w < 0x200000 ∧ s.flag (MEM_INJ.ARM n) ∧ s.get (MEM_INJ_ADDR.ADDR n) / 8 = w then
    ({ s with ecc := Sparse.set 0 s.ecc w (s.get (MEM_INJ.MASK n)) }.put (MEM_INJ.ARM n) 0).orF
      (PAGE_IRQ_STAT.EVT (0xA0 + n)) 8
  else { s with ecc := Sparse.set 0 s.ecc w 0 }

/-- A 32-bit write of half `h` of word `w` updates the word by read-modify-write; a poisoned word stays
poisoned until both halves have been written (R81, R358) (DEDUCED, log entry 40). -/
def State.eccHalf (s : State) (w h : Nat) : State :=
  let m := Sparse.look 0 s.ecc w
  if m < 256 then s.eccStore w
  else
    let m' := m ||| (512 <<< h)
    if 256 + 512 + 1024 ≤ m' then s.eccStore w else { s with ecc := Sparse.set 0 s.ecc w m' }

/-- Write a 32-bit word of the windows. -/
def State.setWord (s : State) (a v : Nat) : State := (s.setLe a v 4).eccHalf (a / 8) (a / 4 % 2)

/-- Write a whole 64-bit word of the windows. -/
def State.setDouble (s : State) (a v : Nat) : State := (s.setLe a v 8).eccStore (a / 8)

/-- Every byte of the windows in a range of whole words reads as zero again. -/
def State.clearMem (s : State) (lo hi : Nat) : State :=
  { s with mem := Sparse.keep (fun a => a < lo || hi ≤ a) s.mem,
           ecc := Sparse.keep (fun w => w < lo / 8 || hi / 8 ≤ w) s.ecc }

/-- Read one byte of the retention SRAM (DESIGN CHOICE, log entry 10). -/
def State.retByte (s : State) (a : Nat) : BitVec 8 := Sparse.look 0 s.ret a

/-- Write one byte of the retention SRAM. -/
def State.setRetByte (s : State) (a : Nat) (b : BitVec 8) : State :=
  { s with ret := Sparse.set 0 s.ret a b }

/-- Read a 32-bit word of the retention SRAM (R74). -/
def State.retWord (s : State) (a : Nat) : Nat :=
  (s.retByte a).toNat + 256 * (s.retByte (a + 1)).toNat + 65536 * (s.retByte (a + 2)).toNat
    + 16777216 * (s.retByte (a + 3)).toNat

/-- The key of the check bits of the 64-bit retention word `w`. -/
def retKey (w : Nat) : Nat := 0x200000 + w

/-- Write a 32-bit word of the retention SRAM, with the check bits of its 64-bit word (R74, R357). -/
def State.setRetWord (s : State) (a v : Nat) : State :=
  ((((s.setRetByte a (BitVec.ofNat 8 v)).setRetByte (a + 1) (BitVec.ofNat 8 (v / 256))).setRetByte
    (a + 2) (BitVec.ofNat 8 (v / 65536))).setRetByte (a + 3) (BitVec.ofNat 8 (v / 16777216))).eccHalf
      (retKey (a / 8)) (a / 4 % 2)

/-- Every field whose key does not satisfy `p` is at its reset value again. -/
def State.keepKeys (s : State) (p : Nat → Bool) : State :=
  { s with regs := Sparse.keep (fun id => p (id / 32)) s.regs }

/-- The 64-bit number in two 32-bit registers, the low word at the lower offset (R4). -/
def State.get64 (s : State) (lo hi : Fld) : Nat := s.get lo + 4294967296 * s.get hi

/-- Write a 64-bit number to two 32-bit registers. -/
def State.put64 (s : State) (lo hi : Fld) (v : Nat) : State :=
  (s.put lo v).put hi (v / 4294967296)

/-- Append to what the block has sent (DESIGN CHOICE, log entry 59). -/
def State.send (s : State) (m : Sent) : State := { s with sent := s.sent ++ [m] }

/-- Draw the number of the next free value (DESIGN CHOICE, log entry 3). -/
def State.fresh (s : State) : Nat × State := (s.get Dev.FREE, s.wrapInc Dev.FREE)

end Sys2Proof.Machine
end

