-- ==== Sys2Proof/Machine/Flags.lean ====
section
/-! DEFINITION. Event bits, the error pin, the fault log and the recording of a raise: what the fault
fields of every page hold (R85, R86, R384 to R394), apart from the class actions themselves. -/

namespace Sys2Proof.Machine

/-- The page is declared absent in the board description (R53, R85). -/
def absent (s : State) (p : Nat) : Bool := s.flag (PAGE_STAT.ABSENT p)

/-- The EVT bits that the chapter of a page assigns (R86, R397, R399 and the chapters' own lists).
Bit 8 of PORT(12c) follows the condition of R200 and is not stored. -/
def evtAssigned (p : Nat) : Nat :=
  match pageKind p with
  | some 0x00 => 0x8003
  | some 0x01 => 0x8001
  | some 0x02 => 0x8000
  | some 0x04 => 0x8000
  | some 0x05 => 0x8000
  | some 0x09 => 0x8007
  | some 0x0C => 0x8007
  | some 0x10 => 0x81FF
  | some 0x20 => 0x00FF
  | some 0x30 => if portKind (p - 0x30) = 4 then 0x8005 else 0x80FF
  | some 0x60 => 0xFFFF
  | some 0x68 => 0x82FF
  | some 0x69 => 0x8003
  | some 0x70 => 0x8001
  | some 0x78 => 0x8000
  | some 0x80 => 0x8000
  | some 0x88 => 0x81FF
  | some 0x90 => 0x801F
  | some 0x98 => 0x87FF
  | some 0xA0 => 0x800F
  | some 0xA1 => 0x800F
  | some 0xA2 => 0x8003
  | some 0xB0 => 0x8003
  | _ => 0

/-- Set event bit `i` of a page; a reserved bit is never set (R86). -/
def State.evt (s : State) (p i : Nat) : State :=
  s.orF (PAGE_IRQ_STAT.EVT p) ((1 <<< i) &&& evtAssigned p)

/-- Any class of the page is active (R385). -/
def pageActive (s : State) (p : Nat) : Bool := s.get (PAGE_FLT_STAT.ACTIVE p) != 0

/-- How many pages have any ACTIVE bit set: `PINS_ERR.PAGES` (R393). -/
def activePages (s : State) : Nat := (allocatedPages.filter (pageActive s)).length

/-- The device drives ERR_N low: held until the first evaluation, by the always-on domain in hive-sleep, and while any
class is active (R392). -/
def errWanted (s : State) : Bool :=
  s.flag Err.HOLD || (s.get Sleep.STATE == 2 && s.flag Sleep.ERR) || allocatedPages.any (pageActive s)

/-- The level of ERR_N is low: this device drives it, or another device on the shared line does (R392, R393). -/
def errLow (s : State) : Bool := s.flag PINS_ERR.DRIVE || s.flag Err.EXT

/-- ERR_N follows its condition: page `p` is the one whose event may have changed it. A change sets
EVT bit 0 or 1 of the PINS page, and a fall loads FIRST. In hive-sleep the pin may fall, and is released only after the
wake (R392, R393, R399). -/
def errUpdate (s : State) (p : Nat) : State :=
  if errWanted s && !s.flag PINS_ERR.DRIVE then
    (((s.put PINS_ERR.DRIVE 1).put PINS_ERR.FIRST p).on (s.get Sleep.STATE == 2) (·.put Sleep.ERR 1)).evt 0x0C 0
  else if !errWanted s && s.flag PINS_ERR.DRIVE then
    (s.put PINS_ERR.DRIVE 0).evt 0x0C 1
  else s

/-- `PAGE_FLT_STAT` of a page as one word (R86). -/
def fltStat (s : State) (p : Nat) : Nat :=
  s.get (PAGE_FLT_STAT.CAUSE p) * 0x10000 + s.get (PAGE_FLT_STAT.ACTIVE p) * 0x100
    + s.get (PAGE_FLT_STAT.ACTED p) * 0x10 + s.get (PAGE_FLT_STAT.ACKED p)

/-- Write one record of the fault log at index NEXT of its ring (R394): `cause` is the cause bit
number or 0xFF, `attr` the class with the ESC and INJ marks, `kind` the type of the event. -/
def logFault (s : State) (p cause attr kind : Nat) : State :=
  if s.flag HIVE_FLT_LOG.EN then
    let a := 0x580000 + 16 * s.get HIVE_FLT_LOG.NEXT
    let s1 := (s.setDouble a (s.get Dev.TIME + 0x100000000 *
      (p + 0x100 * cause + 0x10000 * attr + 0x1000000 * kind))).setDouble (a + 8)
        (fltStat s p + 0x100000000 * s.get HIVE_FLT_SEQ.SEQ)
    let s2 := s1.wrapInc HIVE_FLT_SEQ.SEQ
    if s.get HIVE_FLT_LOG.NEXT + 1 = 8192 then (s2.put HIVE_FLT_LOG.NEXT 0).evt 0x00 0
    else s2.put HIVE_FLT_LOG.NEXT (s.get HIVE_FLT_LOG.NEXT + 1)
  else s

/-- Class `n` of a page is active (R385). -/
def classActive (s : State) (p n : Nat) : Bool := s.bit (PAGE_FLT_STAT.ACTIVE p) (n - 1)

/-- Class action `n` of a page is in force (R385). -/
def classActed (s : State) (p n : Nat) : Bool := s.bit (PAGE_FLT_STAT.ACTED p) (n - 1)

/-- The catalogue class of cause bit 16 + `i` of a page, none where the bit is reserved (R140, R173, R234,
R280, R306, R308, R340, R363, R381, R398 and the catalogues of chapters 17 to 20). -/
def causeClass (p i : Nat) : Option Nat :=
  let l : List Nat := match pageKind p with
    | some 0x00 => [1, 1, 2, 3]
    | some 0x01 => [2, 4]
    | some 0x02 => [3, 4, 1]
    | some 0x04 => [1]
    | some 0x05 => [1, 2, 1]
    | some 0x08 => [1, 1, 1, 2]
    | some 0x09 => [2, 1]
    | some 0x0C => [2]
    | some 0x10 => [4, 4, 3, 2, 1, 1, 1]
    | some 0x20 => [4, 4, 4, 4, 2, 2, 2, 2, 1]
    | some 0x30 =>
      match portKind (p - 0x30) with
      | 1 => [4, 4, 4, 4, 4, 4, 3, 3, 3, 2, 2]
      | 2 => [4, 4, 4, 4, 4, 4, 3, 3, 3, 0, 0, 2, 0, 1]
      | 3 => [4, 4, 4, 4, 4, 4, 3, 3, 3, 0, 0, 0, 1]
      | _ => [4, 4, 4, 4, 4, 4, 3, 0, 3, 3]
    | some 0x60 => [4, 4, 3, 3, 1, 2]
    | some 0x68 => [4, 2, 2, 2]
    | some 0x69 => [2, 2]
    | some 0x70 => [1]
    | some 0x80 => [4, 4, 4, 4, 2, 2, 2]
    | some 0x88 => [2, 3, 3, 2, 1, 1, 1]
    | some 0x90 => [1, 1, 2, 2]
    | some 0x98 => [2, 2, 2, 1, 1, 1, 1]
    | some 0xA0 => [1, 2, 2]
    | some 0xA1 => [1, 2, 2, 1]
    | some 0xA2 => [1]
    | some 0xB0 => [2, 2]
    | _ => []
  match l[i]? with
  | some 0 => none
  | x => x

/-- The page's own C2 action is in force: some cause has reached class 2 by escalation, since every C2 cause of a
catalogue names its action (R390) (DEDUCED, log entry 18). -/
def ownActed (s : State) (p : Nat) : Bool :=
  classActed s p 2 && (List.range 16).any (fun i => s.get (Flt.STAND p i) == 2 && causeClass p i != some 2)

/-- Some cause that stands at class `n` of the page is present (R384, R389). -/
def classPresent (s : State) (p n : Nat) : Bool :=
  (List.range 16).any (fun i => s.get (Flt.STAND p i) = n && s.bit (Flt.PRESENT p) i)

/-- The quiet period of class `n` runs exactly while the class is active with no cause present (R389). -/
def quietUpdate (s : State) (p n : Nat) : State :=
  s.putBit (Flt.QUIET p) (n - 1) (classActive s p n && !classPresent s p n)

/-- A raise as its catalogue and its detection describe it: the page, the cause's bit less 16, its
catalogue class, and whether the condition holds on after the raising edge, or was injected. Where several causes are
raised on one edge, `edge` is the class judged before the edge, 0 where the cause is alone, and `merged` marks one that
is one fault with another of the edge (R388, R396). -/
structure Cause where
  page : Nat
  bit : Nat
  cls : Nat
  holds : Bool := false
  inj : Bool := false
  edge : Nat := 0
  merged : Bool := false
  deriving DecidableEq, Repr

/-- The class at which a raise stands: one class up where its own is active and unacknowledged (R388)
(DEDUCED, log entry 17). -/
def raiseClass (s : State) (c : Cause) : Nat :=
  if c.edge ≠ 0 then c.edge
  else if c.cls < 4 ∧ classActive s c.page c.cls ∧ s.bit (Flt.UNACK c.page) (c.cls - 1) then c.cls + 1
  else c.cls

/-- The page raises nothing: declared absent, or its domain gated in hive-sleep (R53, R395). A port
page, the always-on pages and the watchdog page are not gated. -/
def muted (s : State) (p : Nat) : Bool :=
  absent s p || (s.get Sleep.STATE == 2 && !(0x30 ≤ p && p ≤ 0x5F) && !(p == 0x09) && !(p == 0x02))

/-- The record of a raise, without any class action: CAUSE, FAULTS, EVT bit 15, the class and its
unacknowledged condition with its reaction timer, the quiet periods, the log and ERR_N (R384 to R389). -/
def recordRaise (s : State) (c : Cause) : State :=
  let n := raiseClass s c
  let s1 := ((s.orF (PAGE_FLT_STAT.CAUSE c.page) (1 <<< c.bit)).on (!c.merged) (·.inc (PAGE_FLT_CNT.FAULTS c.page))).evt
    c.page 15
  let s2 := (s1.put (Flt.STAND c.page c.bit) n).putBit (Flt.PRESENT c.page) c.bit
    (c.holds || s.bit (Flt.PRESENT c.page) c.bit)
  let s3 := (s2.putBit (PAGE_FLT_STAT.ACTIVE c.page) (n - 1) true).putBit (PAGE_FLT_STAT.ACKED c.page)
    (n - 1) false
  let s4 := if s.bit (Flt.UNACK c.page) (n - 1) then s3
    else (s3.putBit (Flt.UNACK c.page) (n - 1) true).putBit (Flt.TIMER c.page) (n - 1)
      (n == 2 || n == 3)
  let s5 := quietUpdate (quietUpdate (s4.on (c.inj && n == c.cls && !s.bit (Flt.PRESENT c.page) c.bit)
    (·.putBit (Flt.INJ c.page) c.bit true)) c.page c.cls) c.page n
  errUpdate (logFault s5 c.page (16 + c.bit) (n + (if n = c.cls then 0 else 8) + (if c.inj then 16 else 0))
    1) c.page

/-- The detecting condition of a cause ends: the quiet period of its class may start (R384, R389). -/
def causeEnds (s : State) (p i : Nat) : State :=
  let s1 := s.putBit (Flt.PRESENT p) i false
  if s.get (Flt.STAND p i) = 0 then s1 else quietUpdate s1 p (s.get (Flt.STAND p i))

/-- ACTED of class `n` and its record in the log (R385, R394). -/
def recordAction (s : State) (p n : Nat) : State :=
  if classActed s p n then s
  else logFault ((s.putBit (PAGE_FLT_STAT.ACTED p) (n - 1) true)) p 0xFF n 2

/-- Recovery mode: a C3 or C4 class action is in force in some page (R391). -/
def recovery (s : State) : Bool :=
  allocatedPages.any (fun p => classActed s p 3 || classActed s p 4)

/-- The device is in SAFE-BOOT, in FULL, or in START-UP (R34). -/
def inSafeBoot (s : State) : Bool := s.get HIVE_MODE.MODE == 2

/-- The device is in FULL (R34). -/
def inFull (s : State) : Bool := s.get HIVE_MODE.MODE == 1

end Sys2Proof.Machine
end

