-- ==== Sys2Proof/Machine/Operands.lean ====
section
/-! DEFINITION. The operand forms of register accesses: paths and sessions, the two views, the type codes,
locks, ceilings and the report of refusals (R9, R10, R80, R84, R87 to R90, R92, R96). -/

namespace Sys2Proof.Machine

/-- What an access answers: the state after it and its status code (R111): 0 OK, 1 PRIVILEGE, 2 LOCKED,
3 CEILING, 4 UNMAPPED. -/
abbrev Res := State × Nat

/-- The number of a path (R91, R95). -/
def pathNum : Path → Fin 4
  | .host => 0
  | .can0 => 1
  | .can1 => 2
  | .swarm => 3

/-- A Keeper session is open on the path; the Swarm path's is bound to one node (R92). -/
def sessionOpen (s : State) (p : Path) (node : BitVec 16) : Bool :=
  match p with
  | .host => s.flag Ses.PIN || s.flag (Ses.CODE 0)
  | .swarm => s.flag (Ses.CODE 3) && s.get Ses.NODE == node.toNat
  | p => s.flag (Ses.CODE (pathNum p))

/-- The access is a Keeper-view access (R88). -/
def keeperView (s : State) (a : Access) : Bool := a.keeper && sessionOpen s a.path a.node

/-- The access paths are served: from step 2 of START-UP to step 4 of hive-sleep entry, while no reset is held and the
hive has its clock (R27, R68, R76, R104). -/
def served (s : State) : Bool :=
  s.flag Boot.PLL && !s.flag Boot.HELD && !s.flag (Clk.LOST 73)
    && (s.get Sleep.STATE == 0 || (s.get Sleep.STATE == 1 && decide (s.get Sleep.STEP < 4)))

/-- A Keeper-view access restarts the idle time of its path (R94). -/
def touch (s : State) (a : Access) : State :=
  s.on (keeperView s a) (·.put (Ses.IDLE_T (pathNum a.path)) 0)

/-- One register access arriving by a path: nothing while the paths are not served. The view is judged
once, when the access is registered (R88), and the path keeps the status code that the access earned (R111). -/
def regOp (s : State) (a : Access) (g : State → Bool → Res) : State :=
  if served s then
    let r := g (touch s a) (keeperView s a)
    r.1.put (Last.CODE (pathNum a.path)) r.2
  else s

/-- The code of two causes of refusal: PRIVILEGE before LOCKED before CEILING before UNMAPPED (R90, R112)
(DEDUCED, log entry 25). -/
def codeOf (a b : Nat) : Nat := if a = 0 then b else if b = 0 then a else min a b

/-- Record a refusal in a page: REFUSED and REFUSE_WHY (R90). UNMAPPED is recorded as PRIVILEGE (R111). -/
def refusal (s : State) (p code : Nat) : State :=
  if code = 0 then s
  else (s.put (PAGE_STAT.REFUSED p) 1).put (PAGE_STAT.REFUSE_WHY p) (if code = 4 then 1 else code)

/-- A write into a page: refused as unmapped where no page is allocated there (R84, R111). -/
def pageWrite (s : State) (p : Nat) (g : State → Res) : Res :=
  if (pageKind p).isNone then (refusal s 0x00 4, 4) else g s

/-- Why an access may not change a field of this type, 0 where it may: KRW and K fields need a Keeper
view and an unlocked page; `exempt` marks fields outside the lock (R87, R96). -/
def fieldCode (s : State) (k exempt : Bool) (p : Nat) (ty : Ty) : Nat :=
  match ty with
  | .krw => if !k then 1 else if s.flag (PAGE_LOCK.CFG p) && !exempt then 2 else 0
  | .k => if !k then 1 else if s.flag (PAGE_LOCK.CFG p) && !exempt then 2 else 0
  | _ => 0

/-- The part of a written word that belongs to a field. -/
def fieldOf (w : Nat) (f : Fld) : Nat := slice w f.lo f.len

/-- A word with the part of one field replaced. -/
def withField (w : Nat) (f : Fld) (v : Nat) : Nat :=
  andNot w ((2 ^ f.len - 1) <<< f.lo) ||| ((v % 2 ^ f.len) <<< f.lo)

/-- The present value of a field that a write is compared with: a K field that is a command reads as it
was last written or as zero, a WO field as zero. -/
def presentField (s : State) (f : Fld) (ty : Ty) : Nat := if ty = .wo then 0 else s.get f

/-- Judge the fields of one register against a written word: every field that the access would change and
may not keeps its value, and the code of the refusal is given (R90). -/
def judge (s : State) (k exempt : Bool) (p : Nat) : Layout → Nat → Nat × Nat
  | [], w => (w, 0)
  | (f, ty) :: t, w =>
    let (w', c) := judge s k exempt p t w
    let c' := fieldCode s k exempt p ty
    if c' ≠ 0 ∧ fieldOf w f ≠ presentField s f ty then (withField w' f (presentField s f ty), codeOf c' c)
    else (w', c)

/-- Write one field of the effective word by its type code (R9). -/
def storeField (s : State) (w : Nat) (f : Fld) (ty : Ty) : State :=
  match ty with
  | .rw => s.put f (fieldOf w f)
  | .krw => s.put f (fieldOf w f)
  | .k => s.put f (fieldOf w f)
  | .w1c => s.clrF f (fieldOf w f)
  | .ro => s
  | .wo => s

/-- Write the fields of a register by their type codes. -/
def storeFields (s : State) (w : Nat) (l : Layout) : State :=
  l.foldl (fun s q => storeField s w q.1 q.2) s

/-- The write of a register whose chapter gives it an effect: the word is judged, `g` performs the
effective word, and the refusal is recorded (R90). -/
def specialRes (s : State) (k : Bool) (p off w : Nat) (exempt : Bool) (g : State → Nat → Res) : Res :=
  let (w', c) := judge s k exempt p (regLayout p off) w
  let (s1, c1) := g s w'
  (refusal s1 p (codeOf c c1), codeOf c c1)

/-- A special write whose effect is never refused for a ceiling. -/
def specialWrite (s : State) (k : Bool) (p off w : Nat) (exempt : Bool) (g : State → Nat → State) : Res :=
  specialRes s k p off w exempt (fun s w' => (g s w', 0))

/-- The write of a register that has no effect beyond its fields' type codes (R9). -/
def plainWrite (s : State) (k : Bool) (p off w : Nat) : Res :=
  specialWrite s k p off w false (fun s w' => storeFields s w' (regLayout p off))

/-- A field of a plain register as an access reads it: WO reads zero, K reads zero in the Worker view (R9). -/
def readField (s : State) (k : Bool) (f : Fld) (ty : Ty) : Nat :=
  match ty with
  | .wo => 0
  | .k => if k then s.get f else 0
  | _ => s.get f

/-- A plain register as an access reads it (R4, R6, R9). -/
def plainRead (s : State) (k : Bool) (p off : Nat) : Nat :=
  (regLayout p off).foldl (fun w q => w + (readField s k q.1 q.2) <<< q.1.lo) 0

/-- A write of a ceilinged set-point (R89): `top` is the ceiling of the word, or the stored one where the
access may not change it; both are already in the effective word. A set-point written above it is left
unchanged and refused with CEILING (DEDUCED, log entry 56). -/
def ceiled (s : State) (w : Nat) (setp ceil : Fld) (g : State → Nat → State) : Res :=
  if fieldOf w setp ≠ s.get setp ∧ fieldOf w ceil < fieldOf w setp then
    (g s (withField w setp (s.get setp)), 3)
  else (g s w, 0)

end Sys2Proof.Machine
end

