-- ==== Sys2Proof/Config.lean ====
section
/-! DEFINITION. What the spec leaves open and the machine goes on with: free values, of which nothing is
known. -/

namespace Sys2Proof.Config

/-- The free values: the `k`-th value that the spec leaves open and a command draws (log entry 3). -/
opaque freeNat : Nat → Nat

/-- The quotient of a number by zero, which no formula of the spec gives (log entry 4). -/
opaque divZero : Int → Int

/-- How an exponential decay of amplitude `amp` and time constant `tau` is rounded at `t` taps: the spec gives no integer
form of it (R161, log entry 5). -/
opaque decayRound (amp : Int) (tau t : Nat) : Nat

/-- The temperature of a remote diode in units of 0.1 degree at a corrected code: the spec gives no curve of it
(R274, R316, log entry 6). -/
opaque diodeTemp (code : Nat) : Int

/-- The temperature of curve 7, which the device holds for its DIE sensors and the spec does not give, in units of
0.1 degree at a corrected code (R368, log entry 6). -/
opaque dieTemp (code : Nat) : Int

/-- The fused 48-bit identity of the device (R444, R461, log entry 7). -/
opaque uid : BitVec 48

/-! What a valid image holds beside its header: the spec gives no layout of its board description, calibration, tables,
identity and lock settings (R53, R65, R68, log entry 8). Each function takes the bytes of the image. -/

/-- The board description declares the channel of a page absent. -/
opaque imageAbsent : List (BitVec 8) → Nat → Bool

/-- The board description declares the presence input of a port in use. -/
opaque imagePresUse : List (BitVec 8) → Nat → Bool

/-- The board description declares a remote diode fitted at a port. -/
opaque imageTdUse : List (BitVec 8) → Nat → Bool

/-- The tables, as step 3 lays them into bank A from its first byte. -/
opaque imageTables : List (BitVec 8) → List (BitVec 8)

/-- The calibration and configuration: the register fields that step 3 and step 4 set, as address and word. -/
opaque imageWrites : List (BitVec 8) → List (Nat × Nat)

/-- The lock settings of a page: bit 0 CFG, bit 2 INJ. -/
opaque imageLock : List (BitVec 8) → Nat → Nat

/-- The session code. -/
opaque imageCode : List (BitVec 8) → Nat

/-- The host record of the watchdog: CLKSEL, `WDG_WIN`, `WDG_SLOT_EN` and both maps. -/
opaque imageHost : List (BitVec 8) → Nat × Nat × Nat × Nat

end Sys2Proof.Config
end

