-- ==== Sys2Proof/Machine/Plan.lean ====
section
/-! DEFINITION. The table banks as every block reads them (R462 to R464), and what every squash needs of the
Forager: the plant model, the prediction, the bus model and the squash itself (R148 to R151, R153 to R156,
R503). Currents are in units of 10 mA, voltages in microvolts and times in taps of 78.125 ps. -/

namespace Sys2Proof.Machine

/-- What the memory finds of a 64-bit word: 0 clean, 1 one bit wrong, 2 uncorrectable. -/
def eccState (s : State) (w : Nat) : Nat :=
  let m := Sparse.look 0 s.ecc w
  if m = 0 then 0 else if m < 256 ∧ popCount 8 m = 1 then 1 else 2

/-- No word of a byte range is uncorrectable. -/
def readable (s : State) (a len : Nat) : Bool :=
  ((s.ecc.map (·.1)).filter (fun w => a / 8 ≤ w && 8 * w < a + len)).all (fun w => eccState s w != 2)

/-- The window address of a table bank: 0 bank A, 1 bank B (R81). -/
def bankBase (b : Nat) : Nat := 0x200000 + 0x80000 * b

/-- A signed little-endian field of `n` bytes. -/
def State.leInt (s : State) (a n : Nat) : Int := toSigned (8 * n) (s.leNat a n)

/-- The entry of a bank's directory whose TTYPE and INDEX are given: its number (R463, R464). -/
def findEntry (s : State) (b ttype idx : Nat) : Option Nat :=
  (List.range (min 255 (s.leNat (bankBase b + 6) 2))).find? (fun e =>
    s.leNat (bankBase b + 0x10 + 16 * e) 2 == ttype && s.leNat (bankBase b + 0x12 + 16 * e) 1 == idx)

/-- The window address of the table that entry `e` of a bank names. -/
def entryAddr (s : State) (b e : Nat) : Nat := bankBase b + s.leNat (bankBase b + 0x14 + 16 * e) 4

/-- The window address of the table that a selector names in a bank, if there is one (R464). -/
def findTableIn (s : State) (b ttype idx : Nat) : Option Nat :=
  (findEntry s b ttype idx).map (entryAddr s b)

/-- The window address of the table that a selector names in the active bank, if there is one (R464). -/
def findTable (s : State) (ttype idx : Nat) : Option Nat :=
  findTableIn s (s.get TBL_BANK.ACTIVE) ttype idx

/-- TYPE, LEN and FORMAT of a table match, and no word of it is uncorrectable (R358). -/
def headerOk (s : State) (a ttype len : Nat) : Bool :=
  readable s a len &&
  s.leNat a 2 == ttype && s.leNat (a + 2) 2 == len && s.leNat (a + 4) 2 == 1

/-- A division that rounds towards minus infinity (R150); a quotient by zero is open (DESIGN CHOICE, log entry 4). -/
def fdivOpen (a b : Int) : Int := if b = 0 then Config.divZero a else a.fdiv b

/-! ### The plant model (R148, R149) -/

/-- The combs of the gang of comb `c`, or the comb alone (R170). -/
def gangOf (s : State) (c : Nat) : List Nat :=
  if s.get (CMB_GANG.STATE c) = 2 then bitsOf 4 (s.get (CMB_GANG.MEMBERS c) ||| 1 <<< c) else [c]

/-- The lowest-numbered member of the gang of comb `c` that is not drained: its lead (R197, R478). -/
def gangLead (s : State) (c : Nat) : Nat :=
  (((gangOf s c).filter (fun d => !s.flag (Mnt.DRAIN d)))[0]?).getD (((gangOf s c)[0]?).getD c)

/-- The lowest-numbered member of the gang of comb `c` (R148). -/
def gangLow (s : State) (c : Nat) : Nat := ((gangOf s c)[0]?).getD c

/-- The address of the model table of comb `c` in the bank of its generation (R148, R168). -/
def modelTable (s : State) (c : Nat) : Option Nat :=
  findTableIn s (s.get (CMB_STAT.GEN c)) 0x0002 (s.get (CMB_PLAN_CTL.MODEL c))

/-- The block of local phase `k` of a model table. -/
def modelBlock (a k : Nat) : Nat := a + 0x040 + 0x40 * k

/-- The rules of a model table that depend on the table alone (R148, R468). -/
def modelForm (s : State) (a : Nat) : Bool :=
  headerOk s a 0x0002 0x0200
    && (bitsOf 4 (s.leNat (a + 6) 2)).all (fun k =>
      let b := modelBlock a k
      (100 ≤ s.leNat b 4 && s.leNat b 4 ≤ 1000000) && s.leNat (b + 0x18) 4 != 0
        && decide (s.leNat (b + 0x1E) 2 < 88))
    && decide (s.leNat (a + 0x152) 2 < 88)

/-- A model table is valid for comb `c` (R148). -/
def modelValid (s : State) (c a : Nat) : Bool :=
  modelForm s a && (List.range 4).all (fun k => !s.flag (PH_CTL.RUN (4 * c + k)) || (s.leNat (a + 6) 2).testBit k)

/-- A working value: X and its coefficient at `dt` tenths of a kelvin from T_REF (R149). -/
def workValue (x tc dt : Int) : Nat := (x + (x * tc * dt).fdiv 10000000).toNat

/-- The working coefficients of comb `c` are recomputed from its table and the temperatures (R149). In a gang
C_BB and C_TC come from the table of the lowest-numbered member (R148). -/
def coefRecompute (s : State) (c : Nat) : State :=
  match modelTable s c with
  | none => s
  | some a =>
    let tref := s.leInt (a + 8) 2
    let s1 := s.each (bitsOf 4 (s.leNat (a + 6) 2)) (fun s k =>
      let b := modelBlock a k
      let dt := s.int (THS_VAL.T (s.leNat (b + 0x1E) 2)) - tref
      ((s.put (Ph.COEF (4 * c + k) 0) (workValue (s.leNat b 4) (s.leInt (b + 4) 2) dt)).put
        (Ph.COEF (4 * c + k) 1) (workValue (s.leNat (b + 8) 4) (s.leInt (b + 0xC) 2) dt)).put
        (Ph.COEF (4 * c + k) 2) (workValue (s.leNat (b + 0x18) 4) (s.leInt (b + 0x1C) 2) dt))
    let dt := s.int (THS_VAL.T (s.leNat (a + 0x152) 2)) - tref
    let low := (modelTable s (gangLow s c)).getD a
    let tc := s.leInt (low + 0x150) 2
    ((s1.put (Comb.COEF c 0) (workValue (s.leNat (a + 0x140) 4) tc dt)).put
      (Comb.COEF c 1) (workValue (s.leNat (low + 0x148) 4) tc dt)).wrapInc (Comb.EPOCH c)

/-! ### Anticipated currents (R161, R166, R503) -/

/-- The start of a record after its registration, in taps. -/
def recStart (w : Nat) : Nat := slice w 40 24 * (if w.testBit 13 then 12800000 else 12800)

/-- The TIME of a record in taps. -/
def recTime (w : Nat) : Nat := slice w 32 8 * 128000

/-- The AMP of a record. -/
def recAmp (w : Nat) : Int := toSigned 16 (slice w 16 16)

/-- The record's kind describes a change of bus current (R166, R503). -/
def recLoads (w : Nat) : Bool :=
  let k := slice w 0 4
  (1 ≤ k && k ≤ 5) || k == 8

/-- e^-x for a fraction x of 1, both in units of 2^-64: the series to its 24th term (R161). -/
def expFraction (x : Nat) : Nat :=
  (List.range 24).foldl (fun r i => 2 ^ 64 - x * r / 2 ^ 64 / (24 - i)) (2 ^ 64)

/-- e^-(t / tm) in units of 2^-64: whole time constants by a factor of e^-1 each (R161). -/
def expDecay (tm t : Nat) : Nat :=
  (List.range (min 64 (t / tm))).foldl (fun r _ => r * 6786177901268885275 / 2 ^ 64) (expFraction (t % tm * 2 ^ 64 / tm))

/-- A decayed amount as an integer: the exact one, rounded one way or the other (R161) (DESIGN CHOICE, log entry 5). -/
def decayed (x amp : Int) (tm t : Nat) : Int := x.fdiv (2 ^ 64) + (Config.decayRound amp tm t % 3 : Nat) - 1

/-- A record's current change `t` taps after START, by its SHAPE; a TIME of 0 is a step (R161, R166). -/
def recAt (w t : Nat) : Int :=
  let amp := recAmp w
  let tm := recTime w
  match slice w 10 2 with
  | 0 => amp
  | 1 => if tm ≤ t then amp else (amp * t).fdiv tm
  | 2 => if tm = 0 then amp else decayed (amp * expDecay tm t) amp tm t
  | _ => if t < tm then amp else 0

/-- The integral of a record's current change over its first `t` taps after START, by its SHAPE (R161). -/
def antIntegral (w t : Nat) : Int :=
  let amp := recAmp w
  let tm := recTime w
  match slice w 10 2 with
  | 0 => amp * t
  | 1 => if tm = 0 then amp * t else if t ≤ tm then (amp * t * t).fdiv (2 * tm)
    else (amp * tm).fdiv 2 + amp * (t - tm : Nat)
  | 2 => if tm = 0 then amp * t else decayed (amp * tm * (2 ^ 64 - expDecay tm t : Nat)) amp tm t
  | _ => amp * (min t tm : Nat)

/-- The contribution of a record as it stands once START plus TIME has passed (R166). -/
def antFinal (w : Nat) : Int := recAt w (recTime w)

/-- The mean anticipated current of bus `x` of comb `c` over the period `k` ahead (R503). -/
def antMean (s : State) (c : Fin 4) (x k : Nat) : Int :=
  let per := max 1 (s.get (Comb.PER c))
  ((s.antq[c].filter (fun r => recLoads r.word && r.word.testBit 12 == (x == 1))).foldl (fun a (r : Queued) =>
    let t0 := (r.age + k * per - recStart r.word).toNat
    let t1 := (r.age + (k + 1) * per - recStart r.word).toNat
    a + (antIntegral r.word t1 - antIntegral r.word t0)) 0).fdiv per

/-! ### The bus model (R503) -/

/-- The counts of C per ampere of a phase: R_SHUNT(T) x GAIN / 40,000 (R150). -/
def cPerA (s : State) (p : Nat) : Int :=
  (s.get (Ph.COEF p 2) * s.get (PH_SNS_CAL.GAIN p) / 40000 : Nat)

/-- The latest measured current of a phase (R503). -/
def measured (s : State) (p : Nat) : Int := fdivOpen (100 * s.int (PH_ISNS_EOP.VALUE p)) (cPerA s p)

/-- The phase runs as degraded: by DEGRADED, or under the C2 action of its page (R159, R390). -/
def degraded (s : State) (p : Nat) : Bool := s.bit (CMB_STAT.DEGRADED (p / 4)) (p % 4) || classActed s (0x20 + p) 2

/-- The current that phase `p` draws through its leg on bus `x` in the period `k` ahead, times the share of
the period for which it does: planned for a run-ahead phase, measured for a degraded phase and for the PD
phase in duty (R503). A run-ahead phase whose entry of that period is not planned yet enters at its measured current
(DESIGN CHOICE, log entry 63). -/
def phDraw (s : State) (p : Fin 16) (x k : Nat) : Int :=
  let per : Int := max 1 (s.get (Comb.PER (p.val / 4)))
  let leg := fun (t : Timing) => if x = 0 then t.tAH else t.tBH
  let known := degraded s p || s.flag (Ph.DUTY p)
  let live := match s.exec[p] with
    | some t => (measured s p * leg t).fdiv per
    | none => 0
  if known then live
  else match (s.window[p]).find? (fun e => e.t.index == BitVec.ofNat 8 (s.get (Ph.PERCNT p) + k)) with
    | some e => (e.iAvg * leg e.t).fdiv per
    | none => live

/-- The net current drawn from bus `x` of the set of comb `c` in the period `k` ahead (R503). -/
def busDraw (s : State) (c : Fin 4) (x k : Nat) : Int :=
  let sum := ((List.finRange 16).filter (fun (p : Fin 16) => (gangOf s c).contains (p.val / 4))).foldl
    (fun a p => a + phDraw s p x k) 0
  s.int (Comb.IRES c x) + antMean s c x k + (if x = 0 then sum else -sum)

/-- The series resistance of bus `x` (R148, R503). -/
def busEsr (s : State) (c x : Nat) : Int :=
  match modelTable s (if x = 0 then c else gangLow s c) with
  | some a => s.leNat (a + (if x = 0 then 0x144 else 0x14C)) 4
  | none => 0

/-- The modelled capacitor voltage of a bus, `k` periods ahead (R503). -/
def busCap (s : State) (c : Fin 4) (x : Nat) : Nat → Int
  | 0 => s.int (Comb.VC c x)
  | k + 1 => busCap s c x k
      - fdivOpen (busDraw s c x k * s.get (Comb.PER c) * 25) (32 * s.get (Comb.COEF c x))

/-- The modelled bus voltage in the period `k` ahead (R503). -/
def busVolt (s : State) (c : Fin 4) (x k : Nat) : Int :=
  busCap s c x k - (busDraw s c x k * busEsr s c x).fdiv 100

/-- The latest measured voltage of bus `x`, in microvolts. -/
def busMeas (s : State) (c x : Nat) : Int :=
  10000 * (if x = 0 then s.get (Comb.VSYS c) else s.get (Comb.VBB c) : Nat)

/-- What a set checkpoint and step 3 of R156 put on bus `x` of comb `c`: the capacitor voltage that the measurement
shows, and the residual load estimate with the difference (R503). In the mark period of the one before, no period has
passed, and the estimate stays. -/
def busEstimate (s : State) (c : Fin 4) (x : Nat) : Int × Int :=
  let n := s.get (Comb.SINCE c)
  let dv := busVolt s c x 0 - busMeas s c x
  (busMeas s c x + (busDraw s c x 0 * busEsr s c x).fdiv 100,
    s.int (Comb.IRES c x) + (if n = 0 then 0 else
      fdivOpen (s.get (Comb.COEF c x) * dv * 32) (25 * n * s.get (Comb.PER c))))

/-- The model of one bus takes an estimate, in the comb and in the set checkpoint (R155). -/
def busTake (s : State) (d x : Nat) (e : Int × Int) : State :=
  ((s.putI (Comb.VC d x) e.1).putI (Comb.IRES d x) e.2).putI (Comb.CP d (6 + x)) e.2

/-- The bus part of a set checkpoint and of step 3 of R156, at comb `c`: the system bus of every member from its own
measurement, and the one battery bus of the gang for all of them (R19, R155, R503). -/
def busCheckpoint (s : State) (c : Fin 4) : State :=
  let bb := busEstimate s c 1
  s.each ((gangOf s c).filter (fun d => s.flag (Comb.MODEL_OK d))) (fun s' d =>
    (busTake (busTake s' d 0 (busEstimate s (Fin.ofNat 4 d) 0)) d 1 bb).put (Comb.SINCE d) 0)

/-- The residual load estimate of the set is that of its checkpoint (R156, step 1). -/
def busRestore (s : State) (c : Nat) : State :=
  s.each (gangOf s c) (fun s d => s.each [0, 1] (fun s x => s.putI (Comb.IRES d x) (s.int (Comb.CP d (6 + x)))))

/-! ### Prediction and band (R150, R151) -/

/-- The start of the high-side on-time of a leg within its period (R123). -/
def highStart (s : State) (p : Nat) (low : Nat) (ord : Bool) : Nat :=
  if ord then low + max 8 (s.get (PH_DT.DT_LH p)) else 0

/-- When a leg connects the inductor to its bus between two SP0 instants, in taps from the first: the on-time of the
entry before after its SP0, and that of the entry itself up to its SP0, every edge `dly` later than planned (R150). -/
def legSpans (s : State) (p dly per : Nat) (prev cur : Nat × Nat × Bool) : List (Nat × Nat) :=
  let sp := 32 * s.get (PH_SP01.SP0 p)
  let (h0, l0, o0) := prev
  let (h1, l1, o1) := cur
  let a0 := highStart s p l0 o0 + dly
  let a1 := highStart s p l1 o1 + dly
  [(max a0 sp - sp, a0 + h0 - sp), (a1 + (per - sp), min (a1 + h1) sp + (per - sp))]

/-- The whole time of spans. -/
def spanTime (l : List (Nat × Nat)) : Int := l.foldl (fun a x => a + (x.2 - x.1 : Nat)) 0

/-- Twice the integral over an interval of `per` taps of the time spent in spans so far. -/
def spanMoment (per : Nat) (l : List (Nat × Nat)) : Int :=
  (l.filter (fun x => decide (x.1 < x.2))).foldl (fun a x =>
    a + (((per : Int) - x.1) ^ 2 - ((per : Int) - x.2) ^ 2)) 0

/-- The on-times of leg A with their order. -/
def timingA (e : Timing) : Nat × Nat × Bool := (e.tAH, e.tAL, e.ordA)

/-- The on-times of leg B with their order. -/
def timingB (e : Timing) : Nat × Nat × Bool := (e.tBH, e.tBL, e.ordB)

/-- The dead time of a period in diode conduction, over both legs, signed by the current's direction (R150). -/
def deadTime (s : State) (p : Nat) (e : Timing) (i : Int) : Int :=
  let d := max 8 (s.get (PH_DT.DT_HL p)) + max 8 (s.get (PH_DT.DT_LH p))
  let one := fun (h l : Nat) => if h = 0 ∨ l = 0 then 0 else d
  (if i < 0 then -1 else 1) * ((one e.tAH e.tAL + one e.tBH e.tBL : Nat) : Int)

/-- The inductance in force at a current (R150). -/
def inductance (s : State) (p a : Nat) (i : Int) : Int :=
  let lw : Int := s.get (Ph.COEF p 0)
  lw - (lw * s.leNat (modelBlock a (p % 4) + 6) 2 * i.natAbs).fdiv 100000000

/-- The mean inductor current between two SP0 instants, LSB 10 mA: that of the straight lines which the bus voltages
draw from the start current (R150, R503) (DEDUCED, log entry 29). -/
def meanCurrent (s : State) (p : Fin 16) (a : Nat) (prev cur : Timing) (start : Int) (k : Nat) : Int :=
  let c : Fin 4 := ⟨p.val / 4, by omega⟩
  let dly := s.leNat (modelBlock a (p.val % 4) + 0x22) 2
  let per := s.get (Comb.PER c)
  let i0 := fdivOpen (100 * start) (cPerA s p)
  let rise := busVolt s c 0 k * spanMoment per (legSpans s p dly per (timingA prev) (timingA cur))
    - busVolt s c 1 k * spanMoment per (legSpans s p dly per (timingB prev) (timingB cur))
  i0 + fdivOpen (rise * 5) (2 * per * inductance s p a i0 * 640000)

/-- The predicted change of the corrected SP0 value over one period (R150). -/
def deltaC (s : State) (p : Fin 16) (a : Nat) (prev cur : Timing) (iAvg : Int) (k : Nat) : Int :=
  let c : Fin 4 := ⟨p.val / 4, by omega⟩
  let b := modelBlock a (p.val % 4)
  let dly := s.leNat (b + 0x22) 2
  let per := s.get (Comb.PER c)
  let tA := spanTime (legSpans s p dly per (timingA prev) (timingA cur))
  let tB := spanTime (legSpans s p dly per (timingB prev) (timingB cur))
  let r : Int := s.get (Ph.COEF p 1) + s.leNat (b + 0x10) 4 + s.leNat (b + 0x14) 4
    + s.get (Ph.COEF p 2) / 1000
  let num := busVolt s c 0 k * tA - busVolt s c 1 k * tB - (iAvg * r * per).fdiv 100
    - 1000 * s.leNat (b + 0x20) 2 * deadTime s p cur iAvg
  fdivOpen (num * cPerA s p * 5) (64000000 * inductance s p a iAvg)

/-- Storm behaviour is in force: a storm, or the C2 action of the comb's page (R160, R390) (DEDUCED, log entry 18). -/
def combStorm (s : State) (c : Nat) : Bool := s.flag (CMB_STAT.STORM c) || ownActed s (0x10 + c)

/-- The confirmation band of an entry (R151, R160, R390). -/
def bandOf (s : State) (p a n : Nat) (iStart iPred : Int) (ant : Bool) : Nat :=
  let b := modelBlock a (p % 4)
  let dprop := (iPred - iStart).natAbs * s.leNat (b + 0x2E) 2 / 256 / 16384
  let band := s.leNat (b + 0x2C) 2 + dprop + (n - 1) * s.leNat (b + 0x30) 2
    + (if ant then s.leNat (b + 0x32) 2 else 0)
  min (max (if combStorm s (p / 4) then 2 * band else band) 1) 2047

/-- A timing with no on-time. -/
def noTiming : Timing := ⟨0, 0, 0, 0, false, false, 0⟩

/-- The entry last confirmed, as its checkpoint holds it (R155). -/
def cpTiming (s : State) (p : Nat) : Timing :=
  ⟨s.get (Ph.CP_ON p 0), s.get (Ph.CP_ON p 1), s.get (Ph.CP_ON p 2), s.get (Ph.CP_ON p 3), s.bit (Ph.CP_ORD p) 0,
    s.bit (Ph.CP_ORD p) 1, BitVec.ofNat 8 (s.get (Ph.CP_IDX p))⟩

/-- The entry that ran in the period before that of INDEX `idx`: the present one, or the one last confirmed; none after
an underrun (R150, R156). -/
def before (s : State) (p : Fin 16) (idx : BitVec 8) : Timing :=
  if idx = BitVec.ofNat 8 (s.get (Ph.PERCNT p) + 1) then (s.exec[p]).getD noTiming
  else if s.flag (Ph.CP_OK p) ∧ idx = BitVec.ofNat 8 (s.get (Ph.CP_IDX p) + 1) then cpTiming s p
  else noTiming

/-- How many periods ahead of the present one INDEX `idx` lies (R120). -/
def ahead (s : State) (p : Nat) (idx : BitVec 8) : Nat :=
  let k := (idx - BitVec.ofNat 8 (s.get (Ph.PERCNT p))).toNat
  if k < 128 then k else 0

/-- ISSUED entries are predicted afresh one after the other, from a start value and with a fresh band at n = 1 (R156). -/
def repredict (s : State) (p : Fin 16) (a : Nat) (prev : Timing) (start : Int) : List PlanEntry → List PlanEntry
  | [] => []
  | e :: l =>
    let k := ahead s p e.t.index
    let avg := meanCurrent s p a prev e.t start k
    let i := toSigned 29 (ofSigned 29 (start + deltaC s p a prev e.t avg k))
    { e with iPred := i, band := bandOf s p a 1 start i e.ant, iAvg := avg } :: repredict s p a e.t i l

/-! ### Squashes (R153, R154) -/

/-- Remove every PLANNED or STAGED entry of a phase; the squash goes to its island, and the first two entries written
after it need no confirmation (R145, R154, R157). -/
def squashPlans (s : State) (p : Fin 16) : State :=
  ({ s with window := s.window.set p (s.window[p].filter (fun e => e.stage == 2)) }.put (Ph.FIRST p) 2).send (.squash p)

/-- A squash of a phase: its ISSUED entries stay, and are predicted afresh from the latest measurement (R154, R156). -/
def squashOne (s0 : State) (p : Fin 16) : State :=
  let s := squashPlans s0 p
  let l := s.window[p]
  match modelTable s (p.val / 4), l with
  | some a, e :: _ =>
    { s with window := s.window.set p (repredict s p a (before s p e.t.index) (s.int (PH_ISNS_EOP.VALUE p)) l) }
  | _, _ => s

/-- Phase `p` belongs to a coupling set: in RUN, outside every hold state, and not degraded (R153). -/
def inSet (s : State) (p : Nat) : Bool :=
  s.get (PH_STAT.STATE p) == 1 && !degraded s p

/-- The phases of comb `c`. -/
def combPhases (c : Nat) : List (Fin 16) := (List.finRange 16).filter (fun p => p.val / 4 == c)

/-- The bus part of a squash: the residual load estimate is restored, and the model moves to the measurement (R156). -/
def squashBus (s : State) (c : Nat) : State :=
  s.on (s.flag (Comb.MODEL_OK c)) (fun s => busCheckpoint (busRestore s c) (Fin.ofNat 4 c))

/-- A squash is counted and sets EVT bit 1 (R174, R175). -/
def squashCount (s : State) (c : Nat) : State := (s.inc (CMB_SQ_CNT.SQUASHES c)).evt (0x10 + c) 1

/-- One squash of phases of comb `c`: the bus state first, then each of them (R154, R156). -/
def squashList (s : State) (c : Nat) (l : List (Fin 16)) : State := squashCount ((squashBus s c).each l squashOne) c

/-- One squash of the coupling set's phases in comb `c` (R154). -/
def squashComb (s : State) (c : Nat) : State := squashList s c ((combPhases c).filter (fun (q : Fin 16) => inSet s q))

/-- One squash of every phase of comb `c` (R154). -/
def squashEvery (s : State) (c : Nat) : State := squashList s c (combPhases c)

/-- A squash that reaches beyond its comb is sent through the hive to the other members of the gang (R154, R157). -/
def gangRelay (s : State) (c : Nat) : State :=
  s.each ((gangOf s c).filter (fun d => d != c)) (fun s d => s.send (.gangSquash d))

/-- One squash of phase `p` and of the rest of its coupling set; a phase outside every set is squashed alone
(R153, R154). -/
def setSquash (s : State) (p : Fin 16) : State :=
  if inSet s p then gangRelay (squashComb s (p.val / 4)) (p.val / 4) else squashList s (p.val / 4) [p]

/-- The miss counter of a phase (R175). -/
def missField (p : Nat) : Fld :=
  match p % 4 with
  | 0 => CMB_MISS01.MISS0 (p / 4)
  | 1 => CMB_MISS01.MISS1 (p / 4)
  | 2 => CMB_MISS23.MISS2 (p / 4)
  | _ => CMB_MISS23.MISS3 (p / 4)

/-- The squashes of the window of the storm (R160): the present bucket and the 15 before it. -/
def stormCount (s : State) (c : Nat) : Nat :=
  (List.range 16).foldl (fun a i => a + s.get (Comb.BUCKET c i)) 0

/-- The squash of a miss: the set of the phase, through the gang, counted once for the storm (R154, R157,
R160). -/
def missSquash (s : State) (p : Fin 16) : State :=
  let c := p.val / 4
  let s1 := (setSquash s p).inc (Comb.BUCKET c 0)
  s1.putSat (CMB_CONSEC.STORM_CNT c) (stormCount s1 c)

/-- A miss is counted and recorded (R152, R158, R175). -/
def missRecord (s : State) (p : Fin 16) (idx cause : Nat) (dev : Int) : State :=
  let c := p.val / 4
  let s1 := ((s.inc (missField p)).evt (0x10 + c) 0).put (CMB_LAST_MISS.PHASE c) (p.val % 4)
  ((s1.put (CMB_LAST_MISS.INDEX c) idx).put (CMB_LAST_MISS.CAUSE c) cause).putI (CMB_LAST_MISS.DEV c)
    (clampInt (-32767) 32767 dev)

end Sys2Proof.Machine
end

