-- ==== Sys2Proof/Machine/Actions.lean ====
section
/-! DEFINITION. What a class action does in each kind of page (R390): the hold state of a phase, the trip
of a port, error recovery of a PD port, the withdrawal of a converter, zero current of a charge engine. -/

namespace Sys2Proof.Machine

/-! ### The hold state of a phase (R129, R130) -/

/-- The position of an island's clock among the monitored clocks (R26). -/
def clockIdx : ClockIsland → Nat
  | .phase p => p
  | .port n => 16 + n
  | .forager c => 64 + c
  | .combPll c => 68 + c
  | .housekeeping => 72
  | .hive => 73
  | .swarmPort e => if e then 74 else 75
  | .pdPhy c => 76 + c

/-- The clock of phase `p` runs: neither its own monitor nor its comb's PLL is tripped (R27). -/
def phClockLost (s : State) (p : Nat) : Bool := s.flag (Clk.LOST p) || s.flag (Clk.LOST (68 + p / 4))

/-- The clock of port `n` is lost (R27). -/
def portClockLost (s : State) (n : Nat) : Bool :=
  s.flag (Clk.LOST (16 + n)) || s.flag (Clk.LOST (68 + n / 12))

/-- A DIE shutdown is in force (R375). -/
def dieShutdown (s : State) : Bool := (List.range 8).any (fun i => s.flag (THS_STAT.SD i)) || s.bit (Flt.INJ 0x80) 0

/-- The shutdown of the stage sensor of phase `p` is in force (R375). -/
def stageShutdown (s : State) (p : Nat) : Bool := s.flag (THS_STAT.SD (8 + p))

/-- A class action or a DIE shutdown holds the phase (R130). -/
def phActionHold (s : State) (p : Nat) : Bool :=
  classActed s (0x20 + p) 3 || classActed s (0x20 + p) 4 || classActed s (0x10 + p / 4) 3
    || classActed s (0x10 + p / 4) 4 || classActed s 0x68 4 || dieShutdown s

/-- The domain of comb `c` is supplied and released: every comb in FULL, the safe comb in SAFE-BOOT (R57). -/
def combLive (s : State) (c : Nat) : Bool :=
  s.get Sleep.STATE == 0 && !s.flag Boot.HELD
    && (inFull s || (inSafeBoot s && s.get HIVE_BOOT_STAT.SAFE_COMB == c))

/-- The Forager of comb `c` runs: its domain is live, and neither its clock nor its comb's PLL is lost (R27, R57). -/
def foragerRuns (s : State) (c : Nat) : Bool :=
  combLive s c && !s.flag (Clk.LOST (64 + c)) && !s.flag (Clk.LOST (68 + c))

/-- Some cause that truncates the issued period is in force, or the island is gated (R57, R130). -/
def phForced (s : State) (p : Nat) : Bool :=
  !combLive s (p / 4) || absent s (0x20 + p) || s.get (Ph.GD p) != 0 || phClockLost s p || s.flag (Ph.FWT p) || phActionHold s p

/-- Some cause of R130 other than an underrun and RUN = 0 is in force, or a shutdown of the stage, which acts as RUN = 0
(R130, R375). -/
def phHeld (s : State) (p : Nat) : Bool := phForced s p || stageShutdown s p

/-- `PH_STAT.HOLD_CAUSE` for the causes in force (R142), `under` for an underrun (DEDUCED, log entry 19). -/
def phCause (s : State) (p : Nat) (under : Bool) : Nat :=
  if s.get (Ph.GD p) ≠ 0 then 3
  else if s.flag (Ph.FWT p) then 5
  else if phClockLost s p || phActionHold s p then 2
  else if !s.flag (PH_CTL.RUN p) || stageShutdown s p then 4
  else if under then 1 else 0

/-- Clear the staged register; the next write sets the sequence (R124, R128). -/
def clearSlots (s : State) (p : Fin 16) : State :=
  (({ s with slots := s.slots.set p [] }).put (PH_STAT.SLOTS p) 0).put (Ph.SEQANY p) 1

/-- A run of underruns ends (R140). -/
def underEnds (s : State) (p : Nat) : State :=
  causeEnds ((s.put (Ph.UNDER_RUN p) 0).put (Ph.STARVED p) 0) (0x20 + p) 5

/-- A run of periods with SP0 clipped ends (R137). -/
def clipEnds (s : State) (p : Nat) : State :=
  causeEnds ((s.put (Ph.SAT_RUN p) 0).put (Ph.SAT_SAID p) 0) (0x20 + p) 6

/-- A run of limited periods ends (R133). -/
def limitEnds (s : State) (p : Nat) : State :=
  causeEnds ((s.put (Ph.CBC_RUN p) 0).put (Ph.CBC_SAID p) 0) (0x20 + p) 4

/-- In IDLE no period runs: every run of periods ends, and none is limited (R133, R137, R140). -/
def runsEnd (s : State) (p : Nat) : State :=
  (((underEnds (clipEnds (limitEnds s p) p) p).put (Ph.CUT p) 0).put (PH_STAT.CBC_NOW p) 0)

/-- The first two entries written after a hold need no confirmation, and no entry confirmed before it counts (R145,
R151). -/
def planAnew (s : State) (p : Nat) : State := (s.put (Ph.FIRST p) 2).put (Ph.CP_OK p) 0

/-- The interlock at the entry to LS_FREEWHEEL inside a period: a low switch waits for the dead time of its leg where
the high switch may have been on (R127) (DESIGN CHOICE, log entry 63). -/
def holdLock (s : State) (p : Fin 16) : State :=
  match s.exec[p] with
  | none => s
  | some e =>
    let d := max 8 (s.get (PH_DT.DT_HL p))
    (s.put (Ph.LOCK p 1) (if e.tAH = 0 then 0 else d)).put (Ph.LOCK p 3) (if e.tBH = 0 then 0 else d)

/-- At rest the phase stands in HOLD_REST, or in IDLE where RUN is 0 or acts as if it were (R130, R375). -/
def phRest (s : State) (p : Fin 16) : State :=
  let s1 := s.put (Ph.GATES p) 0
  if s.flag (PH_CTL.RUN p) && !stageShutdown s p then s1.put (PH_STAT.STATE p) 3
  else (runsEnd s1 p).put (PH_STAT.STATE p) 0

/-- Enter the hold state, or change the form of one that is on: `allOff` forces ALL_OFF, `under` marks an underrun. A
cause other than an underrun truncates the issued period, whose entry leaves the window uncompared, and takes back an issue
decision. In IDLE every output is off already, and only the cause is recorded (R129, R130, R154, R171) (DEDUCED, log entry
19). -/
def phHold (s : State) (p : Fin 16) (allOff under : Bool) : State :=
  let form := if allOff then 0 else s.get (PH_CTL.HOLD p)
  let s0 := s.on (!phClockLost s p) (·.put (PH_STAT.HOLD_CAUSE p) (phCause s p under))
  let s1 := s0.on (!under) (fun s => planAnew ((({ s with window := s.window.set p [], coming := s.coming.set p none }.put
    (Ph.RESTART p) 1).put (Ph.NEXT p) 0).put (Ph.ENDRUN p) 0) p)
  match s.get (PH_STAT.STATE p) with
  | 0 => s1
  | 3 => phRest s1 p
  | 1 =>
    let s2 := (planAnew (({ s1.on (!under) (holdLock · p) with exec := s1.exec.set p none }).put (Ph.SEQANY p) 1) p).evt
      (0x20 + p) 0
    if form = 1 ∨ form = 2 then
      (s2.put (PH_STAT.STATE p) 2).put (Ph.GATES p) (if form = 1 then 0b1010 else 0)
    else phRest s2 p
  | _ => if allOff then phRest s1 p else s1

/-! ### Ports (R262, R272) -/

/-- Send an anticipation record to a comb's Forager (R162) (DESIGN CHOICE, log entry 59). -/
def sendRecord (s : State) (c : Nat) (w : Nat) : State := s.send (.record c w)

/-- The word of an anticipation record (R161). -/
def recordWord (kind origin shape bus ts : Nat) (amp : Int) (time start : Nat) : Nat :=
  kind + origin * 2 ^ 4 + shape * 2 ^ 10 + bus * 2 ^ 12 + ts * 2 ^ 13 + ofSigned 16 amp * 2 ^ 16
    + (time % 2 ^ 8) * 2 ^ 32 + (start % 2 ^ 24) * 2 ^ 40

/-- The state of a port changes: EVT bit 0 (R262). -/
def portState (s : State) (n : Nat) (st : Nat) : State :=
  if s.get (PORT_STAT.STATE n) = st then s else (s.put (PORT_STAT.STATE n) st).evt (0x30 + n) 0

/-- Power-good changes: EVT bit 1 (R267). -/
def portPg (s : State) (n : Nat) (on : Bool) : State :=
  let s1 := s.put (Port.PG_RUN n) 0
  if s1.flag (PORT_STAT.PG n) = on then s1 else (s1.putB (PORT_STAT.PG n) on).evt (0x30 + n) 1

/-- The main gate of a port is up or on its way: ENHANCE, ON, LIMIT, TURN_OFF or REV_HOLD (R262). -/
def gateUp (s : State) (n : Nat) : Bool := [4, 5, 6, 7, 9].contains (s.get (PORT_STAT.STATE n))

/-- The main and pre-charge gates are pulled down at once; a main gate that was up falls until it is reported off
(R260, R267, R269, R270, R271). -/
def portPullDown (s : State) (n : Nat) : State :=
  let s1 := s.on (s.flag (PORT_STAT.GATE_FULL n)) (·.inc (Port.TRANS n))
  let s2 := s1.on (gateUp s n) (·.put (Port.FALL n) 1)
  portPg ((s2.put (PORT_STAT.GATE_FULL n) 0).put (Port.FT n) 0) n false

/-- A feeder with a start scheduled or in pre-charge sends CANCEL (R268, R269). -/
def portCancel (s : State) (n : Nat) : State :=
  let st := s.get (PORT_STAT.STATE n)
  s.on (portKind n == 3 && (st == 2 || st == 3 || (st == 1 && s.flag (Port.MAIN n))))
    (fun s => (sendRecord s (n / 12) (recordWord 0xF n 0 0 0 0 0 0)).put (Port.MAIN n) 0)

/-- At a trip with a remote diode the stage excesses are scaled to the diode's excess over the ambient
reference (R273). -/
def portScale (s : State) (n : Nat) : State :=
  if s.flag (PORT_CTL.TD_USE n) && s.flag (Port.DIODE_OK n) && !s.flag (Port.STALE n 3) then
    let sum := (List.range 3).foldl (fun a i => a + s.int (Port.DT n i)) 0
    let want := (s.int (Port.DIODE_T n) - s.int (Port.AMB n)) * 100000
    s.each (List.range 3) (fun s' i => s'.putI (Port.DT n i) (fdivOpen (s.int (Port.DT n i) * want) sum))
  else s

/-- A feeder is on. -/
def feederOn (s : State) (n : Nat) : Bool := s.get (PORT_STAT.STATE n) == 5 || s.get (PORT_STAT.STATE n) == 6

/-- The shed priority of local feeder `k` (R189). -/
def shedPri (s : State) (c k : Nat) : Nat := slice (s.get (CMB_SHED_PRI.PRI c)) (4 * k) 4

/-- The feeder to shed: on, of the lowest non-zero priority, the highest local number among equals (R189). -/
def shedChoice (s : State) (c : Nat) : Option Nat :=
  ((List.range 7).filter (fun k => shedPri s c k != 0 && feederOn s (12 * c + 4 + k)
    && !s.bit (CMB_SHED_STAT.SHED c) k)).foldl (fun m k => match m with
      | none => some k
      | some j => if shedPri s c k ≤ shedPri s c j then some k else some j) none

/-- A wake source is enabled; the watchdog's early warning always is (R77, R78). -/
def wakeEnabled (s : State) (src : Nat) : Bool := src == 2 || s.bit HIVE_WAKE.EN src

/-- A wake source fires: in hive-sleep and during its entry it is registered where it is enabled (R77, R78). -/
def wakeFires (s : State) (src : Nat) : State :=
  s.on ((s.get Sleep.STATE == 1 || s.get Sleep.STATE == 2) && wakeEnabled s src) (·.orF Sleep.PEND (1 <<< src))

/-- The trip of R272 by cause bit 16 + `i`: the port is latched off. The arbiter notes the trip of the feeder that it
would shed next (R201), and the trip of a port that is kept on in hive-sleep wakes (R279). -/
def portTrip (s0 : State) (n i : Nat) : State :=
  let s := s0.on (portKind n == 3 && shedChoice s0 (n / 12) == some (n % 12 - 4)) (·.put (Arb.SHEDTRIP (n / 12)) 1)
  let s1 := portState (portPullDown (portCancel (portScale s n) n) n) n 8
  let s2 := ((s1.evt (0x30 + n) 2).inc (PORT_CNT.TRIPS n)).on (i == 0) (·.inc (PORT_CNT.SC n))
  let s3 := ((s2.put (PORT_STAT.TRIP_CAUSE n) i).put (PORT_STAT.TOGGLED n) 0).put (Port.OFFSEEN n) 0
  let s4 := ((s3.put (PORT_STAT.RETRY_RUN n) 1).put (PORT_RETRY_STAT.RUN n) 1).put (PORT_RETRY_STAT.ELAPSED n) 0
  s4.on (s4.flag (PORT_CTL.SLEEP_ON n)) (fun s => wakeFires s 9)

/-- The port goes off without a latch: OFF where it is not enabled or not commanded, else WAIT (R262). -/
def portOff (s : State) (n : Nat) : State :=
  let s1 := portPullDown (portCancel s n) n
  if s.get (PORT_STAT.STATE n) = 8 then s1
  else portState s1 n
    (if s.flag (PORT_CTL.EN n) && (portKind n == 3 || s.flag (Port.CMD n)) then 1 else 0)

/-- The port page of the PD port of comb `c` (R14). -/
def pdPage (c : Nat) : Nat := 0x3B + 12 * c

/-- The port number of the PD port of comb `c` (R1). -/
def pdPort (c : Nat) : Nat := 12 * c + 11

/-- Apply a change to the window of a phase. -/
def onWindow (s : State) (p : Fin 16) (g : List PlanEntry → List PlanEntry) : State :=
  { s with window := s.window.set p (g s.window[p]) }

/-- A hold cause other than an underrun: the phase and the rest of its set are squashed, and the island
enters the hold state (R130, R154). -/
def phStop (s : State) (p : Fin 16) (allOff : Bool) : State :=
  phHold (s.on (s.get (PH_STAT.STATE p) == 1 || s.window[p] != []) (fun s => setSquash s p)) p allOff false

/-- One squash of every phase of a comb, and of the rest of its gang, where there is a plan to squash (R154). -/
def combSquash (s : State) (c : Nat) : State :=
  s.on ((combPhases c).any (fun q => s.get (PH_STAT.STATE q) == 1 || s.window[q] != []))
    (fun s => gangRelay (squashEvery s c) c)

/-- A phase leaves run-ahead planning: only its issued entry stays, unless it had left before (R159, R390). -/
def leavePlan (s : State) (p : Fin 16) (before : Bool) : State :=
  s.on (!before) (fun s => onWindow s p (fun l => l.filter (fun e => e.stage == 2)))

/-- A phase returns to run-ahead planning: its shadows, which are never released, leave the window (R159, R390). -/
def rejoinPlan (s : State) (p : Fin 16) : State := onWindow s p (fun l => l.filter (fun e => e.stage != 0))

/-- A C3 or C4 class action of the comb page: one squash of every phase of the comb, each of which enters
the hold state (R130, R154). -/
def combStop (s : State) (c : Nat) : State :=
  (combSquash s c).each (combPhases c) (fun s q => phHold s q false false)

/-- The local number of the PD phase of comb `c` (R286). -/
def pdPhase (s : State) (c : Nat) : Nat := s.get (CMB_CTL.PDPH c)

/-- The Forager plans for the phase (R144, R154, R173). -/
def plans (s : State) (p : Nat) : Bool :=
  s.flag (CMB_CTL.EN (p / 4)) && s.flag (Comb.MODEL_OK (p / 4)) && s.flag (PH_CTL.RUN p) && foragerRuns s (p / 4) && !phHeld s p

/-- The records of the PD port of comb `c` are removed from every queue of its gang (R164, R303). -/
def dropRecords (s : State) (c : Nat) : State :=
  s.each ((List.finRange 4).filter (fun (d : Fin 4) => (gangOf s c).contains d.val)) (fun s d =>
    { s with antq := s.antq.set d (s.antq[d].filter (fun r => slice r.word 4 6 != pdPort c)) })

/-- A detach registered in the Forager: the PD port's queued records are removed, and where its PD phase
plans for the port, a miss of cause DETACH is declared there and the set is squashed (R152, R164, R167). -/
def detachMiss (s : State) (c : Fin 4) : State :=
  let s1 := dropRecords s c
  let p : Fin 16 := Fin.ofNat 16 (4 * c.val + pdPhase s c)
  if s.flag (Ph.DUTY p) && plans s p then
    let idx : BitVec 8 := match s.window[p].find? (fun e => e.stage == 2) with
      | some e => e.t.index
      | none => BitVec.ofNat 8 (s.get (Ph.PERCNT p))
    missSquash (missRecord (onWindow s1 p (fun l => l.filter (fun e => e.t.index != idx))) p idx.toNat 5 0) p
  else s1

/-! ### PD ports (R300, R306, R308) -/

/-- The state of the VBUS switch changes: EVT bit 0 of the port page (R308). While the clock of the port island is lost the
gate keeps its state, and the change waits (R27). -/
def pdSwitch (s : State) (c st : Nat) : State :=
  if portClockLost s (pdPort c) then s.put (Pd.SW_PEND c) (st + 1)
  else
    let s1 := s.putB (PDP_STAT.SW_ON c) (st == 2)
    if s.get (PORT_PD_STAT.STATE c) = st then s1
    else (s1.put (PORT_PD_STAT.STATE c) st).evt (pdPage c) 0

/-- While the connector stands more than 2 % above a falling reference, CBc_P11_DIS sinks (R293). -/
def disReview (s : State) (c : Nat) : State :=
  s.on (s.get (Pd.TR c) == 2) (fun s => s.putB (Pd.DIS c) (decide (20 * min (s.get (PDP_VBUS.TGT c)) (s.get (PDP_VBUS.CEIL c))
    < s.get (Pd.REF c)) && decide (102 * s.get (Pd.REF c) < 1000 * s.get (Port.VS (pdPort c)))))

/-- The reference starts to move at SLEW to a value outside a transition (R296, R301). -/
def refRamp (s : State) (c goal : Nat) : State := (s.put (Pd.RAMP c) 1).put (Pd.GOAL c) goal

/-- The reference stands at a value. -/
def refAt (s : State) (c v : Nat) : State := (s.put (Pd.REF c) v).put (Pd.RAMP c) 0

/-- Cancel a pending or running transition; its record is withdrawn (R293, R303). -/
def pdCancelTransition (s : State) (c : Nat) : State :=
  let s1 := s.on (s.get (Pd.TR c) != 0)
    (fun s => sendRecord s c (recordWord 0xF (pdPort c) 0 1 0 0 0 0))
  (((s1.put (Pd.TR c) 0).put (PDP_STAT.TRANS c) 0).put (Pd.TIME_LEFT c) 0).put (Pd.AMP_LEFT c) 0

/-- Send the next record of the ramp announced: the whole, or 2.55 ms of it; the last takes the remainder
(R293). -/
def pdSegment (s : State) (c start : Nat) : State :=
  let left := s.get (Pd.TIME_LEFT c)
  let t := min 255 left
  let amp := if left ≤ 255 then s.int (Pd.AMP_LEFT c)
    else fdivOpen (s.int (Pd.AMP_TOT c) * t) (s.get (Pd.TIME_TOT c))
  let s1 := sendRecord s c (recordWord 4 (pdPort c) 1 1 0 amp t start)
  (s1.put (Pd.TIME_LEFT c) (left - t)).putI (Pd.AMP_LEFT c) (s.int (Pd.AMP_LEFT c) - amp)

/-- The voltage that a PD port acts on: the lower of TGT and its ceiling, LSB 20 mV (R89, R292). -/
def vbusTgt (s : State) (c : Nat) : Nat := min (s.get (PDP_VBUS.TGT c)) (s.get (PDP_VBUS.CEIL c))

/-- Announce a ramp of the reference from its present value to TGT, `start` microseconds ahead (R293). -/
def pdAnnounce (s : State) (c start : Nat) : State :=
  let new : Int := 20 * vbusTgt s c
  let old : Int := s.get (Pd.REF c)
  let time := (new - old).natAbs / (10 * s.get (PDP_TRANS.SLEW c))
  let amp := fdivOpen (s.int (Port.I (pdPort c)) * (new - old)) (10 * s.get (Comb.VBB c))
  let s1 := ((s.put (Pd.TIME_TOT c) time).putI (Pd.AMP_TOT c) amp)
  pdSegment ((s1.put (Pd.TIME_LEFT c) time).putI (Pd.AMP_LEFT c) amp) c start

/-- Open the VBUS switch at once and discharge the connector (R299, R300, R303). -/
def pdOpen (s : State) (c : Nat) : State :=
  if s.get (PORT_PD_STAT.STATE c) = 5 then (s.put (PDP_STAT.SW_ON c) 0).put (Pd.DIS c) 1
  else (pdSwitch s c 4).on (!portClockLost s (pdPort c)) (·.put (Pd.DIS c) 1)

/-- The clock of the port island is back: a change of the switch that waited is made (R27). -/
def pdSwitchBack (s : State) (c : Nat) : State :=
  let st := s.get (Pd.SW_PEND c)
  let s1 := s.put (Pd.SW_PEND c) 0
  if st = 0 then s1 else if st = 5 then pdOpen s1 c else pdSwitch s1 c (st - 1)

/-- Whatever a PD port had begun ends: its transition, its duty request, its Hard Reset sequence, a change of role
and a Fast Role Swap; the contract is lost and the reference is 0 V (R291, R300, R303, R305). -/
def pdQuiet (s : State) (c : Nat) : State :=
  let s1 := refAt ((pdCancelTransition s c).put (PDP_CTL.CONTRACT c) 0) c 0
  ((((((s1.put (Pd.HR c) 0).put (Pd.SRCOFF c) 0).put (Pd.SRCON c) 0).put (Pd.FRS c) 0).put (Pd.REQ c) 0).put
    (Pd.VCONN c) 0).put (PDP_STAT.PWR_ROLE c) 0

/-- ERROR_RECOVERY: Rp and Rd removed, the contract lost, VBUS discharged to vSafe0V (R291, R300). -/
def pdErrorRecovery (s : State) (c : Nat) : State :=
  let s1 := pdQuiet (pdOpen s c) c
  (((((s1.put (PDP_STAT.CC_STATE c) 7).put (PDP_STAT.HR_CODE c) 5).put (PDP_STAT.DEADBAT c) 0).put (Pd.RP c) 0).put
    (Pd.RD c) 0).put (Pd.ERR_OVER c) 0

/-- The DISABLED CC state with Rd only (R300, R390). -/
def pdDisable (s : State) (c : Nat) : State :=
  let s1 := pdQuiet (pdOpen s c) c
  (((s1.put (PDP_STAT.CC_STATE c) 0).put (PDP_STAT.DEADBAT c) 0).put (Pd.RP c) 0).put (Pd.RD c) 1

/-- The port starts from unattached, in the state that ROLE reaches (R289, R300). -/
def pdUnattached (s : State) (c : Nat) : State :=
  let src := s.get (PDP_CTL.ROLE c) == 1 && !s.flag (Pd.SINK_ONLY c) && !inSafeBoot s
  ((((s.put (PDP_STAT.CC_STATE c) (if src then 2 else 1)).putB (Pd.RP c) src).putB (Pd.RD c) (!src)).put
    (PDP_STAT.RP_SEEN c) 0).put (PDP_STAT.DEADBAT c) 0

/-- A class action holds the port in DISABLED: a C4 of its PD page, or a C4 of its port page that is not a protective
response of R299 (R390). -/
def pdBarred (s : State) (c : Nat) : Bool :=
  classActed s (0x60 + c) 4 || dieShutdown s || (classActed s (pdPage c) 4 && (List.range 16).any (fun i =>
    decide (5 ≤ i) && s.get (Flt.STAND (pdPage c) i) == 4))

/-- A port in DISABLED starts from unattached where EN is 1 and nothing holds it there (R300, R390). -/
def pdStartAgain (s : State) (c : Nat) : State :=
  s.on (s.flag (PDP_CTL.EN c) && s.get (PDP_STAT.CC_STATE c) == 0 && s.get (PORT_PD_STAT.STATE c) != 5 && !pdBarred s c)
    (fun s => pdUnattached s c)

/-- The port runs sink-only, for DUTY_FAIL: Rp gives way to Rd, and a port that stood as source starts from unattached
(R306). -/
def pdSinkOnly (s : State) (c : Nat) : State :=
  let s1 := ((s.put (Pd.SINK_ONLY c) 1).put (Pd.REQ c) 0).put (Pd.SRCON c) 0
  let cc := s.get (PDP_STAT.CC_STATE c)
  if cc = 2 ∨ cc = 4 then pdUnattached s1 c
  else if cc = 6 then pdUnattached (pdQuiet s1 c) c
  else if cc = 5 then (s1.put (Pd.RP c) 0).put (Pd.RD c) 1
  else s1

/-- The VBUS switch is commanded closed, unless a C2 action of its port page bars it (R287, R390). -/
def pdClose (s : State) (c : Nat) : State :=
  let st := s.get (PORT_PD_STAT.STATE c)
  if st = 1 ∨ st = 2 ∨ st = 5 ∨ classActed s (pdPage c) 2 then s else pdSwitch s c 1

/-- The port wants its VBUS switch closed: in duty as source, turning to source, or armed for a Fast Role Swap
(R287, R297, R301). -/
def pdWantsVbus (s : State) (c : Nat) : Bool :=
  s.flag (PDP_STAT.DUTY c) && (s.get (PDP_STAT.CC_STATE c) == 6
    || (s.get (PDP_STAT.CC_STATE c) == 5 && (s.flag (PDP_CTL.FRS_ARM c) || s.flag (Pd.SRCON c))))

/-- How many protective responses of a PD port lie within the last 10 s (R300). -/
def pdRecent (s : State) (c : Nat) : Nat :=
  ((List.range 3).filter (fun i => s.get (Pd.TRIP_T c i) != 0
    && s.get Dev.TIME + 1 - s.get (Pd.TRIP_T c i) < 10000)).length

/-- A raise that no detection names an action for, made while an action is applied: its class action
comes at once where REACT is 0 or the device is in SAFE-BOOT (R386). -/
def noteRaise (s : State) (c : Cause) : State :=
  let n := raiseClass s c
  (recordRaise s c).on ((n == 2 || n == 3) && (s.get (PAGE_FLT_CFG.REACT c.page) == 0 || inSafeBoot s))
    (fun s => recordAction s c.page n)

/-- A protective response is counted: EVT bit 14, TRIPS, and those of the last 10 s (R300). -/
def pdCount (s : State) (c : Nat) : State :=
  let s1 := (((s.put (Pd.TRIP_T c 2) (s.get (Pd.TRIP_T c 1))).put (Pd.TRIP_T c 1) (s.get (Pd.TRIP_T c 0))).put
    (Pd.TRIP_T c 0) (s.get Dev.TIME + 1)).inc (PDP_CNT.TRIPS c)
  (s1.evt (0x60 + c) 14).put (PORT_PD_STAT.TRIPS10 c) (pdRecent s1 c)

/-- The protective latch: DISABLED with Rd only, until EN is written 0 and then 1 (R300). -/
def pdLatch (s : State) (c : Nat) : State :=
  noteRaise ((pdSwitch (pdDisable s c) c 5).put (Pd.LATCH_OFF c) 0) { page := 0x60 + c, bit := 5, cls := 2, holds := true }

/-- A protective response of the PD port island by cause bit 16 + `i`: the switch is pulled down, the
response is counted, and the port enters ERROR_RECOVERY; the third within 10 s latches it (R299, R300)
(DEDUCED, log entry 36). -/
def pdProtect (s : State) (c : Fin 4) (i : Nat) : State :=
  let s1 := pdCount ((detachMiss s c).put (PORT_PD_STAT.TRIP_CAUSE c) i) c
  let s2 := s1.evt (pdPage c) 2
  if s2.get (PORT_PD_STAT.TRIPS10 c) = 3 then pdLatch s2 c else pdErrorRecovery s2 c

/-! ### Converters (R314, R335) -/

/-- The converter that serves lane `m`; 7 none. -/
def laneConv (s : State) (m : Nat) : Nat := slice (s.get HKS_STAT.LANES) (4 * m) 3

/-- Give lane `m` to converter `k`. -/
def setLane (s : State) (m k : Nat) : State :=
  s.put HKS_STAT.LANES (andNot (s.get HKS_STAT.LANES) (7 <<< (4 * m)) ||| (k <<< (4 * m)))

/-- The role of a converter changes: EVT bit 0 of its page (R341). -/
def convRole (s : State) (k r : Nat) : State :=
  if s.get (HKC_STAT.ROLE k) = r then s else (s.put (HKC_STAT.ROLE k) r).evt (0x69 + k) 0

/-- The calibration in which converter `k` takes part, as the one calibrated or as the spare that prepares to take its
lane, ends without a result: RESULT reads 3 (R334, R335) (DEDUCED, log entry 38). -/
def calBreak (s : State) (k : Nat) : State :=
  s.on ((s.get Hks.CALSTEP != 0 && s.get HKS_STAT.CAL_CONV == k) || (s.get Hks.CALSTEP == 1 && s.get HKS_STAT.SPARE == k))
    (fun s => ((((s.put HKS_STAT.CAL_BUSY 0).put HKS_STAT.CAL_CONV 7).put Hks.CALSTEP 0).put Hks.CALALL 0).put HKS_CAL.RESULT
      (if s.get Mnt.CV = 1 then s.get HKS_CAL.RESULT else 3))

/-- Withdraw converter `k`: it takes no role, and the spare takes its lane; with no spare the lane has
no converter, and LANE_LOST is raised (R335). -/
def convWithdraw (s : State) (k : Nat) : State :=
  let sp := s.get HKS_STAT.SPARE
  let s1 := convRole (calBreak s k) k 6
  let s2 := s1.on (sp == k) (·.put HKS_STAT.SPARE 7)
  match (List.range 4).find? (fun m => laneConv s m == k) with
  | none => s2
  | some m =>
    if sp ≠ 7 ∧ sp ≠ k then convRole ((setLane s2 m sp).put HKS_STAT.SPARE 7) sp m
    else noteRaise (setLane s2 m 7) { page := 0x68, bit := 3, cls := 2, holds := true }

/-! ### The built-in set (R320, R337) -/

/-- Some value of the sequence whose conversions are of kind `kind` is still to come. -/
def stepAwaits (s : State) (kind : Nat) : Bool :=
  (List.range 4).any (fun m => (s.flag (Lane.BUSY m) && s.get (Lane.KIND m) == kind) || s.get (Lane.SEC m) != 0
    || (s.flag (Lane.VON m) && s.get (Lane.VKIND m) == kind))

/-- The built-in set is in force: no valid table stands, or a class action holds it (R320, R390, R395). -/
def builtinHeld (s : State) : Bool := s.flag Hks.TABLE_BAD || classActed s 0x68 3 || s.bit (Flt.INJ 0x68) 1

/-- The built-in set gives way to a valid table: none of its runs is under way, and nothing holds it in force
(R320, R337). -/
def builtinGives (s : State) : Bool :=
  s.get Hks.BSTEP == 0 && !stepAwaits s 1 && !builtinHeld s

/-- The built-in set ends at the end of its run, with the values of its last step (R320, R322, R337). -/
def builtinReview (s : State) : State := s.on (builtinGives s) (·.put HKS_STAT.BUILTIN 0)

/-! ### Charge engines (R217, R277) -/

/-- The port of charge engine `n` (R1, R14). -/
def batPort (n : Nat) : Nat := 12 * (n / 2) + 2 + n % 2

/-- The engine's port is commanded open: a gate pull-down at once (R277). -/
def chgOpen (s : State) (n : Nat) : State :=
  portOff (s.put (Port.CMD (batPort n)) 0) (batPort n)

/-- A battery port is closed (R262). -/
def portClosed (s : State) (n : Nat) : Bool :=
  s.get (PORT_STAT.STATE n) == 5 || s.get (PORT_STAT.STATE n) == 6 || s.get (PORT_STAT.STATE n) == 9

/-- The engines of the comb whose battery port is closed. -/
def closedEngines (s : State) (c : Nat) : List Nat :=
  [2 * c, 2 * c + 1].filter (fun e => portClosed s (batPort e))

/-- The engine that leads engine `n`, where `n` is a follower (R217) (DEDUCED, log entry 45). -/
def engineLead (s : State) (n : Nat) : Option Nat :=
  if s.flag (CHG_CTL.EN n) && s.flag (CHG_CTL.FOLLOW n) then some (n ^^^ 1) else none

/-- The engines whose ports carry the string of engine `n`: itself and its follower (R217). -/
def enginePair (s : State) (n : Nat) : List Nat :=
  if engineLead s (n ^^^ 1) = some n then [n, n ^^^ 1] else [n]

/-! ### A running sweep point (R247, R250, R331) -/

/-- The four accumulators of impedance channel `n` from `CHG_IMP_ACC.BASE` (R255). -/
def impAccs (s : State) (n : Nat) : List Nat :=
  let b := s.get (CHG_IMP_ACC.BASE n) / 4 * 4
  [b, b + 1, b + 2, b + 3]

/-- The claim of a channel's accumulators ends: the sums stay and no sample enters until CFG or CLR is written
(R331). -/
def impUnclaim (s : State) (n : Nat) : State :=
  s.each ((enginePair s n).flatMap (impAccs s)) (fun s a => s.on (s.get (Acc.CLAIM a) != 0) (fun s =>
    ((s.put (Acc.CLAIM a) 0).put (ACC_CFG.CLAIMED (a / 64) (a % 64)) 0).put (Acc.STOP a) 1))

/-- A point of channel `n` settles or integrates (R243). -/
def pointRuns (s : State) (n : Nat) : Bool :=
  s.get (CHG_IMP_STAT.STATE n) == 2 || s.get (CHG_IMP_STAT.STATE n) == 3

/-- The channels of the battery buses of the gang of comb `c` that run a point (R238). -/
def sweepsOn (s : State) (c : Nat) : List Nat :=
  ((gangOf s c).flatMap (fun d => [2 * d, 2 * d + 1])).filter (pointRuns s)

/-- A disturbance of the points that run on the bus of comb `c`: the first restarts the point from settling,
the second ends it (R250). A point that has not begun, or not begun again, is not disturbed (DEDUCED, log entry 46). -/
def impDisturb (s : State) (c : Nat) : State :=
  s.each ((sweepsOn s c).filter (fun n => s.get (Imp.AWAIT n) == 0 && !s.flag (Imp.WAIT n))) (fun s n =>
    let s1 := impUnclaim s n
    if s.get (Imp.DIST n) = 0 then
      (((s1.put (Imp.DIST n) 1).put (CHG_IMP_STAT.STATE n) 2).put (Imp.CYC n) 0).put (Imp.WAIT n) 1
    else (s1.put (Imp.DIST n) 2).put (CHG_IMP_STAT.STATE n) 4)

/-! ### Throttling by zones (R373) -/

/-- The percentage that zone `z` applies; 100 at level 0 (R373, R383). -/
def zonePct (s : State) (z : Nat) : Nat :=
  if s.flag (THZ_STAT.MINPWR z) then min 100 (s.get (THZ_PCT.MIN z))
  else match s.get (THZ_STAT.LEVEL z) with
  | 0 => 100
  | 1 => min 100 (s.get (THZ_PCT.PCT1 z))
  | _ => min 100 (s.get (THZ_PCT.PCT2 z))

/-- A zone applies a percentage. -/
def zoneActs (s : State) (z : Nat) : Bool := s.flag (THZ_STAT.MINPWR z) || s.get (THZ_STAT.LEVEL z) != 0

/-- The percentage in force of a target, the lowest of the zones that name it (R373). -/
def targetPct (s : State) (f : Nat → Fld) (b : Nat) : Nat :=
  ((List.range 16).filter (fun z => s.bit (f z) b)).foldl (fun m z => min m (zonePct s z)) 100

/-- The limit in force of the PD port of comb `c`: that of the power path times the percentage of its zones, without a
contract at most 1.50 A, LSB 10 mA (R291, R373). -/
def pdLimit (s : State) (c : Nat) : Nat :=
  let l := s.get (Pd.LIM c) * targetPct s THZ_TGT.PD c / 100
  if s.flag (PDP_CTL.CONTRACT c) then l else min 150 l

end Sys2Proof.Machine
end

