-- ==== Sys2Proof/Machine/Engine.lean ====
section
/-! DEFINITION. What a class action needs of a charge engine (chapter 9): profiles, the states of an engine and their
entry, zero current, and the parts of a sweep that an engine ends (R232, R250). -/

namespace Sys2Proof.Machine

/-! ### Profiles (R206 to R210) -/

/-- State entry `st` of the profile at `a` (R206). -/
def entry (a st : Nat) : Nat := a + 0x100 + 0x20 * st

/-- NSTATES, START, FLAGS and CELLS of a profile. -/
def nStates (s : State) (a : Nat) : Nat := s.leNat (a + 6) 1

/-- Exit word `e` of state `st` (R208). -/
def exitWord (s : State) (a st e : Nat) : Nat := s.leNat (entry a st + 0x10 + 4 * e) 4

/-- An enabled exit is well formed (R210). -/
def exitValid (s : State) (a w : Nat) : Bool :=
  slice w 5 3 == 0 || (slice w 0 5 ≤ 12 && slice w 5 3 ≤ 4 && slice w 8 6 < nStates s a && slice w 14 6 < 56
    && (slice w 24 6 < 56 || slice w 24 6 == 63))

/-- A profile is valid (R210). -/
def profileValid (s : State) (a : Nat) : Bool :=
  let cells := s.leNat (a + 0xA) 2
  headerOk s a 0x0003 0x0900
    && (1 ≤ nStates s a && nStates s a ≤ 62) && s.leNat (a + 7) 1 < nStates s a
    && decide (cells * s.leNat (a + 0x10) 2 ≤ 720000) && (1 ≤ cells && cells ≤ 64) && s.leNat (a + 0xC) 2 != 0
    && (List.range (nStates s a)).all (fun st =>
      let kind := s.leNat (entry a st + 0xB) 1
      s.leNat (entry a st + 0xA) 1 % 4 != 3 && (kind ≤ 7 || kind == 9)
        && (List.range 4).all (fun e => exitValid s a (exitWord s a st e)))

/-- The bank whose tables engine `n` follows: the active one, and until a probe that a table commit met has completed
the one before it (R206, R233). -/
def engineBank (s : State) (n : Nat) : Nat :=
  if s.flag (Chg.COMMIT_PEND n) then 1 - s.get TBL_BANK.ACTIVE else s.get TBL_BANK.ACTIVE

/-- The profile that `CHG_CTL.PROFILE` selects, where it is valid (R206, R210). -/
def profileOf (s : State) (n : Nat) : Option Nat :=
  (findTableIn s (engineBank s n) 0x0003 (s.get (CHG_CTL.PROFILE n))).filter (profileValid s)

/-- The profile under which engine `n` may run: in SAFE-BOOT one marked SAFE (R230). -/
def engineProfile (s : State) (n : Nat) : Option Nat :=
  (profileOf s n).filter (fun a => !inSafeBoot s || (s.leNat (a + 9) 1).testBit 0)

/-- CTL of a state: MODE, DV and LAMP; ABSENT is OPEN and CHARGE_TIMEOUT CONNECTED (R207, R223, R226). -/
def stMode (s : State) (a st : Nat) : Nat :=
  if st = 62 then 0 else if st = 63 then 2 else s.leNat (entry a st + 0xA) 1 % 4

/-- The state tracks the voltage drop (R207). -/
def stDv (s : State) (a st : Nat) : Bool := st < 62 && (s.leNat (entry a st + 0xA) 1).testBit 2

/-- KIND of a state; 8 and 10 for the device-owned ones (R206). -/
def stKind (s : State) (a st : Nat) : Nat :=
  if st = 62 then 8 else if st = 63 then 10 else s.leNat (entry a st + 0xB) 1

/-- LAMP of a state; codes 5 to 7 are dark (R210, R228). -/
def stLamp (s : State) (a st : Nat) : Nat :=
  let l := slice (s.leNat (entry a st + 0xA) 1) 3 3
  if 5 ≤ l then 0 else l

/-- CELLS of a profile. -/
def cellsOf (s : State) (a : Nat) : Nat := s.leNat (a + 0xA) 2

/-- Engine `n` runs a profile and has entered a state of it. -/
def hasState (s : State) (n : Nat) : Bool :=
  s.flag (CHG_CTL.EN n) && !s.flag (CHG_CTL.FOLLOW n) && s.flag (Chg.STARTED n)

/-! ### Sweeps that an engine ends (R232, R242, R250) -/

/-- A sweep of channel `n` ends: its perturbation and its claims are removed. -/
def impStop (s : State) (n : Nat) : State :=
  let s1 := impUnclaim s n
  let s2 := (((s1.put (CHG_IMP_STAT.STATE n) 0).put (Imp.PAIR n) 0).put (CHG_STAT.SWEEP_PEND n) 0).put (Imp.CYC n) 0
  (((s2.put (Imp.AMP n) 0).put (Imp.DELTA n) 0).put (Imp.AWAIT n) 0).put (Imp.TAIL n) 0

/-- Every point of channel `n` is NOT_RUN (R248). -/
def pointsClear (s : State) (n : Nat) : State :=
  s.each (List.range 32) (fun s p =>
    (((s.put (Imp.STATUS n p) 6).put (Imp.RE n p) 0).put (Imp.IM n p) 0).put (Imp.IAMP n p) 0)

/-- Re-arm the tracking of the voltage drop (R219). -/
def rearm (s : State) (n : Nat) : State :=
  let s1 := ((s.put (CHG_STAT.DV_ARMED n) 0).put (CHG_DV.NDV n) 0).evt (0x88 + n) 7
  match profileOf s n with
  | some a => s1.each ((List.range 4).filter (fun e =>
      slice (exitWord s a (s.get (CHG_STAT.STATE n)) e) 0 5 == 10)) (fun s e => s.put (Chg.Q n e) 0)
  | none => s1

/-- A pending or running sweep of channel `n` is aborted: points not completed are NOT_RUN, and a sweep that has run
re-arms the drop tracking where the engine continues (R219, R250). -/
def impAbort (s : State) (n : Nat) : State :=
  let st := s.get (CHG_IMP_STAT.STATE n)
  if st = 0 then s
  else
    let s1 := ((impStop s n).put (CHG_IMP_STAT.END n) 2).inc (CHG_IMP_CNT.ABORTS n)
    let s2 := (s1.orF (CHG_IMP_EVT.EVT n) 8).on (s.flag (Imp.NEW n)) (fun s => (pointsClear s n).put (Imp.NEW n) 0)
    s2.on ((st != 1 || !s.flag (Imp.NEW n)) && hasState s n) (fun s => rearm s n)

/-- A change of state drops a pending sweep and aborts a running one (R232, R242, R250). -/
def impState (s : State) (n : Nat) : State :=
  if s.get (CHG_IMP_STAT.STATE n) = 1 then
    ((impStop s n).put (CHG_IMP_STAT.END n) 3).inc (CHG_IMP_CNT.ABORTS n)
  else impAbort s n

/-- The engine becomes limited: the present point is abandoned and the sweep is pending again (R250). -/
def impLimited (s : State) (n : Nat) : State :=
  if s.get (CHG_IMP_STAT.STATE n) ≤ 1 then s
  else
    let p := if s.get (Imp.AWAIT n) = 0 then s.get (CHG_IMP_STAT.POINT n) + 1 else s.get (Imp.AWAIT n)
    (((impStop s n).put (CHG_IMP_STAT.STATE n) 1).put (CHG_STAT.SWEEP_PEND n) 1).put (Imp.AWAIT n) p

/-- A sweep runs on channel `n`. -/
def impRuns (s : State) (n : Nat) : Bool := 2 ≤ s.get (CHG_IMP_STAT.STATE n)

/-! ### States and their entry (R205, R213, R219, R223) -/

/-- The state that `CHG_STAT` shows, in the pages of the string (R217, R236). -/
def showState (s : State) (n a st : Nat) : State :=
  s.each (enginePair s n) (fun s f => (((s.put (CHG_STAT.STATE f) st).put (CHG_STAT.MODE f) (stMode s a st)).put
    (CHG_STAT.KIND f) (stKind s a st)).put (CHG_STAT.LAMP f) (stLamp s a st))

/-- Record a transition in `CHG_LAST` (R213, R236). -/
def lastPut (s : State) (n cause ex next : Nat) : State :=
  (((s.put (CHG_LAST.FROM n) (s.get (CHG_STAT.STATE n))).put (CHG_LAST.TO n) next).put (CHG_LAST.CAUSE n) cause).put
    (CHG_LAST.EXIT n) ex

/-- The timers and counts that a state entry returns to zero (R213). -/
def zeroState (s : State) (n : Nat) : State :=
  let s1 := ((s.put (Chg.TW n) 0).put (Chg.TS n) 0).put (Chg.AHS n) 0
  let s2 := ((s1.put (CHG_SAFE.T_SAFE n) 0).put (CHG_WALL.T_STATE n) 0).put (CHG_AH_STATE.AH n) 0
  (s2.each (List.range 4) (fun s e => s.put (Chg.Q n e) 0)).put (Chg.BLKOK n) 0

/-- Entry to a state of the profile at `a`, or to CHARGE_TIMEOUT, which returns the same timers and counts to zero
(R213, R223) (DESIGN CHOICE for CHARGE_TIMEOUT, log entry 65): cause and exit as `CHG_LAST` codes them. The port follows at
the end of the evaluation. -/
def stateEnter (s : State) (n a st cause ex : Nat) : State :=
  let s1 := showState (lastPut (impState s n) n cause ex st) n a st
  let s2 := (((zeroState s1 n).put (CHG_STAT.RESUMED n) 0).put (CHG_DV.NDV n) 0).evt (0x88 + n) 0
  s2.on (stDv s a st) (fun s => rearm s n)

/-- Entry to CHARGE_TIMEOUT, the class action of TIMEOUT; an engine that has no state, or whose battery is absent, enters
none (R223). -/
def timeoutEnter (s : State) (n : Nat) : State :=
  match profileOf s n with
  | some a => if hasState s n && s.get (CHG_STAT.STATE n) < 62 then stateEnter s n a 63 2 0 else s
  | none => s

/-- Zero current is commanded for the string of engine `n`; in a state with DV a change of I_EFF re-arms the drop tracking
(R217, R219, R390). -/
def chgZero (s : State) (n : Nat) : State :=
  let l := (engineLead s n).getD n
  let s1 := s.put (CHG_SETPT.I_EFF l) 0
  match profileOf s l with
  | some a => s1.on (hasState s l && s.get (CHG_SETPT.I_EFF l) != 0 && stDv s a (s.get (CHG_STAT.STATE l)))
      (fun s => rearm s l)
  | none => s1

/-- The ports of the string of engine `n` are commanded open, a follower's with its lead's (R217, R390). -/
def stringOpen (s : State) (n : Nat) : State := s.each (enginePair s n) chgOpen

end Sys2Proof.Machine
end

