-- ==== Sys2Proof/Machine/Zones.lean ====
section
/-! DEFINITION. What fault reaction shares with the thermal block (chapter 15): the sensors, the zones and their levels,
and the action of a DIE shutdown. -/

namespace Sys2Proof.Machine

/-! ### Sensors (R367) -/

/-- The kind of a sensor, as the cause bit of its shutdown less 16: 0 DIE, 1 BATTERY, 2 STAGE, 3 PORT_FET (R367,
R381). -/
def thKind (k : Nat) : Nat := if k < 8 then 0 else if k < 24 then 2 else if k < 40 then 1 else 3

/-- The comb of a sensor that is not on the die. -/
def thComb (k : Nat) : Nat :=
  if k < 24 then (k - 8) / 4 else if k < 40 then (k - 24) / 4 else (k - 40) / 12

/-- The pages of the channel that a sensor measures (R53, R367). -/
def thPages (k : Nat) : List Nat :=
  match thKind k with
  | 0 => []
  | 2 => [0x20 + (k - 8), 0x10 + thComb k]
  | 1 => [0x30 + batPort ((k - 24) / 2), 0x10 + thComb k]
  | _ => [0x30 + (k - 40), 0x10 + thComb k]

/-- The sensor is supervised: enabled, and its channel not declared absent (R367). -/
def thKept (s : State) (k : Nat) : Bool := s.flag (THS_CFG.EN k) && !(thPages k).any (absent s)

/-! ### Zones (R373, R378, R390) -/

/-- The level of a sensor by its thresholds (R372). -/
def sensorLevel (s : State) (k : Nat) : Nat :=
  if s.flag (Ths.OVER2 k) then 2 else if s.flag (Ths.OVER1 k) then 1 else 0

/-- The sensors of zone `z` that take part in it. -/
def zoneSensors (s : State) (z : Nat) : List Nat :=
  (List.range 88).filter (fun k => thKept s k && s.get (THS_CFG.ZONE k) == z)

/-- The level that a zone acts at: 3 at minimum power (R373). -/
def zoneLevel (s : State) (z : Nat) : Nat := if s.flag (THZ_STAT.MINPWR z) then 3 else s.get (THZ_STAT.LEVEL z)

/-- Set an event bit of a zone (R382, R383). -/
def zoneEvt (s : State) (z i : Nat) : State := s.orF (THZ_EVT.EVT z) (1 <<< i)

/-- The THERM page's own C3 or C4 action is in force: some cause stands there by escalation (R390). -/
def thermalActed (s : State) : Bool :=
  [3, 4].any (fun n => classActed s 0x80 n && (List.range 16).any (fun i =>
    s.get (Flt.STAND 0x80 i) == n && causeClass 0x80 i != some n))

/-- A zone takes the highest level of its sensors; a change sets its EVT bit 0 or 1 (R373). The
page's own action puts every zone that holds a substituted sensor at minimum power (R390). -/
def zoneReview (s : State) (z : Nat) : State :=
  let l := zoneSensors s z
  let sub := l.any (fun k => s.flag (THS_STAT.SUBST k))
  let s1 := ((s.put (THZ_STAT.LEVEL z) (l.foldl (fun m k => max m (sensorLevel s k)) 0)).putB
    (THZ_STAT.MINPWR z) (l.any (fun k => s.flag (Ths.MINP k)) || (sub && thermalActed s))).putB (THZ_STAT.SUBST z) sub
  if zoneLevel s z < zoneLevel s1 z then zoneEvt s1 z 0
  else if zoneLevel s1 z < zoneLevel s z then zoneEvt s1 z 1 else s1

/-! ### DIE shutdown (R375) -/

/-- Every port is turned off by gate pull-down, and every PD port discharges VBUS (R375). -/
def dieAction (s : State) : State :=
  let s1 := s.each (List.finRange 16) (fun s p => phStop s p true)
  s1.each (List.range 48) (fun s n => if portKind n = 4 then pdDisable s (n / 12) else portOff s n)

end Sys2Proof.Machine
end

