-- ==== Sys2Proof/Machine/Faults.lean ====
section
/-! DEFINITION. Fault reaction (chapter 16): raising with escalation and class actions, acknowledgement,
reaction timers, quiet periods, injection, and the lamp overload of the PINS page. -/

namespace Sys2Proof.Machine

/-! ### The catalogues (R397) -/

/-- The catalogue names the action of this C2 or C3 cause as taken at detection (R280, R398 and the
entries of chapters 7, 17 and 20). -/
def atDetection (p i : Nat) : Bool :=
  match pageKind p with
  | some 0x00 => i == 3
  | some 0x01 => i == 0
  | some 0x02 => i == 0
  | some 0x05 => i == 1
  | some 0x08 => i == 3
  | some 0x0C => i == 0
  | some 0x10 => i == 3
  | some 0x20 => i == 7
  | some 0x30 => portKind (p - 0x30) != 4 && (i == 9 || i == 10 || i == 11)
  | some 0x68 => 1 ≤ i
  | some 0x69 => true
  | some 0x80 => 4 ≤ i
  | some 0x88 => i == 0 || i == 3
  | some 0xA0 => 1 ≤ i
  | some 0xA1 => i == 1 || i == 2
  | some 0x90 => i == 2
  | some 0xB0 => i == 0
  | _ => false

/-- The page of a phase as its number. -/
def phaseOf (p : Nat) : Fin 16 := Fin.ofNat 16 (p - 0x20)

/-- The comb of a comb, PD or PD port page as its number. -/
def fin4 (c : Nat) : Fin 4 := Fin.ofNat 4 c

/-- The effect of class action `n` of a page for cause bit 16 + `i` (R390). `esc` marks a class that the
cause reached by escalation, for which the page's own action stands. -/
def actionEffect (s : State) (p n i : Nat) (esc : Bool) : State :=
  match pageKind p with
  | some 0x10 =>
    if n = 3 ∨ n = 4 then combStop s (p - 0x10) else s
  | some 0x20 =>
    if n = 3 ∨ n = 4 then
      let s1 := s.on (!esc && i == 3) (·.put (Ph.FWT (p - 0x20)) 1)
      phStop s1 (phaseOf p) (!esc && i ≤ 3)
    else if n = 2 ∧ !esc ∧ i = 7 ∧ !s.bit (CMB_STAT.DEGRADED ((p - 0x20) / 4)) ((p - 0x20) % 4) then
      (s.putBit (CMB_STAT.DEGRADED ((p - 0x20) / 4)) ((p - 0x20) % 4) true).evt (0x10 + (p - 0x20) / 4) 2
    else s
  | some 0x30 =>
    let port := p - 0x30
    if portKind port = 4 then
      let c := fin4 (port / 12)
      if (n = 3 ∨ n = 4) ∧ portClockLost s port then s.putBit (Port.ACT_PEND port) (n - 1) true
      else if n = 4 then (if !esc && i ≤ 4 then pdProtect s c i else pdDisable s c)
      else if n = 3 then pdErrorRecovery s c else s
    else if n = 3 ∨ n = 4 then
      if portClockLost s port then s.putBit (Port.ACT_PEND port) (n - 1) true
      else if !esc && i == 2 then portOff (s.put (Port.PULLED port) 1) port
      else if !esc && i == 5 then portOff (s.on (!s.flag (Port.HOT port)) (·.put (Port.HOT_ACT port) 1)) port
      else if s.get (PORT_STAT.STATE port) = 8 then portPullDown s port
      else portTrip s port i
    else if n = 2 ∧ esc ∧ s.get (PORT_STAT.STATE port) < 3 then
      (if s.get (PORT_STAT.STATE port) = 0 then s else portState (portCancel s port) port 1)
    else s
  | some 0x60 =>
    let c := p - 0x60
    if n = 4 then
      let s1 := s.on (!esc && i == 0) (·.put (Pd.CC_OFF c) 1)
      pdDisable s1 c
    else if n = 3 then
      if !esc && i == 3 then pdSinkOnly s c else pdErrorRecovery s c
    else s
  | some 0x68 =>
    if n = 3 ∨ (n = 2 ∧ !esc ∧ i = 1) then
      s.on (!s.flag HKS_STAT.BUILTIN) (fun s => ((s.put HKS_STAT.BUILTIN 1).put Hks.BSTEP 0).evt 0x68 7)
    else if n = 4 then s.each (List.finRange 4) (fun s c => combStop s c)
    else s
  | some 0x69 => if n = 3 ∨ n = 4 ∨ (n = 2 ∧ !esc) then convWithdraw s (p - 0x69) else s
  | some 0x80 =>
    if (n = 3 ∨ n = 4) ∧ (esc ∨ 4 ≤ i) then s.each (List.range 16) zoneReview
    else if n = 4 ∧ !esc ∧ i = 0 ∧ !(List.range 8).any (fun k => s.flag (THS_STAT.SD k)) then dieAction s
    else s
  | some 0x88 =>
    if n = 3 then chgZero s (p - 0x88)
    else if n = 4 then stringOpen (chgZero s (p - 0x88)) (p - 0x88)
    else if n = 2 ∧ !esc ∧ i = 0 then timeoutEnter s (p - 0x88)
    else if n = 2 ∧ !esc ∧ i = 3 then chgZero (s.put (Chg.NOFEED (p - 0x88)) 1) (p - 0x88)
    else s
  | _ => s

/-- The application of a class action is recorded; a phase that comes to run as degraded with it leaves run-ahead
planning (R385, R390, R394). -/
def takeAction (s : State) (p n : Nat) : State :=
  let s1 := recordAction s p n
  s1.on (n == 2 && pageKind p == some 0x20) (fun s' => leavePlan s' (phaseOf p) (degraded s (p - 0x20)))

/-- The class actions that a raise puts in force on its edge: every C4 action; a C2 or C3 action named as
taken at detection; and any C2 or C3 action while REACT is 0 or the device is in SAFE-BOOT (R385, R386). -/
def raiseActs (s : State) (c : Cause) (n : Nat) : Bool :=
  n == 4 || ((n == 2 || n == 3) && (s.get (PAGE_FLT_CFG.REACT c.page) == 0 || inSafeBoot s
    || (n == c.cls && atDetection c.page c.bit)))

/-- Raise a cause (R384 to R390) (DEDUCED, log entry 17). -/
def raiseFault (s : State) (c : Cause) : State :=
  if muted s c.page || (c.holds && s.bit (Flt.PRESENT c.page) c.bit) then s
  else
    let n := raiseClass s c
    let s1 := recordRaise s c
    if raiseActs s c n then actionEffect (takeAction s1 c.page n) c.page n c.bit (n != c.cls) else s1

/-- Raise cause bit 16 + `i` of a page as an event, at its catalogue class. -/
def raiseEvent (s : State) (p i : Nat) : State :=
  raiseFault s { page := p, bit := i, cls := (causeClass p i).getD 1 }

/-- Raise cause bit 16 + `i` of a page as a condition that holds on until its end is registered. -/
def raiseHeld (s : State) (p i : Nat) : State :=
  raiseFault s { page := p, bit := i, cls := (causeClass p i).getD 1, holds := true }

/-- Put class action `n` of a page in force for the causes that stand at it (R386). -/
def applyClass (s : State) (p n : Nat) : State :=
  (takeAction s p n).each ((List.range 16).filter (fun i => s.get (Flt.STAND p i) == n))
    (fun s i => actionEffect s p n i (causeClass p i != some n))

/-- What the withdrawal of class action `n` ends in a page, where `acted` says that it was in force (R389, R390). -/
def withdrawEffect (s : State) (p n : Nat) (acted : Bool) : State :=
  match pageKind p with
  | some 0x20 =>
    (s.on (n == 4) (·.put (Ph.FWT (p - 0x20)) 0)).on (n == 2 && acted && !degraded s (p - 0x20))
      (fun s => rejoinPlan s (phaseOf p))
  | some 0x30 =>
    let port := p - 0x30
    if portKind port = 4 then
      let s1 := s.on (n == 4) (fun s => pdStartAgain s (port / 12))
      s1.on (n == 2 && pdWantsVbus s1 (port / 12)) (fun s => pdClose s (port / 12))
    else s.on (3 ≤ n) (·.put (Port.HOT_ACT port) 0)
  | some 0x60 =>
    let c := p - 0x60
    let s1 := s.on (n == 3 && s.flag (Pd.SINK_ONLY c)) (fun s => (s.put (Pd.SINK_ONLY c) 0).on
      (s.get (PDP_STAT.CC_STATE c) == 1 || s.get (PDP_STAT.CC_STATE c) == 2) (fun s => pdUnattached s c))
    s1.on (n == 4) (fun s => pdStartAgain (s.put (Pd.CC_OFF c) 0) c)
  | some 0x68 => s.on (n == 2 || n == 3) builtinReview
  | some 0x80 => s.on (3 ≤ n) (fun s => s.each (List.range 16) zoneReview)
  | _ => s

/-- Class `n` of a page clears (R389). -/
def clearClass (s : State) (p n : Nat) : State :=
  let gone := (List.range 16).filter (fun i => s.get (Flt.STAND p i) == n)
  let s1 := s.each gone (fun s i =>
    ((s.put (Flt.STAND p i) 0).putBit (Flt.INJ p) i false).clrF (PAGE_FLT_STAT.CAUSE p) (1 <<< i))
  let b := n - 1
  let s2 := ((s1.putBit (PAGE_FLT_STAT.ACTIVE p) b false).putBit (PAGE_FLT_STAT.ACTED p) b false).putBit
    (PAGE_FLT_STAT.ACKED p) b false
  let s3 := ((s2.putBit (Flt.UNACK p) b false).putBit (Flt.TIMER p) b false).putBit (Flt.QUIET p) b false
  let s4 := s3.inc (PAGE_FLT_CNT.RECOV p)
  errUpdate (logFault (withdrawEffect s4 p n (classActed s p n)) p 0xFF n 4) p

/-- Acknowledge class `n` of a page, where it is active (R387). -/
def ackClass (s : State) (p n : Nat) : State :=
  if classActive s p n then
    let b := n - 1
    logFault (((s.putBit (PAGE_FLT_STAT.ACKED p) b true).putBit (Flt.TIMER p) b false).putBit
      (Flt.UNACK p) b false) p 0xFF n 3
  else s

/-! ### What PD duty requires (R287) -/

/-- What duty requires (R287). -/
def dutyPossible (s : State) (c : Nat) : Bool :=
  let p := 4 * c + pdPhase s c
  s.flag (CMB_CTL.EN c) && s.flag (PH_CTL.RUN p) && !degraded s p
    && !phActionHold s p && s.get (PH_CTL.HOLD p) == 1

/-- While duty is requested or on, a requirement that is missing is the condition of DUTY_FAIL (R287, R306). -/
def dutyReview (s : State) (c : Nat) : State :=
  if (s.flag (Pd.REQ c) || s.flag (PDP_STAT.DUTY c)) && !dutyPossible s c then raiseHeld s (0x60 + c) 3
  else causeEnds s (0x60 + c) 3

/-! ### The commands -/

/-- The write of `PAGE_FLT_ACK` (R387). It is exempt from `PAGE_LOCK.CFG` (R96). -/
def faultAckWrite (s : State) (k : Bool) (p w : Nat) : Res :=
  specialWrite s k p 0x020 w true (fun s w' => s.each (bitsOf 4 w') (fun s b => ackClass s p (b + 1)))

/-- A Keeper write to `PAGE_FLT_ACK` acknowledges each active class written 1 (R387). -/
def execFaultAck (a : Access) (page : BitVec 8) (w : BitVec 32) (s : State) : Out :=
  .next (regOp s a (fun s k => pageWrite s page.toNat (fun s => faultAckWrite s k page.toNat w.toNat)))

/-- The reaction timer of class `n` of a page expires (R386). -/
def timerExpires (s : State) (p n : Nat) : State :=
  if s.bit (Flt.TIMER p) (n - 1) then
    (applyClass (s.putBit (Flt.TIMER p) (n - 1) false) p n)
  else s

/-- A reaction timer expires with its class unacknowledged, and the class action is applied (R386). -/
def execReactionTimer (page : BitVec 8) (cls : Fin 4) (s : State) : Out :=
  .next (timerExpires s page.toNat (cls + 1))

/-- A quiet period runs out: the class clears (R389). -/
def quietEnds (s : State) (p n : Nat) : State :=
  if s.bit (Flt.QUIET p) (n - 1) && classActive s p n then clearClass s p n else s

/-- Lamp ball `m` has sunk above 40 mA for 10 µs: it is released for 1 s, its OC bit and EVT bit 2 are set
and LAMP_OC is raised (R398, R399). -/
def execLampOc (m : Fin 8) (s : State) : Out :=
  .next (raiseEvent (((s.put (Pin.LAMP m) 1).orF PINS_LAMP_STAT.OC (1 <<< m.val)).evt 0x0C 2) 0x0C 0)

/-- One second later the lamp is driven again; the overload itself ended with the release (R398). -/
def execLampOcReleaseEnd (m : Fin 8) (s : State) : Out := .next (s.put (Pin.LAMP m) 0)

end Sys2Proof.Machine
end

