-- ==== Sys2Proof/Machine/Tags.lean ====
section
/-! DEFINITION. What every block shares of chapter 14: the Propolis tag and its check (R346 to R356, R361),
and the SECDED word check of a block's read (R357, R358). -/

namespace Sys2Proof.Machine

/-! ### The tag -/

/-- The residue of a value (R347). -/
def residue (v : Int) : Nat := (v % 8191).toNat

/-- The tag of a value of an origin class (R346). -/
def tagOf (cls : Nat) (v : Int) : Nat := cls * 0x2000 + residue v

/-- A tag error is registered in the TAG page: more than TH within one second raise TAG_BURST (R356). -/
def tagBurst (s : State) : State :=
  let s1 := s.inc Tag.SEC
  s1.on (s1.get Tag.SEC == s1.get TAG_CFG.TH + 1) (fun s => raiseEvent s 0xA2 0)

/-- A consumer in a page discards a value whose residue does not match (R352, R356). -/
def tagError (s : State) (page tag : Nat) : State :=
  let rise := !s.flag (PAGE_TAG_ERR.FLAG page)
  let s1 := ((s.put (PAGE_TAG_ERR.FLAG page) 1).put (PAGE_TAG_ERR.ORIGIN page) (tag / 0x2000)).inc
    (PAGE_TAG_ERR.COUNT page)
  tagBurst (s1.on rise (fun s => (s.inc TAG_TOTAL.TOTAL).evt 0xA2 0))

/-- The checker of a consuming page: whether the value passes, and the state after an armed injection, the
error flag and its counts (R352, R361). Nothing is checked while TAG_CHK is 0. -/
def tagCheck (s : State) (page : Nat) (v : Int) (tag : BitVec 16) : Bool × State :=
  if !s.flag (PAGE_CTL.TAG_CHK page) then (true, s)
  else
    let fires := s.flag TAG_INJ.ARM && !s.flag TAG_INJ.PATH_SEL && s.get TAG_INJ.PAGE == page
    let t := if fires then tag.toNat ^^^ s.get TAG_INJ.MASK else tag.toNat
    let s1 := s.on fires (fun s => (s.put TAG_INJ.ARM 0).evt 0xA2 1)
    if t % 0x2000 = residue v ∧ tag.toNat % 0x2000 = residue v then (true, s1) else (false, tagError s1 page tag.toNat)

/-- The page checks a tagged value and acts on it where it passes. -/
def onTagged (s : State) (page : Nat) (x : Tagged) (g : State → State) : State :=
  match tagCheck s page x.val x.tag with
  | (true, s1) => g s1
  | (false, s1) => s1

/-! ### SECDED (R357 to R360) -/

/-- The cause that an uncorrectable word records: its page and bit less 16 (R358). -/
def eccCause (w : Nat) : Nat × Nat :=
  if 0x200000 ≤ w then (0xA0, 2)
  else if 8 * w < 0x600000 then (0xA0, 1)
  else if 8 * w < 0x6F1000 then (0xA1, 1)
  else if 8 * w < 0x6F2000 then (0xA1, 2)
  else (0xA1, 3)

/-- The memory page, the RET bit and the ADDR field that name a word (R365). -/
def eccAddr (w : Nat) : Nat × Nat × Nat :=
  if 0x200000 ≤ w then (0, 1, 8 * (w - 0x200000)) else (memOf (8 * w), 0, 8 * w)

/-- A 64-bit word of the retention SRAM. -/
def retDouble (s : State) (w : Nat) : Nat := s.retWord (8 * w) + 4294967296 * s.retWord (8 * w + 4)

/-- The window address of the shadow of retention word `w` (R64). -/
def shadowAddr (w : Nat) : Nat := 0x6F1000 + 8 * w

/-- An uncorrectable word of the retention shadow is rewritten from the retention SRAM (R358). -/
def shadowMend (s : State) (w : Nat) : State :=
  s.on (decide (0xDE200 ≤ w) && decide (w < 0xDE400)) (fun s => s.setDouble (8 * w) (retDouble s (w - 0xDE200)))

/-- One read of a 64-bit word: a correction writes SRAM and retention SRAM back, an uncorrectable word is
poisoned and its cause is recorded; one of the retention shadow is rewritten (R358). -/
def eccRead (s : State) (w : Nat) : State :=
  let (n, ret, a) := eccAddr w
  match eccState s w with
  | 0 => s
  | 1 =>
    let s1 := ((((s.inc (MEM_CNT.CE n)).put (MEM_CE_ADDR.RET n) ret).put (MEM_CE_ADDR.ADDR n) a).evt
      (0xA0 + n) 0)
    s1.on (n == 0) (fun s => { s with ecc := Sparse.set 0 s.ecc w 0 })
  | _ =>
    let m := Sparse.look 0 s.ecc w
    let s1 := (({ s with ecc := Sparse.set 0 s.ecc w (m ||| 256) }.inc (MEM_CNT.UE n)).put
      (MEM_UE_ADDR.RET n) ret).put (MEM_UE_ADDR.ADDR n) a
    shadowMend (raiseEvent (s1.evt (0xA0 + n) 1) (eccCause w).1 (eccCause w).2) w

/-- A block reads the words of a byte range. -/
def blockRead (s : State) (a len : Nat) : State :=
  s.each ((s.ecc.map (·.1)).filter (fun w => a / 8 ≤ w && 8 * w < a + len)) eccRead

end Sys2Proof.Machine
end

