-- ==== Sys2Proof/Machine/Tables.lean ====
section
/-! DEFINITION. The FET model of a port: its table, the parameters held and its steps (R274, R275). -/

namespace Sys2Proof.Machine

/-! ### The end of a live-maintenance command (R474) -/

/-- A command ends with its RESULT and EVT bit 0 (R474). -/
def maintEnd (s : State) (result : Nat) : State :=
  let s1 := ((s.put MAINT_STAT.BUSY 0).put MAINT_STAT.RESULT result).put MAINT_STAT.WHY 0
  ((s1.put MAINT_STAT.OP (s.get Mnt.OP)).put MAINT_STAT.ARG (s.get Mnt.ARG)).evt 0xB0 0

/-- A restore that cannot complete: RESTORE_FAIL, and the channel stays drained (R483). -/
def restoreFails (s : State) : State := raiseEvent (maintEnd s 3) 0xB0 1

/-- Converter `x` is set aside or back: its bit in `MAINT_CONV` and EVT bit 1 (R474, R482). -/
def convMark (s : State) (x : Nat) (out : Bool) : State := (s.putBit MAINT_CONV.OUT x out).evt 0xB0 1

/-! ### The FET model of a port (R274, R275) -/

/-- The FET-model table at `a` is valid (R274) (DEDUCED, log entry 32). -/
def fetValid (s : State) (a : Nat) : Bool :=
  let n := s.leNat (a + 6) 2
  headerOk s a 0x0005 0x0040 && (1 ≤ n && n ≤ 3) && s.leNat (a + 8) 4 != 0
    && (List.range n).all (fun i => s.leNat (a + 0x18 + 8 * i) 4 != 0
      && (1 ≤ s.leNat (a + 0x1C + 8 * i) 4 && s.leNat (a + 0x1C + 8 * i) 4 ≤ 10000000))

/-- The parameters that a port island holds, in the order of the table: NSTAGE, R_SHUNT, RDS_ON, RDS_TC,
E_SW, then RTH and TAU of each stage (R274, R275). -/
def fetFields (s : State) (a : Nat) : List Nat :=
  [s.leNat (a + 6) 2, s.leNat (a + 8) 4, s.leNat (a + 0xC) 4, s.leNat (a + 0x10) 2, s.leNat (a + 0x12) 2,
    s.leNat (a + 0x18) 4, s.leNat (a + 0x1C) 4, s.leNat (a + 0x20) 4, s.leNat (a + 0x24) 4,
    s.leNat (a + 0x28) 4, s.leNat (a + 0x2C) 4]

/-- The FET model that `PORT_TM.MODEL` selects in the active bank, where it is valid. -/
def fetTable (s : State) (n : Nat) : Option Nat :=
  (findTable s 0x0005 (s.get (PORT_TM.MODEL n))).filter (fetValid s)

/-- The port island takes the parameters of its table and keeps dT[i]; an invalid table leaves the port
with TM_MODEL present (R274). -/
def fetLoad (s : State) (n : Nat) : State :=
  match fetTable s n with
  | some a =>
    let s1 := s.each (List.range 11) (fun s' i => s'.put (Port.PAR n i) ((fetFields s a)[i]?.getD 0))
    causeEnds (s1.put (Port.PAR_OK n) 1) (0x30 + n) 8
  | none => raiseHeld (s.put (Port.PAR_OK n) 0) (0x30 + n) 8

/-- The sum of the stage excesses of a port in units of 0.1 K, rounded towards minus infinity. -/
def fetExcess (s : State) (n : Nat) : Int :=
  ((List.range (min 3 (s.get (Port.PAR n 0)))).foldl (fun a i => a + s.int (Port.DT n i)) 0).fdiv 100000

/-- The current that stands in for a stale port current: the one at which the limit amplifier acts (R275),
in amperes as a ratio of millivolts halves over micro-ohms, LSB 10 mA. -/
def limitCurrent (s : State) (n : Nat) : Int :=
  let shunt := max 1 (s.get (Port.PAR n 1))
  if portKind n = 4 then
    let c := n / 12
    (pdLimit s c + 5 * s.get (PORT_PD_PROT.OC_MARGIN c) : Nat)
  else ((max 1 (s.get (PORT_OC.LIM n)) * 500 * 100 / shunt : Nat) : Int)

/-- The voltage across the switch, LSB 10 mV (R274): VSYS less Pnn_VS for a feeder, the two voltages of the
pair for a source or battery port. -/
def acrossVolts (s : State) (n : Nat) : Int :=
  if portKind n = 2 then ((s.get (Port.VS n) : Int) - s.get (Port.BUSV n))
  else ((s.get (Port.BUSV n) : Int) - s.get (Port.VS n))

/-- The dissipation of one model step in milliwatts (R274): the current in units of 10 mA, the voltage in
units of 10 mV, and a stale input by its hot-erring stand-in, the voltage while the limit amplifier regulates (R275). The
model of a tripped port goes on without dissipation (R273). Divisions round towards minus infinity. -/
def fetPower (s : State) (n : Nat) : Int :=
  let i : Int := if s.flag (Port.STALE n 0) then limitCurrent s n else s.int (Port.I n)
  let tfet := if s.flag (PORT_FET_T.DIODE n) then s.int (Port.AMB n) + fetExcess s n else s.int (PORT_FET_T.T_FET n)
  let full := if portKind n = 4 then s.flag (PDP_STAT.SW_ON (n / 12)) else s.flag (PORT_STAT.GATE_FULL n)
  let ron : Int := s.get (Port.PAR n 2)
  let rds := ron + (ron * toSigned 16 (s.get (Port.PAR n 3)) * (tfet - 250)).fdiv 10000000
  let vds : Int :=
    if s.flag (Port.STALE n 1) && (portKind n == 4 || [6, 9].contains (s.get (PORT_STAT.STATE n))) then
      (if portKind n = 4 then max (2 * (vbusTgt s (n / 12) : Int)) 550
        else s.get (PORT_WIN.OV n))
    else acrossVolts s n
  let p := if full then (i * i * rds).fdiv 10000000 else ((vds.natAbs * i.natAbs : Nat) : Int).fdiv 10
  if portKind n ≠ 4 ∧ s.get (PORT_STAT.STATE n) = 8 then 0 else p + s.get (Port.PAR n 4) * s.get (Port.TRANS n) * 10

/-- One 100 µs step of the model: the stage excesses, then T_FET, or the diode's reading where a remote
diode is in use and valid (R274, R275). -/
def fetStep (s : State) (n : Nat) : State :=
  let p := fetPower s n
  let s1 := s.each (List.range (min 3 (s.get (Port.PAR n 0)))) (fun s' i =>
    let d := s.int (Port.DT n i)
    s'.putI (Port.DT n i) (d + (p * s.get (Port.PAR n (5 + 2 * i)) - d).fdiv
      (s.get (Port.PAR n (6 + 2 * i)))))
  let useDiode := s.flag (PORT_CTL.TD_USE n) && portKind n != 4 && s.flag (Port.DIODE_OK n)
    && !s.flag (Port.STALE n 3)
  let s2 := (s1.put (Port.TRANS n) 0).putB (PORT_FET_T.DIODE n) useDiode
  if useDiode then s2.putI (PORT_FET_T.T_FET n) (s.int (Port.DIODE_T n))
  else s2.putI (PORT_FET_T.T_FET n) (s.int (Port.AMB n) + fetExcess s1 n)

end Sys2Proof.Machine
end

