-- ==== Sys2Proof/Machine/Ports.lean ====
section
/-! DEFINITION. Port islands of sources, batteries and feeders (chapter 11): windows, presence, the start and
the turn-off, limits, trips, the retry timer and the FET model. -/

namespace Sys2Proof.Machine

/-! ### Conditions (R263, R276 to R279, R481) -/

/-- The port's clock is lost or the port is held, so that commands to it wait (R27, R481). -/
def portStalled (s : State) (n : Nat) : Bool := portClockLost s n || s.flag (Port.HELD n)

/-- The local number of a feeder in its comb (R189). -/
def localFeeder (n : Nat) : Nat := n % 12 - 4

/-- The feeder's bit of `CMB_SHED_STAT.SHED` (R190). -/
def isShed (s : State) (n : Nat) : Bool := s.bit (CMB_SHED_STAT.SHED (n / 12)) (localFeeder n)

/-- What every kind needs to turn on: enabled, not latched, no unlatched class action (that of OVP or FET_HOT) or thermal
shutdown, a valid model, and its comb released (R263, R274, R276, R277, R279, R280, R375). -/
def portFree (s : State) (n : Nat) : Bool :=
  s.flag (PORT_CTL.EN n) && s.get (PORT_STAT.STATE n) != 8 && !s.flag (Port.PULLED n)
    && !s.flag (Port.HOT n) && !s.flag (Port.HOT_ACT n) && !dieShutdown s && s.flag (Port.PAR_OK n) && combLive s (n / 12) && !absent s (0x30 + n)

/-- The engine of a battery port, or the lead that it follows, permits current into its string (R217, R278). -/
def chargePermitted (s : State) (n : Nat) : Bool :=
  let own := 2 * (n / 12) + (n % 12 - 2)
  let e := (engineLead s own).getD own
  s.get (CHG_SETPT.I_EFF e) != 0 && s.get (CHG_STAT.STATE e) != 62 && s.get (CHG_STAT.STATE e) != 63
    && s.get (Flt.STAND (0x88 + e) 2) == 0

/-- Conditions 1 to 3 and 5 to 9 of R263 for a feeder; those of R276 and R277 for a pair. No turn-on begins under
the C2 action of the port's page (R390). -/
def portReady (s : State) (n : Nat) : Bool :=
  portFree s n && (s.get (PORT_STAT.STATE n) == 3 || !ownActed s (0x30 + n)) && match portKind n with
  | 3 => (!s.flag (PORT_CTL.PRES_USE n) || s.flag (PORT_STAT.PRES n)) && s.flag (PORT_STAT.WIN n)
      && !isShed s n && (!inSafeBoot s || s.flag (PORT_CTL.SAFE n))
  | 1 => s.flag (Port.CMD n)
  | 2 => s.flag (Port.CMD n) && s.flag (PORT_STAT.WIN n) && (!s.flag (Port.REV_OPEN n)
      || decide (s.get (Port.BUSV n) < s.get (Port.VS n)) || chargePermitted s n)
  | _ => false

/-- The voltage across the main switch that pre-charge compares (R265), LSB 10 mV. -/
def preVolts (s : State) (n : Nat) : Int :=
  match portKind n with
  | 3 => (s.get (Port.BUSV n) : Int) - s.get (Port.VS n)
  | _ => ((s.get (Port.VS n) : Int) - s.get (Port.BUSV n)).natAbs

/-- Pre-charge runs (R265). -/
def preNeeded (s : State) (n : Nat) : Bool := decide (10 * (s.get (PORT_PCG.PCG_DV n) : Int) < preVolts s n)

/-! ### Scheduling a feeder (R264, R268) -/

/-- ANT_LEAD in microseconds. -/
def antLead (s : State) (n : Nat) : Nat := 10 * max 1 (s.get (PORT_CTL.ANT_LEAD n))

/-- The insertion delay that remains, in microseconds. -/
def insLeft (s : State) (n : Nat) : Nat :=
  if s.flag (PORT_STAT.INS_DONE n) then 0
  else 10000 * s.get (PORT_TMR.INS_DLY n) - 1000 * s.get (Port.INS_T n)

/-- Send FEEDER_MAIN with a start in microseconds (R268). -/
def sendMain (s : State) (n start : Nat) : State :=
  (sendRecord s (n / 12) (recordWord 2 n 0 0 0 (s.get (PORT_LOAD.I_MAIN n)) 0 start)).put (Port.MAIN n) 1

/-- The feeder schedules its start: FEEDER_PRE where pre-charge will run, then FEEDER_MAIN (R268). -/
def schedule (s : State) (n : Nat) : State :=
  let start := max (insLeft s n) (antLead s n)
  if preNeeded s n then
    let amp := (10 * preVolts s n).fdiv (max 1 (s.get (PORT_PCG.R_PRE n)) : Nat)
    let time := min 255 (s.get (PORT_LOAD.PCG_T n) * 100 / 4)
    let s1 := sendRecord s (n / 12) (recordWord 1 n 2 0 0 amp time start)
    sendMain (s1.put (Port.PCG n) 1) n (start + 1000 * s.get (PORT_LOAD.PCG_T n))
  else sendMain (s.put (Port.PCG n) 0) n start

/-- The pre-charge gate turns on (R265). -/
def startPre (s : State) (n : Nat) : State :=
  portState (((s.put (Port.PCG_DONE n) 0).put (Port.PCG_OVER n) 0).put (Port.REV_OPEN n) 0) n 3

/-- The main gate is driven (R266). -/
def startEnhance (s : State) (n : Nat) : State :=
  portState ((((s.put (Port.MAIN n) 0).put (PORT_STAT.GATE_OFF n) 0).put (Port.FALL n) 0).put (Port.REV_OPEN n) 0) n 4

/-- A feeder's conditions have changed (R262, R263, R268). -/
def feederReview (s : State) (n : Nat) : State :=
  match s.get (PORT_STAT.STATE n) with
  | 0 => if s.flag (PORT_CTL.EN n) then
      let s1 := portState s n 1
      if portReady s1 n then (schedule s1 n).on (s1.flag (PORT_STAT.INS_DONE n)) (fun s => portState s n 2)
      else s1
    else s
  | 1 => if portReady s n then
      (if s.flag (Port.MAIN n) then s else schedule s n).on (s.flag (PORT_STAT.INS_DONE n))
        (fun s => portState s n 2)
    else portCancel s n
  | 2 => if portReady s n then s else portState (portCancel s n) n 1
  | 3 => if portReady s n then s else portState (portCancel s n) n 1
  | _ => s

/-- A pair's conditions have changed: a command starts it at once (R276, R277). -/
def pairReview (s : State) (n : Nat) : State :=
  match s.get (PORT_STAT.STATE n) with
  | 0 => if s.flag (PORT_CTL.EN n) && s.flag (Port.CMD n) then
      let s1 := portState s n 1
      if portReady s1 n then (if preNeeded s1 n then startPre s1 n else startEnhance s1 n) else s1
    else s
  | 1 => if portReady s n then (if preNeeded s n then startPre s n else startEnhance s n)
    else portOff s n
  | 3 => if portReady s n then s else portOff s n
  | _ => s

/-- The port judges its conditions again; nothing begins while commands to it wait (DEDUCED, log entry 32). -/
def portReview (s : State) (n : Nat) : State :=
  if portStalled s n || absent s (0x30 + n) || s.flag (Port.SLEPT n) then s
  else match portKind n with
  | 3 => feederReview s n
  | 4 => s
  | _ => pairReview s n

/-- The insertion delay restarts from zero (R264). -/
def insRestart (s : State) (n : Nat) : State :=
  if portKind n = 3 then (s.put (Port.INS_T n) 0).put (PORT_STAT.INS_DONE n) 0 else s

/-! ### Turning off (R269) -/

/-- A commanded turn-off of a feeder: FEEDER_OFF and TURN_OFF, or a CANCEL before enhancement (R268, R269). -/
def feederTurnOff (s : State) (n : Nat) : State :=
  let st := s.get (PORT_STAT.STATE n)
  if st = 4 ∨ st = 5 ∨ st = 6 then
    let s1 := sendRecord s (n / 12) (recordWord 3 n 0 0 0 (-(s.int (Port.I n))) 0 (antLead s n))
    portState (portPg (s1.put (Port.FT n) 0) n false) n 7
  else if st = 7 ∨ st = 8 then s
  else portOff s n

/-- A port is commanded off: a feeder by R269, a pair by a gate pull-down at once (R276, R277). -/
def portTurnOff (s : State) (n : Nat) : State :=
  if portKind n = 3 then feederTurnOff s n else portOff s n

/-! ### Latch and enable (R264, R272) -/

/-- The latch of a trip ends (R272). -/
def latchEnd (s : State) (n : Nat) : State :=
  if s.get (PORT_STAT.STATE n) = 8 then
    let s1 := portState (insRestart (s.put (PORT_STAT.TOGGLED n) 0) n) n 0
    portReview s1 n
  else s

/-- EN = 1 reaches the island (R264, R272). -/
def enableSeen (s0 : State) (n : Nat) : State :=
  let s := s0.put (Port.SLEPT n) 0
  if s.get (PORT_STAT.STATE n) = 8 then
    if s.flag (Port.OFFSEEN n) then
      let s1 := (s.put (PORT_STAT.TOGGLED n) 1).put (Port.OFFSEEN n) 0
      if s.flag (PORT_STAT.RETRY_RUN n) then s1 else latchEnd s1 n
    else s
  else portReview (insRestart s n) n

/-- EN = 0 reaches the island (R269, R272). -/
def disableSeen (s : State) (n : Nat) : State :=
  if s.get (PORT_STAT.STATE n) = 8 then s.put (Port.OFFSEEN n) 1 else portTurnOff s n

/-- The fields of a port register that PORT_HOLD stages: its KRW fields (R481). -/
def storeKind (s : State) (w : Nat) (l : Layout) (krw : Bool) : State :=
  l.foldl (fun s q => if (q.2 = .krw) = krw then storeField s w q.1 q.2 else s) s

/-- The write of a port register; a held port stages the Keeper-view writes to its KRW fields (R9, R481). -/
def portRegWrite (s : State) (k : Bool) (p off w : Nat) : State :=
  let l := regLayout p off
  let n := p - 0x30
  if h : n < 48 then
    if s.flag (Port.HELD n) && k && !s.flag (PAGE_LOCK.CFG p) && l.any (fun q => q.2 == .krw) then
      let s1 := storeKind s w l false
      { s1 with staged := s1.staged.set n (s1.staged[n] ++ [(off, w)]) }
    else storeFields s w l
  else s

/-- EN has changed under a write: the island follows, or the change waits (R27, R264, R269). -/
def enChanged (s : State) (n : Nat) (was : Bool) : State :=
  if s.flag (PORT_CTL.EN n) = was then s
  else if portStalled s n then s.put (Port.EN_PEND n) (if was then 2 else 3)
  else if was then disableSeen s n else enableSeen s n

/-- The write of `PORT_CTL` of a source, battery or feeder (R264, R269, R272). -/
def portCtlWrite (s : State) (k : Bool) (n : Nat) (w : Nat) : Res :=
  specialWrite s k (0x30 + n) 0x040 w false (fun s w' =>
    let s1 := portRegWrite s k (0x30 + n) 0x040 w'
    if portKind n = 4 then s1 else enChanged s1 n (s.flag (PORT_CTL.EN n)))

/-- A write of `PORT_CTL.EN` = 1 (R264). -/
def execPortEnable (a : Access) (n : Fin 48) (w : BitVec 32) (s : State) : Out :=
  .next (regOp s a (fun s k => portCtlWrite s k n w.toNat))

/-- A write of `PORT_CTL.EN` = 0 (R269). -/
def execCommandedTurnOff (a : Access) (n : Fin 48) (w : BitVec 32) (s : State) : Out :=
  .next (regOp s a (fun s k => portCtlWrite s k n w.toNat))

/-- The model of a port is selected: its parameters are loaded (R274). A change that keeps the sum of the
stage excesses divides it in proportion to RTH (R481). -/
def modelKeep (s : State) (n : Nat) : State :=
  let sum := (List.range 3).foldl (fun a i => a + s.int (Port.DT n i)) 0
  let s1 := fetLoad s n
  let k := min 3 (s1.get (Port.PAR n 0))
  let rth : Int := ((List.range k).foldl (fun a i => a + s1.get (Port.PAR n (5 + 2 * i))) 0 : Nat)
  if s1.flag (Port.PAR_OK n) then
    s1.each (List.range 3) (fun s' i => s'.putI (Port.DT n i)
      (if i < k then fdivOpen (sum * s1.get (Port.PAR n (5 + 2 * i))) rth else 0))
  else s1

/-- The write of `PORT_TM`: a new MODEL loads its parameters (R274, R481). -/
def portTmWrite (s : State) (k : Bool) (n : Nat) (w : Nat) : Res :=
  specialWrite s k (0x30 + n) 0x06C w false (fun s w' =>
    let s1 := portRegWrite s k (0x30 + n) 0x06C w'
    s1.on (s1.get (PORT_TM.MODEL n) != s.get (PORT_TM.MODEL n)) (fun s => portReview (fetLoad s n) n))

/-- What waited while the port's clock was lost or the port was held takes effect (R27, R481). -/
def portResume (s : State) (n : Nat) : State :=
  if portStalled s n then s
  else
    let s1 := s.put (Port.EN_PEND n) 0
    let s2 := match s.get (Port.EN_PEND n) with
      | 2 => disableSeen s1 n
      | 3 => enableSeen s1 n
      | _ => s1
    let s3 := s2.on ((portKind n == 1 || portKind n == 2) && !s2.flag (Port.CMD n)
      && s2.get (PORT_STAT.STATE n) != 8) (fun s => portOff s n)
    portReview s3 n

/-! ### Windows, over-voltage and presence (R259 to R261) -/

/-- The window is reported inside or outside; every change sets EVT bit 7 (R259, R281). -/
def setWindow (s : State) (n : Nat) (inside : Bool) : State :=
  if s.flag (PORT_STAT.WIN n) = inside then s
  else (s.putB (PORT_STAT.WIN n) inside).evt (0x30 + n) 7

/-- A source port is reported outside its window: it is unqualified at once, and where its pair is on the gate
is pulled down and a CHANGEOVER record is launched (R182, R184, R259, R276). In hive-sleep, and until its comb is
released, a pair keeps its state and no changeover is made (R199). -/
def sourceOutside (s : State) (n : Nat) : State :=
  let c := n / 12
  let on := s.get (PORT_STAT.STATE n) == 4 || s.get (PORT_STAT.STATE n) == 5 || s.get (PORT_STAT.STATE n) == 6
  let s1 := (setWindow s n false).clrF (CMB_PP_STAT.QUALIFIED c) (1 <<< (n % 12))
  s1.on (on && combLive s c) (fun s => portOff (sendRecord s c (recordWord 5 n 0 0 0 (s.int (Port.I n))
    (s.get (CMB_CHGOVR.BREAK_EST c)) 0)) n)

/-- The port acts on its own events: clocked and present, and of a kind that has a window (R27, R53). -/
def portActs (s : State) (n : Nat) : Bool :=
  !portClockLost s n && !absent s (0x30 + n) && portKind n != 4

/-- The judged voltage has left the window (R259). -/
def execWindowOutside (n : Fin 48) (s : State) : Out :=
  .next (if !portActs s n then s
    else if portKind n = 1 then sourceOutside s n
    else portReview (setWindow s n false) n)

/-- The judged voltage has returned: an over-voltage pull-down ends, and the port may start again (R259, R260). A
source port in use without presence stays outside. -/
def execWindowInside (n : Fin 48) (s : State) : Out :=
  .next (if !portActs s n || (portKind n = 1 && s.flag (PORT_CTL.PRES_USE n) && !s.flag (PORT_STAT.PRES n))
      then s
    else portReview (causeEnds ((setWindow s n true).put (Port.PULLED n) 0) (0x30 + n) 2) n)

/-- The judged voltage stands above LEVEL: the gate is pulled down and OVP is recorded (R260). -/
def execOvp (n : Fin 48) (s : State) : Out :=
  .next (if !portActs s n || s.get (PORT_OVP.LEVEL n) == 0 then s
    else
      let s1 := s.on (portKind n == 1) (fun s => sourceOutside s n)
      raiseHeld (s1.put (Port.PULLED n) 1) (0x30 + n) 2)

/-- A change of presence is registered: EVT bit 3 and PRES_CHG; it wakes from hive-sleep (R261). -/
def presChange (s : State) (n : Nat) (on : Bool) : State :=
  wakeFires (((s.putB (PORT_STAT.PRES n) on).inc (PORT_CNT1.PRES_CHG n)).evt (0x30 + n) 3) 3

/-- Presence is asserted: a feeder's insertion delay restarts (R261, R264). -/
def execPresenceAsserted (n : Fin 48) (s : State) : Out :=
  .next (if !portActs s n || s.flag (PORT_STAT.PRES n) then s
    else
      let s1 := presChange s n true
      s1.on (s.flag (PORT_CTL.PRES_USE n) && portKind n == 3) (fun s => portReview (insRestart s n) n))

/-- A feeder whose presence is deasserted is pulled down at once with a FEEDER_OFF record, and waits (R261). -/
def feederPulled (s : State) (n : Nat) : State :=
  let st := s.get (PORT_STAT.STATE n)
  let s1 := s.on (st == 4 || st == 5 || st == 6 || st == 7) (fun s => sendRecord s (n / 12)
    (recordWord 3 n 0 0 0 (-(s.int (Port.I n))) 0 0))
  if st = 0 ∨ st = 8 then s1 else portState (portPullDown (portCancel s1 n) n) n
    (if s.flag (PORT_CTL.EN n) then 1 else 0)

/-- Presence is deasserted, with the effect of its kind (R261). -/
def execPresenceDeasserted (n : Fin 48) (s : State) : Out :=
  .next (if !portActs s n || !s.flag (PORT_STAT.PRES n) then s
    else
      let s1 := presChange s n false
      if !s.flag (PORT_CTL.PRES_USE n) then s1
      else match portKind n with
      | 1 => sourceOutside s1 n
      | 3 => if s.flag (Port.HELD n) then s1 else feederPulled s1 n
      | _ => s1)

/-! ### The start (R264 to R268) -/

/-- The insertion delay expires (R264). -/
def execInsDlyExpiry (n : Fin 48) (s : State) : Out :=
  .next (if !portActs s n || portKind n != 3 || s.flag (PORT_STAT.INS_DONE n)
      || (s.flag (PORT_CTL.PRES_USE n) && !s.flag (PORT_STAT.PRES n)) then s
    else portReview (s.put (PORT_STAT.INS_DONE n) 1) n)

/-- A turn-on of port `n` may go on: its comb is released and the device is not in hive-sleep (R279). -/
def turnsOn (s : State) (n : Nat) : Bool := portActs s n && combLive s (n / 12) && !s.flag (Port.HELD n)

/-- The START of FEEDER_PRE: the pre-charge gate turns on (R268). -/
def execPrechargeStart (n : Fin 48) (s : State) : Out :=
  .next (if turnsOn s n && portKind n == 3 && s.get (PORT_STAT.STATE n) == 2
      && s.flag (Port.PCG n) then startPre s n
    else s)

/-- The START of FEEDER_MAIN: enhancement, or a CANCEL while pre-charge still runs (R268). -/
def enhanceStart (s : State) (n : Nat) : State :=
  if s.get (PORT_STAT.STATE n) = 2 ∧ !s.flag (Port.PCG n) then startEnhance s n
  else if s.get (PORT_STAT.STATE n) = 3 ∧ s.flag (Port.MAIN n) then
    if s.flag (Port.PCG_DONE n) then startEnhance s n else (portCancel s n).put (Port.PCG_OVER n) 1
  else s

/-- The START of FEEDER_MAIN passes (R268). -/
def execEnhancementStart (n : Fin 48) (s : State) : Out :=
  .next (if turnsOn s n && portKind n == 3 then enhanceStart s n else s)

/-- The voltage across the switch has fallen to PCG_DV: a pair enhances, a feeder waits for its START or sends
a new FEEDER_MAIN where that has passed (R265, R268). -/
def preEnd (s : State) (n : Nat) : State :=
  if s.get (PORT_STAT.STATE n) ≠ 3 ∨ s.flag (Port.PCG_DONE n) then s
  else
    let s1 := s.put (Port.PCG_DONE n) 1
    if portKind n ≠ 3 then s1.on (combLive s (n / 12)) (fun s => startEnhance s n)
    else s1.on (s.flag (Port.PCG_OVER n)) (fun s => sendMain (s.put (Port.PCG_OVER n) 0) n (antLead s n))

/-- Pre-charge ends (R265). -/
def execPrechargeEnd (n : Fin 48) (s : State) : Out := .next (if portActs s n then preEnd s n else s)

/-- Pre-charge has not ended within PCG_MAX: the port is latched and PCG_FAIL recorded (R265). -/
def execPcgFail (n : Fin 48) (s : State) : Out :=
  .next (if portActs s n && s.get (PORT_STAT.STATE n) == 3 && !s.flag (Port.PCG_DONE n)
    then raiseEvent s (0x30 + n) 4 else s)

/-- V_GS reaches 10.0 V: ON, and a feeder's PG_DLY starts (R257, R262, R267). -/
def fullGate (s : State) (n : Nat) : State :=
  let s1 := ((s.put (PORT_STAT.GATE_FULL n) 1).put (PORT_STAT.GATE_OFF n) 0).inc (Port.TRANS n)
  portState (s1.on (portKind n == 3) (·.put (Port.PG_RUN n) 1)) n 5

/-- V_GS reaches 10.0 V (R257); the VBUS switch of a PD port is then on (R308, R310). -/
def execFullEnhancement (n : Fin 48) (s : State) : Out :=
  .next (if portKind n.val = 4 then
      (if s.get (PORT_PD_STAT.STATE (n.val / 12)) = 1 ∧ !portClockLost s n then
        pdSwitch (s.inc (Port.TRANS n)) (n.val / 12) 2 else s)
    else if portActs s n && s.get (PORT_STAT.STATE n) == 4 then fullGate s n else s)

/-- Full enhancement has not been reached within GRISE (R266). -/
def execGateRise (n : Fin 48) (s : State) : Out :=
  .next (if portActs s n && s.get (PORT_STAT.STATE n) == 4 then raiseEvent s (0x30 + n) 3 else s)

/-- PG_DLY has passed with the gate full and the amplifier inactive (R267). -/
def execPgAssert (n : Fin 48) (s : State) : Out :=
  .next (if portActs s n && portKind n == 3 && s.get (PORT_STAT.STATE n) == 5 && s.flag (Port.PG_RUN n)
    then portPg s n true else s)

/-- The START of FEEDER_OFF: the gate pull-down of a commanded turn-off (R269). -/
def execPullDownStart (n : Fin 48) (s : State) : Out :=
  .next (if portActs s n && s.get (PORT_STAT.STATE n) == 7 && !s.flag (Port.HELD n) then
      let s1 := portPullDown s n
      portReview (portState s1 n (if s.flag (PORT_CTL.EN n) then 1 else 0)) n
    else s)

/-- V_GS has not reached off within GFALL: GATE_FALL, or CHANGEOVER_FAIL for an arbiter's off command, after
which the comb continues on that port, commanded on again (R186, R269). -/
def execGateFall (n : Fin 48) (s : State) : Out :=
  .next (if !portActs s n || !s.flag (Port.FALL n) then s
    else
      let s1 := s.put (Port.FALL n) 0
      if portKind n = 1 ∧ s.flag (Port.OFF_CMD n) then
        let c := n.val / 12
        let s2 := (((s1.put (Port.OFF_CMD n) 0).put (Arb.CHG c) 0).put (CMB_PP_STAT.BREAK c) 0).put (Arb.STUCK c)
          (n.val % 12 + 1)
        raiseEvent (portReview ((s2.put (CMB_PP_STAT.ACTIVE c) (n.val % 12)).put (Port.CMD n) 1) n) (0x30 + n) 9
      else raiseEvent s1 (0x30 + n) 7)

/-! ### Limit, short circuit and retry (R270 to R273) -/

/-- The limit amplifier takes the gate out of full enhancement: LIMIT, and the fault timer starts (R270). -/
def execLimit (n : Fin 48) (s : State) : Out :=
  .next (if portActs s n && (s.get (PORT_STAT.STATE n) == 4 || s.get (PORT_STAT.STATE n) == 5) then
      let s1 := ((s.put (PORT_STAT.GATE_FULL n) 0).putB (Port.ENH n) (s.get (PORT_STAT.STATE n) == 4)).evt
        (0x30 + n) 5
      let s2 := portState ((portPg s1 n false).inc (PORT_CNT1.LIMITS n)) n 6
      (s2.on (s.flag (PORT_STAT.GATE_FULL n)) (·.inc (Port.TRANS n))).put (Port.FT n) 1
    else s)

/-- The amplifier releases the gate: it is at full enhancement again and the fault timer counts down; a start
that the amplifier had interrupted rises on (R266, R270, R278). -/
def execLimitRelease (n : Fin 48) (s : State) : Out :=
  .next (if !portActs s n then s
    else if s.get (PORT_STAT.STATE n) = 6 then
      if s.flag (Port.ENH n) then portState ((s.put (Port.FT n) 2).put (Port.ENH n) 0) n 4
      else (fullGate s n).put (Port.FT n) 2
    else if s.get (PORT_STAT.STATE n) = 9 then fullGate s n
    else s)

/-- The fault timer reaches FT (R270). -/
def execOcTrip (n : Fin 48) (s : State) : Out :=
  .next (if portActs s n && s.get (PORT_STAT.STATE n) == 6 && s.get (Port.FT n) == 1
    then raiseEvent s (0x30 + n) 1 else s)

/-- The shunt voltage crosses SC: the analog pull-down acts at once, and the port is latched on the next edge
of its clock; till then power-good and what the island reports are frozen (R27, R267, R271). -/
def execShort (n : Fin 48) (s : State) : Out :=
  .next (if absent s (0x30 + n) || portKind n.val == 4 then s
    else if portClockLost s n then s.put (Port.SHORT_PEND n) 1
    else raiseEvent s (0x30 + n) 0)

/-- The retry timer may expire: MIN has passed, and the model has fallen to T_OK with the ambient reference below it
(R273). -/
def retryOver (s : State) (n : Nat) : Bool :=
  let ok : Int := 10 * toSigned 8 (s.get (PORT_RETRY.T_OK n))
  decide (100 * max 1 (s.get (PORT_RETRY.MIN n)) ≤ s.get (PORT_RETRY_STAT.ELAPSED n)) && decide (s.int (Port.AMB n) < ok)
    && decide (s.int (Port.AMB n) + fetExcess s n ≤ ok)

/-- The retry timer expires; with TOGGLED = 1 the latch ends (R272, R273). -/
def execRetryDone (n : Fin 48) (s : State) : Out :=
  .next (if portActs s n && s.flag (PORT_STAT.RETRY_RUN n) && retryOver s n then
      let s1 := ((s.put (PORT_STAT.RETRY_RUN n) 0).put (PORT_RETRY_STAT.RUN n) 0).evt (0x30 + n) 4
      if s.flag (PORT_STAT.TOGGLED n) then latchEnd s1 n else s1
    else s)

/-! ### FET model (R274, R275) -/

/-- The port runs its model: clocked and present. -/
def modelRuns (s : State) (n : Nat) : Bool := !portClockLost s n && !absent s (0x30 + n)

/-- A model input has not been renewed for 100 µs (R275). -/
def execModelInputStale (n : Fin 48) (which : Fin 4) (s : State) : Out :=
  .next (if modelRuns s n then s.put (Port.STALE n which) 1 else s)

/-! ### Reverse current (R278) -/

/-- Current into a string that may not charge exceeds REV_TH: REV_HOLD; it does not run the fault timer, which counts down
where it had run up (R270, R278). -/
def execRevHold (n : Fin 48) (s : State) : Out :=
  .next (if portActs s n && portKind n.val == 2 && (s.get (PORT_STAT.STATE n) == 5 || s.get (PORT_STAT.STATE n) == 6)
      && !chargePermitted s n then
      let s1 := ((s.put (PORT_STAT.GATE_FULL n) 0).on (s.flag (PORT_STAT.GATE_FULL n)) (·.inc (Port.TRANS n))).on
        (s.get (Port.FT n) == 1) (·.put (Port.FT n) 2)
      (portState s1 n 9).evt (0x30 + n) 6
    else s)

/-- REV_HOLD lasts REV_T: the pair opens and REVERSE is recorded (R278). -/
def execReverse (n : Fin 48) (s : State) : Out :=
  .next (if portActs s n && s.get (PORT_STAT.STATE n) == 9 then
      raiseEvent (portState (portPullDown (s.put (Port.REV_OPEN n) 1) n) n 1) (0x30 + n) 13
    else s)

end Sys2Proof.Machine
end

