-- ==== Sys2Proof/Machine/Pd.lean ====
section
/-! DEFINITION. USB Power Delivery ports (chapter 12): connection, PD duty, VBUS transitions, messages, resets,
swaps, protection and detach. -/

namespace Sys2Proof.Machine

/-- The PD-port domain of comb `c` is clocked and the port is present (R27, R53, R284). -/
def pdActs (s : State) (c : Nat) : Bool := !s.flag (Clk.LOST (76 + c)) && !absent s (0x60 + c)

/-- Attached: as sink, as source or to an accessory. -/
def pdAttached (s : State) (c : Nat) : Bool :=
  s.get (PDP_STAT.CC_STATE c) == 5 || s.get (PDP_STAT.CC_STATE c) == 6 || s.get (PDP_STAT.CC_STATE c) == 8

/-! ### PD duty (R287, R288) -/

/-- The port requests duty; where a requirement is missing DUTY_FAIL is recorded (R287, R306). -/
def pdRequest (s : State) (c : Nat) : State :=
  if s.flag (PDP_STAT.DUTY c) then s else dutyReview (s.put (Pd.REQ c) 1) c

/-- The phase that the request has taken out of the pool has issued an entry with T_AH = 0 (R287). -/
def dutyIssued (s : State) (c : Fin 4) : Bool :=
  (combPhases c).any (fun p => s.flag (Ph.DUTY p) && s.get (PH_STAT.STATE p) == 1
    && s.exec[p].any (fun e => e.tAH == 0))

/-- The PD phase issues its first duty entry: EVT bit 13, the VBUS switch is commanded closed, and the reference ramps to
5.00 V, or stands at 4.90 V for an armed Fast Role Swap (R287, R291, R297, R301). -/
def dutyEntry (s : State) (c : Fin 4) : State :=
  if s.flag (Pd.REQ c) && dutyPossible s c && dutyIssued s c then
    let s1 := ((s.put (PDP_STAT.DUTY c) 1).put (Pd.REQ c) 0).evt (0x60 + c) 13
    let frs := s.get (PDP_STAT.CC_STATE c) == 5 && s.flag (PDP_CTL.FRS_ARM c) && !s.flag (Pd.SRCON c)
    let hr := s.get (Pd.HR c) == 1 || s.get (Pd.HR c) == 2
    let s2 := s1.on (!hr) (fun s => if frs then refAt s c 4900 else refRamp s c 5000)
    if s.flag (Port.PAR_OK (pdPort c)) then pdClose s2 c else s2
  else s

/-- The first duty entry is issued (R287). -/
def execDutyEntry (c : Fin 4) (s : State) : Out := .next (dutyEntry s c)

/-- The port wants duty, and closes its switch at once where the phase is in duty already (R287, R296, R297, R301). -/
def pdWantsDuty (s : State) (c ref : Nat) : State :=
  if s.flag (PDP_STAT.DUTY c) then
    (if ref = 4900 then refAt s c ref else refRamp s c ref).on (s.flag (Port.PAR_OK (pdPort c))) (fun s => pdClose s c)
  else pdRequest s c

/-- Attached as sink with FRS_ARM the port is in duty with its switch closed and the reference at 4.90 V; not in SAFE-BOOT,
where it only sinks (R70, R297). -/
def frsReview (s : State) (c : Nat) : State :=
  s.on (s.get (PDP_STAT.CC_STATE c) == 5 && s.flag (PDP_CTL.FRS_ARM c) && !s.flag (Pd.SRCON c) && !inSafeBoot s)
    (fun s => pdWantsDuty s c 4900)

/-- The VBUS switch is reported off. -/
def pdOff (s : State) (c : Nat) : Bool :=
  s.get (PORT_PD_STAT.STATE c) == 0 || s.get (PORT_PD_STAT.STATE c) == 4 || s.get (PORT_PD_STAT.STATE c) == 5

/-- The port releases the PD phase, which rejoins the pool at the next comb mark (R288); the phase that served is the one
that rejoins, also where PDPH was rewritten in duty (R17) (DESIGN CHOICE, log entry 66). -/
def pdRelease (s : State) (c : Nat) : State :=
  let cc := s.get (PDP_STAT.CC_STATE c)
  let free := cc == 5 || cc == 0 || cc == 7 || ((cc == 1 || cc == 2 || cc == 3 || cc == 4)
    && decide (s.get (Port.VS (pdPort c)) ≤ 80))
  if s.flag (PDP_STAT.DUTY c) && pdOff s c && !s.flag (PDP_CTL.FRS_ARM c) && free then
    (s.put (PDP_STAT.DUTY c) 0).evt (0x60 + c) 13
  else s

/-- The port releases the PD phase (R288). -/
def execPdRelease (c : Fin 4) (s : State) : Out := .next (pdRelease s c)

/-! ### Connection (R289 to R291, R303) -/

/-- The port may present itself as source: its ROLE, and neither sink-only nor SAFE-BOOT (R289, R304, R306). -/
def pdMaySource (s : State) (c : Nat) : Bool :=
  (s.get (PDP_CTL.ROLE c) == 1 || s.get (PDP_CTL.ROLE c) == 2) && !s.flag (Pd.SINK_ONLY c) && !inSafeBoot s

/-- VCONN is applied while it is commanded and the port is Attached.SRC, or attached as sink after a VCONN swap, which
a command of VCONN given there completes: `swap` (R289). -/
def pdVconn (s : State) (c : Nat) (swap : Bool) : State :=
  s.putB (Pd.VCONN c) (s.flag (PDP_CTL.VCONN c) && !s.flag (Pd.CC_OFF c)
    && (s.get (PDP_STAT.CC_STATE c) == 6 || (s.get (PDP_STAT.CC_STATE c) == 5 && (swap || s.flag (Pd.VCONN c)))))

/-- No message of a partner has been received yet (R294) (PRESUMED, log entry 34). -/
def msgIdsClear (s : State) (c : Nat) : State := s.each (List.range 3) (fun s i => s.put (Pd.MSGID c i) 0)

/-- The port is attached: `kind` 0 as sink, 1 as source, 2 to an accessory; `rp` what the partner's source presents. The
attach of a source wakes from hive-sleep (R285, R289, R304). -/
def attachDone (s : State) (c kind : Nat) (cc2 : Bool) (rp : Nat) : State :=
  let s1 := ((s.putB (PDP_STAT.ATTACH_ROLE c) (kind == 1)).putB (PDP_STAT.PWR_ROLE c) (kind == 1)).putB
    (PDP_STAT.POLARITY c) cc2
  let s2 := ((s1.put (PDP_STAT.CC_STATE c) (if kind = 0 then 5 else if kind = 1 then 6 else 8)).put
    (PDP_STAT.RP_SEEN c) (if kind = 0 then rp else 0)).evt (0x60 + c) 8
  let s3 := pdVconn (((s2.putB (Pd.RP c) (kind == 1)).putB (Pd.RD c) (kind == 0)).putB (PDP_STAT.DEADBAT c)
    (kind == 0 && s.flag HIVE_BOOT_STAT.DEADBAT)) c false
  let s4 := (msgIdsClear s3 c).on (kind == 1) (fun s => pdRequest s c)
  if kind = 0 then wakeFires (frsReview s4 c) 4 else s4

/-- An attach is recognised. Attached.SRC is entered only with connector VBUS at or below 0.8 V: till then the port waits in
ATTACHWAIT_SRC, and as sink in ATTACHWAIT_SNK where the latest value of the connector shows no VBUS (R289) (DEDUCED, log
entry 33). -/
def pdAttach (s : State) (c kind : Nat) (cc2 : Bool) (rp : Nat) : State :=
  let cc := s.get (PDP_STAT.CC_STATE c)
  let open? := (1 ≤ cc && cc ≤ 4) && !s.flag (Pd.CC_OFF c)
  if !open? || (kind == 1 && !pdMaySource s c)
      || (kind == 0 && s.get (PDP_CTL.ROLE c) == 1 && !s.flag (Pd.SINK_ONLY c) && !inSafeBoot s) then s
  else if kind = 1 ∧ 80 < s.get (Port.VS (pdPort c)) then (s.put (PDP_STAT.CC_STATE c) 4).putB (Pd.WAIT_CC2 c) cc2
  else if kind = 0 ∧ foragerRuns s c ∧ !s.flag (PDP_STAT.VBUS_PRES c) then
    ((s.put (PDP_STAT.CC_STATE c) 3).putB (Pd.WAIT_CC2 c) cc2).put (Pd.WAIT_RP c) rp
  else attachDone s c kind cc2 rp

/-- A port that waits in ATTACHWAIT goes on once the connector shows what it waits for (R289). -/
def pdWaitReview (s : State) (c : Nat) : State :=
  let cc := s.get (PDP_STAT.CC_STATE c)
  if cc = 4 ∧ s.get (Port.VS (pdPort c)) ≤ 80 then attachDone s c 1 (s.flag (Pd.WAIT_CC2 c)) 0
  else if cc = 3 ∧ s.flag (PDP_STAT.VBUS_PRES c) then attachDone s c 0 (s.flag (Pd.WAIT_CC2 c)) (s.get (Pd.WAIT_RP c))
  else s

/-- The CC logic recognises an attach after its debounce (R289). -/
def execAttach (c : Fin 4) (kind : Fin 3) (cc2 : Bool) (rp : Fin 4) (s : State) : Out :=
  .next (if pdActs s c then pdAttach s c kind cc2 rp else s)

/-- Every host timer of a PD port is cancelled (R296, R303). -/
def pdTimersOff (s : State) (c : Nat) : State :=
  s.each (List.range 8) (fun s i => s.put (PDP_TMR.RUN c i) 0)

/-- The registration of a detach (R303) (DEDUCED, log entry 33). -/
def pdDetach (s : State) (c : Fin 4) : State :=
  let s1 := msgIdsClear ((pdTimersOff (pdQuiet s c) c).evt (0x60 + c) 9) c
  let s2 := pdUnattached (detachMiss s1 c) c
  let st := s.get (PORT_PD_STAT.STATE c)
  if st = 1 ∨ st = 2 then pdSwitch s2 c 3 else if st = 0 then pdOpen s2 c else s2

/-- A detach is registered; a port that still waits to attach is unattached again (R289, R303). -/
def execDetach (c : Fin 4) (s : State) : Out :=
  .next (if !pdActs s c then s
    else if pdAttached s c then pdDetach s c
    else s.on (s.get (PDP_STAT.CC_STATE c) == 3 || s.get (PDP_STAT.CC_STATE c) == 4) (fun s => pdUnattached s c))

/-- Dual-role toggling: Rp and Rd alternate (R289). -/
def execRoleToggle (c : Fin 4) (s : State) : Out :=
  .next (if pdActs s c && s.flag (PDP_CTL.EN c) && s.get (PDP_CTL.ROLE c) == 2 && pdMaySource s c
      && (s.get (PDP_STAT.CC_STATE c) == 1 || s.get (PDP_STAT.CC_STATE c) == 2) then
      let src := s.get (PDP_STAT.CC_STATE c) == 1
      ((s.put (PDP_STAT.CC_STATE c) (if src then 2 else 1)).putB (Pd.RP c) src).putB (Pd.RD c) (!src)
    else s)

/-! ### Transitions (R292, R293) -/

/-- The wait for a transition starts and the ramp is announced (R293). -/
def pdWait (s : State) (c : Nat) : State :=
  pdAnnounce ((s.put (Pd.TR c) 1).put (PDP_STAT.TRANS c) 1) c (1000 * s.get (PDP_TRANS.DLY c))

/-- TGT has changed in duty: a wait, an armed wait, or the retarget of a running transition; under a C2 action of the PD
page no transition starts (R293, R390). -/
def pdTransition (s : State) (c : Nat) : State :=
  if s.get (Pd.TR c) = 2 then
    disReview (pdAnnounce (sendRecord s c (recordWord 0xF (pdPort c) 0 1 0 0 0 0)) c 0) c
  else if classActed s (0x60 + c) 2 then s
  else
    let s1 := s.on (s.get (Pd.TR c) == 1) (fun s => sendRecord s c (recordWord 0xF (pdPort c) 0 1 0 0 0 0))
    if s.flag (PDP_TRANS.ARM_TX c) then (s1.put (Pd.TR c) 3).put (PDP_STAT.TRANS c) 1 else pdWait s1 c

/-- The write of `PDP_VBUS`: TGT is ceilinged, and above 20.00 V it needs EPR (R89, R292, R293). -/
def vbusWrite (s : State) (k : Bool) (c : Fin 4) (w : Nat) : Res :=
  specialRes s k (0x60 + c) 0x048 w false (fun s w' =>
    let g := fun (s : State) (w' : Nat) =>
      let s1 := storeFields s w' (regLayout (0x60 + c) 0x048)
      s1.on (vbusTgt s1 c != vbusTgt s c && s.flag (PDP_STAT.DUTY c))
        (fun s => pdTransition s c)
    if 1000 < fieldOf w' (PDP_VBUS.TGT c) ∧ fieldOf w' (PDP_VBUS.TGT c) ≠ s.get (PDP_VBUS.TGT c)
        ∧ !s.flag (PDP_CTL.EPR c) then
      (g s (withField w' (PDP_VBUS.TGT c) (s.get (PDP_VBUS.TGT c))), 3)
    else ceiled s w' (PDP_VBUS.TGT c) (PDP_VBUS.CEIL c) g)

/-- A change of `PDP_VBUS.TGT` in duty (R293). -/
def execTransition (a : Access) (c : Fin 4) (w : BitVec 32) (s : State) : Out :=
  .next (regOp s a (fun s k => vbusWrite s k c w.toNat))

/-- DLY has passed: the reference starts to move (R293). -/
def execTransitionStart (c : Fin 4) (s : State) : Out :=
  .next (if pdActs s c && s.get (Pd.TR c) == 1 then
      disReview ((s.put (Pd.TR c) 2).put (Pd.RAMP c) 0) c
    else s)

/-- The reference reaches TGT (R293). -/
def execTransDone (c : Fin 4) (s : State) : Out :=
  .next (if pdActs s c && s.get (Pd.TR c) == 2 then
      ((((s.put (Pd.TR c) 0).put (PDP_STAT.TRANS c) 0).put (Pd.REF c) (20 * vbusTgt s c)).put (Pd.DIS c) 0).evt
        (0x60 + c) 11
    else s)

/-- The write of `PDP_TRANS`: SLEW outside 1 to 30 is stored as the nearer bound (R309). -/
def transWrite (s : State) (k : Bool) (c : Fin 4) (w : Nat) : Res :=
  specialWrite s k (0x60 + c) 0x04C w false (fun s w' =>
    (storeFields s w' (regLayout (0x60 + c) 0x04C)).put (PDP_TRANS.SLEW c)
      (max 1 (min 30 (fieldOf w' (PDP_TRANS.SLEW c)))))

/-! ### Messages (R294, R295) -/

/-- `PDP_RX_STAT` shows the messages held and the head (R295, R309). -/
def rxShow (s : State) (c : Fin 4) : State :=
  let h := (s.rx[c]).head?
  ((s.put (PDP_RX_STAT.COUNT c) (s.rx[c]).length).put (PDP_RX_STAT.SOP c) ((h.map (·.1)).getD 0)).put
    (PDP_RX_STAT.LEN c) ((h.map (·.2.length)).getD 0)

/-- The receiver takes messages of a SOP type (R294). -/
def sopOn (s : State) (c sop : Nat) : Bool := sop == 0 || s.bit (PDP_CTL.SOP_EN c) (sop - 1)

/-- The MessageID of a message: bits [11:9] of its header (DEDUCED, log entry 34). -/
def messageId (bytes : List (BitVec 8)) : Nat := ((bytes[1]?).getD 0).toNat / 2 % 8

/-- A message is received (R294, R295); in SAFE-BOOT nothing is answered (R304). `early` marks one that began to
arrive before the transmitter's preamble. -/
def rxMessage (s : State) (c : Fin 4) (sop : Nat) (bytes : List (BitVec 8)) (crcOk early : Bool) : State :=
  let s0 := s.on (early && s.get (Pd.TX c) == 1) (fun s => (s.put (Pd.TX c) 0).evt (0x60 + c) 3)
  if inSafeBoot s || !sopOn s c sop then s0
  else if !crcOk then s0.inc (PDP_CNT.CRC_ERR c)
  else if 2 ≤ (s.rx[c]).length then s0.put (PDP_RX_STAT.OVF c) 1
  else
    let s1 := s0.send (.goodCrc c sop (messageId bytes))
    if s.get (Pd.MSGID c sop) = messageId bytes + 1 then s1
    else
      let s2 := s1.put (Pd.MSGID c sop) (messageId bytes + 1)
      (rxShow { s2 with rx := s2.rx.set c (s2.rx[c] ++ [(sop, bytes)]) } c).evt (0x60 + c) 0

/-- A BMC message arrives (R294). -/
def execRxMsg (c : Fin 4) (sop : Fin 3) (bytes : List (BitVec 8)) (crcOk early : Bool) (s : State) : Out :=
  .next (if pdActs s c && pdAttached s c then rxMessage s c sop bytes crcOk early else s)

/-- The next four bytes of the head message (R295). -/
def rxWord (s : State) (c : Fin 4) : Nat :=
  match (s.rx[c]).head? with
  | none => 0
  | some (_, l) => ((l.drop (s.get (Pd.RX_AT c))).take 4).foldr (fun b a => b.toNat + 256 * a) 0

/-- A read of `PDP_RX_DATA` moves on, and releases the message when its last word has been read (R295). -/
def rxNext (s : State) (c : Fin 4) : State :=
  match s.rx[c] with
  | [] => s
  | (_, l) :: t =>
    if l.length ≤ s.get (Pd.RX_AT c) + 4 then rxShow ({ s with rx := s.rx.set c t }.put (Pd.RX_AT c) 0) c
    else s.put (Pd.RX_AT c) (s.get (Pd.RX_AT c) + 4)

/-- A write of `PDP_TX_DATA` appends four bytes; the buffer holds 264 (R295). -/
def txAppend (s : State) (c : Fin 4) (w : Nat) : State :=
  let b := (List.range 4).map (fun i => BitVec.ofNat 8 (w / 256 ^ i))
  { s with txBuf := s.txBuf.set c ((s.txBuf[c] ++ b).take 264) }

/-- A write of `PDP_TX_DATA` (R295). -/
def execTxData (a : Access) (c : Fin 4) (w : BitVec 32) (s : State) : Out :=
  .next (regOp s a (fun s _ => (txAppend s c w.toNat, 0)))

/-- GO sends the transmit buffer; while a message awaits its GoodCRC it has no effect (R295) (DEDUCED, log entry 34). -/
def txGo (s : State) (c : Fin 4) : State :=
  if s.get (Pd.TX c) = 1 ∨ !pdActs s c ∨ inSafeBoot s then s
  else
    let m := (s.txBuf[c]).take (s.get (PDP_TX.LEN c))
    let sop := if s.get (PDP_TX.SOP c) ≤ 2 then s.get (PDP_TX.SOP c) else 0
    ((({ s with txBuf := s.txBuf.set c [], txMsg := s.txMsg.set c m }.put (Pd.TX c) 1).put (Pd.RETRY c) 0).put
      (Pd.TX_SOP c) sop).send (.pdMessage c sop m)

/-- The write of `PDP_TX` (R295, R309). -/
def txWrite (s : State) (k : Bool) (c : Fin 4) (w : Nat) : Res :=
  specialWrite s k (0x60 + c) 0x050 w false (fun s w' =>
    (storeFields s w' (regLayout (0x60 + c) 0x050)).on (fieldOf w' (PDP_TX.GO c) == 1) (fun s => txGo s c))

/-- A write of `PDP_TX.GO` (R295). -/
def execGo (a : Access) (c : Fin 4) (w : BitVec 32) (s : State) : Out :=
  .next (regOp s a (fun s k => txWrite s k c w.toNat))

/-- A GoodCRC for the transmitted message: TX_OK, and an armed transition starts its wait (R293, R294). -/
def execTxOk (c : Fin 4) (s : State) : Out :=
  .next (if pdActs s c && s.get (Pd.TX c) == 1 then
      ((s.put (Pd.TX c) 0).evt (0x60 + c) 1).on (s.get (Pd.TR c) == 3) (fun s => pdWait s c)
    else s)

/-- No GoodCRC within tReceive: a retry, or TX_FAIL after two (R294). -/
def execTxRetry (c : Fin 4) (s : State) : Out :=
  .next (if pdActs s c && s.get (Pd.TX c) == 1 then
      if s.get (Pd.RETRY c) < 2 then
        (s.wrapInc (Pd.RETRY c)).send (.pdMessage c (s.get (Pd.TX_SOP c)) (s.txMsg[c]))
      else ((s.put (Pd.TX c) 0).inc (PDP_CNT.TX_FAIL c)).evt (0x60 + c) 2
    else s)

/-! ### Resets and swaps (R296, R297, R301, R302) -/

/-- As source the Hard Reset sequence begins from the present VBUS; duty is requested where it had been released, and a
switch that stands open in duty closes (R296, R302). -/
def pdHrSource (s : State) (c : Nat) : State :=
  let s1 := ((s.put (Pd.HR c) 1).put (Pd.RP c) 1).put (Pd.RD c) 0
  if s.flag (PDP_STAT.DUTY c) then pdClose s1 c else pdRequest s1 c

/-- Hard Reset signalling during a swap abandons it (R302). -/
def pdAbandon (s : State) (c : Nat) (received : Bool) : State :=
  let s1 := ((s.put (PDP_SWAP.STATE c) 0).put (PDP_STAT.HR_CODE c) (if received then 3 else 4)).evt (0x60 + c)
    (if received then 4 else 5)
  let src := s.flag (PDP_STAT.ATTACH_ROLE c)
  let s2 := (s1.evt (0x60 + c) 12).putB (PDP_STAT.PWR_ROLE c) src
  let s3 := if src then pdHrSource (s2.put (PDP_STAT.CC_STATE c) 6) c
    else (((refRamp s2 c 0).put (Pd.SRCOFF c) 2).put (Pd.HR c) 0).put (Pd.DIS c) 1
  raiseEvent ((s3.put (Pd.SRCON c) 0).on src (·.put (Pd.SRCOFF c) 0)) (0x60 + c) 4

/-- Hard Reset signalling, sent or received (R296, R302) (DEDUCED, log entry 35). -/
def pdHardReset (s : State) (c : Nat) (received : Bool) : State :=
  let s1 := msgIdsClear (pdTimersOff (pdCancelTransition s c) c) c
  let s2 := (((s1.put (PDP_CTL.CONTRACT c) 0).put (Pd.TX c) 0).put (Pd.FRS c) 0).inc (PDP_CNT.HARD_RESETS c)
  if s.get (PDP_SWAP.STATE c) ≠ 0 then pdAbandon s2 c received
  else
    let s3 := (s2.put (PDP_STAT.HR_CODE c) (if received then 1 else 2)).on received (·.evt (0x60 + c) 4)
    if s.flag (PDP_STAT.PWR_ROLE c) then (s3.put (Pd.HR c) 1).put (Pd.SRCOFF c) 0 else s3

/-- What a `PDP_SIG.OP` does (R296, R301). -/
def pdSignal (s : State) (c op : Nat) : State :=
  if !pdActs s c || !pdAttached s c then s
  else match op with
  | 1 => pdHardReset (s.send (.hardReset c)) c false
  | 2 => (((s.put (Pd.TX c) 0).put (Pd.MSGID c 1) 0).put (Pd.MSGID c 2) 0).send (.cableReset c)
  | 3 => if s.flag (PDP_STAT.PWR_ROLE c) then
      ((refRamp (pdCancelTransition s c) c 0).put (Pd.SRCOFF c) 1).put (Pd.DIS c) 1 else s
  | 4 => if !s.flag (PDP_STAT.PWR_ROLE c) && pdMaySource s c then
      pdWantsDuty (((s.put (Pd.RP c) 1).put (Pd.RD c) 0).put (Pd.SRCON c) 1) c 5000
    else s
  | _ => s

/-- The write of `PDP_SIG` (R309). -/
def sigWrite (s : State) (k : Bool) (c : Fin 4) (w : Nat) : Res :=
  specialWrite s k (0x60 + c) 0x060 w false (fun s w' => pdSignal s c (fieldOf w' (PDP_SIG.OP c)))

/-- `PDP_SIG.OP` = 1 (R296). -/
def execHardReset (a : Access) (c : Fin 4) (s : State) : Out := .next (regOp s a (fun s k => sigWrite s k c 1))

/-- `PDP_SIG.OP` = 2 (R296). -/
def execCableReset (a : Access) (c : Fin 4) (s : State) : Out := .next (regOp s a (fun s k => sigWrite s k c 2))

/-- `PDP_SIG.OP` = 3 (R301). -/
def execSrcOff (a : Access) (c : Fin 4) (s : State) : Out := .next (regOp s a (fun s k => sigWrite s k c 3))

/-- `PDP_SIG.OP` = 4 (R301). -/
def execSrcOn (a : Access) (c : Fin 4) (s : State) : Out := .next (regOp s a (fun s k => sigWrite s k c 4))

/-- Received Hard Reset signalling (R296). -/
def execHardResetRx (c : Fin 4) (s : State) : Out :=
  .next (if pdActs s c && pdAttached s c then pdHardReset s c true else s)

/-- Received Cable Reset signalling (R296). -/
def execCableResetRx (c : Fin 4) (s : State) : Out :=
  .next (if pdActs s c && pdAttached s c then (s.put (PDP_STAT.HR_CODE c) 6).evt (0x60 + c) 6 else s)

/-- tPSHardReset after the signalling: the reference moves to 0 V and the connector is discharged (R296). -/
def execTPsHardReset (c : Fin 4) (s : State) : Out :=
  .next (if pdActs s c && s.get (Pd.HR c) == 1 then
      ((refRamp s c 0).put (Pd.HR c) 2).put (Pd.DIS c) 1 else s)

/-- After tSrcRecover the reference returns to 5.00 V with TGT 0x0FA (R296). -/
def execTSrcRecover (c : Fin 4) (s : State) : Out :=
  .next (if pdActs s c && s.get (Pd.HR c) == 2 then
      (((refRamp s c 5000).put (Pd.HR c) 3).put (PDP_VBUS.TGT c) 0xFA).put (Pd.DIS c) 0 else s)

/-- VBUS reaches vSafe5V after a Hard Reset (R296). -/
def execHardResetDone (c : Fin 4) (s : State) : Out :=
  .next (if pdActs s c && s.get (Pd.HR c) == 3 then ((refAt s c 5000).put (Pd.HR c) 0).evt (0x60 + c) 5 else s)

/-- The Fast Role Swap signal (R297). -/
def execFrsSignal (c : Fin 4) (s : State) : Out :=
  .next (if pdActs s c && s.get (PDP_STAT.CC_STATE c) == 5 && s.flag (PDP_CTL.FRS_ARM c) then
      (s.put (Pd.FRS c) 1).evt (0x60 + c) 10 else s)

/-- Connector VBUS falls to 4.90 V after the signal: the PD phase, in duty with its reference there, supplies it
(R297). -/
def execFrsTakeover (c : Fin 4) (s : State) : Out :=
  .next (if pdActs s c && s.flag (Pd.FRS c) && s.flag (PDP_STAT.DUTY c) then
      s.put (Pd.FRS c) 0 else s)

/-! ### Host timers (R298, R301) -/

/-- The write of a host timer: SWAP and LOAD are stored, START starts it and STOP cancels it (R298, R309). -/
def pdTimerWrite (s : State) (k : Bool) (c : Fin 4) (t : Fin 8) (w : Nat) : Res :=
  specialWrite s k (0x60 + c) (0x070 + 4 * t) w false (fun s w' =>
    let s1 := storeFields s w' (regLayout (0x60 + c) (0x070 + 4 * t))
    let s2 := s1.on (fieldOf w' (PDP_TMR.START c t) == 1) (·.put (PDP_TMR.RUN c t) 1)
    s2.on (fieldOf w' (PDP_TMR.STOP c t) == 1) (·.put (PDP_TMR.RUN c t) 0))

/-- A write of `PDP_TMRn.START` (R298). -/
def execHostTimerStart (a : Access) (c : Fin 4) (t : Fin 8) (w : BitVec 32) (s : State) : Out :=
  .next (regOp s a (fun s k => pdTimerWrite s k c t w.toNat))

/-- A write of `PDP_TMRn.STOP` (R298). -/
def execHostTimerStop (a : Access) (c : Fin 4) (t : Fin 8) (w : BitVec 32) (s : State) : Out :=
  .next (regOp s a (fun s k => pdTimerWrite s k c t w.toNat))

/-- A host timer expires (R298). -/
def execHostTimerExpiry (c : Fin 4) (t : Fin 8) (s : State) : Out :=
  .next (if pdActs s c && s.flag (PDP_TMR.RUN c t) then (s.put (PDP_TMR.RUN c t) 0).evt (0x60 + c) 7 else s)

/-! ### Protection (R299, R300) -/

/-- The VBUS switch conducts or is about to. -/
def pdConducts (s : State) (c : Nat) : Bool :=
  s.get (PORT_PD_STAT.STATE c) == 1 || s.get (PORT_PD_STAT.STATE c) == 2 || s.get (PORT_PD_STAT.STATE c) == 3

/-- A protective opening: the C4 cause whose action is the response of R299 and R300. -/
def pdOpening (s : State) (c i : Nat) : State :=
  if absent s (pdPage c) || s.get (PORT_PD_STAT.STATE c) == 5 then s else raiseEvent s (pdPage c) i

/-- The PD shunt exceeds SC (R299). -/
def execPdShortCircuit (c : Fin 4) (s : State) : Out := .next (pdOpening s c 0)

/-- The port current exceeds the limit in force plus OC_MARGIN for OC_T (R299). -/
def execPdOverCurrent (c : Fin 4) (s : State) : Out := .next (if pdConducts s c then pdOpening s c 1 else s)

/-- The connector exceeds its over-voltage threshold (R299). -/
def execPdOverVoltage (c : Fin 4) (s : State) : Out := .next (pdOpening s c 2)

/-- Current into the port exceeds REV_TH (R299). -/
def execPdReverseCurrent (c : Fin 4) (s : State) : Out := .next (if pdConducts s c then pdOpening s c 3 else s)

/-- The VBUS switch gate is not full within GRISE (R299). -/
def execPdGateRise (c : Fin 4) (s : State) : Out :=
  .next (if s.get (PORT_PD_STAT.STATE c) == 1 then pdOpening s c 4 else s)

/-- A response that leaves the switch alone turns VCONN off and is counted too; the third within 10 s latches the port
(R299, R300) (DEDUCED, log entry 36). -/
def pdResponse (s : State) (c i : Nat) : State :=
  let s1 := raiseEvent (pdCount (s.put (Pd.VCONN c) 0) c) (0x60 + c) i
  s1.on (s1.get (PORT_PD_STAT.TRIPS10 c) == 3 && s.get (PORT_PD_STAT.STATE c) != 5) (fun s => pdLatch s c)

/-- A CC pin rises above 6.0 V: the CC pins are isolated and VCONN is off (R299). -/
def execCcOvp (c : Fin 4) (s : State) : Out :=
  .next (if absent s (0x60 + c) then s else pdResponse (s.put (Pd.CC_OFF c) 1) c 0)

/-- VCONN above 250 mA for 100 µs (R299). -/
def execVconnOc (c : Fin 4) (s : State) : Out :=
  .next (if pdActs s c && s.flag (Pd.VCONN c) then pdResponse s c 1 else s)

/-- The port leaves ERROR_RECOVERY and starts again from unattached (R300). -/
def recoveryOver (s : State) (c : Nat) : State :=
  pdStartAgain (((s.put (PDP_STAT.CC_STATE c) 0).put (Pd.ERR_OVER c) 0).put (Pd.RD c) 1) c

/-- tErrorRecovery ends: the port starts again from unattached once VBUS is discharged to vSafe0V as well (R300). -/
def execErrorRecoveryEnd (c : Fin 4) (s : State) : Out :=
  .next (if !pdActs s c || s.get (PDP_STAT.CC_STATE c) != 7 then s
    else if s.flag (Pd.DIS c) then s.put (Pd.ERR_OVER c) 1
    else recoveryOver s c)

/-! ### Enable (R297, R300, R305) -/

/-- EN written 0: as a detach where the port is attached, then DISABLED (R300, R305). -/
def pdEnOff (s : State) (c : Fin 4) : State :=
  let s1 := s.on (pdAttached s c) (fun s => pdDetach s c)
  let s2 := s1.on (s.get (PORT_PD_STAT.STATE c) == 5) (·.put (Pd.LATCH_OFF c) 1)
  ((((s2.put (PDP_STAT.CC_STATE c) 0).put (PDP_STAT.RP_SEEN c) 0).put (Pd.RP c) 0).put (Pd.RD c) 1).put (Pd.VCONN c) 0

/-- EN written 1: the latch of R300 ends after EN = 0, and the port starts from unattached unless a C4 class
action disables it (R300, R390). -/
def pdEnOn (s : State) (c : Fin 4) : State :=
  if s.get (PORT_PD_STAT.STATE c) = 5 ∧ !s.flag (Pd.LATCH_OFF c) then s
  else
    let s1 := s.on (s.get (PORT_PD_STAT.STATE c) == 5) (fun s => causeEnds (pdSwitch (s.put (Pd.LATCH_OFF c) 0) c 0)
      (0x60 + c) 5)
    pdStartAgain s1 c

/-- What a write of `PDP_CTL` stores, and what follows from EN, ROLE, FRS_ARM and VCONN (R289, R297, R300). In SAFE-BOOT
there is no contract: CONTRACT stays 0 (R70) (DEDUCED, log entry 35). -/
def pdpCtlStore (s : State) (c : Fin 4) (w' : Nat) : State :=
  let s1 := (storeFields s w' (regLayout (0x60 + c) 0x040)).on (inSafeBoot s) (·.put (PDP_CTL.CONTRACT c) 0)
  let s2 := if s.flag (PDP_CTL.EN c) && !s1.flag (PDP_CTL.EN c) then pdEnOff s1 c
    else if !s.flag (PDP_CTL.EN c) && s1.flag (PDP_CTL.EN c) then pdEnOn s1 c
    else s1.on ((s.get (PDP_CTL.ROLE c) != s1.get (PDP_CTL.ROLE c)) && decide (1 ≤ s1.get (PDP_STAT.CC_STATE c))
      && decide (s1.get (PDP_STAT.CC_STATE c) ≤ 4)) (fun s => pdUnattached s c)
  let sink := s2.get (PDP_STAT.CC_STATE c) == 5
  let s3 := s2.on (!s.flag (PDP_CTL.FRS_ARM c)) (fun s => frsReview s c)
  let s4 := s3.on (sink && s.flag (PDP_CTL.FRS_ARM c) && !s3.flag (PDP_CTL.FRS_ARM c) && !s3.flag (Pd.SRCON c))
    (fun s => (s.put (Pd.REQ c) 0).on (pdConducts s c) (fun s => pdSwitch s c 0))
  pdVconn s4 c (!s.flag (PDP_CTL.VCONN c))

/-- The write of `PDP_CTL` (R289, R297, R300, R309); under a C2 action of the page a CONTRACT written 1 is refused
(R390) (DEDUCED, log entry 35). -/
def pdpCtlWrite (s : State) (k : Bool) (c : Fin 4) (w : Nat) : Res :=
  specialRes s k (0x60 + c) 0x040 w false (fun s w' =>
    let barred := classActed s (0x60 + c) 2 && fieldOf w' (PDP_CTL.CONTRACT c) == 1 && !s.flag (PDP_CTL.CONTRACT c)
    (pdpCtlStore s c (if barred then withField w' (PDP_CTL.CONTRACT c) 0 else w'), if barred then 2 else 0))

/-- A write of `PDP_CTL.EN` (R300). -/
def execPdEnable (a : Access) (c : Fin 4) (w : BitVec 32) (s : State) : Out :=
  .next (regOp s a (fun s k => pdpCtlWrite s k c w.toNat))

/-! ### Detach and discharge (R301 to R303) -/

/-- After a detach the switch opens, and the connector is discharged (R303). -/
def execSwitchOpen (c : Fin 4) (s : State) : Out :=
  .next (if s.get (PORT_PD_STAT.STATE c) = 3 then pdOpen s c else s)

/-- The connector reaches 0.8 V: the discharge stops, and ERROR_RECOVERY whose time is over ends; SRC_OFF or an abandoned
swap makes the port a sink (R300 to R303). -/
def vsafe0 (s : State) (c : Nat) : State :=
  let s0 := s.on (s.flag (Pd.RAMP c) && s.get (Pd.GOAL c) == 0) (fun s => refAt s c 0)
  let s1 := causeEnds ((s0.put (Pd.DIS c) 0).on (s.get (PORT_PD_STAT.STATE c) == 4) (fun s => pdSwitch s c 0))
    (pdPage c) 9
  if s.get (Pd.SRCOFF c) = 0 then
    s1.on (s.get (PDP_STAT.CC_STATE c) == 7 && s.flag (Pd.ERR_OVER c)) (fun s => recoveryOver s c)
  else
    let s2 := (((pdSwitch s1 c 0).put (Pd.RP c) 0).put (Pd.RD c) 1).put (PDP_STAT.CC_STATE c) 5
    frsReview (((s2.put (PDP_STAT.PWR_ROLE c) 0).put (Pd.SRCOFF c) 0).on (s.get (Pd.SRCOFF c) == 1) (·.evt (0x60 + c) 11)) c

/-- The connector discharges to 0.8 V (R303). -/
def execVsafe0v (c : Fin 4) (s : State) : Out := .next (vsafe0 s c)

/-- The discharge has not completed within 650 ms (R303). -/
def execDischarge (c : Fin 4) (s : State) : Out :=
  .next (if s.flag (Pd.DIS c) then raiseHeld s (pdPage c) 9 else s)

/-- The connector reaches vSafe5V: SRC_ON makes the port the source (R301). -/
def execVsafe5v (c : Fin 4) (s : State) : Out :=
  .next (if pdActs s c && s.flag (Pd.SRCON c) then
      (((refAt (s.put (Pd.SRCON c) 0) c 5000).put (PDP_STAT.PWR_ROLE c) 1).put (PDP_STAT.CC_STATE c) 6).evt (0x60 + c) 11
    else s)

end Sys2Proof.Machine
end

