-- ==== Sys2Proof/Machine/Accum.lean ====
section
/-! DEFINITION. Accumulators and min-max trackers (R326 to R333): how a value enters them, their blocks,
their clearing, and the reference constants of the impedance products (R247). -/

namespace Sys2Proof.Machine

/-- The first quarter of REF[k] = round(32,767 sin(2 pi k / 64)), k = 0 to 16 (R247). -/
def refQuarter : List Int :=
  [0, 3212, 6393, 9512, 12539, 15446, 18204, 20787, 23170, 25329, 27245, 28898, 30273, 31356, 32137, 32609,
    32767]

/-- The reference constant REF[k] (R247). -/
def refSine (k : Nat) : Int :=
  let k := k % 64
  let q := fun (i : Nat) => (refQuarter[i]?).getD 0
  if k ≤ 16 then q k else if k ≤ 32 then q (32 - k) else if k ≤ 48 then -q (k - 32) else -q (64 - k)

/-- G_REF: the sum of the squares of REF over one cycle, divided by 32,767 and rounded down (R248). -/
def gRef : Int := ((List.range 64).foldl (fun a k => a + refSine k * refSine k) 0).fdiv 32767

/-- The operation of accumulator `a`: that of its claim, or of its MODE; MODE 2 and 3 on a phase source act as
OFF (R326, R331). -/
def accMode (s : State) (a : Nat) : Nat :=
  let c := s.get (Acc.CLAIM a)
  if c ≠ 0 then 2 + c % 2
  else if 256 ≤ s.get (ACC_CFG.SRC (a / 64) (a % 64)) ∧ 2 ≤ s.get (ACC_CFG.MODE (a / 64) (a % 64)) then 0
  else s.get (ACC_CFG.MODE (a / 64) (a % 64))

/-- The source of accumulator `a`: in a claim the voltage or the current input of the channel's port (R331). -/
def accSrc (s : State) (a : Nat) : Nat :=
  let c := s.get (Acc.CLAIM a)
  if c ≠ 0 then
    let n := (c - 16) / 4
    let port := batPort n
    48 * (port / 12) + port % 12 + (if (c - 16) % 4 < 2 then 12 else 0)
  else s.get (ACC_CFG.SRC (a / 64) (a % 64))

/-- The impedance channel of accumulator `a` (R326, R331). -/
def accIqch (s : State) (a : Nat) : Nat :=
  let c := s.get (Acc.CLAIM a)
  if c ≠ 0 then (c - 16) / 4 else s.get (ACC_CFG.IQCH (a / 64) (a % 64))

/-- SUM of accumulator `a` (R326). -/
def accSum (s : State) (a : Nat) : Int :=
  toSigned 64 (s.get64 (ACC_SUM_LO.SUM (a / 64) (a % 64)) (ACC_SUM_HI.SUM (a / 64) (a % 64)))

/-- SQ of accumulator `a`. -/
def accSq (s : State) (a : Nat) : Int :=
  toSigned 64 (s.get64 (ACC_SQ_LO.SQ (a / 64) (a % 64)) (ACC_SQ_HI.SQ (a / 64) (a % 64)))

/-- CNT of accumulator `a`. -/
def accCnt (s : State) (a : Nat) : Nat :=
  s.get64 (ACC_CNT_LO.CNT (a / 64) (a % 64)) (ACC_CNT_HI.CNT (a / 64) (a % 64))

/-- A 64-bit sum held at its limits (R327). -/
def hold64 (v : Int) : Int := clampInt (-(2 ^ 63)) (2 ^ 63 - 1) v

/-- CNT has advanced by 2^BLK since the boundary: the sum advance waits for its comparison and the boundary
moves (R330). -/
def accBoundary (s : State) (a : Nat) : State :=
  let p := a / 64
  let i := a % 64
  if s.flag (ACC_CFG.THR_EN p i) && accMode s a == 1 && decide (s.get (ACC_CFG.SRC p i) < 256)
      && decide (2 ^ s.get (ACC_CFG.BLK p i) ≤ accCnt s a - s.get (Acc.BCNT a)) then
    (((s.putI (Acc.DS a) (accSum s a - s.int (Acc.BSUM a))).put (Acc.DUE a) 1).putI (Acc.BSUM a)
      (accSum s a)).put (Acc.BCNT a) (accCnt s a)
  else s

/-- The residue that a sum carries: formed from the residues of its operands, and computed anew where the sum is held
at its limit (R348, R349). -/
def sumResidue (sum : Int) (r : Nat) : Nat := if hold64 sum = sum then r % 8191 else residue (hold64 sum)

/-- A value enters accumulator `a`: `k` times the value into SUM and its square into SQ, and their residues by its own
(R326, R327, R348) (DEDUCED, log entry 39). -/
def accEnter (s : State) (a : Nat) (k : Int) (x : Tagged) (test : Bool) : State :=
  let p := a / 64
  let i := a % 64
  let s1 := (s.put64 (ACC_CNT_LO.CNT p i) (ACC_CNT_HI.CNT p i) (accCnt s a + 1)).on x.clip
    (·.inc (ACC_CLIPS.CLIPS p i))
  let s2 := s1.on test (·.put (Acc.TESTED a) 1)
  if s.flag (ACC_CFG.SAT p i) then s2
  else
    let sum := accSum s a + k * x.val
    let sq := accSq s a + x.val * x.val
    let r := x.tag.toNat % 0x2000
    let s0 := (s2.put (Acc.RSUM a) (sumResidue sum (s.get (Acc.RSUM a) + residue k * r))).put (Acc.RSQ a)
      (sumResidue sq (s.get (Acc.RSQ a) + r * r))
    let s3 := (s0.put64 (ACC_SUM_LO.SUM p i) (ACC_SUM_HI.SUM p i) (ofSigned 64 (hold64 sum))).put64
      (ACC_SQ_LO.SQ p i) (ACC_SQ_HI.SQ p i) (ofSigned 64 (hold64 sq))
    if hold64 sum ≠ sum ∨ hold64 sq ≠ sq then
      raiseEvent ((s3.put (ACC_CFG.SAT p i) 1).evt (0x70 + p) 0) (0x70 + p) 0
    else s3

/-- Accumulator `a` takes a value of source `src` in MODE 1 (R326, R331, R336). -/
def accTakes (s : State) (src : Nat) (test : Bool) (a : Nat) : Bool :=
  accSrc s a == src && accMode s a == 1 && !s.flag (Acc.STOP a)
    && (!test || s.flag (ACC_CFG.TEST (a / 64) (a % 64)))

/-- The accumulators of page 0x70 + `p` that satisfy `q`. -/
def accsOf (p : Nat) (q : Nat → Bool) : List Nat := ((List.range 64).map (fun i => 64 * p + i)).filter q

/-- The accumulators of one page that satisfy `q` take a value that passes the page's check (R352, R362). -/
def accPage (s : State) (q : Nat → Bool) (x : Tagged) (g : State → Nat → State) (p : Nat) : State :=
  match accsOf p q with
  | [] => s
  | l => onTagged s (0x70 + p) x (fun s => s.each l (fun s a => accBoundary (g s a) a))

/-- A value of source `src` enters every accumulator of that source in MODE 1 (R325, R326) (DEDUCED, log entry 39). -/
def accDeliver (s : State) (src : Nat) (x : Tagged) (test : Bool) : State :=
  s.each (List.range 8) (accPage · (accTakes s src test) x (fun s a => accEnter s a 1 x test))

/-- A value enters one accumulator beside those of its source (R324). -/
def accAlso (s : State) (a : Nat) (src : Nat) (x : Tagged) (test : Bool) : State :=
  let p := a / 64
  accPage s (fun b => b == a && !accTakes s src test b && s.get (Acc.CLAIM b) == 0 && !s.flag (Acc.STOP b)
      && accMode s b == 1 && (!test || s.flag (ACC_CFG.TEST (b / 64) (b % 64)))) x
    (fun s a => accEnter s a 1 x test) p

/-- A value of an impedance pair of channel `n` at step `k` enters the product sums of its input, a test value only
those with TEST = 1, and a claimed sum only those of the integration (R243, R326, R336). -/
def accPair (s : State) (n k src : Nat) (x : Tagged) (test on : Bool) : State :=
  let takes := fun a => accSrc s a == src && 2 ≤ accMode s a && accIqch s a == n && !s.flag (Acc.STOP a)
    && (on || s.get (Acc.CLAIM a) == 0)
    && (!test || s.flag (ACC_CFG.TEST (a / 64) (a % 64)))
  s.each (List.range 8) (accPage · takes x (fun s a =>
    accEnter (s.put (Acc.IQ a) 1) a (refSine (if accMode s a = 2 then k else k + 16)) x test))

/-- Clear accumulator `a`: SUM, CNT, SQ, CLIPS and SAT, and EPOCH counts on (R329). -/
def accClear (s : State) (a : Nat) : State :=
  let p := a / 64
  let i := a % 64
  let s1 := ((s.put64 (ACC_SUM_LO.SUM p i) (ACC_SUM_HI.SUM p i) 0).put64 (ACC_CNT_LO.CNT p i)
    (ACC_CNT_HI.CNT p i) 0).put64 (ACC_SQ_LO.SQ p i) (ACC_SQ_HI.SQ p i) 0
  let s0 := (s1.put (Acc.RSUM a) 0).put (Acc.RSQ a) 0
  let s2 := ((s0.put (ACC_CLIPS.CLIPS p i) 0).put (ACC_CFG.SAT p i) 0).wrapInc (ACC_CFG.EPOCH p i)
  ((((s2.put (Acc.BSUM a) 0).put (Acc.BCNT a) 0).put (Acc.DUE a) 0).put (Acc.TESTED a) 0).put (Acc.IQ a) 0

/-- The origin class of the sums of accumulator `a`: `cls` 3 or 4 for SUM or SQ (R346). -/
def accClass (s : State) (a cls : Nat) : Nat :=
  if s.flag (Acc.TESTED a) then 7 else if cls = 3 ∧ s.flag (Acc.IQ a) then 5 else cls

/-- The tag of SUM of accumulator `a` in origin class `cls` of its kind: the residue is carried (R346, R348). -/
def sumTag (s : State) (a cls : Nat) : Nat := accClass s a cls * 0x2000 + s.get (Acc.RSUM a)

/-- The tag of SQ of accumulator `a` (R346, R348). -/
def sqTag (s : State) (a : Nat) : Nat := accClass s a 4 * 0x2000 + s.get (Acc.RSQ a)

/-- SUM of accumulator `a` as a block consumes it, with its tag (R352). -/
def sumTagged (s : State) (a cls : Nat) : Tagged := ⟨accSum s a, BitVec.ofNat 16 (sumTag s a cls), false⟩

/-- The comparison of a block's sum advance with HI and LO, after the residue of the sum (R330). -/
def thresholdBlock (s : State) (a : Nat) : State :=
  let p := a / 64
  let i := a % 64
  if s.flag (Acc.DUE a) then
    let s0 := s.put (Acc.DUE a) 0
    onTagged s0 (0x70 + p) (sumTagged s a 3) (fun s =>
      let ds := 16 * s.int (Acc.DS a)
      let b : Int := (2 ^ s.get (ACC_CFG.BLK p i) : Nat)
      s.on (decide (s.get (ACC_THR.HI p i) * b < ds) || decide (ds < s.get (ACC_THR.LO p i) * b))
        (fun s => s.putBit (ACC_THR_EVT.EVT p (i / 32)) (i % 32) true))
  else s

/-- CNT has advanced by 2^BLK since the boundary, and the sum advance is compared (R330). -/
def execThresholdBlock (acc : Fin 512) (s : State) : Out := .next (thresholdBlock s acc)

/-! ### Trackers (R333) -/

/-- MIN of tracker `t` takes a value that is lower, and its limit is compared. -/
def mmtLow (s : State) (t : Nat) (x : Tagged) (test : Bool) : State :=
  if s.flag (MMT_MIN.VALID t) && decide ((s.get (MMT_MIN.VALUE t) : Int) ≤ x.val) then s
  else
    let s1 := ((((s.putI (MMT_MIN.VALUE t) x.val).put (Mmt.RMIN t) (x.tag.toNat % 0x2000)).putB (MMT_MIN.CLIP t) x.clip).put (MMT_MIN.VALID t) 1).putB
      (Mmt.TESTMIN t) test
    s1.on (s.flag (MMT_CFG.LIM_EN t) && !s.flag (MMT_CFG.DIR t)
      && decide (x.val < s.get (MMT_CFG.LIMIT t))) (·.putBit (MMT_EVT.EVT (t / 32)) (t % 32) true)

/-- MAX of tracker `t` takes a value that is higher, and its limit is compared. -/
def mmtHigh (s : State) (t : Nat) (x : Tagged) (test : Bool) : State :=
  if s.flag (MMT_MAX.VALID t) && decide (x.val ≤ s.get (MMT_MAX.VALUE t)) then s
  else
    let s1 := ((((s.putI (MMT_MAX.VALUE t) x.val).put (Mmt.RMAX t) (x.tag.toNat % 0x2000)).putB (MMT_MAX.CLIP t) x.clip).put (MMT_MAX.VALID t) 1).putB
      (Mmt.TESTMAX t) test
    s1.on (s.flag (MMT_CFG.LIM_EN t) && s.flag (MMT_CFG.DIR t)
      && decide ((s.get (MMT_CFG.LIMIT t) : Int) < x.val)) (·.putBit (MMT_EVT.EVT (t / 32)) (t % 32) true)

/-- A value of an input enters every tracker of that input (R325, R333). -/
def mmtDeliver (s : State) (input : Nat) (x : Tagged) (test : Bool) : State :=
  let l := (List.range 256).filter (fun t => s.flag (MMT_CFG.EN t) && s.get (MMT_CFG.SRC t) == input
    && (!test || s.flag (MMT_CFG.TEST t)))
  match l with
  | [] => s
  | l => onTagged s 0x78 x (fun s => s.each l (fun s t => mmtHigh (mmtLow s t x test) t x test))

/-- Clear MIN and MAX of tracker `t` (R333). -/
def mmtClear (s : State) (t : Nat) : State :=
  let s0 := (s.put (Mmt.RMIN t) 0).put (Mmt.RMAX t) 0
  let s1 := ((s0.put (MMT_MIN.VALID t) 0).put (MMT_MIN.CLIP t) 0).put (MMT_MIN.VALUE t) 0
  ((((s1.put (MMT_MAX.VALID t) 0).put (MMT_MAX.CLIP t) 0).put (MMT_MAX.VALUE t) 0).put (Mmt.TESTMIN t) 0).put
    (Mmt.TESTMAX t) 0

/-! ### Their registers (R329, R331, R344, R345) -/

/-- The write of `ACC_CFG` of an accumulator: a claimed one is LOCKED; any write ends the stop after a claim;
CLR clears (R329 to R331). -/
def accCfgWrite (s : State) (k : Bool) (a w : Nat) : Res :=
  let p := a / 64
  let i := a % 64
  let off := 0x100 + 0x30 * i
  let l := regLayout (0x70 + p) off
  if k && s.get (Acc.CLAIM a) != 0 then
    let changed := l.any (fun q => (q.2 == .krw || q.2 == .k) && fieldOf w q.1 != s.get q.1)
    (refusal s (0x70 + p) (2 * bitOf changed), 2 * bitOf changed)
  else specialWrite s k (0x70 + p) off w false (fun s w' =>
    let s1 := storeFields s w' (l.filter (fun q => q.2 == .krw))
    let s2 := s1.on k (·.put (Acc.STOP a) 0)
    let s3 := s2.on (s1.flag (ACC_CFG.THR_EN p i) && !s.flag (ACC_CFG.THR_EN p i)) (fun s =>
      ((s.putI (Acc.BSUM a) (accSum s a)).put (Acc.BCNT a) (accCnt s a)).put (Acc.DUE a) 0)
    s3.on (fieldOf w' (ACC_CFG.CLR p i) == 1) (fun s => accClear s a))

/-- A write of 1 to `ACC_CFG.CLR` clears the accumulator (R329). -/
def execAccClr (a : Access) (acc : Fin 512) (w : BitVec 32) (s : State) : Out :=
  .next (regOp s a (fun s k => accCfgWrite s k acc w.toNat))

/-- The write of `MMT_CFG` of a tracker: CLR clears MIN and MAX (R333). -/
def mmtCfgWrite (s : State) (k : Bool) (t w : Nat) : Res :=
  let off := 0x100 + 0xC * t
  specialWrite s k 0x78 off w false (fun s w' =>
    let s1 := storeFields s w' ((regLayout 0x78 off).filter (fun q => q.2 == .krw))
    s1.on (fieldOf w' (MMT_CFG.CLR t) == 1) (fun s => mmtClear s t))

/-- A write of `MMT_CFG.CLR` (R333). -/
def execMmtClr (a : Access) (t : Fin 256) (w : BitVec 32) (s : State) : Out :=
  .next (regOp s a (fun s k => mmtCfgWrite s k t w.toNat))

end Sys2Proof.Machine
end

