-- ==== Sys2Proof/Machine/Phase.lean ====
section
/-! DEFINITION. Phase islands (chapter 6): the timebase, the staged register and issue, the hold state,
the limits, the sense converter and their commands. -/

namespace Sys2Proof.Machine

/-- The period that a phase follows: the mark of its comb, or its own with SYNC = 1 (R121). In a gang the
mark is that of the lowest-numbered member. -/
def markComb (s : State) (c : Nat) : Nat :=
  if s.get (CMB_GANG.STATE c) = 2 then
    ((List.range 4).find? (fun d => s.bit (CMB_GANG.MEMBERS c) d)).getD c
  else c

/-- The shortest period that the mode permits, in taps: 200 kHz in SAFE-BOOT (R70). -/
def slowest (s : State) : Nat := if inSafeBoot s then 64000 else 0

/-- The period P of a phase in taps (R120, R121). -/
def phPeriod (s : State) (p : Nat) : Nat :=
  if s.flag (PH_CTL.SYNC p) then max (s.get (Ph.PER p)) (slowest s) else s.get (Comb.PER (markComb s (p / 4)))

/-- The offset after the mark that ANGLE asks for (R121). -/
def phTarget (s : State) (p : Nat) : Nat := s.get (PH_ILV.ANGLE p) * phPeriod s p / 256

/-! ### Edges within a period (R125, R126) -/

/-- One leg of an entry clipped to the period, before issue (R126). `t1` and `t2` are the first and second on-times. -/
def legClip (per d1 d2 t1 t2 : Nat) : Nat × Nat :=
  if per < t1 then (per, 0)
  else if 0 < t2 ∧ per < t1 + d1 + t2 + d2 then (t1, per - t1 - d1 - d2)
  else (t1, t2)

/-- Both legs of an entry clipped to a period of `per` taps (R126, R127). A dead time below 8 taps acts as 8. -/
def clipped (s : State) (p : Nat) (per : Nat) (e : Timing) : Timing :=
  let hl := max 8 (s.get (PH_DT.DT_HL p))
  let lh := max 8 (s.get (PH_DT.DT_LH p))
  let leg := fun (h l : Nat) (ord : Bool) =>
    if ord then (fun q : Nat × Nat => (q.2, q.1)) (legClip per lh hl l h) else legClip per hl lh h l
  let (aH, aL) := leg e.tAH e.tAL e.ordA
  let (bH, bL) := leg e.tBH e.tBL e.ordB
  { e with tAH := aH, tAL := aL, tBH := bH, tBL := bL }

/-- The entry as it executes in a period of `per` taps: clipped, and an on-time shorter than MIN_ON is 0 (R125,
R126). -/
def executed (s : State) (p : Nat) (per : Nat) (e : Timing) : Timing :=
  let cut := fun (t : Nat) => if t < s.get (PH_DT.MIN_ON p) * 32 then 0 else t
  let x := clipped s p per e
  { x with tAH := cut x.tAH, tAL := cut x.tAL, tBH := cut x.tBH, tBL := cut x.tBL }

/-- The entry does not fit the period (R126). -/
def clips (s : State) (p : Nat) (per : Nat) (e : Timing) : Bool := clipped s p per e != e

/-- When switch `i` of the entry of the present period is on, in taps from its start: 0 AH, 1 AL, 2 BH, 3 BL. The
interlock delays a turn-on and never moves a turn-off (R125, R127). -/
def swSpan (s : State) (p : Nat) (e : Timing) (i : Nat) : Nat × Nat :=
  let (h, l, ord) := if i < 2 then timingA e else timingB e
  let (t1, t2) := if ord then (l, h) else (h, l)
  let d1 := max 8 (if ord then s.get (PH_DT.DT_LH p) else s.get (PH_DT.DT_HL p))
  let lock := s.get (Ph.LOCK p i)
  if (i % 2 == 0) != ord then (lock, t1) else (max (t1 + d1) lock, t1 + d1 + t2)

/-- The gate commands of a phase at `t` taps of the present period, or `t` taps after the entry to a hold state: bit 0 AH,
1 AL, 2 BH, 3 BL (R119, R125, R127, R129). -/
def gatesAt (s : State) (p : Fin 16) (t : Nat) : Nat :=
  match s.get (PH_STAT.STATE p), s.exec[p] with
  | 1, some e => (List.range 4).foldl (fun m i =>
      let x := swSpan s p e i
      m + (if x.1 ≤ t ∧ t < x.2 then 2 ^ i else 0)) 0
  | _, _ => (List.range 4).foldl (fun m i =>
      m + (if s.bit (Ph.GATES p) i ∧ s.get (Ph.LOCK p i) ≤ t then 2 ^ i else 0)) 0

/-- The switches that are on as the present period ends (R125). -/
def onAtEnd (s : State) (p : Fin 16) : Nat :=
  match s.get (PH_STAT.STATE p), s.exec[p] with
  | 1, some e => (List.range 4).foldl (fun m i =>
      let x := swSpan s p e i
      m + (if x.1 < x.2 ∧ s.get (Ph.LEN p) ≤ x.2 then 2 ^ i else 0)) 0
  | _, _ => s.get (Ph.GATES p)

/-- The interlock of switch `i` at the start of the next period: what remains of the dead time since the other switch of
its leg turned off (R127). -/
def nextLock (s : State) (p : Fin 16) (i : Nat) : Nat :=
  let d := max 8 (if i % 2 = 0 then s.get (PH_DT.DT_LH p) else s.get (PH_DT.DT_HL p))
  match s.get (PH_STAT.STATE p), s.exec[p] with
  | 1, some e =>
    let x := swSpan s p e (i ^^^ 1)
    if x.1 < x.2 then d - (s.get (Ph.LEN p) - x.2) else 0
  | _, _ => if s.bit (Ph.GATES p) (i ^^^ 1) then d else 0

/-! ### Plan entries of the window -/

/-- Move the first entry of this INDEX at stage `a` to stage `b`. -/
def restage (l : List PlanEntry) (idx : BitVec 8) (a b : Nat) : List PlanEntry :=
  l.map (fun e => if e.t.index = idx ∧ e.stage = a then { e with stage := b } else e)

/-- The staged register holds these entries (R123, R142). -/
def putSlots (s : State) (p : Fin 16) (l : List Timing) : State :=
  ({ s with slots := s.slots.set p l }).put (PH_STAT.SLOTS p) (2 ^ l.length - 1)

/-! ### Timebase -/

/-- The bound of a BUDGET or SHARE record on the target of its comb, `t` taps after its START: from the target in force
there to AMP over TIME (R166). -/
def recBound (r : Queued) (base t : Int) : Int :=
  let tm := recTime r.word
  if tm ≤ t then recAmp r.word else base + ((recAmp r.word - base) * t).fdiv tm

/-- A record bounds the target of comb `c`: a BUDGET record, or a SHARE record where a share target applies (R166,
R198). -/
def bounds (s : State) (c : Nat) (r : Queued) : Bool :=
  slice r.word 0 4 == 6
    || (slice r.word 0 4 == 7 && s.flag (CMB_PP_CTL.SHARE_EN c) && !inSafeBoot s && gangLead s c == c)

/-- The target of comb `c` for an entry planned for the period `k` ahead: the lower of I_T and the bounds of the queued
records that have started by then (R166). -/
def setTarget (s : State) (c : Fin 4) (k : Nat) : Int :=
  let cur := s.int (CMB_TARGET.TGT c)
  (s.antq[c].filter (bounds s c)).foldl (fun m r =>
    let t : Int := r.age + k * s.get (Comb.PER c) - recStart r.word
    if t < 0 then m else min m (recBound r (if recStart r.word ≤ r.age then r.base else cur) t)) cur

/-- What one mark period moves in the Forager: the modelled capacitor voltages and the ages of the queued
records, with the target in force at their START (R161, R166, R503). -/
def foragerTick (s : State) (c : Fin 4) : State :=
  let s1 := s.on (s.flag (Comb.MODEL_OK c)) (fun s => (s.putI (Comb.VC c 0) (busCap s c 0 1)).putI
    (Comb.VC c 1) (busCap s c 1 1))
  let per := s.get (Comb.PER c)
  let step := fun (r : Queued) =>
    let age := r.age + per
    { r with age := age, base := if r.age < recStart r.word ∧ recStart r.word ≤ age then setTarget s c 0 else r.base }
  ({ s1 with antq := s1.antq.set c (s1.antq[c].map step) }).inc (Comb.SINCE c)

/-- The mark period in force at the mark: a period written takes effect with the first period that was not staged in any
phase when it was written (R121, R169). -/
def markPeriod (s : State) (c : Fin 4) : State :=
  let per := max (s.get (CMB_MARK.PER (markComb s c))) (slowest s)
  if s.get (Comb.PERWAIT c) ≠ 0 then s.put (Comb.PERWAIT c) (s.get (Comb.PERWAIT c) - 1)
  else s.on (per != s.get (Comb.PER c)) (fun s => (s.put (Comb.PER c) per).each (combPhases c) (fun s q => s.evt (0x20 + q) 7))

/-- A phase that leaves PD duty rejoins the pool and is planned from measured state as after a hold (R154, R288). -/
def dutyLeave (s : State) (p : Fin 16) : State :=
  planAnew ((onWindow s p (fun l => l.filter (fun e => e.stage == 2))).put (Ph.DUTY p) 0 |>.put (Ph.RESTART p) 1) p

/-- The PD duty of a comb at its mark: a request takes the PD phase out of the pool, and the phase that a port has released
rejoins it. CMB_CTL.PDPH written anew in duty moves nothing until the release: the phase that serves VBUS stays out of the
pool and rejoins then (R17, R287, R288) (DESIGN CHOICE, log entry 66). -/
def combDuty (s0 : State) (c : Fin 4) : State :=
  let s := dutyReview s0 c
  let served := (combPhases c).filter (fun (q : Fin 16) => s.flag (Ph.DUTY q))
  if s.flag (PDP_STAT.DUTY c) then s
  else if s.flag (Pd.REQ c) then s.on (served.isEmpty && dutyPossible s c) (·.put (Ph.DUTY (4 * c.val + pdPhase s c)) 1)
  else s.each served dutyLeave

/-- The comb period mark falls: the PER written is in force, the bucket count of the storm window
advances, and a degraded phase whose DEGRADED has left the fault state returns to planning (R121, R159,
R160, R169), and PD duty begins and ends (R287, R288). -/
def combMark (s0 : State) (c : Fin 4) : State :=
  let s1 := combDuty (markPeriod (foragerTick s0 c) c) c
  let s2 := s1.each ((combPhases c).filter (fun (q : Fin 16) => s1.bit (CMB_STAT.DEGRADED c) (q.val % 4)
      && s1.get (Flt.STAND (0x20 + q) 7) == 0))
    (fun s q => (((s.putBit (CMB_STAT.DEGRADED c) (q.val % 4) false).clrF (CMB_CONSEC.CONSEC c)
      (15 <<< (4 * (q.val % 4)))).evt (0x10 + c) 8).on (!classActed s (0x20 + q) 2) (fun s => rejoinPlan s q))
  let full := max 1 (s0.get (CMB_STORM.WIN16 c))
  if full ≤ s2.get (Comb.MARKN c) + 1 then
    let s3 := ((s2.put (Comb.MARKN c) 0).put (Comb.EDGECNT c) (s2.get (CMB_CONSEC.STORM_CNT c))).each (List.range 15)
      (fun s i => s.put (Comb.BUCKET c (15 - i)) (s.get (Comb.BUCKET c (14 - i))))
    (s3.put (Comb.BUCKET c 0) 0).putSat (CMB_CONSEC.STORM_CNT c)
      ((List.range 15).foldl (fun a i => a + s2.get (Comb.BUCKET c i)) 0)
  else s2.wrapInc (Comb.MARKN c)

/-! ### Issue (R124, R131) -/

/-- The island takes an issue decision: its timebase runs, no cause other than an underrun holds it, and
RUN is 1 (R130, R131, R138). -/
def decides (s : State) (p : Nat) : Bool :=
  s.get (PH_STAT.STATE p) != 0 && !phHeld s p && s.flag (PH_CTL.RUN p)

/-- Discard the entry in S0 as behind: counted in STALE, and its plan entry leaves the window (R124, R143). -/
def dropStale (s : State) (p : Fin 16) (e : Timing) (rest : List Timing) : State :=
  ((onWindow (putSlots s p rest) p
    (fun l => l.filter (fun x => !(x.t.index == e.index && x.stage == 1)))).inc (PH_CNT0.STALE p)).evt
      (0x20 + p) 3

/-- The walk of a period's start towards its offset: at most floor(P / 16) taps, the shorter way round,
forward where both are equal, as for a change of 128 units whatever the parity of P (R122). The new offset and the
length of the period are given. -/
def walkStep (per ofs0 target : Nat) : Nat × Nat :=
  let ofs := ofs0 % per
  let fwd := (target + per - ofs) % per
  let lim := per / 16
  if fwd = 0 then (ofs, per)
  else if 2 * fwd ≤ per + per % 2 then
    let d := min fwd lim
    ((ofs + d) % per, per + d)
  else
    let d := min (per - fwd) lim
    ((ofs + per - d) % per, per - d)

/-- The offset at which the period after the coming one starts, and the length of the coming one in taps: a walk moves
it step by step, and without a walk it stands where ANGLE and P put it (R121, R122). -/
def comingStep (s : State) (p : Nat) : Nat × Nat :=
  let per := phPeriod s p
  if s.flag (PH_STAT.WALKING p) then walkStep per (s.get (Ph.OFS p)) (phTarget s p) else (phTarget s p, per)

/-- The length of the coming period, in taps (R122). -/
def comingLength (s : State) (p : Nat) : Nat := (comingStep s p).2

/-- Issue the entry in S0: it moves, clipped, to the executing register for the coming period (R124, R126, R131). -/
def issue (s : State) (p : Fin 16) (e : Timing) (rest : List Timing) : State :=
  let per := comingLength s p
  let s1 := onWindow (putSlots s p rest) p (fun l => restage l e.index 1 2)
  let s2 := { s1 with coming := s1.coming.set p (some (executed s p per e)) }
  let s3 := s2.on (clips s p per e) (fun s => (s.inc (PH_CNT1.CLIPPED p)).evt (0x20 + p) 4)
  let s4 := s3.on (s.flag (Ph.RESTART p)) (fun s => (s.put (Ph.RESTART p) 0).evt (0x20 + p) 6)
  (s4.put (PH_STAT.ISSUED_IDX p) e.index.toNat).put (Ph.NEXT p) 1

/-- The issue decision of a phase (R124). -/
def issueDecision (s : State) (p : Fin 16) : State :=
  if decides s p then
    match s.slots[p] with
    | [] => s.put (Ph.NEXT p) 2
    | e :: rest =>
      let d := (BitVec.ofNat 8 (s.get (Ph.PERCNT p) + 1) - e.index).toNat
      if d = 0 then issue s p e rest
      else if d ≤ 127 then (dropStale s p e rest).put (Ph.NEXT p) 2
      else s.put (Ph.NEXT p) 2
  else s.put (Ph.NEXT p) 0

/-- Four cycles before a period start the island issues, discards or keeps S0 (R124). -/
def execIssueDecision (p : Fin 16) (s : State) : Out := .next (issueDecision s p)

/-! ### Sample points (R135) -/

/-- The sample points of a phase with their cycles, in the order of their times, the lower number first among equals:
SP0 always, the others where SPEN enables them (R135). -/
def spOrder (s : State) (p : Nat) : List (Nat × Nat) :=
  let cyc := fun (i : Nat) => match i with
    | 0 => s.get (PH_SP01.SP0 p)
    | 1 => s.get (PH_SP01.SP1 p)
    | 2 => s.get (PH_SP23.SP2 p)
    | _ => s.get (PH_SP23.SP3 p)
  let put := fun (x : Nat × Nat) (l : List (Nat × Nat)) =>
    l.takeWhile (fun y => y.2 < x.2) ++ [x] ++ l.dropWhile (fun y => y.2 < x.2)
  (((List.range 4).filter (fun i => i == 0 || s.bit (PH_CTL.SPEN p) (i - 1))).map (fun i => (i, cyc i))).foldr put []

/-- The sample points taken in the present period with the cycles at which their conversions start, and the first cycle
free for a further one: 10 cycles apart, and none at or beyond the period end (R135). -/
def spTaken (s : State) (p : Nat) : List (Nat × Nat) × Nat :=
  (spOrder s p).foldl (fun a x =>
    let t := max x.2 a.2
    if s.get (Ph.EDGE p) + 32 * t < s.get (Ph.LEN p) then (a.1 ++ [(x.1, t)], t + 10) else a) ([], s.get (Ph.SPWAIT p))

/-- Sample point `sp` is taken in the present period: in RUN alone (R135). -/
def spTakes (s : State) (p sp : Nat) : Bool :=
  s.get (PH_STAT.STATE p) == 1 && (spTaken s p).1.any (fun x => x.1 == sp)

/-- The timebase part of a period start: the period counter, the walk, the length of the new period with its first
edge, what the old one leaves to the interlock and to the converter, and the end of a run of limited periods (R120 to
R122, R125, R127, R132, R133, R135). -/
def periodTick (s : State) (p : Fin 16) : State :=
  let (o, len) := comingStep s p
  let old := s.get (Ph.LEN p)
  let edge := if s.flag (PH_CTL.SYNC p) then (s.get (Ph.EDGE p) + 32 - old % 32) % 32 else (32 - s.get (Ph.OFS p) % 32) % 32
  let cycles := (old + edge - s.get (Ph.EDGE p)) / 32
  let wait := if s.get (PH_STAT.STATE p) = 1 then (spTaken s p).2 - cycles else 0
  let s1 := (s.wrapInc (Ph.PERCNT p)).on (s.flag (PH_STAT.WALKING p)) (fun s =>
    s.putB (PH_STAT.WALKING p) (s.get (Ph.OFS p) != phTarget s p))
  let s2 := ((((s1.put (Ph.OFS p) o).put (Ph.LEN p) len).put (Ph.EDGE p) edge).put (Ph.SPWAIT p) wait).put (Ph.CONT p)
    (onAtEnd s p)
  let s3 := s2.each (List.range 4) (fun s' i => s'.put (Ph.LOCK p i) (nextLock s p i))
  let s4 := s3.on (s.get (Ph.CUT p) == 0) (limitEnds · p)
  (s4.put (Ph.CUT p) 0).put (PH_STAT.CBC_NOW p) 0

/-- An underrun period: counted, EVT bit 1, and the hold state for the whole of it (R124, R130). -/
def underrun (s : State) (p : Fin 16) : State :=
  let s1 := (s.inc (PH_CNT0.UNDER p)).evt (0x20 + p) 1
  phHold (s1.putSat (Ph.UNDER_RUN p) (min 64 (s.get (Ph.UNDER_RUN p) + 1))) p false true

/-- The issued period begins: the phase is in RUN (R121, R131). -/
def beginPeriod (s : State) (p : Fin 16) : State :=
  let s1 := { s with exec := s.exec.set p s.coming[p], coming := s.coming.set p none }
  underEnds (((s1.put (PH_STAT.STATE p) 1).put (PH_STAT.HOLD_CAUSE p) 0).put (Ph.GATES p) 0) p

/-- A period that a cause other than an underrun holds ends a run of underruns, and as a period without SP0 a run of
clipped ones (R137, R140). -/
def heldPeriod (s : State) (p : Fin 16) : State := underEnds (clipEnds s p) p

/-- A period of the phase timebase starts: the entry issued for it runs, also where RUN has been cleared since; else the
phase holds (R120 to R124, R130, R131, R138). -/
def periodStart (s : State) (p : Fin 16) : State :=
  if s.get (PH_STAT.STATE p) = 0 ∨ phClockLost s p then s
  else
    let n := s.get (Ph.NEXT p)
    let s1 := (periodTick s p).put (Ph.NEXT p) 0
    if n = 1 ∧ !phForced s p then beginPeriod s1 p
    else if s.flag (Ph.ENDRUN p) then phHold (heldPeriod s1 p) p false false
    else if n = 2 ∧ !phHeld s p ∧ s.flag (PH_CTL.RUN p) then underrun (clipEnds s1 p) p
    else heldPeriod s1 p

/-- The entry is released under R145: it is one of the first two after RUN, a squash or a hold, or it lies at most three
periods after the last one confirmed (DEDUCED, log entry 29). -/
def releasable (s : State) (p : Nat) (idx : BitVec 8) : Bool :=
  let d := (idx - BitVec.ofNat 8 (s.get (Ph.CP_IDX p))).toNat
  s.get (Ph.FIRST p) != 0 || (s.flag (Ph.CP_OK p) && 1 ≤ d && d ≤ 3)

/-- The Forager writes no PLANNED entry before R145 releases it, with a slot free, and none but as it is planned; an
entry that its window does not hold meets the island's own rules alone (R123, R145). -/
def held145 (s : State) (p : Fin 16) (e : Timing) : Bool :=
  match (s.window[p]).find? (fun x => x.t.index == e.index && x.stage == 0 && !degraded s p) with
  | some x => x.t != e || 2 ≤ (s.slots[p]).length || !releasable s p e.index
  | none => false

/-- A slot write that the island discards: counted in STALE, SEQ raised, and the stale notice takes its entry out of the
window (R123, R124, R143). -/
def slotStale (s : State) (p : Fin 16) (e : Timing) : State :=
  raiseEvent (((onWindow s p (fun l => l.filter (fun x => !(x.t.index == e.index && x.stage == 0 && !degraded s p)))).inc
    (PH_CNT0.STALE p)).evt (0x20 + p) 3) (0x20 + p) 8

/-- A slot write registered in the island: into the free slot, or discarded (R123, R124, R130). The shadow of a degraded
phase is never released (R159). -/
def slotWrite (s : State) (p : Fin 16) (e : Timing) : State :=
  if phHeld s p || !s.flag (PH_CTL.RUN p) || held145 s p e then s
  else if 2 ≤ (s.slots[p]).length then slotStale s p e
  else if !s.flag (Ph.SEQANY p) && s.get (PH_STAT.NEXT_IDX p) != e.index.toNat then slotStale s p e
  else
    let s1 := (putSlots s p (s.slots[p] ++ [e])).on (!degraded s p) (fun s => onWindow s p (fun l => restage l e.index 0 1))
    ((s1.put (PH_STAT.NEXT_IDX p) (e.index.toNat + 1)).put (Ph.SEQANY p) 0).put (Ph.FIRST p) (s.get (Ph.FIRST p) - 1)

/-- The Forager writes a plan entry into the staged register (R123). -/
def execSlotWrite (p : Fin 16) (e : Timing) (s : State) : Out := .next (slotWrite s p e)

/-- The write of `PH_ILV`: a new ANGLE starts a walk while the timebase runs (R122). -/
def ilvWrite (s : State) (k : Bool) (p : Fin 16) (w : Nat) : Res :=
  specialWrite s k (0x20 + p) 0x04C w false (fun s w' =>
    let s1 := storeFields s w' (regLayout (0x20 + p) 0x04C)
    s1.on (s.get (PH_STAT.STATE p) != 0)
      (fun s => s.putB (PH_STAT.WALKING p) (s.get (Ph.OFS p) != phTarget s p)))

/-- A write of `PH_ILV.ANGLE` (R122). -/
def execWalk (a : Access) (p : Fin 16) (w : BitVec 32) (s : State) : Out :=
  .next (regOp s a (fun s k => ilvWrite s k p w.toNat))

/-- A squash registered in a phase island clears S0 and S1 (R128). -/
def execSquash (p : Fin 16) (s : State) : Out := .next (clearSlots s p)

/-! ### Hold causes (R129, R130, R134) -/

/-- A gate-driver input counts as asserted: ALL_OFF hold, then the C4 cause (R130, R134). -/
def gateDriver (s : State) (p : Fin 16) (i : Nat) : State :=
  if absent s (0x20 + p) || phClockLost s p then s
  else
    let s1 := s.putBit (Ph.GD p) i true
    raiseHeld (phStop s1 p true) (0x20 + p) i

/-- DSATk_N has been low for its filter time (R134). -/
def execDsat (p : Fin 16) (s : State) : Out := .next (gateDriver s p 0)

/-- DUVk_N has been low for its filter time (R134). -/
def execDuv (p : Fin 16) (s : State) : Out := .next (gateDriver s p 1)

/-- The hold cause that stands once a condition has changed, for a phase that is held (R142). -/
def recause (s : State) (p : Fin 16) : State :=
  s.on (s.get (PH_STAT.STATE p) != 1 && !phClockLost s p && s.get (PH_STAT.HOLD_CAUSE p) != 0)
    (·.put (PH_STAT.HOLD_CAUSE p) (phCause s p (s.get (PH_STAT.HOLD_CAUSE p) == 1)))

/-- A gate-driver input has been high for its filter time: HOLD_CAUSE 3 and its block on RUN end (R131, R134). -/
def execGateDriverInputHigh (p : Fin 16) (duv : Bool) (s : State) : Out :=
  let i := bitOf duv
  .next (if phClockLost s p || !s.bit (Ph.GD p) i then s
    else recause (causeEnds (s.putBit (Ph.GD p) i false) (0x20 + p) i) p)

/-- The decay has not reached ZBAND within FW_MAX: all switches off and the C4 cause FW_TIMEOUT (R129). -/
def execFwTimeout (p : Fin 16) (s : State) : Out :=
  .next (if s.get (PH_STAT.STATE p) = 2 ∧ !phClockLost s p then raiseEvent (phHold s p true false) (0x20 + p) 3
    else s)

/-- The current has fallen within ZBAND: the freewheel switches turn off (R129). -/
def execDecayComplete (p : Fin 16) (s : State) : Out :=
  .next (if s.get (PH_STAT.STATE p) = 2 ∧ !phClockLost s p then phRest s p else s)

/-- HOLD_CAUSE once the island's clock has returned: the field could not change without it (R142). -/
def clockRecause (s : State) (p : Fin 16) : State :=
  s.on (!phClockLost s p && s.get (PH_STAT.STATE p) != 1) (·.put (PH_STAT.HOLD_CAUSE p) (phCause s p false))

/-- RUN has been set: the phase leaves IDLE for the hold state at rest, with its period and its offset as
written, and may leave the hold state at a matching issue decision (R121, R122, R131). -/
def runSet (s : State) (p : Fin 16) : State :=
  let s1 := planAnew (((s.put (Ph.RESTART p) 1).put (Ph.SEQANY p) 1).put (Ph.ENDRUN p) 0) p
  if s.get (PH_STAT.STATE p) = 0 then
    let s2 := s1.on (s.flag (PH_STAT.PER_PENDING p)) (fun s => (s.put (PH_STAT.PER_PENDING p) 0).evt
      (0x20 + p) 7)
    let s3 := (s2.put (Ph.PER p) (s.get (PH_TB_PER.PER p))).put (PH_STAT.STATE p) 3
    let s4 := ((s3.put (Ph.OFS p) (phTarget s3 p)).put (PH_STAT.WALKING p) 0).put (Ph.EDGE p) 0
    s4.put (PH_STAT.HOLD_CAUSE p) (phCause s4 p false)
  else recause s1 p

/-- RUN has been cleared: S0 and S1 are cleared, the plans of the phase and of its set are squashed, and
the phase holds at the end of the issued period, then goes to IDLE at rest. A period for which the issue decision has
been taken still runs (R130, R138, R154). -/
def runClear (s : State) (p : Fin 16) : State :=
  let s1 := underEnds (clearSlots (s.on (s.get (PH_STAT.STATE p) != 0) (fun s => setSquash s p)) p) p
  if s.get (PH_STAT.STATE p) ≠ 0 ∧ s.get (Ph.NEXT p) = 1 then s1.put (Ph.ENDRUN p) 1
  else match s.get (PH_STAT.STATE p) with
  | 1 => s1.put (Ph.ENDRUN p) 1
  | 3 => phRest (s1.put (PH_STAT.HOLD_CAUSE p) (phCause s1 p false)) p
  | 2 => s1.put (PH_STAT.HOLD_CAUSE p) (phCause s1 p false)
  | _ => s1

/-- The write of `PH_CTL` (R130, R131, R142). -/
def phCtlWrite (s : State) (k : Bool) (p : Fin 16) (w : Nat) : Res :=
  specialWrite s k (0x20 + p) 0x040 w false (fun s w' =>
    let s1 := storeFields s w' (regLayout (0x20 + p) 0x040)
    if !s.flag (PH_CTL.RUN p) && s1.flag (PH_CTL.RUN p) then runSet s1 p
    else if s.flag (PH_CTL.RUN p) && !s1.flag (PH_CTL.RUN p) then runClear s1 p
    else s1)

/-- A write of `PH_CTL.RUN` = 1 (R131). -/
def execRunSet (a : Access) (p : Fin 16) (w : BitVec 32) (s : State) : Out :=
  .next (regOp s a (fun s k => phCtlWrite s k p w.toNat))

/-- A write of `PH_CTL.RUN` = 0 (R130). -/
def execRunCleared (a : Access) (p : Fin 16) (w : BitVec 32) (s : State) : Out :=
  .next (regOp s a (fun s k => phCtlWrite s k p w.toNat))

/-- The write of `PH_TB_PER`: held at the nearer bound, and pending until the phase leaves IDLE (R121, R142). -/
def tbPerWrite (s : State) (k : Bool) (p : Fin 16) (w : Nat) : Res :=
  specialWrite s k (0x20 + p) 0x044 w false (fun s w' =>
    let v := max 6400 (min 128000 (fieldOf w' (PH_TB_PER.PER p)))
    if !k || s.flag (PAGE_LOCK.CFG (0x20 + p)) then s
    else (s.put (PH_TB_PER.PER p) v).put (PH_STAT.PER_PENDING p) 1)

/-! ### Cycle-by-cycle limit (R132, R133) -/

/-- One leg whose tripping switch is its first (`first`) or its second, ended at `t` taps: an ended first
switch hands over to the second, which turns off as planned; an ended second switch leaves the leg off for
the rest of the period; a switch that is not on is not ended (R132). A second switch that the entry does not turn on
stays off (DESIGN CHOICE, log entry 63). The pair is of first and second on-times, `on` the turn-on of the switch. -/
def cutLeg (first : Bool) (d1 on t : Nat) (x : Nat × Nat) : Nat × Nat :=
  if t < on then x
  else if first then (if t < x.1 then (t, if x.2 = 0 then 0 else x.2 + x.1 - t) else x)
  else if t < x.1 + d1 + x.2 then (x.1, t - (x.1 + d1)) else x

/-- The entry of the present period once a comparator has tripped at `t` taps: AH and BL end for the positive
comparator, BH and AL for the negative one (R132) (DEDUCED, log entry 28). -/
def cutEntry (s : State) (p : Nat) (neg : Bool) (t : Nat) (e : Timing) : Timing :=
  let hl := max 8 (s.get (PH_DT.DT_HL p))
  let lh := max 8 (s.get (PH_DT.DT_LH p))
  let leg := fun (x : Nat × Nat × Bool) (high : Bool) (on : Nat) =>
    if x.2.2 then (fun q : Nat × Nat => (q.2, q.1)) (cutLeg (!high) lh on t (x.2.1, x.1))
    else cutLeg high hl on t (x.1, x.2.1)
  let a := leg (timingA e) (!neg) (swSpan s p e (if neg then 1 else 0)).1
  let b := leg (timingB e) neg (swSpan s p e (if neg then 2 else 3)).1
  { e with tAH := a.1, tAL := a.2, tBH := b.1, tBL := b.2 }

/-- The comparators are blanked at `t` taps: within LEB cycles after the turn-on of a switch that the tripping one may
end; a switch that stays on across the period boundary has no turn-on (R125, R132). -/
def blanked (s : State) (p : Fin 16) (neg : Bool) (t : Nat) : Bool :=
  match s.exec[p] with
  | none => false
  | some e => (if neg then [1, 2] else [0, 3]).any (fun i =>
      let x := swSpan s p e i
      decide (x.1 < x.2) && !(x.1 == 0 && s.bit (Ph.CONT p) i) && decide (x.1 ≤ t)
        && decide (t < x.1 + 32 * s.get (PH_CBC.LEB p)))

/-- A cycle-by-cycle comparator trips in the issued period, outside its blanking: the period is limited, counted once,
and sets EVT bit 2; in a hold state it is not counted (R132, R133, R138) (DEDUCED, log entry 28). -/
def cbcTrip (s : State) (p : Fin 16) (neg : Bool) (t : Nat) : State :=
  if s.get (PH_STAT.STATE p) ≠ 1 ∨ phForced s p ∨ blanked s p neg t then s
  else
    let s0 := { s with exec := s.exec.set p (s.exec[p].map (cutEntry s p neg t)) }
    let s1 := s0.putBit (Ph.CUT p) (bitOf neg) true
    if s.get (Ph.CUT p) = 0 then
      (((s1.inc (PH_CNT1.CBC p)).put (PH_STAT.CBC_NOW p) 1).putSat (Ph.CBC_RUN p)
        (min 256 (s.get (Ph.CBC_RUN p) + 1))).evt (0x20 + p) 2
    else s1

/-- A cycle-by-cycle comparator trips (R132). -/
def execCbc (p : Fin 16) (neg : Bool) (t : Nat) (s : State) : Out := .next (cbcTrip s p neg t)

/-- PERSIST consecutive limited periods raise CBC_PERSIST, once per unbroken run; it stays present while
the run continues (R133). -/
def execCbcPersist (p : Fin 16) (s : State) : Out :=
  .next (if max 1 (s.get (PH_CBC.PERSIST p)) ≤ s.get (Ph.CBC_RUN p) ∧ !s.flag (Ph.CBC_SAID p) then
    raiseHeld (s.put (Ph.CBC_SAID p) 1) (0x20 + p) 4 else s)

/-! ### Sense converter (R135 to R137) -/

/-- The corrected value C of a raw code (R136), as the 29-bit two's complement integer of the register. -/
def phCorrect (s : State) (p : Nat) (raw : BitVec 12) : Int :=
  toSigned 29 (ofSigned 29 ((raw.toInt + s.int (PH_SNS_CAL.OFS p)) * s.get (PH_SNS_CAL.GAIN p)))

/-- The raw code is clipped (R137). -/
def phClipped (raw : BitVec 12) : Bool := raw.toInt == -2048 || raw.toInt == 2047

/-- A conversion at sample point `sp`, where the period takes it; the result enters the
accumulators of that source (R135 to R137, R326). -/
def samplePoint (s : State) (p : Fin 16) (sp : Fin 4) (raw : BitVec 12) : State :=
  if !spTakes s p sp || phClockLost s p then s
  else
    let clip := phClipped raw
    let v := phCorrect s p raw
    let s1 := accDeliver (s.on clip (·.evt (0x20 + p) 5)) (256 + 4 * p.val + sp.val)
      ⟨v, BitVec.ofNat 16 (tagOf 1 v), clip⟩ false
    if sp = 0 then
      let s2 := (s1.putI (PH_ISNS_EOP.VALUE p) v).putB (PH_ISNS_EOP.CLIP p) clip
      if clip then s2.putSat (Ph.SAT_RUN p) (min 8 (s.get (Ph.SAT_RUN p) + 1))
      else clipEnds s2 p
    else (s1.putI (Ph.SPV p sp) v).putB (Ph.SPC p sp) clip

/-- A phase-sense conversion at a sample point (R135) (DESIGN CHOICE, log entry 60). -/
def execSamplePoint (p : Fin 16) (sp : Fin 4) (raw : BitVec 12) (s : State) : Out :=
  .next (samplePoint s p sp raw)

/-- SP0 clipped in 8 consecutive periods raises SNS_SAT, once per unbroken run (R137). -/
def execSnsSat (p : Fin 16) (s : State) : Out :=
  .next (if s.get (Ph.SAT_RUN p) = 8 ∧ !s.flag (Ph.SAT_SAID p) then
    raiseHeld (s.put (Ph.SAT_SAID p) 1) (0x20 + p) 6 else s)

/-- 64 consecutive underrun periods while RUN is 1 raise PLAN_STARVED, once per unbroken run (R140). -/
def execPlanStarved (p : Fin 16) (s : State) : Out :=
  .next (if s.get (Ph.UNDER_RUN p) = 64 ∧ s.flag (PH_CTL.RUN p) ∧ !s.flag (Ph.STARVED p) then
    raiseHeld (s.put (Ph.STARVED p) 1) (0x20 + p) 5 else s)

end Sys2Proof.Machine
end

