-- ==== Sys2Proof/Machine/Forager.lean ====
section
/-! DEFINITION. The Forager (chapter 7): planning, confirmation and misses, degradation and storms,
anticipation records, model tables and gangs (R18, R143 to R175, R503). -/

namespace Sys2Proof.Machine

/-! ### Planning (R144, R147) -/

/-- The depth in force of one comb (R144, R160). -/
def ownDepth (s : State) (c : Nat) : Nat :=
  if inSafeBoot s || combStorm s c then min 4 (s.get (CMB_PLAN_CTL.DEPTH c))
  else s.get (CMB_PLAN_CTL.DEPTH c)

/-- The depth in force: the smallest of the members of a gang (R144). -/
def depthOf (s : State) (c : Nat) : Nat :=
  (gangOf s c).foldl (fun d m => min d (ownDepth s m)) 16

/-- A queued record shapes the period that starts `k` periods ahead: by its load, or by a bound below I_T (R146, R166). -/
def anticipated (s : State) (c : Fin 4) (k : Nat) : Bool :=
  let per := s.get (Comb.PER c)
  s.antq[c].any (fun r => recLoads r.word
    && decide ((recStart r.word : Int) ≤ r.age + (k + max 1 (s.get (CMB_ANT_CFG.PRE_PER c))) * per))
    || decide (setTarget s c k < s.int (CMB_TARGET.TGT c))

/-! ### Targets of the phases (R166, R292) -/

/-- The pool phases of a comb: in RUN and not in PD duty (R176). -/
def poolPhases (s : State) (c : Nat) : List Nat :=
  ((List.range 4).map (fun k => 4 * c + k)).filter (fun p => s.flag (PH_CTL.RUN p) && !s.flag (Ph.DUTY p))

/-- The modelled voltage of bus `x` in the period `k` ahead stands inside the headroom of a record of amplitude `amp`:
at most VHEAD x 0.1 % above the regulation target for a positive one, at most as much below it for a negative one; a bus
without a target has no headroom to leave (R166). -/
def inHeadroom (s : State) (c : Fin 4) (x : Nat) (amp : Int) (k : Nat) : Bool :=
  let tgt : Int := 10000 * (if x = 0 then s.get (CMB_VSYS.TGT c)
    else ((gangOf s c).flatMap (closedEngines s)).foldl (fun m e => if m = 0 then s.get (CHG_SETPT.V_EFF e)
      else min m (s.get (CHG_SETPT.V_EFF e))) 0 : Nat)
  let room := (tgt * s.get (CMB_ANT_CFG.VHEAD c)).fdiv 1000
  tgt == 0 || (if 0 ≤ amp then decide (busVolt s c x k ≤ tgt + room) else decide (tgt - room ≤ busVolt s c x k))

/-- How many steps of the pre-bias ramp of a record have been made at the end of the period `k` ahead, of PRE_PER: the
ramp stops with the last period before the first one outside the headroom (R166) (DEDUCED, log entry 29). -/
def biasSteps (s : State) (c : Fin 4) (r : Queued) (k : Nat) : Nat :=
  let n := max 1 (s.get (CMB_ANT_CFG.PRE_PER c))
  let per : Int := max 1 (s.get (Comb.PER c))
  let made := fun (j : Int) => (max 0 (min (n : Int) ((r.age + (j + 1) * per - recStart r.word).fdiv per + n))).toNat
  let x := if r.word.testBit 12 then 1 else 0
  match (List.range (k + 1)).find? (fun (j : Nat) => decide (made ((j : Int) - 1) < made j)
      && !inHeadroom s c x (recAmp r.word) j) with
  | some j => made ((j : Int) - 1)
  | none => made k

/-- What a record adds to the set's current in the period `k` ahead: the pre-bias up to START, from START the rest by its
SHAPE. More current drawn from the system bus takes current from the phases, and from the battery bus asks for it (R119,
R166). -/
def recShare (s : State) (c : Fin 4) (r : Queued) (k : Nat) : Int :=
  let amp := recAmp r.word
  let n := max 1 (s.get (CMB_ANT_CFG.PRE_PER c))
  let bias := (amp * s.get (CMB_ANT_CFG.PREBIAS c) * biasSteps s c r k).fdiv (256 * n)
  let t := r.age + (k + 1) * s.get (Comb.PER c) - recStart r.word
  let v := if t ≤ 0 then bias else bias + fdivOpen ((amp - bias) * recAt r.word t.toNat) amp
  if r.word.testBit 12 then v else 0 - v

/-- The share of one phase of what the queued records of a bus add, divided among `n` phases (R166). -/
def preBias (s : State) (c : Fin 4) (bus : Bool) (n k : Nat) : Int :=
  ((s.antq[c].filter (fun r => recLoads r.word && r.word.testBit 12 == bus)).foldl (fun a r => a + recShare s c r k) 0).fdiv
    (max 1 n : Nat)

/-- The target of a PD phase in duty: towards zero until the connector is served, then the port's current with what moves
the output capacitance to the reference in one period, out of the battery bus; the rectifier carries none the other way
(R286, R287, R292, R297) (DEDUCED, log entry 29). -/
def pdGoal (s : State) (c : Nat) : Int :=
  if s.flag (PDP_STAT.SW_ON c) then
    let dv : Int := (s.get (Pd.REF c) : Int) - 10 * s.get (Port.VS (pdPort c))
    min 0 (0 - (s.int (Port.I (pdPort c))
      + (1280 * max 1 (s.get (PORT_PD_CFG.C_OUT c)) * dv).fdiv (max 1 (s.get (Comb.PER c)) : Nat)))
  else 0

/-- What `MAINT_CFG.SLEW` moves in one mark period, in 1/65536 of 10 mA (R475, R478). -/
def drainSlew (s : State) (c : Nat) : Nat := max 1 (s.get MAINT_CFG.SLEW) * s.get (Comb.PER c) * 32 / 625

/-- The share of phase `p` is held and ramped by live maintenance: out, or back (R475, R477). -/
def ramps (s : State) (p : Nat) : Bool := s.get (Mnt.OUT p) == 1 || s.flag (Mnt.BACK p)

/-- The held share of a ramping phase `k` mark periods on, in 1/65536 of 10 mA: towards zero on its way out, towards
the share `e` of the others on its way back (R475, R477). -/
def rampAt (s : State) (p k : Nat) (e : Int) : Int :=
  let v := s.int (Mnt.SHARE p)
  let d : Int := k * drainSlew s (p / 4)
  v + clampInt (-d) d ((if s.get (Mnt.OUT p) = 1 then 0 else 65536 * e) - v)

/-- The phases of the charging pool of a comb's gang (R176, R197). -/
def setPool (s : State) (c : Nat) : List Nat := (gangOf s c).flatMap (poolPhases s)

/-- The target of the set for the period `k` ahead that its run-ahead phases carry: the set target with the perturbation of a
sweep, less the measured currents of the degraded phases (R166, R245). -/
def aheadTarget (s : State) (c k : Nat) : Int :=
  let set := (gangOf s c).foldl (fun m d => m + setTarget s (Fin.ofNat 4 d) k) 0
  let delta := ((sweepsOn s c).foldl (fun m n => m + s.int (Imp.DELTA n)) 0).fdiv 10
  set + delta - ((setPool s c).filter (degraded s)).foldl (fun m q => m + measured s q) 0

/-- The equal share of a run-ahead phase (R166). -/
def equalShare (s : State) (c k : Nat) : Int :=
  (aheadTarget s c k).fdiv (max 1 ((setPool s c).filter (fun q => !degraded s q)).length : Nat)

/-- The part of a run-ahead phase in the target of its set: its ramped share under live maintenance, else an equal part of
what those leave, with its part of the anticipations (R166, R475, R477). -/
def aheadGoal (s : State) (c : Fin 4) (p k : Nat) : Int :=
  let e := equalShare s c k
  if ramps s p then (rampAt s p k e).fdiv 65536
  else
    let steady := fun (l : List Nat) => l.filter (fun q => !degraded s q && !ramps s q)
    let pool := setPool s c
    let held := (pool.filter (fun q => !degraded s q && ramps s q)).foldl (fun m q => m + (rampAt s q k e).fdiv 65536) 0
    (aheadTarget s c k - held).fdiv (max 1 (steady pool).length : Nat)
      + preBias s c true (steady pool).length k + preBias s c false (steady (poolPhases s c)).length k

/-- The current target of a phase for the period `k` ahead, LSB 10 mA: its part of the set target, the anticipations and the
perturbation of a sweep, within I_MIN and I_MAX of its model block (R148, R166, R245, R475) (DEDUCED, log entry 29). -/
def phaseGoal (s : State) (p : Fin 16) (a k : Nat) : Int :=
  let c : Fin 4 := ⟨p.val / 4, by omega⟩
  let v := if s.flag (Ph.DUTY p) then pdGoal s c
    else if degraded s p then ((gangOf s c).foldl (fun m d => m + setTarget s (Fin.ofNat 4 d) k) 0).fdiv
      (max 1 (setPool s c).length : Nat)
    else aheadGoal s c p k
  let b := modelBlock a (p.val % 4)
  clampInt (s.leInt (b + 0x26) 2) (s.leNat (b + 0x24) 2) v

/-- The share at which a phase is held as its ramp to zero begins, in 1/65536 of 10 mA (R475). -/
def heldShare (s : State) (p : Nat) : Int := 65536 * aheadGoal s (Fin.ofNat 4 (p / 4)) p 0

/-- The ramped shares of the phases of a comb move by SLEW at its mark; one that has reached the share of the others is
ramped no longer (R475, R477). -/
def rampShares (s : State) (c : Nat) : State :=
  s.each ((List.range 4).map (fun k => 4 * c + k) |>.filter (ramps s)) (fun t p =>
    let e := equalShare s c 0
    let v := rampAt s p 1 e
    (t.putI (Mnt.SHARE p) v).on (s.get (Mnt.OUT p) != 1 && v == 65536 * e) (·.put (Mnt.BACK p) 0))

/-! ### The pipeline (R147) -/

/-- The first period that a lane may plan next: after the youngest entry; with only ISSUED ones in the window, the first
not yet issued, or the one after it where the issue decision of that one lies closer than 400 ns (`close`) and a squash, a
hold or RUN starts the sequence anew; a shadow entry may be for either (R144, R154, R156, R159). -/
def nextIndex (s : State) (p : Fin 16) (close : Bool) (idx : BitVec 8) : Bool :=
  match (s.window[p]).getLast? with
  | some l => if l.stage ≠ 2 then idx == l.t.index + 1 else first
  | none => first
where
  /-- the first period not yet issued -/
  first : Bool :=
    let b := BitVec.ofNat 8 (s.get (Ph.PERCNT p) + 1 + bitOf (s.get (Ph.NEXT p) != 0))
    let skips := close && s.get (Ph.FIRST p) == 2
    (!skips && idx == b) || ((skips || degraded s p) && idx == b + 1)

/-- The periods from the last one confirmed to an entry, 1 to 16; before any confirmation since RUN or a hold they are
counted from the present period (R151) (DESIGN CHOICE, log entry 63). -/
def lookAhead (s : State) (p : Nat) (idx : BitVec 8) : Nat :=
  max 1 (min 16 (idx - BitVec.ofNat 8 (if s.flag (Ph.CP_OK p) then s.get (Ph.CP_IDX p) else s.get (Ph.PERCNT p))).toNat)

/-- A lane's entry for phase `p` with its timing, as PREDICT gives it: the period before, the start value, the mean and
the end current and the band (R147, R150, R151). -/
def lanePredict (s : State) (p : Fin 16) (a : Nat) (e : Timing) : PlanEntry × Int :=
  let c : Fin 4 := ⟨p.val / 4, by omega⟩
  let k := ahead s p e.index
  let (prev, start) := match (s.window[p]).getLast? with
    | some l => (if e.index = l.t.index + 1 then l.t else noTiming, l.iPred)
    | none => (before s p e.index, s.int (PH_ISNS_EOP.VALUE p))
  let avg := meanCurrent s p a prev e start k
  let iPred := toSigned 29 (ofSigned 29 (start + deltaC s p a prev e avg k))
  let ant := anticipated s c k
  ({ t := e, stage := 0, ant := ant, pdph := p.val % 4 == pdPhase s c, gen := s.get (CMB_STAT.GEN c),
     band := bandOf s p a (lookAhead s p e.index) start iPred ant, iPred := iPred, iAvg := avg,
     goal := phaseGoal s p a k }, start)

/-- A predicted current lies beyond I_MIN or I_MAX of the phase and moves further out (R148, R180). -/
def beyond (s : State) (p : Nat) (a : Nat) (start iPred : Int) : Bool :=
  let b := modelBlock a (p % 4)
  (decide (s.leNat (b + 0x24) 2 * cPerA s p < 100 * iPred) && decide (start < iPred))
    || (decide (100 * iPred < s.leInt (b + 0x26) 2 * cPerA s p) && decide (iPred < start))

/-- A lane commits an entry: its end current and its band are predicted, and it is placed in the window as
PLANNED (R146, R147, R150, R151). Which on-times the lane chooses for the target is its own (DESIGN CHOICE, log entry 29). For
a degraded phase the entry is the shadow of R159. -/
def planCommit (s : State) (p : Fin 16) (e : Timing) (close : Bool) : State :=
  match modelTable s (p.val / 4) with
  | none => s
  | some a =>
    let x := lanePredict s p a e
    if !plans s p || !nextIndex s p close e.index || (if degraded s p then 2 else depthOf s (p.val / 4)) ≤ (s.window[p]).length
        || beyond s p a x.2 x.1.iPred then s
    else onWindow s p (· ++ [x.1])

/-- A lane completes FETCH through COMMIT (R147). -/
def execPlanEntryCommit (p : Fin 16) (e : Timing) (close : Bool) (s : State) : Out := .next (planCommit s p e close)

/-- Average-current control of a degraded phase: its output for the entry of the period after next, from the phase
target and the latest SP1 result, or SP0 where SP1 is disabled (R159) (DEDUCED, log entry 29). -/
def degradedStep (s : State) (p : Fin 16) (goal : Int) : State :=
  match modelTable s (p.val / 4) with
  | none => s
  | some a =>
    let b := modelBlock a (p.val % 4)
    let c := if s.bit (PH_CTL.SPEN p) 0 then s.int (Ph.SPV p 1) else s.int (PH_ISNS_EOP.VALUE p)
    let err := goal - fdivOpen (100 * c) (cPerA s p)
    let i := s.int (Ph.DINT p) + s.leNat (b + 0x2A) 2 * err
    (s.putI (Ph.DINT p) i).putI (Ph.DOUT p) ((i + 16 * s.leNat (b + 0x28) 2 * err).fdiv 100)

/-- A period of a phase starts, and the Forager computes the entry of a degraded one (R121, R159). -/
def phasePeriod (s : State) (p : Fin 16) : State :=
  (periodStart s p).on (degraded s p && plans s p) (fun t => match modelTable s (p.val / 4) with
    | some a => degradedStep t p (phaseGoal s p a 2)
    | none => t)

/-- A period of the phase timebase starts (R121). -/
def execPeriodStart (p : Fin 16) (s : State) : Out := .next (phasePeriod s p)

/-- A plan entry in the 128-bit layout of R146. -/
def entryWord (p : Nat) (e : PlanEntry) : Nat :=
  e.t.tAH % 2 ^ 17 + (e.t.tAL % 2 ^ 17) * 2 ^ 17 + (e.t.tBH % 2 ^ 17) * 2 ^ 34 + (e.t.tBL % 2 ^ 17) * 2 ^ 51
    + bitOf e.t.ordA * 2 ^ 68 + bitOf e.t.ordB * 2 ^ 69 + e.t.index.toNat * 2 ^ 70 + (p % 4) * 2 ^ 78
    + e.stage * 2 ^ 80 + bitOf e.ant * 2 ^ 83 + (e.gen % 2) * 2 ^ 84 + (e.band % 2 ^ 11) * 2 ^ 85
    + ofSigned 29 e.iPred * 2 ^ 96 + bitOf e.pdph * 2 ^ 125

/-- The read of `CMB_PEEK0` captures the entry at the selected position, or zero (R175). -/
def peekCapture (s : State) (c : Fin 4) : State :=
  let p : Fin 16 := Fin.ofNat 16 (4 * c.val + s.get (CMB_PEEK_SEL.PHASE c))
  let v := match (s.window[p])[s.get (CMB_PEEK_SEL.POS c)]? with
    | some e => entryWord p e
    | none => 0
  (((s.put (CMB_PEEK0.ENTRY c) v).put (CMB_PEEK1.ENTRY c) (v / 2 ^ 32)).put (CMB_PEEK2.ENTRY c)
    (v / 2 ^ 64)).put (CMB_PEEK3.ENTRY c) (v / 2 ^ 96)

/-! ### Confirmation and misses (R152, R155 to R158) -/

/-- The consecutive-miss count of a phase (R158). -/
def consec (s : State) (p : Nat) : Nat := slice (s.get (CMB_CONSEC.CONSEC (p / 4))) (4 * (p % 4)) 4

/-- Write it. -/
def setConsec (s : State) (p v : Nat) : State :=
  let f := CMB_CONSEC.CONSEC (p / 4)
  s.put f (andNot (s.get f) (15 <<< (4 * (p % 4))) ||| (v <<< (4 * (p % 4))))

/-- The phases of the gang of comb `c` with a miss on the present edge, in rising order (R171). -/
def missedPhases (s : State) (c : Nat) : List (Fin 16) :=
  (List.finRange 16).filter (fun p => (gangOf s c).contains (p.val / 4) && s.bit (Comb.MISSED (p.val / 4)) (p.val % 4))

/-- The squash of the misses of one edge in the set of comb `c`: one squash and one storm count, in the comb of the
lowest-numbered phase that missed (R154, R160, R171). -/
def edgeSquash (s : State) (c : Nat) : State :=
  match missedPhases s c with
  | [] => s
  | p :: _ => missSquash (s.each (gangOf s c) (fun s d => s.put (Comb.MISSED d) 0)) p

/-- An entry is MISSED (R152, R158). A miss of a shadow counts only in the consecutive count (R159); an entry
of the old generation neither squashes nor advances that count (R168). -/
def missed (s : State) (p : Fin 16) (e : PlanEntry) (cause : Nat) (dev : Int) : State :=
  let c := p.val / 4
  let s0 := onWindow s p (fun l => l.filter (fun x => !(x.t.index == e.t.index)))
  let advance := cause ≤ 2 ∧ e.gen = s.get (CMB_STAT.GEN c)
  let s1 := s0.on (decide advance) (fun s' => setConsec s' p (min 8 (consec s p + 1)))
  if degraded s p then s1
  else (missRecord s1 p e.t.index.toNat cause dev).on (e.gen == s.get (CMB_STAT.GEN c)) (fun s =>
    s.putBit (Comb.MISSED c) (p.val % 4) true)

/-- The set's part of a checkpoint, in comb `d`: what the confirmation found of measurements and targets (R155). -/
def setCheckpoint (s0 s : State) (d : Fin 4) : State :=
  let s1 := s.each [0, 1] (fun s' i => ((s'.putI (Comb.CP d i) (s.int (Comb.VC d i))).putI
    (Comb.CP d (6 + i)) (s.int (Comb.IRES d i))).put (Comb.CP d (4 + i)) (s.get (Comb.TAGV d i)))
  let s2 := (s1.put (Comb.CP d 2) (s0.get (Comb.VSYS d))).put (Comb.CP d 3) (s0.get (Comb.VBB d))
  let s3 := (s2.putI (Comb.CP d 8) (s0.int (CMB_TARGET.TGT d))).putI (Comb.CP d 9) (s0.int (Comb.SHARE_TGT d))
  (s3.put (Comb.CP d 10) (s0.antq[d]).length).put (Comb.CP d 11) (s0.get (Comb.MARKN d))

/-- The integrator of the loop that governs, or the target itself where no loop does (R155, R180). -/
def loopIntegrator (s : State) (c : Nat) : Int :=
  let g := s.get (CMB_PP_STAT.GOVERN c)
  if 1 ≤ g ∧ g ≤ 4 then s.int (Comb.INTEG c (g - 1)) else 256 * s.int (CMB_TARGET.TGT c)

/-- The checkpoints of a confirmation: of the phase and of its set, in every comb of the gang (R155, R503). -/
def checkpoint (s : State) (p : Fin 16) (e : PlanEntry) (x : Tagged) : State :=
  let c : Fin 4 := ⟨p.val / 4, by omega⟩
  let s1 := ((((s.put (Ph.CP_IDX p) e.t.index.toNat).put (Ph.CP_OK p) 1).putI (Ph.CP_C p) x.val).put (Ph.CP_TAG p)
    x.tag.toNat).put (Ph.CP_ORD p) (bitOf e.t.ordA + 2 * bitOf e.t.ordB)
  let s2 := (((s1.put (Ph.CP_ON p 0) e.t.tAH).put (Ph.CP_ON p 1) e.t.tAL).put (Ph.CP_ON p 2) e.t.tBH).put
    (Ph.CP_ON p 3) e.t.tBL
  let s3 := (((s2.putI (Ph.CP_I p) e.iPred).putI (Ph.CP_INT p) (loopIntegrator s c)).put
    (Ph.CP_EPOCH p) (s.get (Comb.EPOCH c))).put (Ph.CP_GEN p) e.gen
  let s4 := busCheckpoint s3 c
  s4.each ((List.finRange 4).filter (fun (d : Fin 4) => (gangOf s c).contains d.val)) (fun t d => setCheckpoint s t d)

/-- The Forager releases the next entry of a phase whose INDEX `idx` has been confirmed: the oldest PLANNED one, where R145
admits it and a slot is free (R145, R152). -/
def releaseNext (s : State) (p : Fin 16) : State :=
  match (s.window[p]).find? (fun y => y.stage == 0) with
  | some y => s.on (releasable s p y.t.index && decide ((s.slots[p]).length < 2)) (fun s => slotWrite s p y.t)
  | none => s

/-- An entry is CONFIRMED (R152, R155, R158): the checkpoints are written and the next entry is released. An entry that is
due for release and not yet committed records LANE_OVR (R145, R173). -/
def confirmed (s : State) (p : Fin 16) (e : PlanEntry) (x : Tagged) : State :=
  let c := p.val / 4
  let s1 := setConsec (onWindow s p (fun l => l.filter (fun y => !(y.t.index == e.t.index)))) p 0
  if degraded s p then s1
  else
    let s2 := checkpoint (s1.put64 (CMB_CONF_LO.CONF c) (CMB_CONF_HI.CONF c)
      (s1.get64 (CMB_CONF_LO.CONF c) (CMB_CONF_HI.CONF c) + 1)) p e x
    let due := plans s p && decide ((s.slots[p]).length < 2)
      && !(s.window[p]).any (fun y => y.t.index == e.t.index + 3)
    releaseNext (s2.on due (fun s => raiseEvent s (0x10 + c) 4)) p

/-- The comparison of an SP0 result with the prediction of the entry that it carries (R152, R168)
(DEDUCED, log entry 29). -/
def compareResult (s : State) (p : Fin 16) (e : PlanEntry) (x : Tagged) (cbcNow : Bool) : State :=
  match tagCheck s (0x10 + p.val / 4) x.val x.tag with
  | (false, s1) => missed s1 p e 3 0
  | (true, s1) =>
    let d := x.val - e.iPred
    if cbcNow then missed s1 p e 4 (d.fdiv 16384)
    else if x.clip then missed s1 p e 1 0
    else if d.natAbs ≤ e.band * 16384 then confirmed s1 p e x
    else missed s1 p e 0 (d.fdiv 16384)

/-- The entry in flight that an SP0 result or its absence names: executing, or the shadow (R143, R159). -/
def judged (s : State) (p : Fin 16) (idx : BitVec 8) : Option PlanEntry :=
  (s.window[p]).find? (fun e => e.t.index == idx && (e.stage == 2 || degraded s p))

/-- A decision of the comparison unit; the squash of the misses of one Forager edge follows the last of them, `more` for
one that is not the last (R152, R171). -/
def decision (s : State) (p : Fin 16) (idx : BitVec 8) (more : Bool) (g : PlanEntry → State) : State :=
  (match judged s p idx with
    | some e => g e
    | none => s).on (!more) (fun s => edgeSquash s (p.val / 4))

/-- An SP0 result reaches the Forager (R152). A result of a phase that is no longer in RUN is discarded, and nothing is
counted (R171). -/
def execConfirmation (p : Fin 16) (k : Compared) (x : Tagged) (cbcNow : Bool) (s : State) : Out :=
  .next (decision s p k.idx k.more (fun e => if s.get (PH_STAT.STATE p) = 1 then compareResult s p e x cbcNow
    else onWindow s p (fun l => l.filter (fun y => !(y.t.index == e.t.index)))))

/-- No SP0 result has come within 120 ns after the end of the issued period (R152). -/
def execNosample (p : Fin 16) (k : Compared) (s : State) : Out :=
  .next (decision s p k.idx k.more (fun e => missed s p e 2 0))

/-- A squash relayed through the hive is registered in a gang partner (R157). -/
def execGangSquash (c : Fin 4) (s : State) : Out :=
  .next (if s.get (CMB_GANG.STATE c) = 2 then squashComb s c else s)

/-! ### Degradation and storms (R159, R160) -/

/-- A consecutive count of 8 degrades the phase, or raises DEGRADED again for a degraded one; the count starts
again from 0 (R159). -/
def degrade (s : State) (p : Fin 16) : State :=
  if consec s p = 8 then
    let s1 := (setConsec s p 0).putBit (CMB_STAT.DEGRADED (p.val / 4)) (p.val % 4) true
    let s2 := s1.on (!s.bit (CMB_STAT.DEGRADED (p.val / 4)) (p.val % 4)) (fun s' => ((leavePlan (s'.put (Ph.DINT p) 0) p
      (degraded s p)).put (Ph.DOUT p) 0).evt (0x10 + p.val / 4) 2)
    raiseEvent s2 (0x20 + p) 7
  else s

/-- The consecutive-miss count of a phase has reached 8 (R159). -/
def execDegrade (p : Fin 16) (s : State) : Out := .next (degrade s p)

/-- The PLANNED entries beyond the depth in force leave the windows of the gang of comb `c`, without a squash (R144, R160). -/
def withdrawBeyond (s : State) (c : Nat) : State :=
  s.each ((gangOf s c).flatMap combPhases) (fun s p => onWindow s p (fun l =>
    l.take (depthOf s c) ++ (l.drop (depthOf s c)).filter (fun e => e.stage != 0)))

/-- Storm begins: double bands, reduced depth, the entries beyond it withdrawn without a squash (R160). -/
def stormEnter (s : State) (c : Fin 4) : State :=
  if s.get (CMB_STORM.TH c) ≠ 0 ∧ s.get (CMB_STORM.TH c) ≤ s.get (CMB_CONSEC.STORM_CNT c)
      ∧ !s.flag (CMB_STAT.STORM c) then
    let s1 := ((s.put (CMB_STAT.STORM c) 1).inc (CMB_SQ_CNT.STORMS c)).evt (0x10 + c) 3
    raiseHeld (withdrawBeyond s1 c) (0x10 + c) 3
  else s

/-- The squash count of the window reaches TH (R160). -/
def execStormEnter (c : Fin 4) (s : State) : Out := .next (stormEnter s c)

/-- At a bucket boundary with the count of the 16 buckets that ended there at most floor(TH / 4), storm ends (R160). -/
def stormExit (s : State) (c : Fin 4) : State :=
  if s.flag (CMB_STAT.STORM c) ∧ s.get (Comb.MARKN c) = 0
      ∧ s.get (Comb.EDGECNT c) ≤ s.get (CMB_STORM.TH c) / 4 then
    causeEnds ((s.put (CMB_STAT.STORM c) 0).evt (0x10 + c) 4) (0x10 + c) 3
  else s

/-- Storm ends at a bucket boundary (R160). -/
def execStormExit (c : Fin 4) (s : State) : Out := .next (stormExit s c)

/-! ### Anticipation records (R161 to R167) -/

/-- Two records share KIND and ORIGIN, or are both SHARE records (R164). -/
def sameRecord (v w : Nat) : Bool :=
  slice v 0 4 == slice w 0 4 && (slice v 4 6 == slice w 4 6 || slice v 0 4 == 7)

/-- The periods that pass, from a phase's present one, until the first that starts after START less PRE_PER
periods; `u0` is how much of the mark period had passed at the registration (R121, R165). -/
def firstAffected (s : State) (c : Fin 4) (w u0 : Nat) (p : Fin 16) : Nat :=
  let per : Int := max 1 (s.get (Comb.PER c))
  let t0 : Int := recStart w - max 1 (s.get (CMB_ANT_CFG.PRE_PER c)) * per
  let u := ((u0 : Int) - s.get (Ph.OFS p)) % per
  if t0 < -u then 0 else ((t0 + u) / per + 1).toNat

/-- The record is late in phase `p`: its first affected period is STAGED or ISSUED (R165). -/
def lateIn (s : State) (c : Fin 4) (w u0 : Nat) (p : Fin 16) : Bool :=
  let idx := BitVec.ofNat 8 (s.get (Ph.PERCNT p) + firstAffected s c w u0 p)
  (s.window[p]).any (fun e => e.t.index == idx && e.stage != 0)

/-- The PLANNED entries of a phase from its first affected period on leave the window, to be planned again;
this is not a squash (R165). -/
def replanFrom (s : State) (c : Fin 4) (w u0 : Nat) (p : Fin 16) : State :=
  let n0 := firstAffected s c w u0 p
  onWindow s p (fun l => l.filter (fun e => e.stage != 0
    || decide ((e.t.index - BitVec.ofNat 8 (s.get (Ph.PERCNT p))).toNat < n0)))

/-- One comb's queue takes a record (R164, R165). The part of the mark period that has passed is a free value: the spec
gives the commands no time in it (DESIGN CHOICE, log entry 63). -/
def enqueue (s0 : State) (c : Fin 4) (w : Nat) : State :=
  let q := s0.antq[c].filter (fun r => !sameRecord r.word w)
  if !s0.flag (CMB_CTL.ANT_EN c) then s0
  else if slice w 0 4 = 15 then { s0 with antq := s0.antq.set c (s0.antq[c].filter (fun r => slice r.word 4 6 != slice w 4 6)) }
  else if slice w 0 4 = 0 ∨ 9 ≤ slice w 0 4 then s0.inc (CMB_ANT_CNT.OVF c)
  else if 16 ≤ q.length then raiseEvent ((s0.inc (CMB_ANT_CNT.OVF c)).evt (0x10 + c) 6) (0x10 + c) 6
  else
    let (n, s) := s0.fresh
    let u0 := Config.freeNat n % max 1 (s.get (Comb.PER c))
    let r : Queued := { word := w, age := -u0, base := setTarget s0 c 0 }
    let s1 := { s with antq := s.antq.set c (q ++ [r]) }.inc (CMB_ANT_CNT.ACCEPTED c)
    let set := (combPhases c).filter (fun (p : Fin 16) => inSet s p)
    let late := set.any (lateIn s c w u0)
    let s2 := s1.on late (fun s => (s.inc (CMB_ANT_CNT.LATE c)).evt (0x10 + c) 5)
    let s3 := s2.each set (fun s p => replanFrom s c w u0 p)
    s3.on (slice w 0 4 == 7 && s.flag (CMB_PP_CTL.SHARE_EN c) && !inSafeBoot s)
      (fun s => ((s.put (CMB_PP_STAT.SHARE_LIVE c) 1).put (Arb.SHARE_OUT c) 0).put (Arb.SHARE_AGE c) 0)

/-- A record registered in a comb: also in every member of its gang for BUS = 1 and for SHARE (R164). A SHARE or
PD_TRANS record disturbs a running sweep point (R250). -/
def postRecord (s0 : State) (c : Fin 4) (w : Nat) : State :=
  let s := s0.on (slice w 0 4 == 4 || slice w 0 4 == 7) (fun s => impDisturb s c)
  if w.testBit 12 || slice w 0 4 == 7 then
    s.each ((List.finRange 4).filter (fun (d : Fin 4) => (gangOf s c).contains d.val && foragerRuns s d))
      (fun s d => enqueue s d w)
  else s.on (foragerRuns s c) (fun s => enqueue s c w)

/-- A record of a given kind, whatever its KIND field was. -/
def ofKind (k : Nat) (r : BitVec 64) : Nat := r.toNat / 16 * 16 + k

/-- A FEEDER_PRE record is registered (R162). -/
def execFeederPre (c : Fin 4) (r : BitVec 64) (s : State) : Out := .next (postRecord s c (ofKind 1 r))

/-- A FEEDER_MAIN record is registered (R162). -/
def execFeederMain (c : Fin 4) (r : BitVec 64) (s : State) : Out := .next (postRecord s c (ofKind 2 r))

/-- A FEEDER_OFF record is registered (R162). -/
def execFeederOff (c : Fin 4) (r : BitVec 64) (s : State) : Out := .next (postRecord s c (ofKind 3 r))

/-- A PD_TRANS record is registered (R162). -/
def execPdTrans (c : Fin 4) (r : BitVec 64) (s : State) : Out := .next (postRecord s c (ofKind 4 r))

/-- A CHANGEOVER record is registered (R162). -/
def execChangeover (c : Fin 4) (r : BitVec 64) (s : State) : Out := .next (postRecord s c (ofKind 5 r))

/-- A BUDGET record is registered (R162). -/
def execBudget (c : Fin 4) (r : BitVec 64) (s : State) : Out := .next (postRecord s c (ofKind 6 r))

/-- A SHARE record is registered (R162, R198). -/
def execShare (c : Fin 4) (r : BitVec 64) (s : State) : Out := .next (postRecord s c (ofKind 7 r))

/-- A record that host software posts: its ORIGIN is forced to 50 (R175). -/
def hostPost (s : State) (c : Fin 4) (w : Nat) : State :=
  postRecord s c (andNot w (63 <<< 4) ||| (50 <<< 4))

/-- A HOST record is registered (R162, R175). -/
def execHostRecord (c : Fin 4) (r : BitVec 64) (s : State) : Out := .next (hostPost s c (ofKind 8 r))

/-- A CANCEL record removes every queued record of its ORIGIN (R162). -/
def execCancel (c : Fin 4) (r : BitVec 64) (s : State) : Out := .next (postRecord s c (ofKind 15 r))

/-- A record retires: its contribution moves to the residual load estimate of its bus, and a SHARE record's
target is the share target in force; the PD port then announces the next part of its ramp (R164, R166, R198,
R293). -/
def retire (s : State) (c : Fin 4) (i : Nat) : State :=
  match s.antq[c][i]? with
  | none => s
  | some r =>
    let s1 := { s with antq := s.antq.set c (s.antq[c].eraseIdx i) }
    let x := if r.word.testBit 12 then 1 else 0
    if recLoads r.word then
      ((s1.putI (Comb.IRES c x) (s.int (Comb.IRES c x) + antFinal r.word)).putI (Comb.CP c (6 + x))
        (s.int (Comb.CP c (6 + x)) + antFinal r.word)).on
        (slice r.word 0 4 == 4 && s.get (Pd.TIME_LEFT c) != 0) (fun s => pdSegment s c 0)
    else if slice r.word 0 4 = 7 then (s1.putI (Comb.SHARE_TGT c) (recAmp r.word)).put (Comb.SHARE_ON c) 1
    else s1

/-! ### Registers of the Forager (R149, R154, R169) -/

/-- PLANNED entries of the comb leave the window, to be planned again without a squash (R169). -/
def dropPlanned (s : State) (c : Nat) : State :=
  s.each (combPhases c) (fun s p => onWindow s p (fun l => l.filter (fun e => e.stage != 0)))

/-- How many periods after the present one are staged in some phase of comb `d`: issued, or in its staged register
(R169). -/
def stagedPeriods (s : State) (d : Nat) : Nat :=
  (combPhases d).foldl (fun m (p : Fin 16) => max m ((s.slots[p]).length + bitOf (s.get (Ph.NEXT p) == 1))) 0

/-- The write of `CMB_MARK`: held at the nearer bound, and in force in every comb that follows this mark once the periods
staged have passed, three at most (R169). -/
def markWrite (s : State) (k : Bool) (c : Fin 4) (w : Nat) : Res :=
  specialWrite s k (0x10 + c) 0x044 w false (fun s w' =>
    if fieldOf w' (CMB_MARK.PER c) = s.get (CMB_MARK.PER c) then s
    else
      let l := (List.range 4).filter (fun d => markComb s d == c.val)
      let wait := min 2 (l.foldl (fun m d => max m (stagedPeriods s d)) 0)
      (s.put (CMB_MARK.PER c) (max 6400 (min 128000 (fieldOf w' (CMB_MARK.PER c))))).each l
        (fun s d => (dropPlanned s d).put (Comb.PERWAIT d) wait))

/-- A write of `CMB_MARK.PER` (R169). -/
def execMarkPerWrite (a : Access) (c : Fin 4) (w : BitVec 32) (s : State) : Out :=
  .next (regOp s a (fun s k => markWrite s k c w.toNat))

/-- The model table is judged at EN = 1 and at a change of MODEL, in a comb that is gated once it is released (R57); with no valid table the Forager plans
nothing and MODEL is raised (R148, R149, R173). -/
def modelCheck (s : State) (c : Fin 4) : State :=
  match (modelTable s c).filter (modelValid s c) with
  | some a => coefRecompute (causeEnds ((blockRead s a 0x200).put (Comb.MODEL_OK c) 1) (0x10 + c) 2) c
  | none => raiseHeld (s.put (Comb.MODEL_OK c) 0) (0x10 + c) 2

/-- The write of `CMB_PLAN_CTL`: DEPTH is stored as the nearer bound, and a change of MODEL squashes the
entries of the old model (R149, R154, R175). -/
def planCtlWrite (s : State) (k : Bool) (c : Fin 4) (w : Nat) : Res :=
  specialWrite s k (0x10 + c) 0x048 w false (fun s w' =>
    let s1 := (storeFields s w' (regLayout (0x10 + c) 0x048)).put (CMB_PLAN_CTL.DEPTH c)
      (max 4 (min 16 (fieldOf w' (CMB_PLAN_CTL.DEPTH c))))
    (withdrawBeyond s1 c).on (combLive s c && s1.get (CMB_PLAN_CTL.MODEL c) != s.get (CMB_PLAN_CTL.MODEL c))
      (fun s => modelCheck (squashEvery s c) c))

/-- A change of `CMB_PLAN_CTL.MODEL` (R154). -/
def execModelWrite (a : Access) (c : Fin 4) (w : BitVec 32) (s : State) : Out :=
  .next (regOp s a (fun s k => planCtlWrite s k c w.toNat))

/-- The write of `CMB_CTL` (R149, R175). -/
def cmbCtlWrite (s : State) (k : Bool) (c : Fin 4) (w : Nat) : Res :=
  specialWrite s k (0x10 + c) 0x040 w false (fun s w' =>
    let s1 := storeFields s w' (regLayout (0x10 + c) 0x040)
    s1.on (combLive s c && !s.flag (CMB_CTL.EN c) && s1.flag (CMB_CTL.EN c)) (fun s => modelCheck s c))

/-- A write of `CMB_CTL.EN` = 1 (R149). -/
def execForagerEnable (a : Access) (c : Fin 4) (w : BitVec 32) (s : State) : Out :=
  .next (regOp s a (fun s k => cmbCtlWrite s k c w.toNat))

/-- TUPD milliseconds after the last recomputation (R149). -/
def execCoefficientRecompute (c : Fin 4) (s : State) : Out :=
  .next (if s.flag (CMB_CTL.EN c) ∧ s.flag (Comb.MODEL_OK c) then coefRecompute s c else s)

/-! ### Gangs (R18, R170) -/

/-- The combs of the request that comb `c` belongs to, where every comb that the mask names holds the same
mask of two to four combs (R170). -/
def gangAsked (s : State) (c : Nat) : List Nat :=
  let m := s.get (CMB_GANG.REQ c)
  let l := bitsOf 4 m
  if 2 ≤ l.length ∧ l.contains c ∧ l.all (fun d => s.get (CMB_GANG.REQ d) = m) then l else []

/-- The write of `CMB_GANG`: a request that all its members hold is pending, and one that they no longer hold is not
(R170). -/
def gangWrite (s : State) (k : Bool) (c : Fin 4) (w : Nat) : Res :=
  specialWrite s k (0x10 + c) 0x054 w false (fun s w' =>
    let s1 := s.put (CMB_GANG.REQ c) (fieldOf w' (CMB_GANG.REQ c))
    if s1.get (CMB_GANG.REQ c) = s.get (CMB_GANG.REQ c) then s
    else
      let s2 := s1.on (s.get (CMB_GANG.STATE c) != 2) (·.put (CMB_GANG.STATE c) 0)
      let s3 := s2.each (List.range 4) (fun s d => s.on (s.get (CMB_GANG.STATE d) == 1 && gangAsked s d == [])
        (·.put (CMB_GANG.STATE d) 0))
      s3.each (gangAsked s3 c) (fun s d => s.on (s.get (CMB_GANG.STATE d) != 2) (·.put (CMB_GANG.STATE d) 1)))

/-- A write of `CMB_GANG.REQ` (R170). -/
def execGangReq (a : Access) (c : Fin 4) (w : BitVec 32) (s : State) : Out :=
  .next (regOp s a (fun s k => gangWrite s k c w.toNat))

/-- The battery-bus voltage of comb `d` lies within 2 % of the mean of the members (R18). -/
def withinMean (s : State) (l : List Nat) (d : Nat) : Bool :=
  let sum : Int := (l.foldl (fun a m => a + s.get (Comb.VBB m)) 0 : Nat)
  let dev : Int := l.length * s.get (Comb.VBB d) - sum
  decide (50 * dev.natAbs ≤ sum.natAbs)

/-- A member enters its gang with its own mode and with the integrator of its own target (R197). -/
def gangBegins (s : State) (d : Nat) : State :=
  (s.put (Arb.GANG_MODE d) (s.get (CMB_PP_STAT.MODE d))).putI (Arb.GANG_PER d)
    ((s.int (Comb.INTEG d 0)).fdiv (max 1 (poolPhases s d).length : Nat))

/-- At the mark of the lowest-numbered member the gang forms, with a squash of every phase, or is refused
(R18, R154, R170). -/
def gangCheck (s : State) (c : Fin 4) : State :=
  let l := gangAsked s c
  if inSafeBoot s ∨ l = [] ∨ !l.all (fun d => s.get (CMB_GANG.STATE d) == 1) ∨ l[0]? ≠ some c.val then s
  else if l.all (withinMean s l) then
    let s1 := s.each l (fun s d => gangBegins ((s.put (CMB_GANG.STATE d) 2).put (CMB_GANG.MEMBERS d)
      (s.get (CMB_GANG.REQ c))) d)
    s1.each l squashEvery
  else s.each l (fun s d => raiseEvent (s.put (CMB_GANG.STATE d) 3) (0x10 + d) 5)

/-- The next mark of the lowest-numbered member after a request (R170). -/
def execGangCheck (c : Fin 4) (s : State) : Out := .next (gangCheck s c)

/-- The gang of comb `c` dissolves after a member has changed its REQ or cleared EN (R170). -/
def gangDissolve (s : State) (c : Fin 4) : State :=
  let l := gangOf s c
  if s.get (CMB_GANG.STATE c) = 2 ∧ l.any (fun d => s.get (CMB_GANG.REQ d) != s.get (CMB_GANG.MEMBERS d)
      || !s.flag (CMB_CTL.EN d)) then
    let s1 := s.each l (fun s d => (s.put (CMB_GANG.STATE d) 0).put (CMB_GANG.MEMBERS d) 0)
    s1.each l (fun s d => squashEvery (s.on (gangAsked s d != []) (·.put (CMB_GANG.STATE d) 1)) d)
  else s

/-- The next mark after a member's change (R170). -/
def execGangDissolve (c : Fin 4) (s : State) : Out := .next (gangDissolve s c)

end Sys2Proof.Machine
end

