-- ==== Sys2Proof/Machine/PowerPath.lean ====
section
/-! DEFINITION. The power-path arbiter (chapter 8): modes, the comb current target, source selection and
changeover, budgets, shedding, supplement, share targets and gangs. Currents are in units of 10 mA, voltages in
units of 10 mV, integrators in 1/256 of 10 mA. -/

namespace Sys2Proof.Machine

/-- Set an event bit of the power path (R200). -/
def ppEvt (s : State) (c i : Nat) : State := s.orF (CMB_PP_EVT.EVT c) (1 <<< i)

/-- The arbiter of the comb runs (R179, R199). -/
def arbRuns (s : State) (c : Nat) : Bool := foragerRuns s c && s.flag (CMB_PP_CTL.EN c)

/-! ### Quantities (R176) -/

/-- The port numbers of the comb's sources, batteries and feeders. -/
def sourcePort (c m : Nat) : Nat := 12 * c + m

/-- I_SRC: the current of the source port whose pair is on. -/
def iSrc (s : State) (c : Nat) : Int :=
  if s.get (CMB_PP_STAT.ON c) = 0 then 0 else s.int (Port.IF (sourcePort c (s.get (CMB_PP_STAT.ACTIVE c))))

/-- I_FDR: the sum over the comb's feeders. -/
def iFdr (s : State) (c : Nat) : Int :=
  (List.range 7).foldl (fun a k => a + s.int (Port.IF (12 * c + 4 + k))) 0

/-- I_BAT: the sum over the comb's closed battery ports. -/
def iBat (s : State) (c : Nat) : Int :=
  (closedEngines s c).foldl (fun a e => a + s.int (Port.IF (batPort e))) 0

/-- The pair that is on and reported at full enhancement (R179). -/
def sourceOn (s : State) (c : Nat) : Bool :=
  let m := s.get (CMB_PP_STAT.ACTIVE c)
  s.bit (CMB_PP_STAT.ON c) m && s.flag (Port.CMD (sourcePort c m))

/-! ### Draw limit and budgets (R187, R188) -/

/-- The budget of the source port at an offset: the lower of the limit and its ceiling (R89, R187). -/
def sourceBudget (s : State) (c m : Nat) : Nat :=
  if m = 0 then min (s.get (CMB_SRC0_BUD.LIM c)) (s.get (CMB_SRC0_BUD.CEIL c))
  else min (s.get (CMB_SRC1_BUD.LIM c)) (s.get (CMB_SRC1_BUD.CEIL c))

/-- The draw limit that the budgets give; with no pair on, the one in force stands (R187). -/
def drawTarget (s : State) (c : Nat) : Nat :=
  if s.get (CMB_PP_STAT.ON c) = 0 then s.get (CMB_TARGET.LIMIT c)
  else min (sourceBudget s c (s.get (CMB_PP_STAT.ACTIVE c)))
    (min (s.get (CMB_BUDGET.LIM c)) (s.get (CMB_BUDGET.CEIL c)))

/-- SLEW, 0 acting as 1 (R202). -/
def slew (s : State) (c : Nat) : Nat := max 1 (s.get (CMB_BUDGET_SLEW.SLEW c))

/-- What SLEW moves in one mark period, in 1/65536 of 10 mA. -/
def slewStep (s : State) (c : Nat) : Nat := slew s c * s.get (Comb.PER c) * 32 / 625

/-- Send the next BUDGET record of a ramp of the draw limit (R188). -/
def budgetSegment (s : State) (c : Nat) : State :=
  let left := s.get (Arb.BUD_LEFT c)
  let t := min 255 left
  let cur := s.int (CMB_TARGET.TGT c)
  let amp := if left ≤ 255 then s.int (Arb.BUD_AMP c)
    else cur + fdivOpen ((s.int (Arb.BUD_AMP c) - cur) * t) left
  (sendRecord s c (recordWord 6 48 1 0 0 amp t 0)).put (Arb.BUD_LEFT c) (left - t)

/-- A ramp of the draw limit starts: RAMP, and its BUDGET record with the I_T that the new limit admits at the
present I_FDR (R188) (DEDUCED, log entry 31). -/
def rampStart (s : State) (c new : Nat) : State :=
  let cur := s.get (CMB_TARGET.LIMIT c)
  let room : Int := (new : Int) - iFdr s c
  let reverse := s.get (CMB_PP_STAT.MODE c) == 2 || s.get (CMB_PP_STAT.MODE c) == 3
  let amp := if reverse then room else max 0 room
  let s1 := (impDisturb s c |>.put (CMB_PP_STAT.RAMP c) 1).put (Arb.RAMPV c) (cur * 65536)
  budgetSegment ((s1.put (Arb.BUD_LEFT c) (10 * (cur - new) / slew s c)).putI (Arb.BUD_AMP c) amp) c

/-- A draw limit above the one in force takes effect at an evaluation, and ends a ramp that it overtakes (R188). -/
def limitRise (s : State) (c : Nat) : State :=
  let new := drawTarget s c
  if s.get (CMB_TARGET.LIMIT c) < new then
    (s.put (CMB_TARGET.LIMIT c) new).on (s.flag (CMB_PP_STAT.RAMP c))
      (fun s => ppEvt (s.put (CMB_PP_STAT.RAMP c) 0) c 5)
  else s

/-- A draw limit below the one in force starts its ramp; a running ramp goes on to the new value (R188) (DEDUCED, log
entry 31). -/
def limitCut (s : State) (c : Nat) : State :=
  let new := drawTarget s c
  s.on (decide (new < s.get (CMB_TARGET.LIMIT c)) && !s.flag (CMB_PP_STAT.RAMP c)) (fun s => rampStart s c new)

/-- The draw limit meets its budgets at an evaluation (R188). -/
def limitReview (s : State) (c : Nat) : State := limitCut (limitRise s c) c

/-- One step of a running ramp (R188). -/
def rampStep (s : State) (c : Nat) : State :=
  if s.flag (CMB_PP_STAT.RAMP c) then
    let v := max (drawTarget s c * 65536) (s.get (Arb.RAMPV c) - slewStep s c)
    (s.put (Arb.RAMPV c) v).put (CMB_TARGET.LIMIT c) (v / 65536)
  else s

/-- The budget registers: 0 the source at offset 0, 1 at offset 1, 2 the comb (R187, R202). -/
def budgetWriteReg (s : State) (k : Bool) (c : Fin 4) (which w : Nat) : Res :=
  let (off, lim, ceil) := match which with
    | 0 => (0x0BC, CMB_SRC0_BUD.LIM c, CMB_SRC0_BUD.CEIL c)
    | 1 => (0x0C0, CMB_SRC1_BUD.LIM c, CMB_SRC1_BUD.CEIL c)
    | _ => (0x0C4, CMB_BUDGET.LIM c, CMB_BUDGET.CEIL c)
  specialRes s k (0x10 + c) off w false (fun s w' => ceiled s w' lim ceil (fun s w' =>
    let s1 := storeFields s w' (regLayout (0x10 + c) off)
    s1.on (arbRuns s1 c) (fun s => limitCut s c)))

/-- A budget write (R188). -/
def execBudgetWrite (a : Access) (c : Fin 4) (which : Fin 3) (w : BitVec 32) (s : State) : Out :=
  .next (regOp s a (fun s k => budgetWriteReg s k c which w.toNat))

/-- The ramp reaches its new value (R188). -/
def execRampDone (c : Fin 4) (s : State) : Out :=
  .next (if arbRuns s c && s.flag (CMB_PP_STAT.RAMP c) then
      ppEvt ((s.put (CMB_TARGET.LIMIT c) (drawTarget s c)).put (CMB_PP_STAT.RAMP c) 0) c 5
    else s)

/-- A record's START plus TIME has passed (R164, R166); the arbiter then announces the next part of its ramp
(R188). -/
def execRecordRetire (c : Fin 4) (idx : Fin 16) (s : State) : Out :=
  let more := match s.antq[c][idx.val]? with
    | some r => slice r.word 0 10 == 48 * 16 + 6 && s.get (Arb.BUD_LEFT c) != 0
    | none => false
  .next ((retire s c idx).on more (fun s => budgetSegment s c))

/-! ### PD budget (R191) -/

/-- A PD cut to a limit is started, or its value changed (R191). BAT_LOW starts one to 0 whatever the limit in force, also
where that is 0 already (R194) (DESIGN CHOICE, log entry 64). -/
def pdCutTo (s : State) (c v : Nat) : State :=
  let s1 := s.put (Arb.PD_NEW c) v
  if s.flag (Arb.PD_CUT c) then s1 else ppEvt (s1.put (Arb.PD_CUT c) 1) c 8

/-- The PD budget that acts: the lower of the limit and its ceiling (R89, R191). -/
def pdBudget (s : State) (c : Nat) : Nat := min (s.get (CMB_PD_BUDGET.LIM c)) (s.get (CMB_PD_BUDGET.CEIL c))

/-- The write of `CMB_PD_BUDGET` (R89, R191); in SAFE-BOOT it has no further effect (R199). -/
def pdBudgetWrite (s : State) (k : Bool) (c : Fin 4) (w : Nat) : Res :=
  specialRes s k (0x10 + c) 0x0C8 w false (fun s w' => ceiled s w' (CMB_PD_BUDGET.LIM c) (CMB_PD_BUDGET.CEIL c)
    (fun s w' =>
      let s1 := storeFields s w' (regLayout (0x10 + c) 0x0C8)
      let v := pdBudget s1 c
      if inSafeBoot s then (s1.put (Pd.LIM c) v).put (Arb.PD_CUT c) 0
      else if v < s.get (Pd.LIM c) then pdCutTo s1 c v
      else (s1.put (Pd.LIM c) v).put (Arb.PD_CUT c) 0))

/-- A write of `CMB_PD_BUDGET.LIM` (R191). -/
def execPdCut (a : Access) (c : Fin 4) (w : BitVec 32) (s : State) : Out :=
  .next (regOp s a (fun s k => pdBudgetWrite s k c w.toNat))

/-- 20 ms after the cut started its value is the limit in force (R191). -/
def execPdCutEnforced (c : Fin 4) (s : State) : Out :=
  .next (if s.flag (Arb.PD_CUT c) then
      ppEvt ((s.put (Pd.LIM c) (s.get (Arb.PD_NEW c))).put (Arb.PD_CUT c) 0) c 9
    else s)

/-! ### Source selection and changeover (R182 to R186) -/

/-- The source port at an offset is qualified. -/
def qualified (s : State) (c m : Nat) : Bool := s.bit (CMB_PP_STAT.QUALIFIED c) m

/-- The offset that the selection picks: none, or a qualified port (R182). -/
def pickSource (s : State) (c : Nat) : Option Nat :=
  let pri := s.get (CMB_PP_CTL.PRI c)
  match s.get (CMB_PP_CTL.SEL c) with
  | 0 => if qualified s c pri then some pri else if qualified s c (1 - pri) then some (1 - pri) else none
  | 1 => if qualified s c 0 then some 0 else none
  | 2 => if qualified s c 1 then some 1 else none
  | _ => none

/-- A pair is on or commanded on. -/
def pairCommanded (s : State) (c : Nat) : Bool :=
  s.flag (Port.CMD (sourcePort c 0)) || s.flag (Port.CMD (sourcePort c 1))

/-- A planned changeover: a CHANGEOVER record with START = LEAD; it waits while another is in progress (R185). -/
def planChangeover (s : State) (c : Nat) : State :=
  if s.get (Arb.CHG c) ≠ 0 then s.put (Arb.DUE c) 1
  else
    let s1 := sendRecord s c (recordWord 5 48 0 0 0 (iSrc s c) (s.get (CMB_CHGOVR.BREAK_EST c))
      (s.get (CMB_CHGOVR.LEAD c)))
    (s1.put (Arb.CHG c) 1).put (Arb.DUE c) 0

/-- The selection is not the port selected: another port, none, or a port that SEL names and that is not qualified yet,
which turns the present pair off until it is (R182) (DEDUCED, log entry 31). -/
def selectsAway (s : State) (c : Nat) : Bool :=
  match pickSource s c with
  | some m => m != s.get (CMB_PP_STAT.ACTIVE c)
  | none => s.get (CMB_PP_CTL.SEL c) == 3 || (s.get (CMB_PP_CTL.SEL c) != 0
      && s.get (CMB_PP_CTL.SEL c) != s.get (CMB_PP_STAT.ACTIVE c) + 1)

/-- The write of `CMB_PP_CTL`: SEL or PRI that moves the selection plans a changeover; during another changeover it waits
until that one has ended (R182, R185). -/
def ppCtlWrite (s : State) (k : Bool) (c : Fin 4) (w : Nat) : Res :=
  specialWrite s k (0x10 + c) 0x0A0 w false (fun s w' =>
    let s1 := storeFields s w' (regLayout (0x10 + c) 0x0A0)
    let moved := s1.get (CMB_PP_CTL.SEL c) != s.get (CMB_PP_CTL.SEL c)
      || s1.get (CMB_PP_CTL.PRI c) != s.get (CMB_PP_CTL.PRI c)
    s1.on (moved && arbRuns s1 c && (s1.get (Arb.CHG c) != 0 || (sourceOn s1 c && selectsAway s1 c)))
      (fun s => planChangeover s c))

/-- A write of SEL or PRI that moves the selection (R185). -/
def execPlannedChangeover (a : Access) (c : Fin 4) (w : BitVec 32) (s : State) : Out :=
  .next (regOp s a (fun s k => ppCtlWrite s k c w.toNat))

/-- The preferred port has been qualified for RET_DLY (R182, R185). -/
def execRevert (c : Fin 4) (s : State) : Out :=
  let pri := s.get (CMB_PP_CTL.PRI c)
  .next (if arbRuns s c && s.flag (CMB_PP_CTL.REVERT c) && s.get (CMB_PP_CTL.SEL c) == 0 && qualified s c pri
      && (s.get (Arb.CHG c) != 0 || sourceOn s c) && s.get (CMB_PP_STAT.ACTIVE c) != pri then planChangeover s c else s)

/-- Command a source pair off (R185, R276). A held or clockless port obeys later. -/
def pairOff (s : State) (n : Nat) : State :=
  let s1 := (s.put (Port.CMD n) 0).put (Port.OFF_CMD n) 1
  if portStalled s n || s.get (PORT_STAT.STATE n) == 8 then s1 else portOff s1 n

/-- The START of a planned changeover passes: the pair that is on is commanded off (R185). -/
def execChangeoverLeadExpiry (c : Fin 4) (s : State) : Out :=
  .next (if arbRuns s c && s.get (Arb.CHG c) == 1 then
      (pairOff s (sourcePort c (s.get (CMB_PP_STAT.ACTIVE c)))).put (Arb.CHG c) 2
    else s)

/-- BBM_GAP has passed since the other pair was reported off: the on command to the qualified port that the
selection picks (R183, R184, R185). -/
def execOnCommand (c : Fin 4) (s : State) : Out :=
  .next (match pickSource s c with
    | some m =>
      if arbRuns s c && (s.get (Arb.CHG c) == 0 || s.get (Arb.CHG c) == 3) && !pairCommanded s c
          && s.get (CMB_PP_STAT.ON c) == 0 && !s.flag (Port.FALL (sourcePort c (1 - m))) then
        portReview (((s.put (Port.CMD (sourcePort c m)) 1).put (CMB_PP_STAT.ACTIVE c) m).put (Arb.CHG c) 4)
          (sourcePort c m)
      else s
    | none => s)

/-- A port has been inside its windows for QUAL (R182). -/
def execSourceQualified (c : Fin 4) (m : Fin 2) (s : State) : Out :=
  .next (if foragerRuns s c && s.flag (PORT_STAT.WIN (sourcePort c m)) then
      (s.orF (CMB_PP_STAT.QUALIFIED c) (1 <<< m.val)).on (s.get (Arb.STUCK c) == m.val + 1) (·.put (Arb.STUCK c) 0) else s)

/-- A port reports its main switch at full enhancement; an on command to the other source that is still pending
is withdrawn (R183, R258). -/
def pairOnReport (s : State) (n : Nat) : State :=
  if portKind n = 1 ∧ s.flag (PORT_STAT.GATE_FULL n) then
    let c := n / 12
    let o := sourcePort c (1 - n % 12)
    let s1 := s.orF (CMB_PP_STAT.ON c) (1 <<< (n % 12))
    s1.on (s.flag (Port.CMD o) && !s.flag (PORT_STAT.GATE_FULL o)) (fun s =>
      (pairOff s o).put (CMB_PP_STAT.ACTIVE c) (n % 12))
  else s

/-- A port reports on (R258). -/
def execPairOnReport (n : Fin 48) (s : State) : Out := .next (pairOnReport s n)

/-- V_GS has reached off: a port reports off, and a changeover goes on from its step 3 (R183, R184, R258). -/
def pairOffReport (s : State) (n : Nat) : State :=
  if portKind n = 4 ∨ s.flag (PORT_STAT.GATE_FULL n) ∨ [4, 6, 9].contains (s.get (PORT_STAT.STATE n)) then s
  else
    let s1 := (s.put (PORT_STAT.GATE_OFF n) 1).put (Port.FALL n) 0
    if portKind n = 1 then
      let c := n / 12
      let s2 := ((s1.clrF (CMB_PP_STAT.ON c) (1 <<< (n % 12))).put (Port.OFF_CMD n) 0).on
        (s.get (Arb.STUCK c) == n % 12 + 1) (·.put (Arb.STUCK c) 0)
      s2.on (s.get (Arb.CHG c) == 2) (·.put (Arb.CHG c) 3)
    else s1

/-- A port reports off (R258). -/
def execPairOffReport (n : Fin 48) (s : State) : Out := .next (pairOffReport s n)

/-- The changeover part of an evaluation: an unplanned changeover begins, one that is on ends, and one that is
due starts (R184, R185). On a port whose off command has failed the comb continues, qualified or not (R186). -/
def changeoverStep (s : State) (c : Nat) : State :=
  let m := s.get (CMB_PP_STAT.ACTIVE c)
  if s.flag (Port.CMD (sourcePort c m)) && !qualified s c m && s.get (Arb.STUCK c) != m + 1 then
    let s1 := pairOff s (sourcePort c m)
    impDisturb (ppEvt ((s1.put (Arb.CHG c) (if s.bit (CMB_PP_STAT.ON c) m || s1.flag (Port.FALL (sourcePort c m)) then 2
      else 3)).put (CMB_PP_STAT.BREAK c) 1) c 2) c
  else if s.get (Arb.CHG c) = 4 ∧ sourceOn s c then
    ppEvt ((s.put (Arb.CHG c) 0).put (CMB_PP_STAT.BREAK c) 0) c 1
  else
    let s1 := s.on ((s.get (Arb.CHG c) == 2 || s.get (Arb.CHG c) == 3) && !s.flag (CMB_PP_STAT.BREAK c))
      (fun s => impDisturb (s.put (CMB_PP_STAT.BREAK c) 1) c)
    s1.on (s.get (Arb.CHG c) == 0 && s.flag (Arb.DUE c) && sourceOn s c) (fun s =>
      if selectsAway s c then planChangeover s c else s.put (Arb.DUE c) 0)

/-! ### Mode (R178, R179, R192, R193) -/

/-- The battery's usability at an evaluation: the last battery port opening makes it unusable (R178). -/
def usableStep (s : State) (c : Nat) : State :=
  if closedEngines s c = [] then
    (s.on (s.flag (CMB_PP_STAT.USABLE c)) (·.put (Arb.UNUS c) 1)).put (CMB_PP_STAT.USABLE c) 0
  else s.putB (CMB_PP_STAT.USABLE c) (!s.flag (Arb.UNUS c))

/-- VBB has stood at or below CUT for 1 s: the battery is unusable, and in BATTERY_ONLY its closed ports record
BAT_CUTOFF and I_T ramps to 0 (R178, R194). -/
def execBatteryUnusable (c : Fin 4) (s : State) : Out :=
  .next (if !foragerRuns s c then s
    else
      let s1 := (s.put (Arb.UNUS c) 1).put (CMB_PP_STAT.USABLE c) 0
      if s.get (CMB_PP_STAT.MODE c) = 3 then
        ppEvt ((s1.put (Arb.CUTRAMP c) 1).each (closedEngines s c) (fun s e => raiseEvent s (0x30 + batPort e) 11)) c 13
      else s1)

/-- VBB has stood at or above MIN + HYST for 1 s with a battery port closed (R178). -/
def execBatteryUsable (c : Fin 4) (s : State) : Out :=
  .next (if foragerRuns s c && closedEngines s c != [] then
      (s.put (Arb.UNUS c) 0).put (CMB_PP_STAT.USABLE c) 1 else s)

/-- What an entry to SUPPLEMENT needs (R192). -/
def supplementAllowed (s : State) (c : Nat) : Bool :=
  s.flag (CMB_PP_CTL.SUP_EN c) && s.flag (CMB_PP_STAT.USABLE c)
    && decide (s.get (CMB_VBB_LIM.MIN c) < s.get (Comb.VBB c)) && s.get (CMB_VSYS.TGT c) != 0

/-- supplement_held at an evaluation: entered from CHARGE on the second evaluation that asks for it, or at once
where the VSYS floor governs; left when a condition fails (R192, R193). -/
def supplementStep (s : State) (c : Nat) : State :=
  if s.flag (Arb.SUPHELD c) then
    s.on (!supplementAllowed s c || !sourceOn s c) (fun s => (s.put (Arb.SUPHELD c) 0).put (Arb.SUPCNT c) 0)
  else
    let zero := s.int (CMB_TARGET.TGT c) == 0
    let asks := zero && s.get (CMB_PP_STAT.GOVERN c) == 3
      && decide ((s.get (CMB_TARGET.LIMIT c) : Int) < iSrc s c)
    let floor := zero && s.get (CMB_PP_STAT.GOVERN c) == 4
    let n := if asks then min 2 (s.get (Arb.SUPCNT c) + 1) else 0
    if s.get (CMB_PP_STAT.MODE c) = 1 ∧ sourceOn s c ∧ supplementAllowed s c ∧ (n = 2 ∨ floor) then
      ppEvt ((s.put (Arb.SUPHELD c) 1).put (Arb.SUPCNT c) 0) c 3
    else s.put (Arb.SUPCNT c) n

/-- The mode that the rule of R179 chooses. -/
def modeOf (s : State) (c : Nat) : Nat :=
  let usable := s.flag (CMB_PP_STAT.USABLE c)
  if !s.flag (CMB_PP_CTL.EN c) then 0
  else if sourceOn s c && !usable then 4
  else if sourceOn s c then (if s.flag (Arb.SUPHELD c) then 2 else 1)
  else if usable && s.get (CMB_VSYS.TGT c) != 0 then 3
  else 5

/-- The mode changes: EVT bit 0 (R179). -/
def setMode (s : State) (c m : Nat) : State :=
  if s.get (CMB_PP_STAT.MODE c) = m then s
  else impDisturb (ppEvt (s.put (CMB_PP_STAT.MODE c) m) c 0) c

/-! ### The target (R180) -/

/-- The bound of the share target on I_T, where one stands (R198): the target in force, or on its way along
the ramp of a queued SHARE record that has started, from the set target in force at its START (R166). In a gang only the
lead's applies. -/
def shareBound (s : State) (c : Fin 4) : Option Int :=
  if !s.flag (CMB_PP_CTL.SHARE_EN c) || inSafeBoot s || gangLead s c != c.val then none
  else match (s.antq[c] : List Queued).find? (fun r => slice r.word 0 4 == 7 && decide ((recStart r.word : Int) ≤ r.age)) with
    | some r => some (recBound r r.base (r.age - recStart r.word))
    | none => if s.flag (Comb.SHARE_ON c) then some (s.int (Comb.SHARE_TGT c)) else none

/-- The PD phase's draw from the battery bus (R196). -/
def pdLoad (s : State) (c : Nat) : Int :=
  if s.flag (PDP_STAT.DUTY c) then -(measured s (4 * c + pdPhase s c)) else 0

/-- The raise of the voltage target of constraint 2 while a probe runs on a port of the string (R225). -/
def probeRaise (s : State) (e : Nat) : Nat :=
  ((enginePair s e).filter (fun f => s.flag (CHG_STAT.PROBING f))).foldl
    (fun m f => max m (max 1 (s.get (CHG_ABS.PROBE_DV f)))) 0

/-- The loop constraints of a mode: number, gain and error in units of 10 mA or 10 mV (R180, R196, R216). Across
a gang the sums run over the engines of all its battery buses, and a lead and its follower count as one. SUPPLEMENT never
has a positive target, so constraints 1 and 2 have no part in it; a draw limit of 0xFFFF and a target of 0 bound
nothing. -/
def loopErrs (s : State) (c : Fin 4) (mode : Nat) : List (Nat × Nat × Int) :=
  let ki := s.get (CMB_PP_LOOP.KI_I c)
  let kv := s.get (CMB_PP_LOOP.KI_V c)
  let eng := (gangOf s c).flatMap (closedEngines s)
  let units := ((gangOf s c).flatMap (fun d => [2 * d, 2 * d + 1])).filter (fun e =>
    engineLead s e == none && (enginePair s e).any (fun f => eng.contains f))
  let err := fun (e : Nat) => (s.get (CHG_SETPT.I_EFF e) : Int)
    - ((enginePair s e).filter eng.contains).foldl (fun a f => a + s.int (Port.IF (batPort f))) 0
  let sum := units.foldl (fun a e => a + err e) 0
  let ichg := units.foldl (fun a e => min a (err e)) sum
  let vset : Int := units.foldl (fun a e => min a (s.get (CHG_SETPT.V_EFF e) : Nat)) 0xFFFF
    + (units.foldl (fun a e => max a (probeRaise s e)) 0 : Nat)
  let vsys : Int := (s.get (Comb.VSYS c) : Int) - s.get (CMB_VSYS.TGT c)
  (if (mode = 1 ∨ mode = 4) ∧ units ≠ [] then [(1, ki, ichg + pdLoad s c), (2, kv, vset - (s.get (Comb.VBB c) : Int))]
    else [])
    ++ (if (mode = 1 ∨ mode = 2 ∨ mode = 4) ∧ s.get (CMB_TARGET.LIMIT c) ≠ 0xFFFF then
      [(3, ki, (s.get (CMB_TARGET.LIMIT c) : Int) - iSrc s c)] else [])
    ++ (if (mode = 1 ∨ mode = 2 ∨ mode = 3) ∧ s.get (CMB_VSYS.TGT c) ≠ 0 then [(4, kv, vsys)] else [])

/-- The error that integrator `i` adds: while a sweep point runs on the bus, the mean over the cycle at index 0
and nothing between (R245). -/
def loopErr (s : State) (c : Fin 4) (i : Nat) (err : Int) : Int :=
  match sweepsOn s c with
  | [] => err
  | l => if l.any (fun n => s.bit (Imp.ZERO n) c) then
      (s.int (Arb.ESUM c (i - 1)) + err).fdiv (s.get (Arb.ECNT c) + 1 : Nat) else 0

/-- The upper constraints of a mode with their numbers, each as a value in 1/256 of 10 mA (R180). The phases only
reverse in SUPPLEMENT and BATTERY_ONLY, and with no battery port closed nothing asks for charge (R179, R192). -/
def upperBounds (s : State) (c : Fin 4) (mode : Nat) : List (Nat × Int) :=
  (loopErrs s c mode).map (fun l => (l.1, s.int (Comb.INTEG c (l.1 - 1)) + l.2.1 * loopErr s c l.1 l.2.2))
    ++ (if mode = 2 then [(3, 0)] else if mode = 3 then [(4, 0)] else [])
    ++ (if (mode = 1 ∨ mode = 4) ∧ (gangOf s c).flatMap (closedEngines s) = [] then [(1, 0)] else [])
    ++ (match shareBound s c with | some b => [(6, 256 * b)] | none => [])

/-- The limits of the model table on the sum of the pool phases (R148, R180): lower and upper. -/
def phaseBounds (s : State) (c : Nat) : Int × Int :=
  let pool := poolPhases s c
  match modelTable s c with
  | none => (-0x800000, 0x7FFFFF)
  | some a =>
    let n : Int := pool.length
    let pct : Int := targetPct s THZ_TGT.PH c
    let hi := pool.foldl (fun m p => min m (s.leNat (modelBlock a (p % 4) + 0x24) 2 : Int)) 0xFFFF
    let lo := pool.foldl (fun m p => max m (s.leInt (modelBlock a (p % 4) + 0x26) 2)) (-0x8000)
    (256 * n * (lo * pct).fdiv 100, 256 * n * (hi * pct).fdiv 100)

/-- The lower clamps of a mode (R180): 5 the supplement limit, 7 the phase limits, 8 no reverse current. -/
def lowerBounds (s : State) (c : Nat) (mode : Nat) : List (Nat × Int) :=
  (if mode = 2 ∨ mode = 3 then [(5, -256 * (s.get (CMB_SUP.LIM c) : Int))] else [])
    ++ [(7, (phaseBounds s c).1)] ++ (if mode = 1 ∨ mode = 4 then [(8, 0)] else [])

/-- The most restrictive upper constraint and its number; the lowest number among equals. -/
def leastOf (l : List (Nat × Int)) (d : Nat × Int) : Nat × Int :=
  l.foldl (fun m x => if x.2 < m.2 then x else m) d

/-- The value and the governing constraint of an evaluation in a mode (R180). Where constraint 8 holds a target at 0,
the constraint that would take it below is the one that governs (R192, R193) (DEDUCED, log entry 30). -/
def formTarget (s : State) (c : Fin 4) (mode : Nat) : Nat × Int :=
  let up := leastOf (upperBounds s c mode) (7, (phaseBounds s c).2)
  (lowerBounds s c mode).foldl (fun m x => if m.2 < x.2 then (if x.1 = 8 then m.1 else x.1, x.2) else m) up

/-- How far SLEW moves a current in this evaluation, in 1/256 of 10 mA; what is less than that waits in FRAC (R177,
R194). -/
def slewMove (s : State) (c step : Nat) : Nat × State :=
  let x := s.get (Arb.FRAC c) + step
  (x / 256, s.put (Arb.FRAC c) (x % 256))

/-- A current moved towards 0. -/
def towardsZero (d : Nat) (v : Int) : Int := if v < 0 then min 0 (v + d) else max 0 (v - d)

/-- The part of a perturbation that comb `c` carries, by its run-ahead phases among those of its gang, in 1/256 of 10 mA
(R245). -/
def deltaShare (s : State) (c n : Nat) : Int :=
  let ahead := fun (d : Nat) => ((poolPhases s d).filter (fun q => !degraded s q)).length
  (256 * s.int (Imp.DELTA n) * ahead c).fdiv (10 * max 1 ((gangOf s c).foldl (fun m d => m + ahead d) 0) : Nat)

/-- What an evaluation with a running sweep point keeps: the errors of the cycle, and a clamp of constraint 3, 5
or 7 on the perturbed target (R245, R250). -/
def sweepStep (s : State) (c : Fin 4) (mode : Nat) (v : Int) : State :=
  match sweepsOn s c with
  | [] => s
  | l =>
    let s1 := if l.any (fun n => s.bit (Imp.ZERO n) c) then
        (s.each (List.range 4) (fun s i => s.put (Arb.ESUM c i) 0)).put (Arb.ECNT c) 0
      else (s.each (loopErrs s c mode) (fun s q => s.putI (Arb.ESUM c (q.1 - 1))
        (s.int (Arb.ESUM c (q.1 - 1)) + q.2.2))).inc (Arb.ECNT c)
    s1.each l (fun s n =>
      let w := v + deltaShare s c n
      let room : Int := 256 * ((s.get (CMB_TARGET.LIMIT c) : Int) - iFdr s c)
      let hit := decide ((phaseBounds s c).2 < w) || (lowerBounds s c mode).any (fun b => b.1 != 8 && decide (w < b.2))
        || ((mode == 1 || mode == 4) && decide (room < w))
      (s.putBit (Imp.ZERO n) c false).on hit (·.put (Imp.CLIP n) 1))

/-- The target and the governing constraint are put in force; every integrator tracks (R180, R198). -/
def putTarget (s : State) (c : Fin 4) (g : Nat) (v : Int) : State :=
  let tgt := clampInt (-32768) 32767 (v.fdiv 256)
  let s1 := (s.putI (CMB_TARGET.TGT c) tgt).put (CMB_PP_STAT.GOVERN c) g
  let s2 := s1.each (List.range 4) (fun s i => s.putI (Comb.INTEG c i) v)
  match shareBound s c with
  | some b => s2.putI (CMB_SHARE.DEFICIT c) (clampInt (-32768) 32767 (b - tgt))
  | none => s2.put (CMB_SHARE.DEFICIT c) 0

/-- A share target is live while records arrive at least every 100 µs (R198). -/
def shareAge (s : State) (c : Fin 4) : State :=
  let t := s.get (Arb.SHARE_AGE c) + s.get (Comb.PER c)
  (s.putSat (Arb.SHARE_AGE c) t).on (decide (1280000 < t)) (·.put (CMB_PP_STAT.SHARE_LIVE c) 0)

/-- Constraint 6 is ramped out at SLEW, until it no longer governs (R198). -/
def shareOutStep (s0 : State) (c : Fin 4) : State :=
  let s := shareAge s0 c
  if s.flag (Arb.SHARE_OUT c) then
    let x := s.get (Arb.SHARE_FRAC c) + slewStep s c
    let v := s.int (Comb.SHARE_TGT c) + (x / 65536 : Nat)
    if s.get (CMB_PP_STAT.GOVERN c) = 6 ∧ v ≤ 32767 then (s.putI (Comb.SHARE_TGT c) v).put (Arb.SHARE_FRAC c) (x % 65536)
    else (s.put (Comb.SHARE_ON c) 0).put (Arb.SHARE_OUT c) 0
  else s

/-- The order in which a gang takes the mode that any member requires (R197). -/
def gangMode (l : List Nat) : Nat :=
  ([3, 2, 4, 1].find? (fun m => l.contains m)).getD 5

/-- The gang part of an evaluation: the member sends its mode and its constraints per pool phase, upper and lower; the
lead forms the most restrictive per-phase value of the gang, a lower bound before an upper one (R180, R197). -/
def gangStep (s : State) (c : Fin 4) (own mode : Nat) : State :=
  let n : Int := max 1 (poolPhases s c).length
  let up := leastOf (upperBounds s c mode) (7, (phaseBounds s c).2)
  let lo := (lowerBounds s c mode).foldl (fun m x => max m x.2) (phaseBounds s c).1
  let s1 := ((s.put (Arb.REQ_MODE c) own).putI (Arb.PERPH c) (up.2.fdiv n)).putI (Arb.PERLO c) (lo.fdiv n)
  if gangLead s c = c.val then
    let l := (gangOf s c).filter (fun d => arbRuns s d && !s.flag (Mnt.DRAIN d))
    let least := l.foldl (fun m d => min m (s1.int (Arb.PERPH d))) (s1.int (Arb.PERPH c))
    let most := l.foldl (fun m d => max m (s1.int (Arb.PERLO d))) (s1.int (Arb.PERLO c))
    s1.each l (fun s d => (s.putI (Arb.GANG_PER d) (max least most)).put (Arb.GANG_MODE d)
      (gangMode (l.map (fun e => s1.get (Arb.REQ_MODE e)))))
  else s1

/-- The target while a needed quantity is stale: held, and after 10 ms ramped towards 0; the integrators track, so that
the loops go on from it (R177, R180). -/
def staleStep (s : State) (c : Fin 4) : State :=
  if s.flag (Arb.STALE_RAMP c) then
    let (d, s1) := slewMove s c (slewStep s c)
    putTarget s1 c 9 (towardsZero d (s.int (Comb.INTEG c 0)))
  else s.put (CMB_PP_STAT.GOVERN c) 9

/-- The target and the mode of an evaluation: a drained comb goes to zero (R478), NO_SUPPLY has no current but for the
ramp after a cut-off (R194), and a gang's member takes the gang's mode and its share of the gang's target (R197). -/
def evalTarget (s : State) (c : Fin 4) : State :=
  let own := modeOf s c
  let ganged := s.get (CMB_GANG.STATE c) == 2
  let inForce := if ganged then s.get (Arb.GANG_MODE c) else own
  let x := formTarget s c inForce
  let s1 := s.on ganged (fun s => gangStep s c own inForce)
  let mode := if ganged then s1.get (Arb.GANG_MODE c) else own
  let cur := s1.int (Comb.INTEG c 0)
  if s1.flag (Mnt.DRAIN c) then
    let (d, s2) := slewMove s1 c (drainSlew s1 c)
    setMode (putTarget s2 c 0 (towardsZero d cur)) c mode
  else if mode = 5 then
    let (d, s2) := slewMove s1 c (slewStep s1 c)
    let v := if s1.flag (Arb.CUTRAMP c) then towardsZero d cur else 0
    setMode ((putTarget s2 c 0 v).on (v == 0) (·.put (Arb.CUTRAMP c) 0)) c 5
  else
    let v := if ganged then s1.int (Arb.GANG_PER c) * (poolPhases s1 c).length else x.2
    sweepStep (setMode (putTarget s1 c x.1 v) c mode) c mode v

/-- The evaluation of the arbiter on a comb mark (R177, R178, R179, R180, R201) (DEDUCED, log entry 30). -/
def arbEval (s0 : State) (c : Fin 4) : State :=
  let s := s0.put (Arb.SHEDTRIP c) 0
  if !foragerRuns s c then s
  else if !s.flag (CMB_PP_CTL.EN c) then setMode (putTarget (usableStep s c) c 0 0) c 0
  else
    let s1 := usableStep (rampStep (limitReview (changeoverStep s c) c) c) c
    if s1.flag (Arb.STALE c) then staleStep s1 c
    else evalTarget (shareOutStep (supplementStep s1 c) c) c

/-- The comb period mark: the Forager's mark, the shares that live maintenance ramps, then the arbiter's evaluation (R121,
R177, R475). -/
def execCombMark (c : Fin 4) (s : State) : Out :=
  .next (if foragerRuns s c then arbEval (rampShares (combMark s c) c) c else s)

/-! ### Staleness, shedding and supplement (R177, R189 to R194, R198) -/

/-- A needed quantity, by its input offset in the comb, has not been renewed for 100 µs (R177). -/
def execStale (c : Fin 4) (q : Fin 48) (s : State) : Out :=
  let s1 := s.putBit (Arb.STALEM c) q true
  .next (if !arbRuns s c then s
    else if s.flag (Arb.STALE c) then s1
    else impDisturb (ppEvt (((s1.put (Arb.STALE c) 1).put (Arb.FRAC c) 0).put (CMB_PP_STAT.GOVERN c) 9) c 10) c)

/-- The staleness has lasted 10 ms (R177). -/
def execStaleRamp (c : Fin 4) (s : State) : Out :=
  .next (if s.flag (Arb.STALE c) then s.put (Arb.STALE_RAMP c) 1 else s)

/-- Shed a feeder: a commanded turn-off with its bit set, and SHED recorded in its page (R190). -/
def shedFeeder (s : State) (c k : Nat) : State :=
  let n := 12 * c + 4 + k
  let s1 := s.orF (CMB_SHED_STAT.SHED c) (1 <<< k)
  raiseEvent (if portStalled s n then s1.put (Port.EN_PEND n) 2 else feederTurnOff s1 n) (0x30 + n) 12

/-- The draw is within the limit: shedding ends, and with it the condition of BUDGET_HELD (R189, R384). -/
def drawWithin (s : State) (c : Nat) : State :=
  s.put (CMB_PP_STAT.SHEDDING c) 0 |>.each [0, 1] (fun s m => causeEnds s (0x30 + sourcePort c m) 10)

/-- The check of the draw 5 ms after a ramp, against a raised limit first; no shed is made on a check at which the feeder
to shed has tripped, and BUDGET_HELD is raised once while the draw stays above the limit (R189, R201, R384). -/
def shedCheck (s0 : State) (c : Nat) : State :=
  if !arbRuns s0 c || s0.get (CMB_PP_STAT.ON c) = 0 then s0
  else
    let s := limitRise s0 c
    let page := 0x30 + sourcePort c (s.get (CMB_PP_STAT.ACTIVE c))
    if s.flag (CMB_PP_STAT.RAMP c) then s
    else if iSrc s c ≤ s.get (CMB_TARGET.LIMIT c) then drawWithin s c
    else if s.flag (Arb.SHEDTRIP c) then s
    else match shedChoice s c with
    | some k => ppEvt ((shedFeeder s c k).put (CMB_PP_STAT.SHEDDING c) 1) c 6
    | none => if s.bit (Flt.PRESENT page) 10 then s else ppEvt (raiseHeld s page 10) c 7

/-- Each 5 ms after a ramp (R189). -/
def execShedCheck (c : Fin 4) (s : State) : Out := .next (shedCheck s c)

/-- The write of `CMB_SHED_STAT`: a bit written 1 restores its feeder (R190). -/
def shedStatWrite (s : State) (k : Bool) (c : Fin 4) (w : Nat) : Res :=
  specialWrite s k (0x10 + c) 0x0D4 w false (fun s w' =>
    let m := s.get (CMB_SHED_STAT.SHED c) &&& fieldOf w' (CMB_SHED_STAT.SHED c)
    (s.clrF (CMB_SHED_STAT.SHED c) m).each (bitsOf 7 m) (fun s j => portReview s (12 * c + 4 + j)))

/-- A write of 1 to a `CMB_SHED_STAT` bit (R190). -/
def execShedRestore (a : Access) (c : Fin 4) (w : BitVec 32) (s : State) : Out :=
  .next (regOp s a (fun s k => shedStatWrite s k c w.toNat))

/-- The headroom has stood at or above EXIT for HOLD (R192). -/
def execSupExit (c : Fin 4) (s : State) : Out :=
  .next (if arbRuns s c && s.flag (Arb.SUPHELD c) then
      ppEvt ((s.put (Arb.SUPHELD c) 0).put (Arb.SUPCNT c) 0) c 4 else s)

/-- VBB has stood at or below MIN for 1 s in BATTERY_ONLY: EVT bit 12, the feeders below KEEP are shed, and a PD
cut to 0 starts (R194). -/
def execBatLow (c : Fin 4) (s : State) : Out :=
  .next (if arbRuns s c && s.get (CMB_PP_STAT.MODE c) == 3 then
      let l := (List.range 7).filter (fun k => shedPri s c k != 0
        && decide (shedPri s c k < s.get (CMB_VBB_CFG.KEEP c)) && feederOn s (12 * c.val + 4 + k))
      pdCutTo ((ppEvt s c 12).each l (fun s k => ppEvt (shedFeeder s c k) c 6)) c 0
    else s)

/-- Share records have stopped for HOLD ms (R198). -/
def execShareLost (c : Fin 4) (s : State) : Out :=
  .next (if s.flag (CMB_PP_STAT.SHARE_LIVE c) || (s.flag (Comb.SHARE_ON c) && !s.flag (Arb.SHARE_OUT c)) then
      ppEvt (((s.put (CMB_PP_STAT.SHARE_LIVE c) 0).put (Arb.SHARE_FRAC c) 0).putB (Arb.SHARE_OUT c)
        (s.flag (Comb.SHARE_ON c))) c 11
    else s)

end Sys2Proof.Machine
end

