-- ==== Sys2Proof/Machine/Housekeeping.lean ====
section
/-! DEFINITION. Housekeeping conversion (chapter 13): lanes and converters, the correction and delivery of
values, the sequencer, urgent requests, self-calibration, the spare and the test DAC. -/

namespace Sys2Proof.Machine

/-! ### Inputs and scales (R311, R316) -/

/-- The channel of an input is declared absent: its port, its phase or its comb (R53, R311). -/
def inputAbsent (s : State) (i : Nat) : Bool :=
  if i < 192 then
    let c := i / 48
    let r := i % 48
    absent s (0x10 + c) || (if r < 36 then absent s (0x30 + 12 * c + r % 12)
      else if r < 40 then absent s (0x20 + 4 * c + (r - 36))
      else if r < 44 then absent s (0x30 + 12 * c + 2 + (r - 40) / 2)
      else if r = 46 then absent s (0x3B + 12 * c) else false)
  else false

/-- The inputs of 85 V span (R316). -/
def inputHigh (i : Nat) : Bool :=
  i == 216 || (i < 192 && ((12 ≤ i % 48 && i % 48 ≤ 23) || i % 48 == 44 || i % 48 == 45))

/-- A port-current input (R311). -/
def inputCurrent (i : Nat) : Bool := i < 192 && i % 48 < 12

/-- The inputs of 6.4 V span (R316). -/
def inputMid (i : Nat) : Bool :=
  (i < 192 && i % 48 == 46) || i == 217 || i == 220 || i == 221 || i == 223 || i == 224 || i == 225

/-- K of an input in nanovolts per code; a reserved input has none (R316). -/
def chK (s : State) (i : Nat) : Nat :=
  if 228 ≤ i then 0
  else if inputHigh i then 20751953
  else if inputCurrent i then 125000
  else if inputMid i then 1562500
  else if s.get (Ch.REF i) = 2 then 805664 else 610352

/-- KI of a port-current input in nanoamperes per code, from the shunt of the port's FET model; 0 while no
valid model has been loaded and for every other input (R316). -/
def chKi (s : State) (i : Nat) : Nat :=
  if inputCurrent i then 125000 * 1000000 / s.get (Port.PAR (12 * (i / 48) + i % 48) 1) else 0

/-- The code of 0 V (R316). -/
def chZero (i : Nat) : Nat := if inputCurrent i then 2048 else 0

/-- `HKS_CH_INFO.KIND` of an input (R311, R342). -/
def chKind (i : Nat) : Nat := if inputCurrent i then 1 else if 208 ≤ i then 2 else 0

/-! ### Correction (R315, R317) -/

/-- x of R315, in sixteenths of a code. -/
def corrX (s : State) (conv i raw : Nat) : Int :=
  ((16 * (raw : Int) + s.int (HKC_CAL.OFS conv)) * s.get (HKC_CAL.GAIN conv)).fdiv 32768 + s.int (Ch.OFS i)

/-- The corrected code before its clamp (R315). -/
def corrC (s : State) (conv i raw : Nat) : Int := (corrX s conv i raw * s.get (Ch.GAIN i)).fdiv 524288

/-- The sample is out of range (R317). -/
def outOfRange (s : State) (conv i raw : Nat) : Bool :=
  i < 228 && (raw == 0 || raw == 4095 || corrX s conv i raw < 0 || 65520 < corrX s conv i raw
    || corrC s conv i raw < 0 || 4095 < corrC s conv i raw)

/-- The code to which an out-of-range sample is clamped: the end that its raw code, else x, else c names (R317)
(DESIGN CHOICE, log entry 67: which of the three tells the end). -/
def rangeEnd (s : State) (conv i raw : Nat) : Nat :=
  let low := raw == 0 || (raw != 4095 && (corrX s conv i raw < 0
    || (!decide (65520 < corrX s conv i raw) && decide (corrC s conv i raw < 0))))
  if low then 0 else 4095

/-- The value born of a raw code: a reserved input delivers 0, an out-of-range one its clamped code with CLIP
(R311, R315, R317, R336, R346). -/
def birth (s : State) (conv i raw : Nat) (test : Bool) (upset : BitVec 16) : Tagged :=
  let c := if 228 ≤ i then 0 else if outOfRange s conv i raw then (rangeEnd s conv i raw : Int) else corrC s conv i raw
  ⟨c, BitVec.ofNat 16 (tagOf (if test then 7 else 2) c) ^^^ upset, outOfRange s conv i raw⟩

/-! ### Lanes and converters (R312 to R314) -/

/-- The reference selected for lane `m`; 0b11 acts as 0b00 (R314, R342). -/
def laneRef (s : State) (m : Nat) : Nat :=
  let r := slice (s.get HKS_LANE_REF.REF) (2 * m) 2
  if r = 3 then 0 else r

/-- The reference for which the correction of an input holds. -/
def chRef (s : State) (i : Nat) : Nat := if s.get (Ch.REF i) = 3 then 0 else s.get (Ch.REF i)

/-- Lane `m` has a converter that is settled on the reference of input `i` (R314). -/
def laneFits (s : State) (m i : Nat) : Bool :=
  let k := laneConv s m
  k < 5 && s.flag (HKC_STAT.SETTLED k) && s.get (HKC_STAT.REF k) == chRef s i

/-- Lane `m` is free (R313, R322). -/
def laneFree (s : State) (m : Nat) : Bool := !s.flag (Lane.BUSY m) && s.get (Lane.SEC m) == 0

/-- A refused conversion is counted (R314). -/
def convRefuse (s : State) (m : Nat) : State :=
  let k := laneConv s m
  ((s.on (k < 5) (·.inc (HKC_CNT.REFUSED k))).inc HKS_CNT1.REFUSED).evt 0x68 5

/-- What a sample of an input that starts now converts: 0 its front end, 1 nothing that counts, 2 the test
DAC (R336). -/
def testState (s : State) (i : Nat) : Nat :=
  if s.flag HKS_TDAC.EN && s.get HKS_TDAC.INPUT == i then (if s.flag HKS_TDAC.READY then 2 else 1)
  else if s.flag Hks.TDOFF && s.get Hks.TDLAST == i then 1 else 0

/-- A conversion starts on lane `m` (R313). -/
def convStart (s : State) (m i kind who : Nat) : State :=
  let s1 := ((s.put (Lane.BUSY m) 1).put (Lane.IN m) i).put (Lane.CONV m) (laneConv s m)
  ((s1.put (Lane.KIND m) kind).put (Lane.WHO m) who).put (Lane.TD m) (testState s i)

/-- A converter switches its reference buffer (R314). -/
def refSwitch (s : State) (k r : Nat) : State :=
  if k < 5 ∧ s.get (HKC_STAT.REF k) ≠ r then (s.put (HKC_STAT.REF k) r).put (HKC_STAT.SETTLED k) 0 else s

/-- The converters follow the selections: those that serve lanes, and the spare that a calibration prepares. -/
def refReview (s : State) : State :=
  let s1 := s.each (List.range 4) (fun s m => refSwitch s (laneConv s m) (laneRef s m))
  s1.on (s1.get Hks.CALSTEP == 1) (fun s => refSwitch s (s.get HKS_STAT.SPARE) (laneRef s (s.get Hks.CALLANE)))

/-- The write of `HKS_LANE_REF` (R314). -/
def laneRefWriteReg (s : State) (k : Bool) (w : Nat) : Res :=
  specialWrite s k 0x68 0x044 w false (fun s w' => refReview (storeFields s w' (regLayout 0x68 0x044)))

/-- A write of `HKS_LANE_REF` switches references (R314). -/
def execLaneRefWrite (a : Access) (w : BitVec 32) (s : State) : Out :=
  .next (regOp s a (fun s k => laneRefWriteReg s k w.toNat))

/-- The settling time of a converter's reference passes (R314, R341). -/
def execSettled (conv : Fin 5) (s : State) : Out :=
  .next (if s.flag (HKC_STAT.SETTLED conv) then s
    else causeEnds ((s.put (HKC_STAT.SETTLED conv) 1).evt (0x69 + conv) 1) (0x69 + conv) 1)

/-- A converter not settled 5 ms after a switch is withdrawn, and the spare takes its lane (R314, R335). -/
def execRefTimeout (conv : Fin 5) (s : State) : Out :=
  .next (if s.flag (HKC_STAT.SETTLED conv) then s
    else
      let s1 := refReview (convWithdraw (raiseHeld s (0x69 + conv) 1) conv)
      s1.on (s1.get Mnt.CV == 2 && s1.get Hks.CALSTEP == 0) (fun s => restoreFails (s.put Mnt.CV 0)))

/-! ### Service (R323) -/

/-- Strict service: START-UP, or the TEST or RECOVERY qualifier (R323). -/
def strict (s : State) : Bool := s.get HIVE_MODE.MODE == 0 || s.flag HIVE_MODE.TEST || recovery s

/-! ### Urgent requests (R322, R324) -/

/-- The first lane that satisfies `q`. -/
def firstLane (q : Nat → Bool) : Option Nat := (List.range 4).find? q

/-- Requester `who` has a request that waits or is converted (R324). -/
def urgentBusy (s : State) (who : Nat) : Bool :=
  (List.range 6).any (fun i => s.get (Hks.UQ i) / 256 == who + 1)
    || (List.range 4).any (fun m => (s.flag (Lane.BUSY m) && s.get (Lane.KIND m) == 4 && s.get (Lane.WHO m) == who)
      || (s.flag (Lane.VON m) && s.get (Lane.VKIND m) == 4 && s.get (Lane.VWHO m) == who))

/-- A dropped urgent request (R324). -/
def urgentDrop (s : State) (who : Nat) : State :=
  ((s.inc HKS_CNT0.URG_DROP).evt 0x68 2).on (who == 0) (·.put HKS_URGENT.RESULT 2)

/-- The voltage and the current input of a battery port (R246, R311). -/
def pairInputs (e : Nat) : List Nat :=
  let p := batPort e
  [48 * (p / 12) + 12 + p % 12, 48 * (p / 12) + p % 12]

/-- The pairs of the string start on the lowest free lanes whose converters fit all their channels (R246). -/
def impPair (s : State) (n : Nat) : State :=
  let jobs := (enginePair s n).flatMap (fun e => (pairInputs e).map (fun i => (i, e)))
  let lanes := (List.range 4).filter (fun m => laneFree s m && jobs.all (fun j => laneFits s m j.1))
  if s.flag (Imp.PAIR n) && jobs.length ≤ lanes.length then
    (s.put (Imp.PAIR n) 0).each (lanes.zip jobs) (fun s q => convStart s q.1 q.2.1 3 q.2.2)
  else s

/-- Pairs that wait go ahead of urgent requests and of every step, in ascending channel order (R322). -/
def pairsFirst (s : State) : State := s.each (List.range 8) impPair

/-- An urgent request of a requester: 0 the host, 1 + c the thermal block for comb c, 5 for the die sensors.
It is converted on the lowest free lane that fits; with none free it is dropped in normal service and waits in
strict service; where no lane fits it at all, or its channel is absent, it is refused (R322, R324). -/
def urgentRequest (s : State) (who i : Nat) : State :=
  if urgentBusy s who then urgentDrop s who
  else if inputAbsent s i || !(List.range 4).any (fun m => laneFits s m i) then
    ((s.inc HKS_CNT1.REFUSED).evt 0x68 5).on (who == 0) (·.put HKS_URGENT.RESULT 3)
  else
  let s := pairsFirst s
  match firstLane (fun m => laneFree s m && laneFits s m i) with
  | some m => convStart (s.on (who == 0) (·.put HKS_URGENT.RESULT 0)) m i 4 who
  | none =>
    if strict s then
      let s1 := s.on (who == 0) (·.put HKS_URGENT.RESULT 0)
      match (List.range 6).find? (fun q => s.get (Hks.UQ q) == 0) with
      | some q => s1.put (Hks.UQ q) ((who + 1) * 256 + i)
      | none => s1
    else urgentDrop s who

/-- Remove waiting request `q`; those behind it move up. -/
def urgentTake (s : State) (q : Nat) : State :=
  (s.each ((List.range 5).filter (fun i => q ≤ i)) (fun s i => s.put (Hks.UQ i) (s.get (Hks.UQ (i + 1))))).put
    (Hks.UQ 5) 0

/-- Lane `m` has come free: the first waiting request that it fits is allocated (R322, R324). -/
def urgentServe (s : State) (m : Nat) : State :=
  if laneFree s m then
    match (List.range 6).find? (fun q => s.get (Hks.UQ q) != 0 && laneFits s m (s.get (Hks.UQ q) % 256)) with
    | some q => convStart (urgentTake s q) m (s.get (Hks.UQ q) % 256) 4 (s.get (Hks.UQ q) / 256 - 1)
    | none => s
  else s

/-- The write of `HKS_URGENT` (R324). -/
def urgentWrite (s : State) (k : Bool) (w : Nat) : Res :=
  specialWrite s k 0x68 0x090 w false (fun s w' =>
    let s1 := storeFields s w' (regLayout 0x68 0x090)
    if fieldOf w' HKS_URGENT.GO = 1 then
      let keep := urgentBusy s1 0
      urgentRequest (s1.on (!keep) (fun s => s.put Hks.UACC (s.get HKS_URGENT.ACC))) 0 (s1.get HKS_URGENT.INPUT)
    else s1)

/-- An urgent request through `HKS_URGENT` (R324). -/
def execUrgent (a : Access) (w : BitVec 32) (s : State) : Out :=
  .next (regOp s a (fun s k => urgentWrite s k w.toNat))

/-! ### The sequence table (R319, R320) -/

/-- The steps of sequence `q` of the table at `a`. -/
def seqSteps (s : State) (a q : Nat) : Nat := s.leNat (a + 0x20 + q) 1

/-- The lane word `m` of step `j` of sequence `q` of the table at `a`: bit 8 enables, bits 7:0 the input. -/
def seqLane (s : State) (a q j m : Nat) : Nat := s.leNat (a + 0x40 + 0x80 * q + 8 * j + 2 * m) 2

/-- A sequence table is valid (R320) (DEDUCED, log entry 37). -/
def seqValid (s : State) (a : Nat) : Bool :=
  headerOk s a 0x0006 0x1040 && (List.range 32).all (fun q =>
    seqSteps s a q ≤ 16 && (List.range (seqSteps s a q)).all (fun j => (List.range 4).all (fun m =>
      !(seqLane s a q j m).testBit 8 || seqLane s a q j m % 256 < 228)))

/-- The sequence table that `HKS_CTL.TABLE` selects in the active bank, where it is valid. -/
def seqTable (s : State) : Option Nat := (findTable s 0x0006 (s.get HKS_CTL.TABLE)).filter (seqValid s)

/-- The selection has changed: a valid table ends the built-in set at the end of its present run, an invalid
one puts the built-in set in force and raises SEQ_TABLE (R320, R337). -/
def seqReview (s : State) : State :=
  match seqTable s with
  | some _ => causeEnds (builtinReview (s.put Hks.TABLE_BAD 0)) 0x68 1
  | none =>
    let s1 := s.on (!s.flag HKS_STAT.BUILTIN) (fun s => ((s.put HKS_STAT.BUILTIN 1).put Hks.BSTEP 0).evt 0x68 7)
    raiseHeld (s1.put Hks.TABLE_BAD 1) 0x68 1

/-- The write of `HKS_CTL` (R318, R320). -/
def hksCtlWrite (s : State) (k : Bool) (w : Nat) : Res :=
  specialWrite s k 0x68 0x040 w false (fun s w' =>
    let s1 := storeFields s w' (regLayout 0x68 0x040)
    s1.on (s1.get HKS_CTL.TABLE != s.get HKS_CTL.TABLE) seqReview)

/-! ### Triggers (R321, R323) -/

/-- A dropped trigger (R320, R323). -/
def trigDrop (s : State) : State := (s.inc HKS_CNT0.TRIG_DROP).evt 0x68 0

/-- Sequence `q` becomes due: it is pending, or its repeat trigger is queued or dropped (R321 to R323). -/
def seqDue (s : State) (q : Nat) : State :=
  let busy := s.bit HKS_PEND.PEND q || (s.flag HKS_RUN.ACTIVE && s.get HKS_RUN.SEQ == q)
  if !busy then s.putBit HKS_PEND.PEND q true
  else if strict s && !s.bit HKS_QUEUED.QUEUED q then (s.putBit HKS_QUEUED.QUEUED q true).evt 0x68 1
  else trigDrop s

/-- A trigger of sequence `q` is registered: dropped under the built-in set, due after DELAY cycles (R320,
R321). -/
def seqTrigger (s : State) (q : Nat) : State :=
  if s.flag HKS_STAT.BUILTIN then trigDrop s
  else if s.get (HKS_SEQ_TRIG.DELAY q) = 0 then seqDue s q
  else s.inc (Hks.DLY q)

/-- The housekeeping island runs: its clock is present and the device is not in hive-sleep (R27, R76). -/
def hksLive (s : State) : Bool := s.flag Boot.PLL && !s.flag Boot.HELD && s.get Sleep.STATE != 2 && !s.flag (Clk.LOST 72)

/-- A sequence timer fires (R321). -/
def execSeqTimer (t : Fin 8) (s : State) : Out :=
  .next (if hksLive s && s.flag (HKS_TMR.EN t) then
    s.each ((List.range 32).filter (fun q => s.get (HKS_SEQ_TRIG.SRC q) == t.val + 1)) seqTrigger else s)

/-- An event of a phase is registered as a trigger: a period start in RUN and in every hold state, a sample
point that the period takes in RUN alone (R135, R321). -/
def execPhaseEventTrigger (p : Fin 16) (ev : Fin 8) (s : State) : Out :=
  let e := fun (v : Nat) => if 5 ≤ v then 0 else v
  let st := s.get (PH_STAT.STATE p)
  let fires := !absent s (0x20 + p) && (if e ev = 0 then st != 0 else spTakes s p (e ev - 1))
  .next (if hksLive s && fires then
    s.each ((List.range 32).filter (fun q => s.get (HKS_SEQ_TRIG.SRC q) == 9
      && s.get (HKS_SEQ_TRIG.PHASE q) == p.val && e (s.get (HKS_SEQ_TRIG.EVENT q)) == e ev)) seqTrigger
    else s)

/-- The write of `HKS_SW_TRIG` triggers each sequence written 1 (R321). -/
def swTrigWrite (s : State) (k : Bool) (w : Nat) : Res :=
  specialWrite s k 0x68 0x070 w false (fun s w' => s.each (bitsOf 32 w') seqTrigger)

/-- A write of `HKS_SW_TRIG` (R321). -/
def execSwTrig (a : Access) (w : BitVec 32) (s : State) : Out :=
  .next (regOp s a (fun s k => swTrigWrite s k w.toNat))

/-- DELAY cycles after its trigger, a sequence is due (R321). -/
def execSequenceDue (q : Fin 32) (s : State) : Out :=
  .next (if s.get (Hks.DLY q) = 0 then s
    else
      let s1 := s.put (Hks.DLY q) (s.get (Hks.DLY q) - 1)
      if s1.flag HKS_STAT.BUILTIN then trigDrop s1 else seqDue s1 q)

/-! ### Steps (R320, R322, R335) -/

/-- The running sequence ends: DONE is set, and a queued trigger makes it pending again (R322, R323). -/
def seqEnd (s : State) : State :=
  let q := s.get HKS_RUN.SEQ
  let s1 := ((s.put HKS_RUN.ACTIVE 0).put Hks.LAST 0).putBit HKS_SEQ_DONE.DONE q true
  s1.on (s.bit HKS_QUEUED.QUEUED q) (fun s => (s.putBit HKS_QUEUED.QUEUED q false).putBit HKS_PEND.PEND q true)

/-- The running sequence ends once the values of its last step are available, a run of the built-in set likewise
(R320, R322). -/
def seqEndReview (s : State) : State :=
  builtinReview (s.on (s.flag HKS_RUN.ACTIVE && s.flag Hks.LAST && !stepAwaits s 0) seqEnd)

/-- The lanes that a step names with their inputs; those of absent channels take no part (R311). -/
def stepLanes (s : State) (l : List (Nat × Nat)) : List (Nat × Nat) :=
  l.filter (fun q => !inputAbsent s q.2)

/-- A step starts its conversions on one edge: a lane whose converter does not fit refuses, and the input of a
lane without a converter takes a second slot on the lowest other named lane that fits (R314, R322, R335)
(DEDUCED, log entry 37). -/
def stepStart (s : State) (kind : Nat) (l : List (Nat × Nat)) : State :=
  let here := l.filter (fun q => laneConv s q.1 < 5)
  let gone := l.filter (fun q => !(laneConv s q.1 < 5))
  let s1 := s.each here (fun s q => if laneFits s q.1 q.2 then convStart s q.1 q.2 kind 0 else convRefuse s q.1)
  s1.each gone (fun s q =>
    match here.find? (fun h => laneFits s h.1 q.2 && s.get (Lane.SEC h.1) == 0) with
    | some h => if s.flag (Lane.BUSY h.1) then s.put (Lane.SEC h.1) (q.2 + 1) else convStart s h.1 q.2 kind 0
    | none => convRefuse s q.1)

/-- The lanes and inputs of step `j` of sequence `q` in the table at `a`. -/
def tableStep (s : State) (a q j : Nat) : List (Nat × Nat) :=
  stepLanes s (((List.range 4).filter (fun m => (seqLane s a q j m).testBit 8)).map
    (fun m => (m, seqLane s a q j m % 256)))

/-- Every lane that a step names is free. -/
def lanesFree (s : State) (l : List (Nat × Nat)) : Bool := l.all (fun q => laneFree s q.1)

/-- Step `j` of the running sequence starts where its lanes are free; a step word that cannot be read makes the table
invalid (R322, R358). -/
def runStep (s : State) (q j : Nat) : State :=
  let a := s.get Hks.RUNAT
  let l := tableStep s a q j
  if lanesFree s l then
    let s1 := blockRead (s.put HKS_RUN.STEP j) (a + 0x40 + 0x80 * q + 8 * j) 8
    if !readable s (a + 0x40 + 0x80 * q + 8 * j) 8 then seqReview (s1.put HKS_RUN.ACTIVE 0) else
    let s2 := (stepStart s1 0 l).putB Hks.LAST (seqSteps s a q ≤ j + 1)
    seqEndReview s2
  else s

/-- A step of the built-in set: inputs 4j to 4j + 3 on lanes 0 to 3 (R320). The set is retriggered after its last step,
unless a valid table waits for the values of that step (R337). -/
def builtinStep (s : State) : State :=
  let j := s.get Hks.BSTEP
  let l := stepLanes s ((List.range 4).map (fun m => (m, 4 * j + m)))
  let waits := j == 0 && !builtinHeld s
  if lanesFree s l && !waits then seqEndReview ((stepStart s 1 l).put Hks.BSTEP (j + 1)) else s

/-- The sequencer starts the next step: of the running sequence, of the built-in set, or the first step of the
lowest-numbered pending sequence (R320, R322). -/
def sequenceStep (s : State) : State :=
  if s.flag HKS_RUN.ACTIVE then
    (if s.flag Hks.LAST then s else
      let first := s.get HKS_RUN.STEP
      runStep s (s.get HKS_RUN.SEQ) (first + 1))
  else if s.flag HKS_STAT.BUILTIN then builtinStep s
  else match seqTable s with
  | none => seqReview s
  | some a =>
    match (bitsOf 32 (s.get HKS_PEND.PEND))[0]? with
    | none => s
    | some q =>
      if seqSteps s a q = 0 then s.putBit HKS_PEND.PEND q false
      else if lanesFree s (tableStep s a q 0) then
        let s1 := ((s.putBit HKS_PEND.PEND q false).put HKS_RUN.ACTIVE 1).put HKS_RUN.SEQ q
        runStep (s1.put Hks.RUNAT a) q 0
      else s

/-- The lanes that a step names are free, and the step starts its conversions (R322). -/
def execSequenceStepStart (s : State) : Out := .next (if hksLive s then sequenceStep (pairsFirst s) else s)

/-! ### Conversion end (R313, R318) -/

/-- The conversion on lane `m` ends; `outside` is what the lane's window comparators found at its start edge.
A recovery conversion, a second slot or a waiting urgent request follows at once (R313, R318, R322). -/
def conversionEnd (s : State) (m : Nat) (outside : Bool) : State :=
  if !hksLive s || !s.flag (Lane.BUSY m) || (s.flag (Lane.VON m) && s.get (Lane.KIND m) != 2) then s
  else
    let kind := s.get (Lane.KIND m)
    let s1 := s.put (Lane.BUSY m) 0
    let s2 := if kind = 2 then s1 else
      (((((s1.put (Lane.VON m) 1).put (Lane.VIN m) (s.get (Lane.IN m))).put (Lane.VCONV m)
        (s.get (Lane.CONV m))).put (Lane.VKIND m) kind).put (Lane.VWHO m) (s.get (Lane.WHO m))).put (Lane.VTD m)
          (s.get (Lane.TD m))
    if outside && kind != 2 && s.flag HKS_CTL.RECOV_EN then
      (convStart s2 m 255 2 0).inc HKS_CNT1.RECOV
    else if s.get (Lane.SEC m) ≠ 0 then
      let s3 := s2.put (Lane.SEC m) 0
      let i := s.get (Lane.SEC m) - 1
      if laneFits s m i then convStart s3 m i (if s.flag HKS_RUN.ACTIVE then 0 else 1) 0
      else seqEndReview (convRefuse s3 m)
    else urgentServe (pairsFirst s2) m

/-- A housekeeping conversion ends 64 cycles after its start edge (R313) (DESIGN CHOICE, log entry 60). -/
def execConversionEnd (lane : Fin 4) (outside : Bool) (s : State) : Out :=
  .next (conversionEnd s lane outside)

/-! ### Delivery (R325) -/

/-- A voltage in units of 10 mV from the code of an 85 V input (R316). -/
def volts10 (c : Int) : Int := (c * 20751953).fdiv 10000000

/-- A port current in units of 10 mA from its code (R316). -/
def amps10 (s : State) (i : Nat) (c : Int) : Int := ((c - 2048) * chKi s i).fdiv 10000000

/-- A needed quantity of comb `c` is renewed: the stale hold ends with the last of them (R177). -/
def staleRenew (s : State) (c r : Nat) : State :=
  let s1 := s.putBit (Arb.STALEM c) r false
  s1.on (s1.get (Arb.STALEM c) == 0) (fun s => (s.put (Arb.STALE c) 0).put (Arb.STALE_RAMP c) 0)

/-- What the Forager of comb `c` keeps of input `r` of the comb. -/
def combKeeps (s : State) (c r i : Nat) (x : Tagged) : State :=
  if r < 12 then s.putI (Port.IF (12 * c + r)) (amps10 s i x.val)
  else if r = 44 then (s.putI (Comb.VSYS c) (volts10 x.val)).put (Comb.TAGV c 0) x.tag.toNat
  else if r = 45 then (s.putI (Comb.VBB c) (volts10 x.val)).put (Comb.TAGV c 1) x.tag.toNat
  else s

/-- A pair that REVERSE has opened closes again once VBB has fallen below its string (R278). -/
def reverseReview (s : State) (n : Nat) : State :=
  s.on (s.flag (Port.REV_OPEN n)) (fun s => portReview s n)

/-- What the island of port `n` keeps of the voltage of its bus: VBB for a battery port, VSYS for the others (R257). -/
def busKeeps (s : State) (n : Nat) (x : Tagged) : State :=
  reverseReview (s.putI (Port.BUSV n) (volts10 x.val)) n

/-- What the island of port `n` keeps of its current, voltage or remote diode; a clipped diode reading is
invalid (R257, R274, R275). -/
def portKeeps (s : State) (n r i : Nat) (x : Tagged) : State :=
  if r < 12 then (s.putI (Port.I n) (amps10 s i x.val)).put (Port.STALE n 0) 0
  else if r < 24 then
    let s1 := reverseReview ((s.putI (Port.VS n) (volts10 x.val)).put (Port.STALE n 1) 0) n
    s1.on (portKind n == 4) (fun s => pdWaitReview (disReview (s.putB (PDP_STAT.VBUS_PRES (n / 12))
      (decide (400 < s1.get (Port.VS n)))) (n / 12)) (n / 12))
  else if r < 36 then ((s.putI (Port.DIODE_T n) (Config.diodeTemp x.val.toNat)).putB (Port.DIODE_OK n)
    (!x.clip)).put (Port.STALE n 3) 0
  else s

/-- The thermal sensor of an input (R367). -/
def inputSensor (i : Nat) : Option Nat :=
  if i < 192 then
    let r := i % 48
    if 36 ≤ r ∧ r < 40 then some (8 + 4 * (i / 48) + (r - 36))
    else if 40 ≤ r ∧ r < 44 then some (24 + 4 * (i / 48) + (r - 40))
    else none
  else if 208 ≤ i ∧ i < 216 then some (i - 208) else none

/-- The thermal block keeps the latest value of a sensor with its tag for the sample (R369, R371). -/
def thermalKeeps (s : State) (t : Nat) (x : Tagged) : State :=
  (((s.putI (Thm.CODE t) x.val).put (Thm.TAG t) x.tag.toNat).putB (Thm.CLIP t) x.clip).put (Thm.NEW t) 1

/-- Delivery of a value to the blocks that act on it (R325): the comb's Forager, the port island through it, VSYS and VBB to
every port island that acts on them (R257), the thermal block. Each checks the value for itself (R352). -/
def deliver (s : State) (i : Nat) (x : Tagged) : State :=
  let s1 := if i < 192 then
      let c := i / 48
      let r := i % 48
      if foragerRuns s c then
        let s2 := if r < 24 ∨ r = 44 ∨ r = 45 then onTagged s (0x10 + c) x (fun s => staleRenew (combKeeps s c r i x) c r) else s
        if r < 36 then onTagged s2 (0x30 + 12 * c + r % 12) x (fun s => portKeeps s (12 * c + r % 12) r i x)
        else if r = 44 ∨ r = 45 then
          s2.each ((List.range 12).filter (fun m => (r == 45) == (portKind m == 2))) (fun s m =>
            onTagged s (0x30 + 12 * c + m) x (fun s => busKeeps s (12 * c + m) x))
        else s2
      else s
    else s
  match inputSensor i with
  | some t => thermalKeeps s1 t x
  | none => s1

/-- Record an out-of-range sample (R317). -/
def ovrRecord (s : State) (i : Nat) : State :=
  if s.bit (HKS_OVR.OVR (i / 32)) (i % 32) then s
  else (s.putBit (HKS_OVR.OVR (i / 32)) (i % 32) true).evt 0x68 3

/-- A born value goes where its conversion sends it: an impedance pair into its channel's accumulators only, a
test sample into test accumulators and trackers only (R246, R317, R324, R325, R336). -/
def valueGoes (s : State) (i kind who td : Nat) (x : Tagged) : State :=
  let test := td == 2
  let s1 := if x.clip && !test then ovrRecord s i else s
  if kind = 3 then accPair s1 who (s.get (Imp.PK who)) i x test (s.flag (Imp.PON who))
  else
    let s2 := mmtDeliver (accDeliver s1 i x test) i x test
    let s3 := if kind = 4 ∧ who = 0 then accAlso s2 (s.get Hks.UACC) i x test else s2
    if test then s3 else deliver s3 i x

/-- A value becomes available: it is corrected and tagged at birth, checked there, and delivered (R315, R325,
R350). -/
def valueAvailable (s : State) (i raw : Nat) (birthOk : Bool) (upset : BitVec 16) : State :=
  match firstLane (fun m => s.flag (Lane.VON m) && s.get (Lane.VIN m) == i) with
  | none => s
  | some m =>
    let k := s.get (Lane.VCONV m)
    let kind := s.get (Lane.VKIND m)
    let who := s.get (Lane.VWHO m)
    let td := s.get (Lane.VTD m)
    let s0 := s.put (Lane.VON m) 0
    let s1 :=
      if !birthOk then tagError s0 (0x69 + k) 0x4000
      else if td = 1 then s0
      else valueGoes s0 i kind who td (birth s k i raw (td == 2) upset)
    let s2 := s1.on (kind == 4 && who == 0) (fun s => (s.put HKS_URGENT.RESULT 1).evt 0x68 9)
    seqEndReview s2

/-- A corrected, tagged value is delivered: `raw` is the raw code, `birthOk` the residue check of the correction,
and `upset` what the carriage did to the tag (R315, R325, R350). -/
def execValueAvailable (input : Fin 256) (raw : BitVec 12) (birthOk : Bool) (upset : BitVec 16) (s : State) : Out :=
  .next (if hksLive s then valueAvailable s input raw.toNat birthOk upset else s)

/-! ### Self-calibration and the spare (R334, R335) -/

/-- Converter `x` converts its calibration points (R334). -/
def calConvert (s : State) (x : Nat) : State :=
  ((convRole s x 5).put HKS_STAT.CAL_CONV x).put Hks.CALSTEP 2

/-- The calibration of the converter of lane `m`: the spare switches to the lane's reference (R334). -/
def calLane (s : State) (m : Nat) : State :=
  let s1 := ((s.put Hks.CALLANE m).put HKS_STAT.CAL_CONV (laneConv s m)).put Hks.CALSTEP 1
  refSwitch s1 (s.get HKS_STAT.SPARE) (laneRef s m)

/-- The calibration ends. -/
def calEnd (s : State) : State :=
  (((s.put HKS_STAT.CAL_BUSY 0).put HKS_STAT.CAL_CONV 7).put Hks.CALSTEP 0).put Hks.CALALL 0

/-- GO of a calibration of `target`; with no spare it is refused and NO_SPARE is raised; an injected NO_SPARE
refuses it likewise (R395). A GO while one runs has
no effect, and one of a converter that takes no role is refused (R334, R335) (DEDUCED, log entry 38). -/
def calGo (s : State) (target : Nat) : State :=
  let sp := s.get HKS_STAT.SPARE
  if s.flag HKS_STAT.CAL_BUSY then s
  else if sp = 7 then raiseEvent (s.put HKS_CAL.RESULT 2) 0x68 2
  else if s.bit (Flt.INJ 0x68) 2 then s.put HKS_CAL.RESULT 2
  else
    let s1 := s.put HKS_STAT.CAL_BUSY 1
    if 5 ≤ target then calConvert (((s1.put Hks.CALALL 1).put Hks.CALNEXT 0).put HKS_STAT.SPARE 7) sp
    else if target = sp then calConvert (s1.put HKS_STAT.SPARE 7) sp
    else match (List.range 4).find? (fun m => laneConv s m == target) with
    | some m => calLane s1 m
    | none => s.put HKS_CAL.RESULT 2

/-- The write of `HKS_CAL` (R334). -/
def hksCalWrite (s : State) (k : Bool) (w : Nat) : Res :=
  specialWrite s k 0x68 0x04C w false (fun s w' =>
    let s1 := storeFields s w' ((regLayout 0x68 0x04C).filter (fun q => q.2 == .krw))
    s1.on (fieldOf w' HKS_CAL.GO == 1) (fun s => calGo s (s.get HKS_CAL.TARGET)))

/-- A write of `HKS_CAL` with GO starts a calibration (R334). -/
def execCalibration (a : Access) (w : BitVec 32) (s : State) : Out :=
  .next (regOp s a (fun s k => hksCalWrite s k w.toNat))

/-- Every AUTO minutes a calibration of all converters starts (R334). -/
def execAutoCalibration (s : State) : Out :=
  .next (if hksLive s && s.get HKS_CAL.AUTO != 0 then calGo s 5 else s)

/-- On the first edge on which the lane is free it passes to the settled spare (R334). -/
def laneHandover (s : State) : State :=
  let sp := s.get HKS_STAT.SPARE
  let m := s.get Hks.CALLANE
  if s.get Hks.CALSTEP = 1 ∧ sp ≠ 7 ∧ s.flag (HKC_STAT.SETTLED sp) ∧ laneFree s m then
    let s1 := convRole ((setLane s m sp).put HKS_STAT.SPARE 7) sp m
    let x := s.get HKS_STAT.CAL_CONV
    if s.get Mnt.CV = 1 then maintEnd (convMark (calEnd (convRole (s1.put Mnt.CV 0) x 6)) x true) 1
    else calConvert s1 x
  else s

/-- A lane passes to the spare (R334). -/
def execLaneHandover (s : State) : Out := .next (laneHandover s)

/-- The factors of a calibration lie within their limits (R335). -/
def calOk (ofs : BitVec 12) (gain : BitVec 16) : Bool :=
  decide (-128 ≤ ofs.toInt ∧ ofs.toInt ≤ 128) && decide (((gain.toNat : Int) - 32768).natAbs * 50 ≤ 32768)

/-- The pass goes on with the next lane that has a converter, or ends (R334). -/
def calNext (s : State) : State :=
  match (List.range 4).find? (fun m => decide (s.get Hks.CALNEXT ≤ m) && decide (laneConv s m < 5)) with
  | some m => if s.flag Hks.CALALL then calLane (s.put Hks.CALNEXT (m + 1)) m else calEnd s
  | none => calEnd s

/-- After 25 ms the converter stores its factors and becomes the spare, or fails (R334, R335) (DEDUCED, log entry 38). -/
def calDone (s : State) (ofs : BitVec 12) (gain : BitVec 16) : State :=
  let x := s.get HKS_STAT.CAL_CONV
  if s.get Hks.CALSTEP ≠ 2 then s
  else if calOk ofs gain then
    let s1 := ((s.put (HKC_CAL.OFS x) ofs.toNat).put (HKC_CAL.GAIN x) gain.toNat).put (HKC_AGE.AGE x) 0
    let s2 := (convRole (s1.inc (HKC_CNT.CALS x)) x 4).put HKS_STAT.SPARE x
    let s3 := calNext (causeEnds ((s2.put HKS_CAL.RESULT 1).evt 0x68 4) (0x69 + x) 0)
    s3.on (s.get Mnt.CV == 2) (fun s => maintEnd (convMark (s.put Mnt.CV 0) x false) 1)
  else
    let s1 := calEnd (raiseHeld ((convRole s x 6).put HKS_CAL.RESULT 3) (0x69 + x) 0)
    s1.on (s.get Mnt.CV == 2) (fun s => restoreFails (s.put Mnt.CV 0))

/-- The calibration of a converter is complete (R334). -/
def execCalDone (ofs : BitVec 12) (gain : BitVec 16) (s : State) : Out := .next (calDone s ofs gain)

/-! ### Test DAC (R336) -/

/-- The conversions of input `i` that run are discarded (R336, R339). -/
def testDiscard (s : State) (i : Nat) : State :=
  s.each ((List.range 4).filter (fun m => s.flag (Lane.BUSY m) && s.get (Lane.IN m) == i)) (fun s m =>
    s.put (Lane.TD m) 1)

/-- The write of `HKS_TDAC` (R336, R339). -/
def tdacWriteReg (s : State) (k : Bool) (w : Nat) : Res :=
  specialWrite s k 0x68 0x094 w false (fun s w' =>
    let s1 := storeFields s w' (regLayout 0x68 0x094)
    let same := s1.get HKS_TDAC.EN == s.get HKS_TDAC.EN && s1.get HKS_TDAC.CODE == s.get HKS_TDAC.CODE
      && s1.get HKS_TDAC.INPUT == s.get HKS_TDAC.INPUT
    if same then s1
    else
      let old := s.get HKS_TDAC.INPUT
      let left := s.flag HKS_TDAC.EN && !(s1.flag HKS_TDAC.EN && s1.get HKS_TDAC.INPUT == old)
      let s2 := (s1.put HKS_TDAC.READY 0).on left (fun s => testDiscard ((s.put Hks.TDOFF 1).put Hks.TDLAST old) old)
      s2.on (s1.flag HKS_TDAC.EN) (fun s => testDiscard s (s1.get HKS_TDAC.INPUT)))

/-- A write of `HKS_TDAC` (R336). -/
def execTdacWrite (a : Access) (w : BitVec 32) (s : State) : Out :=
  .next (regOp s a (fun s k => tdacWriteReg s k w.toNat))

/-- 20 microseconds after the write, READY is set, and the samples of an input whose test has ended count again
(R336). -/
def execTdacReady (s : State) : Out :=
  let s1 := s.put Hks.TDOFF 0
  .next (if s.flag HKS_TDAC.EN && !s.flag HKS_TDAC.READY then (s1.put HKS_TDAC.READY 1).evt 0x68 6 else s1)

/-! ### The channel view and captures (R328, R342) -/

/-- A register of the channel view as it reads: 0x09C, 0x0A0, 0x0A4 and 0x0A8 of the input that
`HKS_CH_SEL` names (R316, R342). -/
def chRead (s : State) (off : Nat) : Nat :=
  let i := s.get HKS_CH_SEL.CH
  match off with
  | 0x09C => s.get (Ch.GAIN i) * 65536 + s.get (Ch.OFS i)
  | 0x0A0 => chK s i
  | 0x0A4 => chKi s i
  | _ => chKind i * 2 ^ 30 + s.get (Ch.REF i) * 65536 + chZero i

/-- The write of `HKS_CH_COR` or `HKS_CH_INFO` reaches the input that `HKS_CH_SEL` names (R342). -/
def chWrite (s : State) (k : Bool) (off w : Nat) : Res :=
  let i := s.get HKS_CH_SEL.CH
  let s0 := ((s.put HKS_CH_COR.GAIN (s.get (Ch.GAIN i))).put HKS_CH_COR.OFS (s.get (Ch.OFS i))).put
    HKS_CH_INFO.REF (s.get (Ch.REF i))
  let r := plainWrite s0 k 0x68 off w
  let s1 := ((r.1.put (Ch.GAIN i) (r.1.get HKS_CH_COR.GAIN)).put (Ch.OFS i) (r.1.get HKS_CH_COR.OFS)).put
    (Ch.REF i) (r.1.get HKS_CH_INFO.REF)
  (((s1.put HKS_CH_COR.GAIN 0x8000).put HKS_CH_COR.OFS 0).put HKS_CH_INFO.REF 0, r.2)

/-- The capture of accumulator `a` on a path: SUM, CNT, SQ and CLIPS with their tags on one edge (R328). -/
def accCapture (s : State) (path : Fin 4) (a : Nat) : State :=
  let s1 := (s.put (Cap.ON path) 1).put (Cap.ACC path) a
  let s2 := ((s1.putI (Cap.SUM path) (accSum s a)).put (Cap.CNT path) (accCnt s a)).putI (Cap.SQ path) (accSq s a)
  ((s2.put (Cap.CLIPS path) (s.get (ACC_CLIPS.CLIPS (a / 64) (a % 64)))).put (Cap.SUMTAG path)
    (sumTag s a 3)).put (Cap.SQTAG path) (sqTag s a)

/-! ### Wake (R337) -/

/-- On wake the accumulators, the trackers and `HKS_OVR` are cleared, and every EPOCH is incremented (R337). -/
def hksWake (s : State) : State :=
  let s1 := s.each (List.range 512) (fun s a => accClear s a)
  let s2 := s1.each (List.range 256) (fun s t => mmtClear s t)
  s2.each (List.range 8) (fun s i => s.put (HKS_OVR.OVR i) 0)

end Sys2Proof.Machine
end

