-- ==== Sys2Proof/Machine/Slots.lean ====
section
/-! DEFINITION. The failures, the records and the slots of the watchdog (chapter 18), which every internal source checks
in to. -/

namespace Sys2Proof.Machine

/-! ### Failures and records (R430) -/

/-- The fifteen record positions that hold a record, with its number. -/
def wdgRecords (s : State) : List (Nat × Nat) :=
  (List.range 15).filterMap (fun p =>
    if s.retByte (0x12 + 16 * p) = 0 then none else some (p, s.retWord (0x10 + 16 * p) % 65536))

/-- The newest record held: no other is numbered within 0x7FFF after it (R430). -/
def wdgNewest (s : State) : Option (Nat × Nat) :=
  let l := wdgRecords s
  l.find? (fun q => l.all (fun r => r.1 == q.1 || !(let d := (r.2 + 65536 - q.2) % 65536; 1 ≤ d && d ≤ 0x7FFF)))

/-- Write the record of a failure into retention SRAM (R430) (DEDUCED, log entry 57). -/
def wdgRecord (s : State) (cause slot : Nat) : State :=
  let (p, n) := match wdgNewest s with
    | none => (0, 0)
    | some (p, n) => ((p + 1) % 15, (n + 1) % 65536)
  let a := 0x10 + 16 * p
  (((s.setRetWord a (n + cause * 0x10000 + slot * 0x1000000)).setRetWord (a + 4) (s.get WDG_TICK.TICK)).setRetWord
    (a + 8) (s.get WDG_SEQ.SEQ)).setRetWord (a + 12) (s.get Dev.TIME)

/-- The bit of a failure in `WDG_CAUSE` or `WDG_CAUSE_X` (R430, R435). -/
def wdgCauseBit (s : State) (cause slot : Nat) : State :=
  match cause with
  | 1 => s.put WDG_CAUSE_X.EARLY 1
  | 2 => s.put WDG_CAUSE_X.LATE 1
  | 3 => s.orF WDG_CAUSE.MISSING (1 <<< slot)
  | 4 => s.orF WDG_CAUSE.DUP (1 <<< slot)
  | 5 => s.put WDG_CAUSE_X.BAD_KEY 1
  | _ => s.put WDG_CAUSE_X.CLK_STOP 1

/-- The same failure among those of the cycle that step 3 loads after the reset (R431). -/
def wdgCycleBit (s : State) (cause slot : Nat) : State :=
  match cause with
  | 3 => s.orF Wdg.RMISS (1 <<< slot)
  | 4 => s.orF Wdg.RDUP (1 <<< slot)
  | 1 => s.orF Wdg.RX 1
  | 2 => s.orF Wdg.RX 2
  | 5 => s.orF Wdg.RX 4
  | _ => s.orF Wdg.RX 8

/-- A watchdog failure: its record, its cause bit, EVT bit 1 and FAIL_PENDING; the first of the cycle is kept
(R428, R430, R431). -/
def wdgFail (s : State) (cause slot : Nat) : State :=
  let s1 := s.on (!s.flag WDG_STAT.FAILED) (fun s =>
    ((((s.put Wdg.FCAUSE cause).put Wdg.FSLOT slot).put Wdg.RMISS 0).put Wdg.RDUP 0).put Wdg.RX 0)
  let s2 := wdgCycleBit (wdgCauseBit (wdgRecord s1 cause slot) cause slot) cause slot
  raiseHeld ((s2.put WDG_STAT.FAILED 1).evt 0x09 1) 0x09 1

/-! ### Slots (R71, R426, R432) -/

/-- The code of a slot: by the built-in assignment while the hive sequencer serves, else by the maps (R71, R426). -/
def slotCode (s : State) (n : Nat) : Nat :=
  if s.flag WDG_STAT.SVC_BY_HW then
    match n with
    | 12 => 1
    | 13 => 3 + 2 * s.get HIVE_BOOT_STAT.SAFE_COMB
    | 14 => 4 + 2 * s.get HIVE_BOOT_STAT.SAFE_COMB
    | 15 => 2
    | _ => 0
  else slice (s.get Wdg.MAP) (4 * n) 4

/-- A slot code is that of an internal source (R426). -/
def codeInternal (c : Nat) : Bool := 1 ≤ c && c ≤ 10

/-- Enabled slots without a check-in. -/
def slotsMissing (s : State) : List Nat := bitsOf 16 (andNot (s.get Wdg.EN) (s.get WDG_STAT.CHECKED))

/-- The first tick of the window; a value above CLOSE acts as CLOSE (R435). -/
def wdgOpen (s : State) : Nat := min (s.get Wdg.OPEN) (s.get Wdg.CLOSE)

/-- The window is served: SERVED and EVT bit 2 (R425). -/
def wdgServed (s : State) : State := (s.put WDG_STAT.SERVED 1).evt 0x09 2

/-- The hive sequencer serves on the first tick at or after OPEN on which every enabled slot has checked in (R432); it
cannot without the hive's clock (R27). -/
def hwServe (s : State) : State :=
  if s.flag WDG_STAT.SVC_BY_HW && !s.flag (Clk.LOST 73) && !s.flag WDG_STAT.SERVED && decide (wdgOpen s ≤ s.get WDG_TICK.TICK)
      && (slotsMissing s).isEmpty then wdgServed s
  else s

/-- A check-in of a slot; a second one in the cycle is a DUPLICATE failure (R427). -/
def checkSlot (s : State) (n : Nat) : State :=
  if s.bit WDG_STAT.CHECKED n then wdgFail s 4 n else s.putBit WDG_STAT.CHECKED n true

/-- An internal source completes its condition: it checks in its enabled slots that have not checked in in the present
cycle (R423, R426) (DEDUCED, log entry 62). -/
def internalCheckin (s : State) (code : Nat) : State :=
  hwServe (s.each ((slotsMissing s).filter (fun n => slotCode s n == code && codeInternal code)) checkSlot)

end Sys2Proof.Machine
end

