-- ==== Sys2Proof/Machine/Charge.lean ====
section
/-! DEFINITION. Charge engines (chapter 9): profiles, evaluations, quantities, exits, set-points, safety timers,
battery removal and return, lamps, and
the check-in of the engines (R230). -/

namespace Sys2Proof.Machine

/-! ### Ports and states (R213, R214) -/

/-- A shutdown of a battery sensor holds the string's ports open and its current at 0 (R375). -/
def batteryShut (s : State) (n : Nat) : Bool :=
  (enginePair s n).any (fun f => s.flag (THS_STAT.SD (24 + 2 * f)) || s.flag (THS_STAT.SD (25 + 2 * f)))

/-- The ports of the string are commanded as MODE says; one confirmed absent alone stays open, and none closes under
a C4 action or a shutdown (R214, R217, R226, R375, R390). -/
def chgPorts (s : State) (n mode : Nat) : State :=
  s.each (enginePair s n) (fun s f =>
    if mode = 0 ∨ s.flag (Chg.ABS f) then (if s.flag (Port.CMD (batPort f)) then chgOpen s f else s)
    else if s.flag (Port.CMD (batPort f)) then s.on (s.flag (Port.REV_OPEN (batPort f))) (fun s => portReview s (batPort f))
    else if batteryShut s n || classActed s (0x88 + n) 4
        || classActed s (0x88 + f) 4 then s
    else portReview (s.put (Port.CMD (batPort f)) 1) (batPort f))

/-- Entry to a state, with the ports of the string as its MODE says (R213, R214). -/
def enterState (s : State) (n a st cause ex : Nat) : State := chgPorts (stateEnter s n a st cause ex) n (stMode s a st)

/-- Entry to START with AH_TOTAL cleared (R213, R227, R236). -/
def enterStart (s : State) (n a cause : Nat) : State :=
  enterState ((s.put (Chg.AHT n) 0).put (CHG_AH_TOTAL.AH n) 0) n a (s.leNat (a + 7) 1) cause 0

/-- RESTART: START is entered and every counter cleared, a PROFILE raised for a state that the profile no longer holds ends
(R231, R236). -/
def restart (s : State) (n a : Nat) : State :=
  let s1 := ((s.put (CHG_ABS_CNT.REMOVALS n) 0).put (CHG_ABS_CNT.PROBES n) 0).put (Chg.VH n) 0
  enterStart (causeEnds s1 (0x88 + n) 1) n a 1

/-! ### Quantities (R205, R209, R218, R220) -/

/-- EPOCH of accumulator `a`. -/
def accEpoch (s : State) (a : Nat) : Nat := s.get (ACC_CFG.EPOCH (a / 64) (a % 64))

/-- A mean current in units of 10 mA from advances of SUM and CNT of an accumulator (R316). -/
def meanAmps (s : State) (a : Nat) (ds : Int) (dn : Nat) : Int :=
  let i := s.get (ACC_CFG.SRC (a / 64) (a % 64))
  fdivOpen ((ds - dn * chZero i) * chKi s i) (dn * 10000000)

/-- The port current of engine `f` over its last evaluation; a sum that fails its check leaves the previous value,
and a new EPOCH starts anew (R205, R209, R329). -/
def currentStep (s : State) (f : Nat) : State :=
  let a := s.get (CHG_ACC.IACC f)
  onTagged s (0x88 + f) (sumTagged s a 3) (fun s =>
    let cnt := accCnt s a
    let base := ((s.putI (Chg.ISUM f) (accSum s a)).put (Chg.ICNT f) cnt).put (Chg.IEP f) (accEpoch s a)
    if s.get (Chg.IEP f) ≠ accEpoch s a ∨ cnt ≤ s.get (Chg.ICNT f) then base
    else (base.putI (Chg.IB f) (meanAmps s a (accSum s a - s.int (Chg.ISUM f)) (cnt - s.get (Chg.ICNT f)))).put
      (Chg.IBOK f) 1)

/-- The count of accumulator `j` of an engine: 0 voltage, 1 current. -/
def feedCnt (s : State) (n j : Nat) : Nat :=
  accCnt s (if j = 0 then s.get (CHG_ACC.VACC n) else s.get (CHG_ACC.IACC n))

/-- How long an accumulator has not advanced by 4,096 samples, in evaluations (R205). -/
def feedStep (s : State) (n j : Nat) : State :=
  let c := feedCnt s n j
  let r := s.get (Chg.REFC n j)
  if c < r ∨ r + 4096 ≤ c then (s.put (Chg.REFC n j) c).put (Chg.REFT n j) 0 else s.inc (Chg.REFT n j)

/-- STALE_INPUT and its zero current end once both accumulators advance again, each by 4,096 samples within 2 s (R205). -/
def feedReview (s : State) (n : Nat) : State :=
  s.on (s.get (Chg.REFT n 0) < 20 && s.get (Chg.REFT n 1) < 20) (fun s => causeEnds (s.put (Chg.NOFEED n) 0) (0x88 + n) 3)

/-- T_BAT: the highest of the NTCs of the string, each checked; a mismatch leaves the previous value (R205, R209,
R217). -/
def tempStep (s : State) (n : Nat) : State :=
  let l := ((enginePair s n).flatMap (fun f => [24 + 2 * f, 25 + 2 * f])).filter (fun t => s.flag (THS_VAL.VALID t))
  let r := l.foldl (fun (q : Bool × State) t =>
    let v := q.2.int (THS_VAL.T t)
    let c := tagCheck q.2 (0x88 + n) v (BitVec.ofNat 16 (tagOf 6 v))
    (q.1 && c.1, c.2)) (true, s)
  match l with
  | [] => s
  | t :: _ =>
    if r.1 then
      (r.2.putI (CHG_TEMP.T_BAT n) (l.foldl (fun m u => max m (s.int (THS_VAL.T u))) (s.int (THS_VAL.T t)))).put
        (Chg.TBOK n) 1
    else r.2

/-- I_BAT of an engine: the sum over the ports of its string (R209, R217). -/
def iBatOf (s : State) (n : Nat) : Int := (enginePair s n).foldl (fun a f => a + s.int (Chg.IB f)) 0

/-- A charge counter in units of 10 mAh. -/
def ampHours (z : Int) : Int := z.fdiv 36000

/-- The charge counters advance by one evaluation (R209). -/
def chargeStep (s : State) (n : Nat) : State :=
  let i := iBatOf s n
  let s1 := (s.putI (Chg.AHS n) (s.int (Chg.AHS n) + i)).putI (Chg.AHT n) (s.int (Chg.AHT n) + i)
  (s1.putI (CHG_AH_STATE.AH n) (ampHours (s1.int (Chg.AHS n)))).putI (CHG_AH_TOTAL.AH n)
    (ampHours (s1.int (Chg.AHT n)))

/-- Quantity `q` of an engine under the profile at `a`; none where it is invalid or stale (R209, R253). -/
def quantity (s : State) (n a q : Nat) : Option Int :=
  let stale := s.bit (Flt.PRESENT (0x88 + n)) 3
  let v := fun (ok : Bool) (z : Int) => if ok then some z else none
  match q with
  | 1 => some (s.get (CHG_WALL.T_STATE n))
  | 2 => some (s.get (CHG_SAFE.T_SAFE n))
  | 3 => v (s.flag (Chg.VCOK n) && !stale) (s.get (CHG_VCELL.VCELL n))
  | 4 => v (s.flag (Chg.IBOK n) && !stale) (iBatOf s n)
  | 5 => v (s.flag (Chg.IBOK n) && !stale) ((iBatOf s n * 100).fdiv (s.leNat (a + 0xC) 2))
  | 6 => some (s.int (CHG_AH_STATE.AH n))
  | 7 => some (s.int (CHG_AH_TOTAL.AH n))
  | 8 => v (s.flag (Chg.TBOK n)) (s.int (CHG_TEMP.T_BAT n))
  | 9 => v (s.flag (CHG_STAT.DTDT_VALID n)) (s.int (CHG_DV.DTDT n))
  | 10 => some (if impRuns s n || !stDv s a (s.get (CHG_STAT.STATE n)) then 0 else s.get (CHG_DV.NDV n))
  | 11 => v (s.flag (CHG_IMP_ZMAG.VALID n)) (s.get (CHG_IMP_ZMAG.ZMAG n))
  | 12 => v (s.flag (Chg.VCOK n) && s.flag (Chg.IBOK n) && !stale)
      ((s.get (Chg.MEAN n) * iBatOf s n).fdiv 100000000000)
  | _ => none

/-- A constant of a profile (R206). -/
def constOf (s : State) (a k : Nat) : Int := s.leInt (a + 0x20 + 4 * k) 4

/-- An exit condition is satisfied (R208, R212). -/
def exitHolds (s : State) (n a w : Nat) : Bool :=
  let guard := slice w 24 6 == 63 || decide (constOf s a (slice w 24 6) ≤ s.int (CHG_AH_STATE.AH n))
  let op := slice w 5 3
  let cmp := if slice w 0 5 = 0 then true else match quantity s n a (slice w 0 5) with
    | none => false
    | some v =>
      let k := constOf s a (slice w 14 6)
      match op with
      | 1 => decide (k ≤ v)
      | 2 => decide (v ≤ k)
      | 3 => decide (k < v)
      | 4 => decide (v < k)
      | _ => false
  op != 0 && guard && cmp

/-- The evaluations for which an exit must have been satisfied: those that span its QUAL time of 2^(n-1) s, the first of
them at time 0 (R208, R212) (DESIGN CHOICE, log entry 65). -/
def exitNeed (w : Nat) : Nat := if slice w 20 4 = 0 then 1 else 10 * 2 ^ (slice w 20 4 - 1) + 1

/-- The qualification counts of the present state's exits advance (R212). -/
def exitCounts (s : State) (n a : Nat) : State :=
  let st := s.get (CHG_STAT.STATE n)
  if 62 ≤ st then s
  else s.each (List.range 4) (fun s e =>
    if exitHolds s n a (exitWord s a st e) then s.inc (Chg.Q n e) else s.put (Chg.Q n e) 0)

/-- The first exit that is met (R211, R212). -/
def exitMet (s : State) (n a : Nat) : Option Nat :=
  let st := s.get (CHG_STAT.STATE n)
  if 62 ≤ st then none
  else (List.range 4).find? (fun e => slice (exitWord s a st e) 5 3 != 0
    && decide (exitNeed (exitWord s a st e) ≤ s.get (Chg.Q n e)))

/-! ### Timers (R221 to R223) -/

/-- A throttle or, with STRETCH_BUD, a power-path limit acts on the engine (R222, R373). -/
def throttled (s : State) (n : Nat) : Bool :=
  let c := n / 2
  let zones := (List.range 16).filter (zoneActs s)
  let near := (enginePair s n).flatMap (fun f => [24 + 2 * f, 25 + 2 * f, 40 + batPort f])
  zones.any (fun z => s.bit (THZ_TGT.CHG z) n || s.bit (THZ_TGT.PH z) c
      || near.any (fun t => s.flag (THS_CFG.EN t) && s.get (THS_CFG.ZONE t) == z))
    || (s.flag (CHG_CTL.STRETCH_BUD n) && [3, 5, 6].contains (s.get (CMB_PP_STAT.GOVERN c)))

/-- An exit of the present state on the voltage drop is qualifying (R212, R233). -/
def dropQualifies (s : State) (n : Nat) : Bool :=
  match profileOf s n with
  | some a => (List.range 4).any (fun e =>
      slice (exitWord s a (s.get (CHG_STAT.STATE n)) e) 0 5 == 10 && s.get (Chg.Q n e) != 0)
  | none => false

/-- The engine is limited (R222); its onset sets EVT bit 6, sends a running sweep back to PENDING, and re-arms the drop
tracking where an exit on it qualifies (R233). -/
def limitedStep (s : State) (n : Nat) : State :=
  let lim := s.get (CHG_SETPT.I_EFF n) != 0 && decide (iBatOf s n < s.get (CHG_SETPT.I_EFF n)) && throttled s n
  let s1 := s.putB (CHG_STAT.LIMITED n) lim
  s1.on (lim && !s.flag (CHG_STAT.LIMITED n)) (fun s =>
    (impLimited (s.evt (0x88 + n) 6) n).on (dropQualifies s n) (fun s => rearm s n))

/-- A probe runs on a port of the string. -/
def probing (s : State) (n : Nat) : Bool := (enginePair s n).any (fun f => s.flag (CHG_STAT.PROBING f))

/-- What one evaluation adds to T_SAFE in microseconds (R221). -/
def safeAdd (s : State) (n : Nat) : Nat :=
  let i := s.get (CHG_SETPT.I_EFF n)
  if s.flag (CHG_STAT.LIMITED n) && i != 0 then
    (clampInt 25000 100000 ((100000 * iBatOf s n).fdiv i)).toNat else 100000

/-- The timers advance by one evaluation; they pause while a probe runs (R221). -/
def timerStep (s : State) (n a : Nat) : State :=
  let st := s.get (CHG_STAT.STATE n)
  if probing s n then s
  else
    let s1 := s.put (Chg.TW n) (s.get (Chg.TW n) + 1)
    let s2 := s1.on (st < 62 && s.leNat (entry a st + 8) 2 != 0)
      (fun s => s.put (Chg.TS n) (s.get (Chg.TS n) + safeAdd s n))
    (s2.put (CHG_WALL.T_STATE n) (s2.get (Chg.TW n) / 10)).put (CHG_SAFE.T_SAFE n) (s2.get (Chg.TS n) / 1000000)

/-- The safety timer has expired (R223). -/
def timedOut (s : State) (n a : Nat) : Bool :=
  let st := s.get (CHG_STAT.STATE n)
  let t := s.leNat (entry a st + 8) 2
  st < 62 && t != 0 && (decide (t * 60000000 ≤ s.get (Chg.TS n)) || decide (t * 2400 ≤ s.get (Chg.TW n)))

/-! ### Set-points (R215) -/

/-- V_EFF of a state (R215). -/
def vEff (s : State) (n a st : Nat) : Nat :=
  let dt := s.int (CHG_TEMP.T_BAT n) - s.leInt (a + 0xE) 2
  let v := (s.leNat (entry a st) 2 : Int) * 100 + s.leInt (entry a st + 6) 2 * dt
  let v' := min v (s.leNat (a + 0x10) 2 * 100 : Nat)
  (clampInt 0 0xFFFF ((cellsOf s a * v').fdiv 10000)).toNat

/-- The current scale that acts: the lower of SCALE and its ceiling, at most 100 (R89, R215). -/
def trimScale (s : State) (n : Nat) : Nat := min (min (s.get (CHG_TRIM.SCALE n)) (s.get (CHG_TRIM.CEIL n))) 100

/-- I_EFF of a state in MODE CHARGE, with the throttle of its zones; the C2 action of the page halves it after
`CHG_TRIM` (R215, R373, R390). -/
def iEff (s : State) (n a st : Nat) : Nat :=
  let ia := s.leNat (entry a st + 2) 2 * s.leNat (a + 0xC) 2 * trimScale s n / 10000
  let p := s.leNat (entry a st + 4) 2
  let v := s.get (Chg.MEAN n) / 10000000
  let ip := if p = 0 ∨ !s.flag (Chg.BLKOK n) ∨ v = 0 then ia else p * 10000 / v
  min 0xFFFF ((if ownActed s (0x88 + n) then min ia ip / 2 else min ia ip) * targetPct s THZ_TGT.CHG n / 100)

/-- A class action or a shutdown commands zero current (R205, R234, R375, R390). -/
def zeroCurrent (s : State) (n : Nat) : Bool :=
  s.flag (Chg.NOFEED n) || batteryShut s n
    || (enginePair s n).any (fun f => classActed s (0x88 + f) 3 || classActed s (0x88 + f) 4)

/-- The class action of VCELL_HIGH is in force: V_EFF is held at the string voltage (R234, R390). -/
def vcellHeld (s : State) (n : Nat) : Bool :=
  let k := s.get (Flt.STAND (0x88 + n) 2)
  3 ≤ k && classActed s (0x88 + n) k

/-- The set-points of an evaluation. A change of I_EFF in a state with DV re-arms (R214, R215, R219, R223). -/
def formSetpoints (s : State) (n a : Nat) : State :=
  let st := s.get (CHG_STAT.STATE n)
  let mode := stMode s a st
  let i := if st < 62 ∧ mode = 1 ∧ !zeroCurrent s n then iEff s n a st else 0
  let v := if st = 63 then s.get (CHG_SETPT.V_EFF n)
    else if mode = 0 then 0
    else if vcellHeld s n then
      min 0xFFFF (s.get (Chg.MEAN n) / 10000000)
    else vEff s n a st
  let s1 := (s.put (CHG_SETPT.I_EFF n) i).put (CHG_SETPT.V_EFF n) v
  chgPorts (s1.on (i != s.get (CHG_SETPT.I_EFF n) && stDv s a st) (fun s => rearm s n)) n mode

/-! ### Evaluation (R204, R211, R230) -/

/-- The engine may evaluate: its comb is live and its hive runs (R204, R230). -/
def engineLive (s : State) (n : Nat) : Bool := combLive s (n / 2) && !s.flag (Clk.LOST 73)

/-- The measured quantities of an evaluation, which need no profile (R204, R205). -/
def measures (s : State) (n : Nat) : State :=
  let s1 := tempStep ((enginePair s n).foldl currentStep s) n
  feedReview (feedStep (feedStep s1 n 0) n 1) n

/-- Step 1 of an evaluation (R204): the quantities and the timers. -/
def quantities (s : State) (n a : Nat) : State :=
  let s3 := timerStep (limitedStep (chargeStep (measures s n) n) n) n a
  s3.on (s3.flag (Chg.TBOK n)) (fun s => (s.putI (Chg.TSUM n) (s.int (Chg.TSUM n) + s.int (CHG_TEMP.T_BAT n))).inc
    (Chg.TCNT n))

/-- V_CELL above V_CELL_MAX at 10 consecutive evaluations raises VCELL_HIGH (R234). -/
def vcellStep (s : State) (n a : Nat) : State :=
  if s.flag (Chg.VCOK n) && decide (s.leNat (a + 0x10) 2 < s.get (CHG_VCELL.VCELL n)) then
    let s1 := s.put (Chg.VH n) (min 10 (s.get (Chg.VH n) + 1))
    s1.on (s1.get (Chg.VH n) == 10) (fun s => raiseHeld s (0x88 + n) 2)
  else causeEnds (s.put (Chg.VH n) 0) (0x88 + n) 2

/-- V_CELL stands above V_EFF per cell by more than the sweep's margin: a running sweep is aborted (R250). -/
def marginStep (s : State) (n a : Nat) : State :=
  match findTable s 0x0004 (s.get (CHG_IMP_STAT.TABLE n)) with
  | some t => s.on (impRuns s n && decide (s.get (CHG_SETPT.V_EFF n) * 100 + cellsOf s a * s.leNat (t + 0xC) 2
      < s.get (CHG_VCELL.VCELL n) * cellsOf s a)) (fun s => impAbort s n)
  | none => s

/-- Step 2 of an evaluation: at most one transition. The number says which: 0 none, 2 a command, 3 the safety
timer, 4 + e exit e (R211) (DEDUCED, log entry 43). -/
def transition (s : State) (n a : Nat) : State × Nat :=
  let cmd := s.get (Chg.CMD n)
  let arg := cmd % 256
  let s0 := s.put (Chg.CMD n) 0
  if cmd / 256 = 0x101 then (restart s0 n a, 2)
  else if cmd / 256 = 0x102 ∧ arg < nStates s a then (enterState (causeEnds s0 (0x88 + n) 1) n a arg 1 0, 2)
  else if nStates s a ≤ s.get (CHG_STAT.STATE n) ∧ s.get (CHG_STAT.STATE n) < 62 then (s0, 0)
  else if timedOut s n a then
    (timeoutEnter (raiseEvent s0 (0x88 + n) 0) n, 3)
  else match exitMet s n a with
  | some e =>
    let w := exitWord s a (s.get (CHG_STAT.STATE n)) e
    let s1 := s0.on (slice w 0 5 == 9 || slice w 0 5 == 10) (·.evt (0x88 + n) 5)
    (enterState s1 n a (slice w 8 6) 0 e, 4 + e)
  | none => (s0, 0)

/-- The engine starts: at its first evaluation it enters START. The cause that `CHG_LAST` shows for a start by
EN is open (R204, R231). -/
def engineStart (s : State) (n a : Nat) : State :=
  let (k, s1) := s.fresh
  let cause := if s.get (Chg.STARTED n) = 0 ∧ s.flag (Chg.NEWPROF n) then 6 else Config.freeNat k
  enterStart (((s1.put (Chg.STARTED n) 1).put (Chg.NEWPROF n) 0).put (Chg.CMD n) 0) n a cause

/-- A null evaluation in SAFE-BOOT: the port is commanded open, a follower's with it, and zero current (R71, R217). -/
def nullEval (s : State) (n : Nat) : State :=
  ((s.put (CHG_SETPT.I_EFF n) 0).put (Chg.STARTED n) 0).each
    ((enginePair s n).filter (fun f => s.flag (Port.CMD (batPort f)))) chgOpen

/-- The evaluation of a follower: its lead runs the profile; without one it opens and raises FOLLOW_CFG (R217)
(DEDUCED, log entry 45). -/
def followEval (s : State) (n : Nat) : State :=
  let l := n ^^^ 1
  let s1 := s.put (CHG_STAT.FOLLOWER n) 1
  if s.flag (CHG_CTL.FOLLOW l) || !s.flag (CHG_CTL.EN l) then
    raiseHeld (if s.flag (Port.CMD (batPort n)) then chgOpen s1 n else s1) (0x88 + n) 6
  else
    let s2 := (s1.put (CHG_STAT.STATE n) (s.get (CHG_STAT.STATE l))).put (CHG_STAT.MODE n) (s.get (CHG_STAT.MODE l))
    causeEnds ((s2.put (CHG_STAT.KIND n) (s.get (CHG_STAT.KIND l))).put (CHG_STAT.LAMP n) (s.get (CHG_STAT.LAMP l)))
      (0x88 + n) 6

/-- An evaluation of an engine under its profile (R204, R211). In ABSENT and in a state that the profile no longer holds it
takes the measured quantities, and forms no set-points but through a command (R210, R226, R231). -/
def profileEval (s : State) (n a : Nat) : State × Nat :=
  let st := s.get (CHG_STAT.STATE n)
  if !s.flag (Chg.STARTED n) then
    (formSetpoints (engineStart (quantities s n a) n a) n a, 2)
  else if st = 62 && s.get (Chg.CMD n) / 256 == 0x101 && (enginePair s n).all (fun f => !s.flag (Chg.ABS f)) then
    (formSetpoints (restart ((measures s n).put (Chg.CMD n) 0) n a) n a, 2)
  else if st = 62 then (((measures s n).put (Chg.CMD n) 0).put (CHG_SETPT.I_EFF n) 0, 0)
  else if nStates s a ≤ st ∧ st < 62 then
    let t := transition (measures s n) n a
    (t.1.on (t.2 == 2) (fun s => formSetpoints s n a), t.2)
  else
    let s1 := vcellStep (exitCounts (quantities s n a) n a) n a
    let t := transition (marginStep s1 n a) n a
    (formSetpoints t.1 n a, t.2)

/-- The evaluation is a null one: in SAFE-BOOT, of an engine that is not enabled, whose port is absent, or that has no valid
profile marked SAFE (R71, R230). -/
def evalNull (s : State) (n : Nat) : Bool :=
  inSafeBoot s && (!s.flag (CHG_CTL.EN n) || absent s (0x30 + batPort n)
    || (!s.flag (CHG_CTL.FOLLOW n) && (engineProfile s n).isNone))

/-- Engine `n` evaluates at its instants: it is enabled, or serves the safe comb in SAFE-BOOT (R71, R204, R230). -/
def evaluates (s : State) (n : Nat) : Bool := engineLive s n && (s.flag (CHG_CTL.EN n) || inSafeBoot s)

/-- What one evaluation of engine `n` does, and the transition that it decided (R204, R211, R217, R230) (DEDUCED, log
entry 43). -/
def evalStep (s : State) (n : Nat) : State × Nat :=
  if evalNull s n then (nullEval s n, 0)
  else if s.flag (CHG_CTL.FOLLOW n) then (followEval s n, 0)
  else match engineProfile s n with
  | none => (measures s n, 0)
  | some a => profileEval s n a

/-- One evaluation, at whose end the engine checks in to the watchdog slots mapped to it (R204, R230, R426). -/
def evaluate (s : State) (n : Nat) : State × Nat :=
  if evaluates s n then
    let r := evalStep s n
    (internalCheckin r.1 (3 + n), r.2)
  else (s, 0)

/-- A charge engine evaluates (R204). -/
def execEvaluation (n : Fin 8) (s : State) : Out := .next (evaluate s n).1

/-- The evaluation at which exit `e` is met and taken; nothing where it is not (R212). -/
def execExitMet (n : Fin 8) (e : Fin 4) (s : State) : Out :=
  .next (if (evaluate s n).2 = 4 + e.val then (evaluate s n).1 else s)

/-- The evaluation at which the safety timer expires; nothing where it does not (R223). -/
def execChargeTimeout (n : Fin 8) (s : State) : Out :=
  .next (if (evaluate s n).2 = 3 then (evaluate s n).1 else s)

/-- The evaluation at which VCELL_HIGH is raised; nothing where it is not (R234). -/
def execVcellHigh (n : Fin 8) (s : State) : Out :=
  let t := (evaluate s n).1
  .next (if !s.bit (Flt.PRESENT (0x88 + n)) 2 && t.bit (Flt.PRESENT (0x88 + n)) 2 then t else s)

/-- An accumulator has not advanced by 4,096 samples within 2 s: STALE_INPUT, with zero current at once (R205). -/
def execStaleInput (n : Fin 8) (s : State) : Out :=
  .next (if engineLive s n && s.flag (CHG_CTL.EN n) && !s.flag (CHG_CTL.FOLLOW n)
      && (20 ≤ s.get (Chg.REFT n 0) || 20 ≤ s.get (Chg.REFT n 1)) then
    chgZero ((raiseHeld s (0x88 + n) 3).put (Chg.NOFEED n) 1) n else s)

/-! ### Blocks and temperature rise (R218 to R220) -/

/-- The block length of a profile (R218). -/
def blockLen (s : State) (a : Nat) : Nat :=
  if cellsOf s a = 1 then 32768 else if cellsOf s a = 2 then 8192 else 4096

/-- The mean current over the block of engine `f`, and its base moves. -/
def blockCurrent (s : State) (f : Nat) : Int × State :=
  let a := s.get (CHG_ACC.IACC f)
  let cnt := accCnt s a
  let s1 := ((s.putI (Chg.BSUM f) (accSum s a)).put (Chg.BCNT f) cnt).put (Chg.BEP f) (accEpoch s a)
  if s.get (Chg.BEP f) ≠ accEpoch s a ∨ cnt ≤ s.get (Chg.BCNT f) then (s.int (Chg.IB f), s1)
  else (meanAmps s a (accSum s a - s.int (Chg.BSUM f)) (cnt - s.get (Chg.BCNT f)), s1)

/-- The peak and the drop at a block's close: the first block after a re-arm sets PEAK; a block with a probe, or
whose current differs too much from the one before, re-arms (R218, R219). -/
def peakStep (s : State) (n a : Nat) (i : Int) : State :=
  let mean := s.get (Chg.MEAN n)
  let jump := s.flag (Chg.BIOK n) && decide (s.get (CHG_SETPT.I_EFF n) < (i - s.int (Chg.BI n)).natAbs * 16)
  let peak := fun (s : State) (p : Nat) => (s.put (Chg.PEAK n) p).putSat (CHG_VCELL.PEAK n) (p / (cellsOf s a * 100000))
  if impRuns s n || !stDv s a (s.get (CHG_STAT.STATE n)) then s.put (CHG_DV.NDV n) 0
  else if s.flag (Chg.PRBLK n) || jump then rearm s n
  else if !s.flag (CHG_STAT.DV_ARMED n) then ((peak s mean).put (CHG_STAT.DV_ARMED n) 1).put (CHG_DV.NDV n) 0
  else
    let p := max mean (s.get (Chg.PEAK n))
    (peak s p).putSat (CHG_DV.NDV n) ((p - mean) / (cellsOf s a * 10000))

/-- A voltage block closes once the accumulator has advanced by the block length; a new EPOCH discards the partial
block (R218, R329). -/
def blockClose (s : State) (n a : Nat) : State :=
  let v := s.get (CHG_ACC.VACC n)
  let cnt := accCnt s v
  let base := fun (s : State) => ((s.putI (Chg.VSUM n) (accSum s v)).put (Chg.VCNT n) cnt).put (Chg.VEP n) (accEpoch s v)
  if s.get (Chg.VEP n) ≠ accEpoch s v then base s
  else if cnt < s.get (Chg.VCNT n) + blockLen s a then s
  else onTagged s (0x88 + n) (sumTagged s v 3) (fun s =>
    let dn := cnt - s.get (Chg.VCNT n)
    let i := s.get (ACC_CFG.SRC (v / 64) (v % 64))
    let mean := (((accSum s v - s.int (Chg.VSUM n) - dn * chZero i) * chK s i).fdiv dn).toNat
    let s1 := (((base s).put (Chg.MEAN n) mean).put (Chg.BLKOK n) 1).put (Chg.VCOK n) 1
    let s2 := s1.putSat (CHG_VCELL.VCELL n) (mean / (cellsOf s a * 100000))
    let r := (enginePair s n).foldl (fun (q : Int × State) f =>
      let b := blockCurrent q.2 f
      (q.1 + b.1, b.2)) (0, s2)
    ((((peakStep r.2 n a r.1).putI (Chg.BI n) r.1).put (Chg.BIOK n) 1).put (Chg.PRBLK n) (bitOf (probing r.2 n))))

/-- The engine runs its profile in a state that is not ABSENT. -/
def engineRuns (s : State) (n : Nat) : Bool :=
  engineLive s n && s.flag (CHG_CTL.EN n) && !s.flag (CHG_CTL.FOLLOW n) && s.flag (Chg.STARTED n)
    && s.get (CHG_STAT.STATE n) != 62

/-- A voltage block closes (R218). -/
def execBlockClose (n : Fin 8) (s : State) : Out :=
  .next (match engineProfile s n with
    | some a => if engineRuns s n then blockClose s n a else s
    | none => s)

/-- The mean of a 10 s interval joins the last seven, and DTDT follows (R220). -/
def dtdtStep (s : State) (n : Nat) : State :=
  let mean := (s.int (Chg.TSUM n)).fdiv (max 1 (s.get (Chg.TCNT n)) : Nat)
  let s1 := s.each (List.range 6) (fun s' i => s'.put (Chg.TM n (i + 1)) (s.get (Chg.TM n i)))
  let s2 := ((s1.putI (Chg.TM n 0) mean).put (Chg.TSUM n) 0).put (Chg.TCNT n) 0
  let s3 := s2.put (Chg.TMN n) (min 7 (s.get (Chg.TMN n) + 1))
  if s3.get (Chg.TMN n) = 7 then
    (s3.putI (CHG_DV.DTDT n) (clampInt (-32768) 32767 (10 * (mean - s3.int (Chg.TM n 6))))).put
      (CHG_STAT.DTDT_VALID n) 1
  else s3

/-- Every 10 s a new mean of T_BAT is formed (R220). -/
def execDtdtUpdate (n : Fin 8) (s : State) : Out :=
  .next (if engineRuns s n && 100 ≤ s.get (Chg.TCNT n) then dtdtStep s n else s)

/-- DTDT is invalid until seven new means exist (R220, R227). -/
def dtdtClear (s : State) (n : Nat) : State :=
  (((s.put (Chg.TMN n) 0).put (Chg.TSUM n) 0).put (Chg.TCNT n) 0).put (CHG_STAT.DTDT_VALID n) 0

/-! ### Removal and return (R224 to R227) -/

/-- The engine that runs the profile of the string of port engine `n`. -/
def runner (s : State) (n : Nat) : Nat := (engineLead s n).getD n

/-- What a checkpoint freezes, in its order (R226). -/
def liveFields (n : Nat) : List Fld :=
  [Chg.TW n, Chg.TS n, Chg.AHS n, Chg.AHT n, Chg.Q n 0, Chg.Q n 1, Chg.Q n 2, Chg.Q n 3, Chg.PEAK n,
    CHG_VCELL.PEAK n, CHG_STAT.DV_ARMED n, CHG_DV.NDV n, Chg.TSUM n, Chg.TCNT n, Chg.TMN n, Chg.TM n 0, Chg.TM n 1,
    Chg.TM n 2, Chg.TM n 3, Chg.TM n 4, Chg.TM n 5, Chg.TM n 6, CHG_DV.DTDT n, CHG_STAT.DTDT_VALID n,
    CHG_WALL.T_STATE n, CHG_SAFE.T_SAFE n, CHG_AH_STATE.AH n, CHG_AH_TOTAL.AH n]

/-- Freeze the checkpoint (R226). -/
def ckSave (s : State) (n : Nat) : State :=
  (s.each (liveFields n).zipIdx (fun s' q => s'.put (Chg.CK n q.2) (s.get q.1))).put (Chg.CKST n)
    (s.get (CHG_STAT.STATE n))

/-- Take the checkpoint back. -/
def ckLoad (s : State) (n : Nat) : State :=
  s.each (liveFields n).zipIdx (fun s' q => s'.put q.1 (s.get (Chg.CK n q.2)))

/-- The summed current of the other closed battery ports of the bus or gang (R225). -/
def otherCurrent (s : State) (n : Nat) : Int :=
  (((gangOf s (n / 2)).flatMap (closedEngines s)).filter (fun e => e != n)).foldl
    (fun a e => a + s.int (Port.IF (batPort e))) 0

/-- A probe starts on the port of engine `n`: the timers pause, the checkpoint is taken and a sweep is aborted
(R224, R225, R232, R233) (DEDUCED, log entry 44). -/
def probeStart (s : State) (n : Nat) : State :=
  let l := runner s n
  if s.flag (CHG_STAT.PROBING n) || !engineRuns s l then s
  else
    let s1 := (if probing s l then s else ckSave s l)
    let s2 := ((s1.put (CHG_STAT.PROBING n) 1).inc (CHG_ABS_CNT.PROBES n)).put (Chg.PRBLK l) 1
    impAbort ((s2.put (Chg.PV n) (s.get (Comb.VBB (n / 2)))).putI (Chg.PI n) (otherCurrent s n)) l

/-- The string is in MODE CHARGE. -/
def inCharge (s : State) (n : Nat) : Bool := s.get (CHG_STAT.MODE (runner s n)) == 1

/-- A current collapse in MODE CHARGE, or a loss of presence, triggers a probe (R224). -/
def execProbeTrigger (n : Fin 8) (s : State) : Out :=
  let p := batPort n
  .next (if inCharge s n || (s.flag (PORT_CTL.PRES_USE p) && !s.flag (PORT_STAT.PRES p)) then probeStart s n else s)

/-- The periodic probe falls due (R224). -/
def execPeriodicProbe (n : Fin 8) (s : State) : Out :=
  .next (if inCharge s n && s.get (CHG_ABS.PERIOD n) != 0 then probeStart s n else s)

/-- Absence is confirmed at the end of a probe: `below` says that the port current has stayed below I_TH
throughout (R225). -/
def absenceConfirmed (s : State) (n : Nat) (below : Bool) : Bool :=
  let dv : Int := max 1 (s.get (CHG_ABS.PROBE_DV n))
  below && (decide (dv ≤ 2 * ((s.get (Comb.VBB (n / 2)) : Int) - s.get (Chg.PV n)))
    || decide ((max 1 (s.get (CHG_ABS.I_TH n)) : Int) ≤ otherCurrent s n - s.int (Chg.PI n)))

/-- The port of engine `n` is confirmed absent; the engine of the string enters ABSENT once every port of it is
(R226) (DEDUCED, log entry 44). -/
def confirmAbsent (s : State) (n : Nat) : State :=
  let l := runner s n
  let s1 := (((chgOpen s n).put (Chg.ABS n) 1).put (Chg.ABSMS n) 0).put (CHG_RET.ABS_ELAPSED n) 0
  let s2 := raiseHeld ((s1.evt (0x88 + n) 1).inc (CHG_ABS_CNT.REMOVALS n)) (0x88 + n) 4
  if (enginePair s l).all (fun f => s2.flag (Chg.ABS f)) then
    let s3 := (((lastPut (impState s2 l) l 3 0 62).put (Chg.CMD l) 0).put (Chg.ABSMS l) 0).put (CHG_RET.ABS_ELAPSED l) 0
    let s4 := match profileOf s l with
      | some a => showState s3 l a 62
      | none => ((s3.put (CHG_STAT.STATE l) 62).put (CHG_STAT.MODE l) 0).put (CHG_STAT.KIND l) 8
    ((s4.put (CHG_STAT.RESUMED l) 0).put (CHG_SETPT.I_EFF l) 0).evt (0x88 + l) 0
  else s2

/-- An engine meets a commit of the tables: qualification counts at zero, and a profile that fails, or no longer holds the
state, raises PROFILE (R231). -/
def commitReview (s : State) (n : Nat) : State :=
  let s1 := impAbort (s.each (List.range 4) (fun s e => s.put (Chg.Q n e) 0)) n
  if s.flag (CHG_CTL.EN n) && !s.flag (CHG_CTL.FOLLOW n) then
    match profileOf s n with
    | none => raiseHeld s1 (0x88 + n) 1
    | some a =>
      let st := s.get (CHG_STAT.STATE n)
      if s.flag (Chg.STARTED n) && st < 62 && nStates s a ≤ st then raiseHeld s1 (0x88 + n) 1
      else (causeEnds s1 (0x88 + n) 1).on (s.flag (Chg.STARTED n)) (fun s =>
        (showState s n a st).on (!stDv s a st) (·.put (CHG_DV.NDV n) 0))
  else s1

/-- A commit that met a probe acts once the last probe of the string has completed (R233). -/
def commitAfterProbe (s : State) (n : Nat) : State :=
  s.on (s.flag (Chg.COMMIT_PEND n) && !probing s n) (fun s => commitReview (s.put (Chg.COMMIT_PEND n) 0) n)

/-- The end of a probe: absence is confirmed, or the probe rejects it (R225). -/
def execProbeEnd (n : Fin 8) (below : Bool) (s : State) : Out :=
  let s1 := s.put (CHG_STAT.PROBING n) 0
  .next (if !s.flag (CHG_STAT.PROBING n) then s
    else commitAfterProbe (if absenceConfirmed s n below then confirmAbsent s1 n else s1.evt (0x88 + n) 8) (runner s n))

/-- A nickel profile re-arms after a return, with the counts of its exits on NDV and DTDT at zero (R227). -/
def nickelRestart (s : State) (n a : Nat) : State :=
  if (s.leNat (a + 9) 1).testBit 1 then
    let st := s.get (CHG_STAT.STATE n)
    (rearm s n).each ((List.range 4).filter (fun e => slice (exitWord s a st e) 0 5 == 9))
      (fun s e => s.put (Chg.Q n e) 0)
  else s

/-- The checkpoint is resumed; a state that the profile no longer holds raises PROFILE (R227, R231). -/
def resumeState (s : State) (n a : Nat) : State :=
  let st := s.get (Chg.CKST n)
  if nStates s a ≤ st ∧ st < 62 then raiseHeld s (0x88 + n) 1
  else
    let s1 := showState (lastPut (dtdtClear (ckLoad s n) n) n 4 0 st) n a st
    let s2 := ((s1.put (CHG_STAT.RESUMED n) 1).put (Chg.BLKOK n) 0).evt (0x88 + n) 3
    chgPorts (nickelRestart s2 n a) n (stMode s a st)

/-- A battery returns: within 10 s the checkpoint is resumed, later the profile starts as for a new battery; DTDT starts
anew (R220, R227, R233). -/
def batteryReturn (s : State) (n a : Nat) : State :=
  let l := runner s n
  let s1 := dtdtClear (causeEnds ((s.put (Chg.ABS n) 0).evt (0x88 + n) 2) (0x88 + n) 4) l
  if s.get (CHG_STAT.STATE l) ≠ 62 then chgPorts s1 l (s.get (CHG_STAT.MODE l))
  else if s.get (Chg.CMD l) / 256 = 0x101 then restart (s1.put (Chg.CMD l) 0) l a
  else if s.get (Chg.ABSMS l) ≤ 10000 then resumeState s1 l a
  else enterStart ((raiseEvent s1 (0x88 + l) 5).evt (0x88 + l) 4) l a 5

/-- The string voltage stands between its return threshold and V_CELL_MAX (R227). -/
def returnVolts (s : State) (n a : Nat) : Bool :=
  let v := s.get (Port.VS (batPort n)) * 100
  decide (cellsOf s a * s.get (CHG_RET.RET_VMIN n) * 10 ≤ v) && decide (v ≤ cellsOf s a * s.leNat (a + 0x10) 2)

/-- The string voltage has stood in range for 500 ms (R227). -/
def execBatteryReturn (n : Fin 8) (s : State) : Out :=
  .next (match profileOf s (runner s n) with
    | some a => if s.flag (Chg.ABS n) && engineLive s n && hasState s (runner s n) && returnVolts s n a then
        batteryReturn s n a else s
    | none => s)

/-! ### Lamps (R228, R229) -/

/-- The pattern selected for lamp `m`: dark in reset, START-UP and hive-sleep, and for an engine that is not
enabled or serves a port declared absent (R228, R229). -/
def lampPattern (s : State) (m : Nat) : Nat :=
  let sel := slice (s.get PINS_LAMP_SEL.SEL) (4 * m) 4
  if s.flag Boot.HELD || s.get HIVE_MODE.MODE == 0 || s.get Sleep.STATE != 0 then 0
  else if sel < 8 then
    (if s.flag (CHG_CTL.EN sel) && !absent s (0x30 + batPort sel) then s.get (CHG_STAT.LAMP sel) else 0)
  else if sel ≤ 12 then sel - 8 else 0

/-- A pattern is on at `ms` milliseconds of the 1 s frame (R228). -/
def patternOn (code ms : Nat) : Bool :=
  match code with
  | 1 => true
  | 2 => ms < 500
  | 3 => ms % 250 < 125
  | 4 => ms < 100 || (200 ≤ ms && ms < 300)
  | _ => false

/-- Lamp ball `m` sinks current: the pattern in force is on in the frame, which counts from t0, and no overload holds the
ball released (R228, R398). -/
def lampOn (s : State) (m : Nat) : Bool := patternOn (s.get (Pin.PAT m)) (s.get Dev.MS) && !s.flag (Pin.LAMP m)

/-- A change of pattern takes effect at the next boundary of the frame (R228). -/
def execLampPatternChange (m : Fin 8) (s : State) : Out := .next (s.put (Pin.PAT m) (lampPattern s m))

/-! ### Registers (R231, R236) -/

/-- The profile of an enabled engine is judged: an invalid one raises PROFILE (R210). -/
def profileReview (s : State) (n : Nat) : State :=
  if s.flag (CHG_CTL.EN n) && !s.flag (CHG_CTL.FOLLOW n) && (profileOf s n).isNone then raiseHeld s (0x88 + n) 1
  else causeEnds s (0x88 + n) 1

/-- The write of `CHG_CTL` (R204, R217, R231): EN starts the engine at its next instant or ends it with its port
open, and a new PROFILE restarts it. -/
def chgCtlWrite (s : State) (k : Bool) (n w : Nat) : Res :=
  specialWrite s k (0x88 + n) 0x040 w false (fun s w' =>
    let s1 := storeFields s w' (regLayout (0x88 + n) 0x040)
    let en := s1.flag (CHG_CTL.EN n)
    let edge := en != s.flag (CHG_CTL.EN n)
    let prof := s1.get (CHG_CTL.PROFILE n) != s.get (CHG_CTL.PROFILE n)
    let s2 := s1.on prof (fun s => impAbort s n)
    let s3 := s2.on (edge || prof) (fun s => ((s.put (Chg.STARTED n) 0).put (Chg.NEWPROF n) (bitOf (prof && !edge))))
    let s4 := s3.putB (CHG_STAT.FOLLOWER n) (en && s1.flag (CHG_CTL.FOLLOW n))
    let s5 := s4.on (edge || prof || s1.get (CHG_CTL.FOLLOW n) != s.get (CHG_CTL.FOLLOW n)) (fun s => profileReview s n)
    let s6 := s5.on (!en || !s1.flag (CHG_CTL.FOLLOW n)) (fun s => causeEnds s (0x88 + n) 6)
    s6.on (edge && !en) (fun s => chgOpen ((impState s n).put (CHG_SETPT.I_EFF n) 0) n))

/-- A write of `CHG_CTL.EN` (R204). -/
def execEngineEnable (a : Access) (n : Fin 8) (w : BitVec 32) (s : State) : Out :=
  .next (regOp s a (fun s k => chgCtlWrite s k n w.toNat))

/-- A write of `CHG_CTL.PROFILE` (R231). -/
def execProfileWrite (a : Access) (n : Fin 8) (w : BitVec 32) (s : State) : Out :=
  .next (regOp s a (fun s k => chgCtlWrite s k n w.toNat))

/-- The write of `CHG_CMD` (R236): RESTART and GOTO wait for the next evaluation, CLEAR_TOTAL acts at once. -/
def chgCmdWrite (s : State) (k : Bool) (n w : Nat) : Res :=
  specialWrite s k (0x88 + n) 0x044 w false (fun s w' =>
    match slice w' 8 8 with
    | 1 => s.put (Chg.CMD n) (65536 + w' % 65536)
    | 2 => s.put (Chg.CMD n) (65536 + w' % 65536)
    | 3 => (s.put (Chg.AHT n) 0).put (CHG_AH_TOTAL.AH n) 0
    | _ => s)

/-- `CHG_CMD` RESTART (R236). -/
def execRestart (a : Access) (n : Fin 8) (s : State) : Out :=
  .next (regOp s a (fun s k => chgCmdWrite s k n 0x0100))

/-- `CHG_CMD` GOTO (R236). -/
def execGotoState (a : Access) (n : Fin 8) (arg : BitVec 8) (s : State) : Out :=
  .next (regOp s a (fun s k => chgCmdWrite s k n (0x0200 + arg.toNat)))

/-- `CHG_CMD` CLEAR_TOTAL (R236). -/
def execClearTotal (a : Access) (n : Fin 8) (s : State) : Out :=
  .next (regOp s a (fun s k => chgCmdWrite s k n 0x0300))

/-- The write of `CHG_ABS`: PROBE_T is stored within its bounds (R236). -/
def chgAbsWrite (s : State) (k : Bool) (n w : Nat) : Res :=
  specialWrite s k (0x88 + n) 0x074 w false (fun s w' =>
    let s1 := storeFields s w' (regLayout (0x88 + n) 0x074)
    s1.put (CHG_ABS.PROBE_T n) (max 5 (min 150 (s1.get (CHG_ABS.PROBE_T n)))))

/-- The write of `CHG_ACC`: the blocks and the means of an accumulator newly named start at its present sum and count
(R205, R218). -/
def chgAccWrite (s : State) (k : Bool) (n w : Nat) : Res :=
  specialWrite s k (0x88 + n) 0x070 w false (fun s w' =>
    let s1 := storeFields s w' (regLayout (0x88 + n) 0x070)
    let v := s1.get (CHG_ACC.VACC n)
    let i := s1.get (CHG_ACC.IACC n)
    let s2 := s1.on (v != s.get (CHG_ACC.VACC n)) (fun s =>
      let s' := ((s.putI (Chg.VSUM n) (accSum s v)).put (Chg.VCNT n) (accCnt s v)).put (Chg.VEP n) (accEpoch s v)
      (s'.put (Chg.REFC n 0) (accCnt s v)).put (Chg.REFT n 0) 0)
    s2.on (i != s.get (CHG_ACC.IACC n)) (fun s =>
      let s' := ((s.putI (Chg.ISUM n) (accSum s i)).put (Chg.ICNT n) (accCnt s i)).put (Chg.IEP n) (accEpoch s i)
      let s'' := ((s'.putI (Chg.BSUM n) (accSum s i)).put (Chg.BCNT n) (accCnt s i)).put (Chg.BEP n) (accEpoch s i)
      (s''.put (Chg.REFC n 1) (accCnt s i)).put (Chg.REFT n 1) 0))

/-- The write of `CHG_TRIM`: SCALE is ceilinged (R89, R215). -/
def chgTrimWrite (s : State) (k : Bool) (n w : Nat) : Res :=
  specialRes s k (0x88 + n) 0x048 w false (fun s w' => ceiled s w' (CHG_TRIM.SCALE n) (CHG_TRIM.CEIL n)
    (fun s w' => storeFields s w' (regLayout (0x88 + n) 0x048)))

/-! ### Commit and wake (R230, R231) -/

/-- At the commit barrier each engine meets the new tables, where a probe runs once that has completed; till then it
follows the bank that was active (R231, R233). -/
def chgCommit (s : State) : State :=
  s.each (List.range 8) (fun s n => if probing s n then s.put (Chg.COMMIT_PEND n) 1 else commitReview s n)

/-- On wake the engines resume: DTDT is invalid, and a nickel profile re-arms (R220, R230). -/
def chgWake (s : State) : State :=
  s.each (List.range 8) (fun s n =>
    let s1 := dtdtClear s n
    match profileOf s n with
    | some a => if s.flag (Chg.STARTED n) && (s.leNat (a + 9) 1).testBit 1 then rearm s1 n else s1
    | none => s1)

end Sys2Proof.Machine
end

