-- ==== Sys2Proof/Machine/Impedance.lean ====
section
/-! DEFINITION. Battery impedance diagnostics (chapter 10): sweep tables, requests, points, the excitation and its
steps, the conversion pairs, the results and the state of health. -/

namespace Sys2Proof.Machine

/-! ### Sweep tables (R239 to R241) -/

/-- NPTS of a sweep table. -/
def sweepPts (s : State) (a : Nat) : Nat := s.leNat (a + 6) 1

/-- Point word `p` of a sweep table (R240). -/
def pointWord (s : State) (a p : Nat) : Nat := s.leNat (a + 0x20 + 8 * p) 8

/-- FREQ, AMP, SETTLE and INTEG of a point word. -/
def ptFreq (w : Nat) : Nat := slice w 0 17

/-- The requested amplitude, LSB 10 mA. -/
def ptAmp (w : Nat) : Nat := slice w 17 9

/-- Settling cycles. -/
def ptSettle (w : Nat) : Nat := slice w 32 8

/-- Integration cycles. -/
def ptInteg (w : Nat) : Nat := slice w 40 8

/-- A sweep table is valid (R241). -/
def sweepValid (s : State) (a : Nat) : Bool :=
  headerOk s a 0x0004 0x0120 && (1 ≤ sweepPts s a && sweepPts s a ≤ 32) && s.leNat (a + 8) 1 < sweepPts s a
    && s.leNat (a + 0x10) 4 < s.leNat (a + 0x14) 4
    && (List.range (sweepPts s a)).all (fun p =>
      let w := pointWord s a p
      (10 ≤ ptFreq w && ptFreq w ≤ 100000) && (1 ≤ ptAmp w && ptAmp w ≤ 500) && 1 ≤ ptInteg w)

/-- The sweep table of an index, where it is valid. -/
def sweepTable (s : State) (i : Nat) : Option Nat := (findTable s 0x0004 i).filter (sweepValid s)

/-! ### Requests (R238, R242) -/

/-- The SWEEP field of the engine's present state (R207). -/
def stSweep (s : State) (n : Nat) : Option Nat :=
  (profileOf s n).bind (fun a =>
    let st := s.get (CHG_STAT.STATE n)
    if 62 ≤ st then none else some (s.leNat (entry a st + 0xC) 1))

/-- A request of a sweep is refused (R242). -/
def sweepRefused (s : State) (n : Nat) : Bool :=
  !s.flag (CHG_IMP_CTL.EN n) || inSafeBoot s || s.get (CHG_STAT.MODE n) == 0 || !portClosed s (batPort n)
    || s.get (CHG_IMP_STAT.STATE n) != 0 || !engineRuns s n
    || match stSweep s n with
      | some i => i == 0xFF || (sweepTable s i).isNone
      | none => true

/-- A request of a sweep: refused, or pending. A follower's channel runs with its lead's and takes no request of
its own (R237, R242). -/
def impRequest (s : State) (n : Nat) : State :=
  if (engineLead s n).isSome then s
  else if sweepRefused s n then (s.put (CHG_IMP_STAT.END n) 4).orF (CHG_IMP_EVT.EVT n) 16
  else
    let s1 := ((s.put (CHG_IMP_STAT.STATE n) 1).put (CHG_STAT.SWEEP_PEND n) 1).put (Imp.NEW n) 1
    (s1.put (CHG_IMP_STAT.TABLE n) ((stSweep s n).getD 0)).put (Imp.AWAIT n) 1

/-- The write of `CHG_IMP_CTL`: EN written 0 and ABORT abort, START requests (R242, R250, R255). -/
def impCtlWrite (s : State) (k : Bool) (n w : Nat) : Res :=
  specialWrite s k (0x88 + n) 0x100 w false (fun s w' =>
    let s1 := storeFields s w' (regLayout (0x88 + n) 0x100)
    let s2 := s1.on (!s1.flag (CHG_IMP_CTL.EN n) || fieldOf w' (CHG_IMP_CTL.ABORT n) == 1) (fun s => impAbort s n)
    s2.on (fieldOf w' (CHG_IMP_CTL.START n) == 1) (fun s => impRequest s n))

/-- A write of `CHG_IMP_CTL.START` (R242). -/
def execSweepRequest (a : Access) (n : Fin 8) (w : BitVec 32) (s : State) : Out :=
  .next (regOp s a (fun s k => impCtlWrite s k n w.toNat))

/-- T_STATE reaches a whole multiple of AUTO minutes (R242). -/
def execAutoSweep (n : Fin 8) (s : State) : Out :=
  .next (match (stSweep s n).bind (sweepTable s) with
    | some t =>
      let auto := s.leNat (t + 0xA) 2
      if engineRuns s n && auto != 0 && s.get (Chg.TW n) != 0 && s.get (Chg.TW n) % (auto * 600) == 0 then
        impRequest s n else s
    | none => s)

/-- The sweep is aborted (R250). -/
def execSweepAbort (n : Fin 8) (s : State) : Out := .next (impAbort s n)

/-! ### Points (R243 to R245, R252) -/

/-- Point `p` waits for its first index 0 with its frequency in the generator (R243, R244, R249). -/
def pointAwait (s : State) (n t p : Nat) : State :=
  let s1 := (((s.put (Imp.AWAIT n) (p + 1)).put (CHG_IMP_STAT.STATE n) 2).put (Imp.WAIT n) 1).put (Imp.CYC n) 0
  s1.put (Imp.FTW n) ((ptFreq (pointWord s t p) * 2 ^ 48 + 3200000000) / 6400000000)

/-- The state-of-health fields of a completed sweep (R252). -/
def sohStore (s : State) (n t : Nat) : State :=
  let p := s.leNat (t + 8) 1
  match profileOf s n with
  | none => s
  | some a =>
    if (s.leNat (t + 7) 1).testBit 0 && s.get (Imp.STATUS n p) == 0 && !(pointWord s t p).testBit 48 then
      let z := s.int (Imp.RE n p)
      let zi := s.int (Imp.IM n p)
      let dt := s.int (Imp.TBAT n p) - s.leInt (a + 0xE) 2
      let r25 := fdivOpen (z * 1000000) (1000000 + (s.leInt (t + 0xE) 2 * dt).fdiv 10)
      let new : Int := s.leNat (t + 0x10) 4
      let eol : Int := s.leNat (t + 0x14) 4
      let soh := clampInt 0 100 ((100 * (eol - r25)).fdiv (eol - new))
      let s1 := (s.putI (CHG_IMP_SOH.SOH n) soh).putI (CHG_IMP_SOH.R25 n) (clampInt 0 0xFFFFFF r25)
      let s2 := (s1.put (CHG_IMP_ZMAG.ZMAG n) (isqrt (z * z + zi * zi).toNat)).put (CHG_IMP_ZMAG.VALID n) 1
      s2.on (decide (soh < s.leNat (t + 9) 1)) (·.orF (CHG_IMP_EVT.EVT n) 32)
    else s

/-- After a point the sweep moves on, or completes; the perturbation goes on to the next index 0 (R243). -/
def pointNext (s : State) (n t : Nat) : State :=
  let p := s.get (CHG_IMP_STAT.POINT n)
  let s1 := s.orF (CHG_IMP_EVT.EVT n) 2
  if p + 1 < sweepPts s t then pointAwait s1 n t (p + 1)
  else
    let s2 := ((sohStore (impStop s1 n) n t).put (CHG_IMP_STAT.END n) 1).inc (CHG_IMP_CNT.COMPLETED n)
    let s3 := ((s2.put (Imp.AMP n) (s.get (Imp.AMP n))).put (Imp.DELTA n) (s.get (Imp.DELTA n))).putB (Imp.TAIL n)
      (s.get (Imp.AMP n) != 0)
    rearm (s3.orF (CHG_IMP_EVT.EVT n) 4) n

/-- The amplitude of a point, LSB 10 mA (R245). -/
def pointAmp (s : State) (n t : Nat) : Nat :=
  let amp : Int := ptAmp (pointWord s t (s.get (CHG_IMP_STAT.POINT n)))
  let ith : Int := max 1 (s.get (CHG_ABS.I_TH n))
  let a1 := if s.get (CHG_STAT.MODE n) = 1 then min amp (iBatOf s n - 4 * ith) else amp
  let a2 := if s.get (CMB_PP_STAT.MODE (n / 2)) = 4 then min a1 (s.int (CMB_TARGET.TGT (n / 2))) else a1
  a2.toNat

/-- A pending sweep starts or resumes: not limited, and no other sweep on the bus or gang (R238, R242, R250). -/
def sweepResume (s : State) (n : Nat) : State :=
  let others := ((gangOf s (n / 2)).flatMap (fun d => [2 * d, 2 * d + 1])).any (fun e => e != n && impRuns s e)
  match sweepTable s (s.get (CHG_IMP_STAT.TABLE n)) with
  | some t =>
    if s.get (CHG_IMP_STAT.STATE n) = 1 ∧ !s.flag (CHG_STAT.LIMITED n) ∧ !others then
      let s1 := s.on (s.flag (Imp.NEW n)) (fun s => pointsClear s n)
      let s2 := ((s1.put (Imp.TAIL n) 0).put (Imp.AMP n) 0).put (Imp.DELTA n) 0
      pointAwait ((((s2.put (Imp.NEW n) 0).put (CHG_STAT.SWEEP_PEND n) 0).put (CHG_DV.NDV n) 0).orF (CHG_IMP_EVT.EVT n) 1) n t
        (s.get (Imp.AWAIT n) - 1)
    else s
  | none => s

/-- A pending sweep starts or resumes (R242). -/
def execSweepResume (n : Fin 8) (s : State) : Out := .next (sweepResume s n)

/-- The perturbation at index `k`, LSB 1 mA (R245). -/
def deltaAt (s : State) (n k : Nat) : Int := (s.get (Imp.AMP n) * 10 * refSine k).fdiv 32767

/-- A point below 10 mA is stored as SKIPPED (R245, R248). -/
def pointSkip (s : State) (n : Nat) : State :=
  let p := s.get (CHG_IMP_STAT.POINT n)
  let s1 := ((s.put (Imp.STATUS n p) 1).put (Imp.RE n p) 0).put (Imp.IM n p) 0
  (s1.put (Imp.IAMP n p) 0).put (Imp.TBAT n p) (s.get (CHG_TEMP.T_BAT n))

/-- At the first index 0 the awaited point becomes the present point, and the amplitude is fixed; below 10 mA the point is
SKIPPED (R243, R245) (DEDUCED, log entry 46). -/
def pointBegin (s : State) (n t : Nat) : State :=
  let s1 := s.on (s.get (Imp.AWAIT n) != 0) (fun s =>
    (((s.put (CHG_IMP_STAT.POINT n) (s.get (Imp.AWAIT n) - 1)).put (Imp.AWAIT n) 0).put (Imp.DIST n) 0).put (Imp.CLIP n) 0)
  let s2 := s1.put (Imp.AMP n) (pointAmp s1 n t)
  if pointAmp s1 n t = 0 then pointNext (pointSkip s2 n) n t else (s2.put (Imp.WAIT n) 0).put (Imp.CYC n) 0

/-- The phase accumulator advances by whole cycles until k changes; k goes to the channels of the string (R237, R244). -/
def impTurn (s : State) (n : Nat) : State :=
  let f := max 1 (s.get (Imp.FTW n))
  let ph := s.get (Imp.PHASE n)
  let m := (2 ^ 42 * (ph / 2 ^ 42 + 1) - ph + f - 1) / f
  let s1 := s.put (Imp.PHASE n) (ph + m * f)
  s1.each (enginePair s n) (fun s e => s.put (Imp.K e) (s1.get (Imp.PHASE n) / 2 ^ 42))

/-- What a step does at index 0: the awaited point begins, or a cycle has passed; the loops of every comb of the bus or gang
see it (R243, R245). -/
def impZero (s : State) (n t : Nat) : State :=
  if !pointRuns s n then s
  else (if s.flag (Imp.WAIT n) then pointBegin s n t else s.inc (Imp.CYC n)).put (Imp.ZERO n)
    ((gangOf s (n / 2)).foldl (fun m c => m ||| 1 <<< c) 0)

/-- Each step requests a conversion pair, which carries the index of the step; `on` says that its values belong to the
integration of the point (R243, R244, R246). -/
def pairRequest (s : State) (n : Nat) (on : Bool) : State :=
  (s.put (Imp.PAIR n) 1).each (enginePair s n) (fun s' e => (s'.put (Imp.PK e) (s.get (Imp.K n))).putB (Imp.PON e) on)

/-- A step of a sweep: k and the perturbation change, and a pair is requested; the one of the index 0 that ends the
integration is outside it (R243, R244, R245). -/
def impStepK (s : State) (n t : Nat) : State :=
  let s1 := impTurn s n
  let k := s1.get (Imp.K n)
  let s2 := if k = 0 then impZero s1 n t else s1
  let s3 := s2.putI (Imp.DELTA n) (deltaAt s2 n k)
  let last := s3.get (CHG_IMP_STAT.STATE n) == 3
    && ptInteg (pointWord s t (s3.get (CHG_IMP_STAT.POINT n))) ≤ s3.get (Imp.CYC n)
  s3.on (impRuns s3 n || s3.flag (Imp.TAIL n)) (fun s => pairRequest s n (s.get (CHG_IMP_STAT.STATE n) == 3 && !last))

/-- A step after the last point: the perturbation is removed at index 0 (R243). -/
def tailStep (s : State) (n : Nat) : State :=
  let s0 := impTurn s n
  let s1 := pairRequest s0 n false
  if s1.get (Imp.K n) = 0 then ((s1.put (Imp.AMP n) 0).put (Imp.DELTA n) 0).put (Imp.TAIL n) 0
  else s1.putI (Imp.DELTA n) (deltaAt s1 n (s1.get (Imp.K n)))

/-- The step index changes (R244) (DEDUCED, log entry 46). -/
def execImpStep (n : Fin 8) (s : State) : Out :=
  .next (if !hksLive s then s
    else if s.flag (Imp.TAIL n) then tailStep s n
    else match sweepTable s (s.get (CHG_IMP_STAT.TABLE n)) with
    | some t => if impRuns s n then impStepK s n t else s
    | none => s)

/-- A conversion pair starts on two lanes on one edge (R246). -/
def execImpedancePair (n : Fin 8) (s : State) : Out := .next (if hksLive s then impPair s n else s)

/-- The accumulators of the string are cleared and claimed for the integration (R247, R331). -/
def impClaim (s : State) (n : Nat) : State :=
  s.each (enginePair s n) (fun s e => s.each (impAccs s e).zipIdx (fun s q =>
    let s1 := (accClear s q.1).put (Acc.CLAIM q.1) (16 + 4 * e + q.2)
    (s1.put (Acc.STOP q.1) 0).put (ACC_CFG.CLAIMED (q.1 / 64) (q.1 % 64)) 1))

/-- SETTLE cycles have passed: integration begins at index 0, whose pair is its first (R243). -/
def execSettleDone (n : Fin 8) (s : State) : Out :=
  .next (match sweepTable s (s.get (CHG_IMP_STAT.TABLE n)) with
    | some t =>
      if s.get (CHG_IMP_STAT.STATE n) = 2 ∧ !s.flag (Imp.WAIT n) ∧ s.get (Imp.K n) = 0
          ∧ ptSettle (pointWord s t (s.get (CHG_IMP_STAT.POINT n))) ≤ s.get (Imp.CYC n) then
        (((impClaim s n).put (CHG_IMP_STAT.STATE n) 3).put (Imp.CYC n) 0).each (enginePair s n) (fun s e => s.put (Imp.PON e) 1)
      else s
    | none => s)

/-- INTEG cycles have been integrated: the point ends and its result is computed (R243). -/
def execIntegrationDone (n : Fin 8) (s : State) : Out :=
  .next (match sweepTable s (s.get (CHG_IMP_STAT.TABLE n)) with
    | some t =>
      if s.get (CHG_IMP_STAT.STATE n) = 3 ∧ s.get (Imp.K n) = 0
          ∧ ptInteg (pointWord s t (s.get (CHG_IMP_STAT.POINT n))) ≤ s.get (Imp.CYC n) then
        (impUnclaim s n).put (CHG_IMP_STAT.STATE n) 4
      else s
    | none => s)

/-! ### Results (R248) -/

/-- The phasors of a point in the order Vp, Vq, Ip, Iq; the follower's current is added (R248). -/
def phasors (s : State) (n : Nat) : Int × Int × Int × Int :=
  let acc := fun (e j : Nat) => accSum s ((impAccs s e)[j]?.getD 0)
  let kv : Int := chK s ((pairInputs n)[0]?.getD 0)
  let cur := fun (j : Nat) => (enginePair s n).foldl (fun a e => a + acc e j * chKi s ((pairInputs e)[1]?.getD 0)) 0
  (acc n 0 * kv, acc n 1 * kv, cur 2, cur 3)

/-- Every sum that the result consumes passes its residue check (R248, R352). -/
def sumsCheck (s : State) (n : Nat) : Bool × State :=
  ((enginePair s n).flatMap (impAccs s)).foldl (fun (q : Bool × State) a =>
    let x := sumTagged q.2 a 5
    let c := tagCheck q.2 (0x88 + n) x.val x.tag
    (q.1 && c.1, c.2)) (true, s)

/-- A converted value of the point was clipped. -/
def sumsClipped (s : State) (n : Nat) : Bool :=
  ((enginePair s n).flatMap (impAccs s)).any (fun a => s.get (ACC_CLIPS.CLIPS (a / 64) (a % 64)) != 0)

/-- The result of the present point is stored (R248). -/
def pointResult (s : State) (n t : Nat) : State :=
  let p := s.get (CHG_IMP_STAT.POINT n)
  let w := pointWord s t p
  let chk := sumsCheck s n
  let (vp, vq, ip, iq) := phasors s n
  let den := ip * ip + iq * iq
  let iamp := min 511 (isqrt den.toNat / (ptInteg w * gRef.toNat) / 10000000)
  let status := if s.get (Imp.DIST n) = 2 then 3
    else if !chk.1 then 4
    else if s.flag (Imp.CLIP n) || sumsClipped s n then 2
    else if 4 * iamp < s.get (Imp.AMP n) ∨ den = 0 then 5 else 0
  let re := if status = 0 then (1000000 * (vp * ip + vq * iq)).fdiv den else 0
  let im := if status = 0 then (1000000 * (vq * ip - vp * iq)).fdiv den else 0
  let s1 := ((chk.2.put (Imp.STATUS n p) status).putI (Imp.RE n p) re).putI (Imp.IM n p) im
  pointNext ((s1.put (Imp.IAMP n p) iamp).put (Imp.TBAT n p) (s.get (CHG_TEMP.T_BAT n))) n t

/-- The result of a point is stored (R248). -/
def execPointResult (n : Fin 8) (s : State) : Out :=
  .next (match sweepTable s (s.get (CHG_IMP_STAT.TABLE n)) with
    | some t => if s.get (CHG_IMP_STAT.STATE n) = 4 then pointResult s n t else s
    | none => s)

/-- The channel whose result and status registers a channel shows: for a follower those of its lead (R237). -/
def impChannel (s : State) (n : Nat) : Nat := (engineLead s n).getD n

/-- `CHG_IMP_PT_RE`, `CHG_IMP_PT_IM`, `CHG_IMP_PT_INFO` and `CHG_IMP_GREF` as they read: the point that the channel's
own `CHG_IMP_SEL` names, and the constant G_REF (R255). -/
def impRead (s : State) (n off : Nat) : Nat :=
  let p := s.get (CHG_IMP_SEL.POINT n)
  let m := impChannel s n
  match off with
  | 0x114 => s.get (Imp.RE m p)
  | 0x118 => s.get (Imp.IM m p)
  | 0x11C => s.get (Imp.STATUS m p) * 2 ^ 29 + s.get (Imp.IAMP m p) * 65536 + s.get (Imp.TBAT m p)
  | _ => gRef.toNat

end Sys2Proof.Machine
end

