-- ==== Sys2Proof/Machine/Integrity.lean ====
section
/-! DEFINITION. Data integrity (chapter 14): the scrubbers, the injections, the retention words and their shadow,
and the SRAM and MRAM windows with their privileges (R81, R82, R357 to R366). -/

namespace Sys2Proof.Machine

/-! ### Scrubbers (R359) -/

/-- The end of a scrubber's pass over memory `n`, with the corrections of pass counter `j` (R359). -/
def passEnd (s : State) (n j : Nat) : State :=
  let burst := decide (s.get (MEM_SCRUB.CE_TH n) < s.get (Mem.PASS_CE j))
  ((((s.inc (MEM_PASS.PASS n)).evt (0xA0 + n) 2).put (Mem.PASS_CE j) 0)).on burst
    (fun s => raiseEvent s (0xA0 + n) 0)

/-- A scrubber reads word `w`, its corrections counted in pass counter `j`: `upset` is the bits that have gone wrong in it since it was last read.
Every corrected word is written back (R358, R359) (DEDUCED, log entry 40). -/
def scrubRead (s : State) (j w : Nat) (upset : BitVec 8) : State :=
  let m := Sparse.look 0 s.ecc w
  let s1 := if upset = 0 then s else { s with ecc := Sparse.set 0 s.ecc w (m ^^^ upset.toNat) }
  let s2 := eccRead s1 w
  if eccState s1 w = 1 then { s2 with ecc := Sparse.set 0 s2.ecc w 0 }.inc (Mem.PASS_CE j) else s2

/-- The SRAM and MRAM scrubbers run: from step 3 of START-UP, outside hive-sleep, with EN set (R359). -/
def scrubRuns (s : State) (n : Nat) : Bool :=
  3 ≤ s.get Boot.STEP && served s && s.flag (MEM_SCRUB.EN n)

/-- The SRAM scrubber reads its next word (R359). -/
def execSramScrub (upset : BitVec 8) (s : State) : Out :=
  let p := s.get (MEM_SCRUB_POS.POS 0)
  .next (if scrubRuns s 0 then
    ((scrubRead s 0 (0x40000 + p) upset).put (MEM_SCRUB_POS.POS 0) (p + 1)).on (p == 524287)
      (fun s => passEnd s 0 0)
    else s)

/-- The retention scrubber reads its next word; it always runs (R359). -/
def execRetentionScrub (upset : BitVec 8) (s : State) : Out :=
  let p := s.get Mem.RETPOS
  .next (((scrubRead s 2 (retKey p) upset).put Mem.RETPOS (p + 1)).on (p == 511) (fun s => passEnd s 0 2))

/-- The MRAM scrubber reads its next word (R359). -/
def execMramScrub (upset : BitVec 8) (s : State) : Out :=
  let p := s.get (MEM_SCRUB_POS.POS 1)
  .next (if scrubRuns s 1 then
    ((scrubRead s 1 (0xC0000 + p % 131072) upset).put (MEM_SCRUB_POS.POS 1) ((p + 1) % 131072)).on (p % 131072 == 131071)
      (fun s => passEnd s 1 1)
    else s)

/-! ### Retention SRAM and its shadow (R74, R75, R358, R362) -/

/-- A written retention word is copied to its shadow; a poisoned one is not (R74, R362). -/
def execRetentionShadowCopy (word : Fin 512) (s : State) : Out :=
  .next (if s.flag Boot.HELD || eccState s (retKey word) == 2 then s
    else s.setDouble (shadowAddr word) (retDouble s word))

/-- Restore retention word `w` from its shadow (R68, R358). -/
def retRestore (s : State) (w : Nat) : State :=
  (s.setRetWord (8 * w) (s.word (shadowAddr w))).setRetWord (8 * w + 4) (s.word (shadowAddr w + 4))

/-- An uncorrectable retention word is restored from the shadow (R358). -/
def execRetentionRestore (word : Fin 512) (s : State) : Out :=
  .next (if eccState s (retKey word) = 2 then retRestore s word else s)

/-- An access to `PWR_RET_DATA`: both views read, a write takes effect in the Keeper view and the host area only,
and each access increments WORD (R75). A read is a memory read under R358. -/
def retAccess (s : State) (k : Bool) (w : Option Nat) : Res :=
  let i := s.get PWR_RET_ADDR.WORD
  let bump := fun (s : State) => s.put PWR_RET_ADDR.WORD (i + 1)
  match w with
  | none => (bump (eccRead s (retKey (i / 2))), 0)
  | some v =>
    let changed := v != s.retWord (4 * i)
    let code := if !changed then 0 else if !k then 1 else if s.flag (PAGE_LOCK.CFG 0x02) then 2 else 0
    if code ≠ 0 then (bump (refusal s 0x02 code), code)
    else if k && decide (512 ≤ i) then (bump (s.setRetWord (4 * i) v), 0) else (bump s, 0)

/-! ### Injection (R360, R361) -/

/-- Why an access may not change an injection field of page `p`: `on` marks a write of 1 to ARM, which PAGE_LOCK.INJ
refuses (R87, R90, R360). A value equal to the present one is never refused. -/
def injCode (s : State) (k : Bool) (p : Nat) (changed on : Bool) : Nat :=
  if !changed then 0 else if !k then 1
  else if s.flag (PAGE_LOCK.CFG p) || (on && s.flag (PAGE_LOCK.INJ p)) then 2 else 0

/-- The write of `MEM_INJ` or `MRAM_INJ`: MASK and ARM are judged on their own, and ARM is set only with a MASK of one or
two bits (R90, R360). -/
def memInjWrite (s : State) (k : Bool) (n w : Nat) : Res :=
  let p := 0xA0 + n
  let cm := injCode s k p (w % 256 != s.get (MEM_INJ.MASK n)) false
  let ca := injCode s k p (w.testBit 31 != s.flag (MEM_INJ.ARM n)) (w.testBit 31)
  let mask := if cm = 0 then w % 256 else s.get (MEM_INJ.MASK n)
  let arm := if ca = 0 then w.testBit 31 else s.flag (MEM_INJ.ARM n)
  let c := codeOf cm ca
  (refusal ((s.put (MEM_INJ.MASK n) mask).putB (MEM_INJ.ARM n) (arm && (popCount 8 mask == 1 || popCount 8 mask == 2))) p c, c)

/-- A Keeper write arms an injection into a memory word (R360). -/
def execInjectionArm (a : Access) (mram : Bool) (w : BitVec 32) (s : State) : Out :=
  .next (regOp s a (fun s k => memInjWrite s k (bitOf mram) w.toNat))

/-- The write of `TAG_INJ`: ARM and the other fields are judged on their own, and ARM is set only with a MASK that is
not zero (R90, R361). -/
def tagInjWrite (s : State) (k : Bool) (w : Nat) : Res :=
  let l := (regLayout 0xA2 0x068).filter (fun q => q.1 != TAG_INJ.ARM)
  let co := injCode s k 0xA2 (l.any (fun q => fieldOf w q.1 != s.get q.1)) false
  let ca := injCode s k 0xA2 (w.testBit 31 != s.flag TAG_INJ.ARM) (w.testBit 31)
  let arm := if ca = 0 then w.testBit 31 else s.flag TAG_INJ.ARM
  let s1 := s.on (co == 0) (fun s => storeFields s w l)
  let c := codeOf co ca
  (refusal (s1.putB TAG_INJ.ARM (arm && s1.get TAG_INJ.MASK != 0)) 0xA2 c, c)

/-- A Keeper write arms an injection into a tag (R361). -/
def execTagInj (a : Access) (w : BitVec 32) (s : State) : Out :=
  .next (regOp s a (fun s k => tagInjWrite s k w.toNat))

/-- The tag that a path returns of a tagged word: an armed injection for the path inverts residue bits, clears ARM
and sets EVT bit 1 (R361). -/
def tagReturn (s : State) (path : Fin 4) (tag : Nat) : State × Nat :=
  if s.flag TAG_INJ.ARM && s.flag TAG_INJ.PATH_SEL && s.get TAG_INJ.PATH == path.val && tag != 0 then
    ((s.put TAG_INJ.ARM 0).evt 0xA2 1, tag ^^^ s.get TAG_INJ.MASK)
  else (s, tag)

/-- The write of `MEM_SCRUB` or `MRAM_VERIFY`: EN written 0 takes effect in test mode only (R359). -/
def memScrubWrite (s : State) (k : Bool) (n w : Nat) : Res :=
  specialWrite s k (0xA0 + n) 0x040 w false (fun s w' =>
    let s1 := storeFields s w' (regLayout (0xA0 + n) 0x040)
    s1.on (!s.flag HIVE_MODE.TEST) (·.put (MEM_SCRUB.EN n) 1))

/-- Test mode ends: the scrubbers and the residue checks run again (R85, R359). -/
def testEnds (s : State) : State :=
  ((s.put (MEM_SCRUB.EN 0) 1).put (MEM_SCRUB.EN 1) 1).each allocatedPages (fun s p => s.put (PAGE_CTL.TAG_CHK p) 1)

/-! ### The SRAM and MRAM windows (R81, R82, R466) -/

/-- The window address of an image slot (R64). -/
def slotBase (i : Nat) : Nat := 0x600000 + 0x78000 * i

/-- The address lies in the image slot that was booted. -/
def inBootedSlot (s : State) (a : Nat) : Bool :=
  !s.flag HIVE_BOOT_STAT.NOIMG && decide (slotBase (s.get HIVE_BOOT_STAT.IMG) ≤ a)
    && decide (a < slotBase (s.get HIVE_BOOT_STAT.IMG) + 0x78000)

/-- Why a window access is refused: 0 it is not, 1 PRIVILEGE, 2 LOCKED (R81, R82, R466). An image write in SAFE-BOOT
is refused with LOCKED (R70, R473) (DEDUCED, log entry 16). -/
def windowCode (s : State) (k write : Bool) (a : Nat) : Nat :=
  if a < 0x300000 then
    let b := (a - 0x200000) / 0x80000
    let inact := s.get TBL_BANK.INACT
    if !k then 1
    else if write && (b == s.get TBL_BANK.ACTIVE || inact == 2 || inact == 5 || inact == 6) then 2 else 0
  else if a < 0x500000 then (if !k || write then 1 else 0)
  else if a < 0x580000 then (if k then 0 else 1)
  else if a < 0x5E0000 then (if write then 1 else 0)
  else if a < 0x600000 then (if write && !k then 1 else 0)
  else if !k then 1
  else if !write then 0
  else if a < 0x6F0000 then (if inBootedSlot s a || inSafeBoot s then 2 else 0)
  else if a < 0x6F0008 then 0
  else 1

/-- The attempt counter of image slot `i` is cleared (R67, R473). -/
def attemptsClear (s : State) (i : Nat) : State := s.setRetWord 4 (andNot (s.retWord 4) (15 <<< (4 * i)))

/-- One word written through a window, with what the write of that region does (R67, R466). -/
def windowStore (s : State) (a w : Nat) : State :=
  let s1 := s.setWord a w
  if a < 0x300000 then s1.put TBL_BANK.INACT 1
  else if 0x600000 ≤ a ∧ a < 0x6F0000 then
    let i := (a - 0x600000) / 0x78000
    if slice (s1.retWord 4) (4 * i) 4 = 0 then s1 else attemptsClear s1 i
  else s1

/-- A write through the SRAM or MRAM window (R81, R82) (DEDUCED, log entry 16). -/
def windowWrite (s : State) (k : Bool) (a w : Nat) : Res :=
  let c := windowCode s k true a
  if c ≠ 0 then (refusal s (0xA0 + memOf a) c, c) else (windowStore s a w, 0)

/-- A read through a window: the state after the memory's check, the word, its tag and the code (R82, R358). -/
def windowRead (s : State) (k : Bool) (a : Nat) : Res × Nat × Nat :=
  let c := windowCode s k false a
  if c ≠ 0 then ((refusal s (0xA0 + memOf a) c, c), 0, 0)
  else
    let s1 := eccRead s (a / 8)
    ((s1, 0), s.word a, if eccState s (a / 8) = 2 then 0xFFFF else 0)

end Sys2Proof.Machine
end

