-- ==== Sys2Proof/Machine/Thermal.lean ====
section
/-! DEFINITION. The thermal block (chapter 15): samples and their sanity, throttle levels and zones, shutdown
and restart with their records, and substitution. Temperatures are in units of 0.1 degree. -/

namespace Sys2Proof.Machine

/-! ### Sensors (R367, R379) -/

/-- The channel of the sensor is drained for live maintenance (R380). -/
def thDrained (s : State) (k : Nat) : Bool := (thPages k).any (fun p => s.flag (PAGE_STAT.DRAINED p))

/-- The sensor is sampled in the present mode (R379, R380). -/
def thLive (s : State) (k : Nat) : Bool :=
  thKept s k && !thDrained s k && served s
    && (thKind k == 0 || (3 ≤ s.get Boot.STEP && (!inSafeBoot s || thComb k == s.get HIVE_BOOT_STAT.SAFE_COMB)))

/-- The housekeeping input of a DIE, STAGE or BATTERY sensor (R367). -/
def thInput (k : Nat) : Nat :=
  if k < 8 then 208 + k
  else if k < 24 then 48 * ((k - 8) / 4) + 36 + (k - 8) % 4
  else 48 * ((k - 24) / 4) + 40 + (k - 24) % 4

/-- The curve of a sensor (R368). -/
def thCurve (s : State) (k : Nat) : Nat := if k < 8 then 7 else s.get (THS_CFG.CURVE k)

/-- The valid curve table of the active bank that `THM_CTL.TABLE` selects (R368). -/
def curveTable (s : State) : Option Nat :=
  (findTable s 0x0007 (s.get THM_CTL.TABLE)).filter (fun a => headerOk s a 0x0007 0x0220)

/-- The temperature of a code on curve `c` of the table at `a` (R368). -/
def curvePoint (s : State) (a c code : Nat) : Int :=
  let i := code / 128
  let p := s.leInt (a + 0x10 + 0x42 * c + 2 * i) 2
  p + ((s.leInt (a + 0x10 + 0x42 * c + 2 * i + 2) 2 - p) * ((code % 128 : Nat) : Int)).fdiv 128

/-- The table cause stands while no valid curve table is selected (R368, R381). -/
def curveReview (s : State) : State :=
  if (curveTable s).isSome then causeEnds s 0x80 6 else raiseHeld s 0x80 6

/-! ### Samples (R368, R369, R371) -/

/-- The sample of a converted sensor: the cause that makes it insane, 0 none, and the temperature. An injected CURVE_TABLE
acts as an invalid table (R395). -/
def inputSample (s : State) (k : Nat) : Nat × Int × State :=
  if !s.flag (Thm.NEW k) then (3, 0, s)
  else
    let code := s.get (Thm.CODE k)
    match tagCheck s 0x80 code (BitVec.ofNat 16 (s.get (Thm.TAG k))) with
    | (false, s1) => (4, 0, s1)
    | (true, s1) =>
      if s.flag (Thm.CLIP k) then (1, 0, s1)
      else if thCurve s k = 7 then (0, Config.dieTemp code, s1)
      else match (curveTable s).filter (fun _ => !s.bit (Flt.INJ 0x80) 6) with
        | none => (5, 0, s1)
        | some a => (0, curvePoint s a (thCurve s k) code, blockRead s1 (a + 0x10 + 0x42 * thCurve s k) 0x42)

/-- The sample of a port sensor: `PORT_FET_T` as the island last delivered it. It fails with its diode (R371). -/
def fetSample (s : State) (k : Nat) : Nat × Int × State :=
  let n := k - 40
  if s.flag (PORT_CTL.TD_USE n) && portKind n != 4 && (!s.flag (Port.DIODE_OK n) || s.flag (Port.STALE n 3)) then
    (6, 0, s)
  else if !s.flag (Thm.NEW k) then (3, 0, s)
  else (0, s.int (PORT_FET_T.T_FET n), s)

/-- The sanity of a sample that has a temperature: its range, and its step from the last sane one (R371). -/
def saneCause (s : State) (k : Nat) (t : Int) : Nat :=
  if t < -550 ∨ 2000 < t then 1
  else if s.flag (Ths.LASTOK k) ∧ 100 < (t - s.int (Ths.LAST k)).natAbs then 2 else 0

/-- Take the sample of a sensor: its cause of insanity, 0 none, and its temperature. -/
def takeSample (s : State) (k : Nat) : Nat × Int × State :=
  let (c, t, s1) := if k < 40 then inputSample s k else fetSample s k
  (if c = 0 then saneCause s k t else c, t, s1.put (Thm.NEW k) 0)

/-! ### Comparisons (R370, R372, R375, R376) -/

/-- The shutdown level of a sensor, where it is enabled (R374). -/
def sdLevel (s : State) (k : Nat) : Option Int :=
  if s.get (THS_SD.SD k) = 0x7FFF ∧ 8 ≤ k then none else some (s.int (THS_SD.SD k))

/-- A threshold, where it is enabled (R372). -/
def threshold (s : State) (f : Fld) : Option Int := if s.get f = 0x7FFF then none else some (s.int f)

/-- Count a run: one more while the condition holds, to `top`; zero when it breaks. -/
def countRun (s : State) (f : Fld) (top : Nat) (b : Bool) : State := if b then s.put f (min top (s.get f + 1)) else s.put f 0

/-- The runs of one threshold. A disabled one counts as three samples below (R372) (DEDUCED, log entry 41). -/
def levelRuns (s : State) (th : Option Int) (up dn : Fld) (t : Int) : State :=
  match th with
  | none => (s.put up 0).put dn 3
  | some v => countRun (countRun s up 3 (v ≤ t)) dn 3 (t < v - 40)

/-- The distance of a value from the enabled levels, none where none is enabled (R370). -/
def thDistance (s : State) (k : Nat) (t : Int) : Option Nat :=
  let l := [threshold s (THS_TH.TH1 k), threshold s (THS_TH.TH2 k), sdLevel s k].filterMap id
  l.foldl (fun m v => some (min (m.getD (t - v).natAbs) (t - v).natAbs)) none

/-- The interval that a distance calls for: 0 10 ms, 1 1 ms, 2 250 µs (R370). -/
def thBand (d : Option Nat) : Nat :=
  match d with
  | none => 0
  | some d => if 100 < d then 0 else if 30 < d then 1 else 2

/-- The distance exceeds the upper bound of the present band by more than 2 K (R370). -/
def beyondBand (band : Nat) (d : Option Nat) : Bool :=
  match d with
  | none => true
  | some d => decide ((if band = 2 then 50 else 120) < d)

/-- A value's distance shortens the interval at once, or counts towards a longer one (R370) (DEDUCED, log entry 41). -/
def intervalReview (s : State) (k : Nat) (t : Int) : State :=
  let d := thDistance s k t
  let band := s.get (THS_STAT.INTERVAL k)
  if band < thBand d then (s.put (THS_STAT.INTERVAL k) (thBand d)).put (Ths.LEN k) 0
  else countRun s (Ths.LEN k) 8 (thBand d < band && beyondBand band d)

/-- The shutdown count of a value; the second at or above SD makes a shutdown due (R375). -/
def shutdownRun (s : State) (k : Nat) (t : Int) : State :=
  match sdLevel s k with
  | none => s.put (Ths.SDN k) 0
  | some v =>
    let s1 := countRun s (Ths.SDN k) 2 (v ≤ t)
    s1.on (s1.get (Ths.SDN k) == 2 && s.get (Ths.SDN k) == 1) (·.put (Ths.SDDUE k) 1)

/-- The cooling run of a sensor that is shut down (R376). -/
def coolRun (s : State) (k : Nat) (t : Int) : State :=
  match sdLevel s k with
  | none => s
  | some v =>
    if t ≤ v - 200 then s.putB (Ths.COLD k) (s.flag (THS_STAT.SD k))
    else (s.put (Ths.COLD k) 0).put (Ths.COOLED k) 0

/-- A new value of a sensor takes part in every comparison (R370, R372, R375, R377). -/
def compareValue (s : State) (k : Nat) (t : Int) (subst : Bool) : State :=
  let s1 := ((s.putI (THS_VAL.T k) t).put (THS_VAL.VALID k) 1).putB (THS_VAL.SUBST k) subst
  let s2 := levelRuns (levelRuns s1 (threshold s (THS_TH.TH1 k)) (Ths.UP1 k) (Ths.DN1 k) t)
    (threshold s (THS_TH.TH2 k)) (Ths.UP2 k) (Ths.DN2 k) t
  let s3 := intervalReview (coolRun (shutdownRun s2 k t) k t) k t
  s3.each ((List.range 48).filter (fun n => s.get (PORT_TM.AMB n) == k)) (fun s n =>
    (s.putI (Port.AMB n) t).put (Port.STALE n 2) 0)

/-! ### Zones (R373, R378) -/

/-- `THS_STAT.LEVEL` of a sensor and the level of its zone follow (R372, R373, R378). -/
def levelReview (s : State) (k : Nat) : State :=
  zoneReview (s.put (THS_STAT.LEVEL k) (if s.flag (Ths.MINP k) then 3 else sensorLevel s k)) (s.get (THS_CFG.ZONE k))

/-- A threshold is crossed by the third consecutive sample; no level falls under a substitute (R372). -/
def crossed (s : State) (up dn ovr : Fld) (subst : Bool) : State :=
  if s.get up = 3 then s.put ovr 1 else if s.get dn = 3 ∧ !subst then s.put ovr 0 else s

/-- The third consecutive sample across a threshold changes the level of the sensor and of its zone (R372). -/
def throttle (s : State) (k : Nat) : State :=
  let sub := s.flag (THS_STAT.SUBST k)
  levelReview (crossed (crossed s (Ths.UP1 k) (Ths.DN1 k) (Ths.OVER1 k) sub) (Ths.UP2 k) (Ths.DN2 k) (Ths.OVER2 k) sub) k

/-- A third consecutive sample across a threshold (R372, R373). -/
def execThrottleLevel (k : Fin 88) (s : State) : Out := .next (if thLive s k then throttle s k else s)

/-! ### Substitution (R371, R377, R378, R480) -/

/-- The bit of a sensor in a group of three registers (R383). -/
def sensorBit (s : State) (f : Nat → Fld) (k : Nat) (b : Bool) : State := s.putBit (f (k / 32)) (k % 32) b

/-- The estimate of a failed sensor, where it has one (R377). -/
def estimate (s : State) (k : Nat) : Option Int :=
  match s.get (THS_CFG.EST k) with
  | 1 =>
    let p := s.get (THS_CFG.PARTNER k)
    if p < 88 ∧ s.flag (THS_VAL.VALID p) ∧ !s.flag (THS_STAT.SUBST p) then
      some (s.int (THS_VAL.T p) + s.int (THS_CFG.EST_OFS k))
    else none
  | 2 => if 40 ≤ k then some (s.int (PORT_FET_T.T_FET (k - 40))) else none
  | _ => none

/-- The substitute of a failed sensor; open where it has never had a sane sample (R377, log entry 3). -/
def substitute (s : State) (k : Nat) : Int × State :=
  if s.flag (Ths.LASTOK k) then
    let last := s.int (Ths.LAST k)
    (max last ((estimate s k).getD last) + 50, s)
  else
    let (n, s1) := s.fresh
    (toSigned 16 (Config.freeNat n % 65536), s1)

/-- A substituted sensor takes its substitute at a boundary (R377). -/
def takeSubstitute (s : State) (k : Nat) : State :=
  let (t, s1) := substitute s k
  compareValue s1 k t true

/-- Substitution of a sensor begins (R371, R377, R480). -/
def substBegin (s : State) (k : Nat) : State :=
  let s1 := ((s.put (THS_STAT.SUBST k) 1).put (THS_STAT.SANE k) 0).put (Ths.SANEMS k) 0
  zoneReview (sensorBit (s1.put (Ths.SANERUN k) 0) THM_SUBST.SUBST k true) (s.get (THS_CFG.ZONE k))

/-- A substituted sensor's sample: it counts towards the sane time, and the substitute is taken unless the end
of substitution is due (R377). -/
def substSample (s : State) (k c : Nat) (t : Int) : State :=
  if c = 0 then
    let s1 := ((s.putI (Ths.LAST k) t).put (Ths.LASTOK k) 1).put (Ths.SANERUN k) 1
    if s.get (THS_STAT.SANE k) = 100 ∧ !s.flag (Ths.OUT k) then s1 else takeSubstitute s1 k
  else
    takeSubstitute (((s.put (Ths.SANERUN k) 0).put (Ths.SANEMS k) 0).put (THS_STAT.SANE k) 0) k

/-- A sensor takes a sample at its boundary (R369, R371). A sensor that SENSOR_OUT has taken out counts as failed
from here (R480). -/
def thermalSample (s : State) (k : Nat) : State :=
  let (c, t, s1) := takeSample s k
  if s1.flag (THS_STAT.SUBST k) then substSample s1 k c t
  else if s1.flag (Ths.OUT k) then substSample (substBegin s1 k) k c t
  else if c = 0 then compareValue (((s1.putI (Ths.LAST k) t).put (Ths.LASTOK k) 1).put (Ths.INS k) 0) k t false
  else (s1.put (Ths.ICAUSE k) c).put (Ths.INS k) (if 5 ≤ c then 3 else min 3 (s1.get (Ths.INS k) + 1))

/-- A sensor takes a sample at its interval boundary (R369). -/
def execThermalSample (k : Fin 88) (s : State) : Out := .next (if thLive s k then thermalSample s k else s)

/-- No value has arrived 20 µs before the boundary: an urgent request (R324, R369). -/
def execThermalUrgentRequest (k : Fin 88) (s : State) : Out :=
  .next (if thLive s k && decide (k.val < 40) && !s.flag (Thm.NEW k) then
      urgentRequest s (if k.val < 8 then 5 else 1 + thComb k) (thInput k)
    else s)

/-- A cause of the THERM page is raised again by a further sensor: present while any of them stands. -/
def thRaise (s : State) (i : Nat) : State := raiseHeld (s.putBit (Flt.PRESENT 0x80) i false) 0x80 i

/-- The third consecutive insane sample fails the sensor (R371, R377). -/
def sensorFail (s : State) (k : Nat) : State :=
  let s1 := (s.put (Ths.FAILED k) 1).put (THS_STAT.FAIL_CAUSE k) (s.get (Ths.ICAUSE k))
  takeSubstitute (thRaise (zoneEvt (substBegin s1 k) (s.get (THS_CFG.ZONE k)) 4) 4) k

/-- A third consecutive insane sample (R371). -/
def execSensorFailed (k : Fin 88) (s : State) : Out :=
  .next (if thLive s k && s.get (Ths.INS k) == 3 && !s.flag (THS_STAT.SUBST k) then sensorFail s k else s)

/-- Eight consecutive samples beyond the margin lengthen the interval by one band (R370). -/
def execIntervalLengthen (k : Fin 88) (s : State) : Out :=
  .next (if thLive s k && s.get (Ths.LEN k) == 8 && s.get (THS_STAT.INTERVAL k) != 0 then
      (s.put (THS_STAT.INTERVAL k) (s.get (THS_STAT.INTERVAL k) - 1)).put (Ths.LEN k) 0
    else s)

/-- Causes of the THERM page end with the last sensor that holds them. -/
def failCauses (s : State) : State :=
  let s1 := s.on ((List.range 88).all (fun k => !s.flag (Ths.FAILED k))) (fun s => causeEnds s 0x80 4)
  s1.on ((List.range 88).all (fun k => !s.flag (Ths.MINP k))) (fun s => causeEnds s 0x80 5)

/-- Substitution ends: the first sane value becomes the sensor's value, and minimum power ends (R377, R378). -/
def substEnd (s : State) (k : Nat) : State :=
  let s1 := ((((s.put (THS_STAT.SUBST k) 0).put (THS_STAT.FAIL_CAUSE k) 0).put (Ths.INS k) 0).put
    (Ths.FAILED k) 0).put (Ths.MINP k) 0
  let s2 := zoneEvt (sensorBit ((s1.put (THS_STAT.SANE k) 0).put (Ths.SANEMS k) 0) THM_SUBST.SUBST k false)
    (s.get (THS_CFG.ZONE k)) 5
  levelReview (failCauses (compareValue s2 k (s.int (Ths.LAST k)) false)) k

/-- Ten seconds of sane samples have passed (R377). -/
def execSubstitutionEnd (k : Fin 88) (s : State) : Out :=
  .next (if thLive s k && s.flag (THS_STAT.SUBST k) && !s.flag (Ths.OUT k) && s.flag (Ths.SANERUN k) then substEnd s k
    else s)

/-- A sensor without an estimate has been failed for 10 s: its zone goes to minimum power (R378). -/
def execMinPower (k : Fin 88) (s : State) : Out :=
  .next (if s.flag (THS_STAT.SUBST k) && (sdLevel s k).isSome && (s.get (THS_CFG.EST k) == 0 || s.get (THS_CFG.EST k) == 3)
      && !s.flag (Ths.MINP k) then
      levelReview (thRaise (zoneEvt (s.put (Ths.MINP k) 1) (s.get (THS_CFG.ZONE k)) 6) 5) k
    else s)

/-! ### Shutdown and restart (R374 to R376) -/

/-- Append a 16-byte record to the MRAM event log; a full log takes none (R64, R376). -/
def eventRecord (s : State) (lo hi : Nat) : State :=
  if s.get Log.NEXT < 3584 then
    let a := 0x6F2000 + 16 * s.get Log.NEXT
    ((s.setDouble a lo).setDouble (a + 8) hi).wrapInc Log.NEXT
  else s

/-- A shutdown or acknowledgement record of a sensor (R376). -/
def thermalRecord (s : State) (type k : Nat) : State :=
  eventRecord s (type + k * 2 ^ 16 + s.get (THS_CFG.ZONE k) * 2 ^ 24 + s.get (Ths.SHUTT k) * 2 ^ 32
      + s.get (THS_SD.SD k) * 2 ^ 48)
    (s.get Dev.TIME + s.retWord 0 * 2 ^ 32)

/-- The pending mark of a sensor follows its records (R376, R383). -/
def pendShow (s : State) (k : Nat) : State :=
  sensorBit (s.putB (THS_STAT.PEND_ACK k) (s.get (Ths.RECS k) != 0)) THM_PEND.PEND k (s.get (Ths.RECS k) != 0)

/-- The action of a shutdown by the kind of its sensor (R375). -/
def shutdownAction (s : State) (k : Nat) : State :=
  match thKind k with
  | 0 => dieAction s
  | 2 => runClear s (Fin.ofNat 16 (k - 8))
  | 1 => s.each (enginePair s (((engineLead s ((k - 24) / 2)).getD ((k - 24) / 2)))) (fun s n => chgOpen (chgZero s n) n)
  | _ => raiseHeld (s.put (Port.HOT (k - 40)) 1) (0x30 + (k - 40)) 5

/-- A sensor shuts down: its action, its C4 cause, EVT bit 2 of its zone, and the record of a DIE or BATTERY
shutdown (R375, R376) (DEDUCED, log entry 42). -/
def shutDown (s : State) (k : Nat) : State :=
  let s1 := ((s.put (Ths.SDDUE k) 0).put (THS_STAT.SD k) 1).put (Ths.SHUTT k) (s.get (THS_VAL.T k))
  let s2 := shutdownAction ((s1.put (Ths.COLD k) 0).put (Ths.COOLED k) 0) k
  let s3 := zoneEvt (thRaise s2 (thKind k)) (s.get (THS_CFG.ZONE k)) 2
  if thKind k < 2 then pendShow (thermalRecord (s3.inc (Ths.RECS k)) 1 k) k else s3

/-- A second consecutive sample at or above SD shuts the guarded hardware down (R375). -/
def execShutdown (k : Fin 88) (s : State) : Out := .next (if s.flag (Ths.SDDUE k) then shutDown s k else s)

/-- A port kept on in hive-sleep, whose island supervises its switch (R379). -/
def sleepSupervised (s : State) (n : Nat) : Bool :=
  s.get Sleep.STATE == 2 && thKept s (40 + n) && s.flag (PORT_CTL.SLEEP_ON n) && portClosed s n

/-- One 100 µs step of the FET model: the island delivers T_FET to the thermal block, and in hive-sleep compares it with
the shutdown level itself (R274, R369, R379). -/
def execModelStep (n : Fin 48) (s : State) : Out :=
  .next (if modelRuns s n then
      let s1 := (fetStep s n).put (Thm.NEW (40 + n)) 1
      s1.on (sleepSupervised s n) (fun s => shutdownRun s (40 + n) (s.int (PORT_FET_T.T_FET n)))
    else s)

/-- The analog comparator on the die trips: a DIE shutdown, borne by sensor DIE0 (R375, log entry 20). -/
def execDieComparator (s : State) : Out := .next (shutDown s 0)

/-- What a DIE shutdown has turned off starts again (R376). -/
def dieRestart (s : State) : State :=
  let s1 := s.each (List.range 48) (fun s n =>
    if portKind n = 4 then s.on (s.flag (PDP_CTL.EN (n / 12))) (fun s => pdErrorRecovery s (n / 12))
    else portReview s n)
  s1.each (List.finRange 16) recause

/-- What starts again when a shutdown ends (R376). -/
def restartAction (s : State) (k : Nat) : State :=
  match thKind k with
  | 0 => s.on (!dieShutdown s) dieRestart
  | 2 => s.on (s.flag (PH_CTL.RUN (k - 8))) (fun s => runSet s (Fin.ofNat 16 (k - 8)))
  | 1 => s
  | _ =>
    let n := k - 40
    let s1 := causeEnds (s.put (Port.HOT n) 0) (0x30 + n) 5
    if portKind n = 4 then s1.on (s.flag (PDP_CTL.EN (n / 12))) (fun s => pdErrorRecovery s (n / 12))
    else portReview s1 n

/-- A shutdown ends: EVT bit 3 of the zone, and its cause ends with the last sensor of the kind (R376, R384). -/
def shutEnd (s : State) (k : Nat) : State :=
  let s1 := ((s.put (THS_STAT.SD k) 0).put (Ths.COLD k) 0).put (Ths.COOLED k) 0
  let s2 := s1.on ((List.range 88).all (fun j => thKind j != thKind k || !s1.flag (THS_STAT.SD j)))
    (fun s => causeEnds s 0x80 (thKind k))
  restartAction (zoneEvt s2 (s.get (THS_CFG.ZONE k)) 3) k

/-- A sensor is cooled: a STAGE or PORT_FET shutdown ends, a DIE or BATTERY shutdown once its record is
acknowledged (R376). -/
def execCooled (k : Fin 88) (s : State) : Out :=
  .next (if s.flag (THS_STAT.SD k) && s.flag (Ths.COLD k) then
      (if s.get (Ths.RECS k) = 0 then shutEnd s k else s.put (Ths.COOLED k) 1)
    else s)

/-- Acknowledge the earliest pending record of a sensor (R376, R380) (DEDUCED, log entry 42). -/
def thermalAck (s : State) (k : Nat) : State :=
  if s.get (Ths.RECS k) = 0 then s
  else
    let s1 := pendShow (thermalRecord (s.put (Ths.RECS k) (s.get (Ths.RECS k) - 1)) 2 k) k
    s1.on (s1.get (Ths.RECS k) == 0 && s.flag (Ths.COOLED k) && s.flag (THS_STAT.SD k)) (fun s => shutEnd s k)

/-- The write of `THM_ACK` (R376). A sensor number above 87 names no record. -/
def thmAckWrite (s : State) (k : Bool) (w : Nat) : Res :=
  if k && !s.flag (PAGE_LOCK.CFG 0x80) then (if w % 128 < 88 then (thermalAck s (w % 128), 0) else (s, 0))
  else
    let c := if w % 128 = 0 then 0 else if k then 2 else 1
    (refusal s 0x80 c, c)

/-- A Keeper write of `THM_ACK` (R376). -/
def execThmAck (a : Access) (w : BitVec 32) (s : State) : Out :=
  .next (regOp s a (fun s k => thmAckWrite s k w.toNat))

/-! ### Levels and configuration (R368, R370, R373, R374) -/

/-- A shutdown level is locked (R374). -/
def sdLocked (s : State) (k : Nat) : Bool := decide (k < 8) || s.flag (THS_SD.LOCK k)

/-- Set a shutdown level and its lock; a written level restarts the count (R370, R374). -/
def sdSet (s : State) (k v : Nat) : State := ((s.put (THS_SD.SD k) v).put (THS_SD.LOCK k) 1).put (Ths.LEN k) 0

/-- The write of `THS_SD`: the first accepted one sets the level and LOCK (R374); `PAGE_LOCK` has no effect (R96). -/
def thsSdWrite (s : State) (k : Bool) (t w : Nat) : Res :=
  let changes := w % 65536 != s.get (THS_SD.SD t)
  if !k then (refusal s 0x80 (bitOf changes), bitOf changes)
  else if sdLocked s t then (refusal s 0x80 (2 * bitOf changes), 2 * bitOf changes)
  else (sdSet s t w, 0)

/-- The first Keeper write of `THS_SD` (R374). -/
def execSdWrite (a : Access) (k : Fin 88) (w : BitVec 32) (s : State) : Out :=
  .next (regOp s a (fun s kv => thsSdWrite s kv k w.toNat))

/-- Every level is locked at the entry to FULL or SAFE-BOOT (R374). -/
def lockLevels (s : State) : State := s.each (List.range 88) (fun s k => s.put (THS_SD.LOCK k) 1)

/-- The write of `THS_TH` restarts the count of the interval (R370). -/
def thsThWrite (s : State) (k : Bool) (t w : Nat) : Res :=
  specialWrite s k 0x80 (0x100 + 0x14 * t + 4) w false (fun s w' =>
    (storeFields s w' (regLayout 0x80 (0x100 + 0x14 * t + 4))).put (Ths.LEN t) 0)

/-- The write of `THS_CFG`: CURVE of a DIE sensor reads 7, and the zones it leaves and joins follow (R368, R373). -/
def thsCfgWrite (s : State) (k : Bool) (t w : Nat) : Res :=
  specialWrite s k 0x80 (0x100 + 0x14 * t) w false (fun s w' =>
    let s1 := (storeFields s w' (regLayout 0x80 (0x100 + 0x14 * t))).on (decide (t < 8)) (·.put (THS_CFG.CURVE t) 7)
    zoneReview (zoneReview s1 (s.get (THS_CFG.ZONE t))) (s1.get (THS_CFG.ZONE t)))

/-- The write of `THM_CTL` selects the curve table (R368). -/
def thmCtlWrite (s : State) (k : Bool) (w : Nat) : Res :=
  specialWrite s k 0x80 0x040 w false (fun s w' => curveReview (storeFields s w' (regLayout 0x80 0x040)))

/-- The records that no reset removes put their shutdowns in force again at step 3 (R62, R376). -/
def reapplyRecords (s : State) : State :=
  s.each ((List.range 40).filter (fun k => s.get (Ths.RECS k) != 0)) (fun s k =>
    pendShow (thRaise (shutdownAction (s.put (THS_STAT.SD k) 1) k) (thKind k)) k)

/-- On wake every interval restarts at 250 µs (R379). -/
def thermalWake (s : State) : State := s.each (List.range 88) (fun s k => (s.put (THS_STAT.INTERVAL k) 2).put (Ths.LEN k) 0)

end Sys2Proof.Machine
end

