-- ==== Sys2Proof/Machine/Interrupts.lean ====
section
/-! DEFINITION. The interrupt controller (chapter 17): the source lines, sensing and pending, priority and
owners, claims, ends of interrupt and the INT pins. -/

namespace Sys2Proof.Machine

/-! ### Source lines (R86, R401) -/

/-- The EVT bits of a page as they stand: bit 8 of PORT(12c) is the condition of the power path (R200, R281). -/
def evtWord (s : State) (p : Nat) : Nat :=
  let e := s.get (PAGE_IRQ_STAT.EVT p)
  if 0x30 ≤ p ∧ p < 0x60 ∧ (p - 0x30) % 12 = 0 then
    let c := (p - 0x30) / 12
    andNot e 256 ||| (if s.get (CMB_PP_EVT.EVT c) &&& s.get (CMB_PP_EVT.EN c) != 0 then 256 else 0)
  else e

/-- A page may drive its sources: its gate is open and it is not declared absent (R53, R86). -/
def gateOpen (s : State) (p : Nat) : Bool := s.flag (PAGE_CTL.IRQ_GATE p) && !absent s p

/-- Some EVT bit of a page among `m` is set and enabled, and the page drives its sources (R86). -/
def pageLine (s : State) (p m : Nat) : Bool :=
  gateOpen s p && (evtWord s p &&& s.get (PAGE_IRQ_EN.EN p) &&& m) != 0

/-- Some bit of an event register is set and enabled, and its page drives its sources. -/
def regLine (s : State) (p : Nat) (evt en : Fld) (m : Nat) : Bool := gateOpen s p && (s.get evt &&& s.get en &&& m) != 0

/-- The line of a source (R401 and the assignments of the chapters). -/
def srcLine (s : State) (n : Nat) : Bool :=
  if n < 16 then false
  else if n < 32 then
    match n with
    | 16 => pageLine s 0x00 0x8001
    | 17 => pageLine s 0x01 0x8001
    | 18 => pageLine s 0x02 0x8000
    | 19 => pageLine s 0x00 0x0002
    | 20 => pageLine s 0x04 0x8000
    | 21 => pageLine s 0x05 0x8000
    | 22 => pageLine s 0x06 0x8000
    | 23 => pageLine s 0x09 0x0001
    | 24 => pageLine s 0x09 0x0002
    | 25 => pageLine s 0x09 0x0004
    | 26 => pageLine s 0x09 0x8000
    | _ => false
  else if n < 48 then pageLine s (0x20 + (n - 32)) 0x00FF
  else if n < 96 then pageLine s (0x30 + (n - 48)) 0x81FF
  else if n < 104 then pageLine s (0x10 + (n - 96) / 2) (if n % 2 = 0 then 0x8000 else 0x01FF)
  else if n < 120 then pageLine s (0x88 + (n - 104) / 2) (if n % 2 = 0 then 0x01FF else 0x8000)
  else if n < 132 then
    pageLine s (0x60 + (n - 120) / 3) (match (n - 120) % 3 with
      | 0 => 0x00FF
      | 1 => 0xC000
      | _ => 0x3F00)
  else if n = 132 then pageLine s 0x68 0x80FF
  else if n < 138 then pageLine s (0x69 + (n - 133)) 0x8003
  else if n < 146 then regLine s 0x68 HKS_SEQ_DONE.DONE HKS_SEQ_DONE_EN.EN (15 <<< (4 * (n - 138)))
  else if n = 146 then pageLine s 0x68 0x0200
  else if n = 147 then false
  else if n < 180 then
    let p := (n - 148) / 4
    let j := n % 4
    regLine s (0x70 + p) (ACC_THR_EVT.EVT p (j / 2)) (ACC_THR_EN.EN p (j / 2)) (0xFFFF <<< (16 * (j % 2)))
      || (j == 0 && pageLine s (0x70 + p) 0x8001)
  else if n < 196 then
    regLine s 0x80 (THZ_EVT.EVT (n - 180)) (THZ_EVT.EN (n - 180)) 0x7F || (n == 180 && pageLine s 0x80 0x8000)
  else if n < 204 then
    pageLine s 0x98 (match n with
      | 196 => 0x0007
      | 197 => 0x0018
      | 198 => 0x0060
      | 199 => 0x0080
      | 200 => 0x0100
      | 201 => 0x0200
      | 202 => 0x0400
      | _ => 0x8000)
  else if n < 220 then
    match n with
    | 204 => pageLine s 0xA0 0x8003
    | 205 => pageLine s 0xA0 0x000C
    | 206 => pageLine s 0xA1 0x8003
    | 207 => pageLine s 0xA1 0x000C
    | 208 => pageLine s 0xA2 0x8001
    | 209 => pageLine s 0xA2 0x0002
    | 212 => pageLine s 0x90 0x0003
    | 213 => pageLine s 0x90 0x0004
    | 214 => pageLine s 0x90 0x0018
    | 215 => pageLine s 0x90 0x8000
    | 216 => pageLine s 0xB0 0x0001
    | 217 => pageLine s 0xB0 0x0002
    | 218 => pageLine s 0xB0 0x8000
    | _ => false
  else if n < 236 then
    let g := n - 220
    regLine s 0x78 (MMT_EVT.EVT (g / 2)) (MMT_EN.EN (g / 2)) (0xFFFF <<< (16 * (g % 2)))
  else if n < 248 then
    match n with
    | 236 => pageLine s 0x78 0x8000
    | 240 => pageLine s 0x0C 0x0003
    | 241 => pageLine s 0x0C 0x8004
    | 247 => gateOpen s 0x00 && (s.flag HIVE_KSESS_EVT.OPENED || s.flag HIVE_KSESS_EVT.CLOSED
        || s.flag HIVE_KSESS_EVT.FAILED || s.flag HIVE_KSESS_EVT.LOCKOUT)
    | _ => false
  else regLine s (0x88 + (n - 248)) (CHG_IMP_EVT.EVT (n - 248)) (CHG_IMP_EVT.EN (n - 248)) 0x3F

/-! ### Priority and owners (R404 to R407) -/

/-- The entries on the stack of target `t`. -/
def stackDepth (s : State) (t : Nat) : Nat := s.get (INTC_T_STAT.DEPTH t)

/-- The running priority of target `t` (R405). -/
def runPrio (s : State) (t : Nat) : Nat := if stackDepth s t = 0 then 0 else s.get (Intc.STKPRI t (stackDepth s t - 1))

/-- Source `n` is presentable to target `t` (R404, R405). -/
def presentable (s : State) (n t : Nat) : Bool :=
  s.flag (INTC_SRC_CFG.PEND n) && !s.flag (INTC_SRC_CFG.ACTIVE n) && s.bit (INTC_SRC_CFG.TGT n) t
    && decide (max (runPrio s t) (s.get (INTC_T_CTL.THRESH t)) < s.get (INTC_SRC_CFG.PRIO n))

/-- The owner of source `n`: the first target from NEXT to which it is presentable (R406). -/
def owner (s : State) (n : Nat) : Option Nat :=
  ((List.range 4).map (fun j => (s.get (INTC_SRC_CFG.NEXT n) + j) % 4)).find? (presentable s n)

/-- The candidate of target `t`: the highest PRIO among the sources it owns, the lowest number among equals (R407). -/
def candidate (s : State) (t : Nat) : Option Nat :=
  ((List.range 256).filter (fun n => s.flag (INTC_SRC_CFG.PEND n) && owner s n == some t)).foldl (fun m n =>
    match m with
    | none => some n
    | some k => if s.get (INTC_SRC_CFG.PRIO k) < s.get (INTC_SRC_CFG.PRIO n) then some n else some k) none

/-- INTt_N is driven low while target t has a candidate; all are released in reset, in START-UP until step 2 and in
hive-sleep (R407, R416). -/
def intcReview (s : State) : State :=
  s.put Pin.INTN (if served s then
    (List.range 4).foldl (fun m t => m + (if (candidate s t).isSome then 1 <<< t else 0)) 0 else 0)

/-! ### Sensing (R402, R403, R411) -/

/-- The controller registers the level of a line (R402) (DEDUCED, log entry 47). -/
def registerLine (s : State) (n : Nat) (v : Bool) : State :=
  let s1 := s.putB (Intc.LINE n) v
  if n < 16 then s
  else if s.get (INTC_SRC_CFG.SENSE n) = 0 then
    s1.on (v && !s.flag (Intc.LINE n)) (·.put (INTC_SRC_CFG.PEND n) 1)
  else s1.on (!s.flag (INTC_SRC_CFG.ACTIVE n)) (·.putB (INTC_SRC_CFG.PEND n) (v || s.flag (Intc.LATCH n)))

/-- The controller registers lines: the hive runs and no reset is held (R27, R416, R417). -/
def intcRuns (s : State) : Bool := !s.flag Boot.HELD && s.get Sleep.STATE != 2 && !s.flag (Clk.LOST 73)

/-- A change of a source line is registered (R402, R411). -/
def execLineChange (src : Fin 256) (s : State) : Out :=
  .next (if intcRuns s then intcReview (registerLine s src (srcLine s src)) else s)

/-- The write of `INTC_PEND_SETj` (R403). -/
def pendSetWrite (s : State) (j w : Nat) : Res :=
  (intcReview (s.each (bitsOf 32 w) (fun s i =>
    (s.put (INTC_SRC_CFG.PEND (32 * j + i)) 1).put (Intc.LATCH (32 * j + i)) 1)), 0)

/-- A write of `INTC_PEND_SETj` latches pending bits (R403). -/
def execPendSet (a : Access) (j : Fin 8) (w : BitVec 32) (s : State) : Out :=
  .next (regOp s a (fun s _ => pendSetWrite s j w.toNat))

/-- The write of `INTC_PEND_CLRj`: a level source whose line is high and which is not active is set again (R403). -/
def pendClrWrite (s : State) (j w : Nat) : Res :=
  (intcReview (s.each (bitsOf 32 w) (fun s i =>
    let n := 32 * j + i
    (s.put (Intc.LATCH n) 0).putB (INTC_SRC_CFG.PEND n) (s.flag (INTC_SRC_CFG.SENSE n) && s.flag (Intc.LINE n)
      && !s.flag (INTC_SRC_CFG.ACTIVE n)))), 0)

/-- A write of `INTC_PEND_CLRj` clears latched pending bits (R403). -/
def execPendClr (a : Access) (j : Fin 8) (w : BitVec 32) (s : State) : Out :=
  .next (regOp s a (fun s _ => pendClrWrite s j w.toNat))

/-! ### Claim and completion (R408 to R410) -/

/-- The state after target `t` claims source `n`. -/
def claimSource (s : State) (t n : Nat) : State :=
  let d := stackDepth s t
  let s1 := ((s.put (INTC_SRC_CFG.PEND n) 0).put (Intc.LATCH n) 0).put (INTC_SRC_CFG.ACTIVE n) 1
  let s2 := ((s1.put (Intc.STKSRC t d) n).put (Intc.STKPRI t d) (s.get (INTC_SRC_CFG.PRIO n))).put
    (INTC_T_STAT.DEPTH t) (d + 1)
  (s2.put (INTC_SRC_CFG.NEXT n) (t + 1)).inc (INTC_T_CNT.CLAIMS t)

/-- The claim that a read of `INTC_Tt_CLAIM` performs: the state, and the value returned (R408). -/
def claimRead (s : State) (t : Nat) : State × Nat :=
  match candidate s t with
  | none => (s.inc (INTC_T_CNT.SPURIOUS t), 0)
  | some n => (intcReview (claimSource s t n), 0x100 + n + s.get (INTC_SRC_CFG.PRIO n) * 0x10000)

/-- The end of interrupt of source `n` by target `t` (R409). -/
def endInterrupt (s : State) (t n : Nat) : State :=
  let d := stackDepth s t
  if d = 0 then raiseEvent s 0x08 1
  else if s.get (Intc.STKSRC t (d - 1)) ≠ n then raiseEvent s 0x08 0
  else
    let s1 := ((s.put (INTC_T_STAT.DEPTH t) (d - 1)).put (INTC_SRC_CFG.ACTIVE n) 0)
    intcReview (s1.on (s.flag (INTC_SRC_CFG.SENSE n)) (·.putB (INTC_SRC_CFG.PEND n)
      (s.flag (Intc.LINE n) || s.flag (Intc.LATCH n))))

/-- A write of `INTC_Tt_EOI` (R409). -/
def execEndOfInterrupt (a : Access) (t : Fin 4) (w : BitVec 32) (s : State) : Out :=
  .next (regOp s a (fun s _ => (endInterrupt s t (w.toNat % 256), 0)))

/-- A source has been active without completion for ACT_MAX (R415). -/
def execActiveLong (src : Fin 256) (s : State) : Out :=
  .next (if s.flag (INTC_SRC_CFG.ACTIVE src) && s.get INTC_CTL.ACT_MAX != 0 then raiseEvent s 0x08 2 else s)

/-! ### Configuration (R402, R412, R417, R419) -/

/-- The write of `INTC_SRC_CFG`: SENSE of a doorbell cannot be changed; a source made level follows its line unless it
is active (R402, R410) (DEDUCED, log entry 47). -/
def srcCfgWrite (s : State) (k : Bool) (n w : Nat) : Res :=
  specialWrite s k 0x08 (0x400 + 4 * n) w false (fun s w' =>
    let s1 := storeFields s w' (regLayout 0x08 (0x400 + 4 * n))
    let s2 := s1.on (decide (n < 16)) (·.put (INTC_SRC_CFG.SENSE n) 0)
    intcReview (s2.on (s2.flag (INTC_SRC_CFG.SENSE n) && !s.flag (INTC_SRC_CFG.SENSE n) && !s.flag (INTC_SRC_CFG.ACTIVE n))
      (·.putB (INTC_SRC_CFG.PEND n) (s.flag (Intc.LINE n) || s.flag (Intc.LATCH n)))))

/-- The write of another register of the page (R412, R419). -/
def intcPlainWrite (s : State) (k : Bool) (off w : Nat) : Res :=
  let r := plainWrite s k 0x08 off w
  (intcReview r.1, r.2)

/-- A read of a register of page 0x08 that shows what the controller finds (R419). -/
def intcView (s : State) (off : Nat) : Option Nat :=
  let bits := fun (f : Nat → Fld) (j : Nat) => (List.range 32).foldl (fun m i => m + s.get (f (32 * j + i)) <<< i) 0
  if 0x040 ≤ off ∧ off < 0x060 then some (bits INTC_SRC_CFG.PEND ((off - 0x040) / 4))
  else if 0x0A0 ≤ off ∧ off < 0x0C0 then some (bits INTC_SRC_CFG.ACTIVE ((off - 0x0A0) / 4))
  else if 0x100 ≤ off ∧ off < 0x180 then
    let t := (off - 0x100) / 0x20
    match (off - 0x100) % 0x20 with
    | 0x0C =>
      let d := stackDepth s t
      some ((match candidate s t with
        | none => 0
        | some n => 0x80000000 + n * 0x10000) + d * 0x100 + runPrio s t)
    | 0x10 =>
      let e := s.get (INTC_T_CTL.STK_SEL t)
      some (if e < stackDepth s t then
        0x80000000 + s.get (Intc.STKPRI t e) * 0x10000 + s.get (Intc.STKSRC t e) else 0)
    | _ => none
  else none

/-- The family of internal fields that a key belongs to. -/
def keyFam (key : Nat) : Nat := key / 0x10000

/-- The controller's registers, lines, latches and stacks at their reset values. -/
def intcClear (s : State) : State := s.keepKeys (fun key =>
  !(0x08040 ≤ key && key < 0x09000) && !(keyFam (Intc.LINE 0).key ≤ keyFam key && keyFam key ≤ keyFam (Intc.STKPRI 0 0).key))

/-- The controller samples every line (R417). -/
def intcSample (s : State) : State :=
  intcReview (s.each ((List.range 256).filter (fun n => 16 ≤ n)) (fun s n => registerLine s n (srcLine s n)))

/-- At step 5 of the wake the controller is restored and samples every line; a saved word found uncorrectable leaves
it at its reset values with RESTORE_LOST (R417). -/
def intcWake (s : State) (lost : Bool) : State :=
  intcSample (s.on lost (fun s => raiseEvent (intcClear s) 0x08 3))

end Sys2Proof.Machine
end

