-- ==== Sys2Proof/Machine/Reset.lean ====
section
/-! DEFINITION. Reset triggers: what the trigger of a reset does at once, and what each reset kind clears and keeps
(R59, R60, R62, R63, R74, R395). -/

namespace Sys2Proof.Machine

/-- Internal fields that every reset keeps: the supplies and pins outside the reset's reach, the references, the
records of the MRAM event log and the watchdog's failed cycle (R62, R376, R431). -/
def keptAlways : List Fld :=
  [Ths.RECS 0, Ths.SHUTT 0, Log.NEXT, Dev.FREE, Pin.KEEPER_EN, Err.EXT, Pwr.PREREG, Pwr.IDEAL, Pwr.IO_VDDIO, Boot.HELD, Boot.POR,
    Boot.TRIGS, Clk.REF_VALID 0, Wdg.RPEND, Wdg.RCAUSE, Wdg.RSLOT, Wdg.RSEQ, Wdg.RTIME, Wdg.RCOUNT, Wdg.RMISS, Wdg.RDUP,
    Wdg.RX]

/-- Internal fields that a warm reset keeps besides: time since power-on, the lockout, RST_N's assertion, what the
always-on domain records, and the port islands (R62, R63, R93, R394, R395). -/
def keptWarm : List Fld :=
  [Dev.TIME, Ses.LOCK_T, Pin.RST_LOW, Pin.RST_USED, Pin.RST_COUNTED, Boot.REC_HIVE, Boot.REC_VDDC, Port.I 0,
    Port.VS 0, Port.OFFSEEN 0, Port.CMD 0, Port.PCG 0, Port.PCG_OVER 0, Port.PCG_DONE 0, Port.FT 0, Port.PG_RUN 0,
    Port.PULLED 0, Port.OFF_CMD 0, Port.REV_OPEN 0, Port.EN_PEND 0, Port.DT 0 0, Port.PAR 0 0, Port.PAR_OK 0, Port.STALE 0 0,
    Port.AMB 0, Port.DIODE_T 0, Port.DIODE_OK 0, Port.TRANS 0, Port.FALL 0, Port.SHORT_PEND 0, Port.ENH 0,
    Port.BUSV 0]

/-- A register that a warm reset keeps: the shutdown levels and their locks, the fault log's position, the attempt
counts, and the block registers of the source, battery and feeder ports but their counters (R62, R63, R394). -/
def keptRegister (key : Nat) : Bool :=
  let p := key / 0x1000
  let off := key % 0x1000
  (p == 0x80 && 0x100 ≤ off && off < 0x7E0 && (off - 0x100) % 0x14 == 8)
    || key == 0x00080 || key == 0x00084 || key == 0x0006C
    || (0x30 ≤ p && p < 0x60 && portKind (p - 0x30) != 4 && 0x040 ≤ off && off != 0x078
      && off != 0x07C)

/-- The fields that a reset keeps; `por` marks a power-on reset. -/
def keptKey (por : Bool) (key : Nat) : Bool :=
  if key < 0x1000000 then !por && keptRegister key
  else keptAlways.any (fun f => keyFam f.key == keyFam key) || (!por && keptWarm.any (fun f => keyFam f.key == keyFam key))

/-- Registers, internal fields, windows, holders and queues as a reset leaves them (R62, R74, R81, R395)
(DESIGN CHOICE, log entry 9). -/
def resetClear (s : State) (por : Bool) : State :=
  let s1 := (s.keepKeys (keptKey por)).clearMem 0x200000 (if por then 0x600000 else 0x500000)
  let s2 := { s1 with
    readHold := State.reset.readHold, writeHold := State.reset.writeHold, codeHold := State.reset.codeHold,
    slots := State.reset.slots, exec := State.reset.exec, coming := State.reset.coming, window := State.reset.window, antq := State.reset.antq,
    rx := State.reset.rx, txBuf := State.reset.txBuf, txMsg := State.reset.txMsg, staged := State.reset.staged,
    jobs := State.reset.jobs, canq := State.reset.canq }
  if por then s2 else lockLevels ((s2.put HIVE_KSESS_STAT.OPEN 0).put HIVE_KSESS_STAT.PIN 0)

/-- A warm reset first copies every `PAGE_FLT_STAT` to retention SRAM (R74, R395). -/
def saveFaults (s : State) : State := s.each allocatedPages (fun s p => s.setRetWord (0x100 + 4 * p) (fltStat s p))

/-- A PD port at a warm reset: its VBUS switch opens and VBUS is discharged, with Rd on CC; an absent one, which is off,
stays off (R53, R62). At a power-on reset every field of it is at its reset value: off, with Rd on CC. -/
def resetPd (s : State) (c : Nat) : State :=
  let s1 := ((s.put (Pd.DIS c) 1).put (Pd.RD c) 1).put (PORT_PD_STAT.STATE c) 4
  s1.put (PDP_STAT.CC_STATE c) 0

/-- The internal reset is held by a first trigger of a kind's CAUSE code (R59, R60, R62). -/
def resetBegin (s : State) (code : Nat) : State :=
  let por := code == 1
  let s1 := resetClear (s.on (!por) saveFaults) por
  let s2 := (((s1.put Boot.HELD 1).putB Boot.POR por).put Boot.TRIGS (1 <<< (code - 1)))
  let open4 := (List.range 4).filter (fun c => !por && !absent s (pdPage c) && !absent s (0x60 + c))
  (s2.on (s2.flag Pin.RST_LOW) (·.put Pin.RST_USED 1)).each open4 resetPd

/-- A reset trigger is registered. While the internal reset is held it coincides with the first (R60); a power-on
reset clears what a warm one kept (DEDUCED, log entry 13). -/
def triggerReset (s : State) (code : Nat) : State :=
  if s.flag Boot.HELD then
    let s1 := s.orF Boot.TRIGS (1 <<< (code - 1))
    s1.on (code == 1) (fun s => (resetClear s true).put Boot.POR 1)
  else resetBegin s code

end Sys2Proof.Machine
end

