-- ==== Sys2Proof/Machine/Watchdog.lean ====
section
/-! DEFINITION. The watchdog (chapter 18): cycles and windows, keys and slots, the judgement at the close, the records
and the monitors of its clocks. -/

namespace Sys2Proof.Machine

/-! ### Check-ins (R426, R432) -/

/-- One bit of a write of `WDG_CHECKIN` (R426, R432). -/
def hostCheckin (s : State) (n : Nat) : State :=
  if s.flag WDG_STAT.SVC_BY_HW || !s.bit Wdg.EN n || codeInternal (slotCode s n) then s.inc WDG_CNT.STRAY
  else checkSlot s n

/-- A write of `WDG_CHECKIN` (R426). -/
def execCheckin (a : Access) (w : BitVec 32) (s : State) : Out :=
  .next (regOp s a (fun s _ => (s.each (bitsOf 16 w.toNat) hostCheckin, 0)))

/-- The source of an internal code runs: the hive sequencer with the hive, a charge engine where it evaluates (R27, R230,
R426, R432). -/
def sourceRuns (s : State) (code : Nat) : Bool :=
  if code < 3 then !s.flag (Clk.LOST 73) && s.get Sleep.STATE != 2 else 10 < code || evaluates s (code - 3)

/-- An internal source that runs completes its condition (R426). -/
def execInternalCheckin (code : BitVec 8) (s : State) : Out :=
  let c := code.toNat
  .next (if s.flag Boot.HELD || !sourceRuns s c then s else internalCheckin s c)

/-! ### Keys (R424, R425) -/

/-- The expected key (R424). -/
def expectedKey (s : State) : Nat :=
  if s.flag WDG_STAT.ARMED then 0x4E1A ^^^ (s.get WDG_SEQ.SEQ % 256) else 0xB1E5

/-- A completed key pair is judged (R425). -/
def judgePair (s : State) : State :=
  if s.get WDG_TICK.TICK < wdgOpen s then wdgFail s 1 0xFF
  else if s.flag WDG_STAT.SERVED then wdgFail s 1 0xFF
  else if !(slotsMissing s).isEmpty then s.inc WDG_CNT.KEYS_IGNORED
  else wdgServed s

/-- The write of `WDG_SVC` (R424, R432). -/
def svcWrite (s : State) (w : Nat) : Res :=
  if s.flag WDG_STAT.SVC_BY_HW then (s.inc WDG_CNT.KEYS_IGNORED, 0)
  else if w = expectedKey s then
    (if s.flag WDG_STAT.ARMED then judgePair (s.put WDG_STAT.ARMED 0) else s.put WDG_STAT.ARMED 1, 0)
  else (wdgFail (s.put WDG_STAT.ARMED 0) 5 0xFF, 0)

/-- A write of the first key to `WDG_SVC` (R424). -/
def execFirstKey (a : Access) (s : State) : Out := .next (regOp s a (fun s _ => svcWrite s 0xB1E5))

/-- A write of the second key to `WDG_SVC` (R424, R425). -/
def execKeyPair (a : Access) (w : BitVec 32) (s : State) : Out := .next (regOp s a (fun s _ => svcWrite s w.toNat))

/-- A write of another value to `WDG_SVC` (R424). -/
def execBadKey (a : Access) (w : BitVec 32) (s : State) : Out := .next (regOp s a (fun s _ => svcWrite s w.toNat))

/-! ### Cycles (R422, R428, R429, R432) -/

/-- The early warning tick of a window (R429). -/
def ewTick (o c : Nat) : Nat := o + 3 * (c - o) / 4

/-- The host record of the booted image takes over (R432). -/
def hostRecordIn (s : State) : State :=
  let s1 := ((s.put Wdg.HOSTNEXT 0).put WDG_STAT.SVC_BY_HW 0).put WDG_CFG.CLKSEL (s.get Wdg.HCLK)
  let s2 := (s1.put WDG_WIN.OPEN (s.get Wdg.HWIN)).put WDG_WIN.CLOSE (s.get Wdg.HWIN / 65536)
  ((s2.put WDG_SLOT_EN.EN (s.get Wdg.HEN)).put WDG_SLOT_MAP0.MAP (s.get Wdg.HMAP)).put WDG_SLOT_MAP1.MAP
    (s.get Wdg.HMAP / 4294967296)

/-- The window, clock, enables and maps of the coming cycle (R420, R422, R426, R432) (DEDUCED, log entry 62). -/
def cycleTake (s : State) : State :=
  let s := s.put WDG_STAT.CLK_INUSE (s.get WDG_CFG.CLKSEL)
  if s.flag WDG_STAT.SVC_BY_HW then
    ((s.put Wdg.OPEN 200).put Wdg.CLOSE 999).put Wdg.EN (if inSafeBoot s then 0xF000 else 0x1000)
  else
    let s1 := (s.put Wdg.OPEN (s.get WDG_WIN.OPEN)).put Wdg.CLOSE (s.get WDG_WIN.CLOSE)
    (s1.put Wdg.EN (s.get WDG_SLOT_EN.EN)).put Wdg.MAP (s.get WDG_SLOT_MAP0.MAP + s.get WDG_SLOT_MAP1.MAP * 4294967296)

/-- A cycle starts; in hive-sleep a slot whose internal source is stopped counts as checked in (R422, R432). -/
def cycleStart (s : State) : State :=
  let s1 := cycleTake (s.on (s.flag Wdg.HOSTNEXT) hostRecordIn)
  let asleep := s1.get Sleep.STATE == 2
  let mask := (bitsOf 16 (s1.get Wdg.EN)).foldl (fun m n =>
    if asleep && codeInternal (slotCode s1 n) then m + 1 <<< n else m) 0
  let s2 := (((s1.wrapInc WDG_SEQ.SEQ).put WDG_TICK.TICK 0).put WDG_STAT.CHECKED mask).put WDG_STAT.SERVED 0
  (((s2.put WDG_STAT.ARMED 0).put WDG_STAT.FAILED 0).put WDG_STAT.EW 0).put WDG_TICK.EW
    (ewTick (wdgOpen s2) (s2.get Wdg.CLOSE))

/-- A watchdog reset is triggered: the count and the attempt counter of the booted slot advance, and what step 3 needs
of the failed cycle is kept (R67, R428, R431) (DEDUCED, log entry 57). Before step 3 of START-UP no slot has booted, and
no attempt counter advances: the spec does not say which would (DESIGN CHOICE, log entry 57). -/
def watchdogReset (s : State) : State :=
  let n := min (s.retWord 0 + 1) 0xFFFFFFFF
  let s1 := s.setRetWord 0 n
  let slot := s.get HIVE_BOOT_STAT.IMG
  let att := slice (s.retWord 4) (4 * slot) 4
  let s2 := s1.on (!s.flag Boot.STABLE && 3 ≤ s.get Boot.STEP && !s.flag HIVE_BOOT_STAT.NOIMG) (fun s =>
    s.setRetWord 4 (andNot (s.retWord 4) (15 <<< (4 * slot)) ||| (min 15 (att + 1) <<< (4 * slot))))
  let s3 := (((s2.put Wdg.RPEND 1).put Wdg.RCAUSE (s.get Wdg.FCAUSE)).put Wdg.RSLOT (s.get Wdg.FSLOT)).put Wdg.RSEQ
    (s.get WDG_SEQ.SEQ)
  triggerReset ((s3.put Wdg.RTIME (s.get Dev.TIME)).put Wdg.RCOUNT n) 4

/-- A served cycle counts towards stable service in FULL and SAFE-BOOT (R67, R74). -/
def stableCount (s : State) : State :=
  if inFull s || inSafeBoot s then
    let ms := min 60000 (s.get Boot.STABLEMS + s.get Wdg.CLOSE + 1)
    (s.put Boot.STABLEMS ms).setRetWord 0x00C (ms / 1000)
  else s

/-- The close of a cycle (R422, R428). -/
def windowClose (s : State) : State :=
  let l := slotsMissing s
  let s1 := if l.isEmpty then (if s.flag WDG_STAT.SERVED then s else wdgFail s 2 0xFF)
    else s.each l (fun s n => wdgFail s 3 n)
  if s1.flag WDG_STAT.FAILED then watchdogReset s1 else cycleStart (stableCount s1)

/-- The end of tick CLOSE (R428). -/
def execWindowClose (s : State) : Out :=
  .next (if !s.flag Boot.HELD && s.get WDG_TICK.TICK == s.get Wdg.CLOSE then windowClose s else s)

/-- Tick EW begins with SERVED 0: the early warning, which is a wake source in hive-sleep (R77, R429). -/
def execEarlyWarning (s : State) : Out :=
  .next (if !s.flag Boot.HELD && s.get WDG_TICK.TICK == s.get WDG_TICK.EW && !s.flag WDG_STAT.SERVED
      && !s.flag WDG_STAT.EW then
      wakeFires ((s.put WDG_STAT.EW 1).evt 0x09 0) 2
    else s)

/-- One tick of the watchdog: it counts to CLOSE, whose end is WINDOW_CLOSE (R420, R422). -/
def wdgTick (s : State) : State :=
  if s.flag Boot.HELD then s
  else hwServe (s.put WDG_TICK.TICK (min (s.get WDG_TICK.TICK + 1) (s.get Wdg.CLOSE)))

/-! ### Clocks (R421) -/

/-- The monitor finds the clock in use stopped: a CLK_STOP failure and the reset at once; the watchdog starts again on
the monitoring source (R421). -/
def execClkStop (s : State) : Out :=
  .next (if s.flag Boot.HELD || s.flag WDG_STAT.MON_OTHER then s
    else
      let other := 1 - s.get WDG_STAT.CLK_INUSE
      ((watchdogReset (wdgFail s 6 0xFF)).put WDG_CFG.CLKSEL other).put WDG_STAT.CLK_INUSE other)

/-- The monitor finds the other clock stopped: MON_OTHER and CLK_MON (R421). -/
def execClkMon (s : State) : Out :=
  .next (if s.flag Boot.HELD || s.flag WDG_STAT.MON_OTHER then s
    else raiseHeld (s.put WDG_STAT.MON_OTHER 1) 0x09 0)

/-- The other source has run for 4 ms without a gap (R421). -/
def execMonOtherClear (s : State) : Out :=
  .next (if s.flag WDG_STAT.MON_OTHER then causeEnds (s.put WDG_STAT.MON_OTHER 0) 0x09 0 else s)

end Sys2Proof.Machine
end

