-- ==== Sys2Proof/Machine/Session.lean ====
section
/-! DEFINITION. Keeper sessions (R92 to R95): pin and code sessions, attempts and the lockout. -/

namespace Sys2Proof.Machine

/-- `HIVE_KSESS_STAT.OPEN` and PIN show the sessions that are open (R92, R95). -/
def sessionShow (s : State) : State :=
  let bit := fun (i : Nat) => bitOf (s.flag (Ses.CODE i) || (i == 0 && s.flag Ses.PIN)) <<< i
  (s.put HIVE_KSESS_STAT.OPEN (bit 0 + bit 1 + bit 2 + bit 3)).put HIVE_KSESS_STAT.PIN (s.get Ses.PIN)

/-- The pin session opens (R92). -/
def pinOpen (s : State) : State :=
  if s.flag Ses.PIN then s else sessionShow ((s.put Ses.PIN 1).put HIVE_KSESS_EVT.OPENED 1)

/-- KEEPER_EN rises (R92). -/
def execPinSessionOpen (s : State) : Out :=
  let s1 := s.put Pin.KEEPER_EN 1
  .next (if served s then pinOpen s1 else s1)

/-- KEEPER_EN falls (R92). -/
def execPinSessionClose (s : State) : Out :=
  let s1 := s.put Pin.KEEPER_EN 0
  .next (if s.flag Ses.PIN then sessionShow ((s1.put Ses.PIN 0).put HIVE_KSESS_EVT.CLOSED 1) else s1)

/-- The write of `HIVE_KSESS_CODE_LO` fills the path's holder (R92). -/
def codeLoWrite (s : State) (p : Fin 4) (w : BitVec 32) : State := { s with codeHold := s.codeHold.set p (some w) }

/-- A write of `HIVE_KSESS_CODE_LO` (R92). -/
def execKsessCodeLo (a : Access) (w : BitVec 32) (s : State) : Out :=
  .next (regOp s a (fun s _ => (codeLoWrite s (pathNum a.path) w, 0)))

/-- A failed attempt; the third in a row starts the lockout of 60 s (R93, R95). -/
def attemptFails (s : State) : State :=
  let s1 := (s.inc HIVE_KSESS_STAT.TOTAL_FAILS).put HIVE_KSESS_EVT.FAILED 1
  if s.get HIVE_KSESS_STAT.FAILS < 2 then s1.put HIVE_KSESS_STAT.FAILS (s.get HIVE_KSESS_STAT.FAILS + 1)
  else
    let s2 := ((s1.put HIVE_KSESS_STAT.FAILS 0).put HIVE_KSESS_STAT.LOCKOUT 1).put HIVE_KSESS_EVT.LOCKOUT 1
    raiseEvent ((s2.put Ses.LOCK_T 60000).put HIVE_KSESS_STAT.LOCK_REM 60) 0x00 1

/-- A code session opens on a path; the Swarm path's is bound to the node that opened it (R92, R93). Where the Swarm
path's is open already, a successful attempt of another node binds it to that node, with no CLOSED or OPENED event: the
spec does not say what becomes of the first (DESIGN CHOICE, log entry 27). -/
def codeOpens (s : State) (p : Fin 4) (node : BitVec 16) : State :=
  let s1 := s.on (!s.flag (Ses.CODE p)) (·.put HIVE_KSESS_EVT.OPENED 1)
  let s2 := (((s1.put (Ses.CODE p) 1).put (Ses.IDLE_T p) 0).put HIVE_KSESS_STAT.FAILS 0)
  sessionShow (s2.on (p.val == 3) (·.put Ses.NODE node.toNat))

/-- The write of `HIVE_KSESS_CODE_HI` is the attempt: it uses and clears the path's holder (R92, R93)
(DEDUCED, log entry 27). -/
def attempt (s : State) (p : Fin 4) (node : BitVec 16) (w : BitVec 32) : State :=
  let s1 := { s with codeHold := s.codeHold.set p none }
  if s.flag HIVE_KSESS_STAT.LOCKOUT then s1
  else match s.codeHold[p] with
  | none => attemptFails s1
  | some lo =>
    if s.get Ses.IMGCODE ≠ 0 ∧ lo.toNat + w.toNat * 4294967296 = s.get Ses.IMGCODE then codeOpens s1 p node
    else attemptFails s1

/-- A write of `HIVE_KSESS_CODE_HI` (R92). -/
def execAttempt (a : Access) (w : BitVec 32) (s : State) : Out :=
  .next (regOp s a (fun s _ => (attempt s (pathNum a.path) a.node w, 0)))

/-- The lockout ends: FAILS returns to 0 (R93) (DEDUCED, log entry 27). -/
def execLockoutEnd (s : State) : Out :=
  .next (if s.flag HIVE_KSESS_STAT.LOCKOUT then
      (((s.put HIVE_KSESS_STAT.LOCKOUT 0).put HIVE_KSESS_STAT.LOCK_REM 0).put HIVE_KSESS_STAT.FAILS 0).put Ses.LOCK_T 0
    else s)

/-- The code session of a path closes (R94, R95). -/
def codeCloses (s : State) (p : Nat) : State :=
  if s.flag (Ses.CODE p) then sessionShow ((s.put (Ses.CODE p) 0).put HIVE_KSESS_EVT.CLOSED 1) else s

/-- The write of `HIVE_KSESS_CTL`: CLOSE closes the code session of the writing path, and a new IDLE applies to every
code session at once (R94). -/
def ksessCtlWrite (s : State) (k : Bool) (p : Fin 4) (w : Nat) : Res :=
  specialWrite s k 0x00 0x068 w false (fun s w' =>
    let s1 := storeFields s w' (regLayout 0x00 0x068)
    let s2 := s1.on (fieldOf w' HIVE_KSESS_CTL.CLOSE == 1) (fun s => codeCloses s p)
    let idle := s2.get HIVE_KSESS_CTL.IDLE
    s2.on (idle != 0 && idle != s.get HIVE_KSESS_CTL.IDLE) (fun s =>
      s.each ((List.range 4).filter (fun q => 1000 * idle ≤ s.get (Ses.IDLE_T q))) codeCloses))

/-- A write of `HIVE_KSESS_CTL` (R94). -/
def execSessionClose (a : Access) (w : BitVec 32) (s : State) : Out :=
  .next (regOp s a (fun s k => ksessCtlWrite s k (pathNum a.path) w.toNat))

/-- A path has had no Keeper-view access for IDLE seconds (R94). -/
def execSessionIdleClose (path : Path) (s : State) : Out :=
  .next (if s.get HIVE_KSESS_CTL.IDLE != 0 then codeCloses s (pathNum path) else s)

end Sys2Proof.Machine
end

