-- ==== Sys2Proof/Machine/Swarm.lean ====
section
/-! DEFINITION. The Swarm link (chapter 19): link state, frames and their forwarding, segment discovery, queen and heir,
swarm time, and current sharing. Ports are 0 east and 1 west. -/

namespace Sys2Proof.Machine

/-! ### Ports and addresses (R437, R438) -/

/-- UP, LOCK, PARTNER, MODE and the route range of a port. -/
def swUp (w : Nat) : Fld := if w = 0 then SW_PORT_E.UP else SW_PORT_W.UP
def swLock (w : Nat) : Fld := if w = 0 then SW_PORT_E.LOCK else SW_PORT_W.LOCK
def swPartner (w : Nat) : Fld := if w = 0 then SW_PORT_E.PARTNER else SW_PORT_W.PARTNER
def swMode (w : Nat) : Fld := if w = 0 then SW_PORT_E.MODE else SW_PORT_W.MODE
def swRouteLo (w : Nat) : Fld := if w = 0 then SW_PORT_E.ROUTE_LO else SW_PORT_W.ROUTE_LO
def swRouteHi (w : Nat) : Fld := if w = 0 then SW_PORT_E.ROUTE_HI else SW_PORT_W.ROUTE_HI
def swPeer (w : Nat) : Fld := if w = 0 then SW_LINK_E.PEER else SW_LINK_W.PEER
def swDelay (w : Nat) : Fld := if w = 0 then SW_LINK_E.DELAY else SW_LINK_W.DELAY

/-- A port runs: from step 2 of START-UP, outside hive-sleep, with EN set, MODE not off, its clock present and its
balls wired (R53, R437, R456). -/
def swOn (s : State) (w : Nat) : Bool :=
  served s && s.flag SW_CTL.EN && decide (s.get (swMode w) < 2) && !absent s 0x98 && !s.flag (Clk.LOST (74 + w))

/-- The port carries frames of the segment: it runs, is up and is not a gateway. -/
def swLocal (s : State) (w : Nat) : Bool := swOn s w && s.flag (swUp w) && s.get (swMode w) == 0

/-- The port is a gateway whose range covers a segment (R442). -/
def swGateway (s : State) (w seg : Nat) : Bool :=
  swOn s w && s.flag (swUp w) && s.get (swMode w) == 1 && decide (s.get (swRouteLo w) ≤ seg)
    && decide (seg ≤ s.get (swRouteHi w))

/-- The node in force, and the address (R438). -/
def ownNode (s : State) : Nat := s.get SW_ADDR.NODE_ACT
def ownAddr (s : State) : Nat := s.get SW_ADDR.SEG * 64 + ownNode s

/-- The frame comes from this device's own address. -/
def isOwn (s : State) (addr : BitVec 16) : Bool := s.flag SW_ADDR.VALID && addr.toNat == ownAddr s

/-- A node of the segment is reachable (R443). -/
def swReach (s : State) (n : Nat) : Bool := s.get (Sw.HOP 0 n) != 0 || s.get (Sw.HOP 1 n) != 0

/-- Hops plus 1 to a node through a port that is up; 0 where there is no way. -/
def hopsBy (s : State) (w n : Nat) : Nat := if swLocal s w then s.get (Sw.HOP w n) else 0

/-! ### Sending (R439 to R442) -/

/-- A payload as a frame carries it: a frame has at least 16 bytes, so a shorter payload is followed by zero bytes
(R439, log entry 23). -/
def padded (payload : List (BitVec 8)) : List (BitVec 8) := payload ++ List.replicate (4 - payload.length) 0

/-- The bytes of a frame before its CRC (R439) (DESIGN CHOICE, log entry 23). -/
def frameBytes (ty : Nat) (keeper bcast : Bool) (dst src ttl seq : Nat) (payload : List (BitVec 8)) : List (BitVec 8) :=
  BitVec.ofNat 8 (ty * 16 + 8 * bitOf keeper + 4 * bitOf bcast) :: BitVec.ofNat 8 ((padded payload).length + 12)
    :: (beBytes 2 dst ++ beBytes 2 src ++ [BitVec.ofNat 8 ttl, BitVec.ofNat 8 seq] ++ padded payload)

/-- Send a frame on a port with its CRC, or with the inverted CRC. -/
def sendBytes (s : State) (w : Nat) (bytes : List (BitVec 8)) (bad : Bool) : State :=
  s.send (.swarm w (bytes ++ beBytes 4 (if bad then crc32 bytes ^^^ 0xFFFFFFFF else crc32 bytes)))

/-- The ports on which a unicast leaves (R441, R442). `from` is the port on which it arrived, 2 for an originated one.
For another segment whose gateway is not a port of this node, it goes on along the chain. -/
def swRoutes (s : State) (arrived dst : Nat) : List Nat :=
  let seg := dst / 64
  if seg = s.get SW_ADDR.SEG then
    let e := hopsBy s 0 (dst % 64)
    let w := hopsBy s 1 (dst % 64)
    if e = 0 ∧ w = 0 then [] else if w = 0 then [0] else if e = 0 then [1] else if e ≤ w then [0] else [1]
  else
    match [0, 1].find? (fun w => w != arrived && swGateway s w seg) with
    | some w => [w]
    | none => [0, 1].filter (fun w => w != arrived && swLocal s w)

/-- A unicast with no known way is counted and discarded (R441). -/
def noRoute (s : State) : State := raiseEvent (s.inc SW_CNT1.NO_ROUTE) 0x98 5

/-- The device originates a frame: broadcasts leave on both ports, a unicast by its route (R439, R441). -/
def originate (s : State) (ty : Nat) (keeper bcast : Bool) (dst : Nat) (payload : List (BitVec 8)) : State :=
  let bytes := frameBytes ty keeper bcast dst (ownAddr s) 255 (s.get Sw.SEQ) payload
  let ports := if bcast then [0, 1].filter (swLocal s) else swRoutes s 2 dst
  if !bcast && ports.isEmpty then noRoute s
  else (s.wrapInc Sw.SEQ).each ports (fun s w => sendBytes s w bytes false)

/-- The device broadcasts in its segment. -/
def broadcast (s : State) (ty : Nat) (payload : List (BitVec 8)) : State :=
  originate s ty false true (s.get SW_ADDR.SEG * 64) payload

/-! ### Queen, heir and role (R445 to R447) -/

/-- The device is eligible as queen (R445). -/
def eligible (s : State) : Bool :=
  inFull s && s.flag SW_CTL.QUEEN_EN && s.flag SW_ADDR.VALID && s.get CLK_STAT.SRC != 2

/-- The eligible nodes of the segment with their QPRI, as this device knows them. -/
def candidates (s : State) : List (Nat × Nat) :=
  (List.range 64).filterMap (fun n =>
    if s.flag SW_ADDR.VALID && n == ownNode s then (if eligible s then some (s.get SW_CTL.QPRI, n) else none)
    else if swReach s n && s.flag (Sw.ELIGN n) then some (s.get (Sw.QPRIN n), n) else none)

/-- The node of highest rank: QPRI, higher first, then the lower number (R445). -/
def bestRank (l : List (Nat × Nat)) : Option Nat :=
  (l.foldl (fun b x => match b with
    | none => some x
    | some y => if y.1 < x.1 then some x else some y) (none : Option (Nat × Nat))).map (·.2)

/-- The heir (R447). -/
def heirNow (s : State) : Option Nat :=
  bestRank ((candidates s).filter (fun x => !(s.flag SW_TOPO.QVALID && x.2 == s.get SW_TOPO.QUEEN)))

/-- Reachable nodes, and the device itself (R461). -/
def nodeCount (s : State) : Nat :=
  ((List.range 64).filter (fun n => swReach s n || (s.flag SW_ADDR.VALID && n == ownNode s))).length

/-- The device's own role (R456, R461). -/
def roleNow (s : State) : Nat :=
  if inSafeBoot s then 5
  else if s.flag Sw.ISQ then 3
  else if !s.flag SW_ADDR.VALID then (if s.flag SW_ADDR.DUP then 4 else 0)
  else if s.flag SW_TOPO.HVALID && s.get SW_TOPO.HEIR == ownNode s then 2 else 1

/-- Broadcast ANNOUNCE (R440) (DESIGN CHOICE, log entry 7). -/
def announce (s : State) : State :=
  broadcast s 1 (beBytes 6 Config.uid.toNat ++ beBytes 1 (s.get SW_CTL.QPRI * 16 + 8 * bitOf (eligible s)
    + s.get SW_TOPO.ROLE) ++ beBytes 1 (s.get SW_TOPO.QVALID * 128 + s.get SW_TOPO.QUEEN)
    ++ beBytes 1 (s.get SW_TOPO.HVALID * 128 + s.get SW_TOPO.HEIR))

/-- NODES, the heir and the role follow what the device knows; a change of the role is announced (R440, R443, R446,
R447). -/
def swReview (s : State) : State :=
  let s1 := if s.get SW_TOPO.NODES = nodeCount s then s else (s.put SW_TOPO.NODES (nodeCount s)).evt 0x98 2
  let s2 := match heirNow s1 with
    | none => (s1.put SW_TOPO.HVALID 0).put SW_TOPO.HEIR 0
    | some h =>
      if s1.flag SW_TOPO.HVALID && s1.get SW_TOPO.HEIR == h then s1
      else ((s1.put SW_TOPO.HVALID 1).put SW_TOPO.HEIR h).evt 0x98 3
  if s2.get SW_TOPO.ROLE = roleNow s2 then s2 else announce ((s2.put SW_TOPO.ROLE (roleNow s2)).evt 0x98 4)

/-- A queen is seen: QUEEN_CHG, EVT bit 3, and the end of NO_QUEEN (R446, R461). -/
def queenSeen (s : State) (n : Nat) : State :=
  if s.flag SW_TOPO.QVALID && s.get SW_TOPO.QUEEN == n then s
  else causeEnds ((((s.put SW_TOPO.QVALID 1).put SW_TOPO.QUEEN n).inc SW_CNT2.QUEEN_CHG).evt 0x98 3) 0x98 2

/-- The device becomes queen; with no swarm time in the segment it starts its own at 0 (R446, R447, R449)
(DEDUCED, log entry 50). -/
def becomeQueen (s : State) : State :=
  let s1 := queenSeen ((s.put Sw.ISQ 1).put SW_TIME_STAT.HOLDOVER 0) (ownNode s)
  swReview (s1.on (!s1.flag Sw.HAS) (fun s =>
    (((s.put Sw.HAS 1).put SW_TIME_LO.TIME 0).put SW_TIME_HI.TIME 0)))

/-- The segment has no queen that this device knows. -/
def queenLost (s : State) : State := swReview ((s.put SW_TOPO.QVALID 0).put SW_TOPO.QUEEN 0)

/-! ### Swarm time (R449) -/

/-- The swarm time in nanoseconds. -/
def swTime (s : State) : Nat := s.get64 SW_TIME_LO.TIME SW_TIME_HI.TIME

/-- `dt` nanoseconds of swarm time pass. -/
def swPass (s : State) (dt : Nat) : State :=
  s.on (s.flag Sw.HAS) (fun s => s.put64 SW_TIME_LO.TIME SW_TIME_HI.TIME (swTime s + dt))

/-- One millisecond passes in the discipline: at most 100 ns of the offset are slewed (R449). -/
def swTick (s : State) : State :=
  let left := s.int Sw.SLEW
  let d := clampInt (-100) 100 left
  s.on (s.flag Sw.HAS) (fun s => (s.put64 SW_TIME_LO.TIME SW_TIME_HI.TIME
    (((swTime s : Int) + 1000000 + d) % 2 ^ 64).toNat).putI Sw.SLEW (left - d))

/-! ### Reception and forwarding (R440, R441) -/

/-- The ports on which a received frame of another node goes on. -/
def forwardPorts (s : State) (f : SwFrame) : List Nat :=
  let w := bitOf f.west
  if f.bcast then (if s.get (swMode w) = 0 ∧ swLocal s (1 - w) = true then [1 - w] else [])
  else swRoutes s w f.dst.toNat

/-- Forward a frame with TTL decremented, with a changed payload where its chapter says so (R441, R449)
(DEDUCED, log entry 48). -/
def forward (s : State) (f : SwFrame) (ty : Nat) (payload : List (BitVec 8)) (bad : Bool) : State :=
  if f.ttl.toNat ≤ 1 then s
  else
    let ports := forwardPorts s f
    if !f.bcast && ports.isEmpty then noRoute s
    else s.each ports (fun s w =>
      if f.full then s.inc SW_CNT0.FWD_DROP
      else sendBytes s w (frameBytes ty f.keeper f.bcast f.dst.toNat f.src.toNat (f.ttl.toNat - 1) f.seq.toNat payload)
        bad)

/-- A CRC error found in a forwarded frame is counted; more than 64 within a second raise CRC_BURST (R441, R459)
(DEDUCED, log entry 48). -/
def crcError (s : State) : State :=
  let s1 := (s.inc SW_CNT0.CRC_ERR).inc (Flt.BURST 0x98)
  s1.on (s1.get (Flt.BURST 0x98) == 65) (fun s => raiseEvent s 0x98 4)

/-- The broadcast is newer than the last one seen from its sender (R441). -/
def seqNewer (s : State) (f : SwFrame) : Bool :=
  let n := f.src.toNat % 64
  let d := (f.seq.toNat + 257 - s.get (Sw.SEQN n)) % 256
  s.get (Sw.SEQN n) == 0 || (decide (1 ≤ d) && decide (d < 128))

/-- The frame has returned to its sender: it comes from the device's own address, or is an ANNOUNCE with its UID, by
which a device without an address knows its own (R441, R443). -/
def ownFrame (s : State) (f : SwFrame) (ty : Nat) : Bool :=
  isOwn s f.src || (ty == 1 && field f.payload 0 6 == Config.uid.toNat)

/-- A frame of TYPE `ty` arrives: CRC and LEN, the discards of R441, delivery, then forwarding. `copy` is what each
copy of a frame that is not delivered still shows (R443), `fwd` the payload that goes on. -/
def receive (s : State) (f : SwFrame) (ty : Nat) (fits : Bool) (copy deliver : State → State)
    (fwd : List (BitVec 8)) : State :=
  let w := bitOf f.west
  if !swOn s w then s
  else
    let bytes := frameBytes ty f.keeper f.bcast f.dst.toNat f.src.toNat f.ttl.toNat f.seq.toNat f.payload
    let mine := !f.bcast && isOwn s f.dst
    if f.crc.toNat = crc32 bytes then
      let s1 := s.put (swLock w) 1
      if !fits then s1
      else if f.bcast then
        if s.get (swMode w) = 1 then s1
        else if ownFrame s f ty || !seqNewer s f then copy s1
        else forward (deliver (s1.put (Sw.SEQN (f.src.toNat % 64)) (f.seq.toNat + 1))) f ty fwd false
      else if mine then deliver s1
      else if isOwn s f.src then s1
      else forward s1 f ty fwd false
    else if mine || ownFrame s f ty || (f.bcast && !seqNewer s f) || (forwardPorts s f).isEmpty then s
    else
      let s1 := s.on (f.crc.toNat != crc32 bytes ^^^ 0xFFFFFFFF) crcError
      forward s1 f ty fwd true

/-! ### Link state (R437) -/

/-- A port is reported down: EVT bit 0 or 1; the nodes beside the break announce themselves at once (R437, R453). -/
def swPortDown (s : State) (w : Nat) : State :=
  let s1 := (s.put (Sw.RUN w) 0).put (swPartner w) 0
  if s1.flag (swUp w) then
    let s2 := (s1.put (swUp w) 0).evt 0x98 w
    announce (s2.on (s2.flag SW_TOPO.RING) (fun s => (s.put SW_TOPO.RING 0).evt 0x98 2))
  else s1

/-- A LINK frame: the third valid one in a row brings the port up, and each measures the link delay (R437, R449).
`rx` is the port's own stamp of the reception. -/
def linkFrame (s : State) (f : SwFrame) (rx : BitVec 48) : State :=
  let w := bitOf f.west
  if !swOn s w then s
  else if f.crc.toNat ≠ crc32 (frameBytes 0 f.keeper f.bcast f.dst.toNat f.src.toNat f.ttl.toNat f.seq.toNat f.payload)
      ∨ f.payload.length ≠ 19 then s.put (Sw.RUN w) 0
  else
    let trip := (rx.toNat + 2 * 2 ^ 48 - field f.payload 7 6 - field f.payload 13 6) % 2 ^ 48
    let s1 := ((s.put (swLock w) 1).put (swPartner w) 1).put (swPeer w) f.src.toNat
    let s2 := ((s1.put (Sw.TTX w) (field f.payload 1 6)).putSat (swDelay w) (trip / 2)).put (Sw.RUN w)
      (min 3 (s1.get (Sw.RUN w) + 1))
    if 2 ≤ s.get (Sw.RUN w) ∧ s.flag (swUp w) = false then (s2.put (swUp w) 1).evt 0x98 w else s2

/-- A LINK frame is received (R437, R449). -/
def execLink (f : SwFrame) (rx : BitVec 48) (s : State) : Out := .next (linkFrame s f rx)

/-- Every 10 µs a port sends LINK: its stamp `tTx`, and the time `tHold` since the partner's last one (R437, R440). -/
def execLinkSend (west : Bool) (tTx tHold : BitVec 48) (s : State) : Out :=
  let w := bitOf west
  .next (if swOn s w then
      sendBytes (s.wrapInc Sw.SEQ) w (frameBytes 0 false false (s.get (swPeer w)) (ownAddr s) 255 (s.get Sw.SEQ)
        (beBytes 1 w ++ beBytes 6 tTx.toNat ++ beBytes 6 (s.get (Sw.TTX w)) ++ beBytes 6 tHold.toNat)) false
    else s)

/-- No valid frame has arrived for 30 µs (R437). -/
def execPortDown (west : Bool) (s : State) : Out := .next (swPortDown s (bitOf west))

/-- The receiver of a port loses lock (R437). -/
def execReceiverLockLost (east : Bool) (s : State) : Out :=
  let w := bitOf (!east)
  .next (swPortDown (s.put (swLock w) 0) w)

/-- Both ports stop: hive-sleep entry (R456). -/
def swStop (s : State) : State :=
  s.each [0, 1] (fun s w => (((s.put (Sw.RUN w) 0).put (swPartner w) 0).put (swUp w) 0).put (swLock w) 0)

/-! ### Discovery (R438, R443, R444) -/

/-- The Swarm path's session closes when its bound node is gone (R94, R455). -/
def bondLost (s : State) (n : Nat) : State :=
  if s.flag (Ses.CODE 3) && s.get Ses.NODE == s.get SW_ADDR.SEG * 64 + n then codeCloses s 3 else s

/-- A node number comes into force (R438). -/
def addressTake (s : State) (n : Nat) : State :=
  swReview (causeEnds ((((s.put SW_ADDR.NODE_ACT n).put SW_ADDR.VALID 1).put SW_ADDR.DUP 0).evt 0x98 9) 0x98 1)

/-- AUTO: 3 ms after the first port has come up the device takes the lowest number that no reachable node uses
(R438). -/
def execAddressAssign (s : State) : Out :=
  .next (if s.flag SW_ADDR.AUTO && !s.flag SW_ADDR.VALID && decide (3 ≤ s.get Boot.STEP)
      && (s.flag SW_PORT_E.UP || s.flag SW_PORT_W.UP) then
      match (List.range 64).find? (fun n => !swReach s n) with
      | some n => addressTake s n
      | none => s
    else s)

/-- The device withdraws its address, and gives up the role of queen with it (R444). -/
def addressLost (s : State) : State :=
  let s1 := ((s.put SW_ADDR.VALID 0).put SW_ADDR.DUP 1).evt 0x98 9
  swReview (s1.on (s1.flag Sw.ISQ) (fun s => ((s.put Sw.ISQ 0).put SW_TOPO.QVALID 0).put SW_TOPO.QUEEN 0))

/-- A duplicate of the device's own address: the lower UID keeps it (R444). -/
def duplicate (s : State) (uid : Nat) : State :=
  let s1 := s.inc SW_CNT2.DUP_SEEN
  if Config.uid.toNat < uid then s1
  else
    raiseHeld (addressLost s1) 0x98 1

/-- What any copy of an ANNOUNCE of another node shows: its way through the port, and the node's state (R443)
(DEDUCED, log entry 49). -/
def announceCopy (s : State) (f : SwFrame) : State :=
  let n := f.src.toNat % 64
  let b6 := field f.payload 6 1
  if b6 % 8 = 0 ∨ b6 % 8 = 4 then s
  else
    let s1 := (s.put (Sw.HOP (bitOf f.west) n) (256 - f.ttl.toNat)).put (Sw.UIDN n) (field f.payload 0 6)
    swReview ((s1.put (Sw.QPRIN n) (b6 / 16)).put (Sw.ELIGN n) (b6 / 8))

/-- The device's own ANNOUNCE comes back on its other port, or another device uses its address (R443, R444). -/
def announceOwn (s : State) (f : SwFrame) : State :=
  let role := field f.payload 6 1 % 8
  if field f.payload 0 6 = Config.uid.toNat then
    (if s.flag SW_TOPO.RING then s else (s.put SW_TOPO.RING 1).evt 0x98 2)
  else if role = 0 ∨ role = 4 then s else duplicate s (field f.payload 0 6)

/-- Every millisecond the node broadcasts ANNOUNCE (R440). -/
def execAnnounceSend (s : State) : Out := .next (announce s)

/-- A node's ANNOUNCE frames have stopped on a port for 3 ms; its own number stands for the device's own frames, which
close a ring (R443, R455). -/
def nodeGone (s : State) (w n : Nat) : State :=
  if s.flag SW_ADDR.VALID && n == ownNode s then
    (if s.flag SW_TOPO.RING then (s.put SW_TOPO.RING 0).evt 0x98 2 else s)
  else
    let s1 := s.put (Sw.HOP w n) 0
    if swReach s1 n then s1
    else
      let s2 := bondLost ((s1.put (Sw.SEQN n) 0).put (Sw.ELIGN n) 0) n
      if s2.flag SW_TOPO.QVALID && s2.get SW_TOPO.QUEEN == n then queenLost s2 else swReview s2

/-- A node becomes unreachable through a port (R443). -/
def execNodeUnreachable (west : Bool) (node : Fin 64) (s : State) : Out := .next (nodeGone s (bitOf west) node)

/-- The election: with no queen, the eligible node of highest rank declares itself (R446). -/
def execElection (s : State) : Out :=
  .next (if !s.flag SW_TOPO.QVALID && eligible s && bestRank (candidates s) == some (ownNode s) then becomeQueen s
    else s)

/-- Comb `c` is a member of its share group: EN, SHARE_EN, alone or the lead of its gang, not drained (R450, R478). -/
def isMember (s : State) (c : Nat) : Bool :=
  s.flag (SW_MEMB.EN c) && s.flag (CMB_PP_CTL.SHARE_EN c) && gangLead s c == c && !s.flag (Mnt.DRAIN c)

/-- A node with a share member has had no queen for 10 ms (R446, R459). -/
def execNoQueen (s : State) : Out :=
  .next (if !s.flag SW_TOPO.QVALID && (List.range 4).any (isMember s) then raiseHeld s 0x98 2 else s)

/-! ### Time frames (R449) -/

/-- A TIME frame disciplines the swarm time (R449). -/
def timeTake (s : State) (f : SwFrame) : State :=
  if s.flag Sw.ISQ then s
  else
    let t := field f.payload 0 8 + (field f.payload 8 4 + s.get (swDelay (bitOf f.west))) / 8
    let off : Int := (t : Int) - swTime s
    let s1 := ((s.put Sw.HAS 1).put SW_TIME_STAT.VALID 1).put SW_TIME_STAT.HOLDOVER 0
    let s2 := s1.putI SW_TIME_STAT.OFS (clampInt (-32768) 32767 off)
    if 1000 < off.natAbs then ((s2.put64 SW_TIME_LO.TIME SW_TIME_HI.TIME t).put Sw.SLEW 0).evt 0x98 5
    else s2.putI Sw.SLEW off

/-- A TIME frame: `dt` nanoseconds have passed since the swarm time was last formed, and the frame stays `residence`
in the device, LSB 0.125 ns (R449). -/
def execTimeFrame (f : SwFrame) (dt : Nat) (residence : BitVec 32) (s : State) : Out :=
  let corr := field f.payload 8 4 + residence.toNat + s.get (swDelay (bitOf f.west))
  .next (receive (swPass s dt) f 8 (f.payload.length == 12) id (fun s => timeTake s f)
    (f.payload.take 8 ++ beBytes 4 corr))

/-- Every 250 µs the queen broadcasts TIME (R449). -/
def execTimeSend (dt : Nat) (s : State) : Out :=
  let s1 := swPass s dt
  .next (if s1.flag Sw.ISQ then broadcast s1 8 (beBytes 8 (swTime s1) ++ beBytes 4 0) else s1)

/-- No TIME frame has arrived for 1 ms (R449). -/
def execHoldover (s : State) : Out :=
  .next (if s.flag Sw.HAS && !s.flag Sw.ISQ && !s.flag SW_TIME_STAT.HOLDOVER then
      (s.put SW_TIME_STAT.HOLDOVER 1).evt 0x98 6
    else s)

/-! ### Rosters and reports (R450) -/

/-- The members of group `g`: numbers 4 x node + comb (R450). -/
def roster (s : State) (g : Nat) : List Nat := (List.range 256).filter (fun m => s.get (Sw.MEM m) == g + 1)

/-- A member is reachable: its report has arrived within 3 x REP (R450). -/
def memReach (s : State) (m : Nat) : Bool := decide (2 * s.get (Sw.AGE m) ≤ 3 * max 1 (s.get SW_SHARE_CFG.REP))

/-- WEIGHT of a member; 0 acts as 1 (R461). -/
def memWeight (s : State) (m : Nat) : Nat := max 1 (s.get (Sw.WT m))

/-- One entry of a REPORT adds a comb to a roster or removes it; 64 members are served at most (R450)
(DEDUCED, log entry 51). -/
def reportEntry (s : State) (node g : Nat) (en : Bool) (c wt deficit : Nat) : State :=
  let m := 4 * node + c
  if !en then s.put (Sw.MEM m) 0
  else if s.get (Sw.MEM m) = 0 ∧ 64 ≤ ((List.range 256).filter (fun k => s.get (Sw.MEM k) != 0)).length then
    s.on (s.flag Sw.ISQ) (fun s => raiseEvent s 0x98 3)
  else ((((s.put (Sw.MEM m) (g + 1)).put (Sw.WT m) wt).put (Sw.DEF m) deficit).put (Sw.AGE m) 0)

/-- An entry of a received REPORT: the tag of its deficit is checked, and a mismatch leaves the former one (R354,
R450). -/
def reportTake (s : State) (node : Nat) (e : List (BitVec 8)) : State :=
  let b := field e 0 1
  let d := field e 2 2
  let (ok, s1) := tagCheck s 0x98 (toSigned 16 d) (BitVec.ofNat 16 (field e 4 2))
  reportEntry s1 node (b / 16) (b.testBit 3) (b % 4) (field e 1 1) (if ok then d else s.get (Sw.DEF (4 * node + b % 4)))

/-- A REPORT frame (R450). -/
def execReport (f : SwFrame) (s : State) : Out :=
  let k := field f.payload 0 1
  .next (receive s f 3 (f.payload.length == max 4 (1 + 6 * k) && decide (k ≤ 4)) id (fun s =>
    s.each (List.range k) (fun s i => reportTake s (f.src.toNat % 64) (f.payload.drop (1 + 6 * i)))) f.payload)

/-- The node reports each comb that has EN set in `SW_MEMB`; its own roster takes the same entries (R450). -/
def reportSend (s : State) : State :=
  let l := (List.range 4).filter (fun c => s.flag (SW_MEMB.EN c))
  if !s.flag SW_ADDR.VALID || inSafeBoot s || l.isEmpty then s
    else
      let s1 := broadcast s 3 (BitVec.ofNat 8 l.length :: l.flatMap (fun c =>
        beBytes 1 (s.get (SW_MEMB.GROUP c) * 16 + 8 * bitOf (isMember s c) + c) ++ beBytes 1 (s.get (SW_MEMB.WEIGHT c))
          ++ beBytes 2 (s.get (CMB_SHARE.DEFICIT c)) ++ beBytes 2 (tagOf 6 (s.int (CMB_SHARE.DEFICIT c)))))
      s1.each l (fun s c => reportEntry s (ownNode s) (s.get (SW_MEMB.GROUP c)) (isMember s c) c
        (s.get (SW_MEMB.WEIGHT c)) (s.get (CMB_SHARE.DEFICIT c)))

/-- Every REP the node broadcasts a REPORT (R450). -/
def execReportSend (s : State) : Out := .next (reportSend s)

/-! ### Targets (R451, R452) -/

/-- The sum of WEIGHT over members. -/
def weightSum (s : State) (l : List Nat) : Nat := l.foldl (fun a m => a + memWeight s m) 0

/-- The sign of a number. -/
def signOf (z : Int) : Int := if 0 < z then 1 else if z < 0 then -1 else 0

/-- The targets of the reachable members of group `g` (R451). -/
def shareTargets (s : State) (g : Nat) : List (Nat × Int) :=
  let r := (roster s g).filter (memReach s)
  let w := weightSum s (roster s g)
  let wr := weightSum s r
  let t := (s.int (Sw.TOTAL g) * wr).tdiv w
  let base := fun m => (t * memWeight s m).tdiv wr
  let d := fun m =>
    let x := s.int (Sw.DEF m) * signOf t
    if (s.get SW_SHARE_CFG.DEADBAND : Int) < x then min x (base m).natAbs else 0
  let short := r.foldl (fun a m => a + d m) 0
  let wf := weightSum s (r.filter (fun m => d m == 0))
  r.map (fun m => (m, base m + (if d m = 0 then (signOf t * short * memWeight s m).tdiv wf else 0)))

/-- PART of a group follows (R451). -/
def partSet (s : State) (g : Nat) (b : Bool) : State :=
  if s.flag (Sw.PART g) = b then s else (s.putB (Sw.PART g) b).evt 0x98 7

/-- A total in force changes: EVT bit 10 (R451, R460). -/
def totalSet (s : State) (g t : Nat) : State :=
  if s.get (Sw.TOTAL g) = t % 65536 then s else (s.put (Sw.TOTAL g) t).evt 0x98 10

/-- An entry for one of the device's combs: the target, and its record to the comb's Forager with START `eff` less the
swarm time; an effective time that has passed counts in SHARE_LATE (R452). -/
def shareDeliver (s : State) (g c t tag : Nat) (wait : Int) : State :=
  if isMember s c && s.get (SW_MEMB.GROUP c) == g && !inSafeBoot s then
    let s1 := (s.put (SW_MEMB.TARGET c) t).put (Sw.MTAG c) tag
    let s2 := s1.on (decide (wait < 0)) (·.inc SW_CNT1.SHARE_LATE)
    sendRecord s2 c (recordWord 7 49 1 1 0 (toSigned 16 t) (s.get SW_SHARE_CFG.RAMP) (wait.toNat / 1000))
  else s

/-- Broadcast the targets of a group, 11 entries a frame, and deliver the device's own (R440, R451, R452). -/
def shareSend (s : State) (g : Nat) (l : List (Nat × Nat)) : Nat → State
  | 0 => s
  | n + 1 =>
    let es := l.take 11
    let lead := 1000 * s.get SW_SHARE_CFG.LEAD
    let s1 := broadcast s 2 (beBytes 1 (es.length * 16 + g) ++ beBytes 1 (s.get (Sw.PART g))
      ++ beBytes 6 ((swTime s + lead) % 2 ^ 48) ++ beBytes 2 (s.get (Sw.TOTAL g)) ++ es.flatMap (fun e =>
        beBytes 1 e.1 ++ beBytes 2 e.2 ++ beBytes 2 (s.get (Sw.TGTTAG e.1))))
    let s2 := s1.each es (fun s e => s.on (e.1 / 4 == ownNode s)
      (fun s => shareDeliver s g (e.1 % 4) e.2 (s.get (Sw.TGTTAG e.1)) lead))
    if 11 < l.length then shareSend s2 g (l.drop 11) n else s2

/-- The queen sends what it holds for every group that has a roster; with none, one frame without entries. -/
def sharesSend (s : State) : State :=
  let gs := (List.range 16).filter (fun g => !(roster s g).isEmpty)
  if gs.isEmpty then shareSend s 0 [] 1
  else s.each gs (fun s g =>
    shareSend s g (((roster s g).filter (memReach s)).map (fun m => (m, s.get (Sw.TGT m)))) 6)

/-- The queen computes the targets of each group; each is born as a DERIVED value (R346, R451) (DEDUCED, log entry 51). -/
def shareCompute (s : State) : State :=
  s.each (List.range 16) (fun s g =>
    let l := shareTargets s g
    let s1 := partSet s g (weightSum s (l.map (·.1)) < weightSum s (roster s g))
    s1.each l (fun s e => (s.putI (Sw.TGT e.1) e.2).put (Sw.TGTTAG e.1) (tagOf 6 e.2)))

/-- Every 20 µs reports grow older, and the queen computes and broadcasts the targets (R450, R451). -/
def execShareCompute (dt : Nat) (s : State) : Out :=
  let s1 := (swPass s dt).each ((List.range 256).filter (fun m => s.get (Sw.MEM m) != 0)) (fun s m => s.inc (Sw.AGE m))
  .next (if s1.flag Sw.ISQ then sharesSend (shareCompute s1) else s1)

/-- With no frame from the queen for 100 µs the heir becomes queen and continues the totals and targets that it holds
(R447). -/
def execHeirTakeover (dt : Nat) (s : State) : Out :=
  let s1 := swPass s dt
  .next (if s1.get SW_TOPO.ROLE = 2 then sharesSend (becomeQueen s1) else s1)

/-- An ANNOUNCE of another node is delivered: the queen seen, and roles given up; where the queen gives up its role the
heir takes over at once (R443 to R447, R457). -/
def announceTake (s : State) (f : SwFrame) : State :=
  let n := f.src.toNat % 64
  let role := field f.payload 6 1 % 8
  let s1 := announceCopy (s.on (role == 4) (fun s => bondLost s n)) f
  if role = 3 then (if s1.flag Sw.ISQ then s1 else swReview (queenSeen s1 n))
  else if s1.flag SW_TOPO.QVALID && s1.get SW_TOPO.QUEEN == n && !s1.flag Sw.ISQ then
    if s1.get SW_TOPO.ROLE = 2 then sharesSend (becomeQueen s1) else queenLost s1
  else s1

/-- An ANNOUNCE frame (R443, R444). -/
def execAnnounce (f : SwFrame) (s : State) : Out :=
  .next (receive s f 1 (f.payload.length == 9) (fun s => if ownFrame s f 1 then announceOwn s f else announceCopy s f)
    (fun s => announceTake s f) f.payload)

/-- The device ranks above another node (R445, R448). -/
def outranks (s : State) (n : Nat) : Bool :=
  decide (s.get (Sw.QPRIN n) < s.get SW_CTL.QPRI) || (s.get (Sw.QPRIN n) == s.get SW_CTL.QPRI && decide (ownNode s < n))

/-- Two queens: the lower rank gives up its role (R448) (DEDUCED, log entry 50). -/
def twoQueens (s : State) (n : Nat) : State :=
  swReview (queenSeen (raiseEvent (s.put Sw.ISQ 0) 0x98 6) n)

/-- An entry of a received SHARE frame is kept, and one for this device is checked and delivered (R354, R447, R452). -/
def shareEntry (s : State) (g : Nat) (e : List (BitVec 8)) (wait : Int) : State :=
  let m := field e 0 1
  let t := field e 1 2
  let tag := field e 3 2
  let s1 := (s.put (Sw.TGT m) t).put (Sw.TGTTAG m) tag
  if s.flag SW_ADDR.VALID && m / 4 == ownNode s then
    let (ok, s2) := tagCheck s1 0x98 (toSigned 16 t) (BitVec.ofNat 16 tag)
    if ok then shareDeliver s2 g (m % 4) t tag wait else s2
  else s1

/-- A SHARE frame of the queen: total, PART and entries (R447, R448, R452). -/
def shareTake (s : State) (f : SwFrame) : State :=
  let n := f.src.toNat % 64
  if s.flag Sw.ISQ && outranks s n then s
  else
    let s1 := if s.flag Sw.ISQ then twoQueens s n else swReview (queenSeen s n)
    let g := field f.payload 0 1 % 16
    let wait := toSigned 48 ((field f.payload 2 6 + 2 ^ 48 - swTime s1 % 2 ^ 48) % 2 ^ 48)
    let s2 := partSet (totalSet s1 g (field f.payload 8 2)) g ((field f.payload 1 1).testBit 0)
    s2.each (List.range (field f.payload 0 1 / 16)) (fun s i => shareEntry s g (f.payload.drop (10 + 5 * i)) wait)

/-- A SHARE frame; `dt` nanoseconds have passed since the swarm time was last formed (R452). -/
def execShareFrame (f : SwFrame) (dt : Nat) (s : State) : Out :=
  let k := field f.payload 0 1 / 16
  .next (receive (swPass s dt) f 2 (f.payload.length == 10 + 5 * k && decide (k ≤ 11)) id (fun s => shareTake s f)
    f.payload)

/-- A GROUP_SET takes effect: FORGET removes the members that are not reachable, and the queen adopts the total (R450,
R451). -/
def groupSet (s : State) (b t : Nat) : State :=
  let g := b % 16
  let s1 := s.on (b.testBit 7) (fun s => s.each ((roster s g).filter (fun m => !memReach s m))
    (fun s m => s.put (Sw.MEM m) 0))
  s1.on (s1.flag Sw.ISQ) (fun s => totalSet s g t)

/-- A GROUP_SET frame (R450, R451). -/
def execGroupSet (f : SwFrame) (s : State) : Out :=
  .next (receive s f 7 (f.payload.length == 4) id (fun s => groupSet s (field f.payload 0 1) (field f.payload 1 2))
    f.payload)

/-- The device sends GROUP_SET, and takes it itself (R451). A device without an address sends none (R438). -/
def groupSend (s : State) (b t : Nat) : State :=
  if s.flag SW_ADDR.VALID then groupSet (broadcast s 7 (beBytes 1 b ++ beBytes 2 t)) b t else s

/-! ### Registers (R461) -/

/-- The group that `SW_GRP_SEL` shows. -/
def grpSel (s : State) : Nat := s.get SW_GRP_SEL.GROUP

/-- The write of `SW_GRP_TOTAL`: TOTAL is ceilinged in magnitude, and each write that is not refused sends GROUP_SET
(R89, R451, R461). -/
def grpTotalWrite (s : State) (k : Bool) (w : Nat) : Res :=
  let g := grpSel s
  let s0 := (s.put SW_GRP_TOTAL.CEIL (s.get (Sw.CEIL g))).put SW_GRP_TOTAL.TOTAL (s.get (Sw.REQT g))
  let r := specialRes s0 k 0x98 0x07C w false (fun s w' =>
    let c := fieldOf w' SW_GRP_TOTAL.CEIL
    let t := fieldOf w' SW_GRP_TOTAL.TOTAL
    let s1 := s.put (Sw.CEIL g) c
    if t ≠ s.get (Sw.REQT g) ∧ c < (toSigned 16 t).natAbs then (s1, 3)
    else (groupSend (s1.put (Sw.REQT g) t) g (ofSigned 16 (clampInt (-(c : Int)) c (toSigned 16 t))), 0))
  ((r.1.put SW_GRP_TOTAL.CEIL 0xFFFF).put SW_GRP_TOTAL.TOTAL 0, r.2)

/-- A write of `SW_GRP_TOTAL` (R451). -/
def execGroupTotalWrite (a : Access) (w : BitVec 32) (s : State) : Out :=
  .next (regOp s a (fun s k => grpTotalWrite s k w.toNat))

/-- The write of `SW_GRP_SEL`: FORGET sends GROUP_SET (R450, R461). -/
def grpSelWrite (s : State) (k : Bool) (w : Nat) : Res :=
  specialWrite s k 0x98 0x078 w false (fun s w' =>
    let s1 := storeFields s w' (regLayout 0x98 0x078)
    s1.on (fieldOf w' SW_GRP_SEL.FORGET == 1) (fun s => groupSend s (128 + grpSel s) (s.get (Sw.TOTAL (grpSel s)))))

/-- A write of `SW_GRP_SEL.FORGET` (R450). -/
def execForget (a : Access) (w : BitVec 32) (s : State) : Out :=
  .next (regOp s a (fun s k => grpSelWrite s k w.toNat))

/-- The registers of the selected group as they read (R461). -/
def swView (s : State) (off : Nat) : Option Nat :=
  let g := grpSel s
  match off with
  | 0x07C => some (s.get (Sw.CEIL g) * 65536 + s.get (Sw.REQT g))
  | 0x080 => some (s.get (Sw.TOTAL g) * 65536 + (roster s g).length * 256 + ((roster s g).filter (memReach s)).length)
  | 0x0A0 => some (Config.uid.toNat % 4294967296)
  | 0x0A4 => some (Config.uid.toNat / 4294967296)
  | _ => none

/-- The write of `SW_ADDR`: with AUTO = 0 the device uses NODE (R438, R444). -/
def swAddrWrite (s : State) (k : Bool) (w : Nat) : Res :=
  specialWrite s k 0x98 0x044 w false (fun s w' =>
    let s1 := storeFields s w' (regLayout 0x98 0x044)
    if !s1.flag SW_ADDR.AUTO && (!s.flag SW_ADDR.VALID || ownNode s != s1.get SW_ADDR.NODE
      || s.get SW_ADDR.SEG != s1.get SW_ADDR.SEG) then addressTake s1 (s1.get SW_ADDR.NODE) else swReview s1)

/-- The write of `SW_CTL`, `SW_PORT_E` or `SW_PORT_W`: a port that stops running reports no partner (R437, R445). -/
def swCtlWrite (s : State) (k : Bool) (off w : Nat) : Res :=
  specialWrite s k 0x98 off w false (fun s w' =>
    let s1 := storeFields s w' (regLayout 0x98 off)
    swReview (s1.each ([0, 1].filter (fun p => !swOn s1 p)) swPortDown))

/-- The write of `SW_CMD`: OP 1 sends RESET to TGT; OP reads zero (R455, R461). -/
def swCmdWrite (s : State) (k : Bool) (w : Nat) : Res :=
  specialWrite s k 0x98 0x070 w false (fun s w' =>
    let s1 := s.put SW_CMD.TGT (fieldOf w' SW_CMD.TGT)
    s1.on (fieldCode s k false 0x98 .k == 0 && fieldOf w' SW_CMD.OP == 1 && s1.flag SW_ADDR.VALID)
      (fun s => originate s 6 true false (s.get SW_CMD.TGT) (beBytes 2 0x5E7A)))

/-- A write of `SW_CMD` (R455). -/
def execResetCommand (a : Access) (w : BitVec 32) (s : State) : Out :=
  .next (regOp s a (fun s k => swCmdWrite s k w.toNat))

/-- A RESET frame: performed with KEEPER = 1 and the payload 0x5E7A, from the node to which the Swarm path's open
session is bound (R59, R455). -/
def execResetFrame (f : SwFrame) (s : State) : Out :=
  .next (receive s f 6 (f.payload.length == 4) id (fun s =>
    if f.keeper && field f.payload 0 2 == 0x5E7A && sessionOpen s .swarm f.src then triggerReset s 6 else s) f.payload)

end Sys2Proof.Machine
end

