-- ==== Sys2Proof/Machine/Maintenance.lean ====
section
/-! DEFINITION. Live maintenance (chapter 20): the table manager of page 0x90 with its loader, verification and
commit, the check of boot images, and the drain and restore commands of page 0xB0. -/

namespace Sys2Proof.Machine

/-! ### Boot images (R65, R473) -/

/-- The bytes of a window range. -/
def bytesAt (s : State) (a n : Nat) : List (BitVec 8) := (List.range n).map (fun i => s.byte (a + i))

/-- The bytes with the four of a CRC field at `at` taken as zero. -/
def crcBlank (l : List (BitVec 8)) (pos : Nat) : List (BitVec 8) := l.take pos ++ [0, 0, 0, 0] ++ l.drop (pos + 4)

/-- The image in slot `i` is valid (R65). -/
def imageValid (s : State) (i : Nat) : Bool :=
  let a := slotBase i
  let len := s.leNat (a + 0xC) 4
  s.leNat a 4 == 0x53429648 && s.leNat (a + 4) 2 == 1 && decide (len ≤ 0x78000) && readable s a len
    && crc32 (crcBlank (bytesAt s a len) 0x1C) == s.leNat (a + 0x1C) 4

/-! ### The table manager (R462, R466, R467) -/

/-- The inactive bank. -/
def inactiveBank (s : State) : Nat := 1 - s.get TBL_BANK.ACTIVE

/-- A TBL command is refused: RESULT 2 and WHY (R469, R489). -/
def tblRefuse (s : State) (why : Nat) : State := (s.put TBL_BANK.RESULT 2).put TBL_BANK.WHY why

/-- A TBL command starts. -/
def tblStart (s : State) (op : Nat) : State := ((s.put Tbl.RUN op).put TBL_BANK.RESULT 0).put TBL_BANK.WHY 0

/-- A TBL command ends with RESULT 1 done or 3 failed. -/
def tblEnd (s : State) (result : Nat) : State := ((s.put Tbl.RUN 0).put TBL_BANK.RESULT result).put TBL_BANK.WHY 0

/-- Why a command on the inactive bank is refused: another command runs, or the bank is retiring (R466, R467)
(DEDUCED, log entry 53). -/
def bankWhy (s : State) : Nat :=
  if s.get Tbl.RUN ≠ 0 then 4 else if s.get TBL_BANK.INACT = 6 then 5 else 0

/-- Why a COMMIT is refused (R469) (DEDUCED, log entry 53). -/
def commitWhy (s : State) : Nat :=
  if bankWhy s ≠ 0 then bankWhy s else if !inFull s then 2 else if s.get TBL_BANK.INACT ≠ 3 then 1 else 0

/-- The slot that IMG_CHECK checks: the one that is not the booted slot (R473). -/
def checkedSlot (s : State) : Nat := 1 - s.get HIVE_BOOT_STAT.IMG

/-- The start of a TBL command (R467, R469, R473). -/
def tblCommand (s : State) (op : Nat) : State :=
  match op with
  | 1 => if bankWhy s ≠ 0 then tblRefuse s (bankWhy s) else (tblStart s 1).put TBL_BANK.INACT 1
  | 2 =>
    if bankWhy s ≠ 0 then tblRefuse s (bankWhy s)
    else ((((tblStart s 2).put TBL_BANK.INACT 2).put TBL_VER_STAT.RESULT 2).put TBL_VER_STAT.WHY 0).put
      TBL_VER_STAT.ENTRY 0
  | 3 => if commitWhy s ≠ 0 then tblRefuse s (commitWhy s) else (tblStart s 3).put TBL_BANK.INACT 5
  | 4 => if s.get Tbl.RUN ≠ 0 then tblRefuse s 4 else (tblStart s 4).put Tbl.SLOT (checkedSlot s)
  | 5 => if bankWhy s ≠ 0 then tblRefuse s (bankWhy s) else tblStart s 5
  | _ => s

/-- The write of `TBL_CMD`: OP reads zero, and a locked page refuses every command (R96, R467, R469, R489)
(DEDUCED, log entry 55). -/
def tblCmdWrite (s : State) (k : Bool) (w : Nat) : Res :=
  let locked := k && s.flag (PAGE_LOCK.CFG 0x90) && decide (1 ≤ w % 16 ∧ w % 16 ≤ 5)
  specialWrite (s.on locked (tblRefuse · 3)) k 0x90 0x044 w false (fun s w' =>
    s.on (fieldCode s k false 0x90 .k == 0) (fun s => tblCommand s (w' % 16)))

/-- A write of COPY (R467). -/
def execCopy (a : Access) (s : State) : Out := .next (regOp s a (fun s k => tblCmdWrite s k 1))

/-- A write of ERASE (R467). -/
def execErase (a : Access) (s : State) : Out := .next (regOp s a (fun s k => tblCmdWrite s k 5))

/-- A write of VERIFY (R467). -/
def execVerify (a : Access) (s : State) : Out := .next (regOp s a (fun s k => tblCmdWrite s k 2))

/-- A write of COMMIT (R469). -/
def execCommit (a : Access) (s : State) : Out := .next (regOp s a (fun s k => tblCmdWrite s k 3))

/-- A write of IMG_CHECK (R473). -/
def execImgCheck (a : Access) (s : State) : Out := .next (regOp s a (fun s k => tblCmdWrite s k 4))

/-- The copy of the active bank into the inactive one (R467). -/
def bankCopy (s : State) : State :=
  let from_ := bankBase (s.get TBL_BANK.ACTIVE)
  let to_ := bankBase (inactiveBank s)
  let s1 := (blockRead s from_ 0x80000).clearMem to_ (to_ + 0x80000)
  s1.each (s1.mem.filter (fun c => decide (from_ ≤ c.1) && decide (c.1 < from_ + 0x80000)))
    (fun s c => s.setByte (c.1 - from_ + to_) c.2)

/-- COPY is done (R467). -/
def execCopyDone (s : State) : Out :=
  .next (if s.get Tbl.RUN = 1 then tblEnd (bankCopy s) 1 else s)

/-- ERASE is done (R467). -/
def execEraseDone (s : State) : Out :=
  let b := bankBase (inactiveBank s)
  .next (if s.get Tbl.RUN = 5 then tblEnd ((s.clearMem b (b + 0x80000)).put TBL_BANK.INACT 0) 1 else s)

/-! ### Verification (R468) -/

/-- Entries of the directory of bank `b`. -/
def dirCount (s : State) (b : Nat) : Nat := s.leNat (bankBase b + 6) 2

/-- OFFSET, SIZE, TTYPE and INDEX of an entry. -/
def entOffset (s : State) (b e : Nat) : Nat := s.leNat (bankBase b + 0x14 + 16 * e) 4
def entSize (s : State) (b e : Nat) : Nat := s.leNat (bankBase b + 0x18 + 16 * e) 4
def entType (s : State) (b e : Nat) : Nat := s.leNat (bankBase b + 0x10 + 16 * e) 2
def entIndex (s : State) (b e : Nat) : Nat := s.leNat (bankBase b + 0x12 + 16 * e) 1

/-- The directory matches: TYPE, LEN, FORMAT, CRC and COUNT (R463, R468). -/
def dirOk (s : State) (b : Nat) : Bool :=
  let a := bankBase b
  s.leNat a 2 == 1 && s.leNat (a + 2) 2 == 0x1000 && s.leNat (a + 4) 2 == 1 && decide (dirCount s b ≤ 255)
    && crc32 (crcBlank (bytesAt s a 0x1000) 0xC) == s.leNat (a + 0xC) 4

/-- Two partitions overlap. -/
def entsOverlap (s : State) (b d e : Nat) : Bool :=
  decide (entOffset s b d < entOffset s b e + entSize s b e) && decide (entOffset s b e < entOffset s b d + entSize s b d)

/-- The validity rules of a table's chapter that depend on the table alone (R468). -/
def contentOk (s : State) (b e : Nat) : Bool :=
  let a := entryAddr s b e
  match entType s b e with
  | 2 => modelForm s a
  | 3 => profileValid s a
  | 4 => sweepValid s a
  | 5 => fetValid s a
  | 6 => seqValid s a
  | 7 => headerOk s a 0x0007 0x0220
  | _ => true

/-- The first entry of the list that fails a check, with its WHY. -/
def failAt (why : Nat) (l : List Nat) (bad : Nat → Bool) : Option (Nat × Nat) := (l.find? bad).map (fun e => (why, e))

/-- The first failure of a bank's verification, in the order of R468: WHY and ENTRY. The content is judged with every
word as it stands, and uncorrectable words come last. -/
def verifyFailure (s : State) (b : Nat) : Option (Nat × Nat) :=
  if !dirOk s b then some (1, 0xFF)
  else
    let l := List.range (dirCount s b)
    let clean : State := { s with ecc := [] }
    (failAt 2 l (fun e => decide (entOffset s b e < 0x1000) || decide (0x80000 < entOffset s b e + entSize s b e))).or
      ((failAt 3 l (fun e => (List.range e).any (fun d => entsOverlap s b d e))).or
      ((failAt 4 l (fun e => (List.range e).any (fun d => entType s b d == entType s b e
        && entIndex s b d == entIndex s b e))).or
      ((failAt 5 l (fun e => s.leNat (entryAddr s b e) 2 != entType s b e)).or
      ((failAt 6 l (fun e => decide (entSize s b e < s.leNat (entryAddr s b e + 2) 2))).or
      ((failAt 7 l (fun e => crc32 (bytesAt s (entryAddr s b e) (s.leNat (entryAddr s b e + 2) 2))
        != s.leNat (bankBase b + 0x1C + 16 * e) 4)).or
      ((failAt 9 l (fun e => !contentOk clean b e)).or
      (if !readable s (bankBase b) 0x1000 then some (8, 0xFF)
        else failAt 8 l (fun e => !readable s (entryAddr s b e) (entSize s b e)))))))))

/-- The verification ends: VERIFIED or FAILED, EVT bit 2, and VERIFY_FAIL at a failure (R467, R468). -/
def verifyDone (s : State) : State :=
  let b := inactiveBank s
  let s0 := blockRead s (bankBase b) 0x80000
  match verifyFailure s b with
  | none => (((tblEnd s0 1).put TBL_BANK.INACT 3).put TBL_VER_STAT.RESULT 1).evt 0x90 2
  | some (why, e) =>
    let s1 := ((tblEnd s0 3).put TBL_BANK.INACT 4).put TBL_VER_STAT.RESULT 3
    raiseEvent (((s1.put TBL_VER_STAT.WHY why).put TBL_VER_STAT.ENTRY e).evt 0x90 2) 0x90 0

/-- VERIFY is done (R468). -/
def execVerifyDone (s : State) : Out := .next (if s.get Tbl.RUN = 2 then verifyDone s else s)

/-- IMG_CHECK is done (R473). -/
def execImgCheckDone (s : State) : Out :=
  let i := s.get Tbl.SLOT
  .next (if s.get Tbl.RUN = 4 then
      ((tblEnd (blockRead s (slotBase i) 0x78000) 1).put TBL_IMG_STAT.RESULT (if imageValid s i then 1 else 2)).put
        TBL_IMG_STAT.SLOT i
    else s)

/-! ### The loader (R465, R466) -/

/-- The write of `TBL_LD_CTL`: START opens a load and abandons an open one (R465). -/
def loadCtlWrite (s : State) (k : Bool) (w : Nat) : Res :=
  specialWrite s k 0x90 0x048 w false (fun s w' =>
    let s1 := (s.put TBL_LD_CTL.INDEX (fieldOf w' TBL_LD_CTL.INDEX)).put TBL_LD_CTL.TTYPE (fieldOf w' TBL_LD_CTL.TTYPE)
    s1.on (fieldCode s k false 0x90 .k == 0 && fieldOf w' TBL_LD_CTL.START == 1) (fun s => (s.put TBL_LD_STAT.CODE 1).put TBL_LD_STAT.WORDS 0))

/-- A write of `TBL_LD_CTL` (R465). -/
def execLoadStart (a : Access) (w : BitVec 32) (s : State) : Out :=
  .next (regOp s a (fun s k => loadCtlWrite s k w.toNat))

/-- The partition that a load names in the inactive bank: its window address and its SIZE (R465). -/
def loadPartition (s : State) : Option (Nat × Nat) :=
  let b := inactiveBank s
  if s.get TBL_LD_CTL.TTYPE = 1 then some (bankBase b, 0x1000)
  else (findEntry s b (s.get TBL_LD_CTL.TTYPE) (s.get TBL_LD_CTL.INDEX)).map (fun e => (entryAddr s b e, entSize s b e))

/-- The inactive bank takes no writes: VERIFYING, COMMITTING or RETIRING (R465, R466). -/
def bankBusy (s : State) : Bool :=
  s.get TBL_BANK.INACT == 2 || s.get TBL_BANK.INACT == 5 || s.get TBL_BANK.INACT == 6

/-- A load is refused with a code (R465). -/
def loadRefuse (s : State) (code : Nat) : State := raiseEvent ((s.put TBL_LD_STAT.CODE code).evt 0x90 1) 0x90 1

/-- A word of an accepted load is written; the last ends the load (R465). -/
def loadWord (s : State) (w : Nat) : State :=
  let n := s.get TBL_LD_STAT.WORDS
  let s1 := ((s.setWord (s.get Tbl.LBASE + 4 * n) w).put TBL_BANK.INACT 1).put TBL_LD_STAT.WORDS (n + 1)
  if s.get Tbl.LWORDS ≤ n + 1 then (s1.put TBL_LD_STAT.CODE 2).evt 0x90 0 else s1

/-- The header check of the first word, in the order of R465. -/
def loadHeader (s : State) (w : Nat) : State :=
  if bankBusy s then loadRefuse s 6
  else match loadPartition s with
  | none => loadRefuse s 4
  | some (a, size) =>
    if w % 65536 ≠ s.get TBL_LD_CTL.TTYPE then loadRefuse s 5
    else if size < w / 65536 then loadRefuse s 3
    else if w / 65536 = 0 then (s.put TBL_LD_STAT.CODE 2).evt 0x90 0
    else loadWord ((s.put Tbl.LBASE a).put Tbl.LWORDS ((w / 65536 + 3) / 4)) w

/-- A word reaches the loader (R465). -/
def loadData (s : State) (w : Nat) : State :=
  match s.get TBL_LD_STAT.CODE with
  | 1 =>
    if s.get TBL_LD_STAT.WORDS = 0 then loadHeader s w
    else if bankBusy s then loadRefuse s 6 else loadWord s w
  | 2 => s.put TBL_LD_STAT.CODE 7
  | _ => s

/-- The write of `TBL_LD_DATA`, a K register that reads zero (R465, R489). -/
def loadDataWrite (s : State) (k : Bool) (w : Nat) : Res :=
  let code := if w = 0 ∧ k = false then 0 else if !k then 1 else if s.flag (PAGE_LOCK.CFG 0x90) then 2 else 0
  if !k || code ≠ 0 then (refusal s 0x90 code, code) else (loadData s w, 0)

/-- A write of `TBL_LD_DATA` (R465). -/
def execLoadData (a : Access) (w : BitVec 32) (s : State) : Out :=
  .next (regOp s a (fun s k => loadDataWrite s k w.toNat))

/-! ### Commit (R470 to R472) -/

/-- The barrier edge: the banks change places in the hive (R470). -/
def barrier (s : State) : State :=
  let s1 := ((s.put TBL_BANK.ACTIVE (inactiveBank s)).wrapInc TBL_BANK.GEN).put TBL_BANK.INACT 6
  curveReview (chgCommit ((tblEnd s1 1).evt 0x90 3))

/-- The barrier edge (R470); the charge engines, running sweeps and thermal curves follow the new bank (R231, R250,
R379, R471). -/
def execBarrier (s : State) : Out := .next (if s.get TBL_BANK.INACT = 5 then barrier s else s)

/-- A commit is abandoned: the inactive bank is VERIFIED as before (R470). -/
def commitAbandon (s : State) : State := (tblEnd s 3).put TBL_BANK.INACT 3

/-- The preparation has not completed within 1 ms: the commit is abandoned (R470). -/
def execCommitTimeout (s : State) : Out :=
  .next (if s.get TBL_BANK.INACT = 5 then raiseEvent (commitAbandon s) 0x90 2 else s)

/-- The Forager of comb `c` registers the barrier: it squashes, flips GEN and plans under the new tables; its prepared
entries replace S0 and S1, and ISSUED entries keep their own predictions (R168, R470). The INDEX of the first prepared
entry of a phase tells whether the issue decision before it lies closer than 400 ns (R156). -/
def foragerBarrier (s : State) (c : Fin 4) (prepared : List (Fin 16 × Timing)) : State :=
  if s.get (CMB_STAT.GEN c) = s.get TBL_BANK.ACTIVE then s
  else
    let s1 := (squashCount ((squashBus s c).each (combPhases c) squashPlans) c).each (combPhases c) clearSlots
    let s2 := modelCheck ((s1.put (CMB_STAT.GEN c) (s.get TBL_BANK.ACTIVE)).evt (0x10 + c) 7) c
    s2.each (prepared.filter (fun q => q.1.val / 4 == c.val)) (fun s q =>
      slotWrite (planCommit s q.1 q.2 (!nextIndex s q.1 false q.2.index)) q.1 q.2)

/-- Island `i` registers the barrier: 0 to 3 the Foragers, 4 housekeeping, 5 + n port n (R168, R274, R320, R470,
R471). -/
def islandBarrier (s : State) (i : Nat) (prepared : List (Fin 16 × Timing)) : State :=
  if s.get TBL_BANK.INACT ≠ 6 then s
  else if i < 4 then foragerBarrier s (fin4 i) prepared
  else if i = 4 then seqReview s
  else portReview (fetLoad s (i - 5)) (i - 5)

/-- An island registers the barrier (R471). -/
def execBarrierRegistered (i : Fin 53) (prepared : List (Fin 16 × Timing)) (s : State) : Out :=
  .next (islandBarrier s i prepared)

/-- Some island still reads the former bank: a Forager that has not registered the barrier, an old-generation ISSUED
entry, or a sequence started under it (R472). -/
def bankRead (s : State) : Bool :=
  let old := bankBase (inactiveBank s)
  (List.range 4).any (fun c => s.get (CMB_STAT.GEN c) != s.get TBL_BANK.ACTIVE)
    || (List.finRange 16).any (fun (p : Fin 16) => s.window[p].any (fun e => e.stage == 2 && e.gen != s.get TBL_BANK.ACTIVE))
    || (s.flag HKS_RUN.ACTIVE && decide (old ≤ s.get Hks.RUNAT) && decide (s.get Hks.RUNAT < old + 0x80000))

/-- No island reads the former bank any longer (R472). -/
def execReleased (s : State) : Out :=
  .next (if s.get TBL_BANK.INACT = 6 ∧ bankRead s = false then
      causeEnds ((s.put TBL_BANK.INACT 3).evt 0x90 4) 0x90 3
    else s)

/-- The former bank has not been released within 1 ms of the barrier (R472). -/
def execRetireTimeout (s : State) : Out :=
  .next (if s.get TBL_BANK.INACT = 6 then raiseHeld s 0x90 3 else s)

/-! ### Phases out and in (R475 to R477) -/

/-- A maintenance command is refused: RESULT 2 and WHY (R474, R490). -/
def maintRefuse (s : State) (op arg why : Nat) : State :=
  let s1 := ((s.put MAINT_STAT.RESULT 2).put MAINT_STAT.WHY why).put MAINT_STAT.OP op
  (s1.put MAINT_STAT.ARG arg).evt 0xB0 0

/-- A maintenance command is accepted. -/
def maintStart (s : State) (op arg : Nat) : State :=
  let s1 := (((s.put MAINT_STAT.BUSY 1).put MAINT_STAT.RESULT 0).put MAINT_STAT.WHY 0).put MAINT_STAT.OP op
  ((s1.put MAINT_STAT.ARG arg).put Mnt.OP op).put Mnt.ARG arg

/-- The phases of a comb that are run ahead: in RUN and in no drain (R144, R476). -/
def runAhead (s : State) (c : Nat) : List (Fin 16) :=
  (combPhases c).filter (fun p => plans s p && !degraded s p && s.get (Mnt.OUT p) == 0)

/-- The comb writes ANGLE of its run-ahead phases; the PD phase in duty keeps its own (R476). -/
def respace (s : State) (c : Nat) : State :=
  let l := runAhead s c
  s.each (l.zipIdx.filter (fun q => !s.flag (Ph.DUTY q.1))) (fun s q =>
    let s1 := s.put (PH_ILV.ANGLE q.1) ((512 * q.2 + l.length) / (2 * l.length))
    s1.on (s1.get (PH_STAT.STATE q.1) != 0)
      (fun s => s.putB (PH_STAT.WALKING q.1) (s.get (Ph.OFS q.1) != phTarget s q.1)))

/-- A comb is shown in maintenance while a phase of it is out or it is drained (R34, R476). -/
def maintShow (s : State) (c : Nat) : State :=
  s.putBit HIVE_MODE.MAINT c ((combPhases c).any (fun p => s.flag (PAGE_STAT.DRAINED (0x20 + p)))
    || s.flag (PAGE_STAT.DRAINED (0x10 + c)))

/-- The arbiter of comb `c` is in SUPPLEMENT or BATTERY_ONLY. -/
def onBattery (s : State) (c : Nat) : Bool := s.get (CMB_PP_STAT.MODE c) == 2 || s.get (CMB_PP_STAT.MODE c) == 3

/-- Why PHASE_OUT is refused, 0 where it is not (R475). -/
def phaseOutWhy (s : State) (p : Nat) : Nat :=
  if 16 ≤ p ∨ absent s (0x20 + p) = true then 10
  else if s.get (Mnt.OUT p) ≠ 0 then 4
  else if s.flag (Ph.DUTY p) then 6
  else if (runAhead s (p / 4)).map (·.val) = [p] ∧ onBattery s (p / 4) = true then 5 else 0

/-- The drained phase's current lies within its ZBAND: at the comb mark RUN is cleared, and the rest are respaced
(R475, R476). -/
def phaseAtZero (s : State) (p : Fin 16) : State :=
  if s.get (Mnt.OUT p) = 1 then
    let s1 := (s.put (Mnt.OUT p) 2).put (PH_CTL.RUN p) 0
    respace (s1.on (s.flag (PH_CTL.RUN p)) (fun s => runClear s p)) (p / 4)
  else s

/-- A drained phase has reached zero current at a comb mark (R475). -/
def execPhaseAtZero (p : Fin 16) (s : State) : Out := .next (phaseAtZero s p)

/-- Every present phase of a comb is out. -/
def combOut (s : State) (c : Nat) : Bool :=
  (combPhases c).all (fun p => absent s (0x20 + p) || s.get (Mnt.OUT p) == 3)

/-- The drain of a comb is complete (R478). -/
def combDrained (s : State) (c : Nat) : State :=
  maintEnd (maintShow (((s.put (PAGE_STAT.DRAINED (0x10 + c)) 1).putBit MAINT_PH_OUT.COMBS c true).evt 0xB0 1) c) 1

/-- The phase runs or its current decays: it is not at rest (R130, R476). -/
def conducting (s : State) (p : Nat) : Bool := s.get (PH_STAT.STATE p) == 1 || s.get (PH_STAT.STATE p) == 2

/-- The phase is at rest and the walks are complete: it is out (R476) (DEDUCED, log entry 54). -/
def phaseOut (s : State) (p : Fin 16) : State :=
  let c := p.val / 4
  if s.get (Mnt.OUT p) = 2 ∧ conducting s p = false
      ∧ (combPhases c).all (fun q => !(conducting s q && s.flag (PH_STAT.WALKING q))) = true then
    let s1 := ((s.put (Mnt.OUT p) 3).put (PAGE_STAT.DRAINED (0x20 + p)) 1).putBit MAINT_PH_OUT.PHASES p true
    let s2 := maintShow (s1.evt 0xB0 1) c
    if s.flag MAINT_STAT.BUSY && s.get Mnt.OP == 1 && s.get Mnt.ARG == p.val then maintEnd s2 1
    else if s.flag MAINT_STAT.BUSY && s.get Mnt.OP == 3 && s.get Mnt.ARG == c && combOut s2 c then combDrained s2 c
    else s2
  else s

/-- A phase counts as out (R476). -/
def execPhaseOutComplete (p : Fin 16) (s : State) : Out := .next (phaseOut s p)

/-- A phase returns to service: RUN is set, its comb is respaced, and its share is ramped up from what it carries, zero at
rest (R476, R477). -/
def phaseBack (s : State) (p : Fin 16) : State :=
  let c := p.val / 4
  let s0 := (s.put (Mnt.BACK p) 1).on (s.get (Mnt.OUT p) != 1) (·.putI (Mnt.SHARE p) 0)
  let s1 := ((s0.put (Mnt.OUT p) 0).put (Mnt.BYC p) 0).put (PAGE_STAT.DRAINED (0x20 + p)) 0
  let s2 := (s1.putBit MAINT_PH_OUT.PHASES p false).on (s.get (Mnt.OUT p) == 3) (·.evt 0xB0 1)
  let s3 := s2.on (!s.flag (PH_CTL.RUN p)) (fun s => runSet (s.put (PH_CTL.RUN p) 1) p)
  maintShow (respace s3 c) c

/-- The plant model of its comb describes the phase (R148, R477). -/
def modelDescribes (s : State) (p : Nat) : Bool :=
  match (modelTable s (p / 4)).filter (modelForm s) with
  | some a => (s.leNat (a + 6) 2).testBit (p % 4)
  | none => false

/-- The phase could not leave its hold state (R130, R483). -/
def cannotRun (s : State) (p : Nat) : Bool :=
  s.get (Ph.GD p) != 0 || phClockLost s p || s.flag (Ph.FWT p) || phActionHold s p || stageShutdown s p

/-! ### Combs, sensors, ports and converters (R478 to R483) -/

/-- Why COMB_DRAIN is refused (R475, R478). -/
def combDrainWhy (s : State) (c : Nat) : Nat :=
  if 4 ≤ c ∨ absent s (0x10 + c) = true then 10
  else if s.flag (Mnt.DRAIN c) then 4
  else if onBattery s c then 5
  else if (combPhases c).any (fun p => s.flag (Ph.DUTY p)) then 6 else 0

/-- COMB_DRAIN: the comb leaves its roster, its target goes to zero, and every phase is taken out (R478). -/
def combDrain (s : State) (c : Nat) : State :=
  let s1 := reportSend (s.put (Mnt.DRAIN c) 1)
  let s2 := s1.each ((combPhases c).filter (fun (p : Fin 16) => !absent s (0x20 + p) && s.get (Mnt.OUT p) == 0))
    (fun t p => (((t.putI (Mnt.SHARE p) (heldShare s p)).put (Mnt.OUT p) 1).put (Mnt.BYC p) 1))
  if combOut s2 c then combDrained s2 c else s2

/-- COMB_RESTORE: the phases, the gang and roster, and the target come back; where a phase cannot run, the comb stays
drained (R479, R483). -/
def combRestore (s : State) (c : Nat) : State :=
  let l := (combPhases c).filter (fun (p : Fin 16) => s.get (Mnt.OUT p) == 3)
  if l.any (fun p => cannotRun s p) then restoreFails s
  else
    let s1 := ((s.put (PAGE_STAT.DRAINED (0x10 + c)) 0).putBit MAINT_PH_OUT.COMBS c false).evt 0xB0 1
    maintEnd (maintShow (reportSend (s1.each l phaseBack |>.put (Mnt.DRAIN c) 0)) c) 1

/-- The sets of `MAINT_SENS` and `MAINT_PORT`. -/
def sensorMark (s : State) (k : Nat) (out : Bool) : State := (s.putBit (MAINT_SENS.OUT (k / 32)) (k % 32) out).evt 0xB0 1
def portMark (s : State) (n : Nat) (held : Bool) : State :=
  (s.putBit (if n < 32 then MAINT_PORT0.HOLD else MAINT_PORT1.HOLD) (n % 32) held).evt 0xB0 1

/-- Why SENSOR_OUT is refused (R480). -/
def sensorOutWhy (s : State) (k : Nat) : Nat :=
  if 88 ≤ k ∨ (thPages k).any (absent s) = true then 10
  else if s.flag (Ths.OUT k) then 4
  else if (sdLevel s k).isSome && s.get (THS_CFG.EST k) == 0 then 7 else 0

/-- The held port is free again (R481, R483). -/
def portFreed (s : State) (n : Fin 48) : State :=
  portResume (portMark { (s.put (Port.HELD n) 0) with staged := s.staged.set n [] } n false) n

/-- PORT_RELEASE applies every staged write, in the order written, on one edge; a changed model keeps the sum of its
stage excesses (R481). -/
def portRelease (s : State) (n : Fin 48) : State :=
  let s1 := s.each s.staged[n] (fun s q => storeKind s q.2 (regLayout (0x30 + n) q.1) true)
  let s2 := s1.on (s1.get (PORT_TM.MODEL n) != s.get (PORT_TM.MODEL n)) (fun s => modelKeep s n)
  let s3 := portFreed (s2.put (PORT_CTL.EN n) (s.get (PORT_CTL.EN n))) n
  enChanged (s3.put (PORT_CTL.EN n) (s1.get (PORT_CTL.EN n))) n (s.flag (PORT_CTL.EN n))

/-- Converter `x` serves a lane. -/
def convLane (s : State) (x : Nat) : Option Nat := (List.range 4).find? (fun m => laneConv s m == x)

/-- Why CONV_OUT is refused (R482). -/
def convOutWhy (s : State) (x : Nat) : Nat :=
  if 5 ≤ x then 10
  else if s.bit MAINT_CONV.OUT x || s.flag HKS_STAT.CAL_BUSY then 4
  else if s.get HKS_STAT.SPARE = 7 then 8 else 0

/-- CONV_OUT: a working converter hands its lane to the spare as in steps 0 to 2 of R334 (R482). -/
def convOut (s : State) (x : Nat) : State :=
  match convLane s x with
  | some m => refReview (calLane ((s.put Mnt.CV 1).put HKS_STAT.CAL_BUSY 1) m)
  | none => maintEnd (convMark (convRole (s.on (s.get HKS_STAT.SPARE == x) (·.put HKS_STAT.SPARE 7)) x 6) x true) 1

/-- Perform an accepted command (R475 to R482). -/
def maintPerform (s : State) (op arg : Nat) : State :=
  match op with
  | 1 => (s.putI (Mnt.SHARE arg) (heldShare s arg)).put (Mnt.OUT arg) 1
  | 2 =>
    let p : Fin 16 := Fin.ofNat 16 arg
    if cannotRun s p then restoreFails s else maintEnd (phaseBack s p) 1
  | 3 => combDrain s arg
  | 4 => combRestore s arg
  | 5 => maintEnd (sensorMark (s.put (Ths.OUT arg) 1) arg true) 1
  | 6 => maintEnd (sensorMark (s.put (Ths.OUT arg) 0) arg false) 1
  | 7 => maintEnd (portMark (s.put (Port.HELD arg) 1) arg true) 1
  | 8 => maintEnd (portRelease s (Fin.ofNat 48 arg)) 1
  | 9 => convOut s arg
  | _ => calConvert ((s.put Mnt.CV 2).put HKS_STAT.CAL_BUSY 1) arg

/-- Why a command is refused for its argument, 0 where it is not; an OP that R474 does not list is refused with
STATE (DEDUCED, log entry 54). -/
def maintWhy (s : State) (op arg : Nat) : Nat :=
  match op with
  | 1 => phaseOutWhy s arg
  | 2 =>
    if 16 ≤ arg ∨ absent s (0x20 + arg) = true then 10
    else if s.get (Mnt.OUT arg) ≠ 3 ∨ s.flag (Mnt.DRAIN (arg / 4)) = true then 4
    else if !modelDescribes s arg then 9 else 0
  | 3 => combDrainWhy s arg
  | 4 =>
    if 4 ≤ arg ∨ absent s (0x10 + arg) = true then 10
    else if !s.bit MAINT_PH_OUT.COMBS arg then 4
    else if (modelTable s arg).all (fun a => !modelForm s a) then 9 else 0
  | 5 => sensorOutWhy s arg
  | 6 => if 88 ≤ arg then 10 else if !s.flag (Ths.OUT arg) then 4 else 0
  | 7 =>
    if 48 ≤ arg ∨ absent s (0x30 + arg) = true then 10
    else if portKind arg = 4 ∨ s.flag (Port.HELD arg) = true then 4 else 0
  | 8 => if 48 ≤ arg then 10 else if !s.flag (Port.HELD arg) then 4 else 0
  | 9 => convOutWhy s arg
  | 10 =>
    if 5 ≤ arg then 10
    else if !s.bit MAINT_CONV.OUT arg || s.flag HKS_STAT.CAL_BUSY then 4 else 0
  | _ => 4

/-- A command of `MAINT_CMD`: refused with BUSY, MODE or its own cause, or performed (R474). -/
def maintCommand (s : State) (op arg : Nat) : State :=
  let why := if s.flag MAINT_STAT.BUSY then 1 else if !inFull s then 2 else maintWhy s op arg
  if why ≠ 0 then maintRefuse s op arg why else maintPerform (maintStart s op arg) op arg

/-- The write of `MAINT_CMD` (R474, R490): GO reads zero; a locked page refuses the command (DEDUCED, log entry 55). -/
def maintCmdWrite (s : State) (k : Bool) (w : Nat) : Res :=
  let locked := k && s.flag (PAGE_LOCK.CFG 0xB0) && w.testBit 31
  let s0 := s.on locked (fun s => maintRefuse s (w / 0x1000000 % 16) (w % 65536) 3)
  specialWrite s0 k 0xB0 0x040 w false (fun s w' =>
    let s1 := (s.put MAINT_CMD.OP (fieldOf w' MAINT_CMD.OP)).put MAINT_CMD.ARG (fieldOf w' MAINT_CMD.ARG)
    s1.on (fieldCode s k false 0xB0 .k == 0 && fieldOf w' MAINT_CMD.GO == 1) (fun s => maintCommand s (s.get MAINT_CMD.OP) (s.get MAINT_CMD.ARG)))

/-- A write of `MAINT_CMD` with GO, OP and ARG. -/
def maintOp (s : State) (a : Access) (op : Nat) (arg : BitVec 16) : State :=
  regOp s a (fun s k => maintCmdWrite s k (0x80000000 + 0x1000000 * op + arg.toNat))

/-- PHASE_OUT (R475). -/
def execPhaseOut (a : Access) (arg : BitVec 16) (s : State) : Out := .next (maintOp s a 1 arg)

/-- PHASE_IN (R477). -/
def execPhaseIn (a : Access) (arg : BitVec 16) (s : State) : Out := .next (maintOp s a 2 arg)

/-- COMB_DRAIN (R478). -/
def execCombDrain (a : Access) (arg : BitVec 16) (s : State) : Out := .next (maintOp s a 3 arg)

/-- COMB_RESTORE (R479). -/
def execCombRestore (a : Access) (arg : BitVec 16) (s : State) : Out := .next (maintOp s a 4 arg)

/-- SENSOR_OUT (R480). -/
def execSensorOut (a : Access) (arg : BitVec 16) (s : State) : Out := .next (maintOp s a 5 arg)

/-- SENSOR_IN (R480). -/
def execSensorIn (a : Access) (arg : BitVec 16) (s : State) : Out := .next (maintOp s a 6 arg)

/-- PORT_HOLD (R481). -/
def execPortHold (a : Access) (arg : BitVec 16) (s : State) : Out := .next (maintOp s a 7 arg)

/-- PORT_RELEASE (R481). -/
def execPortRelease (a : Access) (arg : BitVec 16) (s : State) : Out := .next (maintOp s a 8 arg)

/-- CONV_OUT (R482). -/
def execConvOut (a : Access) (arg : BitVec 16) (s : State) : Out := .next (maintOp s a 9 arg)

/-- CONV_IN (R482). -/
def execConvIn (a : Access) (arg : BitVec 16) (s : State) : Out := .next (maintOp s a 10 arg)

/-- The running drain is abandoned: its channel returns to service (R483). -/
def drainReturns (s : State) : State :=
  match s.get Mnt.OP with
  | 1 => phaseBack s (Fin.ofNat 16 (s.get Mnt.ARG))
  | 3 =>
    let c := s.get Mnt.ARG
    (s.each ((combPhases c).filter (fun (p : Fin 16) => s.flag (Mnt.BYC p))) phaseBack).put (Mnt.DRAIN c) 0
  | 9 => calEnd (s.put Mnt.CV 0)
  | _ => s

/-- A drain runs: PHASE_OUT, COMB_DRAIN or CONV_OUT (R483). -/
def drainRuns (s : State) : Bool :=
  s.flag MAINT_STAT.BUSY && (s.get Mnt.OP == 1 || s.get Mnt.OP == 3 || s.get Mnt.OP == 9)

/-- DRAIN_MAX has passed: since the registration of the drain that runs, or since that of the hold of a port, whose
staged writes are discarded (R483). -/
def drainTimeout (s : State) (held : Option (Fin 48)) : State :=
  match held with
  | some n => if s.flag (Port.HELD n) then portFreed s n else s
  | none =>
    if drainRuns s then
      raiseEvent (maintEnd (drainReturns s) 4) 0xB0 0
    else s

/-- A drain or a hold reaches DRAIN_MAX (R483). -/
def execDrainTimeout (held : Option (Fin 48)) (s : State) : Out := .next (drainTimeout s held)

end Sys2Proof.Machine
end

