-- ==== Sys2Proof/Machine/Clock.lean ====
section
/-! DEFINITION. Clock supervision and the reference (R26 to R30, R42). -/

namespace Sys2Proof.Machine

/-! ### The reference (R28 to R30, R42) -/

/-- The field of `CLK_STAT` that shows the validity of reference 0 REFIN or 1 the crystal (R29). -/
def refShown (i : Nat) : Fld := if i = 0 then CLK_STAT.REFIN_VALID else CLK_STAT.XTAL_VALID

/-- The source that a return would take under PREF (R29). -/
def refPick (s : State) : Option Nat :=
  let order : List Nat := match s.get CLK_CTL.PREF with
    | 1 => [0]
    | 2 => [1]
    | _ => [0, 1]
  order.find? (fun i => s.flag (Clk.REF_VALID i))

/-- The source of a return has been valid for 100 ms (R29). -/
def refReady (s : State) : Bool :=
  match refPick s with
  | some i => s.get (Clk.READY_T i) == 100
  | none => false

/-- RET_READY follows its condition; each rise sets EVT bit 0 of the CLK page (R29, R30). -/
def readyReview (s : State) : State :=
  if refReady s then
    (if s.flag CLK_STAT.RET_READY then s else (s.put CLK_STAT.RET_READY 1).evt 0x01 0)
  else s.put CLK_STAT.RET_READY 0

/-- A reference is judged valid or invalid: its 100 ms start anew (R29). -/
def refValid (s : State) (i : Nat) (valid : Bool) : State :=
  if s.flag (Clk.REF_VALID i) = valid then s.put (refShown i) (bitOf valid)
  else ((s.putB (Clk.REF_VALID i) valid).put (Clk.READY_T i) 0).put (refShown i) (bitOf valid)

/-- The reference monitor judges a source that is not in use newly valid or invalid (R29). -/
def execReferenceValidityChange (xtal valid : Bool) (s : State) : Out :=
  let i := bitOf xtal
  .next (if s.get CLK_STAT.SRC = i then s else readyReview (refValid s i valid))

/-- The source of a return has been valid continuously for 100 ms (R29, R30). -/
def execRetReady (s : State) : Out :=
  .next (match refPick s with
    | some i => readyReview (s.put (Clk.READY_T i) 100)
    | none => s)

/-- The PLLs move through holdover to the backup oscillator, on which the device is not eligible as queen (R28, R445). -/
def onBackup (s : State) : State :=
  swReview (readyReview ((s.put CLK_STAT.SRC 2).put CLK_STAT.HOLDOVER 0))

/-- The external reference in use is lost: through holdover to the backup oscillator, with REF_LOST (R28, R29). -/
def refLost (s : State) : State :=
  if s.get CLK_STAT.SRC < 2 then
    let s1 := refValid s (s.get CLK_STAT.SRC) false
    raiseHeld ((onBackup s1).inc CLK_STAT.LOSSES) 0x01 0
  else s

/-- The reference in use is lost (R28). -/
def execRefLost (s : State) : Out := .next (refLost s)

/-- The write of `CLK_CTL`: RETURN moves the PLLs to the external source or is refused (R29, R30)
(DEDUCED, log entry 12). -/
def clkCtlWrite (s : State) (k : Bool) (w : Nat) : Res :=
  specialWrite s k 0x01 0x044 w false (fun s w' =>
    let s1 := readyReview (s.put CLK_CTL.PREF (fieldOf w' CLK_CTL.PREF))
    if fieldOf w' CLK_CTL.RETURN = 0 then s1
    else match refPick s1 with
    | some i =>
      if s1.flag CLK_STAT.RET_READY && s1.get CLK_STAT.SRC == 2 then
        swReview (causeEnds (((s1.put CLK_STAT.SRC i).put CLK_STAT.HOLDOVER 0).put CLK_STAT.RET_RESULT 1) 0x01 0)
      else s1.put CLK_STAT.RET_RESULT 2
    | none => s1.put CLK_STAT.RET_RESULT 2)

/-- A write of `CLK_CTL` (R30). -/
def execClkReturn (a : Access) (w : BitVec 32) (s : State) : Out :=
  .next (regOp s a (fun s k => clkCtlWrite s k w.toNat))

/-- The source that R42 takes: `refinAt` and `xtalAt` are the microseconds from t0 at which each became valid
(DEDUCED, log entry 12). -/
def refChoice (refinAt xtalAt : Option Nat) : Nat :=
  match refinAt, xtalAt with
  | some r, some x => if r ≤ 1000 then 0 else if 5000 ≤ x ∧ 5000 ≤ r then 2 else if x ≤ r then 1 else 0
  | some r, none => if r < 5000 then 0 else 2
  | none, some x => if x < 5000 then 1 else 2
  | none, none => 2

/-- Step 1 of START-UP: the reference is chosen; a boot with none raises REF_LOST without a count in LOSSES
(R42, R68). -/
def execReferenceSelect (refinAt xtalAt : Option Nat) (s : State) : Out :=
  .next (if s.flag Boot.HELD || s.get Boot.STEP != 0 then s
    else
      let early := fun (t : Option Nat) => t.any (fun t => decide (t < 5000))
      let s1 := refValid (refValid (s.put Boot.STEP 1) 0 (early refinAt)) 1 (early xtalAt)
      let src := refChoice refinAt xtalAt
      let s2 := readyReview (s1.put CLK_STAT.SRC src)
      if src = 2 then raiseHeld s2 0x01 0 else s2)

/-! ### Island clocks (R26, R27) -/

/-- What the device does when an island's clock is lost (R27). -/
def clockLost (s : State) (i : ClockIsland) : State :=
  match i with
  | .phase p => raiseHeld (phStop s p true) (0x20 + p.val) 2
  | .port n => raiseHeld s (0x30 + n.val) 6
  | .forager c => raiseHeld s (0x10 + c.val) 0
  | .combPll c =>
    raiseHeld ((combSquash s c).each (combPhases c) (fun s q => phHold s q true false)) (0x10 + c.val) 1
  | .housekeeping => raiseHeld s 0x68 0
  | .hive => s.put Boot.REC_HIVE 1
  | .swarmPort e => raiseHeld (swPortDown s (bitOf (!e))) 0x98 0
  | .pdPhy c => raiseHeld s (0x60 + c.val) 2

/-- A clock monitor trips (R26, R27). -/
def execClockMonitorTrip (i : ClockIsland) (s : State) : Out :=
  .next (if s.flag (Clk.LOST (clockIdx i)) then s else clockLost (s.put (Clk.LOST (clockIdx i)) 1) i)

/-- What waited for a port's clock takes place: the latch of a short circuit, class actions that are due, enable
changes, a change of the VBUS switch (R27, R271, R279). -/
def portClockBack (s : State) (n : Nat) : State :=
  if portClockLost s n then s
  else
    let s1 := s.on (s.flag (Port.SHORT_PEND n)) (fun s => raiseEvent (s.put (Port.SHORT_PEND n) 0) (0x30 + n) 0)
    let due := (bitsOf 4 (s1.get (Port.ACT_PEND n))).filter (fun b => classActive s1 (0x30 + n) (b + 1))
    let s2 := (s1.put (Port.ACT_PEND n) 0).each due (fun s b =>
      s.each ((List.range 16).filter (fun i => s.get (Flt.STAND (0x30 + n) i) == b + 1))
        (fun s i => actionEffect s (0x30 + n) (b + 1) i (causeClass (0x30 + n) i != some (b + 1))))
    let s3 := s2.on (portKind n == 4) (fun s => pdSwitchBack s (n / 12))
    portResume s3 n

/-- The condition of a lost clock ends (R27). -/
def clockBack (s : State) (i : ClockIsland) : State :=
  match i with
  | .phase p => clockRecause (causeEnds s (0x20 + p.val) 2) p
  | .port n => portClockBack (causeEnds s (0x30 + n.val) 6) n
  | .forager c => causeEnds s (0x10 + c.val) 0
  | .combPll c => ((causeEnds s (0x10 + c.val) 1).each (combPhases c) clockRecause).each (List.range 12)
      (fun s m => portClockBack s (12 * c.val + m))
  | .housekeeping => causeEnds s 0x68 0
  | .hive => s
  | .swarmPort e => if s.flag (Clk.LOST (clockIdx (.swarmPort (!e)))) then s else causeEnds s 0x98 0
  | .pdPhy c => causeEnds s (0x60 + c.val) 2

/-- A lost clock returns (R27). -/
def execClockReturn (i : ClockIsland) (s : State) : Out :=
  .next (if s.flag (Clk.LOST (clockIdx i)) then clockBack (s.put (Clk.LOST (clockIdx i)) 0) i else s)

end Sys2Proof.Machine
end

