-- ==== Sys2Proof/Machine/Boot.lean ====
section
/-! DEFINITION. Supplies, resets, START-UP, the host claim, SAFE-BOOT and hive-sleep (R44 to R48, R55 to R61, R67 to
R73, R76 to R78). Step 3 of START-UP stands in the file of boot images. -/

namespace Sys2Proof.Machine

/-! ### Supplies (R44, R45, R47) -/

/-- The pre-regulator starts; the OR elements conduct through their body diodes still (R44, R45). -/
def execPreRegulatorStart (s : State) : Out :=
  .next (if s.flag Pwr.PREREG then s else (s.put Pwr.PREREG 1).put Pwr.IDEAL 0)

/-- The OR elements switch to ideal-diode conduction (R44, R45). -/
def execIdealDiodeSwitch (s : State) : Out := .next (if s.flag Pwr.PREREG then s.put Pwr.IDEAL 1 else s)

/-- The I/O rail moves from VIOI to VDDIO (R47). -/
def execIoRailToVddio (s : State) : Out := .next (s.put Pwr.IO_VDDIO 1)

/-- The I/O rail moves back to VIOI; IO_FALLBACK is raised while CORE_EN is high (R47, R398). -/
def execIoRailToVioi (s : State) : Out :=
  .next (if s.flag Pwr.IO_VDDIO then
      (s.put Pwr.IO_VDDIO 0).on (s.flag Pin.CORE_EN) (fun s => raiseEvent s 0x02 2)
    else s)

/-! ### Resets (R48, R55, R59 to R61) -/

/-- Power-on reset asserts (R55). -/
def execPowerOnReset (s : State) : Out :=
  .next ((((triggerReset s 1).put Pwr.PREREG 0).put Pwr.IDEAL 0).put Pwr.IO_VDDIO 0)

/-- Power-on reset is released; RST_N counts as qualified high (R55, R61). -/
def execPorRelease (s : State) : Out :=
  .next (if s.flag Boot.POR then
      (((s.put Boot.POR 0).put Pin.RST_LOW 0).put Pin.RST_USED 0).put Pin.RST_COUNTED 0
    else s)

/-- VDDC is lost while a domain draws from it: every phase is held without a clock, so that no squash of a Forager is
relayed, and the supply-loss reset follows (R48, R59, R157, R395) (DEDUCED, log entry 13). -/
def vddcLoss (s : State) : State :=
  if s.get Pwr.VDDC_DOM = 0 then s
  else
    let s1 := s.each (List.finRange 16) (fun s p => phHold s p true false)
    triggerReset (s1.put Boot.REC_VDDC 1) 2

/-- VDDC falls below 0.78 V (R48). -/
def execVddcLoss (s : State) : Out := .next (vddcLoss s)

/-- A qualified assertion of RST_N that has not caused its reset: it resets the device, or is refused and counted once
while the device drives ERR_N (R61) (DEDUCED, log entry 13). -/
def pinReview (s : State) : State :=
  if !s.flag Pin.RST_LOW || s.flag Pin.RST_USED then s
  else if !s.flag PINS_ERR.DRIVE then triggerReset (s.put Pin.RST_USED 1) 3
  else if s.flag Pin.RST_COUNTED then s
  else raiseEvent ((s.put Pin.RST_COUNTED 1).inc HIVE_BOOT_STAT.PIN_REFUSED) 0x00 0

/-- RST_N is qualified low (R59, R61). -/
def execRstNAssert (s : State) : Out :=
  .next (if s.flag Boot.POR || s.flag Pin.RST_LOW then s
    else pinReview (((s.put Pin.RST_LOW 1).put Pin.RST_USED 0).put Pin.RST_COUNTED 0))

/-- RST_N is qualified high: the assertion ends (R61). -/
def execRstNQualifiedHigh (s : State) : Out :=
  .next (((s.put Pin.RST_LOW 0).put Pin.RST_USED 0).put Pin.RST_COUNTED 0)

/-- The quiet period of a class ends: a hold that it ends is no cause any more (R142), a port that C2 has kept from
its start judges its conditions again (R390), what an injected SD_DIE has turned off starts again (R395), and a refused assertion of RST_N that is still present resets the
device where the clearing releases ERR_N (R61, R389). -/
def execQuietPeriodEnd (page : BitVec 8) (cls : Fin 4) (s : State) : Out :=
  let s1 := quietEnds s page.toNat (cls + 1)
  let s2 := s1.on (0x30 ≤ page.toNat && page.toNat < 0x60 && ((cls.val == 1 && ownActed s page.toNat)
      || s.flag (Port.HOT_ACT (page.toNat - 0x30))))
    (fun s => portReview s (page.toNat - 0x30))
  let s2 := s2.on (dieShutdown s && !dieShutdown s2) dieRestart
  .next (pinReview (s2.each (List.finRange 16) recause))

/-- The internal reset is released, which is t0 of START-UP (R60, R68). -/
def execResetRelease (s : State) : Out :=
  .next (if s.flag Boot.HELD && !s.flag Boot.POR then (s.put Boot.HELD 0).put Boot.STEP 0 else s)

/-- Step 2 of START-UP: the access paths are served, the INT pins take their state, and a pin session opens while
KEEPER_EN is high (R68, R92, R104, R416). -/
def execHivePllLock (s : State) : Out :=
  .next (if s.flag Boot.HELD || s.get Boot.STEP != 1 then s
    else
      let s1 := ((s.put Boot.STEP 2).put Boot.PLL 1).put Pin.HRDY 1
      intcReview (s1.on (s1.flag Pin.KEEPER_EN) pinOpen))

/-! ### Release of combs (R69, R70, R199, R279) -/

/-- A comb's domain becomes live: its phases leave IDLE where RUN is 1, its Forager judges its model, and its ports
judge their conditions (R131, R148, R199, R279). -/
def releaseComb (s : State) (c : Fin 4) : State :=
  let s1 := s.each ((combPhases c).filter (fun (p : Fin 16) => s.flag (PH_CTL.RUN p))) (fun s p => runSet s p)
  let s2 := s1.on (s1.flag (CMB_CTL.EN c)) (fun s => modelCheck s c)
  s2.each (List.range 12) (fun s m => portReview s (12 * c.val + m))

/-- A counted claim or a hand-over proceeds: CORE_EN is driven high (R69). -/
def claimProceeds (s : State) (kind : Nat) : State :=
  (((s.put Boot.CLAIM kind).put Boot.RELEASE 1).put Pwr.VDDC_OK 0).put Pin.CORE_EN 1

/-- Ports of the combs that do not run in SAFE-BOOT turn off, and feeders of the one that does which are not marked for it
(R70). -/
def safePortsOff (s : State) (c : Nat) : State :=
  s.each ((List.range 48).filter (fun n => portKind n != 4 && (n / 12 != c
    || (portKind n == 3 && !s.flag (PORT_CTL.SAFE n) && gateUp s n)))) (fun s n => portOff s n)

/-- In SAFE-BOOT a PD port is sink only, with Rd on CC, no VBUS sourcing and no contract (R70, R304). -/
def pdSafe (s : State) (c : Nat) : State :=
  let cc := s.get (PDP_STAT.CC_STATE c)
  if cc = 6 then pdUnattached (pdQuiet (pdOpen s c) c) c
  else if cc = 2 ∨ cc = 4 then pdUnattached s c
  else (s.put (PDP_CTL.CONTRACT c) 0).put (Pd.REQ c) 0

/-- In SAFE-BOOT REACT acts as 0, so a reaction timer that runs has expired (R386). -/
def reactNow (s : State) : State :=
  s.each allocatedPages (fun s p => timerExpires (timerExpires s p 2) p 3)

/-- Entry to SAFE-BOOT from START-UP; a late claim acts as a hand-over (R69, R70, R374) (DEDUCED, log entry 14). -/
def enterSafe (s : State) : State :=
  if s.get HIVE_MODE.MODE ≠ 0 then s
  else
    let c := s.get HIVE_BOOT_STAT.SAFE_COMB
    let s1 := (safePortsOff (lockLevels (s.put HIVE_MODE.MODE 2)) c).each (List.range 4) pdSafe
    let s2 := swReview (releaseComb (reactNow s1) (Fin.ofNat 4 c))
    s2.on (s2.flag HIVE_BOOT_STAT.LATE_CLAIM) (fun s => claimProceeds s 2)

/-! ### START-UP and the claim (R58, R68, R69) -/

/-- Steps 5 and 6 of START-UP: ERR_N is released if no fault is uncleared, a held claim proceeds, and dead-battery boot
enters SAFE-BOOT (R41, R68, R73, R392). -/
def firstEvaluation (s : State) : State :=
  if s.flag Boot.HELD || s.get Boot.STEP != 4 then s
  else
    let s1 := pinReview (errUpdate ((s.put Boot.STEP 5).put Err.HOLD 0) 0)
    if s1.flag Boot.HELD then s1
    else if s1.get Boot.CLAIM = 1 then claimProceeds s1 1
    else if s1.flag HIVE_BOOT_STAT.DEADBAT || s1.flag Boot.WINDOW then enterSafe s1
    else s1

/-- Step 5 of START-UP (R68). -/
def execFirstEvaluation (s : State) : Out := .next (firstEvaluation s)

/-- Step 7 of START-UP: with no claim counted the device enters SAFE-BOOT; a claim whose VDDC check still runs defers
the decision (R68). -/
def claimWindowEnd (s : State) : State :=
  if s.flag Boot.HELD || s.flag Boot.WINDOW then s
  else
    let s1 := s.put Boot.WINDOW 1
    if s.get Boot.CLAIM = 0 && s.get Boot.STEP == 5 then enterSafe s1 else s1

/-- The end of always-on cycle 65,536 (R68). -/
def execClaimWindowEnd (s : State) : Out := .next (claimWindowEnd s)

/-- A claim or hand-over: code 0xC1A1 through the host port (R69, R72) (DEDUCED, log entry 14). -/
def claim (s : State) : State :=
  if inFull s then s
  else
    let s1 := s.on (s.flag Boot.WINDOW) (·.put HIVE_BOOT_STAT.LATE_CLAIM 1)
    if s.flag Boot.RELEASE then s1
    else if inSafeBoot s then claimProceeds s1 2
    else if s.flag Boot.WINDOW then s1
    else if s.get Boot.STEP = 5 then claimProceeds s1 1
    else s1.put Boot.CLAIM 1

/-- The domains take VDDC (R48, R69). -/
def execDomainTakesVddc (s : State) : Out :=
  .next (if s.flag Pin.CORE_EN && !s.flag Pwr.VDDC_OK then (s.put Pwr.VDDC_OK 1).put Pwr.VDDC_DOM 31 else s)

/-- PD ports that stand unattached start anew in the state that ROLE reaches, for SAFE-BOOT has ended (R70, R289). -/
def pdRestart (s : State) : State :=
  s.each (List.range 4) (fun s c =>
    s.on (s.flag (PDP_CTL.EN c) && (s.get (PDP_STAT.CC_STATE c) == 1 || s.get (PDP_STAT.CC_STATE c) == 2))
      (fun s => pdUnattached s c))

/-- Steps 4 and 5 of the claim: every comb that does not run is released, and the mode is FULL (R69, R72, R374,
R432). -/
def combRelease (s : State) : State :=
  if !s.flag Boot.RELEASE || !s.flag Pwr.VDDC_OK then s
  else
    let dark := (List.finRange 4).filter (fun (c : Fin 4) => !combLive s c)
    let s1 := lockLevels (((s.put HIVE_MODE.MODE 1).put HIVE_BOOT_STAT.CLAIMED 1).put Wdg.HOSTNEXT 1)
    let s2 := ((s1.put Boot.RELEASE 0).put Boot.CLAIM 0).each dark releaseComb
    swReview ((pdRestart s2).each (List.range 48) (fun s n => portReview s n))

/-- The combs are released and the mode is FULL (R69). -/
def execCombRelease (s : State) : Out := .next (combRelease s)

/-- CORE_EN falls with CORE_FAIL set, and a claim whose VDDC check runs is refused: it counts as none (R58, R68). -/
def claimRefused (s : State) : State :=
  let s1 := (s.put Pin.CORE_EN 0).put HIVE_BOOT_STAT.CORE_FAIL 1
  if s.flag Boot.RELEASE && !s.flag Pwr.VDDC_OK then
    let s2 := (s1.put Boot.RELEASE 0).put Boot.CLAIM 0
    if s.get HIVE_MODE.MODE = 0 && (s.flag Boot.WINDOW || s.flag HIVE_BOOT_STAT.DEADBAT) then enterSafe s2 else s2
  else s1

/-- VDDC has not met its condition within 20 ms: the claim is refused; a wake ends in a supply-loss reset (R58, R68,
R398). -/
def coreFail (s : State) : State :=
  if s.get Sleep.STATE ≠ 0 then triggerReset (raiseEvent ((s.put Pin.CORE_EN 0).put HIVE_BOOT_STAT.CORE_FAIL 1) 0x02 0) 2
  else if !s.flag Boot.RELEASE || s.flag Pwr.VDDC_OK then s
  else
    raiseEvent (claimRefused s) 0x02 0

/-- The VDDC check of R58 fails. -/
def execCoreFail (s : State) : Out := .next (coreFail s)

/-- 60 s of stable service have passed: the attempt counter of the booted slot is cleared (R67). -/
def execStableService (s : State) : Out :=
  .next (if (inFull s || inSafeBoot s) && 60000 ≤ s.get Boot.STABLEMS then
      (s.put Boot.STABLE 1).on (!s.flag HIVE_BOOT_STAT.NOIMG) (fun s => attemptsClear s (s.get HIVE_BOOT_STAT.IMG))
    else s)

/-! ### Hive-sleep (R76 to R78) -/

/-- Step 2 of hive-sleep entry for a PD port: its VBUS switch opens and VBUS is discharged, with Rd on CC; an absent one
stays off (R53, R76). -/
def pdSleeps (s : State) (c : Fin 4) : State :=
  if absent s (pdPage c) || absent s (0x60 + c.val) then s
  else
  let s1 := s.on (pdAttached s c) (fun s => pdDetach s c)
  let s2 := s1.on (s1.get (PORT_PD_STAT.STATE c) != 5) (fun s => pdOpen s c)
  let s3 := ((s2.put (Pd.RP c) 0).put (Pd.RD c) 1).put (Pd.VCONN c) 0
  s3.on (s3.get (PDP_STAT.CC_STATE c) == 2) (·.put (PDP_STAT.CC_STATE c) 1)

/-- Step 3 of hive-sleep entry: a port that is not kept on in sleep turns off without a record (R76, R279). -/
def portSleeps (s : State) (n : Nat) : State :=
  if s.flag (PORT_CTL.SLEEP_ON n) || portKind n == 4 then s
  else
    let s1 := ((s.put (Port.MAIN n) 0).putB (Port.SLEPT n) (portKind n == 3)).put (Port.CMD n) 0
    if s.get (PORT_STAT.STATE n) = 8 then s1 else portState (portPullDown s1 n) n 0

/-- Step 1 of hive-sleep entry: every plan is squashed and every phase is all-off (R76, R250) (DEDUCED, log entry 15). -/
def sleepEntry (s : State) : State :=
  let s1 := s.each (List.finRange 4) (fun s (c : Fin 4) => (squashEvery s c).each (combPhases c) clearSlots)
  let s2 := ((s1.put Sleep.STATE 1).put Sleep.STEP 1).each (List.finRange 16) (fun s p => phHold s p true false)
  { s2.each (List.range 8) impAbort with antq := State.reset.antq }

/-- Step 4 of the entry: the host port, CAN FD and the Swarm ports stop, the controller's state is saved and its pins are
released (R76, R416). -/
def sleepStop (s : State) : State :=
  let s1 := { s with jobs := State.reset.jobs, canq := State.reset.canq }
  intcReview (swStop ((s1.put Pin.HRDY 0).put Sleep.STEP 4))

/-- Code 0x51EE in the Keeper view: in FULL, and while no maintenance command runs, hive-sleep entry starts (R76,
R486) (DEDUCED, log entry 15). -/
def hiveSleep (s : State) : State :=
  if inFull s && s.get Sleep.STATE == 0 && !s.flag MAINT_STAT.BUSY then sleepEntry s else s

/-- Hive-sleep or its entry is left, with the sources of the mask recorded beside those registered. What stopped at
step 4 runs again: the host port, the INT pins, and a pin session where KEEPER_EN has risen meanwhile; the phases stand
at rest (R77, R78). -/
def sleepLeft (s : State) (srcs : Nat) : State :=
  let s0 := s.on (s.get Sleep.STEP == 4) (·.put Pin.HRDY 1)
  let s1 := ((s0.put Sleep.STATE 0).put Sleep.STEP 0).orF HIVE_WAKE.SRC (s.get Sleep.PEND ||| srcs)
  let s2 := (s1.put Sleep.PEND 0).on (s1.flag Pin.KEEPER_EN) pinOpen
  let s3 := s2.each (List.finRange 16) recause
  intcReview (s3.each (List.range 48) (fun s n => portReview s n))

/-- A wake source before step 5 of the entry: the device returns to FULL (R77). -/
def execSleepAbort (src : Fin 12) (s : State) : Out :=
  .next (if s.get Sleep.STATE = 1 ∧ wakeEnabled s src = true then sleepLeft s (1 <<< src.val) else s)

/-- Step 5 of the entry: CORE_EN falls and the domains are gated; the always-on domain holds ERR_N, and the lamps are
released (R76, R229, R392). -/
def sleepGate (s : State) : State :=
  if s.get Sleep.STATE = 1 then
    let s1 := ((((s.put Sleep.STATE 2).put Sleep.STEP 4).put Sleep.TIMER 0).put Pin.CORE_EN 0).put Pwr.VDDC_OK 0
    ((s1.put Pwr.VDDC_DOM 0).put Sleep.ERR (s.get PINS_ERR.DRIVE)).each (List.range 8) (fun s m => s.put (Pin.PAT m) 0)
  else s

/-- The next step of hive-sleep entry. A wake source that has been registered aborts the entry at this boundary
(R76, R77) (DESIGN CHOICE, log entry 15: in the entry, an idle step does one step of it). -/
def sleepStep (s : State) : State :=
  if s.get Sleep.STATE != 1 then s
  else if s.get Sleep.PEND != 0 then sleepLeft s 0
  else match s.get Sleep.STEP with
    | 1 => (s.each (List.finRange 4) pdSleeps).put Sleep.STEP 2
    | 2 => (s.each (List.range 48) portSleeps).put Sleep.STEP 3
    | 3 => sleepStop s
    | _ => sleepGate s

/-- The sleep timer expires: it registers as a wake source (R78). -/
def execSleepTimerExpiry (s : State) : Out :=
  .next (if s.get HIVE_SLEEP_TMR.DURATION != 0 then wakeFires s 1 else s)

/-- The wake: VDDC returns, the controller is restored, accumulators and trackers are cleared, the engines and the
thermal block resume, and the mode is FULL (R78, R230, R337, R379, R417). -/
def wake (s : State) (src : Nat) (lost : Bool) : State :=
  let s1 := (s.put Pin.CORE_EN 1).put Pwr.VDDC_OK 1
  let s2 := thermalWake (chgWake (hksWake (s1.put Pwr.VDDC_DOM 31)))
  pinReview (errUpdate (intcWake (sleepLeft s2 (1 <<< src)) lost) 0)

/-- An enabled wake source is registered in hive-sleep, and the wake follows; one registered during the entry aborts it
at the next step boundary (R77, R78). A refused assertion of RST_N that is still present at the wake resets the device
where the wake releases ERR_N (R61, R392). -/
def execWake (src : Fin 12) (lost : Bool) (s : State) : Out :=
  .next (if wakeEnabled s src || s.bit Sleep.PEND src then
      match s.get Sleep.STATE with
      | 1 => s.orF Sleep.PEND (1 <<< src.val)
      | 2 => wake s src lost
      | _ => s
    else s)

/-! ### `HIVE_CMD` (R59, R69, R76) -/

/-- The write of `HIVE_CMD`: the claim through the host port in either view; the Keeper software reset and hive-sleep
entry in the Keeper view; no other code has an effect. -/
def hiveCmdWrite (s : State) (k : Bool) (p : Fin 4) (w : Nat) : Res :=
  let code := w % 65536
  if code = 0xC1A1 ∧ p = 0 then (claim s, 0)
  else if code = 0xC0DE ∧ k = true then (triggerReset s 5, 0)
  else if code = 0x51EE ∧ k = true then (hiveSleep s, 0)
  else (s, 0)

/-- A write of 0xC1A1 to `HIVE_CMD` (R69). -/
def execClaim (a : Access) (s : State) : Out :=
  .next (regOp s a (fun s k => hiveCmdWrite s k (pathNum a.path) 0xC1A1))

/-- A write of 0xC0DE to `HIVE_CMD` (R59). -/
def execKeeperSoftwareReset (a : Access) (s : State) : Out :=
  .next (regOp s a (fun s k => hiveCmdWrite s k (pathNum a.path) 0xC0DE))

/-- A write of 0x51EE to `HIVE_CMD` (R76). -/
def execHiveSleep (a : Access) (s : State) : Out :=
  .next (regOp s a (fun s k => hiveCmdWrite s k (pathNum a.path) 0x51EE))

end Sys2Proof.Machine
end

