-- ==== Sys2Proof/Machine/Inject.lean ====
section
/-! DEFINITION. Fault injection (R384, R395): the injected raises, and the actions of those causes whose blocks act of
themselves when they detect the condition. -/

namespace Sys2Proof.Machine

/-- The action of an injected cause whose own block takes it at detection: the backup oscillator (R28), the refusal of a
claim and CORE_EN low (R58), the controller's reset values (R417), a commit abandoned (R470), the address withdrawn
(R444), a drain ended (R483). An action on an object that the injection does not name, such as a lamp, a memory word, a
sensor or a Swarm port, has none to act on (DEDUCED, log entry 17). -/
def injectedAction (s : State) (p i : Nat) : State :=
  match p, i with
  | 0x01, 0 => onBackup s
  | 0x02, 0 => claimRefused s
  | 0x08, 3 => intcSample (intcClear s)
  | 0x90, 2 => s.on (s.get TBL_BANK.INACT == 5) commitAbandon
  | 0x98, 1 => s.on (s.flag SW_ADDR.VALID) addressLost
  | 0xB0, 0 => s.on (drainRuns s) (fun s => maintEnd (drainReturns s) 4)
  | _, _ => s

/-- The causes that one edge injects into a page, each judged at its class before the edge: those that come to one
class are one fault (R388, R396) (DEDUCED, log entry 17). One that stands at its catalogue class has its full action
(R395). -/
def injectEdge (s : State) (p : Nat) (l : List Nat) : State :=
  let cause := fun i => Cause.mk p i ((causeClass p i).getD 1) false true 0 false
  let cls := fun i => raiseClass s (cause i)
  s.each l (fun t i =>
    let t1 := raiseFault t { cause i with edge := cls i, merged := l.any (fun j => decide (j < i) && cls j == cls i) }
    t1.on (!muted s p && cls i == (cause i).cls) (injectedAction · p i))

/-- The write of `PAGE_FLT_INJ`: raises every cause written 1 that the catalogue holds (R384, R395). -/
def faultInjectWrite (s : State) (k : Bool) (p w : Nat) : Res :=
  let g := fun (s : State) (w' : Nat) =>
    injectEdge (s.put (PAGE_FLT_INJ.CAUSE p) (w' / 0x10000)) p
      ((bitsOf 16 (w' / 0x10000)).filter (fun i => (causeClass p i).isSome))
  let changed := w / 0x10000 != s.get (PAGE_FLT_INJ.CAUSE p)
  if !k then (refusal s p (bitOf changed), bitOf changed)
  else if s.flag (PAGE_LOCK.CFG p) || s.flag (PAGE_LOCK.INJ p) then
    (refusal s p (2 * bitOf changed), 2 * bitOf changed)
  else (g s w, 0)

/-- A write to `PAGE_FLT_INJ` raises each cause written 1, unless the injection lock refuses it (R384). -/
def execFaultInject (a : Access) (page : BitVec 8) (w : BitVec 32) (s : State) : Out :=
  .next (regOp s a (fun s k => pageWrite s page.toNat (fun s => faultInjectWrite s k page.toNat w.toNat)))

end Sys2Proof.Machine
end

