-- ==== Sys2Proof/Machine/Access.lean ====
section
/-! DEFINITION. Register accesses of every path: what a register reads as, the 64-bit registers and their holders, the
effect of a write of any register, and the words of a frame (R79, R80, R84 to R90, R97 to R99, R110, R111). -/

namespace Sys2Proof.Machine

/-! ### What a register reads as (R84, R85) -/

/-- The block of a page runs in the present mode: combs, phases, engines and PD ports with their comb's domain (R57,
R85, log entry 21). -/
def pageLive (s : State) (p : Nat) : Bool :=
  match pageKind p with
  | some 0x10 => combLive s (p - 0x10)
  | some 0x20 => combLive s ((p - 0x20) / 4)
  | some 0x60 => combLive s (p - 0x60)
  | some 0x88 => combLive s ((p - 0x88) / 2)
  | some _ => true
  | none => false

/-- `PAGE_STAT.READY`: configured and running in the present mode (R85, log entry 21). -/
def pageReady (s : State) (p : Nat) : Bool :=
  decide (4 ≤ s.get Boot.STEP) && !s.flag Boot.HELD && !absent s p && !s.flag (PAGE_STAT.DRAINED p) && pageLive s p

/-- `PAGE_ID` of an allocated page (R84). -/
def pageId (p : Nat) : Nat :=
  let kind := (pageKind p).getD 0
  let port := if kind = 0x30 then portKind (p - 0x30) else 0
  port * 0x1000000 + (p - kind) * 0x10000 + kind * 0x100 + p

/-- A word with a flag in one field. -/
def withFlag (w : Nat) (f : Fld) (b : Bool) : Nat := withField w f (bitOf b)

/-- The header registers that show what other state decides (R84 to R86). -/
def headerView (s : State) (p off w : Nat) : Nat :=
  match off with
  | 0x000 => pageId p
  | 0x008 => withFlag (withFlag (withFlag w (PAGE_STAT.READY p) (pageReady s p)) (PAGE_STAT.FAULT p) (pageActive s p))
      (PAGE_STAT.LOCKED p) (s.flag (PAGE_LOCK.CFG p))
  | 0x010 => withField w (PAGE_IRQ_STAT.EVT p) (evtWord s p)
  | _ => w

/-- `TAG_PAGES`: the pages of a group of 32 whose error flag is set (R356). -/
def tagPages (s : State) (j : Nat) : Nat :=
  (List.range 32).foldl (fun m i => m + (if (pageKind (32 * j + i)).isSome then s.get (PAGE_TAG_ERR.FLAG (32 * j + i)) <<< i
    else 0)) 0

/-- The operation, source and channel that `ACC_CFG` of a claimed accumulator shows (R331). -/
def accView (s : State) (acc w : Nat) : Nat :=
  if s.get (Acc.CLAIM acc) = 0 then w
  else
    let n := acc / 64
    let i := acc % 64
    withField (withField (withField w (ACC_CFG.MODE n i) (accMode s acc)) (ACC_CFG.SRC n i) (accSrc s acc))
      (ACC_CFG.IQCH n i) (accIqch s acc)

/-- `CMB_STAT` shows the coupling set, the entries in flight and the queued records (R175). -/
def combView (s : State) (c w : Nat) : Nat :=
  let coupled := (List.range 4).foldl (fun m j => m + bitOf (inSet s (4 * c + j)) <<< j) 0
  let inflight := (combPhases c).foldl (fun m p => m + (s.window[p]).length) 0
  withField (withField (withField w (CMB_STAT.COUPLED c) coupled) (CMB_STAT.INFLIGHT c) inflight) (CMB_STAT.ANTQ c)
    (s.antq[fin4 c]).length

/-- The block registers that show what other state decides; `w` is the word of their stored fields. -/
def blockView (s : State) (k : Bool) (p off w : Nat) : Nat :=
  match pageKind p with
  | some 0x00 => if off = 0x040 then withFlag w HIVE_MODE.RECOVERY (recovery s) else w
  | some 0x02 => if off = 0x044 then s.retWord (4 * s.get PWR_RET_ADDR.WORD) else w
  | some 0x08 => (intcView s off).getD w
  | some 0x09 => if off = 0x070 then s.retWord 0 else w
  | some 0x0C => if off = 0x040 then
      withField (withFlag w PINS_ERR.PIN (!errLow s)) PINS_ERR.PAGES (activePages s) else w
  | some 0x10 => if off = 0x058 then combView s (p - 0x10) w else w
  | some 0x30 =>
    let n := p - 0x30
    if off = 0x044 ∧ portKind n = 3 then
      withFlag w (PORT_STAT.SHED n) (s.bit (CMB_SHED_STAT.SHED (n / 12)) (n % 12 - 4)) else w
  | some 0x60 => if off = 0x058 then rxWord s (fin4 (p - 0x60)) else w
  | some 0x68 =>
    if off = 0x048 then withFlag w HKS_STAT.STRICT (strict s)
    else if off = 0x09C ∨ off = 0x0A0 ∨ off = 0x0A4 ∨ off = 0x0A8 then chRead s off else w
  | some 0x70 =>
    if 0x100 ≤ off ∧ off < 0xD00 ∧ (off - 0x100) % 0x30 = 0 then accView s ((p - 0x70) * 64 + (off - 0x100) / 0x30) w else w
  | some 0x88 =>
    let n := p - 0x88
    if off = 0x114 ∨ off = 0x118 ∨ off = 0x11C ∨ off = 0x128 then impRead s n off
    else if off = 0x108 ∨ off = 0x120 ∨ off = 0x124 ∨ off = 0x12C then plainRead s k (0x88 + impChannel s n) off
    else w
  | some 0x98 => (swView s off).getD w
  | some 0xA2 => if 0x040 ≤ off ∧ off < 0x060 then tagPages s ((off - 0x040) / 4) else w
  | _ => w

/-- The word that a read of a register returns, without the effects of the read (R9, R80) (DEDUCED, log entry 25). -/
def regView (s : State) (k : Bool) (p off : Nat) : Nat :=
  if off < 0x040 then headerView s p off (plainRead s k p off) else blockView s k p off (plainRead s k p off)

/-- The tag that a register other than an accumulator's returns: 0x0000 where it is untagged (R99, R346). -/
def regTag (s : State) (p off : Nat) : Nat :=
  match pageKind p with
  | some 0x20 => if off = 0x070 then tagOf 1 (s.int (PH_ISNS_EOP.VALUE (p - 0x20))) else 0
  | some 0x78 =>
    if 0x100 ≤ off ∧ off < 0xD00 then
      let t := (off - 0x100) / 0xC
      match (off - 0x100) % 0xC with
      | 0x4 => (if s.flag (Mmt.TESTMIN t) then 7 else 2) * 0x2000 + s.get (Mmt.RMIN t)
      | 0x8 => (if s.flag (Mmt.TESTMAX t) then 7 else 2) * 0x2000 + s.get (Mmt.RMAX t)
      | _ => 0
    else 0
  | some 0x80 =>
    if 0x100 ≤ off ∧ off < 0x7E0 ∧ (off - 0x100) % 0x14 = 0x0C then tagOf 6 (s.int (THS_VAL.T ((off - 0x100) / 0x14)))
    else 0
  | some 0x98 => if 0x084 ≤ off ∧ off < 0x094 then s.get (Sw.MTAG ((off - 0x084) / 4)) else 0
  | _ => 0

/-! ### 64-bit registers (R97, R98, R328) -/

/-- A word of a 64-bit register: the register by the key of its low word, and whether it is the high word. -/
def wide (p off : Nat) : Option (Nat × Bool) :=
  match pageKind p with
  | some 0x10 =>
    if off = 0x06C ∨ off = 0x074 then some (p * 0x1000 + off, false)
    else if off = 0x070 ∨ off = 0x078 then some (p * 0x1000 + off - 4, true) else none
  | some 0x70 =>
    if 0x100 ≤ off ∧ off < 0xD00 then
      match (off - 0x100) % 0x30 with
      | 0x08 => some (p * 0x1000 + off, false)
      | 0x10 => some (p * 0x1000 + off, false)
      | 0x18 => some (p * 0x1000 + off, false)
      | 0x0C => some (p * 0x1000 + off - 4, true)
      | 0x14 => some (p * 0x1000 + off - 4, true)
      | 0x1C => some (p * 0x1000 + off - 4, true)
      | _ => none
    else none
  | some 0x98 =>
    if off = 0x05C then some (p * 0x1000 + off, false) else if off = 0x060 then some (p * 0x1000 + off - 4, true) else none
  | _ => none

/-- The path's read holder takes a 64-bit register that is no accumulator's, and any capture of an accumulator ends
(R97, R328). -/
def captureWide (s : State) (path : Fin 4) (key : Nat) : State :=
  let p := key / 0x1000
  let off := key % 0x1000
  let h : ReadHold := { key := key, lo := regView s false p off, hi := regView s false p (off + 4), tag := 0 }
  { s with readHold := s.readHold.set path (some h) }.put (Cap.ON path) 0

/-- The holder of the path stands at a register. -/
def heldAt (s : State) (path : Fin 4) (key : Nat) : Option ReadHold := (s.readHold[path]).filter (fun h => h.key == key)

/-- A read of one word of such a register (R97). -/
def readWide (s : State) (path : Fin 4) (key : Nat) (high : Bool) : State × Nat × Nat :=
  let s1 := if high && (heldAt s path key).isSome then s else captureWide s path key
  match heldAt s1 path key with
  | some h => (s1, if high then h.hi else h.lo, h.tag)
  | none => (s1, 0, 0)

/-- An accumulator is captured on the path, and the path's holder of another register ends (R97, R328). -/
def captureAcc (s : State) (path : Fin 4) (acc : Nat) : State :=
  accCapture { s with readHold := s.readHold.set path none } path acc

/-- The path holds a capture of the accumulator. -/
def accHeld (s : State) (path : Fin 4) (acc : Nat) : Bool := s.flag (Cap.ON path) && s.get (Cap.ACC path) == acc

/-- A read of a sum, count or clip register of an accumulator, `r` its place in the block (R328). -/
def readAcc (s : State) (path : Fin 4) (acc r : Nat) : State × Nat × Nat :=
  if r = 0x20 then
    (s, if accHeld s path acc then s.get (Cap.CLIPS path) else s.get (ACC_CLIPS.CLIPS (acc / 64) (acc % 64)), 0)
  else
    let s1 := if r ≠ 0x08 && accHeld s path acc then s else captureAcc s path acc
    match r with
    | 0x08 => (s1, s1.get (Cap.SUM path) % 4294967296, s1.get (Cap.SUMTAG path))
    | 0x0C => (s1, s1.get (Cap.SUM path) / 4294967296, s1.get (Cap.SUMTAG path))
    | 0x10 => (s1, s1.get (Cap.CNT path) % 4294967296, 0)
    | 0x14 => (s1, s1.get (Cap.CNT path) / 4294967296, 0)
    | 0x18 => (s1, s1.get (Cap.SQ path) % 4294967296, s1.get (Cap.SQTAG path))
    | _ => (s1, s1.get (Cap.SQ path) / 4294967296, s1.get (Cap.SQTAG path))

/-- The write of the low word of a 64-bit register is held; the word held before is discarded (R98). -/
def holdLow (s : State) (path : Fin 4) (key w : Nat) : State :=
  { s with writeHold := s.writeHold.set path (some { key := key, lo := w }) }

/-- The low word with which a high word commits: the one held, or the present low word, which is zero in the one
64-bit register that takes writes (R98). -/
def heldLow (s : State) (path : Fin 4) (key : Nat) : Nat :=
  match s.writeHold[path] with
  | some h => if h.key = key then h.lo else 0
  | none => 0

/-- The write of the high word commits both words (R98): of a comb's `CMB_ANT_POST`, a record is posted (R175). Any
other 64-bit register is read-only. -/
def commitHigh (s : State) (path : Fin 4) (key w : Nat) : State :=
  let v := heldLow s path key + 4294967296 * w
  let s1 := match s.writeHold[path] with
    | some h => if h.key = key then { s with writeHold := s.writeHold.set path none } else s
    | none => s
  if pageKind (key / 0x1000) = some 0x10 ∧ key % 0x1000 = 0x074 then hostPost s1 (fin4 (key / 0x1000 - 0x10)) v else s1

/-! ### Reads (R97, R99, R110) -/

/-- A read of one register with its effects: the state, the value and the tag before injection. -/
def readEffect (s : State) (k : Bool) (path : Fin 4) (p off : Nat) : State × Nat × Nat :=
  let plain := (s, regView s k p off, regTag s p off)
  match pageKind p with
  | some 0x02 =>
    if off = 0x044 then
      let i := s.get PWR_RET_ADDR.WORD
      ((retAccess s k none).1, s.retWord (4 * i), if eccState s (retKey (i / 2)) = 2 then 0xFFFF else 0)
    else plain
  | some 0x08 =>
    if 0x100 ≤ off ∧ off < 0x180 ∧ (off - 0x100) % 0x20 = 0 then
      let r := claimRead s ((off - 0x100) / 0x20)
      (r.1, r.2, 0)
    else plain
  | some 0x10 =>
    if off = 0x084 then
      let s1 := peekCapture s (fin4 (p - 0x10))
      (s1, regView s1 k p off, 0)
    else match wide p off with
    | some (key, high) => readWide s path key high
    | none => plain
  | some 0x60 => if off = 0x058 then (rxNext s (fin4 (p - 0x60)), rxWord s (fin4 (p - 0x60)), 0) else plain
  | some 0x70 =>
    let r := (off - 0x100) % 0x30
    if 0x100 ≤ off ∧ off < 0xD00 ∧ 0x08 ≤ r ∧ r ≤ 0x20 then
      readAcc s path ((p - 0x70) * 64 + (off - 0x100) / 0x30) r
    else plain
  | some 0x98 =>
    match wide p off with
    | some (key, high) => readWide s path key high
    | none => plain
  | _ => plain

/-- A read of a register page: an unallocated page is unmapped and reads zero (R80, R84, R90, R111); the path's tag
injection applies to a tagged word (R361). The answer is the state, the value, the tag and the code. -/
def regRead (s : State) (k : Bool) (path : Fin 4) (p off : Nat) : State × Nat × Nat × Nat :=
  match pageKind p with
  | none => (refusal s 0x00 4, 0, 0, 4)
  | some _ =>
    let (s1, v, t) := readEffect s k path p off
    let (s2, t') := tagReturn s1 path t
    (s2, v, t', 0)

/-- The path keeps the value, the tag and the code of its latest read (R101, R110). -/
def storeRead (r : State × Nat × Nat × Nat) (path : Fin 4) : State :=
  (((r.1.put (Last.DATA path) r.2.1).put (Last.TAG path) r.2.2.1).put (Last.CODE path) r.2.2.2)

/-- One register read arriving by a path: nothing while the paths are not served; an unaligned one is not performed
(R80) (DESIGN CHOICE, log entry 24). -/
def readOp (s : State) (a : Access) (addr : Nat) : State :=
  if !served s then s
  else if addr % 4 ≠ 0 then s.put (Last.CODE (pathNum a.path)) 8
  else storeRead (regRead (touch s a) (keeperView s a) (pathNum a.path) (addr / 0x1000 % 256) (addr % 0x1000)) (pathNum a.path)

/-! ### Writes (R9, R85, R87 to R90) -/

/-- The write of `PAGE_CTL`: TAG_CHK takes 0 only in test mode (R85). -/
def pageCtlWrite (s : State) (k : Bool) (p w : Nat) : Res :=
  specialWrite s k p 0x00C w false (fun s w' =>
    let s1 := storeFields s w' (regLayout p 0x00C)
    s1.on (!s.flag HIVE_MODE.TEST) (·.put (PAGE_CTL.TAG_CHK p) (s.get (PAGE_CTL.TAG_CHK p) ||| s1.get (PAGE_CTL.TAG_CHK p))))

/-- The write of `PAGE_IRQ_SET`: every bit written 1 that the chapter assigns is set (R85, R86). -/
def irqSetWrite (s : State) (p w : Nat) : State := s.orF (PAGE_IRQ_STAT.EVT p) (w &&& evtAssigned p)

/-- The write of `PAGE_LOCK`, exempt from itself: a lock once set holds until the next reset (R85, R96). -/
def lockWrite (s : State) (k : Bool) (p w : Nat) : Res :=
  specialWrite s k p 0x030 w true (fun s w' =>
    (s.orF (PAGE_LOCK.CFG p) (fieldOf w' (PAGE_LOCK.CFG p))).orF (PAGE_LOCK.INJ p) (fieldOf w' (PAGE_LOCK.INJ p)))

/-- The write of a header register (R85). -/
def headerWrite (s : State) (k : Bool) (p off w : Nat) : Res :=
  match off with
  | 0x00C => pageCtlWrite s k p w
  | 0x018 => (irqSetWrite s p w, 0)
  | 0x020 => faultAckWrite s k p w
  | 0x028 => faultInjectWrite s k p w
  | 0x030 => lockWrite s k p w
  | _ => plainWrite s k p off w

/-- The write of `HIVE_MODE`: what test mode suspended runs again when it ends (R35, R85, R359). -/
def hiveModeWrite (s : State) (k : Bool) (w : Nat) : Res :=
  specialWrite s k 0x00 0x040 w false (fun s w' =>
    let s1 := storeFields s w' (regLayout 0x00 0x040)
    s1.on (s.flag HIVE_MODE.TEST && !s1.flag HIVE_MODE.TEST) testEnds)

/-- The write of `HIVE_WAKE`: the early warning of the watchdog is always enabled (R77, R78). -/
def hiveWakeWrite (s : State) (k : Bool) (w : Nat) : Res :=
  specialWrite s k 0x00 0x04C w false (fun s w' => (storeFields s w' (regLayout 0x00 0x04C)).orF HIVE_WAKE.EN 4)

/-- The write of a register of the HIVE page. -/
def hiveWrite (s : State) (k : Bool) (path : Fin 4) (node : BitVec 16) (off w : Nat) : Res :=
  match off with
  | 0x040 => hiveModeWrite s k w
  | 0x048 => hiveCmdWrite s k path w
  | 0x04C => hiveWakeWrite s k w
  | 0x060 => (codeLoWrite s path (BitVec.ofNat 32 w), 0)
  | 0x064 => (attempt s path node (BitVec.ofNat 32 w), 0)
  | 0x068 => ksessCtlWrite s k path w
  | _ => plainWrite s k 0x00 off w

/-- The write of a register of the interrupt controller (R403, R409, R419). -/
def intcWrite (s : State) (k : Bool) (off w : Nat) : Res :=
  if 0x060 ≤ off ∧ off < 0x080 then pendSetWrite s ((off - 0x060) / 4) w
  else if 0x080 ≤ off ∧ off < 0x0A0 then pendClrWrite s ((off - 0x080) / 4) w
  else if 0x100 ≤ off ∧ off < 0x180 ∧ (off - 0x100) % 0x20 = 0x04 then
    (endInterrupt s ((off - 0x100) / 0x20) (w % 256), 0)
  else if 0x400 ≤ off ∧ off < 0x800 then srcCfgWrite s k ((off - 0x400) / 4) w
  else intcPlainWrite s k off w

/-- The write of a register of the watchdog (R424, R426). -/
def wdgWrite (s : State) (k : Bool) (off w : Nat) : Res :=
  match off with
  | 0x054 => svcWrite s w
  | 0x058 => (s.each (bitsOf 16 w) hostCheckin, 0)
  | _ => plainWrite s k 0x09 off w

/-- The write of a register of a comb page (R175, R202). -/
def combWrite (s : State) (k : Bool) (c : Fin 4) (off w : Nat) : Res :=
  match off with
  | 0x040 => cmbCtlWrite s k c w
  | 0x044 => markWrite s k c w
  | 0x048 => planCtlWrite s k c w
  | 0x054 => gangWrite s k c w
  | 0x0A0 => ppCtlWrite s k c w
  | 0x0BC => budgetWriteReg s k c 0 w
  | 0x0C0 => budgetWriteReg s k c 1 w
  | 0x0C4 => budgetWriteReg s k c 2 w
  | 0x0C8 => pdBudgetWrite s k c w
  | 0x0D4 => shedStatWrite s k c w
  | _ => plainWrite s k (0x10 + c) off w

/-- The write of a register of a phase page (R142). -/
def phaseWrite (s : State) (k : Bool) (p : Fin 16) (off w : Nat) : Res :=
  match off with
  | 0x040 => phCtlWrite s k p w
  | 0x044 => tbPerWrite s k p w
  | 0x04C => ilvWrite s k p w
  | _ => plainWrite s k (0x20 + p) off w

/-- The write of a register of a port page (R283, R310, R481). -/
def portWrite (s : State) (k : Bool) (n off w : Nat) : Res :=
  if off = 0x040 ∧ portKind n ≠ 4 then portCtlWrite s k n w
  else if off = 0x06C then portTmWrite s k n w
  else specialWrite s k (0x30 + n) off w false (fun s w' => portRegWrite s k (0x30 + n) off w')

/-- The write of a register of a PD port's page (R309). -/
def pdpWrite (s : State) (k : Bool) (c : Fin 4) (off w : Nat) : Res :=
  if 0x070 ≤ off ∧ off < 0x090 then pdTimerWrite s k c (Fin.ofNat 8 ((off - 0x070) / 4)) w
  else match off with
    | 0x040 => pdpCtlWrite s k c w
    | 0x048 => vbusWrite s k c w
    | 0x04C => transWrite s k c w
    | 0x050 => txWrite s k c w
    | 0x054 => (txAppend s c w, 0)
    | 0x060 => sigWrite s k c w
    | _ => plainWrite s k (0x60 + c) off w

/-- The write of a register of the housekeeping sequencer (R342). -/
def hksWrite (s : State) (k : Bool) (off w : Nat) : Res :=
  match off with
  | 0x040 => hksCtlWrite s k w
  | 0x044 => laneRefWriteReg s k w
  | 0x04C => hksCalWrite s k w
  | 0x070 => swTrigWrite s k w
  | 0x090 => urgentWrite s k w
  | 0x094 => tdacWriteReg s k w
  | 0x09C => chWrite s k off w
  | 0x0A8 => chWrite s k off w
  | _ => plainWrite s k 0x68 off w

/-- The write of a register of an accumulator page (R344). -/
def accWrite (s : State) (k : Bool) (n off w : Nat) : Res :=
  if 0x100 ≤ off ∧ off < 0xD00 ∧ (off - 0x100) % 0x30 = 0 then accCfgWrite s k (64 * n + (off - 0x100) / 0x30) w
  else plainWrite s k (0x70 + n) off w

/-- The write of a register of the tracker page (R345). -/
def mmtWrite (s : State) (k : Bool) (off w : Nat) : Res :=
  if 0x100 ≤ off ∧ off < 0xD00 ∧ (off - 0x100) % 0xC = 0 then mmtCfgWrite s k ((off - 0x100) / 0xC) w
  else plainWrite s k 0x78 off w

/-- The write of a register of the thermal page (R383). -/
def thermWrite (s : State) (k : Bool) (off w : Nat) : Res :=
  if off = 0x040 then thmCtlWrite s k w
  else if off = 0x044 then thmAckWrite s k w
  else if 0x100 ≤ off ∧ off < 0x7E0 then
    let t := (off - 0x100) / 0x14
    match (off - 0x100) % 0x14 with
    | 0x00 => thsCfgWrite s k t w
    | 0x04 => thsThWrite s k t w
    | 0x08 => thsSdWrite s k t w
    | _ => plainWrite s k 0x80 off w
  else plainWrite s k 0x80 off w

/-- The write of a register of an engine's page (R236, R255). -/
def engineWrite (s : State) (k : Bool) (n off w : Nat) : Res :=
  match off with
  | 0x040 => chgCtlWrite s k n w
  | 0x044 => chgCmdWrite s k n w
  | 0x048 => chgTrimWrite s k n w
  | 0x070 => chgAccWrite s k n w
  | 0x074 => chgAbsWrite s k n w
  | 0x100 => impCtlWrite s k n w
  | _ => plainWrite s k (0x88 + n) off w

/-- The write of a register of the table manager (R486). -/
def tblWrite (s : State) (k : Bool) (off w : Nat) : Res :=
  match off with
  | 0x044 => tblCmdWrite s k w
  | 0x048 => loadCtlWrite s k w
  | 0x04C => loadDataWrite s k w
  | _ => plainWrite s k 0x90 off w

/-- The write of a register of the Swarm page (R461). -/
def swarmWrite (s : State) (k : Bool) (off w : Nat) : Res :=
  match off with
  | 0x040 => swCtlWrite s k off w
  | 0x044 => swAddrWrite s k w
  | 0x048 => swCtlWrite s k off w
  | 0x04C => swCtlWrite s k off w
  | 0x070 => swCmdWrite s k w
  | 0x078 => grpSelWrite s k w
  | 0x07C => grpTotalWrite s k w
  | _ => plainWrite s k 0x98 off w

/-- The write of a register of a memory page (R363). -/
def memWrite (s : State) (k : Bool) (n off w : Nat) : Res :=
  match off with
  | 0x040 => memScrubWrite s k n w
  | 0x058 => memInjWrite s k n w
  | _ => plainWrite s k (0xA0 + n) off w

/-- The write of a block register, by its block. -/
def blockWrite (s : State) (k : Bool) (path : Fin 4) (node : BitVec 16) (p off w : Nat) : Res :=
  match pageKind p with
  | some 0x00 => hiveWrite s k path node off w
  | some 0x01 => if off = 0x044 then clkCtlWrite s k w else plainWrite s k p off w
  | some 0x02 => if off = 0x044 then retAccess s k (some w) else plainWrite s k p off w
  | some 0x08 => intcWrite s k off w
  | some 0x09 => wdgWrite s k off w
  | some 0x10 => combWrite s k (fin4 (p - 0x10)) off w
  | some 0x20 => phaseWrite s k (Fin.ofNat 16 (p - 0x20)) off w
  | some 0x30 => portWrite s k (p - 0x30) off w
  | some 0x60 => pdpWrite s k (fin4 (p - 0x60)) off w
  | some 0x68 => hksWrite s k off w
  | some 0x70 => accWrite s k (p - 0x70) off w
  | some 0x78 => mmtWrite s k off w
  | some 0x80 => thermWrite s k off w
  | some 0x88 => engineWrite s k (p - 0x88) off w
  | some 0x90 => tblWrite s k off w
  | some 0x98 => swarmWrite s k off w
  | some 0xA0 => memWrite s k 0 off w
  | some 0xA1 => memWrite s k 1 off w
  | some 0xA2 => if off = 0x068 then tagInjWrite s k w else plainWrite s k p off w
  | some 0xB0 => if off = 0x040 then maintCmdWrite s k w else plainWrite s k p off w
  | _ => plainWrite s k p off w

/-- A write of one register: of an unallocated page refused as unmapped, of a 64-bit register through the path's
write holder, of any other with the effect that its chapter gives it (R9, R80, R84, R98). -/
def regWrite (s : State) (k : Bool) (path : Fin 4) (node : BitVec 16) (p off w : Nat) : Res :=
  if (pageKind p).isNone then (refusal s 0x00 4, 4)
  else if off < 0x040 then headerWrite s k p off w
  else match wide p off with
  | some (key, false) => (holdLow s path key w, 0)
  | some (key, true) => (commitHigh s path key w, 0)
  | none => blockWrite s k path node p off w

/-- One register write arriving by a path; an unaligned one is not performed (R80) (DESIGN CHOICE, log entry 24). -/
def writeOp (s : State) (a : Access) (addr w : Nat) : State :=
  if served s && addr % 4 != 0 then s.put (Last.CODE (pathNum a.path)) 8
  else regOp s a (fun s k => regWrite s k (pathNum a.path) a.node (addr / 0x1000 % 256) (addr % 0x1000) w)

/-! ### The words of a frame (R79, R80, R88, R108, R111) -/

/-- The page view of an address and of a frame: a Keeper-view access needs the Keeper view or a window, the frame's
Keeper bit and the path's session (R79, R88). -/
def wordKeeper (kf : Bool) (addr : Nat) : Bool := kf && decide (0x100000 ≤ addr) && decide (addr < 0x700000)

/-- The idle time of the path restarts at a Keeper-view access (R94). -/
def wordTouch (s : State) (kf : Bool) (path : Fin 4) (addr : Nat) : State :=
  s.on (wordKeeper kf addr) (·.put (Ses.IDLE_T path) 0)

/-- A read of one aligned word of the map, outside the Swarm remote window (R79, R111). -/
def wordRead (s : State) (kf : Bool) (path : Fin 4) (addr : Nat) : State × Nat × Nat × Nat :=
  let s1 := wordTouch s kf path addr
  let k := wordKeeper kf addr
  if addr < 0x200000 then regRead s1 k path (addr / 0x1000 % 256) (addr % 0x1000)
  else if addr < 0x700000 then
    let r := windowRead s1 k addr
    let t := tagReturn r.1.1 path r.2.2
    (t.1, r.2.1, t.2, r.1.2)
  else (refusal s1 0x00 4, 0, 0, 4)

/-- A write of one aligned word of the map, outside the Swarm remote window. -/
def wordWrite (s : State) (kf : Bool) (path : Fin 4) (node : BitVec 16) (addr w : Nat) : Res :=
  let s1 := wordTouch s kf path addr
  let k := wordKeeper kf addr
  if addr < 0x200000 then regWrite s1 k path node (addr / 0x1000 % 256) (addr % 0x1000) w
  else if addr < 0x700000 then windowWrite s1 k addr w
  else (refusal s1 0x00 4, 4)

/-! ### The commands -/

/-- A write of a register that has no row of its own (R9). -/
def execRegisterWrite (a : Access) (addr : BitVec 20) (w : BitVec 32) (s : State) : Out :=
  .next (writeOp s a addr.toNat w.toNat)

/-- A write to `PAGE_IRQ_SET` (R85). -/
def execPageIrqSet (a : Access) (page : BitVec 8) (w : BitVec 32) (s : State) : Out :=
  .next (writeOp s a (page.toNat * 0x1000 + 0x018) w.toNat)

/-- A read of the low word of a 64-bit register (R97). Any other register reads as R80 and R9 give. -/
def execReadHolderCapture (a : Access) (addr : BitVec 20) (s : State) : Out := .next (readOp s a addr.toNat)

/-- A write of the low word of a 64-bit register (R98). -/
def execLowWordWrite (a : Access) (addr : BitVec 20) (w : BitVec 32) (s : State) : Out :=
  .next (writeOp s a addr.toNat w.toNat)

/-- A write of the high word of a 64-bit register (R98). -/
def execHighWordCommit (a : Access) (addr : BitVec 20) (w : BitVec 32) (s : State) : Out :=
  .next (writeOp s a addr.toNat w.toNat)

/-- A read of `INTC_Tt_CLAIM` (R408). -/
def execIntcClaim (a : Access) (t : Fin 4) (s : State) : Out := .next (readOp s a (0x8100 + 0x20 * t))

/-- A read of `CMB_PEEK0` (R175). -/
def execPeek (a : Access) (c : Fin 4) (s : State) : Out := .next (readOp s a (0x10084 + 0x1000 * c))

/-- A read of `PDP_RX_DATA` (R295). -/
def execRxData (a : Access) (c : Fin 4) (s : State) : Out := .next (readOp s a (0x60058 + 0x1000 * c))

/-- A read of `ACC_SUM_LO` (R328). -/
def execAccCapture (a : Access) (acc : Fin 512) (s : State) : Out :=
  .next (readOp s a (0x70108 + 0x1000 * (acc / 64) + 0x30 * (acc % 64)))

/-- An access to `PWR_RET_DATA` (R75). -/
def execPwrRetData (a : Access) (w : Option (BitVec 32)) (s : State) : Out :=
  .next (match w with
    | none => readOp s a 0x02044
    | some v => writeOp s a 0x02044 v.toNat)

end Sys2Proof.Machine
end

