-- ==== Sys2Proof/Machine/Frames.lean ====
section
/-! DEFINITION. The frames of every path: their checks, the words that they perform, the words of the Swarm remote
window among them, and how a frame of each path completes (R101 to R112, R115, R454). -/

namespace Sys2Proof.Machine

/-! ### Frames and their checks (R101 to R103, R111, R112) -/

/-- The opcode reads: RD and RDN (R102). -/
def opReads (op : Nat) : Bool := op % 128 == 1 || op % 128 == 3

/-- The opcode writes: WR and WRN. -/
def opWrites (op : Nat) : Bool := op % 128 == 2 || op % 128 == 4

/-- The opcode advances the address: RD and WR. -/
def opAdvances (op : Nat) : Bool := op % 128 == 1 || op % 128 == 2

/-- The bytes that RCRC covers: OP, ADDR, LEN and DATA, words most significant byte first (R100, R101). -/
def requestBytes (op addr len : Nat) (data : List (BitVec 32)) : List (BitVec 8) :=
  beBytes 1 op ++ beBytes 3 addr ++ beBytes 1 len ++ data.flatMap (fun w => beBytes 4 w.toNat)

/-- The frame-level checks after CRC, in the order of R112: `top` is the highest LEN of the path, `last` the highest
word address. 0 means that none fails. -/
def frameCode (op addr len : Nat) (top last : Nat) : Nat :=
  if !(opReads op || opWrites op || op % 128 == 5) then 6
  else if op % 128 = 5 then 0
  else if top < len then 7
  else if addr % 4 ≠ 0 then 8
  else if opAdvances op ∧ last < addr + 4 * len then 9
  else 0

/-- The frame as a job: a frame-level code performs no access, and a read frame still answers at full length
(R111). -/
def newJob (kind op addr len : Nat) (data : List (BitVec 32)) (keeper : Bool) (code : Nat) : Job :=
  let n := if opReads op || (opWrites op && code == 0) then len + 1 else 0
  { kind := kind, write := opWrites op, fixed := !opAdvances op, keeper := keeper, addr := addr, data := data, left := n,
    quota := n, fifo := n, done := 0, code := code, index := 0, crc := 0xFFFF, out := [], wait := 0, stamp := 0, target := 0,
    reply := 0 }

/-- The STATUS word (R101). -/
def statusWord (j : Job) : Nat := j.code * 4096 + j.index % 256

/-! ### The words of a frame (R108 to R112, R454) -/

/-- `n` words of a frame have been answered: the first refusal gives CODE and INDEX (R112), `i` the place of a refused
word among them. -/
def jobWords (j : Job) (n : Nat) (out : List (BitVec 8)) (c i : Nat) : Job :=
  let first := j.code == 0 && c != 0
  { j with
    addr := if j.fixed then j.addr else j.addr + 4 * n
    data := j.data.drop n
    left := j.left - n
    quota := j.quota - n
    done := j.done + n
    code := if first then c else j.code
    index := if first then j.done + i else j.index
    out := if j.write then j.out else j.out ++ out }

/-- A read word and its tag as a response carries them (R101). -/
def wordBytes (v t : Nat) : List (BitVec 8) := beBytes 4 v ++ beBytes 2 t

/-- The word lies in the Swarm remote window of the originating device (R79, R83). -/
def isRemote (j : Job) : Bool := j.code < 5 && decide (0x700000 ≤ j.addr) && decide (j.addr < 0x800000) && j.kind != 4

/-- One word of the frame outside the remote window; under a frame-level code it reads zero and is not performed. -/
def localWord (s : State) (path : Fin 4) (node : BitVec 16) (j : Job) : State × Job :=
  if 5 ≤ j.code then (s, jobWords j 1 (wordBytes 0 0) 0 0)
  else if j.write then
    let r := wordWrite s j.keeper path node j.addr ((j.data.head?.getD 0).toNat)
    (r.1, jobWords j 1 [] r.2 0)
  else
    let (s1, v, t, c) := wordRead s j.keeper path j.addr
    (s1, jobWords j 1 (wordBytes v t) c 0)

/-- A remote word fails at the originating device (R454). -/
def remoteFail (s : State) (reason : Nat) : State :=
  refusal (((s.put SW_RMT_STAT.REASON reason).inc SW_RMT_STAT.ERRS).evt 0x98 8) 0x98 4

/-- Why no REQ can be sent: 3 no valid address, 2 no route to the target, 0 none (R454). The device has no route to
itself. -/
def remoteReason (s : State) : Nat :=
  if !s.flag SW_ADDR.VALID then 3
  else if s.get SW_RMT.TGT = ownAddr s ∨ (swRoutes s 2 (s.get SW_RMT.TGT)).isEmpty then 2
  else 0

/-- How many words the next REQ carries: at most 15 written or 11 read, of the words that the frame may perform now and
that lie in the window (R454). -/
def reqWords (j : Job) : Nat :=
  let n := min (if j.write then 15 else 11) j.quota
  if j.fixed then n else min n ((0x800000 - j.addr) / 4)

/-- The opcode of a job (R102). -/
def jobOp (j : Job) : Nat := (if j.write then 2 else 1) + (if j.fixed then 2 else 0)

/-- The REQ frame for the next words is sent, and the job waits for its RSP (R440, R454). -/
def reqSend (s : State) (j : Job) : State × Job :=
  let n := reqWords j
  let tgt := s.get SW_RMT.TGT
  let payload := requestBytes (jobOp j + 128 * bitOf j.keeper) (j.addr % 0x100000) (n - 1) (if j.write then j.data.take n else [])
  ((originate s 4 j.keeper false tgt payload).wrapInc Sw.STAMP, { j with wait := n, stamp := s.get Sw.STAMP, target := tgt })

/-- The next step of a frame: a word performed, a word failed, or a REQ sent. Remote words of a Keeper frame are
Keeper-view accesses (R88, R94). -/
def jobStep (s : State) (path : Fin 4) (node : BitVec 16) (j : Job) : State × Job :=
  if isRemote j then
    let s := s.on j.keeper (·.put (Ses.IDLE_T path) 0)
    let reason := remoteReason s
    if reason ≠ 0 then (remoteFail s reason, jobWords j 1 (wordBytes 0 0) 4 0) else reqSend s j
  else localWord s path node j

/-- The words of the present quota, until a REQ waits or a reset ends the frame. -/
def runJob (path : Fin 4) (node : BitVec 16) : Nat → State → Job → State × Job
  | 0, s, j => (s, j)
  | n + 1, s, j =>
    if j.quota = 0 || j.wait != 0 || s.flag Boot.HELD then (s, j)
    else
      let r := jobStep s path node j
      runJob path node n r.1 r.2

/-! ### Completion -/

/-- The path has no frame. -/
def dropJob (s : State) (path : Fin 4) : State := { s with jobs := s.jobs.set path none }

/-- The path has a frame. -/
def keepJob (s : State) (path : Fin 4) (j : Job) : State := { s with jobs := s.jobs.set path (some j) }

/-- HRDY stands high while the port can go on: the paths are served (R104). -/
def hrdyUp (s : State) : State := s.putB Pin.HRDY (served s)

/-- CODE and INDEX of a frame that has completed or ended (R109, R111). -/
def hostStat (s : State) (code index : Nat) : State := (s.put HOST_STAT.CODE code).put HOST_STAT.INDEX index

/-- STATUS and SCRC of a host-port response whose SCRC so far is `crc` (R101, R105). -/
def hostTail (j : Job) (crc : Nat) : List (BitVec 8) :=
  let st := beBytes 2 (statusWord j)
  st ++ beBytes 2 (crc16 crc st)

/-- A host-port frame without RDATA, or one that has ended early, is complete (R105, R109). -/
def hostDone (s : State) (j : Job) (answer : Bool) : State :=
  let s1 := s.on answer (fun s => s.send (.hostResponse (hostTail j j.crc)))
  hrdyUp (hostStat (dropJob s1 0) j.code j.index)

/-- The payload lengths of CAN FD above 8 bytes. -/
def canLengths : List Nat := [12, 16, 20, 24, 32, 48, 64]

/-- A payload padded with zero bytes to the next length that a data length code gives (R115). -/
def canPad (l : List (BitVec 8)) : List (BitVec 8) :=
  if l.length ≤ 8 then l
  else l ++ List.replicate (((canLengths.find? (fun n => l.length ≤ n)).getD 64) - l.length) 0

/-- The controller takes part in the bus: enabled, not listening only, and not bus-off (R113). -/
def canOn (s : State) (n : Nat) : Bool := s.flag (CAN_CFG.EN n) && !s.flag (CAN_CFG.LISTEN n) && s.get (CAN_STAT.STATE n) != 2

/-- An error-passive controller with both counters below 128 is error-active again (R113) (PRESUMED, log entry 22:
ISO 11898-1). -/
def canActive (s : State) (n : Nat) : State :=
  s.on (s.get (CAN_STAT.STATE n) == 1 && decide (s.get (CAN_STAT.TEC n) < 128) && decide (s.get (CAN_STAT.REC n) < 128))
    (·.put (CAN_STAT.STATE n) 0)

/-- A frame has been sent: TEC falls by one, and an error-passive controller with both counters below 128 is
error-active again (R113) (PRESUMED, log entry 22: ISO 11898-1). -/
def canSent (s : State) (n : Nat) : State := canActive (s.put (CAN_STAT.TEC n) (s.get (CAN_STAT.TEC n) - 1)) n

/-- The response frame of a CAN FD request: STATUS, RDATA and SCRC (R114, R115). A request that changes NODE, EN or
LISTEN is answered as its own write has left them: the spec does not say (DESIGN CHOICE, log entry 22). -/
def canAnswer (s : State) (n : Nat) (j : Job) : State :=
  let body := beBytes 2 (statusWord j) ++ j.out
  let id := 2 ^ 27 + (j.reply / 256) * 2 ^ 16 + s.get (CAN_CFG.NODE n) * 256 + j.reply % 256
  s.on (canOn s n) (fun s => canSent (s.send (.can n id (canPad (body ++ beBytes 2 (crc16 0xFFFF body))))) n)

/-- The words of the remote window on their own are complete: the path keeps the last value, its tag and the code. -/
def wordsDone (s : State) (path : Fin 4) (j : Job) : State :=
  let l := j.out.drop (j.out.length - 6)
  let s1 := s.on (!j.write) (fun s => (s.put (Last.DATA path) (beNat (l.take 4))).put (Last.TAG path) (beNat (l.drop 4)))
  (dropJob (s1.put (Last.CODE path) j.code) path).on (path == 0) hrdyUp

/-- A frame stands where its words have left it: it waits for an RSP, its chunk is filled, or it is complete. A frame
that a reset has ended leaves nothing. -/
def settle (s : State) (path : Fin 4) (j : Job) : State :=
  if s.flag Boot.HELD then s
  else if j.wait ≠ 0 ∨ j.quota ≠ 0 then keepJob s path j
  else match j.kind with
    | 0 => keepJob s path j
    | 1 => canAnswer (dropJob s path) (path - 1) j
    | 2 => wordsDone s path j
    | 3 => hostDone s j false
    | _ => s

/-- A frame goes on. -/
def advance (s : State) (path : Fin 4) (node : BitVec 16) (j : Job) : State :=
  let r := runJob path node j.quota s j
  settle r.1 path r.2

/-- A host-port read frame that is open is ended; those of the other paths go on (R109). -/
def hostEnd (s : State) (j : Job) : State :=
  advance ((s.inc HOST_STAT.ABORTS).put Pin.HRDY 0) 0 0 { j with kind := 3, quota := j.left, out := [] }

/-- The open frame of the host port. -/
def hostOpen (s : State) : Option Job := (s.jobs[0]).filter (fun j => j.kind == 0)

end Sys2Proof.Machine
end

