-- ==== Sys2Proof/Machine/Can.lean ====
section
/-! DEFINITION. The two CAN FD controllers (R113 to R118): requests and their responses, heartbeats and error states. -/

namespace Sys2Proof.Machine

/-- The path of a controller (R91). -/
def canPath (n : Fin 2) : Fin 4 := if n = 0 then 1 else 2

/-- The path of a controller as a session names it. -/
def canSession (n : Fin 2) : Path := if n = 0 then .can0 else .can1

/-- The highest LEN of an opcode in a CAN FD frame (R115). -/
def canTop (op : Nat) : Nat := if opWrites op then 13 else 9

/-- DATA of a request: the words that LEN announces, where the frame may hold them; above the limit what stands before
the last two bytes of the payload (R115, log entry 22). -/
def canData (op len : Nat) (payload : List (BitVec 8)) : List (BitVec 8) :=
  if !opWrites op then [] else if len ≤ 13 then (payload.drop 5).take (4 * (len + 1)) else (payload.take (payload.length - 2)).drop 5

/-- Words of bytes, most significant first. -/
def wordsOf (l : List (BitVec 8)) : Nat → List (BitVec 32)
  | 0 => []
  | n + 1 => BitVec.ofNat 32 (beNat (l.take 4)) :: wordsOf (l.drop 4) n

/-- A request is performed and answered (R115, R116). A read above the limit of LEN is answered without RDATA, which the
frame could not hold (log entry 22). -/
def canStart (s : State) (n : Fin 2) (w : CanWait) : State :=
  let op := field w.payload 0 1
  let addr := field w.payload 1 3
  let len := field w.payload 4 1
  let data := canData op len w.payload
  let covered := w.payload.take 5 ++ data
  let whole := decide (covered.length + 2 ≤ w.payload.length) && (len > 13 || !opWrites op || data.length == 4 * (len + 1))
  let ok := whole && crc16 0xFFFF covered == field w.payload covered.length 2
  let code := if ok then frameCode op addr len (canTop op) 0xFFFFFC else 5
  let j := newJob 1 op addr len (wordsOf data (len + 1)) (op.testBit 7 && sessionOpen s (canSession n) 0) code
  let m := if opReads op && decide (9 < len) then 0 else j.left
  advance s (canPath n) 0 { j with reply := w.reply, left := m, quota := m, fifo := m }

/-- Requests that wait are taken while the controller's path is free (R116). -/
def canDrain (n : Fin 2) : Nat → State → State
  | 0, s => s
  | k + 1, s =>
    if (s.jobs[canPath n]).isSome then s
    else match s.canq[n] with
    | [] => s
    | w :: t => canDrain n k (canStart { s with canq := s.canq.set n t } n w)

/-- A request that the node is to answer (R114, R115). -/
def canMine (s : State) (n : Fin 2) (id : Nat) : Bool :=
  slice id 27 2 == 2 && slice id 24 3 == 0 && slice id 0 8 == s.get (CAN_CFG.NODE n)
    && s.get (CAN_CFG.NODE n) != 0 && s.get (CAN_CFG.NODE n) != 255

/-- A frame has been received: REC falls by one, and from above 127 to a value of 119 to 127 that the standard leaves to
the controller; an error-passive controller may be error-active again (R113) (PRESUMED, log entry 22: ISO 11898-1). -/
def canHeard (s : State) (n : Nat) : State :=
  if s.get (CAN_STAT.REC n) < 128 then canActive (s.put (CAN_STAT.REC n) (s.get (CAN_STAT.REC n) - 1)) n
  else
    let (a, s1) := s.fresh
    canActive (s1.put (CAN_STAT.REC n) (119 + Config.freeNat a % 9)) n

/-- The controller receives: enabled and not bus-off; a listen-only one receives and answers nothing (R113). -/
def canHears (s : State) (n : Nat) : Bool := s.flag (CAN_CFG.EN n) && s.get (CAN_STAT.STATE n) != 2

/-- A frame arrives at a controller. `id` is none for a classical frame, a remote frame or an 11-bit identifier (R113),
`waiting` how many requests have arrived and have not been taken yet (R116) (DESIGN CHOICE, log entry 22). -/
def canFrame (s : State) (n : Fin 2) (id : Option (BitVec 29)) (payload : List (BitVec 8)) (waiting : Nat) : State :=
  if !served s || !canHears s n then s
  else
  let s := canHeard s n
  match id with
  | none => s.inc (CAN_STAT.DROPPED n)
  | some i =>
    if s.flag (CAN_CFG.LISTEN n) || !canMine s n i.toNat then s
    else if 4 ≤ waiting ∨ 4 ≤ (s.canq[n]).length then raiseEvent (s.inc (CAN_STAT.DROPPED n)) (0x05 + n) 2
    else
      let w : CanWait := { reply := slice i.toNat 16 8 * 256 + slice i.toNat 8 8, payload := payload }
      canDrain n 5 { s with canq := s.canq.set n (s.canq[n] ++ [w]) }

/-- A CAN FD frame arrives (R115). -/
def execCanRequest (n : Fin 2) (id : Option (BitVec 29)) (payload : List (BitVec 8)) (waiting : Fin 5) (s : State) : Out :=
  .next (canFrame s n id payload waiting)

/-- The heartbeat payload before its CRC (R117). -/
def heartbeatBody (s : State) : List (BitVec 8) :=
  beBytes 2 (regView s false 0x00 0x040 % 4096) ++ beBytes 1 (bitOf (errLow s)) ++ beBytes 1 (min 255 (activePages s))
    ++ beBytes 4 (s.retWord 0)

/-- A heartbeat is due: from step 3 of START-UP, and not in hive-sleep (R114, R117). -/
def execHeartbeat (n : Fin 2) (s : State) : Out :=
  .next (if served s && decide (3 ≤ s.get Boot.STEP) && canOn s n && s.get (CAN_CFG.HB n) != 0 then
      let body := heartbeatBody s
      let id := s.get (Can.HBSEQ n) * 2 ^ 16 + s.get (CAN_CFG.NODE n) * 256 + 0xFF
      canSent ((s.wrapInc (Can.HBSEQ n)).send (.can n id (canPad (body ++ beBytes 2 (crc16 0xFFFF body))))) n
    else s)

/-- TEC and REC take values that the standard's rules give from the errors on the bus, which the model does not see
(DESIGN CHOICE, log entry 22). -/
def canCounters (s : State) (n : Nat) : State :=
  let (a, s1) := s.fresh
  let (b, s2) := s1.fresh
  (s2.put (CAN_STAT.TEC n) (Config.freeNat a)).put (CAN_STAT.REC n) (Config.freeNat b)

/-- A controller enters the error-passive state (R113, R398). -/
def execErrPassive (n : Fin 2) (s : State) : Out :=
  .next (if served s && s.flag (CAN_CFG.EN n) && s.get (CAN_STAT.STATE n) == 0 then
      raiseEvent ((canCounters s n).put (CAN_STAT.STATE n) 1) (0x05 + n) 0
    else s)

/-- A controller enters the bus-off state (R113, R398). -/
def execBusOff (n : Fin 2) (s : State) : Out :=
  .next (if served s && canOn s n then raiseHeld ((canCounters s n).put (CAN_STAT.STATE n) 2) (0x05 + n) 1 else s)

/-- A controller recovers from bus-off (R113). -/
def execBusOffRecovery (n : Fin 2) (s : State) : Out :=
  .next (if s.get (CAN_STAT.STATE n) = 2 then
      causeEnds (((s.put (CAN_STAT.STATE n) 0).put (CAN_STAT.TEC n) 0).put (CAN_STAT.REC n) 0) (0x05 + n) 1
    else s)

end Sys2Proof.Machine
end

