-- ==== Sys2Proof/Machine/HostPort.lean ====
section
/-! DEFINITION. The quad SPI host port (R100 to R112): frames, chunks and the early end of a frame. Timing within a frame
is not modelled: a frame's words are performed when its check is registered or its chunk is drained. -/

namespace Sys2Proof.Machine

/-- A frame ends without an answer to its code: CRC, counted, with CRC_BURST above 8 in a second (R111, R398). -/
def hostCrcError (s : State) : State :=
  let s1 := (s.inc HOST_STAT.CRC_ERRS).inc (Flt.BURST 0x04)
  s1.on (s1.get (Flt.BURST 0x04) == 9) (fun s => raiseEvent s 0x04 0)

/-- A frame that was still open is over when the next one begins: complete where all its words were performed and its
last chunk shifted, or where no RDATA stands before its STATUS, otherwise ended early (R109) (DEDUCED, log entry 26). -/
def hostClose (s : State) : State :=
  match hostOpen s with
  | none => s
  | some j => if j.left = 0 && j.out.isEmpty then hostDone s j (!s.flag Pin.HRDY) else hostEnd s j

/-- The host port takes no frame while it is not served, or while words of an earlier frame are outstanding (R104,
R109). -/
def hostReady (s : State) : Bool := served s && (s.jobs[0]).isNone

/-- A frame whose RCRC has been received: its checks, then its accesses, at most F words in the first chunk (R105,
R108, R112) (DEDUCED, log entry 26). -/
def hostFrame (s : State) (op addr len : Nat) (data : List (BitVec 32)) (rcrc : Nat) : State :=
  if !served s then s
  else
    let s0 := hostClose s
    if !hostReady s0 then s0
    else
      let fits := data.length == (if opWrites op then len + 1 else 0)
      let ok := fits && crc16 0xFFFF (requestBytes op addr len data) == rcrc
      let code := if ok then frameCode op addr len 255 0xFFFFFC else 5
      let j := newJob 0 op addr len data (op.testBit 7 && sessionOpen s0 .host 0) code
      let f := 64 * 2 ^ s0.get HOST_CFG.FIFO
      let s1 := (s0.on (!ok) hostCrcError).put Pin.HRDY 0
      advance s1 0 0 { j with fifo := f, quota := if j.write then j.quota else min f j.quota }

/-- A frame with opcode RD (R102). -/
def execRd (keeper : Bool) (addr : BitVec 24) (len : BitVec 8) (rcrc : BitVec 16) (s : State) : Out :=
  .next (hostFrame s (1 + 128 * bitOf keeper) addr.toNat len.toNat [] rcrc.toNat)

/-- A frame with opcode WR (R102). -/
def execWr (keeper : Bool) (addr : BitVec 24) (len : BitVec 8) (data : List (BitVec 32)) (rcrc : BitVec 16) (s : State) : Out :=
  .next (hostFrame s (2 + 128 * bitOf keeper) addr.toNat len.toNat data rcrc.toNat)

/-- A frame with opcode RDN (R102). -/
def execRdn (keeper : Bool) (addr : BitVec 24) (len : BitVec 8) (rcrc : BitVec 16) (s : State) : Out :=
  .next (hostFrame s (3 + 128 * bitOf keeper) addr.toNat len.toNat [] rcrc.toNat)

/-- A frame with opcode WRN (R102). -/
def execWrn (keeper : Bool) (addr : BitVec 24) (len : BitVec 8) (data : List (BitVec 32)) (rcrc : BitVec 16) (s : State) : Out :=
  .next (hostFrame s (4 + 128 * bitOf keeper) addr.toNat len.toNat data rcrc.toNat)

/-- A frame without data whose OP byte is any: NOP, or an opcode that R102 does not list (R102). -/
def execNop (op : BitVec 8) (addr : BitVec 24) (len : BitVec 8) (rcrc : BitVec 16) (s : State) : Out :=
  .next (hostFrame s op.toNat addr.toNat len.toNat [] rcrc.toNat)

/-- A chunk has been filled: HRDY rises and the chunk is shifted, with STATUS and SCRC after the last one (R105). In a
frame without RDATA it is STATUS that stands ready (R106). -/
def chunkReady (s : State) : State :=
  match hostOpen s with
  | none => s
  | some j =>
    if s.flag Pin.HRDY || j.wait != 0 || j.quota != 0 then s
    else
      let crc := crc16 j.crc j.out
      let s1 := s.send (.hostResponse (j.out ++ (if j.left = 0 then hostTail j crc else [])))
      hrdyUp (keepJob s1 0 { j with crc := crc, out := [] })

/-- The chunk is ready (R105). -/
def execChunkReady (s : State) : Out := .next (chunkReady s)

/-- The last nibble of a chunk has been shifted: the next chunk is filled, or the frame is complete (R105). -/
def chunkDrained (s : State) : State :=
  match hostOpen s with
  | none => s
  | some j =>
    if !s.flag Pin.HRDY then s
    else if j.left = 0 then hostStat (dropJob s 0) j.code j.index
    else advance (s.put Pin.HRDY 0) 0 0 { j with quota := min j.fifo j.left }

/-- The chunk is drained (R105). -/
def execChunkDrained (s : State) : Out := .next (chunkDrained s)

/-- A frame ended before its RCRC check performs nothing (R109). -/
def hostAbort (s : State) : State :=
  if !served s then s
  else
    let s0 := hostClose s
    if hostReady s0 then hostStat (s0.inc HOST_STAT.ABORTS) 0xA 0 else s0

/-- A frame ends before its RCRC has checked (R109). -/
def execFrameAbort (s : State) : Out := .next (hostAbort s)

/-- A frame ends after its check: it performs every access that it carries (R109). -/
def execFrameEndAfterCheck (s : State) : Out :=
  .next (match hostOpen s with
    | none => s
    | some j => hostEnd s j)

/-- HSCK has paused for longer than STALL with HRDY high: the frame ends as if HCS_N had risen (R107). -/
def execStall (s : State) : Out :=
  .next (if s.get HOST_CFG.STALL = 0 || !s.flag Pin.HRDY then s
    else match hostOpen s with
    | none => hostAbort s
    | some j => hostEnd s j)

end Sys2Proof.Machine
end

