-- ==== Sys2Proof/Machine/Image.lean ====
section
/-! DEFINITION. Steps 3 and 4 of START-UP: the retention SRAM is restored, an image is selected and applied, and what
the reset left to report is reported (R60, R63 to R68, R73, R376, R395, R431). -/

namespace Sys2Proof.Machine

/-! ### The reset that is reported (R60, R74) -/

/-- The cause codes of R59 in the order of R60: power-on, supply loss, watchdog, Keeper software, Swarm, pin. -/
def causeOrder : List Nat := [1, 2, 4, 5, 6, 3]

/-- The triggers that coincided; a device that has started without any registered one has been powered on. -/
def triggers (s : State) : Nat := if s.get Boot.TRIGS = 0 then 1 else s.get Boot.TRIGS

/-- `HIVE_BOOT_STAT.CAUSE` and SECONDARY, and the list of causes in retention SRAM (R60, R74). -/
def reportCause (s : State) : State :=
  let t := triggers s
  let c := (causeOrder.find? (fun c => t.testBit (c - 1))).getD 1
  let s1 := (s.put HIVE_BOOT_STAT.CAUSE c).put HIVE_BOOT_STAT.SECONDARY (andNot t (1 <<< (c - 1)))
  let s2 := (s1.setRetWord 0x008 (s.retWord 0x008 * 16 % 4294967296 + c)).setRetWord 0x00C 0
  (s2.put Boot.STABLEMS 0).on (c != 1) (fun s => s.evt 0x00 1)

/-- The whole retention SRAM is restored from its shadow (R68, R74). -/
def retRestoreAll (s : State) : State :=
  let s1 := blockRead s 0x6F1000 0x1000
  { s1 with
    ret := (s1.mem.filter (fun c => 0x6F1000 ≤ c.1 && c.1 < 0x6F2000)).map (fun c => (c.1 - 0x6F1000, c.2)),
    ecc := Sparse.keep (fun w => w < 0x200000) s1.ecc }

/-! ### Selection (R66) -/

/-- SELECT of the boot control word; an uncorrectable one counts as 0 (R64, R66). -/
def bootSelect (s : State) : Nat := if eccState s (0x6F0000 / 8) = 2 then 0 else s.leNat 0x6F0000 1 % 2

/-- The attempt counter of a slot (R67, R74). -/
def attempts (s : State) (slot : Nat) : Nat := slice (s.retWord 4) (4 * slot) 4

/-- The slot that boots: the selected one, then the other, with fewer than three attempts and a valid image (R66). -/
def bootSlot (s : State) : Option Nat :=
  [bootSelect s, 1 - bootSelect s].find? (fun i => decide (attempts s i < 3) && imageValid s i)

/-- The bytes of the image in a slot (R65). -/
def imageBytes (s : State) (slot : Nat) : List (BitVec 8) :=
  bytesAt s (slotBase slot) (min 0x78000 (s.leNat (slotBase slot + 0xC) 4))

/-! ### What an image sets (R53, R68) -/

/-- The part of a word that belongs to configuration fields: KRW and RW (R9). -/
def configWord (l : Layout) (w : Nat) : Nat :=
  l.foldl (fun m q => m + (if q.2 = .krw ∨ q.2 = .rw then fieldOf w q.1 <<< q.1.lo else 0)) 0

/-- The register has a configuration field that this boot may set: no lock, no shutdown level that is locked, and no
64-bit register (R62, R68, R96). -/
def configHere (s : State) (p off : Nat) : Bool :=
  (regLayout p off).any (fun q => q.2 == .krw || q.2 == .rw) && off != 0x030 && (wide p off).isNone
    && !(p == 0x80 && decide (0x100 ≤ off) && decide (off < 0x7E0) && (off - 0x100) % 0x14 == 8
      && sdLocked s ((off - 0x100) / 0x14))

/-- One configured register is set, with the effects of a Keeper-view write of its configuration fields (R68). -/
def imageSet (s : State) (x : Nat × Nat) : State :=
  let p := x.1 / 0x1000 % 256
  let off := x.1 % 0x1000
  if configHere s p off then (regWrite s true 0 0 p off (configWord (regLayout p off) x.2)).1 else s

/-- The configuration registers of port pages, which step 4 sets (R63). -/
def isPortWrite (x : Nat × Nat) : Bool :=
  decide (0x30 ≤ x.1 / 0x1000) && decide (x.1 / 0x1000 < 0x60) && decide (0x040 ≤ x.1 % 0x1000)

/-- The offsets of a port page's block registers. -/
def portOffsets : List Nat := (List.range 16).map (fun i => 0x040 + 4 * i)

/-- A port's configuration fields but EN at their reset values. -/
def portBlank (s : State) (n : Nat) : State :=
  let fs := portOffsets.flatMap (fun off => (portPageLayout n off).filter (fun q => (q.2 == .krw || q.2 == .rw)
    && q.1 != PORT_CTL.EN n))
  s.each fs (fun s q => s.put q.1 q.1.rst)

/-- The word of `PORT_CTL` that the configuration gives a port: EN is 0 where the image does not set it. -/
def portCtlWord (n : Nat) (ws : List (Nat × Nat)) : Nat :=
  match (ws.filter (fun x => x.1 == (0x30 + n) * 0x1000 + 0x040)).getLast? with
  | some x => configWord (portPageLayout n 0x040) x.2
  | none => (portPageLayout n 0x040).foldl (fun m q => if q.2 = .krw then m + q.1.rst <<< q.1.lo else m) 0

/-- A port declared absent is off, also one held on through the reset; a latch stays (R53, R63). -/
def absentOff (s : State) (n : Nat) : State :=
  if !absent s (0x30 + n) then s
  else if portKind n = 4 then ((s.put (PORT_PD_STAT.STATE (n / 12)) 0).put (PDP_STAT.SW_ON (n / 12)) 0).put (Pd.DIS (n / 12)) 0
  else if s.get (PORT_STAT.STATE n) = 8 then s
  else portState (portPullDown s n) n 0

/-- Step 4: a port takes the image configuration; its FET parameters are loaded, its excesses and its latch stay, and
it follows its enable (R63, R68, R275). -/
def portStep4 (ws : List (Nat × Nat)) (s : State) (n : Nat) : State :=
  let mine := ws.filter (fun x => x.1 / 0x1000 == 0x30 + n && x.1 % 0x1000 != 0x040)
  let s1 := (portBlank s n).each mine (fun s x =>
    storeFields s (configWord (portPageLayout n (x.1 % 0x1000)) x.2)
      ((portPageLayout n (x.1 % 0x1000)).filter (fun q => q.2 == .krw || q.2 == .rw)))
  let s2 := fetLoad s1 n
  if portKind n = 4 then
    absentOff (storeFields s2 (portCtlWord n ws) ((portPageLayout n 0x040).filter (fun q => q.2 == .krw || q.2 == .rw))) n
  else absentOff (portClockBack (portCtlWrite s2 true n (portCtlWord n ws)).1 n) n

/-- The channels that a board description can declare absent: every comb, phase, port and PD port (R53, R66). -/
def channelPages : List Nat := allocatedPages.filter (fun p => (0x10 ≤ p && p < 0x14) || (0x20 ≤ p && p < 0x64))

/-- The comb of a channel. -/
def channelComb (p : Nat) : Nat := if p < 0x20 then p - 0x10 else if p < 0x30 then (p - 0x20) / 4 else if p < 0x60 then
  (p - 0x30) / 12 else p - 0x60

/-- The image declares a channel absent: the channel itself, or the whole comb that it belongs to (R53). -/
def declaredAbsent (img : List (BitVec 8)) (p : Nat) : Bool :=
  Config.imageAbsent img p || Config.imageAbsent img (0x10 + channelComb p)

/-- Bank A holds the bytes given and nothing else, and is active; bank B is empty (R68, R462). -/
def loadBank (s : State) (l : List (BitVec 8)) : State :=
  let s1 := s.clearMem 0x200000 0x280000
  let s2 := s1.each ((l.take 0x80000).zipIdx) (fun s b => s.setByte (0x200000 + b.2) b.1)
  ((s2.put TBL_BANK.ACTIVE 0).put TBL_BANK.INACT 0)

/-- The built-in record is booted: CMB0 is the safe comb, and every channel is absent (R66). -/
def bootBuiltIn (s : State) : State :=
  let s1 := (((loadBank s []).put HIVE_BOOT_STAT.NOIMG 1).put HIVE_BOOT_STAT.SAFE_COMB 0)
  let s2 := s1.each channelPages (fun s p => s.put (PAGE_STAT.ABSENT p) 1)
  raiseEvent (s2.each (List.range 48) (portStep4 [])) 0x00 3

/-- The lock settings of an image (R85, R96). -/
def imageLocks (s : State) (img : List (BitVec 8)) : State :=
  s.each allocatedPages (fun s p =>
    let v := Config.imageLock img p
    s.on (v.testBit 0 || v.testBit 2) (fun s =>
      ((s.orF (PAGE_LOCK.CFG p) (v % 2)).orF (PAGE_LOCK.INJ p) (v / 4 % 2)).put (PAGE_LOCK.BY_IMAGE p) 1))

/-- The image of a slot is booted and applied, its locks last (R66, R68). -/
def bootImage (s : State) (slot : Nat) : State :=
  let img := imageBytes s slot
  let ws := Config.imageWrites img
  let host := Config.imageHost img
  let s1 := loadBank (blockRead s (slotBase slot) img.length) (Config.imageTables img)
  let s2 := ((s1.put HIVE_BOOT_STAT.IMG slot).put HIVE_BOOT_STAT.ATTEMPT (attempts s slot)).put HIVE_BOOT_STAT.SAFE_COMB
    (s.leNat (slotBase slot + 0x10) 1 % 4)
  let s3 := (s2.each channelPages (fun s p => s.putB (PAGE_STAT.ABSENT p) (declaredAbsent img p))).each (List.range 48)
    (fun s n => (s.putB (PORT_CTL.PRES_USE n) (Config.imagePresUse img n)).putB (PORT_CTL.TD_USE n) (Config.imageTdUse img n))
  let s4 := (((s3.put Wdg.HCLK host.1).put Wdg.HWIN host.2.1).put Wdg.HEN host.2.2.1).put Wdg.HMAP host.2.2.2
  let s5 := (s4.put Ses.IMGCODE (Config.imageCode img)).each (ws.filter (fun x => !isPortWrite x)) imageSet
  let s6 := s5.each (List.range 48) (portStep4 (ws.filter isPortWrite))
  let fell := slot != bootSelect s
  (imageLocks s6 img).on fell (fun s => raiseEvent (s.put HIVE_BOOT_STAT.FALLBACK 1) 0x00 2)

/-! ### What the reset left (R395, R398, R431) -/

/-- A watchdog reset appends its record and loads the causes of the failed cycle (R431). -/
def watchdogReport (s : State) : State :=
  if s.flag Wdg.RPEND then
    let s1 := eventRecord s (3 + s.get Wdg.RCAUSE * 2 ^ 16 + s.get Wdg.RSLOT * 2 ^ 24 + s.get Wdg.RSEQ * 2 ^ 32)
      (s.get Wdg.RTIME + s.get Wdg.RCOUNT * 2 ^ 32)
    let s2 := ((s1.put WDG_CAUSE.MISSING (s.get Wdg.RMISS)).put WDG_CAUSE.DUP (s.get Wdg.RDUP)).put WDG_CAUSE_X.FROM_RESET 1
    let x := s.get Wdg.RX
    let s3 := ((s2.putB WDG_CAUSE_X.EARLY (x.testBit 0)).putB WDG_CAUSE_X.LATE (x.testBit 1)).putB WDG_CAUSE_X.BAD_KEY
      (x.testBit 2)
    (s3.putB WDG_CAUSE_X.CLK_STOP (x.testBit 3)).put Wdg.RPEND 0
  else s

/-- The losses that the always-on domain recorded before the reset are raised (R395). -/
def lossReport (s : State) : State :=
  let s1 := (s.put Boot.REC_HIVE 0).on (s.flag Boot.REC_HIVE) (fun s => raiseEvent s 0x01 1)
  (s1.put Boot.REC_VDDC 0).on (s.flag Boot.REC_VDDC) (fun s => raiseEvent s 0x02 1)

/-- Dead-battery boot (R73): the VAUX ball and the highest Pnn_VIN below 4.5 V, and the highest P11_VBUS above it. -/
def deadBattery (vaux vinMax vbusMax : Nat) : Bool :=
  decide (vaux < 4500) && decide (vinMax < 4500) && decide (4500 < vbusMax)

/-- Steps 3 and 4 of START-UP, with the voltages of R73 in millivolts (R68). -/
def imageSelect (s : State) (vaux vinMax vbusMax : Nat) : State :=
  let s0 := if triggers s % 2 = 1 then retRestoreAll s else s
  let s1 := reportCause (blockRead s0 0x6F0000 8)
  let s2 := match bootSlot s1 with
    | some i => bootImage s1 i
    | none => bootBuiltIn s1
  let s3 := (s2.putB HIVE_BOOT_STAT.DEADBAT (deadBattery vaux vinMax vbusMax)).put Boot.STEP 4
  let s4 := reapplyRecords (watchdogReport (lossReport s3))
  let s5 := (seqReview (curveReview s4)).put Boot.TRIGS 0
  if s5.flag SW_ADDR.AUTO then s5 else addressTake s5 (s5.get SW_ADDR.NODE)

/-- Steps 3 and 4 of START-UP (R66, R68). -/
def execImageSelect (vaux vinMax vbusMax : Nat) (s : State) : Out :=
  .next (if !s.flag Boot.HELD && s.get Boot.STEP == 2 then imageSelect s vaux vinMax vbusMax else s)

end Sys2Proof.Machine
end

