-- ==== Sys2Proof/Machine/Remote.lean ====
section
/-! DEFINITION. Remote register access over the Swarm link (R83, R454): at the target, and at the originating device. -/

namespace Sys2Proof.Machine

/-! ### The target -/

/-- The holders of the Swarm path are cleared at the start of a REQ (R454). -/
def clearHolders (s : State) : State :=
  { s with readHold := s.readHold.set 3 none, writeHold := s.writeHold.set 3 none }.put (Cap.ON 3) 0

/-- The length of the payload fits its opcode and LEN (R440). -/
def reqFits (p : List (BitVec 8)) : Bool :=
  decide (5 ≤ p.length) && (if opWrites (field p 0 1) then p.length == 5 + 4 * (field p 4 1 + 1) else p.length == 5)

/-- The device performs a REQ on its Swarm path and answers RSP. The access is a Keeper-view access where the frame is a
Keeper frame, the path holds a session of its sender, and the device is not in SAFE-BOOT (R83, R88, R456). -/
def reqTake (s : State) (f : SwFrame) : State :=
  if !served s then s
  else
    let op := field f.payload 0 1
    let addr := field f.payload 1 3 % 0x100000
    let len := field f.payload 4 1
    let k := f.keeper && sessionOpen s .swarm f.src && !inSafeBoot s
    let code := frameCode op addr len (if opWrites op then 14 else 10) 0xFFFFC
    let j := newJob 4 op (addr + (if k then 0x100000 else 0)) len (wordsOf (f.payload.drop 5) (len + 1)) k code
    let m := if opReads op && decide (10 < len) then 0 else j.left
    let r := runJob 3 f.src m (clearHolders s) { j with left := m, quota := m }
    if r.1.flag Boot.HELD then r.1
    else originate r.1 5 false false f.src.toNat (beBytes 2 (statusWord r.2) ++ r.2.out)

/-- A REQ frame arrives (R454). -/
def execReq (f : SwFrame) (s : State) : Out :=
  .next (receive s f 4 (reqFits f.payload) id (fun s => reqTake s f) f.payload)

/-! ### The originating device -/

/-- The path goes on with its frame, and a CAN FD controller takes the next request. -/
def resume (s : State) (path : Fin 4) (j : Job) : State :=
  let s1 := advance s path 0 j
  if path = 1 then canDrain 0 5 s1 else if path = 2 then canDrain 1 5 s1 else s1

/-- The path whose outstanding REQ an RSP of a node answers: of several, the one sent first. -/
def rspPath (s : State) (src len : Nat) : Option (Fin 4) :=
  ((List.finRange 4).filter (fun (p : Fin 4) => match s.jobs[p] with
    | some j => j.wait != 0 && j.target == src && len == max 4 (2 + (if j.write then 0 else 6 * j.wait))
    | none => false)).foldl (fun m p => match m with
      | none => some p
      | some q => if ((s.jobs[p]).map (·.stamp)).getD 0 < ((s.jobs[q]).map (·.stamp)).getD 0 then some p else some q) none

/-- An RSP completes the words of its REQ; the code that it returns is folded in, and recorded in the SWARM page
(R454) (DEDUCED, log entry 52). -/
def rspTake (s : State) (f : SwFrame) : State :=
  match rspPath s f.src.toNat f.payload.length with
  | none => s
  | some path => match s.jobs[path] with
    | none => s
    | some j =>
      let code := field f.payload 0 2 / 4096
      let j1 := jobWords { j with wait := 0 } j.wait (f.payload.drop 2) code (field f.payload 0 2 % 256)
      resume (s.on (decide (1 ≤ code) && decide (code ≤ 4)) (fun s => refusal s 0x98 code)) path j1

/-- An RSP frame arrives (R454). -/
def execRsp (f : SwFrame) (s : State) : Out :=
  .next (receive s f 5 (f.payload.length == 4 || (decide (8 ≤ f.payload.length) && (f.payload.length - 2) % 6 == 0)) id (fun s => rspTake s f)
    f.payload)

/-- Words of the Swarm remote window accessed by a path on their own: read, or written where `data` is given. They
end an earlier frame of the host port as a new frame does; while the words of a frame are outstanding, nothing is
accepted (R109, R454) (DEDUCED, log entry 52). -/
def remoteAccess (s0 : State) (a : Access) (addr len : Nat) (data : Option (List (BitVec 32))) : State :=
  let path := pathNum a.path
  let s := if path = 0 && served s0 then hostClose s0 else s0
  if !served s || a.path == .swarm || (s.jobs[path]).isSome then s
  else if addr % 4 ≠ 0 then s.put (Last.CODE path) 8
  else
    let op := if data.isSome then 2 else 1
    let j := newJob 2 op (0x700000 + addr) len (data.getD []) (keeperView s a) 0
    let n := match data with
      | some l => min (len + 1) l.length
      | none => len + 1
    advance ((touch s a).on (path == 0) (·.put Pin.HRDY 0)) path 0 { j with left := n, quota := n }

/-- An access to the Swarm remote window (R454). -/
def execRemoteAccess (a : Access) (addr : BitVec 20) (len : BitVec 8) (data : Option (List (BitVec 32))) (s : State) : Out :=
  .next (remoteAccess s a addr.toNat len.toNat data)

/-- An RSP has not arrived within TIMEOUT: the words of its REQ fail, and the frame goes on (R454). -/
def remoteTimeout (s : State) (path : Fin 4) : State :=
  match s.jobs[path] with
  | none => s
  | some j =>
    if j.wait = 0 then s
    else
      let s1 := s.each (List.range j.wait) (fun s _ => remoteFail s 1)
      resume s1 path (jobWords { j with wait := 0 } j.wait (List.replicate (6 * j.wait) 0) 4 0)

/-- TIMEOUT has passed (R454). -/
def execRemoteTimeout (path : Path) (s : State) : Out := .next (remoteTimeout s (pathNum path))

/-! ### The windows -/

/-- A write through the SRAM or MRAM window (R81, R82). An address that is not a word is not performed, and one outside
the windows is the write that the map gives it (R79, R80, R111). -/
def execWindowWrite (a : Access) (addr : BitVec 24) (w : BitVec 32) (s : State) : Out :=
  let ad := addr.toNat
  .next (if 0x700000 ≤ ad ∧ ad < 0x800000 then remoteAccess s a (ad - 0x700000) 0 (some [w])
    else if ad % 4 ≠ 0 then (if served s then s.put (Last.CODE (pathNum a.path)) 8 else s)
    else regOp s { a with keeper := wordKeeper a.keeper ad } (fun s k =>
      if ad < 0x200000 then regWrite s k (pathNum a.path) a.node (ad / 0x1000 % 256) (ad % 0x1000) w.toNat
      else if ad < 0x700000 then windowWrite s k ad w.toNat
      else (refusal s 0x00 4, 4)))

end Sys2Proof.Machine
end

