-- ==== Sys2Proof/Machine/Dispatch.lean ====
section
/-! DEFINITION. The dispatch: one arm per command, each a direct call of its meaning. -/

namespace Sys2Proof.Machine

/-- The meaning of a command: its effect on everything but the queue. -/
def exec (i : Instr) (s : State) : Host.Outcome State Fault Refusal :=
  match i with
  | .registerWrite a addr w => Sys2Proof.Machine.execRegisterWrite a addr w s
  | .clockMonitorTrip isl => Sys2Proof.Machine.execClockMonitorTrip isl s
  | .refLost => Sys2Proof.Machine.execRefLost s
  | .retReady => Sys2Proof.Machine.execRetReady s
  | .clkReturn a w => Sys2Proof.Machine.execClkReturn a w s
  | .gangReq a c w => Sys2Proof.Machine.execGangReq a c w s
  | .gangCheck c => Sys2Proof.Machine.execGangCheck c s
  | .gangDissolve c => Sys2Proof.Machine.execGangDissolve c s
  | .preRegulatorStart => Sys2Proof.Machine.execPreRegulatorStart s
  | .idealDiodeSwitch => Sys2Proof.Machine.execIdealDiodeSwitch s
  | .ioRailToVddio => Sys2Proof.Machine.execIoRailToVddio s
  | .ioRailToVioi => Sys2Proof.Machine.execIoRailToVioi s
  | .domainTakesVddc => Sys2Proof.Machine.execDomainTakesVddc s
  | .vddcLoss => Sys2Proof.Machine.execVddcLoss s
  | .referenceSelect refinAt xtalAt => Sys2Proof.Machine.execReferenceSelect refinAt xtalAt s
  | .powerOnReset => Sys2Proof.Machine.execPowerOnReset s
  | .porRelease => Sys2Proof.Machine.execPorRelease s
  | .coreFail => Sys2Proof.Machine.execCoreFail s
  | .rstNAssert => Sys2Proof.Machine.execRstNAssert s
  | .keeperSoftwareReset a => Sys2Proof.Machine.execKeeperSoftwareReset a s
  | .resetRelease => Sys2Proof.Machine.execResetRelease s
  | .hivePllLock => Sys2Proof.Machine.execHivePllLock s
  | .imageSelect vaux vinMax vbusMax => Sys2Proof.Machine.execImageSelect vaux vinMax vbusMax s
  | .firstEvaluation => Sys2Proof.Machine.execFirstEvaluation s
  | .claimWindowEnd => Sys2Proof.Machine.execClaimWindowEnd s
  | .claim a => Sys2Proof.Machine.execClaim a s
  | .combRelease => Sys2Proof.Machine.execCombRelease s
  | .stableService => Sys2Proof.Machine.execStableService s
  | .retentionShadowCopy word => Sys2Proof.Machine.execRetentionShadowCopy word s
  | .pwrRetData a w => Sys2Proof.Machine.execPwrRetData a w s
  | .hiveSleep a => Sys2Proof.Machine.execHiveSleep a s
  | .sleepAbort src => Sys2Proof.Machine.execSleepAbort src s
  | .sleepTimerExpiry => Sys2Proof.Machine.execSleepTimerExpiry s
  | .wake src lost => Sys2Proof.Machine.execWake src lost s
  | .pageIrqSet a page w => Sys2Proof.Machine.execPageIrqSet a page w s
  | .faultAck a page w => Sys2Proof.Machine.execFaultAck a page w s
  | .faultInject a page w => Sys2Proof.Machine.execFaultInject a page w s
  | .readHolderCapture a addr => Sys2Proof.Machine.execReadHolderCapture a addr s
  | .lowWordWrite a addr w => Sys2Proof.Machine.execLowWordWrite a addr w s
  | .highWordCommit a addr w => Sys2Proof.Machine.execHighWordCommit a addr w s
  | .pinSessionOpen => Sys2Proof.Machine.execPinSessionOpen s
  | .pinSessionClose => Sys2Proof.Machine.execPinSessionClose s
  | .ksessCodeLo a w => Sys2Proof.Machine.execKsessCodeLo a w s
  | .attempt a w => Sys2Proof.Machine.execAttempt a w s
  | .lockoutEnd => Sys2Proof.Machine.execLockoutEnd s
  | .sessionClose a w => Sys2Proof.Machine.execSessionClose a w s
  | .sessionIdleClose path => Sys2Proof.Machine.execSessionIdleClose path s
  | .rd keeper addr len rcrc => Sys2Proof.Machine.execRd keeper addr len rcrc s
  | .wr keeper addr len data rcrc => Sys2Proof.Machine.execWr keeper addr len data rcrc s
  | .rdn keeper addr len rcrc => Sys2Proof.Machine.execRdn keeper addr len rcrc s
  | .wrn keeper addr len data rcrc => Sys2Proof.Machine.execWrn keeper addr len data rcrc s
  | .nop op addr len rcrc => Sys2Proof.Machine.execNop op addr len rcrc s
  | .chunkReady => Sys2Proof.Machine.execChunkReady s
  | .chunkDrained => Sys2Proof.Machine.execChunkDrained s
  | .frameAbort => Sys2Proof.Machine.execFrameAbort s
  | .frameEndAfterCheck => Sys2Proof.Machine.execFrameEndAfterCheck s
  | .stall => Sys2Proof.Machine.execStall s
  | .canRequest n id payload waiting => Sys2Proof.Machine.execCanRequest n id payload waiting s
  | .heartbeat n => Sys2Proof.Machine.execHeartbeat n s
  | .errPassive n => Sys2Proof.Machine.execErrPassive n s
  | .busOff n => Sys2Proof.Machine.execBusOff n s
  | .busOffRecovery n => Sys2Proof.Machine.execBusOffRecovery n s
  | .combMark c => Sys2Proof.Machine.execCombMark c s
  | .issueDecision p => Sys2Proof.Machine.execIssueDecision p s
  | .periodStart p => Sys2Proof.Machine.execPeriodStart p s
  | .slotWrite p e => Sys2Proof.Machine.execSlotWrite p e s
  | .walk a p w => Sys2Proof.Machine.execWalk a p w s
  | .squash p => Sys2Proof.Machine.execSquash p s
  | .dsat p => Sys2Proof.Machine.execDsat p s
  | .duv p => Sys2Proof.Machine.execDuv p s
  | .fwTimeout p => Sys2Proof.Machine.execFwTimeout p s
  | .decayComplete p => Sys2Proof.Machine.execDecayComplete p s
  | .runSet a p w => Sys2Proof.Machine.execRunSet a p w s
  | .runCleared a p w => Sys2Proof.Machine.execRunCleared a p w s
  | .cbc p neg t => Sys2Proof.Machine.execCbc p neg t s
  | .cbcPersist p => Sys2Proof.Machine.execCbcPersist p s
  | .samplePoint p sp raw => Sys2Proof.Machine.execSamplePoint p sp raw s
  | .snsSat p => Sys2Proof.Machine.execSnsSat p s
  | .planStarved p => Sys2Proof.Machine.execPlanStarved p s
  | .confirmation p k x cbcNow => Sys2Proof.Machine.execConfirmation p k x cbcNow s
  | .nosample p k => Sys2Proof.Machine.execNosample p k s
  | .planEntryCommit p e close => Sys2Proof.Machine.execPlanEntryCommit p e close s
  | .coefficientRecompute c => Sys2Proof.Machine.execCoefficientRecompute c s
  | .gangSquash c => Sys2Proof.Machine.execGangSquash c s
  | .degrade p => Sys2Proof.Machine.execDegrade p s
  | .stormEnter c => Sys2Proof.Machine.execStormEnter c s
  | .stormExit c => Sys2Proof.Machine.execStormExit c s
  | .feederPre c r => Sys2Proof.Machine.execFeederPre c r s
  | .feederMain c r => Sys2Proof.Machine.execFeederMain c r s
  | .feederOff c r => Sys2Proof.Machine.execFeederOff c r s
  | .pdTrans c r => Sys2Proof.Machine.execPdTrans c r s
  | .changeover c r => Sys2Proof.Machine.execChangeover c r s
  | .budget c r => Sys2Proof.Machine.execBudget c r s
  | .share c r => Sys2Proof.Machine.execShare c r s
  | .hostRecord c r => Sys2Proof.Machine.execHostRecord c r s
  | .cancel c r => Sys2Proof.Machine.execCancel c r s
  | .recordRetire c idx => Sys2Proof.Machine.execRecordRetire c idx s
  | .markPerWrite a c w => Sys2Proof.Machine.execMarkPerWrite a c w s
  | .modelWrite a c w => Sys2Proof.Machine.execModelWrite a c w s
  | .foragerEnable a c w => Sys2Proof.Machine.execForagerEnable a c w s
  | .peek a c => Sys2Proof.Machine.execPeek a c s
  | .stale c q => Sys2Proof.Machine.execStale c q s
  | .staleRamp c => Sys2Proof.Machine.execStaleRamp c s
  | .batteryUnusable c => Sys2Proof.Machine.execBatteryUnusable c s
  | .batteryUsable c => Sys2Proof.Machine.execBatteryUsable c s
  | .sourceQualified c m => Sys2Proof.Machine.execSourceQualified c m s
  | .revert c => Sys2Proof.Machine.execRevert c s
  | .plannedChangeover a c w => Sys2Proof.Machine.execPlannedChangeover a c w s
  | .changeoverLeadExpiry c => Sys2Proof.Machine.execChangeoverLeadExpiry c s
  | .onCommand c => Sys2Proof.Machine.execOnCommand c s
  | .pairOnReport n => Sys2Proof.Machine.execPairOnReport n s
  | .pairOffReport n => Sys2Proof.Machine.execPairOffReport n s
  | .budgetWrite a c which w => Sys2Proof.Machine.execBudgetWrite a c which w s
  | .rampDone c => Sys2Proof.Machine.execRampDone c s
  | .shedCheck c => Sys2Proof.Machine.execShedCheck c s
  | .shedRestore a c w => Sys2Proof.Machine.execShedRestore a c w s
  | .pdCut a c w => Sys2Proof.Machine.execPdCut a c w s
  | .pdCutEnforced c => Sys2Proof.Machine.execPdCutEnforced c s
  | .supExit c => Sys2Proof.Machine.execSupExit c s
  | .batLow c => Sys2Proof.Machine.execBatLow c s
  | .shareLost c => Sys2Proof.Machine.execShareLost c s
  | .evaluation n => Sys2Proof.Machine.execEvaluation n s
  | .engineEnable a n w => Sys2Proof.Machine.execEngineEnable a n w s
  | .profileWrite a n w => Sys2Proof.Machine.execProfileWrite a n w s
  | .staleInput n => Sys2Proof.Machine.execStaleInput n s
  | .restart a n => Sys2Proof.Machine.execRestart a n s
  | .gotoState a n arg => Sys2Proof.Machine.execGotoState a n arg s
  | .clearTotal a n => Sys2Proof.Machine.execClearTotal a n s
  | .exitMet n e => Sys2Proof.Machine.execExitMet n e s
  | .chargeTimeout n => Sys2Proof.Machine.execChargeTimeout n s
  | .vcellHigh n => Sys2Proof.Machine.execVcellHigh n s
  | .blockClose n => Sys2Proof.Machine.execBlockClose n s
  | .dtdtUpdate n => Sys2Proof.Machine.execDtdtUpdate n s
  | .probeTrigger n => Sys2Proof.Machine.execProbeTrigger n s
  | .periodicProbe n => Sys2Proof.Machine.execPeriodicProbe n s
  | .probeEnd n below => Sys2Proof.Machine.execProbeEnd n below s
  | .batteryReturn n => Sys2Proof.Machine.execBatteryReturn n s
  | .lampPatternChange m => Sys2Proof.Machine.execLampPatternChange m s
  | .sweepRequest a n w => Sys2Proof.Machine.execSweepRequest a n w s
  | .autoSweep n => Sys2Proof.Machine.execAutoSweep n s
  | .sweepAbort n => Sys2Proof.Machine.execSweepAbort n s
  | .sweepResume n => Sys2Proof.Machine.execSweepResume n s
  | .impStep n => Sys2Proof.Machine.execImpStep n s
  | .impedancePair n => Sys2Proof.Machine.execImpedancePair n s
  | .settleDone n => Sys2Proof.Machine.execSettleDone n s
  | .integrationDone n => Sys2Proof.Machine.execIntegrationDone n s
  | .pointResult n => Sys2Proof.Machine.execPointResult n s
  | .windowOutside n => Sys2Proof.Machine.execWindowOutside n s
  | .windowInside n => Sys2Proof.Machine.execWindowInside n s
  | .ovp n => Sys2Proof.Machine.execOvp n s
  | .presenceAsserted n => Sys2Proof.Machine.execPresenceAsserted n s
  | .presenceDeasserted n => Sys2Proof.Machine.execPresenceDeasserted n s
  | .portEnable a n w => Sys2Proof.Machine.execPortEnable a n w s
  | .commandedTurnOff a n w => Sys2Proof.Machine.execCommandedTurnOff a n w s
  | .insDlyExpiry n => Sys2Proof.Machine.execInsDlyExpiry n s
  | .prechargeStart n => Sys2Proof.Machine.execPrechargeStart n s
  | .enhancementStart n => Sys2Proof.Machine.execEnhancementStart n s
  | .prechargeEnd n => Sys2Proof.Machine.execPrechargeEnd n s
  | .pcgFail n => Sys2Proof.Machine.execPcgFail n s
  | .fullEnhancement n => Sys2Proof.Machine.execFullEnhancement n s
  | .gateRise n => Sys2Proof.Machine.execGateRise n s
  | .pgAssert n => Sys2Proof.Machine.execPgAssert n s
  | .pullDownStart n => Sys2Proof.Machine.execPullDownStart n s
  | .gateFall n => Sys2Proof.Machine.execGateFall n s
  | .limit n => Sys2Proof.Machine.execLimit n s
  | .limitRelease n => Sys2Proof.Machine.execLimitRelease n s
  | .ocTrip n => Sys2Proof.Machine.execOcTrip n s
  | .short n => Sys2Proof.Machine.execShort n s
  | .retryDone n => Sys2Proof.Machine.execRetryDone n s
  | .modelStep n => Sys2Proof.Machine.execModelStep n s
  | .modelInputStale n which => Sys2Proof.Machine.execModelInputStale n which s
  | .revHold n => Sys2Proof.Machine.execRevHold n s
  | .reverse n => Sys2Proof.Machine.execReverse n s
  | .attach c kind cc2 rp => Sys2Proof.Machine.execAttach c kind cc2 rp s
  | .detach c => Sys2Proof.Machine.execDetach c s
  | .roleToggle c => Sys2Proof.Machine.execRoleToggle c s
  | .dutyEntry c => Sys2Proof.Machine.execDutyEntry c s
  | .pdRelease c => Sys2Proof.Machine.execPdRelease c s
  | .transition a c w => Sys2Proof.Machine.execTransition a c w s
  | .transitionStart c => Sys2Proof.Machine.execTransitionStart c s
  | .transDone c => Sys2Proof.Machine.execTransDone c s
  | .rxMsg c sop bytes crcOk early => Sys2Proof.Machine.execRxMsg c sop bytes crcOk early s
  | .txOk c => Sys2Proof.Machine.execTxOk c s
  | .txRetry c => Sys2Proof.Machine.execTxRetry c s
  | .go a c w => Sys2Proof.Machine.execGo a c w s
  | .txData a c w => Sys2Proof.Machine.execTxData a c w s
  | .rxData a c => Sys2Proof.Machine.execRxData a c s
  | .hardReset a c => Sys2Proof.Machine.execHardReset a c s
  | .cableReset a c => Sys2Proof.Machine.execCableReset a c s
  | .srcOff a c => Sys2Proof.Machine.execSrcOff a c s
  | .srcOn a c => Sys2Proof.Machine.execSrcOn a c s
  | .hardResetRx c => Sys2Proof.Machine.execHardResetRx c s
  | .cableResetRx c => Sys2Proof.Machine.execCableResetRx c s
  | .tPsHardReset c => Sys2Proof.Machine.execTPsHardReset c s
  | .tSrcRecover c => Sys2Proof.Machine.execTSrcRecover c s
  | .hardResetDone c => Sys2Proof.Machine.execHardResetDone c s
  | .frsSignal c => Sys2Proof.Machine.execFrsSignal c s
  | .frsTakeover c => Sys2Proof.Machine.execFrsTakeover c s
  | .hostTimerStart a c t w => Sys2Proof.Machine.execHostTimerStart a c t w s
  | .hostTimerStop a c t w => Sys2Proof.Machine.execHostTimerStop a c t w s
  | .hostTimerExpiry c t => Sys2Proof.Machine.execHostTimerExpiry c t s
  | .pdShortCircuit c => Sys2Proof.Machine.execPdShortCircuit c s
  | .pdOverCurrent c => Sys2Proof.Machine.execPdOverCurrent c s
  | .pdOverVoltage c => Sys2Proof.Machine.execPdOverVoltage c s
  | .pdReverseCurrent c => Sys2Proof.Machine.execPdReverseCurrent c s
  | .ccOvp c => Sys2Proof.Machine.execCcOvp c s
  | .vconnOc c => Sys2Proof.Machine.execVconnOc c s
  | .pdGateRise c => Sys2Proof.Machine.execPdGateRise c s
  | .errorRecoveryEnd c => Sys2Proof.Machine.execErrorRecoveryEnd c s
  | .pdEnable a c w => Sys2Proof.Machine.execPdEnable a c w s
  | .switchOpen c => Sys2Proof.Machine.execSwitchOpen c s
  | .vsafe0v c => Sys2Proof.Machine.execVsafe0v c s
  | .discharge c => Sys2Proof.Machine.execDischarge c s
  | .conversionEnd lane outside => Sys2Proof.Machine.execConversionEnd lane outside s
  | .valueAvailable input raw birthOk upset => Sys2Proof.Machine.execValueAvailable input raw birthOk upset s
  | .seqTimer t => Sys2Proof.Machine.execSeqTimer t s
  | .phaseEventTrigger p ev => Sys2Proof.Machine.execPhaseEventTrigger p ev s
  | .swTrig a w => Sys2Proof.Machine.execSwTrig a w s
  | .sequenceDue q => Sys2Proof.Machine.execSequenceDue q s
  | .sequenceStepStart => Sys2Proof.Machine.execSequenceStepStart s
  | .urgent a w => Sys2Proof.Machine.execUrgent a w s
  | .laneRefWrite a w => Sys2Proof.Machine.execLaneRefWrite a w s
  | .settled conv => Sys2Proof.Machine.execSettled conv s
  | .refTimeout conv => Sys2Proof.Machine.execRefTimeout conv s
  | .calibration a w => Sys2Proof.Machine.execCalibration a w s
  | .autoCalibration => Sys2Proof.Machine.execAutoCalibration s
  | .laneHandover => Sys2Proof.Machine.execLaneHandover s
  | .calDone ofs gain => Sys2Proof.Machine.execCalDone ofs gain s
  | .tdacWrite a w => Sys2Proof.Machine.execTdacWrite a w s
  | .tdacReady => Sys2Proof.Machine.execTdacReady s
  | .accClr a acc w => Sys2Proof.Machine.execAccClr a acc w s
  | .mmtClr a t w => Sys2Proof.Machine.execMmtClr a t w s
  | .accCapture a acc => Sys2Proof.Machine.execAccCapture a acc s
  | .thresholdBlock acc => Sys2Proof.Machine.execThresholdBlock acc s
  | .sramScrub upset => Sys2Proof.Machine.execSramScrub upset s
  | .retentionScrub upset => Sys2Proof.Machine.execRetentionScrub upset s
  | .mramScrub upset => Sys2Proof.Machine.execMramScrub upset s
  | .retentionRestore word => Sys2Proof.Machine.execRetentionRestore word s
  | .windowWrite a addr w => Sys2Proof.Machine.execWindowWrite a addr w s
  | .injectionArm a mram w => Sys2Proof.Machine.execInjectionArm a mram w s
  | .tagInj a w => Sys2Proof.Machine.execTagInj a w s
  | .thermalSample k => Sys2Proof.Machine.execThermalSample k s
  | .thermalUrgentRequest k => Sys2Proof.Machine.execThermalUrgentRequest k s
  | .throttleLevel k => Sys2Proof.Machine.execThrottleLevel k s
  | .shutdown k => Sys2Proof.Machine.execShutdown k s
  | .sensorFailed k => Sys2Proof.Machine.execSensorFailed k s
  | .intervalLengthen k => Sys2Proof.Machine.execIntervalLengthen k s
  | .substitutionEnd k => Sys2Proof.Machine.execSubstitutionEnd k s
  | .dieComparator => Sys2Proof.Machine.execDieComparator s
  | .cooled k => Sys2Proof.Machine.execCooled k s
  | .thmAck a w => Sys2Proof.Machine.execThmAck a w s
  | .minPower k => Sys2Proof.Machine.execMinPower k s
  | .sdWrite a k w => Sys2Proof.Machine.execSdWrite a k w s
  | .reactionTimer page cls => Sys2Proof.Machine.execReactionTimer page cls s
  | .quietPeriodEnd page cls => Sys2Proof.Machine.execQuietPeriodEnd page cls s
  | .lampOc m => Sys2Proof.Machine.execLampOc m s
  | .lampOcReleaseEnd m => Sys2Proof.Machine.execLampOcReleaseEnd m s
  | .lineChange src => Sys2Proof.Machine.execLineChange src s
  | .pendSet a j w => Sys2Proof.Machine.execPendSet a j w s
  | .pendClr a j w => Sys2Proof.Machine.execPendClr a j w s
  | .intcClaim a t => Sys2Proof.Machine.execIntcClaim a t s
  | .endOfInterrupt a t w => Sys2Proof.Machine.execEndOfInterrupt a t w s
  | .activeLong src => Sys2Proof.Machine.execActiveLong src s
  | .windowClose => Sys2Proof.Machine.execWindowClose s
  | .earlyWarning => Sys2Proof.Machine.execEarlyWarning s
  | .firstKey a => Sys2Proof.Machine.execFirstKey a s
  | .keyPair a w => Sys2Proof.Machine.execKeyPair a w s
  | .badKey a w => Sys2Proof.Machine.execBadKey a w s
  | .checkin a w => Sys2Proof.Machine.execCheckin a w s
  | .internalCheckin code => Sys2Proof.Machine.execInternalCheckin code s
  | .clkStop => Sys2Proof.Machine.execClkStop s
  | .clkMon => Sys2Proof.Machine.execClkMon s
  | .monOtherClear => Sys2Proof.Machine.execMonOtherClear s
  | .link f rx => Sys2Proof.Machine.execLink f rx s
  | .linkSend west tTx tHold => Sys2Proof.Machine.execLinkSend west tTx tHold s
  | .portDown west => Sys2Proof.Machine.execPortDown west s
  | .announce f => Sys2Proof.Machine.execAnnounce f s
  | .announceSend => Sys2Proof.Machine.execAnnounceSend s
  | .shareFrame f dt => Sys2Proof.Machine.execShareFrame f dt s
  | .shareCompute dt => Sys2Proof.Machine.execShareCompute dt s
  | .report f => Sys2Proof.Machine.execReport f s
  | .reportSend => Sys2Proof.Machine.execReportSend s
  | .req f => Sys2Proof.Machine.execReq f s
  | .rsp f => Sys2Proof.Machine.execRsp f s
  | .resetFrame f => Sys2Proof.Machine.execResetFrame f s
  | .groupSet f => Sys2Proof.Machine.execGroupSet f s
  | .timeFrame f dt residence => Sys2Proof.Machine.execTimeFrame f dt residence s
  | .timeSend dt => Sys2Proof.Machine.execTimeSend dt s
  | .addressAssign => Sys2Proof.Machine.execAddressAssign s
  | .election => Sys2Proof.Machine.execElection s
  | .heirTakeover dt => Sys2Proof.Machine.execHeirTakeover dt s
  | .nodeUnreachable west node => Sys2Proof.Machine.execNodeUnreachable west node s
  | .holdover => Sys2Proof.Machine.execHoldover s
  | .noQueen => Sys2Proof.Machine.execNoQueen s
  | .remoteAccess a addr len data => Sys2Proof.Machine.execRemoteAccess a addr len data s
  | .remoteTimeout path => Sys2Proof.Machine.execRemoteTimeout path s
  | .resetCommand a w => Sys2Proof.Machine.execResetCommand a w s
  | .groupTotalWrite a w => Sys2Proof.Machine.execGroupTotalWrite a w s
  | .forget a w => Sys2Proof.Machine.execForget a w s
  | .loadStart a w => Sys2Proof.Machine.execLoadStart a w s
  | .loadData a w => Sys2Proof.Machine.execLoadData a w s
  | .copy a => Sys2Proof.Machine.execCopy a s
  | .copyDone => Sys2Proof.Machine.execCopyDone s
  | .erase a => Sys2Proof.Machine.execErase a s
  | .eraseDone => Sys2Proof.Machine.execEraseDone s
  | .verify a => Sys2Proof.Machine.execVerify a s
  | .verifyDone => Sys2Proof.Machine.execVerifyDone s
  | .commit a => Sys2Proof.Machine.execCommit a s
  | .barrier => Sys2Proof.Machine.execBarrier s
  | .commitTimeout => Sys2Proof.Machine.execCommitTimeout s
  | .barrierRegistered isl prepared => Sys2Proof.Machine.execBarrierRegistered isl prepared s
  | .released => Sys2Proof.Machine.execReleased s
  | .retireTimeout => Sys2Proof.Machine.execRetireTimeout s
  | .imgCheck a => Sys2Proof.Machine.execImgCheck a s
  | .imgCheckDone => Sys2Proof.Machine.execImgCheckDone s
  | .phaseOut a arg => Sys2Proof.Machine.execPhaseOut a arg s
  | .phaseAtZero p => Sys2Proof.Machine.execPhaseAtZero p s
  | .phaseOutComplete p => Sys2Proof.Machine.execPhaseOutComplete p s
  | .phaseIn a arg => Sys2Proof.Machine.execPhaseIn a arg s
  | .combDrain a arg => Sys2Proof.Machine.execCombDrain a arg s
  | .combRestore a arg => Sys2Proof.Machine.execCombRestore a arg s
  | .sensorOut a arg => Sys2Proof.Machine.execSensorOut a arg s
  | .sensorIn a arg => Sys2Proof.Machine.execSensorIn a arg s
  | .portHold a arg => Sys2Proof.Machine.execPortHold a arg s
  | .portRelease a arg => Sys2Proof.Machine.execPortRelease a arg s
  | .convOut a arg => Sys2Proof.Machine.execConvOut a arg s
  | .convIn a arg => Sys2Proof.Machine.execConvIn a arg s
  | .drainTimeout held => Sys2Proof.Machine.execDrainTimeout held s
  | .clockReturn isl => Sys2Proof.Machine.execClockReturn isl s
  | .gateDriverInputHigh p duv => Sys2Proof.Machine.execGateDriverInputHigh p duv s
  | .rstNQualifiedHigh => Sys2Proof.Machine.execRstNQualifiedHigh s
  | .receiverLockLost east => Sys2Proof.Machine.execReceiverLockLost east s
  | .referenceValidityChange xtal valid => Sys2Proof.Machine.execReferenceValidityChange xtal valid s
  | .vsafe5v c => Sys2Proof.Machine.execVsafe5v c s

end Sys2Proof.Machine
end

