-- ==== Sys2Proof/Machine/Tick.lean ====
section
/-! DEFINITION. One millisecond in which no command waits: the counters that registers show and commands are judged by
(log entry 2). What happens at the end of a time is a command of its own, which asserts that the time has passed. -/

namespace Sys2Proof.Machine

/-- The always-on domain: time since power-on, the lockout, the time in hive-sleep, the retry timers of latched ports
and the watchdog (R78, R93, R272, R394, R422) (DESIGN CHOICE, log entry 2). -/
def tickAlways (s : State) : State :=
  let s1 := s.wrapInc Dev.TIME
  let left := s.get Ses.LOCK_T - 1
  let s2 := s1.on (s.flag HIVE_KSESS_STAT.LOCKOUT) (fun s =>
    (s.put Ses.LOCK_T left).put HIVE_KSESS_STAT.LOCK_REM (max 1 ((left + 999) / 1000)))
  let s3 := s2.on (s.get Sleep.STATE == 2) (·.inc Sleep.TIMER)
  wdgTick (s3.each ((List.range 48).filter (fun n => s.flag (PORT_RETRY_STAT.RUN n))) (fun s n => s.inc (PORT_RETRY_STAT.ELAPSED n)))

/-- A whole second has passed in the hive: the burst counts start anew, and the time since each calibration advances
(R344, R356, R398) (DEDUCED, log entry 58). -/
def tickSecond (s : State) : State :=
  let s1 := s.each allocatedPages (fun s p => s.put (Flt.BURST p) 0)
  (s1.put Tag.SEC 0).each (List.range 5) (fun s x => s.inc (HKC_AGE.AGE x))

/-- The VBUS reference of a PD port moves by SLEW towards its target, in a transition or outside one (R293, R301). -/
def tickSlew (s : State) (c : Nat) : State :=
  let goal : Int := if s.get (Pd.TR c) = 2 then 20 * vbusTgt s c else s.get (Pd.GOAL c)
  let cur : Int := s.get (Pd.REF c)
  let d : Int := 1000 * s.get (PDP_TRANS.SLEW c)
  let s1 := s.on (s.get (Pd.TR c) == 2 || s.flag (Pd.RAMP c)) (·.put (Pd.REF c) (cur + clampInt (-d) d (goal - cur)).toNat)
  disReview (s1.on (decide ((s1.get (Pd.REF c) : Int) = goal)) (·.put (Pd.RAMP c) 0)) c

/-- The timers of 1 ms and longer, which count in the hive domain and in hive-sleep in the always-on domain: seconds,
sessions, references, insertion delays, absences and the responses of PD ports (R13, R29, R94, R226, R264, R300). IDLE 0
stops the count of the sessions. -/
def tickTimers (s : State) : State :=
  let s1 := if s.get Dev.MS = 999 then tickSecond (s.put Dev.MS 0) else s.put Dev.MS (s.get Dev.MS + 1)
  let s2 := (s1.on (s1.flag HIVE_KSESS_CTL.IDLE) (·.each (List.range 4) (fun s i => s.inc (Ses.IDLE_T i)))).each ((List.range 2).filter (fun i =>
    s.flag (Clk.REF_VALID i))) (fun s i => s.put (Clk.READY_T i) (min 100 (s.get (Clk.READY_T i) + 1)))
  let s3 := s2.each ((List.range 48).filter (fun n => portKind n == 3 && s.get (PORT_STAT.STATE n) == 1
    && !s.flag (PORT_STAT.INS_DONE n))) (fun s n => s.inc (Port.INS_T n))
  let s4 := s3.each ((List.range 8).filter (fun n => s.flag (Chg.ABS n))) (fun s n =>
    let s' := s.inc (Chg.ABSMS n)
    s'.putSat (CHG_RET.ABS_ELAPSED n) (s'.get (Chg.ABSMS n) / 100))
  s4.each (List.range 4) (fun s c => s.put (PORT_PD_STAT.TRIPS10 c) (pdRecent s c))

/-- The hive domain besides: substitutions, the transitions of VBUS and the swarm time (R293, R377, R449). -/
def tickHive (s : State) : State :=
  let s1 := s.each ((List.range 88).filter (fun k => s.flag (THS_STAT.SUBST k) && s.flag (Ths.SANERUN k))) (fun s k =>
    let ms := min 10000 (s.get (Ths.SANEMS k) + 1)
    (s.put (Ths.SANEMS k) ms).put (THS_STAT.SANE k) (ms / 100))
  swTick (s1.each (List.range 4) tickSlew)

/-- One millisecond passes. Timers of the hive domain stop while a reset is held and while the hive's clock is lost
(R13, R27) (DESIGN CHOICE, log entry 2). -/
def tickMs (s : State) : State :=
  let s1 := tickAlways s
  if s1.flag Boot.HELD || s1.flag (Clk.LOST 73) then s1
  else if s1.get Sleep.STATE == 2 then tickTimers s1
  else tickHive (tickTimers s1)

/-- One idle step: one millisecond. In hive-sleep entry it does the next step of the entry; a millisecond has passed
with step 3 and with step 5, which are due within 1 ms and 2 ms (R76) (DESIGN CHOICE, log entries 2 and 15). -/
def tick (s : State) : State :=
  if s.flag Boot.POR then s
  else if s.get Sleep.STATE == 1 && s.get Sleep.STEP % 2 == 1 then sleepStep s
  else tickMs (sleepStep s)

end Sys2Proof.Machine
end

