-- ==== Sys2Proof/Safety.lean ====
section
/-! DEFINITION. The terms that claims use: the canonical form of the state, what a command may change, and that a command
completes with a given result. -/

namespace Sys2Proof.Machine

/-- The canonical form of the memories: the bytes of the windows and of the retention SRAM, the fields and the check-bit
conditions are listed by strictly rising number, and no entry holds what an unlisted number reads as. -/
abbrev Memory.wf (s : State) : Bool :=
  Sparse.wf 0 s.regs && Sparse.wf 0 s.mem && Sparse.wf 0 s.ret && Sparse.wf 0 s.ecc

/-- The queues keep the sizes that the spec gives them, and the mode is one of the three that the model tells apart: two staged
entries of a phase (R123), 16 plan entries in flight (R144), 16 records of a comb (R164), two received messages of a PD port
(R295), four requests of a CAN FD controller (R116); hive-sleep keeps the mode FULL (R76). -/
abbrev Queues.bounded (s : State) : Bool :=
  (List.finRange 16).all (fun (p : Fin 16) => decide (s.slots[p].length ≤ 2) && decide (s.window[p].length ≤ 16))
    && (List.finRange 4).all (fun (c : Fin 4) => decide (s.antq[c].length ≤ 16) && decide (s.rx[c].length ≤ 2))
    && (List.finRange 2).all (fun (i : Fin 2) => decide (s.canq[i].length ≤ 4)) && decide (s.get HIVE_MODE.MODE ≤ 2)

/-- The parts of the state beside the fields and the memories. -/
inductive Part where
  | readHold (i : Fin 4) | writeHold (i : Fin 4) | codeHold (i : Fin 4)
  | slots (p : Fin 16) | exec (p : Fin 16) | coming (p : Fin 16) | window (p : Fin 16) | antq (c : Fin 4)
  | rx (c : Fin 4) | txBuf (c : Fin 4) | txMsg (c : Fin 4) | staged (n : Fin 48)
  | jobs (i : Fin 4) | canq (i : Fin 2) | sent | pending
  deriving DecidableEq, Repr

/-- A part of the state is the same in two states. -/
def Part.same (s t : State) : Part → Prop
  | .readHold i => t.readHold[i] = s.readHold[i]
  | .writeHold i => t.writeHold[i] = s.writeHold[i]
  | .codeHold i => t.codeHold[i] = s.codeHold[i]
  | .slots p => t.slots[p] = s.slots[p]
  | .exec p => t.exec[p] = s.exec[p]
  | .coming p => t.coming[p] = s.coming[p]
  | .window p => t.window[p] = s.window[p]
  | .antq c => t.antq[c] = s.antq[c]
  | .rx c => t.rx[c] = s.rx[c]
  | .txBuf c => t.txBuf[c] = s.txBuf[c]
  | .txMsg c => t.txMsg[c] = s.txMsg[c]
  | .staged n => t.staged[n] = s.staged[n]
  | .jobs i => t.jobs[i] = s.jobs[i]
  | .canq i => t.canq[i] = s.canq[i]
  | .sent => t.sent = s.sent
  | .pending => t.pending = s.pending

/-- What a command may change: fields by their numbers (`Fld.id`), bytes of the windows and of the retention SRAM,
check-bit conditions of 64-bit words, and other parts. -/
structure Footprint where
  fld : Nat → Bool := fun _ => false
  mem : Nat → Bool := fun _ => false
  ret : Nat → Bool := fun _ => false
  ecc : Nat → Bool := fun _ => false
  part : Part → Bool := fun _ => false

/-- Only the fields of the list. -/
def Footprint.fields (l : List Fld) : Footprint := { fld := fun id => (l.map Fld.id).contains id }

/-- Only the parts of the list. -/
def Footprint.parts (l : List Part) : Footprint := { part := fun q => l.contains q }

/-- Only fields of the keys that `p` names; the key of a register is its page and offset. -/
def Footprint.keys (p : Nat → Bool) : Footprint := { fld := fun id => p (id / 32) }

/-- Every check-bit condition. -/
def Footprint.everyEcc : Footprint := { ecc := fun _ => true }

/-- What either footprint allows. -/
def Footprint.or (F G : Footprint) : Footprint where
  fld i := F.fld i || G.fld i
  mem a := F.mem a || G.mem a
  ret a := F.ret a || G.ret a
  ecc w := F.ecc w || G.ecc w
  part q := F.part q || G.part q

/-- What any footprint of a list allows. -/
def Footprint.any (l : List Footprint) : Footprint := l.foldr Footprint.or {}

/-- Every part of the queues and registers of some phases. -/
def Footprint.windows (l : List (Fin 16)) : Footprint := .parts (l.map .window)

/-! ### What shared operations may change -/

/-- A record of the fault log: its ring, its position, and an injection that was armed at it (R360, R394). -/
def logFp : Footprint where
  fld id := ([HIVE_FLT_LOG.NEXT, HIVE_FLT_SEQ.SEQ, PAGE_IRQ_STAT.EVT 0x00, MEM_INJ.ARM 0, PAGE_IRQ_STAT.EVT 0xA0].map
    Fld.id).contains id
  mem a := decide (0x580000 ≤ a) && decide (a < 0x5A0000)
  ecc w := decide (0xB0000 ≤ w) && decide (w < 0xB4000)

/-- ERR_N and what it sets (R392, R393). -/
def errFp : Footprint := .fields [PINS_ERR.DRIVE, PINS_ERR.FIRST, PAGE_IRQ_STAT.EVT 0x0C, Sleep.ERR]

/-- The fault status of a page with its classes' timers (R384 to R389). -/
def classFp (p : Nat) : Footprint :=
  .fields ([PAGE_FLT_STAT.CAUSE p, PAGE_FLT_STAT.ACTIVE p, PAGE_FLT_STAT.ACTED p, PAGE_FLT_STAT.ACKED p,
    PAGE_FLT_CNT.FAULTS p, PAGE_FLT_CNT.RECOV p, PAGE_IRQ_STAT.EVT p, Flt.PRESENT p, Flt.UNACK p, Flt.TIMER p, Flt.QUIET p, Flt.INJ p]
    ++ (List.range 16).map (Flt.STAND p))

/-- The record of a raise in a page, without its class action. -/
def recordFp (p : Nat) : Footprint := .any [classFp p, logFp, errFp]

/-- The bus model of the combs: that of every member of a gang moves together (R19, R155, R503). -/
def busFp : Footprint :=
  .fields ((List.range 4).flatMap (fun c => [Comb.VC c 0, Comb.VC c 1, Comb.IRES c 0, Comb.IRES c 1, Comb.CP c 6, Comb.CP c 7,
    Comb.SINCE c]))

/-- A squash counted in comb `c`, of phases of comb `c` (R154, R156, R157). -/
def squashFp (c : Nat) : Footprint :=
  .any [busFp, .fields ([CMB_SQ_CNT.SQUASHES c, PAGE_IRQ_STAT.EVT (0x10 + c)] ++ (combPhases c).map (fun (p : Fin 16) => Ph.FIRST p)),
    .windows (combPhases c), .parts [.sent]]

/-- A squash of comb `c` that is relayed through its gang (R154, R157). -/
def setSquashFp (c : Nat) : Footprint := squashFp c

/-- A miss in comb `c` and its squash (R158, R160, R171, R175). -/
def missFp (c : Nat) : Footprint :=
  .any [.fields ([CMB_LAST_MISS.PHASE c, CMB_LAST_MISS.INDEX c, CMB_LAST_MISS.CAUSE c, CMB_LAST_MISS.DEV c,
    CMB_MISS01.MISS0 c, CMB_MISS01.MISS1 c, CMB_MISS23.MISS2 c, CMB_MISS23.MISS3 c, CMB_CONSEC.STORM_CNT c,
    Comb.BUCKET c 0]), setSquashFp c]

/-- The runs of limited, clipped and underrun periods of phase `p` (R133, R137, R140). -/
def runsFp (p : Fin 16) : Footprint :=
  .fields [Ph.UNDER_RUN p, Ph.STARVED p, Ph.CBC_RUN p, Ph.CBC_SAID p, Ph.SAT_RUN p, Ph.SAT_SAID p, Ph.CUT p,
    PH_STAT.CBC_NOW p, Flt.PRESENT (0x20 + p), Flt.QUIET (0x20 + p)]

/-- A hold of phase `p` (R127, R129, R130, R145). -/
def holdFp (p : Fin 16) : Footprint :=
  .any [.fields [PH_STAT.STATE p, PH_STAT.HOLD_CAUSE p, Ph.GATES p, Ph.RESTART p, Ph.SEQANY p, Ph.FIRST p, Ph.CP_OK p,
    Ph.LOCK p 1, Ph.LOCK p 3, Ph.NEXT p, Ph.ENDRUN p, PAGE_IRQ_STAT.EVT (0x20 + p)], runsFp p,
    .parts [.exec p, .coming p, .window p]]

/-- A squash of comb `c` and the hold of its phases. -/
def combStopFp (c : Nat) : Footprint := .any (setSquashFp c :: (combPhases c).map holdFp)

/-- The state, gates and trip of port `n` (R260 to R272). -/
def portActFp (n : Nat) : Footprint :=
  .any [.fields [Port.DT n 0, Port.DT n 1, Port.DT n 2, Port.MAIN n, Port.TRANS n, Port.FALL n, Port.FT n, Port.PG_RUN n,
    Port.OFFSEEN n, Port.PULLED n, Port.ACT_PEND n, PORT_STAT.GATE_FULL n, PORT_STAT.PG n, PORT_STAT.STATE n,
    PORT_STAT.TRIP_CAUSE n, PORT_STAT.TOGGLED n, PORT_STAT.RETRY_RUN n, PORT_RETRY_STAT.RUN n, PORT_RETRY_STAT.ELAPSED n,
    PORT_CNT.TRIPS n, PORT_CNT.SC n, PAGE_IRQ_STAT.EVT (0x30 + n), Port.HOT_ACT n, Arb.SHEDTRIP (n / 12), Sleep.PEND],
    .parts [.sent]]

/-- Error recovery, disabling and protection of the PD port of comb `c` (R291, R299, R300). -/
def pdActFp (c : Fin 4) : Footprint :=
  .any [.fields [PDP_STAT.CC_STATE c, PDP_STAT.HR_CODE c, PDP_STAT.PWR_ROLE c, PDP_STAT.SW_ON c, PDP_STAT.TRANS c,
    PDP_CTL.CONTRACT c, PORT_PD_STAT.STATE c, PORT_PD_STAT.TRIP_CAUSE c, PORT_PD_STAT.TRIPS10 c, PDP_CNT.TRIPS c, Pd.DIS c,
    Pd.RP c, Pd.RD c, Pd.VCONN c, Pd.REF c, Pd.REQ c, Pd.HR c, Pd.SRCOFF c, Pd.SRCON c, Pd.FRS c, Pd.TR c,
    PDP_STAT.DEADBAT c, PDP_STAT.RP_SEEN c, Pd.TIME_LEFT c, Pd.AMP_LEFT c, Pd.CC_OFF c,
    Pd.SINK_ONLY c, Pd.LATCH_OFF c, Pd.SW_PEND c, Pd.RAMP c, Pd.ERR_OVER c, Port.ACT_PEND (pdPort c), Pd.TRIP_T c 0, Pd.TRIP_T c 1, Pd.TRIP_T c 2, PAGE_IRQ_STAT.EVT (0x60 + c),
    PAGE_IRQ_STAT.EVT (pdPage c)], .parts (.sent :: (List.finRange 4).map .antq), missFp c, recordFp (0x60 + c)]

/-- An attach, a detach or a change of the connection of the PD port of comb `c` (R287 to R290, R297, R303). -/
def attachFp (c : Fin 4) : Footprint :=
  .any [.fields ([PDP_STAT.ATTACH_ROLE c, PDP_STAT.POLARITY c, Pd.WAIT_CC2 c, Pd.WAIT_RP c, Pd.GOAL c, Sleep.PEND]
    ++ (List.range 3).map (Pd.MSGID c)), pdActFp c]

/-- The withdrawal of a converter (R335). -/
def convFp : Footprint :=
  .any [.fields ([HKS_STAT.LANES, HKS_STAT.SPARE, HKS_STAT.CAL_BUSY, HKS_STAT.CAL_CONV, HKS_CAL.RESULT, Hks.CALSTEP, Hks.CALALL] ++ (List.range 5).flatMap (fun k => [HKC_STAT.ROLE k,
    PAGE_IRQ_STAT.EVT (0x69 + k)])), recordFp 0x68]

/-- The claim of an impedance channel's accumulators ends (R331). -/
def unclaimFp (s : State) (n : Nat) : Footprint :=
  .fields (((enginePair s n).flatMap (impAccs s)).flatMap (fun a => [Acc.CLAIM a, ACC_CFG.CLAIMED (a / 64) (a % 64), Acc.STOP a]))

/-- What a charge engine keeps of its own: quantities, timers, counts, blocks, set-points and state (R204 to R231). -/
def engineFp (n : Nat) : Footprint :=
  .fields ([Chg.STARTED n, Chg.NEWPROF n, Chg.CMD n, Chg.TW n, Chg.TS n, Chg.AHS n, Chg.AHT n, Chg.IB n, Chg.IBOK n, Chg.ISUM n,
    Chg.ICNT n, Chg.IEP n, Chg.VSUM n, Chg.VCNT n, Chg.VEP n, Chg.BSUM n, Chg.BCNT n, Chg.BEP n, Chg.BI n, Chg.BIOK n, Chg.MEAN n,
    Chg.VCOK n, Chg.BLKOK n, Chg.PEAK n, Chg.PRBLK n, Chg.VH n, Chg.TBOK n, Chg.TSUM n, Chg.TCNT n, Chg.TMN n, Chg.ABS n,
    Chg.ABSMS n, Chg.CKST n, Chg.NOFEED n, Chg.COMMIT_PEND n, Dev.FREE, CHG_STAT.FOLLOWER n, CHG_STAT.RESUMED n, CHG_STAT.LIMITED n, CHG_STAT.DV_ARMED n,
    CHG_STAT.DTDT_VALID n, CHG_STAT.LAMP n, CHG_STAT.KIND n, CHG_STAT.MODE n, CHG_STAT.STATE n, CHG_SAFE.T_SAFE n,
    CHG_WALL.T_STATE n, CHG_SETPT.V_EFF n, CHG_SETPT.I_EFF n, CHG_AH_STATE.AH n, CHG_AH_TOTAL.AH n, CHG_VCELL.PEAK n,
    CHG_VCELL.VCELL n, CHG_DV.DTDT n, CHG_DV.NDV n, CHG_TEMP.T_BAT n, CHG_RET.ABS_ELAPSED n, CHG_LAST.CAUSE n, CHG_LAST.EXIT n,
    CHG_LAST.TO n, CHG_LAST.FROM n, CHG_ABS_CNT.REMOVALS n, CHG_ABS_CNT.PROBES n, PAGE_IRQ_STAT.EVT (0x88 + n)]
    ++ (List.range 4).map (Chg.Q n) ++ (List.range 2).flatMap (fun j => [Chg.REFC n j, Chg.REFT n j])
    ++ (List.range 7).map (Chg.TM n) ++ (List.range 32).map (Chg.CK n))

/-- What the end of a sweep of channel `n` changes of its own (R219, R232, R242, R250). -/
def sweepOwnFp (n : Nat) : Footprint :=
  .fields ([CHG_IMP_STAT.STATE n, CHG_IMP_STAT.END n, Imp.DELTA n, Imp.PAIR n, Imp.CYC n, CHG_STAT.SWEEP_PEND n,
    CHG_IMP_CNT.ABORTS n, CHG_IMP_EVT.EVT n, Imp.AMP n, Imp.AWAIT n, Imp.TAIL n, Imp.NEW n]
    ++ (List.range 32).flatMap (fun p => [Imp.RE n p, Imp.IM n p, Imp.STATUS n p, Imp.IAMP n p]))

/-- A sweep that an engine sends back, drops or aborts (R219, R232, R242, R250). -/
def sweepEndFp (s : State) (n : Nat) : Footprint := .any [sweepOwnFp n, unclaimFp s n]

/-- The claims of any accumulator (R331). -/
def claimsFp : Footprint :=
  .fields ((List.range 512).flatMap (fun a => [Acc.CLAIM a, ACC_CFG.CLAIMED (a / 64) (a % 64), Acc.STOP a]))

/-- What an engine's class actions change: zero current, CHARGE_TIMEOUT with the end of its sweep, and the ports of its
string (R217, R223, R390). -/
def chargeActFp (n : Nat) : Footprint :=
  .any (claimsFp :: [n, n ^^^ 1].flatMap (fun f => [engineFp f, sweepOwnFp f, .fields [Port.CMD (batPort f)], portActFp (batPort f)]))

/-- The levels that the zones act at (R373). -/
def zonesFp : Footprint :=
  .fields ((List.range 16).flatMap (fun z => [THZ_STAT.MINPWR z, THZ_STAT.LEVEL z, THZ_STAT.SUBST z, THZ_EVT.EVT z]))

/-- What a DIE shutdown turns off (R375). -/
def dieFp : Footprint :=
  .any ((List.range 4).flatMap (fun c => [combStopFp c, pdActFp (fin4 c)]) ++ (List.range 48).map portActFp)

/-- The class action of a page (R390). -/
def actionFp (p : Nat) : Footprint :=
  match pageKind p with
  | some 0x10 => combStopFp (p - 0x10)
  | some 0x20 => .any [.fields [Ph.FWT (p - 0x20), CMB_STAT.DEGRADED ((p - 0x20) / 4), PAGE_IRQ_STAT.EVT (0x10 + (p - 0x20) / 4)], setSquashFp ((p - 0x20) / 4), holdFp (phaseOf p)]
  | some 0x30 => if portKind (p - 0x30) = 4 then pdActFp (fin4 ((p - 0x30) / 12)) else portActFp (p - 0x30)
  | some 0x60 => pdActFp (fin4 (p - 0x60))
  | some 0x68 => .any (.fields [HKS_STAT.BUILTIN, PAGE_IRQ_STAT.EVT 0x68] :: (List.range 4).map combStopFp)
  | some 0x69 => convFp
  | some 0x80 => .any [zonesFp, dieFp]
  | some 0x88 => chargeActFp (p - 0x88)
  | _ => {}

/-- A raise in a page, with the class action that it may put in force. -/
def raiseFp (p : Nat) : Footprint := .any [recordFp p, actionFp p]

/-- The end of a cause's condition in a page (R384, R389). -/
def endFp (p : Nat) : Footprint := .fields [Flt.PRESENT p, Flt.QUIET p]

/-- What the Swarm page shows of the segment, and the announcement of a changed role (R440, R443, R446, R447). -/
def swarmRoleFp : Footprint :=
  .any [.fields [SW_TOPO.NODES, SW_TOPO.HVALID, SW_TOPO.HEIR, SW_TOPO.ROLE, PAGE_IRQ_STAT.EVT 0x98, Sw.SEQ], .parts [.sent]]

/-- A tag error found in a page (R355, R356). -/
def tagFp (p : Nat) : Footprint :=
  .any [.fields [PAGE_TAG_ERR.FLAG p, PAGE_TAG_ERR.ORIGIN p, PAGE_TAG_ERR.COUNT p, TAG_TOTAL.TOTAL, TAG_INJ.ARM, Tag.SEC],
    raiseFp 0xA2]

/-- The sums of accumulator `a` and their blocks (R327, R329, R330). -/
def accFp (a : Nat) : Footprint :=
  .fields [ACC_SUM_LO.SUM (a / 64) (a % 64), ACC_SUM_HI.SUM (a / 64) (a % 64), ACC_CNT_LO.CNT (a / 64) (a % 64),
    ACC_CNT_HI.CNT (a / 64) (a % 64), ACC_SQ_LO.SQ (a / 64) (a % 64), ACC_SQ_HI.SQ (a / 64) (a % 64),
    ACC_CLIPS.CLIPS (a / 64) (a % 64), ACC_CFG.SAT (a / 64) (a % 64), ACC_CFG.EPOCH (a / 64) (a % 64), Acc.TESTED a,
    Acc.BSUM a, Acc.BCNT a, Acc.DS a, Acc.DUE a, Acc.IQ a, Acc.RSUM a, Acc.RSQ a]

/-- A value of source `src` enters the accumulators of that source (R325, R326). -/
def accDeliverFp (s : State) (src : Nat) : Footprint :=
  .any (((List.range 512).filter (fun a => accSrc s a == src)).flatMap (fun a => [accFp a, raiseFp (0x70 + a / 64),
    tagFp (0x70 + a / 64)]))

/-- A conversion starts, is refused, or ends on lane `m` (R313, R314). -/
def laneFp (m : Nat) : Footprint :=
  .fields ([Lane.BUSY m, Lane.IN m, Lane.CONV m, Lane.KIND m, Lane.WHO m, Lane.TD m, Lane.SEC m, Lane.VON m, Lane.VIN m,
    Lane.VCONV m, Lane.VKIND m, Lane.VWHO m, Lane.VTD m, HKS_CNT1.REFUSED, HKS_CNT1.RECOV, PAGE_IRQ_STAT.EVT 0x68]
    ++ (List.range 5).map HKC_CNT.REFUSED)

/-- The requests that wait, and the answer to the host's (R324). -/
def urgentFp : Footprint :=
  .fields ([HKS_URGENT.RESULT, HKS_CNT0.URG_DROP, Hks.UACC] ++ (List.range 6).map Hks.UQ)

/-- What runs, waits and has ended of the sequences (R320 to R323). -/
def seqFp : Footprint :=
  .fields [HKS_RUN.ACTIVE, HKS_RUN.STEP, HKS_RUN.SEQ, HKS_PEND.PEND, HKS_QUEUED.QUEUED, HKS_SEQ_DONE.DONE, Hks.LAST, Hks.RUNAT,
    Hks.BSTEP, HKS_STAT.BUILTIN, HKS_CNT0.TRIG_DROP, PAGE_IRQ_STAT.EVT 0x68]

/-- The trackers of an input (R333). -/
def mmtFp (s : State) (i : Nat) : Footprint :=
  .any [tagFp 0x78, .fields (((List.range 256).filter (fun t => s.get (MMT_CFG.SRC t) == i)).flatMap (fun t =>
    [MMT_MIN.VALID t, MMT_MIN.CLIP t, MMT_MIN.VALUE t, MMT_MAX.VALID t, MMT_MAX.CLIP t, MMT_MAX.VALUE t, Mmt.TESTMIN t, Mmt.TESTMAX t, Mmt.RMIN t, Mmt.RMAX t,
      MMT_EVT.EVT (t / 32)]))]

/-- The sessions of path `i` and what the HIVE page shows of them (R92 to R94). -/
def sessionFp (i : Nat) : Footprint :=
  .fields [Ses.PIN, Ses.CODE i, Ses.IDLE_T i, HIVE_KSESS_STAT.OPEN, HIVE_KSESS_STAT.PIN, HIVE_KSESS_EVT.OPENED]

/-- A disturbance of the sweep points that run on the bus of comb `c` (R250). -/
def disturbFp (s : State) (c : Nat) : Footprint :=
  .any ((sweepsOn s c).flatMap (fun n => [.fields [Imp.DIST n, CHG_IMP_STAT.STATE n, Imp.CYC n, Imp.WAIT n], unclaimFp s n]))

/-- The squash of the misses of one edge in the gang of comb `c` (R154, R160, R171). -/
def edgeFp (s : State) (c : Nat) : Footprint :=
  .any ((gangOf s c).map (fun d => .any [.fields [Comb.MISSED d], missFp d]))

/-- A slot write of phase `p` that its island takes or discards (R123, R124, R143, R145). -/
def slotFp (p : Fin 16) : Footprint :=
  .any [.fields [PH_STAT.SLOTS p, PH_STAT.NEXT_IDX p, Ph.SEQANY p, Ph.FIRST p, PH_CNT0.STALE p], .parts [.slots p, .window p],
    raiseFp (0x20 + p)]

/-- The comparison of an SP0 result of phase `p`: the counts, the checkpoints of the phase and of its set, the entry released,
and the squash of a miss (R145, R152, R155, R157, R158). -/
def confirmFp (s : State) (p : Fin 16) : Footprint :=
  .any [.fields ([CMB_CONSEC.CONSEC (p / 4), CMB_CONF_LO.CONF (p / 4), CMB_CONF_HI.CONF (p / 4), Ph.CP_IDX p, Ph.CP_OK p, Ph.CP_ORD p,
    Ph.CP_ON p 0, Ph.CP_ON p 1, Ph.CP_ON p 2, Ph.CP_ON p 3, Ph.CP_C p, Ph.CP_TAG p, Ph.CP_I p, Ph.CP_INT p,
    Ph.CP_EPOCH p, Ph.CP_GEN p] ++ (gangOf s (p / 4)).flatMap (fun d => (List.range 12).map (Comb.CP d))), busFp, missFp (p / 4),
    edgeFp s (p / 4), tagFp (0x10 + p / 4), raiseFp (0x10 + p / 4), slotFp p]

/-- Record `w` has been taken into the queue of comb `c`: it replaces those of its kind and origin (R162, R164). -/
abbrev RecordTaken (c : Fin 4) (w : Nat) (s t : State) : Prop :=
  t.antq[c].map (·.word) = (s.antq[c].filter (fun r => !sameRecord r.word w)).map (·.word) ++ [w]
    ∧ t.get (CMB_ANT_CNT.ACCEPTED c) = min 65535 (s.get (CMB_ANT_CNT.ACCEPTED c) + 1)

/-- A record registered in comb `c` (R164, R165, R198). -/
def recordInFp (c : Fin 4) : Footprint :=
  .any [.fields [CMB_ANT_CNT.OVF c, CMB_ANT_CNT.LATE c, CMB_ANT_CNT.ACCEPTED c, PAGE_IRQ_STAT.EVT (0x10 + c),
    CMB_PP_STAT.SHARE_LIVE c, Arb.SHARE_OUT c, Arb.SHARE_AGE c, Dev.FREE], .parts [.antq c], .windows (combPhases c), raiseFp (0x10 + c)]

/-- A record registered in every comb of the gang of comb `c`. -/
def gangInFp (s : State) (c : Nat) : Footprint := .any ((gangOf s c).map (fun d => recordInFp (fin4 d)))

/-- A port judges its start again: what the start, the schedule or its withdrawal may change (R262 to R268). -/
def startFp (n : Nat) : Footprint :=
  .any [.fields [PORT_STAT.STATE n, PAGE_IRQ_STAT.EVT (0x30 + n), PORT_STAT.GATE_FULL n, PORT_STAT.GATE_OFF n, PORT_STAT.PG n,
    Port.MAIN n, Port.PCG n, Port.PCG_DONE n, Port.PCG_OVER n, Port.REV_OPEN n, Port.FALL n, Port.FT n, Port.PG_RUN n,
    Port.TRANS n], .parts [.sent]]

/-- What the Forager, the port island and the thermal block keep of a value of input `i` (R325). -/
def deliverFp (i : Nat) : Footprint :=
  let c := i / 48
  let n := 12 * c + i % 48 % 12
  .any [.any ((List.range 12).map (fun m => .any [.fields [Port.BUSV (12 * c + m)], startFp (12 * c + m), tagFp (0x30 + 12 * c + m)])),
    .fields [Port.IF n, Port.I n, Port.VS n, Port.STALE n 0, Port.STALE n 1, Port.STALE n 3, Port.DIODE_T n, Port.DIODE_OK n,
    PDP_STAT.VBUS_PRES c, Comb.VSYS c, Comb.VBB c, Comb.TAGV c 0, Comb.TAGV c 1, Arb.STALEM c, Arb.STALE c, Arb.STALE_RAMP c],
    attachFp (fin4 c), tagFp (0x10 + c), tagFp (0x30 + n), .fields ((inputSensor i).toList.flatMap (fun t => [Thm.CODE t, Thm.TAG t, Thm.CLIP t, Thm.NEW t]))]

/-- What the end of a class may end or let start: the cause of each hold, and what the page's action held (R142, R389,
R390). -/
def withdrawFp (p : Nat) : Footprint :=
  .any [.fields ((List.range 16).map PH_STAT.HOLD_CAUSE), match pageKind p with
  | some 0x20 => .any [.fields [Ph.FWT (p - 0x20)], .parts [.window (phaseOf p)]]
  | some 0x30 => .any [pdActFp (fin4 ((p - 0x30) / 12)), startFp (p - 0x30), portActFp (p - 0x30)]
  | some 0x80 => zonesFp
  | some 0x60 => pdActFp (fin4 (p - 0x60))
  | some 0x68 => .fields [HKS_STAT.BUILTIN]
  | _ => {}]

/-- A port is commanded off, or its pair's command changes (R183, R185, R269, R276). -/
def pairFp (n : Nat) : Footprint := .any [.fields [Port.CMD n, Port.OFF_CMD n], startFp n]

/-- A port takes up what waited for its clock or its release (R27, R481). -/
def resumeFp (n : Nat) : Footprint :=
  .any [.fields [Port.EN_PEND n, Port.SLEPT n, Port.OFFSEEN n, Port.INS_T n, PORT_STAT.INS_DONE n, PORT_STAT.TOGGLED n], startFp n]

/-- An evaluation of the arbiter of comb `c` (R177 to R201). -/
def arbFp (s : State) (c : Nat) : Footprint :=
  .any ([.fields ([CMB_TARGET.TGT c, CMB_TARGET.LIMIT c, CMB_PP_STAT.GOVERN c, CMB_PP_STAT.MODE c, CMB_PP_STAT.USABLE c,
    CMB_PP_STAT.RAMP c, CMB_PP_STAT.BREAK c, CMB_PP_EVT.EVT c, CMB_SHARE.DEFICIT c, Arb.UNUS c, Arb.SUPHELD c, Arb.SUPCNT c,
    Arb.CHG c, Arb.DUE c, Arb.SHARE_OUT c, Arb.CUTRAMP c, Arb.FRAC c, Arb.ECNT c, Arb.REQ_MODE c, Arb.PERPH c,
    Arb.SHARE_AGE c, Arb.SHARE_FRAC c, Arb.PERLO c, Arb.STUCK c, Arb.SHEDTRIP c, Comb.SHARE_TGT c,
    Comb.SHARE_ON c]
    ++ (List.range 4).flatMap (fun i => [Comb.INTEG c i, Arb.ESUM c i])
    ++ (gangOf s c).flatMap (fun d => [Arb.GANG_PER d, Arb.GANG_MODE d])
    ++ (sweepsOn s c).flatMap (fun n => [Imp.ZERO n, Imp.CLIP n])), pairFp (12 * c), pairFp (12 * c + 1), disturbFp s c,
    .fields [Arb.BUD_LEFT c, Arb.BUD_AMP c, Arb.RAMPV c]])

/-- The Forager's part of a comb mark, with PD duty and the shares that live maintenance ramps (R121, R159, R160, R287, R288,
R475, R503). -/
def markFp (c : Fin 4) : Footprint :=
  .any [.fields ([Comb.VC c 0, Comb.VC c 1, Comb.PER c, Comb.PERWAIT c, Comb.SINCE c, Comb.MARKN c, Comb.EDGECNT c,
    CMB_CONSEC.CONSEC c, CMB_CONSEC.STORM_CNT c, CMB_STAT.DEGRADED c, PAGE_IRQ_STAT.EVT (0x10 + c)]
    ++ (List.range 16).map (Comb.BUCKET c)
    ++ (combPhases c).flatMap (fun (p : Fin 16) => [PAGE_IRQ_STAT.EVT (0x20 + p), Ph.DUTY p, Ph.RESTART p, Ph.FIRST p, Ph.CP_OK p,
      Mnt.SHARE p, Mnt.BACK p])), .parts [.antq c], .windows (combPhases c), raiseFp (0x60 + c), endFp (0x60 + c)]

/-- A feeder is shed (R190). -/
def shedFp (c : Nat) : Footprint :=
  .any (.fields [CMB_SHED_STAT.SHED c, CMB_PP_STAT.SHEDDING c, CMB_PP_EVT.EVT c] :: (List.range 7).flatMap (fun k =>
    [startFp (12 * c + 4 + k), .fields [Port.EN_PEND (12 * c + 4 + k)], raiseFp (0x34 + 12 * c + k)]))

/-- A segment of a ramp that the PD port of comb `c` announces (R293). -/
def pdSegmentFp (c : Nat) : Footprint := .any [.fields [Pd.TIME_LEFT c, Pd.AMP_LEFT c], .parts [.sent]]

/-- A segment of a ramp that the arbiter of comb `c` announces (R188). -/
def budgetSegmentFp (c : Nat) : Footprint := .any [.fields [Arb.BUD_LEFT c, Arb.BUD_AMP c, Arb.RAMPV c], .parts [.sent]]

/-- Uncorrectable or corrected words found where a block reads memory (R358). -/
def eccReadFp : Footprint :=
  .any [.fields ((List.range 2).flatMap (fun n => [MEM_CNT.CE n, MEM_CNT.UE n, MEM_CE_ADDR.RET n, MEM_CE_ADDR.ADDR n,
    MEM_UE_ADDR.RET n, MEM_UE_ADDR.ADDR n, MEM_INJ.ARM n, PAGE_IRQ_STAT.EVT (0xA0 + n)])), Footprint.everyEcc,
    { mem := fun a => decide (0x6F1000 ≤ a) && decide (a < 0x6F2000) }, raiseFp 0xA0, raiseFp 0xA1]

/-- The working coefficients of comb `c` (R149). -/
def coefFp (c : Nat) : Footprint :=
  .fields ([Comb.COEF c 0, Comb.COEF c 1, Comb.EPOCH c] ++ (combPhases c).flatMap (fun (p : Fin 16) => [Ph.COEF p 0, Ph.COEF p 1, Ph.COEF p 2]))

/-- The check of the model table of comb `c` (R148, R149). -/
def modelFp (c : Nat) : Footprint :=
  .any [.fields [Comb.MODEL_OK c], coefFp c, eccReadFp, raiseFp (0x10 + c), endFp (0x10 + c)]

/-- What a port that waited for its clock takes up: its latch, its class actions, its enable (R27, R271, R279). -/
def portClockFp (n : Nat) : Footprint :=
  .any [resumeFp n, .fields [Port.SHORT_PEND n, Port.ACT_PEND n, Port.CMD n, Port.OFF_CMD n], raiseFp (0x30 + n)]

/-- The page in which the loss of an island's clock is reported (R27). -/
def clockPage : ClockIsland → Nat
  | .phase p => 0x20 + p.val
  | .port n => 0x30 + n.val
  | .forager c => 0x10 + c.val
  | .combPll c => 0x10 + c.val
  | .housekeeping => 0x68
  | .hive => 0x01
  | .swarmPort _ => 0x98
  | .pdPhy c => 0x60 + c.val

/-- The level of sensor `k` and of its zone (R372, R373). -/
def throttleFp (s : State) (k : Nat) : Footprint :=
  .fields [THS_STAT.LEVEL k, Ths.OVER1 k, Ths.OVER2 k, THZ_STAT.LEVEL (s.get (THS_CFG.ZONE k)),
    THZ_STAT.MINPWR (s.get (THS_CFG.ZONE k)), THZ_STAT.SUBST (s.get (THS_CFG.ZONE k)), THZ_EVT.EVT (s.get (THS_CFG.ZONE k))]

/-- What a sample of sensor `k` may move: its value, its counts and its level, what its zone shows, the ambient reference
of a port that uses it, and what the tables it reads report (R369 to R378). -/
def sampleFp (s : State) (k : Nat) : Footprint :=
  let z := s.get (THS_CFG.ZONE k)
  .any [.fields ([THS_VAL.T k, THS_VAL.VALID k, THS_VAL.SUBST k, THS_STAT.SUBST k, THS_STAT.SANE k, THS_STAT.INTERVAL k,
    THS_STAT.FAIL_CAUSE k, THS_STAT.LEVEL k, THM_SUBST.SUBST (k / 32), Thm.NEW k, Ths.LAST k, Ths.LASTOK k, Ths.INS k,
    Ths.ICAUSE k, Ths.UP1 k, Ths.UP2 k, Ths.DN1 k, Ths.DN2 k, Ths.OVER1 k, Ths.OVER2 k, Ths.SDN k, Ths.SDDUE k, Ths.LEN k,
    Ths.COLD k, Ths.COOLED k, Ths.SANEMS k, Ths.SANERUN k, Ths.FAILED k, Ths.MINP k, Dev.FREE, THZ_STAT.LEVEL z,
    THZ_STAT.MINPWR z, THZ_STAT.SUBST z, THZ_EVT.EVT z]
    ++ ((List.range 48).filter (fun n => s.get (PORT_TM.AMB n) == k)).flatMap (fun n => [Port.AMB n, Port.STALE n 2])),
    tagFp 0x80, eccReadFp]

/-- A record of the MRAM event log (R64, R376). -/
def eventLogFp : Footprint where
  fld id := ([Log.NEXT, MEM_INJ.ARM 1].map Fld.id).contains id
  mem a := decide (0x6F2000 ≤ a) && decide (a < 0x700000)
  ecc w := decide (0xDE400 ≤ w) && decide (w < 0xE0000)

/-- The pending mark of sensor `k` and its records (R376, R383). -/
def pendFp (k : Nat) : Footprint := .any [.fields [Ths.RECS k, THS_STAT.PEND_ACK k, THM_PEND.PEND (k / 32)], eventLogFp]

/-- What a shutdown of sensor `k` turns off (R375). -/
def shutActionFp (k : Nat) : Footprint :=
  match thKind k with
  | 0 => .any ((List.range 4).flatMap (fun c => [combStopFp c, pdActFp (fin4 c)]) ++ (List.range 48).map portActFp)
  | 2 => .any [setSquashFp ((k - 8) / 4), .parts [.slots (Fin.ofNat 16 (k - 8))], .fields [PH_STAT.SLOTS (k - 8),
      Ph.SEQANY (k - 8), Ph.ENDRUN (k - 8), PH_STAT.HOLD_CAUSE (k - 8), PH_STAT.STATE (k - 8)]]
  | 1 => .any ((List.range 8).flatMap (fun n => [.fields [CHG_SETPT.I_EFF n, Port.CMD (batPort n)], portActFp (batPort n)]))
  | _ => .any [.fields [Port.HOT (k - 40)], raiseFp (0x30 + (k - 40))]

/-- What starts again when a shutdown of sensor `k` ends (R376). -/
def restartFp (k : Nat) : Footprint :=
  match thKind k with
  | 0 => .any (.fields ((List.range 16).map PH_STAT.HOLD_CAUSE) :: (List.range 4).map (fun c => pdActFp (fin4 c))
      ++ (List.range 48).map startFp)
  | 2 => .fields [PH_STAT.STATE (k - 8), PH_STAT.HOLD_CAUSE (k - 8), PH_STAT.PER_PENDING (k - 8), PH_STAT.WALKING (k - 8),
      Ph.PER (k - 8), Ph.OFS (k - 8), Ph.RESTART (k - 8), Ph.SEQANY (k - 8), Ph.ENDRUN (k - 8), PAGE_IRQ_STAT.EVT (0x20 + (k - 8))]
  | 1 => {}
  | _ => .any [.fields [Port.HOT (k - 40)], startFp (k - 40), pdActFp (fin4 ((k - 40) / 12)), endFp (0x30 + (k - 40))]

/-- What the end of a shutdown of sensor `k` may change (R376, R384). -/
def shutEndFp (s : State) (k : Nat) : Footprint :=
  .any [.fields [THS_STAT.SD k, Ths.COLD k, Ths.COOLED k, THZ_EVT.EVT (s.get (THS_CFG.ZONE k))], endFp 0x80, restartFp k]

/-- A check-in of an internal source, and the service that it may complete (R423, R425, R426). -/
def checkinFp : Footprint := .fields [WDG_STAT.CHECKED, WDG_STAT.SERVED, PAGE_IRQ_STAT.EVT 0x09]

/-- What engine `n` may change: its own registers and those of the other engine of its string, their ports and their sweeps,
and what it reports (R204 to R234). -/
def chargeFp (s : State) (n : Nat) : Footprint :=
  .any (checkinFp :: [n, n ^^^ 1].flatMap (fun f => [engineFp f, sweepEndFp s f, pairFp (batPort f), portActFp (batPort f), raiseFp (0x88 + f),
    tagFp (0x88 + f)]))

/-- What the sweeps of channel `n` change of its own: requests, points, results and the perturbation (R242 to R252). -/
def sweepFp (s : State) (n : Nat) : Footprint :=
  .any [.fields ([CHG_IMP_STAT.STATE n, CHG_IMP_STAT.END n, CHG_IMP_STAT.TABLE n, CHG_IMP_STAT.POINT n, CHG_IMP_EVT.EVT n,
    CHG_IMP_ZMAG.VALID n, CHG_IMP_ZMAG.ZMAG n, CHG_IMP_SOH.SOH n, CHG_IMP_SOH.R25 n, CHG_IMP_CNT.ABORTS n,
    CHG_IMP_CNT.COMPLETED n, CHG_STAT.SWEEP_PEND n, CHG_STAT.DV_ARMED n, CHG_DV.NDV n, PAGE_IRQ_STAT.EVT (0x88 + n), Imp.AMP n,
    Imp.DELTA n, Imp.CYC n, Imp.WAIT n, Imp.PAIR n, Imp.CLIP n, Imp.DIST n, Imp.ZERO n, Imp.NEW n, Imp.PHASE n, Imp.FTW n,
    Imp.AWAIT n, Imp.TAIL n] ++ (enginePair s n).flatMap (fun e => [Imp.K e, Imp.PK e, Imp.PON e]) ++ (List.range 4).map (Chg.Q n)
    ++ (List.range 32).flatMap (fun p => [Imp.RE n p, Imp.IM n p, Imp.STATUS n p, Imp.IAMP n p, Imp.TBAT n p])), unclaimFp s n]

/-- The accumulators of an impedance channel's string (R247, R331). -/
def claimFp (s : State) (n : Nat) : Footprint :=
  .any (unclaimFp s n :: ((enginePair s n).flatMap (impAccs s)).map accFp)

/-- What a CAN FD controller counts of the bus: its error counters, its state where both are below 128 again, and the
free values drawn for them. -/
def canFp (n : Fin 2) : Footprint := .fields [CAN_STAT.REC n, CAN_STAT.TEC n, CAN_STAT.STATE n, Dev.FREE]

/-- Whole words of the retention SRAM from byte `lo` up to byte `hi` (R74). -/
def retFp (lo hi : Nat) : Footprint where
  ret a := decide (lo ≤ a) && decide (a < hi)
  ecc w := decide (retKey (lo / 8) ≤ w) && decide (w < retKey (hi / 8))

/-- A watchdog failure: its record in retention SRAM with its shadow, its causes and FAIL_PENDING (R428 to R431). -/
def wdgFailFp : Footprint :=
  .any [.fields [Wdg.FCAUSE, Wdg.FSLOT, Wdg.RMISS, Wdg.RDUP, Wdg.RX, WDG_CAUSE.MISSING, WDG_CAUSE.DUP, WDG_CAUSE_X.EARLY,
    WDG_CAUSE_X.LATE, WDG_CAUSE_X.BAD_KEY, WDG_CAUSE_X.CLK_STOP, WDG_STAT.FAILED], retFp 0x10 0x100, raiseFp 0x09]

/-- What a cycle of the watchdog starts with (R420, R422, R426, R432). -/
def cycleFp : Footprint :=
  .fields [Wdg.HOSTNEXT, Wdg.OPEN, Wdg.CLOSE, Wdg.EN, Wdg.MAP, WDG_STAT.SVC_BY_HW, WDG_STAT.CLK_INUSE, WDG_STAT.CHECKED,
    WDG_STAT.SERVED, WDG_STAT.ARMED, WDG_STAT.FAILED, WDG_STAT.EW, WDG_CFG.CLKSEL, WDG_WIN.OPEN, WDG_WIN.CLOSE, WDG_SLOT_EN.EN,
    WDG_SLOT_MAP0.MAP, WDG_SLOT_MAP1.MAP, WDG_SEQ.SEQ, WDG_TICK.TICK, WDG_TICK.EW]

/-- Table bank `b` and its check bits (R81, R462). -/
def bankFp (b : Nat) : Footprint where
  mem a := decide (bankBase b ≤ a) && decide (a < bankBase b + 0x80000)
  ecc w := decide (bankBase b / 8 ≤ w) && decide (w < bankBase b / 8 + 0x10000)

/-- What the table manager shows of its commands and of the inactive bank (R467, R489). -/
def tableFp : Footprint :=
  .fields [TBL_BANK.RESULT, TBL_BANK.WHY, TBL_BANK.INACT, Tbl.RUN, TBL_VER_STAT.RESULT, TBL_VER_STAT.WHY, TBL_VER_STAT.ENTRY,
    PAGE_IRQ_STAT.EVT 0x90]

/-- What the MAINT page shows of its commands (R474, R490). -/
def maintFp : Footprint :=
  .fields [MAINT_STAT.BUSY, MAINT_STAT.RESULT, MAINT_STAT.WHY, MAINT_STAT.OP, MAINT_STAT.ARG, MAINT_CMD.OP, MAINT_CMD.ARG, Mnt.OP, Mnt.ARG,
    PAGE_IRQ_STAT.EVT 0xB0]

/-- Phase `p` leaves or rejoins the phases that its comb runs ahead (R475 to R477). -/
def phaseDrainFp (p : Nat) : Footprint :=
  .any [.fields ([Mnt.OUT p, Mnt.BYC p, Mnt.BACK p, Mnt.SHARE p, PAGE_STAT.DRAINED (0x20 + p), MAINT_PH_OUT.PHASES, HIVE_MODE.MAINT,
    PH_CTL.RUN p, PH_STAT.SLOTS p, PH_STAT.PER_PENDING p, Ph.PER p, Ph.OFS p, Ph.EDGE p]
    ++ (combPhases (p / 4)).flatMap (fun (q : Fin 16) => [PH_ILV.ANGLE q, PH_STAT.WALKING q])),
    holdFp (Fin.ofNat 16 p), .parts [.slots (Fin.ofNat 16 p)], setSquashFp (p / 4)]

/-- The Forager of comb `c` registers the barrier of a commit (R168, R470). -/
def foragerBarrierFp (c : Fin 4) : Footprint :=
  .any ([.fields [CMB_STAT.GEN c], squashFp c, modelFp c] ++ (combPhases c).map (fun p => .any [.fields [PH_STAT.SLOTS p, Ph.SEQANY p,
    PH_STAT.NEXT_IDX p, PH_CNT0.STALE p, PAGE_IRQ_STAT.EVT (0x20 + p)], .parts [.slots p], raiseFp (0x20 + p)]))

/-- What a register access itself leaves: the path's status code and idle time, and the report of a refusal in the
page (R90, R94, R111). -/
def accessFp (a : Access) (p : Nat) : Footprint :=
  .fields [Last.CODE (pathNum a.path), Ses.IDLE_T (pathNum a.path), PAGE_STAT.REFUSED p, PAGE_STAT.REFUSE_WHY p]

/-- A Swarm frame whose CRC matches its bytes (R439). -/
def sealed (f : SwFrame) (ty : Nat) : SwFrame :=
  { f with crc := BitVec.ofNat 32 (crc32 (frameBytes ty f.keeper f.bcast f.dst.toNat f.src.toNat f.ttl.toNat f.seq.toNat
      f.payload)) }

/-- The queen's time that a TIME frame with ORIGIN `org` and CORR `corr` shows on arrival at a port (R449). -/
def queenTime (s : State) (w org corr : Nat) : Nat := org + (corr + s.get (swDelay w)) / 8

/-- The state in which the word of a REQ is performed: its frame has been received, and the holders of the Swarm path are
cleared (R454). -/
def reqState (s : State) (f : SwFrame) : State := clearHolders (s.put (swLock (bitOf f.west)) 1)

/-- A REQ performs its words in the Keeper view: a Keeper frame of the node to which the session is bound, outside SAFE-BOOT
(R88, R456). -/
def reqKeeper (s : State) (f : SwFrame) : Bool := f.keeper && sessionOpen s .swarm f.src && !inSafeBoot s

/-- The one word that a REQ reads at a page address, and the one that it writes (R83, R454). -/
def remoteRead (s : State) (f : SwFrame) (addr : Nat) : State × Nat × Nat × Nat :=
  wordRead (reqState s f) (reqKeeper s f) 3 (addr + (if reqKeeper s f then 0x100000 else 0))
def remoteWrite (s : State) (f : SwFrame) (addr w : Nat) : Res :=
  wordWrite (reqState s f) (reqKeeper s f) 3 f.src (addr + (if reqKeeper s f then 0x100000 else 0)) w

/-- A frame sent on a port, 0 east and 1 west: the bytes that its CRC covers, and the CRC (R439). -/
def frameOn (w : Nat) (bytes : List (BitVec 8)) : Sent := .swarm w (bytes ++ beBytes 4 (crc32 bytes))

/-- What the arrival of a frame changes of itself: the lock of its port, the last SEQ of its sender, what is forwarded and
counted (R441). -/
def arriveFp (f : SwFrame) : Footprint :=
  .any [.fields [swLock (bitOf f.west), Sw.SEQN (f.src.toNat % 64), SW_CNT0.FWD_DROP, SW_CNT0.CRC_ERR, SW_CNT1.NO_ROUTE,
    Flt.BURST 0x98], .parts [.sent], raiseFp 0x98]

/-- The device's own role as queen, and its swarm time when it becomes one (R446 to R449). -/
def queenFp : Footprint :=
  .any [.fields [Sw.ISQ, Sw.HAS, SW_TOPO.QVALID, SW_TOPO.QUEEN, SW_CNT2.QUEEN_CHG, SW_TIME_STAT.HOLDOVER, SW_TIME_LO.TIME,
    SW_TIME_HI.TIME], swarmRoleFp, endFp 0x98]

/-- A SHARE entry that is delivered to a comb of the device (R452). -/
def shareInFp : Footprint :=
  .any [.fields (SW_CNT1.SHARE_LATE :: (List.range 4).flatMap (fun c => [SW_MEMB.TARGET c, Sw.MTAG c])), .parts [.sent],
    .fields [Sw.SEQ], tagFp 0x98]

/-- The code session of the Swarm path closes (R94, R455). -/
def bondFp : Footprint := .fields [Ses.CODE 3, HIVE_KSESS_STAT.OPEN, HIVE_KSESS_STAT.PIN, HIVE_KSESS_EVT.CLOSED]

/-- What a node shows of itself in its ANNOUNCE frames (R440, R443). -/
def nodeFp (n : Nat) : Footprint := .fields [Sw.HOP 0 n, Sw.HOP 1 n, Sw.UIDN n, Sw.QPRIN n, Sw.ELIGN n, Sw.SEQN n]

/-- What the loss or the return of an island's clock may change beside the report in its page (R27). -/
def clockFp : ClockIsland → Footprint
  | .phase p => .any [setSquashFp (p / 4), holdFp p]
  | .port n => portClockFp n
  | .combPll c => .any (combStopFp c :: (List.range 12).map (fun m => portClockFp (12 * c.val + m)))
  | .hive => .fields [Boot.REC_HIVE]
  | .swarmPort _ => .any [.fields [Sw.RUN 0, Sw.RUN 1, swPartner 0, swPartner 1, swUp 0, swUp 1, SW_TOPO.RING], swarmRoleFp]
  | _ => {}

/-- The release of comb `c`: its phases leave IDLE, its Forager judges its model, its ports their conditions (R69, R70). -/
def releaseFp (c : Fin 4) : Footprint :=
  .any ([modelFp c] ++ (combPhases c).map (fun (p : Fin 16) => .fields [PH_STAT.STATE p, PH_STAT.HOLD_CAUSE p,
      PH_STAT.PER_PENDING p, PH_STAT.WALKING p, Ph.PER p, Ph.OFS p, Ph.RESTART p, Ph.SEQANY p, Ph.ENDRUN p, PAGE_IRQ_STAT.EVT (0x20 + p)])
    ++ (List.range 12).map (fun m => startFp (12 * c.val + m)))

/-- Entry to SAFE-BOOT, a late claim included (R69, R70, R374, R386). -/
def enterSafeFp : Footprint :=
  .any ([.fields ([HIVE_MODE.MODE, Boot.CLAIM, Boot.RELEASE, Pwr.VDDC_OK, Pin.CORE_EN] ++ (List.range 88).map THS_SD.LOCK),
    swarmRoleFp] ++ (List.finRange 4).map releaseFp ++ (List.range 48).map portActFp ++ allocatedPages.map raiseFp)

/-- Steps 4 and 5 of the claim (R69, R70, R374). -/
def combReleaseFp : Footprint :=
  .any ([.fields ([HIVE_MODE.MODE, HIVE_BOOT_STAT.CLAIMED, Wdg.HOSTNEXT, Boot.RELEASE, Boot.CLAIM]
    ++ (List.range 88).map THS_SD.LOCK), swarmRoleFp] ++ (List.finRange 4).flatMap (fun c => [releaseFp c, .fields
      [PDP_STAT.CC_STATE c, Pd.RP c, Pd.RD c, PDP_STAT.RP_SEEN c, PDP_STAT.DEADBAT c]]) ++ (List.range 48).map startFp)

/-- Step 1 of hive-sleep entry (R76, R250). -/
def sleepFp (s : State) : Footprint :=
  .any ([.fields [Sleep.STATE, Sleep.STEP], .parts ((List.finRange 4).map .antq)]
    ++ (List.finRange 16).map (fun p => .any [holdFp p, .fields [PH_STAT.SLOTS p], .parts [.slots p]])
    ++ (List.finRange 4).map (fun c => squashFp c.val)
    ++ (List.range 8).map (fun n => .any [sweepEndFp s n,
      .fields ([CHG_STAT.DV_ARMED n, CHG_DV.NDV n, PAGE_IRQ_STAT.EVT (0x88 + n)] ++ (List.range 4).map (Chg.Q n))]))

/-- Step 4 of hive-sleep entry: the host port, CAN FD and the Swarm ports stop (R76). -/
def sleepStopFp : Footprint :=
  .any [.fields [Sleep.STEP, Pin.HRDY, Pin.INTN, Sw.RUN 0, Sw.RUN 1, swPartner 0, swPartner 1, swUp 0, swUp 1, swLock 0, swLock 1,
    SW_TOPO.RING], swarmRoleFp, .parts ([.canq 0, .canq 1] ++ (List.finRange 4).map .jobs)]

/-- The return to FULL out of hive-sleep (R77, R78). -/
def sleepLeftFp : Footprint :=
  .any ([.fields ([Sleep.STATE, Sleep.STEP, Sleep.PEND, HIVE_WAKE.SRC, Pin.HRDY, Pin.INTN, Ses.PIN, HIVE_KSESS_STAT.PIN, HIVE_KSESS_STAT.OPEN,
    HIVE_KSESS_EVT.OPENED]
    ++ (List.range 16).map PH_STAT.HOLD_CAUSE)] ++ (List.range 48).map startFp)

/-- The interrupt controller: its registers and what it keeps of the lines (R402, R417). -/
def intcFp : Footprint :=
  .any [.keys (fun key => (decide (0x08040 ≤ key) && decide (key < 0x09000)) || (decide (keyFam (Intc.LINE 0).key ≤ keyFam key)
    && decide (keyFam key ≤ keyFam (Intc.STKPRI 0 0).key))), .fields [Pin.INTN]]

/-- The wake out of hive-sleep: supplies, accumulators, trackers, overrides, charge trackers, sensor intervals and the
interrupt controller (R78, R230, R337, R379, R417). -/
def wakeFp : Footprint :=
  .any ([sleepLeftFp, intcFp, errFp, raiseFp 0x08, .fields ([Pin.CORE_EN, Pwr.VDDC_OK, Pwr.VDDC_DOM, Sleep.TIMER, Sleep.ERR]
    ++ (List.range 8).flatMap (fun n => [Chg.TMN n, Chg.TSUM n, Chg.TCNT n, CHG_STAT.DTDT_VALID n, CHG_STAT.DV_ARMED n,
      CHG_DV.NDV n, PAGE_IRQ_STAT.EVT (0x88 + n), HKS_OVR.OVR n] ++ (List.range 4).map (Chg.Q n))
    ++ (List.range 88).flatMap (fun k => [THS_STAT.INTERVAL k, Ths.LEN k])
    ++ (List.range 256).flatMap (fun t => [MMT_MIN.VALID t, MMT_MIN.CLIP t, MMT_MIN.VALUE t, MMT_MAX.VALID t, MMT_MAX.CLIP t,
      MMT_MAX.VALUE t, Mmt.TESTMIN t, Mmt.TESTMAX t, Mmt.RMIN t, Mmt.RMAX t]))] ++ (List.range 512).map accFp)

/-- The end of a drain that has no effect: the phase or the comb runs ahead again, or the converter has its lane (R483). -/
def drainEndFp : Footprint :=
  .any (maintFp :: convFp :: .fields ((List.range 4).map Mnt.DRAIN) :: (List.range 16).map phaseDrainFp)

/-- What an injected cause of a page moves where its own block acts (R28, R58, R417, R444, R470, R483, R395). -/
def injectFp (p : Nat) : Footprint :=
  match pageKind p with
  | some 0x01 => .any [.fields [CLK_STAT.SRC, CLK_STAT.HOLDOVER, CLK_STAT.RET_READY, PAGE_IRQ_STAT.EVT 0x01], swarmRoleFp]
  | some 0x02 => .any [.fields [Pin.CORE_EN, HIVE_BOOT_STAT.CORE_FAIL, Boot.RELEASE, Boot.CLAIM], enterSafeFp]
  | some 0x08 => intcFp
  | some 0x90 => tableFp
  | some 0x98 => .any [.fields [SW_ADDR.VALID, SW_ADDR.DUP, Sw.ISQ, SW_TOPO.QVALID, SW_TOPO.QUEEN], swarmRoleFp]
  | some 0xB0 => drainEndFp
  | _ => {}

/-- `t` agrees with `s` on every field, every byte, every check-bit condition and every part that the footprint does not
allow to change. -/
structure Frame (F : Footprint) (s t : State) : Prop where
  fld : ∀ f : Fld, F.fld f.id = false → t.get f = s.get f
  mem : ∀ a, F.mem a = false → t.byte a = s.byte a
  ret : ∀ a, F.ret a = false → t.retByte a = s.retByte a
  ecc : ∀ w, F.ecc w = false → Sparse.look 0 t.ecc w = Sparse.look 0 s.ecc w
  part : ∀ q, F.part q = false → q.same s t

/-- What live maintenance has drained: the marks of pages, phases and combs, and the registers of the MAINT block (R474 to
R482, R490). -/
def drainedFields : List Fld :=
  [MAINT_PH_OUT.COMBS, MAINT_PH_OUT.PHASES, MAINT_PORT0.HOLD, MAINT_PORT1.HOLD, MAINT_CONV.OUT] ++ (List.range 3).map MAINT_SENS.OUT
    ++ allocatedPages.map PAGE_STAT.DRAINED ++ (List.range 16).map Mnt.OUT ++ (List.range 4).map Mnt.DRAIN

/-- Anything but the drained sets and the staged writes (R484). -/
def maintKept : Footprint where
  fld id := !(drainedFields.map Fld.id).contains id
  mem _ := true
  ret _ := true
  ecc _ := true
  part q := match q with
    | .staged _ => false
    | _ => true

/-- Every MAINT register and every drained mark is at its reset value, and nothing is staged (R62, R484). -/
abbrev maintCleared (t : State) : Prop :=
  (∀ f : Fld, f.lo < 32 → ((0xB0000 ≤ f.key ∧ f.key < 0xB1000) ∨ f ∈ drainedFields) → t.get f = f.rst % 2 ^ f.len)
    ∧ (∀ n : Fin 48, t.staged[n] = [])

/-- What one idle millisecond may change: the counters of time that registers show and commands are judged by (log entry 2). -/
def tickFp : Footprint :=
  .fields ([Dev.TIME, Dev.MS, Ses.LOCK_T, HIVE_KSESS_STAT.LOCK_REM, Sleep.TIMER, WDG_TICK.TICK, WDG_STAT.SERVED, PAGE_IRQ_STAT.EVT 0x09, Tag.SEC, Sw.SLEW, SW_TIME_LO.TIME, SW_TIME_HI.TIME]
    ++ allocatedPages.map Flt.BURST ++ (List.range 48).flatMap (fun n => [PORT_RETRY_STAT.ELAPSED n, Port.INS_T n])
    ++ (List.range 5).map HKC_AGE.AGE ++ (List.range 2).map Clk.READY_T
    ++ (List.range 4).flatMap (fun c => [Ses.IDLE_T c, Pd.REF c, Pd.RAMP c, Pd.DIS c, PORT_PD_STAT.TRIPS10 c])
    ++ (List.range 8).flatMap (fun n => [Chg.ABSMS n, CHG_RET.ABS_ELAPSED n])
    ++ (List.range 88).flatMap (fun k => [Ths.SANEMS k, THS_STAT.SANE k]))

/-- The fields that a reset itself sets: the held reset and its trigger, the use of an RST_N assertion, and the safe state
of each PD port (R60, R61, R62). -/
def resetSets : List Fld :=
  [Boot.HELD, Boot.POR, Boot.TRIGS, Pin.RST_USED] ++ (List.range 4).flatMap (fun c =>
    [Pd.DIS c, Pd.RD c, PORT_PD_STAT.STATE c, PDP_STAT.CC_STATE c])

/-- `t` is what a warm reset of CAUSE code `code`, the first trigger, leaves of `s`: the internal reset is held; fields
that no warm reset keeps are at their reset values; table banks and work area are clear and the rest of the windows is
kept, but for what the fault log recorded on the way; the saved fault status of every page stands in retention SRAM and
the rest of it is kept (R60, R62, R74). -/
structure WarmReset (s t : State) (code : Nat) : Prop where
  held : t.get Boot.HELD = 1
  trigger : t.get Boot.TRIGS = 1 <<< (code - 1)
  cleared : ∀ f : Fld, f.lo < 32 → f ∉ resetSets → keptKey false f.key = false → t.get f = f.rst % 2 ^ f.len
  banks : ∀ b : Nat, 0x200000 ≤ b → b < 0x500000 → t.byte b = 0
  windows : ∀ b : Nat, 0x500000 ≤ b → t.byte b = s.byte b
  saved : ∀ p ∈ allocatedPages, t.retWord (0x100 + 4 * p) = fltStat s p
  retained : ∀ b : Nat, b < 0x100 ∨ 0x500 ≤ b → t.retByte b = s.retByte b
  sent : t.sent = s.sent
  pending : t.pending = s.pending

end Sys2Proof.Machine
end

