-- ==== Sys2Proof/Certificates/Slice0/Obligations.lean ====
section
/-! DEFINITION. The statements about the block, one `def` each; OBLIGATIONS.json lists them. In each clause the command answers a
next state under the hypotheses named and the state holds what the clause says; `Frame` says that nothing outside the footprint
named has changed: no register field, no byte of the windows or of the retention SRAM, no check-bit condition, no queue, no
holder and nothing sent. -/

open Sys2Proof Sys2Proof.Machine

/-- A step with a command at the front of the queue is `exec` of that command on the state with the queue's rest. -/
def Obligations.StepRunsTheFrontCommand : Prop :=
  ∀ (s : State) (c : Instr) (rest : List Instr),
    (s.pending = c :: rest → step s = exec c (s.withPending rest)) ∧ step (s.withPending (c :: rest)) = exec c (s.withPending rest)

/-- Every command of the table answers a next state in every state: the model has no fault and no refusal. -/
def Obligations.EveryCommandAnswersANextState : Prop :=
  ∀ (c : Instr) (s : State), ∃ t, exec c s = .next t

/-- R7: right after reset every field stands at its reset value, every memory is empty in its canonical form, every queue and
buffer is empty, and no command waits. Reset values that the spec does not state are the model's choice (log entry 9). -/
def Obligations.StateAfterReset : Prop :=
  (∀ f : Fld, State.reset.get f = f.rst % 2 ^ f.len) ∧ (∀ b : Nat, State.reset.byte b = 0 ∧ State.reset.retByte b = 0)
    ∧ Memory.wf State.reset = true ∧ Queues.bounded State.reset = true
    ∧ (∀ p : Fin 16, State.reset.slots[p] = [] ∧ State.reset.exec[p] = none ∧ State.reset.coming[p] = none ∧ State.reset.window[p] = [])
    ∧ (∀ c : Fin 4, State.reset.antq[c] = [] ∧ State.reset.rx[c] = [] ∧ State.reset.txBuf[c] = [] ∧ State.reset.txMsg[c] = []
        ∧ State.reset.readHold[c] = none ∧ State.reset.writeHold[c] = none ∧ State.reset.codeHold[c] = none ∧ State.reset.jobs[c] = none)
    ∧ (∀ i : Fin 2, State.reset.canq[i] = []) ∧ (∀ n : Fin 48, State.reset.staged[n] = [])
    ∧ State.reset.sent = [] ∧ State.reset.pending = []
    ∧ State.reset.get HIVE_MODE.MODE = 0 ∧ State.reset.get CLK_STAT.SRC = 2

/-- The windows, the retention SRAM, the fields and the check-bit conditions keep their canonical form: no step, whatever its
command, leaves it. -/
def Obligations.EveryStepKeepsTheCanonicalForm : Prop :=
  ∀ (s t : State), Memory.wf s = true → step s = .next t → Memory.wf t = true

/-- R116, R123, R144, R164, R295: no step, whatever its command, lets a queue or a buffer outgrow the size that the spec
gives it, and none leaves the three modes. -/
def Obligations.EveryStepKeepsTheQueuesBounded : Prop :=
  ∀ (s t : State), Queues.bounded s = true → step s = .next t → Queues.bounded t = true

/-- The effect of a command leaves the queue of the commands that wait as it is. -/
def Obligations.CommandsLeaveTheQueue : Prop :=
  ∀ (c : Instr) (s t : State), exec c s = .next t → t.pending = s.pending

/-- Log entry 2, a choice of the model and no rule of the spec: a step on an empty queue is one millisecond, in which,
outside hive-sleep entry, only counters of time and the service by the hive sequencer move; under power-on reset nothing
does. The time since power-on counts one, and so do the tick of the watchdog, up to CLOSE, outside a held reset, and the idle
time of each path while HIVE_KSESS_CTL.IDLE is not 0, no reset is held and the hive has its clock; IDLE 0 stops it. -/
def Obligations.IdleMillisecond : Prop :=
  ∀ (s : State),
    s.pending = [] → s.get Sleep.STATE ≠ 1 →
    (∃ t, step s = .next t ∧ Frame tickFp s t
      ∧ (s.get Boot.POR = 1 → Frame {} s t)
      ∧ (s.get Boot.POR = 0 → t.get Dev.TIME = (s.get Dev.TIME + 1) % 2 ^ (Dev.TIME).len
          ∧ (s.get Boot.HELD = 0 → t.get WDG_TICK.TICK = min (s.get WDG_TICK.TICK + 1) (s.get Wdg.CLOSE)))
      ∧ (s.get Boot.POR = 0 → s.get Boot.HELD = 0 → s.get (Clk.LOST 73) = 0 → s.get HIVE_KSESS_CTL.IDLE ≠ 0 →
          ∀ i : Fin 4, t.get (Ses.IDLE_T i) = min (2 ^ (Ses.IDLE_T i).len - 1) (s.get (Ses.IDLE_T i) + 1))
      ∧ (s.get HIVE_KSESS_CTL.IDLE = 0 → ∀ i : Fin 4, t.get (Ses.IDLE_T i) = s.get (Ses.IDLE_T i)))

/-- R10: a read or a write of any register address in the Keeper view made without an open session on its path leaves the
same state as the same access in the Worker view. -/
def Obligations.WithoutASessionTheKeeperViewIsTheWorkerView : Prop :=
  ∀ (s : State) (a : Access) (addr : BitVec 20) (w : BitVec 32),
    sessionOpen s a.path a.node = false →
    ((∃ t, exec (.registerWrite { a with keeper := true } addr w) s = .next t ∧ exec (.registerWrite { a with keeper := false } addr w) s = .next t)
    ∧ (∃ t, exec (.readHolderCapture { a with keeper := true } addr) s = .next t ∧ exec (.readHolderCapture { a with keeper := false } addr) s = .next t))

/-- R126: an entry that does not fit is clipped before issue, leg by leg. T1, D1 and T2, D2 are the first and the second
on-time of a leg, in the order that its ORD bit gives, and the dead times of its transitions, of which one below 8 taps acts
as 8 (R127). If T1 > P, T1 becomes P and T2 0; otherwise, if T2 > 0 and the four exceed P, T2 becomes max(0, P - T1 - D1 -
D2); otherwise the leg is as it was. The entry that the issue decision issues is the clipped one, with the rule of MIN_ON
applied; an entry that clipping changed is counted once in CLIPPED and sets EVT bit 4, and any other is not counted. -/
def Obligations.EntryClipping : Prop :=
  ∀ (s : State) (p : Fin 16) (e : Timing) (per d1 d2 t1 t2 : Nat),
    (per < t1 → legClip per d1 d2 t1 t2 = (per, 0))
    ∧ (t1 ≤ per → 0 < t2 → per < t1 + d1 + t2 + d2 → legClip per d1 d2 t1 t2 = (t1, max 0 (per - t1 - d1 - d2)))
    ∧ (t1 ≤ per → (t2 = 0 ∨ t1 + d1 + t2 + d2 ≤ per) → legClip per d1 d2 t1 t2 = (t1, t2))
    ∧ ((clipped s p per e).tAH, (clipped s p per e).tAL) = (if e.ordA then
        ((legClip per (max 8 (s.get (PH_DT.DT_LH p))) (max 8 (s.get (PH_DT.DT_HL p))) e.tAL e.tAH).2,
         (legClip per (max 8 (s.get (PH_DT.DT_LH p))) (max 8 (s.get (PH_DT.DT_HL p))) e.tAL e.tAH).1)
      else legClip per (max 8 (s.get (PH_DT.DT_HL p))) (max 8 (s.get (PH_DT.DT_LH p))) e.tAH e.tAL)
    ∧ ((clipped s p per e).tBH, (clipped s p per e).tBL) = (if e.ordB then
        ((legClip per (max 8 (s.get (PH_DT.DT_LH p))) (max 8 (s.get (PH_DT.DT_HL p))) e.tBL e.tBH).2,
         (legClip per (max 8 (s.get (PH_DT.DT_LH p))) (max 8 (s.get (PH_DT.DT_HL p))) e.tBL e.tBH).1)
      else legClip per (max 8 (s.get (PH_DT.DT_HL p))) (max 8 (s.get (PH_DT.DT_LH p))) e.tBH e.tBL)
    ∧ (decides s p = true →
      BitVec.ofNat 8 (s.get (Ph.PERCNT p) + 1) = e.index → s.slots[p].head? = some e →
        ∃ t, exec (.issueDecision p) s = .next t ∧ t.coming[p] = some (executed s p (comingLength s p) e)
          ∧ (clipped s p (comingLength s p) e ≠ e → t.get (PH_CNT1.CLIPPED p) = min 65535 (s.get (PH_CNT1.CLIPPED p) + 1)
              ∧ (t.get (PAGE_IRQ_STAT.EVT (0x20 + p))).testBit 4 = true)
          ∧ (clipped s p (comingLength s p) e = e → t.get (PH_CNT1.CLIPPED p) = s.get (PH_CNT1.CLIPPED p)))

/-- R404, R405: a source is presentable to target t exactly when its pending bit is set, it is not active, its PRIO is not 0,
its TGT bit t is set, and its PRIO exceeds the running priority, which is that of the top of the stack of t or 0 on an empty
stack, and THRESH; THRESH = 15 masks every source. A claim by t of a source that is not presentable to t does not happen: its
pending and active bits are as before and the claim returns 0 or another source. -/
def Obligations.EligibleAndPresentable : Prop :=
  ∀ (s : State) (a : Access) (n : Fin 256) (t : Fin 4),
    (presentable s n t = true ↔ (s.flag (INTC_SRC_CFG.PEND n) = true ∧ s.flag (INTC_SRC_CFG.ACTIVE n) = false ∧ s.get (INTC_SRC_CFG.PRIO n) ≠ 0
      ∧ s.bit (INTC_SRC_CFG.TGT n) t = true ∧ runPrio s t < s.get (INTC_SRC_CFG.PRIO n) ∧ s.get (INTC_T_CTL.THRESH t) < s.get (INTC_SRC_CFG.PRIO n)))
    ∧ (runPrio s t = if s.get (INTC_T_STAT.DEPTH t) = 0 then 0 else s.get (Intc.STKPRI t (s.get (INTC_T_STAT.DEPTH t) - 1)))
    ∧ (s.get (INTC_T_CTL.THRESH t) = 15 → ∀ m : Fin 256, presentable s m t = false)
    ∧ (served s = true → presentable s n t = false →
      ∃ u, exec (.intcClaim a t) s = .next u ∧ u.get (INTC_SRC_CFG.PEND n) = s.get (INTC_SRC_CFG.PEND n)
        ∧ u.get (INTC_SRC_CFG.ACTIVE n) = s.get (INTC_SRC_CFG.ACTIVE n)
        ∧ (u.get (Last.DATA (pathNum a.path)) = 0 ∨ u.get (Last.DATA (pathNum a.path)) % 256 ≠ n.val))

/-- R424: outside hardware service, the expected key is 0xB1E5 while ARMED is 0 and 0x4E1A XOR the low byte of WDG_SEQ while
it is 1. The expected first key sets ARMED, and is no failure; the expected second key clears ARMED, is no BAD_KEY, and
completes a pair, which serves the window inside it when every enabled slot has checked in and the window is not served yet;
any other value, a repeat of the first key while ARMED is 1 among them, is a BAD_KEY failure and clears ARMED. -/
def Obligations.ExpectedKey : Prop :=
  ∀ (s : State) (a : Access) (w : BitVec 32),
    served s = true → s.get WDG_STAT.SVC_BY_HW = 0 →
    ((s.get WDG_STAT.ARMED = 0 → w.toNat = 0x0000B1E5 → ∃ t, exec (.keyPair a w) s = .next t ∧ t.get WDG_STAT.ARMED = 1 ∧ t.get WDG_STAT.FAILED = s.get WDG_STAT.FAILED)
    ∧ (s.get WDG_STAT.ARMED = 0 → ∃ t, exec (.firstKey a) s = .next t ∧ t.get WDG_STAT.ARMED = 1 ∧ t.get WDG_STAT.FAILED = s.get WDG_STAT.FAILED)
    ∧ (s.get WDG_STAT.ARMED = 1 → ∃ t, exec (.keyPair a (BitVec.ofNat 32 (0x4E1A ^^^ (s.get WDG_SEQ.SEQ % 256)))) s = .next t ∧ t.get WDG_STAT.ARMED = 0
        ∧ t.get WDG_CAUSE_X.BAD_KEY = s.get WDG_CAUSE_X.BAD_KEY
        ∧ (s.get WDG_STAT.SERVED = 0 → wdgOpen s ≤ s.get WDG_TICK.TICK → slotsMissing s = [] → t.get WDG_STAT.SERVED = 1))
    ∧ (w.toNat ≠ (if s.get WDG_STAT.ARMED = 0 then 0xB1E5 else 0x4E1A ^^^ (s.get WDG_SEQ.SEQ % 256)) →
        (∃ t, exec (.keyPair a w) s = .next t ∧ t.get WDG_STAT.ARMED = 0 ∧ t.get WDG_STAT.FAILED = 1 ∧ t.get WDG_CAUSE_X.BAD_KEY = 1)
        ∧ (∃ t, exec (.badKey a w) s = .next t ∧ t.get WDG_STAT.ARMED = 0 ∧ t.get WDG_STAT.FAILED = 1 ∧ t.get WDG_CAUSE_X.BAD_KEY = 1))
    ∧ (s.get WDG_STAT.ARMED = 1 →
        ∃ t, exec (.firstKey a) s = .next t ∧ t.get WDG_STAT.ARMED = 0 ∧ t.get WDG_STAT.FAILED = 1 ∧ t.get WDG_CAUSE_X.BAD_KEY = 1))

/-- R427: a host check-in of an enabled host slot that has already checked in during the present cycle is a DUPLICATE
failure: FAILED and the slot's bit of the DUP causes are set, a record of retention SRAM holds cause 4 with the slot number,
the tick and the cycle, and the slot stays checked in. Internal sources check in once per cycle (log entry 62). -/
def Obligations.DuplicateCheckIn : Prop :=
  ∀ (s : State) (a : Access) (n : Fin 16),
    served s = true → s.get WDG_STAT.SVC_BY_HW = 0 → s.bit Wdg.EN n = true → s.bit WDG_STAT.CHECKED n = true → codeInternal (slotCode s n) = false →
      ∃ t, exec (.checkin a (BitVec.ofNat 32 (1 <<< n.val))) s = .next t
        ∧ t.get WDG_STAT.FAILED = 1 ∧ (t.get WDG_CAUSE.DUP).testBit n = true ∧ (t.get Wdg.RDUP).testBit n = true
        ∧ t.get WDG_STAT.CHECKED = s.get WDG_STAT.CHECKED
        ∧ ((List.finRange 15).any (fun (k : Fin 15) => t.retByte (0x12 + 16 * k.val) == 4#8 && (t.retByte (0x13 + 16 * k.val)).toNat == n.val
            && t.retWord (0x14 + 16 * k.val) == s.get WDG_TICK.TICK && t.retWord (0x18 + 16 * k.val) == s.get WDG_SEQ.SEQ) = true)

/-- R484: hive-sleep entry, its abort, the sleep timer, an idle millisecond of the sleep and the wake leave the drained sets
and the staged writes as they are; the first trigger of a power-on, supply-loss (also of a wake whose supply fails), pin,
watchdog, Keeper software or Swarm-commanded reset leaves every MAINT register at its reset value, every drained mark clear
and nothing staged. -/
def Obligations.MaintenanceStateThroughSleepAndReset : Prop :=
  ∀ (s : State) (a : Access) (src : Fin 12) (lost : Bool) (f : SwFrame),
    (∃ t, exec (.hiveSleep a) s = .next t ∧ Frame maintKept s t)
    ∧ (∃ t, exec (.sleepAbort src) s = .next t ∧ Frame maintKept s t)
    ∧ (∃ t, exec .sleepTimerExpiry s = .next t ∧ Frame maintKept s t)
    ∧ (∃ t, exec (.wake src lost) s = .next t ∧ Frame maintKept s t)
    ∧ (s.get Sleep.STATE ≠ 0 → Frame maintKept s (tick s))
    ∧ (s.get Boot.HELD = 0 →
      (∃ t, exec .powerOnReset s = .next t ∧ maintCleared t)
      ∧ (s.get Pwr.VDDC_DOM ≠ 0 → ∃ t, exec .vddcLoss s = .next t ∧ maintCleared t)
      ∧ (s.get Sleep.STATE ≠ 0 → ∃ t, exec .coreFail s = .next t ∧ maintCleared t)
      ∧ (s.get Boot.POR = 0 → s.get Pin.RST_LOW = 0 → s.get PINS_ERR.DRIVE = 0 → ∃ t, exec .rstNAssert s = .next t ∧ maintCleared t)
      ∧ (served s = true → keeperView s a = true → ∃ t, exec (.keeperSoftwareReset a) s = .next t ∧ maintCleared t)
      ∧ (∃ t, exec (.resetFrame f) s = .next t ∧ (t.get Boot.HELD = 1 → maintCleared t))
      ∧ (s.get WDG_STAT.MON_OTHER = 0 → ∃ t, exec .clkStop s = .next t ∧ maintCleared t)
      ∧ (s.get WDG_TICK.TICK = s.get Wdg.CLOSE → s.get WDG_STAT.FAILED = 1 → ∃ t, exec .windowClose s = .next t ∧ maintCleared t))

/-- R391: while any allocated page has a C3 or C4 class action in force (ACTED bit 6 or 7 of the page), housekeeping serves
strictly and a read of HIVE_MODE returns RECOVERY 1 beside the mode; while none has, it returns RECOVERY 0. -/
def Obligations.RecoveryMode : Prop :=
  ∀ (s : State) (a : Access) (p : Fin 256),
    (pageKind p.val ≠ none → (s.bit (PAGE_FLT_STAT.ACTED p) 2 || s.bit (PAGE_FLT_STAT.ACTED p) 3) = true →
        strict s = true ∧ (served s = true → ∃ t, exec (.readHolderCapture a 0x00040#20) s = .next t
          ∧ (t.get (Last.DATA (pathNum a.path))).testBit 11 = true ∧ (t.get (Last.DATA (pathNum a.path))) % 8 = s.get HIVE_MODE.MODE))
    ∧ (allocatedPages.all (fun q => !s.bit (PAGE_FLT_STAT.ACTED q) 2 && !s.bit (PAGE_FLT_STAT.ACTED q) 3) = true →
        served s = true → ∃ t, exec (.readHolderCapture a 0x00040#20) s = .next t
          ∧ (t.get (Last.DATA (pathNum a.path))).testBit 11 = false)

/-- R27 to R30, R42, R45, R47, R48: the start of the pre-regulator, ideal-diode conduction, the two moves of the I/O rail and
the take-over of VDDC; a reference not in use judged valid or invalid. The reference in use is lost to the backup oscillator
with LOSSES counted; 100 ms of validity make RET_READY; RETURN in the Keeper view takes the ready source or is refused; step
1 of START-UP chooses the reference without a count in LOSSES; the loss of an island clock is marked and its return clears
the mark. -/
def Obligations.SuppliesAndClockReference : Prop :=
  (∀ (s : State) (xtal valid : Bool),
    (s.get Pwr.PREREG = 0 →
      ∃ t, exec .preRegulatorStart s = .next t ∧ t.get Pwr.PREREG = 1 ∧ t.get Pwr.IDEAL = 0
        ∧ Frame (.fields [Pwr.PREREG, Pwr.IDEAL]) s t)
    ∧ (s.get Pwr.PREREG = 1 →
      ∃ t, exec .idealDiodeSwitch s = .next t ∧ t.get Pwr.IDEAL = 1 ∧ Frame (.fields [Pwr.IDEAL]) s t)
    ∧ (∃ t, exec .ioRailToVddio s = .next t ∧ t.get Pwr.IO_VDDIO = 1 ∧ Frame (.fields [Pwr.IO_VDDIO]) s t)
    ∧ (∃ t, exec .ioRailToVioi s = .next t ∧ t.get Pwr.IO_VDDIO = 0
        ∧ Frame (.or (.fields [Pwr.IO_VDDIO]) (raiseFp 0x02)) s t
        ∧ (s.get Pin.CORE_EN = 0 → Frame (.fields [Pwr.IO_VDDIO]) s t))
    ∧ (s.get Pin.CORE_EN = 1 → s.get Pwr.VDDC_OK = 0 →
      ∃ t, exec .domainTakesVddc s = .next t ∧ t.get Pwr.VDDC_OK = 1 ∧ t.get Pwr.VDDC_DOM = 31
        ∧ Frame (.fields [Pwr.VDDC_OK, Pwr.VDDC_DOM]) s t)
    ∧ (s.get CLK_STAT.SRC ≠ bitOf xtal →
      ∃ t, exec (.referenceValidityChange xtal valid) s = .next t
        ∧ t.get (Clk.REF_VALID (bitOf xtal)) = bitOf valid ∧ t.get (refShown (bitOf xtal)) = bitOf valid
        ∧ (s.get (Clk.REF_VALID (bitOf xtal)) ≠ bitOf valid → t.get (Clk.READY_T (bitOf xtal)) = 0)
        ∧ Frame (.fields [Clk.REF_VALID (bitOf xtal), Clk.READY_T (bitOf xtal), refShown (bitOf xtal), CLK_STAT.RET_READY,
            PAGE_IRQ_STAT.EVT 0x01]) s t))
  ∧ (∀ (s : State) (a : Access) (w : BitVec 32) (refinAt xtalAt : Option Nat) (i : ClockIsland),
    (s.get CLK_STAT.SRC < 2 →
      ∃ t, exec .refLost s = .next t ∧ t.get CLK_STAT.SRC = 2 ∧ t.get CLK_STAT.HOLDOVER = 0
        ∧ t.get CLK_STAT.LOSSES = min 255 (s.get CLK_STAT.LOSSES + 1)
        ∧ t.get (Clk.REF_VALID (s.get CLK_STAT.SRC)) = 0
        ∧ Frame (.any [.fields [CLK_STAT.SRC, CLK_STAT.HOLDOVER, CLK_STAT.LOSSES, CLK_STAT.RET_READY,
            refShown (s.get CLK_STAT.SRC), Clk.REF_VALID (s.get CLK_STAT.SRC), Clk.READY_T (s.get CLK_STAT.SRC),
            PAGE_IRQ_STAT.EVT 0x01], raiseFp 0x01, swarmRoleFp]) s t)
    ∧ (∀ j : Fin 2, refPick s = some j.val →
      ∃ t, exec .retReady s = .next t ∧ t.get CLK_STAT.RET_READY = 1 ∧ t.get (Clk.READY_T j) = 100
        ∧ (s.get CLK_STAT.RET_READY = 0 → (t.get (PAGE_IRQ_STAT.EVT 0x01)).testBit 0 = true)
        ∧ Frame (.fields [CLK_STAT.RET_READY, Clk.READY_T j, PAGE_IRQ_STAT.EVT 0x01]) s t)
    ∧ (served s = true → keeperView s a = true → s.get (PAGE_LOCK.CFG 0x01) = 0 → w.getLsbD 8 = true →
      w.toNat % 4 = s.get CLK_CTL.PREF → refReady s = true → s.get CLK_STAT.SRC = 2 →
      ∃ t, exec (.clkReturn a w) s = .next t ∧ t.get CLK_STAT.RET_RESULT = 1 ∧ refPick s = some (t.get CLK_STAT.SRC)
        ∧ Frame (.any [.fields [CLK_STAT.SRC, CLK_STAT.HOLDOVER, CLK_STAT.RET_RESULT, CLK_STAT.RET_READY, CLK_CTL.PREF,
            PAGE_IRQ_STAT.EVT 0x01, Flt.PRESENT 0x01, Flt.QUIET 0x01], accessFp a 0x01, swarmRoleFp]) s t)
    ∧ (served s = true → keeperView s a = true → s.get (PAGE_LOCK.CFG 0x01) = 0 → w.getLsbD 8 = true →
      w.toNat % 4 = s.get CLK_CTL.PREF → (refReady s = false ∨ s.get CLK_STAT.SRC ≠ 2) →
      ∃ t, exec (.clkReturn a w) s = .next t ∧ t.get CLK_STAT.RET_RESULT = 2 ∧ t.get CLK_STAT.SRC = s.get CLK_STAT.SRC
        ∧ Frame (.any [.fields [CLK_STAT.SRC, CLK_STAT.HOLDOVER, CLK_STAT.RET_RESULT, CLK_STAT.RET_READY, CLK_CTL.PREF,
            PAGE_IRQ_STAT.EVT 0x01, Flt.PRESENT 0x01, Flt.QUIET 0x01], accessFp a 0x01, swarmRoleFp]) s t)
    ∧ (s.get Boot.HELD = 0 → s.get Boot.STEP = 0 →
      ∃ t, exec (.referenceSelect refinAt xtalAt) s = .next t ∧ t.get Boot.STEP = 1
        ∧ t.get CLK_STAT.SRC = refChoice refinAt xtalAt ∧ t.get CLK_STAT.LOSSES = s.get CLK_STAT.LOSSES
        ∧ Frame (.any [.fields [Boot.STEP, CLK_STAT.SRC, CLK_STAT.RET_READY, CLK_STAT.REFIN_VALID, CLK_STAT.XTAL_VALID,
            Clk.REF_VALID 0, Clk.REF_VALID 1, Clk.READY_T 0, Clk.READY_T 1, PAGE_IRQ_STAT.EVT 0x01], raiseFp 0x01]) s t)
    ∧ (∃ t, exec (.clockMonitorTrip i) s = .next t ∧ t.get (Clk.LOST (clockIdx i)) = 1
        ∧ Frame (.any [.fields [Clk.LOST (clockIdx i)], raiseFp (clockPage i), clockFp i]) s t)
    ∧ (∃ t, exec (.clockReturn i) s = .next t ∧ t.get (Clk.LOST (clockIdx i)) = 0
        ∧ Frame (.any [.fields [Clk.LOST (clockIdx i)], endFp (clockPage i), clockFp i]) s t))

/-- R55, R59 to R62, R74: the state after the first trigger of a power-on, Keeper software, supply-loss or pin reset, then
the releases of power-on and of the internal reset and the end of an assertion of RST_N, or its refusal while ERR_N is
driven. Every field that the kind does not keep, by the table of R62 as keptKey encodes it, is at its reset value; values
where the spec gives none at reset are the model's (log entry 9). -/
def Obligations.ResetsClearAndKeep : Prop :=
  (∀ (s : State) (a : Access),
    s.get Boot.HELD = 0 →
    (∃ t, exec .powerOnReset s = .next t ∧ t.get Boot.HELD = 1 ∧ t.get Boot.POR = 1 ∧ t.get Boot.TRIGS = 1
      ∧ (∀ f : Fld, f.lo < 32 → f ∉ resetSets → keptKey true f.key = false → t.get f = f.rst % 2 ^ f.len)
      ∧ (∀ b : Nat, 0x200000 ≤ b → b < 0x600000 → t.byte b = 0) ∧ (∀ b : Nat, 0x600000 ≤ b → t.byte b = s.byte b)
      ∧ (∀ b : Nat, t.retByte b = s.retByte b) ∧ t.sent = s.sent ∧ t.pending = s.pending)
    ∧ (served s = true → keeperView s a = true →
      ∃ t, exec (.keeperSoftwareReset a) s = .next t ∧ WarmReset s t 5)
    ∧ (s.get Pwr.VDDC_DOM ≠ 0 → ∃ t, exec .vddcLoss s = .next t ∧ WarmReset s t 2)
    ∧ (s.get Boot.POR = 0 → s.get Pin.RST_LOW = 0 → s.get PINS_ERR.DRIVE = 0 →
      ∃ t, exec .rstNAssert s = .next t ∧ t.get Pin.RST_LOW = 1 ∧ t.get Pin.RST_USED = 1 ∧ WarmReset s t 3))
  ∧ (∀ (s : State),
    (s.get Boot.POR = 1 → ∃ t, exec .porRelease s = .next t ∧ t.get Boot.POR = 0 ∧ t.get Pin.RST_LOW = 0
      ∧ Frame (.fields [Boot.POR, Pin.RST_LOW, Pin.RST_USED, Pin.RST_COUNTED]) s t)
    ∧ (s.get Boot.HELD = 1 → s.get Boot.POR = 0 → ∃ t, exec .resetRelease s = .next t ∧ t.get Boot.HELD = 0
      ∧ t.get Boot.STEP = 0 ∧ Frame (.fields [Boot.HELD, Boot.STEP]) s t)
    ∧ (s.get Boot.POR = 1 → ∃ t, exec .resetRelease s = .next t ∧ Frame {} s t)
    ∧ (∃ t, exec .rstNQualifiedHigh s = .next t ∧ t.get Pin.RST_LOW = 0 ∧ t.get Pin.RST_USED = 0
      ∧ t.get Pin.RST_COUNTED = 0 ∧ Frame (.fields [Pin.RST_LOW, Pin.RST_USED, Pin.RST_COUNTED]) s t)
    ∧ (s.get Boot.POR = 0 → s.get Pin.RST_LOW = 0 → s.get PINS_ERR.DRIVE = 1 →
      ∃ t, exec .rstNAssert s = .next t ∧ t.get HIVE_BOOT_STAT.PIN_REFUSED = min 15 (s.get HIVE_BOOT_STAT.PIN_REFUSED + 1)
        ∧ t.get Boot.HELD = s.get Boot.HELD
        ∧ Frame (.any [.fields [Pin.RST_LOW, Pin.RST_USED, Pin.RST_COUNTED, HIVE_BOOT_STAT.PIN_REFUSED], raiseFp 0x00]) s t))

/-- R60, R66 to R68, R73: step 2 of START-UP serves the paths; steps 3 and 4 report DEADBAT and the primary CAUSE of the
reset and end with no trigger left; step 5 releases ERR_N and lets a held claim proceed; at the end of the claim window a
device in step 5 with no claim enters SAFE-BOOT, and one with a claim only marks the window; after 60 s of stable service the
attempt counter of the booted slot is 0. -/
def Obligations.StartUpSteps : Prop :=
  ∀ (s : State) (vaux vinMax vbusMax : Nat),
    s.get Boot.HELD = 0 →
    (s.get Boot.STEP = 1 → ∃ t, exec .hivePllLock s = .next t ∧ t.get Boot.STEP = 2 ∧ t.get Boot.PLL = 1 ∧ t.get Pin.HRDY = 1
      ∧ (s.get Pin.KEEPER_EN = 1 → t.get Ses.PIN = 1)
      ∧ Frame (.any [.fields [Boot.STEP, Boot.PLL, Pin.HRDY, Pin.INTN], sessionFp 0]) s t)
    ∧ (s.get Boot.STEP = 2 → ∃ t, exec (.imageSelect vaux vinMax vbusMax) s = .next t ∧ t.get Boot.STEP = 4
      ∧ t.get HIVE_BOOT_STAT.DEADBAT = bitOf (deadBattery vaux vinMax vbusMax) ∧ t.get Boot.TRIGS = 0
      ∧ t.get HIVE_MODE.MODE = s.get HIVE_MODE.MODE
      ∧ t.get HIVE_BOOT_STAT.CAUSE = ((causeOrder.find? (fun c => (triggers s).testBit (c - 1))).getD 1))
    ∧ (s.get Boot.STEP = 4 → s.get Boot.CLAIM = 0 → s.get HIVE_BOOT_STAT.DEADBAT = 0 → s.get Boot.WINDOW = 0 →
      s.get Pin.RST_LOW = 0 →
      ∃ t, exec .firstEvaluation s = .next t ∧ t.get Boot.STEP = 5 ∧ t.get Err.HOLD = 0
      ∧ Frame (.any [.fields [Boot.STEP, Err.HOLD], errFp]) s t)
    ∧ (s.get Boot.STEP = 4 → s.get Boot.CLAIM = 1 → s.get Pin.RST_LOW = 0 →
      ∃ t, exec .firstEvaluation s = .next t ∧ t.get Boot.STEP = 5 ∧ t.get Pin.CORE_EN = 1 ∧ t.get Boot.RELEASE = 1
      ∧ Frame (.any [.fields [Boot.STEP, Err.HOLD, Boot.CLAIM, Boot.RELEASE, Pwr.VDDC_OK, Pin.CORE_EN], errFp]) s t)
    ∧ (s.get Boot.WINDOW = 0 → ∃ t, exec .claimWindowEnd s = .next t ∧ t.get Boot.WINDOW = 1
      ∧ (s.get Boot.CLAIM = 0 → s.get Boot.STEP = 5 → s.get HIVE_MODE.MODE = 0 → t.get HIVE_MODE.MODE = 2)
      ∧ (s.get Boot.CLAIM ≠ 0 → Frame (.fields [Boot.WINDOW]) s t)
      ∧ Frame (.any [.fields [Boot.WINDOW], enterSafeFp]) s t)
    ∧ (s.get HIVE_MODE.MODE = 1 → 60000 ≤ s.get Boot.STABLEMS →
      ∃ t, exec .stableService s = .next t ∧ t.get Boot.STABLE = 1
      ∧ (s.get HIVE_BOOT_STAT.NOIMG = 0 → attempts t (s.get HIVE_BOOT_STAT.IMG) = 0)
      ∧ Frame { fld := fun id => id == Boot.STABLE.id, ret := fun a => decide (4 ≤ a) && decide (a < 8), ecc := fun w => w == retKey 0 } s t)

/-- R69, R72, R76 to R78: a claim through the host port in START-UP is held until step 5 or proceeds with CORE_EN, one in
SAFE-BOOT is a hand-over; the combs are released into FULL once VDDC stands; a failed VDDC check in SAFE-BOOT ends the
hand-over. The entry to hive-sleep begins by a Keeper-view command in FULL while no maintenance command runs, goes on step by
step while no command waits (the model's choice, log entry 15), is aborted by an enabled wake source before the domains are
gated, and sleep is left by the wake into FULL with the source recorded; the sleep timer registers as a wake source. -/
def Obligations.ClaimSleepAndWake : Prop :=
  (∀ (s : State) (a : Access),
    (served s = true → a.path = .host → s.get HIVE_MODE.MODE = 0 → s.get Boot.RELEASE = 0 → s.get Boot.WINDOW = 0 →
      ∃ t, exec (.claim a) s = .next t
        ∧ (s.get Boot.STEP = 5 → t.get Boot.CLAIM = 1 ∧ t.get Boot.RELEASE = 1 ∧ t.get Pin.CORE_EN = 1)
        ∧ (s.get Boot.STEP ≠ 5 → t.get Boot.CLAIM = 1 ∧ t.get Pin.CORE_EN = s.get Pin.CORE_EN)
        ∧ Frame (.any [.fields [Boot.CLAIM, Boot.RELEASE, Pwr.VDDC_OK, Pin.CORE_EN], accessFp a 0x00]) s t)
    ∧ (served s = true → a.path = .host → s.get HIVE_MODE.MODE = 2 → s.get Boot.RELEASE = 0 →
      ∃ t, exec (.claim a) s = .next t ∧ t.get Boot.CLAIM = 2 ∧ t.get Boot.RELEASE = 1 ∧ t.get Pin.CORE_EN = 1
        ∧ t.get HIVE_MODE.MODE = 2
        ∧ Frame (.any [.fields [Boot.CLAIM, Boot.RELEASE, Pwr.VDDC_OK, Pin.CORE_EN, HIVE_BOOT_STAT.LATE_CLAIM], accessFp a 0x00]) s t)
    ∧ (s.get Boot.RELEASE = 1 → s.get Pwr.VDDC_OK = 1 →
      ∃ t, exec .combRelease s = .next t ∧ t.get HIVE_MODE.MODE = 1 ∧ t.get HIVE_BOOT_STAT.CLAIMED = 1 ∧ t.get Boot.RELEASE = 0
        ∧ t.get Boot.CLAIM = 0 ∧ t.get Wdg.HOSTNEXT = 1 ∧ Frame combReleaseFp s t)
    ∧ (s.get Sleep.STATE = 0 → s.get Boot.RELEASE = 1 → s.get Pwr.VDDC_OK = 0 →
      ∃ t, exec .coreFail s = .next t ∧ t.get Pin.CORE_EN = 0 ∧ t.get HIVE_BOOT_STAT.CORE_FAIL = 1
        ∧ (s.get HIVE_MODE.MODE = 2 → t.get HIVE_MODE.MODE = 2 ∧ t.get Boot.CLAIM = 0 ∧ t.get Boot.RELEASE = 0
          ∧ Frame (.any [.fields [Pin.CORE_EN, HIVE_BOOT_STAT.CORE_FAIL, Boot.RELEASE, Boot.CLAIM], raiseFp 0x02]) s t)))
  ∧ (∀ (s : State) (a : Access) (src : Fin 12) (lost : Bool),
    (served s = true → keeperView s a = true → s.get HIVE_MODE.MODE = 1 → s.get MAINT_STAT.BUSY = 0 → s.get Sleep.STATE = 0 →
      ∃ t, exec (.hiveSleep a) s = .next t ∧ t.get Sleep.STATE = 1 ∧ t.get Sleep.STEP = 1 ∧ t.get HIVE_MODE.MODE = 1
        ∧ t.get Pin.HRDY = s.get Pin.HRDY ∧ (∀ p : Fin 16, t.slots[p] = [] ∧ t.get (PH_STAT.STATE p) ≠ 1)
        ∧ (∀ c : Fin 4, t.antq[c] = []) ∧ Frame (.any [sleepFp s, accessFp a 0x00]) s t)
    ∧ (s.get Boot.POR = 0 → s.get Sleep.STATE = 1 → s.get Sleep.STEP = 3 → s.get Sleep.PEND = 0 →
      ∃ t, step (s.withPending []) = .next t ∧ t.get Sleep.STEP = 4 ∧ t.get Sleep.STATE = 1 ∧ t.get Pin.HRDY = 0
        ∧ t.get Pin.INTN = 0 ∧ (∀ i : Fin 4, t.jobs[i] = none) ∧ (∀ i : Fin 2, t.canq[i] = [])
        ∧ Frame sleepStopFp (s.withPending []) t)
    ∧ (s.get Boot.POR = 0 → s.get Sleep.STATE = 1 → s.get Sleep.STEP = 4 → s.get Sleep.PEND = 0 →
      ∃ t, step (s.withPending []) = .next t ∧ t.get Sleep.STATE = 2 ∧ t.get Pin.CORE_EN = 0 ∧ t.get Pwr.VDDC_DOM = 0
        ∧ t.get Sleep.ERR = s.get PINS_ERR.DRIVE ∧ (∀ m : Fin 8, t.get (Pin.PAT m) = 0))
    ∧ (s.get Sleep.STATE = 1 → wakeEnabled s src = true →
      ∃ t, exec (.sleepAbort src) s = .next t ∧ t.get Sleep.STATE = 0 ∧ t.get Sleep.STEP = 0
        ∧ (s.get Sleep.STEP = 4 → t.get Pin.HRDY = 1) ∧ (s.get Sleep.STEP ≠ 4 → t.get Pin.HRDY = s.get Pin.HRDY)
        ∧ (t.get HIVE_WAKE.SRC).testBit src = true ∧ t.get Sleep.PEND = 0 ∧ Frame sleepLeftFp s t)
    ∧ (s.get Sleep.STATE = 1 ∨ s.get Sleep.STATE = 2 → s.get HIVE_SLEEP_TMR.DURATION ≠ 0 →
      (s.get HIVE_WAKE.EN).testBit 1 = true →
      ∃ t, exec .sleepTimerExpiry s = .next t ∧ (t.get Sleep.PEND).testBit 1 = true ∧ Frame (.fields [Sleep.PEND]) s t)
    ∧ (s.get Sleep.STATE = 1 → wakeEnabled s src = true →
      ∃ t, exec (.wake src lost) s = .next t ∧ (t.get Sleep.PEND).testBit src = true ∧ t.get Sleep.STATE = 1
        ∧ Frame (.fields [Sleep.PEND]) s t)
    ∧ (s.get Sleep.STATE = 2 → wakeEnabled s src = true → s.get Pin.RST_LOW = 0 →
      ∃ t, exec (.wake src lost) s = .next t ∧ t.get Sleep.STATE = 0 ∧ t.get Pin.CORE_EN = 1 ∧ t.get Pwr.VDDC_DOM = 31
        ∧ (t.get HIVE_WAKE.SRC).testBit src = true ∧ t.get Sleep.PEND = 0 ∧ Frame wakeFp s t))

/-- R384 to R390: a cause injected in the Keeper view, or two of one class on one edge, is recorded, counted as one fault and
put in force at its class (one class up where that class is active and unacknowledged); a page that is not allocated refuses;
an acknowledgement sets ACKED and stops the reaction timer of exactly the active classes written 1; an expired reaction timer
puts the class action in force; a quiet period that ends clears the class. R398, R399: a lamp that has sunk too much is
released, marked and reported; a second later it is driven again. -/
def Obligations.FaultReactionAndLamps : Prop :=
  (∀ (s : State) (a : Access) (page : BitVec 8) (w : BitVec 32) (i k : Fin 16) (cls : Fin 4),
    (served s = true → keeperView s a = true → s.get (PAGE_LOCK.CFG page.toNat) = 0 → s.get (PAGE_LOCK.INJ page.toNat) = 0 →
      causeClass page.toNat i ≠ none → causeClass page.toNat k = causeClass page.toNat i → muted s page.toNat = false →
      ∃ t, exec (.faultInject a page (BitVec.ofNat 32 (65536 <<< i.val ||| 65536 <<< k.val))) s = .next t
        ∧ (t.get (PAGE_FLT_STAT.CAUSE page.toNat)).testBit i = true ∧ (t.get (PAGE_FLT_STAT.CAUSE page.toNat)).testBit k = true
        ∧ (t.get (PAGE_IRQ_STAT.EVT page.toNat)).testBit 15 = (evtAssigned page.toNat).testBit 15
        ∧ t.get (PAGE_FLT_CNT.FAULTS page.toNat) = min (2 ^ (PAGE_FLT_CNT.FAULTS page.toNat).len - 1)
            (s.get (PAGE_FLT_CNT.FAULTS page.toNat) + 1)
        ∧ classActive t page.toNat (raiseClass s { page := page.toNat, bit := i, cls := (causeClass page.toNat i).getD 1 })
            = true
        ∧ Frame (.any [raiseFp page.toNat, injectFp page.toNat, .fields [PAGE_FLT_INJ.CAUSE page.toNat], accessFp a page.toNat]) s t)
    ∧ (served s = true → keeperView s a = true → s.get (PAGE_LOCK.CFG page.toNat) = 0 → s.get (PAGE_LOCK.INJ page.toNat) = 0 →
      pageKind page.toNat ≠ none → muted s page.toNat = false →
      ∃ t, exec (.faultInject a page w) s = .next t ∧ t.get (PAGE_FLT_INJ.CAUSE page.toNat) = w.toNat / 65536
        ∧ (∀ j : Fin 16, w.getLsbD (16 + j) = true → causeClass page.toNat j ≠ none →
            (t.get (PAGE_FLT_STAT.CAUSE page.toNat)).testBit j = true
              ∧ classActive t page.toNat (raiseClass s { page := page.toNat, bit := j, cls := (causeClass page.toNat j).getD 1 })
                = true)
        ∧ Frame (.any [raiseFp page.toNat, injectFp page.toNat, .fields [PAGE_FLT_INJ.CAUSE page.toNat], accessFp a page.toNat]) s t)
    ∧ (served s = true → keeperView s a = true → s.get (PAGE_LOCK.CFG page.toNat) = 0 → s.get (PAGE_LOCK.INJ page.toNat) = 0 →
      pageKind page.toNat ≠ none → (∀ j : Fin 16, w.getLsbD (16 + j) = true → causeClass page.toNat j = none) →
      ∃ t, exec (.faultInject a page w) s = .next t ∧ t.get (PAGE_FLT_INJ.CAUSE page.toNat) = w.toNat / 65536
        ∧ Frame (.any [.fields [PAGE_FLT_INJ.CAUSE page.toNat], accessFp a page.toNat]) s t)
    ∧ (served s = true → pageKind page.toNat = none →
      (∃ t, exec (.faultAck a page w) s = .next t ∧ t.get (Last.CODE (pathNum a.path)) = 4 ∧ Frame (accessFp a 0x00) s t)
      ∧ (∃ t, exec (.faultInject a page w) s = .next t ∧ t.get (Last.CODE (pathNum a.path)) = 4 ∧ Frame (accessFp a 0x00) s t))
    ∧ (∀ n : Fin 4, served s = true → keeperView s a = true → pageKind page.toNat ≠ none → w.getLsbD n = true →
        classActive s page.toNat (n + 1) = true →
      ∃ t, exec (.faultAck a page w) s = .next t
        ∧ (t.get (PAGE_FLT_STAT.ACKED page.toNat)).testBit n = true ∧ (t.get (Flt.TIMER page.toNat)).testBit n = false
        ∧ (t.get (Flt.UNACK page.toNat)).testBit n = false ∧ t.get (Last.CODE (pathNum a.path)) = 0
        ∧ Frame (.any [.fields [PAGE_FLT_STAT.ACKED page.toNat, Flt.TIMER page.toNat, Flt.UNACK page.toNat], logFp,
            accessFp a page.toNat]) s t)
    ∧ (served s = true → keeperView s a = true → pageKind page.toNat ≠ none →
      ∃ t, exec (.faultAck a page w) s = .next t
        ∧ (∀ n : Fin 4, w.getLsbD n = true → classActive s page.toNat (n + 1) = true →
            (t.get (PAGE_FLT_STAT.ACKED page.toNat)).testBit n = true ∧ (t.get (Flt.TIMER page.toNat)).testBit n = false
              ∧ (t.get (Flt.UNACK page.toNat)).testBit n = false)
        ∧ (∀ n : Fin 4, (w.getLsbD n = false ∨ classActive s page.toNat (n + 1) = false) →
            (t.get (PAGE_FLT_STAT.ACKED page.toNat)).testBit n = (s.get (PAGE_FLT_STAT.ACKED page.toNat)).testBit n
              ∧ (t.get (Flt.TIMER page.toNat)).testBit n = (s.get (Flt.TIMER page.toNat)).testBit n)
        ∧ Frame (.any [.fields [PAGE_FLT_STAT.ACKED page.toNat, Flt.TIMER page.toNat, Flt.UNACK page.toNat], logFp,
            accessFp a page.toNat]) s t)
    ∧ (s.bit (Flt.TIMER page.toNat) cls = true →
      ∃ t, exec (.reactionTimer page cls) s = .next t ∧ (t.get (Flt.TIMER page.toNat)).testBit cls = false
        ∧ classActed t page.toNat (cls + 1) = true
        ∧ Frame (.any [classFp page.toNat, logFp, actionFp page.toNat]) s t)
    ∧ (s.bit (Flt.TIMER page.toNat) cls = false → ∃ t, exec (.reactionTimer page cls) s = .next t ∧ Frame {} s t)
    ∧ (s.get Pin.RST_LOW = 0 → s.bit (Flt.QUIET page.toNat) cls = true → classActive s page.toNat (cls + 1) = true →
      ∃ t, exec (.quietPeriodEnd page cls) s = .next t
        ∧ classActive t page.toNat (cls + 1) = false ∧ classActed t page.toNat (cls + 1) = false
        ∧ (t.get (PAGE_FLT_STAT.ACKED page.toNat)).testBit cls = false
        ∧ (∀ j : Fin 16, s.get (Flt.STAND page.toNat j) = cls + 1 →
            (t.get (PAGE_FLT_STAT.CAUSE page.toNat)).testBit j = false)
        ∧ Frame (.any [classFp page.toNat, logFp, errFp, withdrawFp page.toNat]) s t))
  ∧ (∀ (s : State) (m : Fin 8),
    (∃ t, exec (.lampOc m) s = .next t ∧ t.get (Pin.LAMP m) = 1 ∧ (t.get PINS_LAMP_STAT.OC).testBit m = true
      ∧ (t.get (PAGE_IRQ_STAT.EVT 0x0C)).testBit 2 = true
      ∧ Frame (.any [.fields [Pin.LAMP m, PINS_LAMP_STAT.OC], raiseFp 0x0C]) s t)
    ∧ (∃ t, exec (.lampOcReleaseEnd m) s = .next t ∧ t.get (Pin.LAMP m) = 0 ∧ Frame (.fields [Pin.LAMP m]) s t))

/-- R123, R124, R126, R128, R131: a slot write goes into the free slot and sets the next INDEX expected; the issue decision
issues a matching entry, clipped to the coming period, discards one that is behind; a squash clears both slots; a new ANGLE
starts a walk while the timebase runs. R120 to R122, R124, R130, R135: a period start advances the period counter, modulo
256, and moves the offset as the walk or ANGLE asks; an issued entry runs and puts the phase in RUN, an underrun is counted
and holds it, and the end of RUN holds it once the issued period is over. R125, R127: in an issued period the first switch of
a leg is on up to T1 and the second from T1 + D1 to T1 + D1 + T2, a turn-on delayed as the interlock asks. -/
def Obligations.PhaseStagingIssueAndPeriodStart : Prop :=
  (∀ (s : State) (a : Access) (p : Fin 16) (e : Timing) (w : BitVec 32),
    (phHeld s p = false → s.flag (PH_CTL.RUN p) = true → s.slots[p].length < 2 → held145 s p e = false →
      (s.get (Ph.SEQANY p) = 1 ∨ s.get (PH_STAT.NEXT_IDX p) = e.index.toNat) →
      ∃ t, exec (.slotWrite p e) s = .next t ∧ t.slots[p] = s.slots[p] ++ [e]
        ∧ t.get (PH_STAT.SLOTS p) = 2 ^ (s.slots[p].length + 1) - 1
        ∧ t.get (PH_STAT.NEXT_IDX p) = (e.index.toNat + 1) % 256 ∧ t.get (Ph.SEQANY p) = 0
        ∧ t.get (Ph.FIRST p) = s.get (Ph.FIRST p) - 1
        ∧ (degraded s p = false → t.window[p] = restage s.window[p] e.index 0 1)
        ∧ (degraded s p = true → t.window[p] = s.window[p])
        ∧ Frame (.any [.fields [PH_STAT.SLOTS p, PH_STAT.NEXT_IDX p, Ph.SEQANY p, Ph.FIRST p], .parts [.slots p, .window p]]) s t)
    ∧ (phHeld s p = false → s.flag (PH_CTL.RUN p) = true → held145 s p e = false →
      (2 ≤ s.slots[p].length ∨ (s.get (Ph.SEQANY p) = 0 ∧ s.get (PH_STAT.NEXT_IDX p) ≠ e.index.toNat)) →
      ∃ t, exec (.slotWrite p e) s = .next t ∧ t.slots[p] = s.slots[p]
        ∧ t.get (PH_CNT0.STALE p) = min 65535 (s.get (PH_CNT0.STALE p) + 1)
        ∧ (t.get (PAGE_IRQ_STAT.EVT (0x20 + p))).testBit 3 = true
        ∧ t.get (PH_STAT.NEXT_IDX p) = s.get (PH_STAT.NEXT_IDX p)
        ∧ (∀ x ∈ t.window[p], x.t.index ≠ e.index ∨ x.stage ≠ 0 ∨ degraded s p = true)
        ∧ Frame (.any [.fields [PH_CNT0.STALE p], .parts [.window p], raiseFp (0x20 + p)]) s t)
    ∧ (decides s p = true → BitVec.ofNat 8 (s.get (Ph.PERCNT p) + 1) = e.index → s.slots[p].head? = some e →
        ∃ t, exec (.issueDecision p) s = .next t ∧ t.slots[p] = s.slots[p].tail
          ∧ t.coming[p] = some (executed s p (comingLength s p) e)
          ∧ t.get (PH_STAT.ISSUED_IDX p) = e.index.toNat ∧ t.get (Ph.NEXT p) = 1
          ∧ t.window[p] = restage s.window[p] e.index 1 2 ∧ t.exec[p] = s.exec[p]
          ∧ Frame (.any [.fields [PH_STAT.SLOTS p, PH_STAT.ISSUED_IDX p, PH_CNT1.CLIPPED p, PAGE_IRQ_STAT.EVT (0x20 + p),
              Ph.RESTART p, Ph.NEXT p], .parts [.slots p, .window p, .coming p]]) s t)
    ∧ (decides s p = true → s.slots[p].head? = some e → 1 ≤ (BitVec.ofNat 8 (s.get (Ph.PERCNT p) + 1) - e.index).toNat →
      (BitVec.ofNat 8 (s.get (Ph.PERCNT p) + 1) - e.index).toNat ≤ 127 →
        ∃ t, exec (.issueDecision p) s = .next t ∧ t.slots[p] = s.slots[p].tail ∧ t.get (Ph.NEXT p) = 2
          ∧ t.get (PH_CNT0.STALE p) = min 65535 (s.get (PH_CNT0.STALE p) + 1)
          ∧ Frame (.any [.fields [PH_STAT.SLOTS p, PH_CNT0.STALE p, PAGE_IRQ_STAT.EVT (0x20 + p), Ph.NEXT p],
              .parts [.slots p, .window p]]) s t)
    ∧ (decides s p = true → s.slots[p] = [] →
      ∃ t, exec (.issueDecision p) s = .next t ∧ t.get (Ph.NEXT p) = 2 ∧ Frame (.fields [Ph.NEXT p]) s t)
    ∧ (decides s p = false →
      ∃ t, exec (.issueDecision p) s = .next t ∧ t.get (Ph.NEXT p) = 0 ∧ Frame (.fields [Ph.NEXT p]) s t)
    ∧ (∃ t, exec (.squash p) s = .next t ∧ t.slots[p] = [] ∧ t.get (PH_STAT.SLOTS p) = 0 ∧ t.get (Ph.SEQANY p) = 1
        ∧ t.exec[p] = s.exec[p] ∧ Frame (.any [.fields [PH_STAT.SLOTS p, Ph.SEQANY p], .parts [.slots p]]) s t)
    ∧ (served s = true → keeperView s a = true → s.get (PAGE_LOCK.CFG (0x20 + p)) = 0 →
      ∃ t, exec (.walk a p w) s = .next t ∧ t.get (PH_ILV.ANGLE p) = w.toNat % 256
        ∧ (s.get (PH_STAT.STATE p) ≠ 0 → t.get (PH_STAT.WALKING p) = bitOf (s.get (Ph.OFS p) != phTarget t p))
        ∧ t.get (Ph.OFS p) = s.get (Ph.OFS p)
        ∧ Frame (.any [.fields [PH_ILV.ANGLE p, PH_STAT.WALKING p], accessFp a (0x20 + p)]) s t))
  ∧ (∀ (s : State) (p : Fin 16) (e : Timing) (x : Nat),
    (s.get (PH_STAT.STATE p) ≠ 0 → phClockLost s p = false →
      ∃ t, exec (.periodStart p) s = .next t
        ∧ t.get (Ph.PERCNT p) = (s.get (Ph.PERCNT p) + 1) % 256
        ∧ t.get (Ph.OFS p) = (comingStep s p).1 % 131072 ∧ t.get (Ph.LEN p) = (comingStep s p).2 % 262144
        ∧ t.get (PH_STAT.CBC_NOW p) = 0 ∧ t.get (Ph.CUT p) = 0 ∧ t.get (Ph.NEXT p) = 0
        ∧ Frame (.any [.fields [Ph.PERCNT p, Ph.OFS p, Ph.LEN p, Ph.EDGE p, Ph.SPWAIT p, Ph.CONT p, Ph.DINT p, Ph.DOUT p,
            PH_STAT.WALKING p, PH_CNT0.UNDER p, Ph.LOCK p 0, Ph.LOCK p 2], holdFp p]) s t)
    ∧ (s.get (PH_STAT.STATE p) ≠ 0 → s.get (Ph.NEXT p) = 1 → phForced s p = false →
      ∃ t, exec (.periodStart p) s = .next t ∧ t.get (PH_STAT.STATE p) = 1 ∧ t.get (PH_STAT.HOLD_CAUSE p) = 0
        ∧ t.exec[p] = s.coming[p] ∧ t.coming[p] = none ∧ t.window[p] = s.window[p] ∧ t.get (Ph.UNDER_RUN p) = 0
        ∧ t.get (Ph.ENDRUN p) = s.get (Ph.ENDRUN p))
    ∧ (s.get (PH_STAT.STATE p) ≠ 0 → s.get (Ph.NEXT p) = 2 → s.get (Ph.ENDRUN p) = 0 → s.get (PH_CTL.RUN p) = 1 →
      phHeld s p = false →
      ∃ t, exec (.periodStart p) s = .next t ∧ t.get (PH_CNT0.UNDER p) = min 65535 (s.get (PH_CNT0.UNDER p) + 1)
        ∧ t.get (PH_STAT.STATE p) ≠ 1 ∧ t.get (Ph.UNDER_RUN p) = min 64 (s.get (Ph.UNDER_RUN p) + 1)
        ∧ (t.get (PAGE_IRQ_STAT.EVT (0x20 + p))).testBit 1 = true)
    ∧ (s.get (PH_STAT.STATE p) ≠ 0 → phClockLost s p = false → s.get (Ph.ENDRUN p) = 1 → s.get (Ph.NEXT p) ≠ 1 →
      ∃ t, exec (.periodStart p) s = .next t ∧ t.get (PH_STAT.STATE p) ≠ 1 ∧ t.get (Ph.ENDRUN p) = 0 ∧ t.get (Ph.UNDER_RUN p) = 0)
    ∧ ((s.get (PH_STAT.STATE p) = 0 ∨ phClockLost s p = true) → degraded s p = false →
      ∃ t, exec (.periodStart p) s = .next t ∧ Frame {} s t)
    ∧ (s.get (PH_STAT.STATE p) = 1 → s.exec[p] = some e → e.ordA = false →
      (gatesAt s p x).testBit 0 = (decide (s.get (Ph.LOCK p 0) ≤ x) && decide (x < e.tAH))
      ∧ (gatesAt s p x).testBit 1 = (decide (max (e.tAH + max 8 (s.get (PH_DT.DT_HL p))) (s.get (Ph.LOCK p 1)) ≤ x)
        && decide (x < e.tAH + max 8 (s.get (PH_DT.DT_HL p)) + e.tAL)))
    ∧ (s.get (PH_STAT.STATE p) = 1 → s.exec[p] = some e → e.ordA = true →
      (gatesAt s p x).testBit 1 = (decide (s.get (Ph.LOCK p 1) ≤ x) && decide (x < e.tAL))
      ∧ (gatesAt s p x).testBit 0 = (decide (max (e.tAL + max 8 (s.get (PH_DT.DT_LH p))) (s.get (Ph.LOCK p 0)) ≤ x)
        && decide (x < e.tAL + max 8 (s.get (PH_DT.DT_LH p)) + e.tAH)))
    ∧ (s.get (PH_STAT.STATE p) = 1 → s.exec[p] = some e → e.ordB = false →
      (gatesAt s p x).testBit 2 = (decide (s.get (Ph.LOCK p 2) ≤ x) && decide (x < e.tBH))
      ∧ (gatesAt s p x).testBit 3 = (decide (max (e.tBH + max 8 (s.get (PH_DT.DT_HL p))) (s.get (Ph.LOCK p 3)) ≤ x)
        && decide (x < e.tBH + max 8 (s.get (PH_DT.DT_HL p)) + e.tBL)))
    ∧ (s.get (PH_STAT.STATE p) = 1 → s.exec[p] = some e → e.ordB = true →
      (gatesAt s p x).testBit 3 = (decide (s.get (Ph.LOCK p 3) ≤ x) && decide (x < e.tBL))
      ∧ (gatesAt s p x).testBit 2 = (decide (max (e.tBL + max 8 (s.get (PH_DT.DT_LH p))) (s.get (Ph.LOCK p 2)) ≤ x)
        && decide (x < e.tBL + max 8 (s.get (PH_DT.DT_LH p)) + e.tBH))))

/-- R129, R130, R131, R134: a gate-driver input asserted holds the phase with all outputs off and marks the input, and its
end clears the mark and leaves the state; a completed decay and FW_TIMEOUT leave the freewheel state; RUN written 1 takes the
phase out of IDLE with its period as written, RUN written 0 clears the slots and lets a running period end. -/
def Obligations.PhaseHoldCommands : Prop :=
  ∀ (s : State) (a : Access) (p : Fin 16) (duv : Bool) (w : BitVec 32),
    (absent s (0x20 + p) = false → phClockLost s p = false →
      (∃ t, exec (.dsat p) s = .next t ∧ (t.get (Ph.GD p)).testBit 0 = true ∧ t.get (PH_STAT.STATE p) ≠ 1
        ∧ t.get (PH_STAT.STATE p) ≠ 2 ∧ Frame (.any [.fields [Ph.GD p], raiseFp (0x20 + p)]) s t)
      ∧ (∃ t, exec (.duv p) s = .next t ∧ (t.get (Ph.GD p)).testBit 1 = true ∧ t.get (PH_STAT.STATE p) ≠ 1
        ∧ t.get (PH_STAT.STATE p) ≠ 2 ∧ Frame (.any [.fields [Ph.GD p], raiseFp (0x20 + p)]) s t))
    ∧ (phClockLost s p = false → s.bit (Ph.GD p) (bitOf duv) = true →
      ∃ t, exec (.gateDriverInputHigh p duv) s = .next t ∧ (t.get (Ph.GD p)).testBit (bitOf duv) = false
        ∧ t.get (PH_STAT.STATE p) = s.get (PH_STAT.STATE p)
        ∧ Frame (.any [.fields [Ph.GD p, PH_STAT.HOLD_CAUSE p], endFp (0x20 + p)]) s t)
    ∧ (s.get (PH_STAT.STATE p) = 2 → phClockLost s p = false →
      (∃ t, exec (.decayComplete p) s = .next t ∧ t.get (Ph.GATES p) = 0 ∧ t.get (PH_STAT.STATE p) ≠ 2
        ∧ Frame (.any [.fields [Ph.GATES p, PH_STAT.STATE p], runsFp p]) s t)
      ∧ (absent s (0x20 + p) = false → s.get Sleep.STATE = 0 →
          ∃ t, exec (.fwTimeout p) s = .next t ∧ t.get (Ph.GATES p) = 0 ∧ t.get (PH_STAT.STATE p) ≠ 2
            ∧ t.get (Ph.FWT p) = 1 ∧ (t.get (PAGE_FLT_STAT.CAUSE (0x20 + p))).testBit 3 = true
            ∧ Frame (raiseFp (0x20 + p)) s t))
    ∧ (served s = true → keeperView s a = true → s.get (PAGE_LOCK.CFG (0x20 + p)) = 0 →
      (w.getLsbD 0 = true → s.get (PH_CTL.RUN p) = 0 →
        ∃ t, exec (.runSet a p w) s = .next t ∧ t.get (PH_CTL.RUN p) = 1 ∧ t.get (Ph.RESTART p) = 1 ∧ t.get (Ph.ENDRUN p) = 0
          ∧ t.get (PH_STAT.STATE p) ≠ 0
          ∧ (s.get (PH_STAT.STATE p) = 0 → t.get (PH_STAT.STATE p) = 3 ∧ t.get (Ph.PER p) = s.get (PH_TB_PER.PER p)
              ∧ t.get (PH_STAT.PER_PENDING p) = 0)
          ∧ Frame (.any [.fields [PH_CTL.RUN p, PH_CTL.HOLD p, PH_CTL.SYNC p, PH_CTL.SPEN p, Ph.RESTART p, Ph.SEQANY p, Ph.ENDRUN p,
              PH_STAT.PER_PENDING p, PH_STAT.STATE p, PH_STAT.HOLD_CAUSE p, PH_STAT.WALKING p, Ph.PER p, Ph.OFS p,
              Ph.FIRST p, Ph.CP_OK p, Ph.EDGE p, PAGE_IRQ_STAT.EVT (0x20 + p)], accessFp a (0x20 + p)]) s t)
      ∧ (w.getLsbD 0 = false → s.get (PH_CTL.RUN p) = 1 →
        ∃ t, exec (.runCleared a p w) s = .next t ∧ t.get (PH_CTL.RUN p) = 0 ∧ t.slots[p] = []
          ∧ (s.get (PH_STAT.STATE p) = 1 → t.get (PH_STAT.STATE p) = 1 ∧ t.get (Ph.ENDRUN p) = 1)
          ∧ (s.get (PH_STAT.STATE p) ≠ 0 → s.get (Ph.NEXT p) = 1 →
              t.get (PH_STAT.STATE p) = s.get (PH_STAT.STATE p) ∧ t.get (Ph.NEXT p) = 1 ∧ t.get (Ph.ENDRUN p) = 1)
          ∧ (s.get (PH_STAT.STATE p) = 3 → s.get (Ph.NEXT p) ≠ 1 → t.get (PH_STAT.STATE p) = 0)
          ∧ Frame (.any [.fields [PH_CTL.RUN p, PH_CTL.HOLD p, PH_CTL.SYNC p, PH_CTL.SPEN p, PH_STAT.SLOTS p, Ph.SEQANY p,
              PH_STAT.STATE p, PH_STAT.HOLD_CAUSE p, Ph.ENDRUN p, Ph.GATES p], runsFp p, .parts [.slots p], squashFp (p / 4),
              accessFp a (0x20 + p)]) s t))

/-- R132, R133, R135, R136, R137, R140: the cycle-by-cycle limit, the sense converter, and the three causes that a run of
periods raises. -/
def Obligations.PhaseLimitAndSense : Prop :=
  ∀ (s : State) (p : Fin 16) (neg : Bool) (tm : Nat) (sp : Fin 4) (raw : BitVec 12),
    (s.get (PH_STAT.STATE p) = 1 → phForced s p = false → blanked s p neg tm = false →
      ∃ t, exec (.cbc p neg tm) s = .next t
        ∧ (t.get (Ph.CUT p)).testBit (bitOf neg) = true ∧ t.exec[p] = s.exec[p].map (cutEntry s p neg tm)
        ∧ t.coming[p] = s.coming[p]
        ∧ (s.get (Ph.CUT p) ≠ 0 → t.get (PH_CNT1.CBC p) = s.get (PH_CNT1.CBC p))
        ∧ Frame (.any [.fields [Ph.CUT p, PH_CNT1.CBC p, PH_STAT.CBC_NOW p, Ph.CBC_RUN p, PAGE_IRQ_STAT.EVT (0x20 + p)],
            .parts [.exec p]]) s t)
    ∧ (s.get (PH_STAT.STATE p) = 1 → phForced s p = false → blanked s p neg tm = false → s.get (Ph.CUT p) = 0 →
      ∃ t, exec (.cbc p neg tm) s = .next t ∧ t.get (PH_CNT1.CBC p) = min 65535 (s.get (PH_CNT1.CBC p) + 1)
        ∧ t.get (PH_STAT.CBC_NOW p) = 1 ∧ t.get (Ph.CBC_RUN p) = min 256 (s.get (Ph.CBC_RUN p) + 1)
        ∧ (t.get (PAGE_IRQ_STAT.EVT (0x20 + p))).testBit 2 = true)
    ∧ ((s.get (PH_STAT.STATE p) ≠ 1 ∨ phForced s p = true ∨ blanked s p neg tm = true) →
      ∃ t, exec (.cbc p neg tm) s = .next t ∧ t = s)
    ∧ (max 1 (s.get (PH_CBC.PERSIST p)) ≤ s.get (Ph.CBC_RUN p) → s.get (Ph.CBC_SAID p) = 0 → muted s (0x20 + p) = false →
      s.bit (Flt.PRESENT (0x20 + p)) 4 = false →
      ∃ t, exec (.cbcPersist p) s = .next t ∧ t.get (Ph.CBC_SAID p) = 1
        ∧ (t.get (PAGE_FLT_STAT.CAUSE (0x20 + p))).testBit 4 = true ∧ (t.get (Flt.PRESENT (0x20 + p))).testBit 4 = true
        ∧ Frame (.any [.fields [Ph.CBC_SAID p], raiseFp (0x20 + p)]) s t)
    ∧ ((s.get (Ph.CBC_RUN p) < max 1 (s.get (PH_CBC.PERSIST p)) ∨ s.get (Ph.CBC_SAID p) = 1) →
      ∃ t, exec (.cbcPersist p) s = .next t ∧ t = s)
    ∧ (s.get (Ph.SAT_RUN p) = 8 → s.get (Ph.SAT_SAID p) = 0 → muted s (0x20 + p) = false →
      s.bit (Flt.PRESENT (0x20 + p)) 6 = false →
      ∃ t, exec (.snsSat p) s = .next t ∧ t.get (Ph.SAT_SAID p) = 1
        ∧ (t.get (PAGE_FLT_STAT.CAUSE (0x20 + p))).testBit 6 = true ∧ (t.get (Flt.PRESENT (0x20 + p))).testBit 6 = true
        ∧ Frame (.any [.fields [Ph.SAT_SAID p], raiseFp (0x20 + p)]) s t)
    ∧ ((s.get (Ph.SAT_RUN p) ≠ 8 ∨ s.get (Ph.SAT_SAID p) = 1) → ∃ t, exec (.snsSat p) s = .next t ∧ t = s)
    ∧ (s.get (Ph.UNDER_RUN p) = 64 → s.get (PH_CTL.RUN p) = 1 → s.get (Ph.STARVED p) = 0 → muted s (0x20 + p) = false →
      s.bit (Flt.PRESENT (0x20 + p)) 5 = false →
      ∃ t, exec (.planStarved p) s = .next t ∧ t.get (Ph.STARVED p) = 1
        ∧ (t.get (PAGE_FLT_STAT.CAUSE (0x20 + p))).testBit 5 = true ∧ (t.get (Flt.PRESENT (0x20 + p))).testBit 5 = true
        ∧ Frame (.any [.fields [Ph.STARVED p], raiseFp (0x20 + p)]) s t)
    ∧ ((s.get (Ph.UNDER_RUN p) ≠ 64 ∨ s.get (PH_CTL.RUN p) = 0 ∨ s.get (Ph.STARVED p) = 1) →
      ∃ t, exec (.planStarved p) s = .next t ∧ t = s)
    ∧ (spTakes s p sp = true → phClockLost s p = false → sp = 0 →
      ∃ t, exec (.samplePoint p sp raw) s = .next t
        ∧ t.get (PH_ISNS_EOP.VALUE p) = ofSigned 29 ((raw.toInt + s.int (PH_SNS_CAL.OFS p)) * s.get (PH_SNS_CAL.GAIN p))
        ∧ t.get (PH_ISNS_EOP.CLIP p) = bitOf (raw.toInt == -2048 || raw.toInt == 2047)
        ∧ (phClipped raw = true → t.get (Ph.SAT_RUN p) = min 8 (s.get (Ph.SAT_RUN p) + 1))
        ∧ (phClipped raw = false → t.get (Ph.SAT_RUN p) = 0)
        ∧ Frame (.any [.fields [PH_ISNS_EOP.VALUE p, PH_ISNS_EOP.CLIP p, Ph.SAT_RUN p, Ph.SAT_SAID p, Ph.SPV p sp, Ph.SPC p sp,
            PAGE_IRQ_STAT.EVT (0x20 + p)], endFp (0x20 + p), accDeliverFp s (256 + 4 * p.val + sp.val)]) s t)
    ∧ (spTakes s p sp = true → phClockLost s p = false → sp ≠ 0 →
      ∃ t, exec (.samplePoint p sp raw) s = .next t
        ∧ t.get (Ph.SPV p sp) = ofSigned 29 (phCorrect s p raw) ∧ t.get (PH_ISNS_EOP.VALUE p) = s.get (PH_ISNS_EOP.VALUE p)
        ∧ Frame (.any [.fields [PH_ISNS_EOP.VALUE p, PH_ISNS_EOP.CLIP p, Ph.SAT_RUN p, Ph.SAT_SAID p, Ph.SPV p sp, Ph.SPC p sp,
            PAGE_IRQ_STAT.EVT (0x20 + p)], endFp (0x20 + p), accDeliverFp s (256 + 4 * p.val + sp.val)]) s t)

/-- R144 to R160: a committed entry joins the window as PLANNED with what the prediction gives it; an SP0 result confirms the
entry that it names or is a miss of it, as its value, tag, clip and CBC_NOW say; an absent result is a miss of cause
NOSAMPLE; the squash of the misses of one edge follows the last of them; a partner's squash is taken over; a count of 8
degrades; the storm begins and ends. -/
def Obligations.PlanConfirmAndMiss : Prop :=
  ∀ (s : State) (p : Fin 16) (c : Fin 4) (e : Timing) (idx : BitVec 8) (x : Tagged) (cbcNow more close : Bool),
    (∀ a, modelTable s (p / 4) = some a → plans s p = true → nextIndex s p close e.index = true →
      s.window[p].length < (if degraded s p then 2 else depthOf s (p / 4)) →
      beyond s p a (lanePredict s p a e).2 (lanePredict s p a e).1.iPred = false →
        (∃ t, exec (.planEntryCommit p e close) s = .next t ∧ t.window[p] = s.window[p] ++ [(lanePredict s p a e).1]
        ∧ (lanePredict s p a e).1.t = e ∧ (lanePredict s p a e).1.stage = 0
        ∧ (lanePredict s p a e).1.pdph = (p.val % 4 == s.get (CMB_CTL.PDPH (p / 4)))
        ∧ (lanePredict s p a e).1.gen = s.get (CMB_STAT.GEN (p / 4))
        ∧ 1 ≤ (lanePredict s p a e).1.band ∧ (lanePredict s p a e).1.band ≤ 2047 ∧ Frame (.parts [.window p]) s t))
    ∧ ((plans s p = false ∨ nextIndex s p close e.index = false) → ∃ t, exec (.planEntryCommit p e close) s = .next t ∧ Frame {} s t)
    ∧ (∀ y, judged s p idx = some y → s.get (PH_STAT.STATE p) = 1 → degraded s p = false →
      (tagCheck s (0x10 + p / 4) x.val x.tag).1 = true → x.clip = false → cbcNow = false →
      (x.val - y.iPred).natAbs ≤ y.band * 16384 →
        (∃ t, exec (.confirmation p ⟨idx, more⟩ x cbcNow) s = .next t ∧ consec t p = 0
          ∧ t.get (Ph.CP_IDX p) = y.t.index.toNat ∧ t.get (Ph.CP_OK p) = 1 ∧ t.int (Ph.CP_C p) = toSigned 29 (ofSigned 29 x.val)
          ∧ (∀ z ∈ t.window[p], z.t.index ≠ y.t.index)
          ∧ t.get64 (CMB_CONF_LO.CONF (p / 4)) (CMB_CONF_HI.CONF (p / 4))
              = (s.get64 (CMB_CONF_LO.CONF (p / 4)) (CMB_CONF_HI.CONF (p / 4)) + 1) % 2 ^ 64
          ∧ Frame (confirmFp s p) s t))
    ∧ (∀ y, judged s p idx = some y → s.get (PH_STAT.STATE p) = 1 → degraded s p = false →
      (tagCheck s (0x10 + p / 4) x.val x.tag).1 = true → x.clip = false → cbcNow = false →
      y.band * 16384 < (x.val - y.iPred).natAbs → y.gen = s.get (CMB_STAT.GEN (p / 4)) →
        (∃ t, exec (.confirmation p ⟨idx, more⟩ x cbcNow) s = .next t ∧ consec t p = min 8 (consec s p + 1)
          ∧ t.get (CMB_LAST_MISS.CAUSE (p / 4)) = 0 ∧ t.get (CMB_LAST_MISS.PHASE (p / 4)) = p.val % 4
          ∧ t.get (missField p) = min 65535 (s.get (missField p) + 1)
          ∧ (more = true → (t.get (Comb.MISSED (p / 4))).testBit (p.val % 4) = true
              ∧ t.get (CMB_SQ_CNT.SQUASHES (p / 4)) = s.get (CMB_SQ_CNT.SQUASHES (p / 4)))
          ∧ (more = false → t.get (Comb.MISSED (p / 4)) = 0)
          ∧ (more = false → (gangOf s (p / 4)).all (fun d => s.get (Comb.MISSED d) == 0) = true →
              t.get (CMB_SQ_CNT.SQUASHES (p / 4)) = min 65535 (s.get (CMB_SQ_CNT.SQUASHES (p / 4)) + 1)
              ∧ t.get (Comb.BUCKET (p / 4) 0) = min 65535 (s.get (Comb.BUCKET (p / 4) 0) + 1))
          ∧ Frame (confirmFp s p) s t))
    ∧ (∀ y, judged s p idx = some y → degraded s p = false →
        (∃ t, exec (.nosample p ⟨idx, more⟩) s = .next t ∧ t.get (CMB_LAST_MISS.CAUSE (p / 4)) = 2
          ∧ t.get (CMB_LAST_MISS.DEV (p / 4)) = 0 ∧ (t.get (PAGE_IRQ_STAT.EVT (0x10 + p / 4))).testBit 0 = true
          ∧ t.get (missField p) = min 65535 (s.get (missField p) + 1)
          ∧ (y.gen = s.get (CMB_STAT.GEN (p / 4)) → consec t p = min 8 (consec s p + 1))
          ∧ (∀ z ∈ t.window[p], z.t.index ≠ y.t.index)
          ∧ Frame (.any [.fields [CMB_CONSEC.CONSEC (p / 4)], .parts [.window p], missFp (p / 4), edgeFp s (p / 4)]) s t))
    ∧ (judged s p idx = none → more = true →
      (∃ t, exec (.confirmation p ⟨idx, more⟩ x cbcNow) s = .next t ∧ t = s) ∧ (∃ t, exec (.nosample p ⟨idx, more⟩) s = .next t ∧ t = s))
    ∧ (s.get (CMB_GANG.STATE c) = 2 →
        ∃ t, exec (.gangSquash c) s = .next t
        ∧ t.get (CMB_SQ_CNT.SQUASHES c) = min 65535 (s.get (CMB_SQ_CNT.SQUASHES c) + 1)
        ∧ (t.get (PAGE_IRQ_STAT.EVT (0x10 + c))).testBit 1 = true
        ∧ (∀ q : Fin 16, q.val / 4 = c → inSet s q = true → t.window[q].all (fun y => y.stage == 2) = true)
        ∧ Frame (squashFp c) s t)
    ∧ (consec s p = 8 → muted s (0x20 + p) = false →
        ∃ t, exec (.degrade p) s = .next t ∧ consec t p = 0 ∧ degraded t p = true
        ∧ (t.get (CMB_STAT.DEGRADED (p / 4))).testBit (p.val % 4) = true
        ∧ (t.get (PAGE_FLT_STAT.CAUSE (0x20 + p))).testBit 7 = true
        ∧ Frame (.any [.fields [CMB_CONSEC.CONSEC (p / 4), CMB_STAT.DEGRADED (p / 4), PAGE_IRQ_STAT.EVT (0x10 + p / 4), Ph.DINT p,
            Ph.DOUT p], .parts [.window p], raiseFp (0x20 + p)]) s t)
    ∧ (consec s p ≠ 8 → ∃ t, exec (.degrade p) s = .next t ∧ t = s)
    ∧ (s.get (CMB_STORM.TH c) ≠ 0 → s.get (CMB_STORM.TH c) ≤ s.get (CMB_CONSEC.STORM_CNT c) → s.get (CMB_STAT.STORM c) = 0 →
        ∃ t, exec (.stormEnter c) s = .next t ∧ t.get (CMB_STAT.STORM c) = 1 ∧ ownDepth t c = min 4 (s.get (CMB_PLAN_CTL.DEPTH c))
        ∧ t.get (CMB_SQ_CNT.STORMS c) = min 65535 (s.get (CMB_SQ_CNT.STORMS c) + 1)
        ∧ t.get (CMB_SQ_CNT.SQUASHES c) = s.get (CMB_SQ_CNT.SQUASHES c)
        ∧ Frame (.any [.fields [CMB_STAT.STORM c, CMB_SQ_CNT.STORMS c, PAGE_IRQ_STAT.EVT (0x10 + c)],
            .windows ((gangOf s c).flatMap combPhases), raiseFp (0x10 + c)]) s t)
    ∧ (s.get (CMB_STAT.STORM c) = 1 → s.get (Comb.MARKN c) = 0 → s.get (Comb.EDGECNT c) ≤ s.get (CMB_STORM.TH c) / 4 →
        ∃ t, exec (.stormExit c) s = .next t ∧ t.get (CMB_STAT.STORM c) = 0
        ∧ (t.get (PAGE_IRQ_STAT.EVT (0x10 + c))).testBit 4 = true
        ∧ Frame (.any [.fields [CMB_STAT.STORM c, PAGE_IRQ_STAT.EVT (0x10 + c)], endFp (0x10 + c)]) s t)

/-- R161 to R166, R175, R198: the records that a comb's queue takes, refuses or drops, and the retirement of one. -/
def Obligations.AnticipationRecords : Prop :=
  ∀ (s : State) (c : Fin 4) (r : BitVec 64) (idx : Fin 16),
    (s.flag (CMB_CTL.ANT_EN c) = false → ∀ k : Fin 16, Frame {} s (enqueue s c (ofKind k r)))
    ∧ (foragerRuns s c = true → s.flag (CMB_CTL.ANT_EN c) = true → s.antq[c].length < 16 →
      (∃ t, exec (.feederPre c r) s = .next t ∧ RecordTaken c (ofKind 1 r) s t ∧ Frame (gangInFp s c) s t)
      ∧ (∃ t, exec (.feederMain c r) s = .next t ∧ RecordTaken c (ofKind 2 r) s t ∧ Frame (gangInFp s c) s t)
      ∧ (∃ t, exec (.feederOff c r) s = .next t ∧ RecordTaken c (ofKind 3 r) s t ∧ Frame (gangInFp s c) s t)
      ∧ (∃ t, exec (.pdTrans c r) s = .next t ∧ RecordTaken c (ofKind 4 r) s t ∧ Frame (.any [gangInFp s c, disturbFp s c]) s t)
      ∧ (∃ t, exec (.changeover c r) s = .next t ∧ RecordTaken c (ofKind 5 r) s t ∧ Frame (gangInFp s c) s t)
      ∧ (∃ t, exec (.budget c r) s = .next t ∧ RecordTaken c (ofKind 6 r) s t ∧ Frame (gangInFp s c) s t)
      ∧ (∃ t, exec (.share c r) s = .next t ∧ RecordTaken c (ofKind 7 r) s t
          ∧ (s.flag (CMB_PP_CTL.SHARE_EN c) = true → inSafeBoot s = false → t.get (CMB_PP_STAT.SHARE_LIVE c) = 1)
          ∧ Frame (.any [gangInFp s c, disturbFp s c]) s t)
      ∧ (∃ t, exec (.hostRecord c r) s = .next t ∧ RecordTaken c (r.toNat / 1024 * 1024 + 50 * 16 + 8) s t ∧ Frame (gangInFp s c) s t)
      ∧ (∃ t, exec (.cancel c r) s = .next t ∧ t.antq[c] = s.antq[c].filter (fun y => slice y.word 4 6 != slice r.toNat 4 6)
          ∧ Frame (.parts ((gangOf s c).map (fun d => .antq (fin4 d)))) s t))
    ∧ (foragerRuns s c = false → r.toNat / 4096 % 2 = 0 →
      (∃ t, exec (.feederPre c r) s = .next t ∧ t = s) ∧ (∃ t, exec (.feederMain c r) s = .next t ∧ t = s)
      ∧ (∃ t, exec (.feederOff c r) s = .next t ∧ t = s) ∧ (∃ t, exec (.changeover c r) s = .next t ∧ t = s)
      ∧ (∃ t, exec (.budget c r) s = .next t ∧ t = s) ∧ (∃ t, exec (.hostRecord c r) s = .next t ∧ t = s)
      ∧ (∃ t, exec (.cancel c r) s = .next t ∧ t = s))
    ∧ (∃ t, exec (.recordRetire c idx) s = .next t ∧ t.antq[c] = s.antq[c].eraseIdx idx
        ∧ (∀ j : Fin 2, (s.antq[c])[idx.val]?.any (fun y => recLoads y.word && y.word.testBit 12 == (j.val == 1)) = true →
            t.get (Comb.IRES c j) = ofSigned 32 (s.int (Comb.IRES c j) + (((s.antq[c])[idx.val]?).map (fun y => antFinal y.word)).getD 0))
        ∧ Frame (.any [.fields [Comb.IRES c 0, Comb.IRES c 1, Comb.CP c 6, Comb.CP c 7, Comb.SHARE_TGT c, Comb.SHARE_ON c],
            .parts [.antq c], pdSegmentFp c]) s t)
    ∧ ((s.antq[c])[idx.val]?.any (fun y => slice y.word 0 4 == 7) = true →
        ∃ t, exec (.recordRetire c idx) s = .next t ∧ t.get (Comb.SHARE_ON c) = 1
          ∧ t.int (Comb.SHARE_TGT c) = (((s.antq[c])[idx.val]?).map (fun y => recAmp y.word)).getD 0)

/-- R149, R169, R170, R175, R18: the Forager's registers, the recomputation, and how a gang is asked for, forms or is
refused, and dissolves. -/
def Obligations.ForagerRegistersAndGangs : Prop :=
  ∀ (s : State) (a : Access) (c : Fin 4) (w : BitVec 32),
    (∀ m, modelTable s c = some m → s.get (CMB_CTL.EN c) = 1 → s.get (Comb.MODEL_OK c) = 1 →
        (∃ t, exec (.coefficientRecompute c) s = .next t ∧ t.get (Comb.EPOCH c) = (s.get (Comb.EPOCH c) + 1) % 65536
        ∧ t.get (Comb.COEF c 0) = workValue (s.leNat (m + 0x140) 4) (s.leInt (((modelTable s (gangLow s c)).getD m) + 0x150) 2)
            (s.int (THS_VAL.T (s.leNat (m + 0x152) 2)) - s.leInt (m + 8) 2) % 2 ^ 32
        ∧ Frame (coefFp c) s t))
    ∧ ((s.get (CMB_CTL.EN c) = 0 ∨ s.get (Comb.MODEL_OK c) = 0) → ∃ t, exec (.coefficientRecompute c) s = .next t ∧ t = s)
    ∧ (gangAsked s c ≠ [] → (gangAsked s c)[0]? = some c.val → inSafeBoot s = false →
        (gangAsked s c).all (fun d => s.get (CMB_GANG.STATE d) == 1) = true → (gangAsked s c).all (withinMean s (gangAsked s c)) = true →
        ∃ t, exec (.gangCheck c) s = .next t
        ∧ t.get (CMB_GANG.STATE c) = 2 ∧ t.get (CMB_GANG.MEMBERS c) = s.get (CMB_GANG.REQ c)
        ∧ (∀ d : Fin 4, d.val ∈ gangAsked s c → t.get (CMB_GANG.STATE d) = 2 ∧ t.get (CMB_GANG.MEMBERS d) = s.get (CMB_GANG.REQ c))
        ∧ Frame (.any ((gangAsked s c).flatMap (fun d => [.fields [CMB_GANG.STATE d, CMB_GANG.MEMBERS d, Arb.GANG_MODE d,
            Arb.GANG_PER d], squashFp d, raiseFp (0x10 + d)]))) s t)
    ∧ (gangAsked s c ≠ [] → (gangAsked s c)[0]? = some c.val → inSafeBoot s = false →
        (gangAsked s c).all (fun d => s.get (CMB_GANG.STATE d) == 1) = true → (gangAsked s c).all (withinMean s (gangAsked s c)) = false →
        ∃ t, exec (.gangCheck c) s = .next t
        ∧ t.get (CMB_GANG.STATE c) = 3
        ∧ (∀ d : Fin 4, d.val ∈ gangAsked s c → t.get (CMB_GANG.STATE d) = 3
              ∧ (muted s (0x10 + d) = false → (t.get (PAGE_FLT_STAT.CAUSE (0x10 + d))).testBit 5 = true))
        ∧ Frame (.any ((gangAsked s c).flatMap (fun d => [.fields [CMB_GANG.STATE d, CMB_GANG.MEMBERS d, Arb.GANG_MODE d,
            Arb.GANG_PER d], squashFp d, raiseFp (0x10 + d)]))) s t)
    ∧ (s.get (CMB_GANG.STATE c) = 2 →
        (gangOf s c).any (fun d => s.get (CMB_GANG.REQ d) != s.get (CMB_GANG.MEMBERS d) || !s.flag (CMB_CTL.EN d)) = true →
        ∃ t, exec (.gangDissolve c) s = .next t
        ∧ t.get (CMB_GANG.STATE c) ≠ 2 ∧ t.get (CMB_GANG.MEMBERS c) = 0
        ∧ (∀ d : Fin 4, d.val ∈ gangOf s c → t.get (CMB_GANG.STATE d) ≠ 2 ∧ t.get (CMB_GANG.MEMBERS d) = 0)
        ∧ Frame (.any ((gangOf s c).flatMap (fun d => [.fields [CMB_GANG.STATE d, CMB_GANG.MEMBERS d], squashFp d]))) s t)
    ∧ (served s = true →
        ∃ t, exec (.peek a c) s = .next t
        ∧ t.get (CMB_PEEK0.ENTRY c) + 2 ^ 32 * t.get (CMB_PEEK1.ENTRY c) + 2 ^ 64 * t.get (CMB_PEEK2.ENTRY c)
            + 2 ^ 96 * t.get (CMB_PEEK3.ENTRY c)
          = (((s.window[Fin.ofNat 16 (4 * c.val + s.get (CMB_PEEK_SEL.PHASE c))])[s.get (CMB_PEEK_SEL.POS c)]?).map
              (entryWord (4 * c.val + s.get (CMB_PEEK_SEL.PHASE c)))).getD 0 % 2 ^ 128
        ∧ t.get (Last.DATA (pathNum a.path)) = t.get (CMB_PEEK0.ENTRY c)
        ∧ Frame (.any [.fields [CMB_PEEK0.ENTRY c, CMB_PEEK1.ENTRY c, CMB_PEEK2.ENTRY c, CMB_PEEK3.ENTRY c,
            Last.DATA (pathNum a.path), Last.TAG (pathNum a.path)], accessFp a (0x10 + c)]) s t)
    ∧ (served s = true → keeperView s a = true → s.get (PAGE_LOCK.CFG (0x10 + c)) = 0 →
        (∃ t, exec (.markPerWrite a c w) s = .next t
          ∧ t.get (CMB_MARK.PER c) = (if w.toNat % 131072 = s.get (CMB_MARK.PER c) then s.get (CMB_MARK.PER c)
              else max 6400 (min 128000 (w.toNat % 131072)))
          ∧ t.get (Comb.PER c) = s.get (Comb.PER c)
          ∧ (w.toNat % 131072 ≠ s.get (CMB_MARK.PER c) → ∀ d : Fin 4, markComb s d = c.val → t.get (Comb.PERWAIT d) ≤ 2
              ∧ ∀ q : Fin 16, q.val / 4 = d.val → min 2 (s.slots[q]).length ≤ t.get (Comb.PERWAIT d))
          ∧ Frame (.any [.fields (CMB_MARK.PER c :: (List.range 4).map Comb.PERWAIT), .windows (List.finRange 16), accessFp a (0x10 + c)]) s t)
        ∧ (∃ t, exec (.modelWrite a c w) s = .next t ∧ t.get (CMB_PLAN_CTL.MODEL c) = w.toNat / 65536 % 256
          ∧ t.get (CMB_PLAN_CTL.DEPTH c) = max 4 (min 16 (w.toNat % 32)) ∧ t.get (CMB_PLAN_CTL.TUPD c) = w.toNat / 256 % 256
          ∧ ((combLive s c = false ∨ w.toNat / 65536 % 256 = s.get (CMB_PLAN_CTL.MODEL c)) → Frame (.any [.fields
              [CMB_PLAN_CTL.MODEL c, CMB_PLAN_CTL.DEPTH c, CMB_PLAN_CTL.TUPD c], .windows ((gangOf s c).flatMap combPhases),
              accessFp a (0x10 + c)]) s t)
          ∧ Frame (.any [.fields [CMB_PLAN_CTL.MODEL c, CMB_PLAN_CTL.DEPTH c, CMB_PLAN_CTL.TUPD c], squashFp c, modelFp c,
              .windows ((gangOf s c).flatMap combPhases),
              accessFp a (0x10 + c)]) s t)
        ∧ (∃ t, exec (.foragerEnable a c w) s = .next t ∧ t.get (CMB_CTL.EN c) = w.toNat % 2
          ∧ t.get (CMB_CTL.ANT_EN c) = w.toNat / 2 % 2 ∧ t.get (CMB_CTL.PDPH c) = w.toNat / 1024 % 4
          ∧ ((combLive s c = false ∨ s.get (CMB_CTL.EN c) = 1) → Frame (.any [.fields [CMB_CTL.EN c, CMB_CTL.ANT_EN c,
              CMB_CTL.PDPH c], accessFp a (0x10 + c)]) s t)
          ∧ Frame (.any [.fields [CMB_CTL.EN c, CMB_CTL.ANT_EN c, CMB_CTL.PDPH c], modelFp c, accessFp a (0x10 + c)]) s t)
        ∧ (∃ t, exec (.gangReq a c w) s = .next t ∧ t.get (CMB_GANG.REQ c) = w.toNat % 16
          ∧ (s.get (CMB_GANG.REQ c) ≠ w.toNat % 16 → ∀ d : Fin 4, d.val ∈ gangAsked t c → s.get (CMB_GANG.STATE d) ≠ 2 →
              t.get (CMB_GANG.STATE d) = 1)
          ∧ Frame (.any (.fields [CMB_GANG.REQ c] :: accessFp a (0x10 + c) :: (List.range 4).map (fun d =>
              .fields [CMB_GANG.STATE d]))) s t))

/-- R121, R169, R177 to R180, R194, R195: on a comb mark a period written is in force once the periods staged have passed;
the mode is the one that the rule of R179 gives for what the evaluation has found, and I_T obeys the clamps of its mode: none
in OFF and NO_SUPPLY, no reverse current in CHARGE and DEAD_BATTERY, no charging current and at most LIM in SUPPLEMENT and
BATTERY_ONLY; a stale quantity holds mode and target. -/
def Obligations.ArbiterEvaluates : Prop :=
  ∀ (s : State) (c : Fin 4) (q : Fin 48),
    (foragerRuns s c = true →
      ∃ t, exec (.combMark c) s = .next t
        ∧ (s.get (Comb.PERWAIT c) ≠ 0 → t.get (Comb.PER c) = s.get (Comb.PER c)
            ∧ t.get (Comb.PERWAIT c) = s.get (Comb.PERWAIT c) - 1)
        ∧ (s.get (Comb.PERWAIT c) = 0 → t.get (Comb.PER c) = max (s.get (CMB_MARK.PER (markComb s c))) (slowest s))
        ∧ (closedEngines s c = [] → t.get (CMB_PP_STAT.USABLE c) = 0)
        ∧ (t.get (CMB_PP_STAT.MODE c) ≠ s.get (CMB_PP_STAT.MODE c) → (t.get (CMB_PP_EVT.EVT c)).testBit 0 = true)
        ∧ Frame (.any [arbFp s c, markFp c]) s t)
    ∧ (foragerRuns s c = true → s.get (CMB_PP_CTL.EN c) = 0 →
      ∃ t, exec (.combMark c) s = .next t ∧ t.get (CMB_PP_STAT.MODE c) = 0 ∧ t.get (CMB_TARGET.TGT c) = 0
        ∧ t.get (CMB_PP_STAT.GOVERN c) = 0)
    ∧ (foragerRuns s c = true → s.get (CMB_PP_CTL.EN c) = 1 → s.get (Arb.STALE c) = 1 →
      ∃ t, exec (.combMark c) s = .next t ∧ t.get (CMB_PP_STAT.GOVERN c) = 9
        ∧ t.get (CMB_PP_STAT.MODE c) = s.get (CMB_PP_STAT.MODE c)
        ∧ (s.get (Arb.STALE_RAMP c) = 0 → t.get (CMB_TARGET.TGT c) = s.get (CMB_TARGET.TGT c)))
    ∧ (foragerRuns s c = true → s.get (CMB_PP_CTL.EN c) = 1 → s.get (Arb.STALE c) = 0 → s.get (CMB_GANG.STATE c) ≠ 2 →
      ∃ t, exec (.combMark c) s = .next t ∧ t.get (CMB_PP_STAT.MODE c) = modeOf t c
        ∧ (s.get (Mnt.DRAIN c) = 0 →
                (modeOf t c = 1 ∨ modeOf t c = 4 → 0 ≤ t.int (CMB_TARGET.TGT c))
                ∧ (modeOf t c = 2 ∨ modeOf t c = 3 → (-(s.get (CMB_SUP.LIM c) : Int)) ≤ t.int (CMB_TARGET.TGT c)
                    ∧ ((phaseBounds t c).1 ≤ 0 → t.int (CMB_TARGET.TGT c) ≤ 0))
                ∧ (modeOf t c = 5 → s.get (Arb.CUTRAMP c) = 0 → t.get (CMB_TARGET.TGT c) = 0)))
    ∧ (foragerRuns s c = false → ∃ t, exec (.combMark c) s = .next t ∧ Frame {} s t)
    ∧ (arbRuns s c = true →
        ∃ t, exec (.stale c q) s = .next t ∧ t.get (Arb.STALE c) = 1 ∧ (t.get (Arb.STALEM c)).testBit q = true
        ∧ t.get (CMB_TARGET.TGT c) = s.get (CMB_TARGET.TGT c)
        ∧ (s.get (Arb.STALE c) = 0 → t.get (CMB_PP_STAT.GOVERN c) = 9 ∧ (t.get (CMB_PP_EVT.EVT c)).testBit 10 = true)
        ∧ Frame (.any [.fields [Arb.STALE c, Arb.STALEM c, Arb.FRAC c, CMB_PP_STAT.GOVERN c, CMB_PP_EVT.EVT c], disturbFp s c]) s t)
    ∧ (s.get (Arb.STALE c) = 1 →
        ∃ t, exec (.staleRamp c) s = .next t ∧ t.get (Arb.STALE_RAMP c) = 1 ∧ Frame (.fields [Arb.STALE_RAMP c]) s t)
    ∧ (foragerRuns s c = true →
        ∃ t, exec (.batteryUnusable c) s = .next t ∧ t.get (CMB_PP_STAT.USABLE c) = 0 ∧ t.get (Arb.UNUS c) = 1
        ∧ (s.get (CMB_PP_STAT.MODE c) = 3 → (t.get (CMB_PP_EVT.EVT c)).testBit 13 = true ∧ t.get (Arb.CUTRAMP c) = 1
            ∧ (∀ e : Fin 8, closedEngines s c = [e.val] → (t.get (PAGE_FLT_STAT.CAUSE (0x30 + batPort e))).testBit 11 = true))
        ∧ (s.get (CMB_PP_STAT.MODE c) ≠ 3 → Frame (.fields [CMB_PP_STAT.USABLE c, Arb.UNUS c]) s t)
        ∧ Frame (.any (.fields [CMB_PP_STAT.USABLE c, Arb.UNUS c, Arb.CUTRAMP c, CMB_PP_EVT.EVT c] ::
            (closedEngines s c).map (fun e => raiseFp (0x30 + batPort e)))) s t)
    ∧ (foragerRuns s c = true → closedEngines s c ≠ [] →
        ∃ t, exec (.batteryUsable c) s = .next t ∧ t.get (CMB_PP_STAT.USABLE c) = 1 ∧ t.get (Arb.UNUS c) = 0
        ∧ Frame (.fields [CMB_PP_STAT.USABLE c, Arb.UNUS c]) s t)
    ∧ (arbRuns s c = true → s.get (Arb.SUPHELD c) = 1 →
        ∃ t, exec (.supExit c) s = .next t ∧ t.get (Arb.SUPHELD c) = 0 ∧ (t.get (CMB_PP_EVT.EVT c)).testBit 4 = true
        ∧ Frame (.fields [Arb.SUPHELD c, Arb.SUPCNT c, CMB_PP_EVT.EVT c]) s t)
    ∧ ((s.get (CMB_PP_STAT.SHARE_LIVE c) = 1 ∨ (s.get (Comb.SHARE_ON c) = 1 ∧ s.get (Arb.SHARE_OUT c) = 0)) →
        ∃ t, exec (.shareLost c) s = .next t ∧ t.get (CMB_PP_STAT.SHARE_LIVE c) = 0 ∧ (t.get (CMB_PP_EVT.EVT c)).testBit 11 = true
        ∧ t.get (Arb.SHARE_OUT c) = s.get (Comb.SHARE_ON c)
        ∧ Frame (.fields [CMB_PP_STAT.SHARE_LIVE c, Arb.SHARE_OUT c, Arb.SHARE_FRAC c, CMB_PP_EVT.EVT c]) s t)

/-- R182 to R186: qualification, planned changeovers, the on command and the reports of a source pair. -/
def Obligations.SourceSelection : Prop :=
  ∀ (s : State) (a : Access) (c : Fin 4) (m : Fin 2) (n : Fin 48) (w : BitVec 32),
    (foragerRuns s c = true → s.get (PORT_STAT.WIN (12 * c.val + m.val)) = 1 →
        ∃ t, exec (.sourceQualified c m) s = .next t ∧ (t.get (CMB_PP_STAT.QUALIFIED c)).testBit m = true
        ∧ (s.get (Arb.STUCK c) = m.val + 1 → t.get (Arb.STUCK c) = 0)
        ∧ Frame (.fields [CMB_PP_STAT.QUALIFIED c, Arb.STUCK c]) s t)
    ∧ (arbRuns s c = true → s.get (CMB_PP_CTL.REVERT c) = 1 → s.get (CMB_PP_CTL.SEL c) = 0 → s.get (Arb.CHG c) = 0 →
        qualified s c (s.get (CMB_PP_CTL.PRI c)) = true → sourceOn s c = true → s.get (CMB_PP_STAT.ACTIVE c) ≠ s.get (CMB_PP_CTL.PRI c) →
        ∃ t, exec (.revert c) s = .next t ∧ t.get (Arb.CHG c) = 1 ∧ t.sent.length = s.sent.length + 1
        ∧ Frame (.any [.fields [Arb.CHG c, Arb.DUE c], .parts [.sent]]) s t)
    ∧ (served s = true → keeperView s a = true → s.get (PAGE_LOCK.CFG (0x10 + c)) = 0 →
        ∃ t, exec (.plannedChangeover a c w) s = .next t ∧ t.get (CMB_PP_CTL.SEL c) = w.toNat / 4 % 4
        ∧ t.get (CMB_PP_CTL.PRI c) = w.toNat / 16 % 2 ∧ t.get (CMB_PP_CTL.EN c) = w.toNat % 2
        ∧ (w.toNat / 4 % 4 = s.get (CMB_PP_CTL.SEL c) → w.toNat / 16 % 2 = s.get (CMB_PP_CTL.PRI c) → t.sent = s.sent)
        ∧ (w.toNat / 4 % 4 ≠ s.get (CMB_PP_CTL.SEL c) → arbRuns t c = true → s.get (Arb.CHG c) ≠ 0 → t.get (Arb.DUE c) = 1
            ∧ t.get (Arb.CHG c) = s.get (Arb.CHG c) ∧ t.sent = s.sent)
        ∧ (w.toNat / 4 % 4 ≠ s.get (CMB_PP_CTL.SEL c) → arbRuns t c = true → s.get (Arb.CHG c) = 0 → sourceOn t c = true →
            selectsAway t c = true → t.get (Arb.CHG c) = 1 ∧ t.sent.length = s.sent.length + 1)
        ∧ Frame (.any [.fields [CMB_PP_CTL.SEL c, CMB_PP_CTL.PRI c, CMB_PP_CTL.EN c, CMB_PP_CTL.REVERT c, CMB_PP_CTL.SUP_EN c,
            CMB_PP_CTL.SHARE_EN c, CMB_PP_CTL.RET_DLY c, CMB_PP_CTL.QUAL c, Arb.CHG c, Arb.DUE c], .parts [.sent],
            accessFp a (0x10 + c)]) s t)
    ∧ (arbRuns s c = true → s.get (Arb.CHG c) = 1 →
        ∃ t, exec (.changeoverLeadExpiry c) s = .next t ∧ t.get (Arb.CHG c) = 2
        ∧ t.get (Port.CMD (12 * c + s.get (CMB_PP_STAT.ACTIVE c))) = 0
        ∧ Frame (.any [.fields [Arb.CHG c], pairFp (12 * c + s.get (CMB_PP_STAT.ACTIVE c))]) s t)
    ∧ (arbRuns s c = true → pickSource s c = some m.val → s.get (Arb.CHG c) = 0 ∨ s.get (Arb.CHG c) = 3 →
        s.get (Port.CMD (12 * c.val)) = 0 → s.get (Port.CMD (12 * c.val + 1)) = 0 → s.get (CMB_PP_STAT.ON c) = 0 →
        s.get (Port.FALL (12 * c.val + (1 - m.val))) = 0 →
        ∃ t, exec (.onCommand c) s = .next t ∧ t.get (Port.CMD (12 * c.val + m.val)) = 1 ∧ t.get (CMB_PP_STAT.ACTIVE c) = m
          ∧ t.get (Arb.CHG c) = 4)
    ∧ (∃ t, exec (.onCommand c) s = .next t
        ∧ (s.get (Port.CMD (12 * c.val)) = 1 ∨ s.get (Port.CMD (12 * c.val + 1)) = 1 ∨ s.get (CMB_PP_STAT.ON c) ≠ 0 → Frame {} s t)
        ∧ Frame (.any [.fields [CMB_PP_STAT.ACTIVE c, Arb.CHG c], pairFp (12 * c), pairFp (12 * c + 1)]) s t)
    ∧ (portKind n = 1 → s.get (PORT_STAT.GATE_FULL n) = 1 →
        ∃ t, exec (.pairOnReport n) s = .next t ∧ (t.get (CMB_PP_STAT.ON (n / 12))).testBit (n % 12) = true
        ∧ (s.get (PORT_STAT.GATE_FULL (12 * (n / 12) + (1 - n % 12))) = 0 → t.get (Port.CMD (12 * (n / 12) + (1 - n % 12))) = 0)
        ∧ Frame (.any [.fields [CMB_PP_STAT.ON (n / 12), CMB_PP_STAT.ACTIVE (n / 12)], pairFp (12 * (n / 12) + (1 - n % 12))]) s t)
    ∧ (portKind n ≠ 4 → s.get (PORT_STAT.GATE_FULL n) = 0 → s.get (PORT_STAT.STATE n) ≠ 4 → s.get (PORT_STAT.STATE n) ≠ 6 →
        s.get (PORT_STAT.STATE n) ≠ 9 →
        ∃ t, exec (.pairOffReport n) s = .next t ∧ t.get (PORT_STAT.GATE_OFF n) = 1 ∧ t.get (Port.FALL n) = 0
        ∧ (portKind n = 1 → (t.get (CMB_PP_STAT.ON (n / 12))).testBit (n % 12) = false)
        ∧ (portKind n = 1 → s.get (Arb.CHG (n / 12)) = 2 → t.get (Arb.CHG (n / 12)) = 3)
        ∧ Frame (.any [.fields [PORT_STAT.GATE_OFF n, Port.FALL n, Port.OFF_CMD n, CMB_PP_STAT.ON (n / 12), Arb.CHG (n / 12),
            Arb.STUCK (n / 12)]]) s t)

/-- R187 to R191, R194: budgets and their ramp, shedding and its end, and cuts of the PD budget. -/
def Obligations.BudgetsAndShedding : Prop :=
  ∀ (s : State) (a : Access) (c : Fin 4) (which : Fin 3) (w : BitVec 32),
    (served s = true → keeperView s a = true → s.get (PAGE_LOCK.CFG (0x10 + c)) = 0 → w.toNat % 65536 ≤ w.toNat / 65536 →
      (∃ t, exec (.budgetWrite a c which w) s = .next t
        ∧ t.get (if which = 0 then CMB_SRC0_BUD.LIM c else if which = 1 then CMB_SRC1_BUD.LIM c else CMB_BUDGET.LIM c) = w.toNat % 65536
        ∧ t.get (if which = 0 then CMB_SRC0_BUD.CEIL c else if which = 1 then CMB_SRC1_BUD.CEIL c else CMB_BUDGET.CEIL c) = w.toNat / 65536
        ∧ t.get (CMB_TARGET.LIMIT c) = s.get (CMB_TARGET.LIMIT c)
        ∧ (arbRuns s c = true → drawTarget t c < s.get (CMB_TARGET.LIMIT c) → t.get (CMB_PP_STAT.RAMP c) = 1
            ∧ (s.get (CMB_PP_STAT.RAMP c) = 0 → t.sent.length = s.sent.length + 1))
        ∧ (s.get (CMB_TARGET.LIMIT c) ≤ drawTarget t c → t.sent = s.sent)
        ∧ Frame (.any [.fields [CMB_SRC0_BUD.LIM c, CMB_SRC0_BUD.CEIL c, CMB_SRC1_BUD.LIM c, CMB_SRC1_BUD.CEIL c, CMB_BUDGET.LIM c,
            CMB_BUDGET.CEIL c, CMB_TARGET.LIMIT c, CMB_PP_STAT.RAMP c, CMB_PP_EVT.EVT c], budgetSegmentFp c, disturbFp s c,
            accessFp a (0x10 + c)]) s t)
      ∧ (∃ t, exec (.pdCut a c w) s = .next t ∧ t.get (CMB_PD_BUDGET.LIM c) = w.toNat % 65536
        ∧ (inSafeBoot s = false → w.toNat % 65536 < s.get (Pd.LIM c) → t.get (Pd.LIM c) = s.get (Pd.LIM c) ∧ t.get (Arb.PD_CUT c) = 1
            ∧ t.get (Arb.PD_NEW c) = w.toNat % 65536
            ∧ (s.get (Arb.PD_CUT c) = 0 → (t.get (CMB_PP_EVT.EVT c)).testBit 8 = true))
        ∧ ((inSafeBoot s = true ∨ s.get (Pd.LIM c) ≤ w.toNat % 65536) → t.get (Pd.LIM c) = w.toNat % 65536 ∧ t.get (Arb.PD_CUT c) = 0)
        ∧ Frame (.any [.fields [CMB_PD_BUDGET.LIM c, CMB_PD_BUDGET.CEIL c, Pd.LIM c, Arb.PD_CUT c, Arb.PD_NEW c, CMB_PP_EVT.EVT c],
            accessFp a (0x10 + c)]) s t))
    ∧ (arbRuns s c = true → s.get (CMB_PP_STAT.RAMP c) = 1 →
        ∃ t, exec (.rampDone c) s = .next t ∧ t.get (CMB_PP_STAT.RAMP c) = 0 ∧ t.get (CMB_TARGET.LIMIT c) = drawTarget s c
        ∧ (t.get (CMB_PP_EVT.EVT c)).testBit 5 = true
        ∧ Frame (.fields [CMB_PP_STAT.RAMP c, CMB_TARGET.LIMIT c, CMB_PP_EVT.EVT c]) s t)
    ∧ (s.get (Arb.PD_CUT c) = 1 →
        ∃ t, exec (.pdCutEnforced c) s = .next t ∧ t.get (Pd.LIM c) = s.get (Arb.PD_NEW c) ∧ t.get (Arb.PD_CUT c) = 0
        ∧ (t.get (CMB_PP_EVT.EVT c)).testBit 9 = true ∧ Frame (.fields [Pd.LIM c, Arb.PD_CUT c, CMB_PP_EVT.EVT c]) s t)
    ∧ (arbRuns s c = true → s.get (CMB_PP_STAT.ON c) ≠ 0 → s.get (CMB_PP_STAT.RAMP c) = 0 →
        ∃ t, exec (.shedCheck c) s = .next t ∧ t.get (CMB_TARGET.LIMIT c) = max (s.get (CMB_TARGET.LIMIT c)) (drawTarget s c)
        ∧ (iSrc s c ≤ max (s.get (CMB_TARGET.LIMIT c)) (drawTarget s c) → t.get (CMB_PP_STAT.SHEDDING c) = 0
            ∧ Frame (.any [.fields [CMB_PP_STAT.SHEDDING c, CMB_TARGET.LIMIT c], endFp (0x30 + 12 * c), endFp (0x31 + 12 * c)]) s t)
        ∧ Frame (.any [.fields [CMB_TARGET.LIMIT c], endFp (0x30 + 12 * c), endFp (0x31 + 12 * c), shedFp c,
            raiseFp (0x30 + 12 * c + s.get (CMB_PP_STAT.ACTIVE c))]) s t)
    ∧ (∀ k : Fin 7, arbRuns s c = true → s.get (CMB_PP_STAT.ON c) ≠ 0 → s.get (CMB_PP_STAT.RAMP c) = 0 → s.get (Arb.SHEDTRIP c) = 0 →
        (max (s.get (CMB_TARGET.LIMIT c)) (drawTarget s c) : Int) < iSrc s c → shedChoice s c = some k.val →
        muted s (0x34 + 12 * c + k) = false →
        ∃ t, exec (.shedCheck c) s = .next t
          ∧ (t.get (CMB_SHED_STAT.SHED c)).testBit k = true ∧ t.get (CMB_PP_STAT.SHEDDING c) = 1
          ∧ (t.get (CMB_PP_EVT.EVT c)).testBit 6 = true
          ∧ t.get (PORT_CTL.EN (12 * c + 4 + k)) = s.get (PORT_CTL.EN (12 * c + 4 + k))
          ∧ (t.get (PAGE_FLT_STAT.CAUSE (0x34 + 12 * c + k))).testBit 12 = true)
    ∧ (arbRuns s c = true → s.get (CMB_PP_STAT.ON c) ≠ 0 → s.get (CMB_PP_STAT.RAMP c) = 0 → s.get (Arb.SHEDTRIP c) = 0 →
        (max (s.get (CMB_TARGET.LIMIT c)) (drawTarget s c) : Int) < iSrc s c → shedChoice s c = none →
        s.bit (Flt.PRESENT (0x30 + 12 * c + s.get (CMB_PP_STAT.ACTIVE c))) 10 = false →
        muted s (0x30 + 12 * c + s.get (CMB_PP_STAT.ACTIVE c)) = false →
        ∃ t, exec (.shedCheck c) s = .next t ∧ (t.get (CMB_PP_EVT.EVT c)).testBit 7 = true
          ∧ (t.get (PAGE_FLT_STAT.CAUSE (0x30 + 12 * c + s.get (CMB_PP_STAT.ACTIVE c)))).testBit 10 = true
          ∧ (t.get (Flt.PRESENT (0x30 + 12 * c + s.get (CMB_PP_STAT.ACTIVE c)))).testBit 10 = true)
    ∧ (arbRuns s c = true → s.get (CMB_PP_STAT.ON c) ≠ 0 → s.get (CMB_PP_STAT.RAMP c) = 0 → s.get (Arb.SHEDTRIP c) = 1 →
        (max (s.get (CMB_TARGET.LIMIT c)) (drawTarget s c) : Int) < iSrc s c →
        ∃ t, exec (.shedCheck c) s = .next t ∧ Frame (.fields [CMB_TARGET.LIMIT c]) s t)
    ∧ (served s = true →
        ∃ t, exec (.shedRestore a c w) s = .next t
        ∧ t.get (CMB_SHED_STAT.SHED c) = andNot (s.get (CMB_SHED_STAT.SHED c)) (w.toNat % 128)
        ∧ Frame (.any (.fields [CMB_SHED_STAT.SHED c] :: accessFp a (0x10 + c) :: (List.range 7).map (fun k => startFp (12 * c + 4 + k)))) s t)
    ∧ (arbRuns s c = true → s.get (CMB_PP_STAT.MODE c) = 3 →
        ∃ t, exec (.batLow c) s = .next t ∧ (t.get (CMB_PP_EVT.EVT c)).testBit 12 = true ∧ t.get (Arb.PD_NEW c) = 0
        ∧ t.get (Arb.PD_CUT c) = 1
        ∧ (∀ k : Fin 7, shedPri s c k ≠ 0 → shedPri s c k < s.get (CMB_VBB_CFG.KEEP c) → feederOn s (12 * c + 4 + k) = true →
            (t.get (CMB_SHED_STAT.SHED c)).testBit k = true)
        ∧ Frame (.any [.fields [Arb.PD_NEW c, Arb.PD_CUT c], shedFp c]) s t)

/-- R259 to R261, R264, R269, R272: the window, over-voltage, presence and enable of a port that acts. -/
def Obligations.PortWindowsAndPresence : Prop :=
  ∀ (s : State) (a : Access) (n : Fin 48) (w : BitVec 32),
    portActs s n = true →
    (∃ t, exec (.windowOutside n) s = .next t ∧ t.get (PORT_STAT.WIN n) = 0
      ∧ (s.get (PORT_STAT.WIN n) = 1 → (t.get (PAGE_IRQ_STAT.EVT (0x30 + n))).testBit 7 = true)
      ∧ (portKind n = 1 → (t.get (CMB_PP_STAT.QUALIFIED (n / 12))).testBit (n % 12) = false
          ∧ (s.get (PORT_STAT.STATE n) = 5 → combLive s (n / 12) = true →
              t.get (PORT_STAT.GATE_FULL n) = 0 ∧ t.sent.length = s.sent.length + 1)
          ∧ (combLive s (n / 12) = false → t.get (PORT_STAT.STATE n) = s.get (PORT_STAT.STATE n)
              ∧ t.get (PORT_STAT.GATE_FULL n) = s.get (PORT_STAT.GATE_FULL n) ∧ t.sent = s.sent))
      ∧ (portKind n ≠ 1 → 4 ≤ s.get (PORT_STAT.STATE n) → t.get (PORT_STAT.STATE n) = s.get (PORT_STAT.STATE n)
          ∧ t.get (PORT_STAT.GATE_FULL n) = s.get (PORT_STAT.GATE_FULL n))
      ∧ Frame (.any [.fields [PORT_STAT.WIN n, CMB_PP_STAT.QUALIFIED (n / 12)], startFp n]) s t)
    ∧ (portKind n = 1 → s.get (PORT_CTL.PRES_USE n) = 1 → s.get (PORT_STAT.PRES n) = 0 → exec (.windowInside n) s = .next s)
    ∧ ((portKind n ≠ 1 ∨ s.get (PORT_CTL.PRES_USE n) ≠ 1 ∨ s.get (PORT_STAT.PRES n) = 1) →
      ∃ t, exec (.windowInside n) s = .next t ∧ t.get (PORT_STAT.WIN n) = 1 ∧ t.get (Port.PULLED n) = 0
      ∧ Frame (.any [.fields [PORT_STAT.WIN n, Port.PULLED n], startFp n, endFp (0x30 + n)]) s t)
    ∧ (s.get (PORT_OVP.LEVEL n) = 0 → exec (.ovp n) s = .next s)
    ∧ (s.get (PORT_OVP.LEVEL n) ≠ 0 →
      ∃ t, exec (.ovp n) s = .next t ∧ t.get (Port.PULLED n) = 1 ∧ t.get (PORT_STAT.GATE_FULL n) = 0
      ∧ (muted s (0x30 + n) = false → (t.get (PAGE_FLT_STAT.CAUSE (0x30 + n))).testBit 2 = true)
      ∧ (t.get (PORT_STAT.STATE n) = 8 → s.get (PORT_STAT.STATE n) = 8)
      ∧ Frame (.any [.fields [PORT_STAT.WIN n, Port.PULLED n, CMB_PP_STAT.QUALIFIED (n / 12)], startFp n, raiseFp (0x30 + n)]) s t)
    ∧ (s.get (PORT_STAT.PRES n) = 0 →
      ∃ t, exec (.presenceAsserted n) s = .next t ∧ t.get (PORT_STAT.PRES n) = 1
      ∧ t.get (PORT_CNT1.PRES_CHG n) = min 65535 (s.get (PORT_CNT1.PRES_CHG n) + 1)
      ∧ (t.get (PAGE_IRQ_STAT.EVT (0x30 + n))).testBit 3 = true
      ∧ (portKind n = 3 → s.get (PORT_CTL.PRES_USE n) = 1 → t.get (Port.INS_T n) = 0 ∧ t.get (PORT_STAT.INS_DONE n) = 0)
      ∧ t.get (PORT_STAT.RETRY_RUN n) = s.get (PORT_STAT.RETRY_RUN n) ∧ t.get (PORT_STAT.TOGGLED n) = s.get (PORT_STAT.TOGGLED n)
      ∧ Frame (.any [.fields [PORT_STAT.PRES n, PORT_CNT1.PRES_CHG n, Port.INS_T n, PORT_STAT.INS_DONE n], startFp n]) s t)
    ∧ (s.get (PORT_STAT.PRES n) = 1 →
      ∃ t, exec (.presenceDeasserted n) s = .next t ∧ t.get (PORT_STAT.PRES n) = 0
      ∧ t.get (PORT_CNT1.PRES_CHG n) = min 65535 (s.get (PORT_CNT1.PRES_CHG n) + 1)
      ∧ (t.get (PAGE_IRQ_STAT.EVT (0x30 + n))).testBit 3 = true
      ∧ (portKind n = 3 → s.get (PORT_CTL.PRES_USE n) = 1 → s.get (Port.HELD n) = 0 → s.get (PORT_STAT.STATE n) = 5 →
          t.get (PORT_STAT.GATE_FULL n) = 0 ∧ t.sent.length = s.sent.length + 1
          ∧ (s.get (PORT_CTL.EN n) = 1 → t.get (PORT_STAT.STATE n) = 1))
      ∧ (portKind n = 2 → Frame (.fields [PORT_STAT.PRES n, PORT_CNT1.PRES_CHG n, PAGE_IRQ_STAT.EVT (0x30 + n)]) s t)
      ∧ t.get (PORT_STAT.RETRY_RUN n) = s.get (PORT_STAT.RETRY_RUN n) ∧ t.get (PORT_STAT.TOGGLED n) = s.get (PORT_STAT.TOGGLED n)
      ∧ Frame (.any [.fields [PORT_STAT.PRES n, PORT_CNT1.PRES_CHG n, PORT_STAT.WIN n, CMB_PP_STAT.QUALIFIED (n / 12)], startFp n]) s t)
    ∧ (served s = true → s.get (Port.HELD n) = 0 → s.get (PAGE_LOCK.CFG (0x30 + n)) = 0 →
      (keeperView s a = true ∨ (w.toNat / 16 % 2 = s.get (PORT_CTL.SAFE n) ∧ w.toNat / 8 % 2 = s.get (PORT_CTL.SLEEP_ON n)
        ∧ w.toNat / 256 % 256 = s.get (PORT_CTL.ANT_LEAD n))) →
      (w.getLsbD 0 = true → s.get (PORT_CTL.EN n) = 0 →
        ∃ t, exec (.portEnable a n w) s = .next t ∧ t.get (PORT_CTL.EN n) = 1
        ∧ (s.get (PORT_STAT.STATE n) = 8 → t.get (PORT_STAT.TOGGLED n) = bitOf (s.flag (PORT_STAT.TOGGLED n) || s.flag (Port.OFFSEEN n))
            ∨ t.get (PORT_STAT.STATE n) ≠ 8)
        ∧ (portKind n = 3 → s.get (PORT_STAT.STATE n) ≠ 8 → t.get (Port.INS_T n) = 0 ∧ t.get (PORT_STAT.INS_DONE n) = 0)
        ∧ Frame (.any [.fields [PORT_CTL.EN n, PORT_CTL.SAFE n, PORT_CTL.SLEEP_ON n, PORT_CTL.ANT_LEAD n], resumeFp n, accessFp a (0x30 + n)]) s t)
      ∧ (w.getLsbD 0 = false → s.get (PORT_CTL.EN n) = 1 →
        ∃ t, exec (.commandedTurnOff a n w) s = .next t ∧ t.get (PORT_CTL.EN n) = 0
        ∧ (s.get (PORT_STAT.STATE n) = 8 → t.get (Port.OFFSEEN n) = 1 ∧ t.get (PORT_STAT.STATE n) = 8)
        ∧ (portKind n = 3 → s.get (PORT_STAT.STATE n) = 5 → t.get (PORT_STAT.STATE n) = 7 ∧ t.get (PORT_STAT.PG n) = 0
            ∧ t.get (PORT_STAT.GATE_FULL n) = s.get (PORT_STAT.GATE_FULL n) ∧ t.sent.length = s.sent.length + 1)
        ∧ (portKind n ≠ 3 → s.get (PORT_STAT.STATE n) = 5 → t.get (PORT_STAT.STATE n) = 0 ∧ t.get (PORT_STAT.GATE_FULL n) = 0
            ∧ t.sent = s.sent)
        ∧ Frame (.any [.fields [PORT_CTL.EN n, PORT_CTL.SAFE n, PORT_CTL.SLEEP_ON n, PORT_CTL.ANT_LEAD n], resumeFp n, accessFp a (0x30 + n)]) s t))

/-- R264 to R269, R186: the start of a port from its insertion delay to power-good, and the end of a turn-off. -/
def Obligations.PortStart : Prop :=
  ∀ (s : State) (n : Fin 48),
    portActs s n = true →
    (portKind n = 3 → s.get (PORT_STAT.INS_DONE n) = 0 → (s.get (PORT_CTL.PRES_USE n) = 0 ∨ s.get (PORT_STAT.PRES n) = 1) →
      ∃ t, exec (.insDlyExpiry n) s = .next t ∧ t.get (PORT_STAT.INS_DONE n) = 1
      ∧ (s.get (PORT_STAT.STATE n) = 1 → s.get (Port.HELD n) = 0 → s.get (Port.SLEPT n) = 0 → portReady s n = true → t.get (PORT_STAT.STATE n) = 2)
      ∧ Frame (.any [.fields [PORT_STAT.INS_DONE n], startFp n]) s t)
    ∧ (portKind n = 3 → s.get (Port.HELD n) = 0 → combLive s (n / 12) = true → s.get (PORT_STAT.STATE n) = 2 →
      s.get (Port.PCG n) = 1 →
      ∃ t, exec (.prechargeStart n) s = .next t ∧ t.get (PORT_STAT.STATE n) = 3
      ∧ Frame (.fields [PORT_STAT.STATE n, Port.PCG_DONE n, Port.PCG_OVER n, Port.REV_OPEN n, PAGE_IRQ_STAT.EVT (0x30 + n)]) s t)
    ∧ (portKind n = 3 → s.get (Port.HELD n) = 0 → combLive s (n / 12) = true →
      ((s.get (PORT_STAT.STATE n) = 2 ∧ s.get (Port.PCG n) = 0)
        ∨ (s.get (PORT_STAT.STATE n) = 3 ∧ s.get (Port.MAIN n) = 1 ∧ s.get (Port.PCG_DONE n) = 1) →
        ∃ t, exec (.enhancementStart n) s = .next t ∧ t.get (PORT_STAT.STATE n) = 4
        ∧ t.get (PORT_STAT.GATE_OFF n) = 0 ∧ Frame (startFp n) s t)
      ∧ (s.get (PORT_STAT.STATE n) = 3 → s.get (Port.MAIN n) = 1 → s.get (Port.PCG_DONE n) = 0 →
        ∃ t, exec (.enhancementStart n) s = .next t ∧ t.get (PORT_STAT.STATE n) = 3 ∧ t.get (Port.PCG_OVER n) = 1
        ∧ t.sent.length = s.sent.length + 1 ∧ Frame (startFp n) s t))
    ∧ (portKind n = 3 → combLive s (n / 12) = false →
      exec (.prechargeStart n) s = .next s ∧ exec (.enhancementStart n) s = .next s)
    ∧ (s.get (PORT_STAT.STATE n) = 3 → s.get (Port.PCG_DONE n) = 0 →
      (∃ t, exec (.prechargeEnd n) s = .next t ∧ t.get (Port.PCG_DONE n) = 1
        ∧ (portKind n ≠ 3 → t.get (PORT_STAT.STATE n) = (if combLive s (n / 12) then 4 else 3))
        ∧ (portKind n = 3 → t.get (PORT_STAT.STATE n) = 3 ∧ t.sent.length = s.sent.length + s.get (Port.PCG_OVER n))
        ∧ Frame (startFp n) s t)
      ∧ (muted s (0x30 + n) = false →
        ∃ t, exec (.pcgFail n) s = .next t ∧ t.get (PORT_STAT.STATE n) = 8 ∧ t.get (PORT_STAT.TRIP_CAUSE n) = 4
        ∧ (t.get (PAGE_FLT_STAT.CAUSE (0x30 + n))).testBit 4 = true
        ∧ Frame (raiseFp (0x30 + n)) s t))
    ∧ (s.get (PORT_STAT.STATE n) = 4 →
      (∃ t, exec (.fullEnhancement n) s = .next t ∧ t.get (PORT_STAT.STATE n) = 5 ∧ t.get (PORT_STAT.GATE_FULL n) = 1
        ∧ t.get (PORT_STAT.GATE_OFF n) = 0 ∧ t.get (PORT_STAT.PG n) = s.get (PORT_STAT.PG n)
        ∧ Frame (.fields [PORT_STAT.STATE n, PORT_STAT.GATE_FULL n, PORT_STAT.GATE_OFF n, Port.TRANS n, Port.PG_RUN n,
            PAGE_IRQ_STAT.EVT (0x30 + n)]) s t)
      ∧ (muted s (0x30 + n) = false →
        ∃ t, exec (.gateRise n) s = .next t ∧ t.get (PORT_STAT.STATE n) = 8 ∧ t.get (PORT_STAT.TRIP_CAUSE n) = 3
        ∧ Frame (raiseFp (0x30 + n)) s t))
    ∧ (portKind n = 3 → s.get (PORT_STAT.STATE n) = 5 → s.get (Port.PG_RUN n) = 1 →
      ∃ t, exec (.pgAssert n) s = .next t ∧ t.get (PORT_STAT.PG n) = 1
      ∧ (s.get (PORT_STAT.PG n) = 0 → (t.get (PAGE_IRQ_STAT.EVT (0x30 + n))).testBit 1 = true)
      ∧ Frame (.fields [PORT_STAT.PG n, Port.PG_RUN n, PAGE_IRQ_STAT.EVT (0x30 + n)]) s t)
    ∧ (s.get (PORT_STAT.STATE n) = 7 → s.get (Port.HELD n) = 0 →
      ∃ t, exec (.pullDownStart n) s = .next t ∧ t.get (PORT_STAT.GATE_FULL n) = 0 ∧ t.get (PORT_STAT.STATE n) ≠ 7
      ∧ (s.get (PORT_CTL.EN n) = 0 → t.get (PORT_STAT.STATE n) = 0 ∧ t.get (Port.FALL n) = 1)
      ∧ Frame (startFp n) s t)
    ∧ (s.get (Port.FALL n) = 1 → portKind n = 1 → s.get (Port.OFF_CMD n) = 1 →
      ∃ t, exec (.gateFall n) s = .next t ∧ t.get (Arb.CHG (n / 12)) = 0 ∧ t.get (CMB_PP_STAT.BREAK (n / 12)) = 0
      ∧ t.get (CMB_PP_STAT.ACTIVE (n / 12)) = n % 12 ∧ t.get (Port.CMD n) = 1 ∧ t.get (Arb.STUCK (n / 12)) = n % 12 + 1
      ∧ (muted s (0x30 + n) = false → (t.get (PAGE_FLT_STAT.CAUSE (0x30 + n))).testBit 9 = true)
      ∧ Frame (.any [.fields [Arb.CHG (n / 12), Arb.STUCK (n / 12), CMB_PP_STAT.BREAK (n / 12), CMB_PP_STAT.ACTIVE (n / 12)],
          pairFp n, raiseFp (0x30 + n)]) s t)
    ∧ (s.get (Port.FALL n) = 1 → (portKind n ≠ 1 ∨ s.get (Port.OFF_CMD n) = 0) →
      ∃ t, exec (.gateFall n) s = .next t ∧ t.get (Port.FALL n) = 0
      ∧ (muted s (0x30 + n) = false → (t.get (PAGE_FLT_STAT.CAUSE (0x30 + n))).testBit 7 = true)
      ∧ Frame (.any [.fields [Port.FALL n], raiseFp (0x30 + n)]) s t)

/-- R257, R270 to R275, R278: the limit amplifier, the short circuit, the trip and its retry, the FET model and reverse
current. -/
def Obligations.PortLimitsAndTrips : Prop :=
  ∀ (s : State) (n : Fin 48) (which : Fin 4),
    portActs s n = true →
    ((s.get (PORT_STAT.STATE n) = 4 ∨ s.get (PORT_STAT.STATE n) = 5) →
      ∃ t, exec (.limit n) s = .next t ∧ t.get (PORT_STAT.STATE n) = 6 ∧ t.get (Port.FT n) = 1
      ∧ t.get (PORT_STAT.GATE_FULL n) = 0 ∧ t.get (PORT_STAT.PG n) = 0
      ∧ t.get (PORT_CNT1.LIMITS n) = min 65535 (s.get (PORT_CNT1.LIMITS n) + 1)
      ∧ (t.get (PAGE_IRQ_STAT.EVT (0x30 + n))).testBit 5 = true
      ∧ Frame (.fields [PORT_STAT.STATE n, Port.FT n, PORT_STAT.GATE_FULL n, PORT_STAT.PG n, Port.PG_RUN n, PORT_CNT1.LIMITS n,
          Port.ENH n, Port.TRANS n, PAGE_IRQ_STAT.EVT (0x30 + n)]) s t)
    ∧ (s.get (PORT_STAT.STATE n) = 7 → exec (.limit n) s = .next s)
    ∧ (s.get (PORT_STAT.STATE n) = 6 →
      ∃ t, exec (.limitRelease n) s = .next t ∧ t.get (Port.FT n) = 2
      ∧ t.get (PORT_STAT.STATE n) = (if s.flag (Port.ENH n) then 4 else 5)
      ∧ (s.get (Port.ENH n) = 0 → t.get (PORT_STAT.GATE_FULL n) = 1)
      ∧ Frame (.fields [PORT_STAT.STATE n, Port.FT n, PORT_STAT.GATE_FULL n, PORT_STAT.GATE_OFF n, Port.PG_RUN n, Port.ENH n,
          Port.TRANS n, PAGE_IRQ_STAT.EVT (0x30 + n)]) s t)
    ∧ (s.get (PORT_STAT.STATE n) = 9 →
      ∃ t, exec (.limitRelease n) s = .next t ∧ t.get (PORT_STAT.STATE n) = 5 ∧ t.get (PORT_STAT.GATE_FULL n) = 1
      ∧ t.get (Port.FT n) = s.get (Port.FT n)
      ∧ Frame (.fields [PORT_STAT.STATE n, Port.FT n, PORT_STAT.GATE_FULL n, PORT_STAT.GATE_OFF n, Port.PG_RUN n, Port.ENH n,
          Port.TRANS n, PAGE_IRQ_STAT.EVT (0x30 + n)]) s t)
    ∧ (s.get (PORT_STAT.STATE n) = 6 → s.get (Port.FT n) = 1 → muted s (0x30 + n) = false →
      ∃ t, exec (.ocTrip n) s = .next t ∧ t.get (PORT_STAT.STATE n) = 8 ∧ t.get (PORT_STAT.TRIP_CAUSE n) = 1
      ∧ t.get (PORT_CNT.TRIPS n) = min 65535 (s.get (PORT_CNT.TRIPS n) + 1) ∧ t.get (PORT_CNT.SC n) = s.get (PORT_CNT.SC n)
      ∧ t.get (PORT_STAT.TOGGLED n) = 0 ∧ t.get (PORT_STAT.RETRY_RUN n) = 1
      ∧ Frame (raiseFp (0x30 + n)) s t)
    ∧ (muted s (0x30 + n) = false →
      ∃ t, exec (.short n) s = .next t ∧ t.get (PORT_STAT.STATE n) = 8 ∧ t.get (PORT_STAT.GATE_FULL n) = 0
      ∧ (s.get (PORT_STAT.STATE n) ≠ 8 → t.get (PORT_STAT.TRIP_CAUSE n) = 0
          ∧ t.get (PORT_CNT.SC n) = min 65535 (s.get (PORT_CNT.SC n) + 1))
      ∧ Frame (raiseFp (0x30 + n)) s t)
    ∧ (s.get (PORT_STAT.RETRY_RUN n) = 1 → retryOver s n = false → exec (.retryDone n) s = .next s)
    ∧ (s.get (PORT_STAT.RETRY_RUN n) = 1 → 100 * max 1 (s.get (PORT_RETRY.MIN n)) ≤ s.get (PORT_RETRY_STAT.ELAPSED n) →
      s.int (Port.AMB n) < 10 * toSigned 8 (s.get (PORT_RETRY.T_OK n)) →
      s.int (Port.AMB n) + fetExcess s n ≤ 10 * toSigned 8 (s.get (PORT_RETRY.T_OK n)) →
      ∃ t, exec (.retryDone n) s = .next t ∧ t.get (PORT_STAT.RETRY_RUN n) = 0
      ∧ (t.get (PAGE_IRQ_STAT.EVT (0x30 + n))).testBit 4 = true
      ∧ (s.get (PORT_STAT.TOGGLED n) = 0 → t.get (PORT_STAT.STATE n) = s.get (PORT_STAT.STATE n))
      ∧ (s.get (PORT_STAT.TOGGLED n) = 1 → t.get (PORT_STAT.STATE n) ≠ 8)
      ∧ Frame (.any [.fields [PORT_STAT.RETRY_RUN n, PORT_RETRY_STAT.RUN n], resumeFp n]) s t)
    ∧ (∃ t, exec (.modelStep n) s = .next t ∧ t.get (Thm.NEW (40 + n)) = 1
      ∧ (s.get (PORT_CTL.TD_USE n) = 0 → t.get (PORT_FET_T.DIODE n) = 0
          ∧ t.get (PORT_FET_T.T_FET n) = ofSigned 16 (s.int (Port.AMB n) + fetExcess t n))
      ∧ Frame (.fields [Thm.NEW (40 + n), PORT_FET_T.DIODE n, PORT_FET_T.T_FET n, Port.DT n 0, Port.DT n 1, Port.DT n 2, Port.TRANS n]) s t)
    ∧ (∃ t, exec (.modelInputStale n which) s = .next t ∧ t.get (Port.STALE n which) = 1 ∧ Frame (.fields [Port.STALE n which]) s t)
    ∧ (portKind n = 2 → chargePermitted s n = true → exec (.revHold n) s = .next s)
    ∧ (portKind n = 2 → (s.get (PORT_STAT.STATE n) = 5 ∨ s.get (PORT_STAT.STATE n) = 6) → chargePermitted s n = false →
      ∃ t, exec (.revHold n) s = .next t ∧ t.get (PORT_STAT.STATE n) = 9 ∧ (t.get (PAGE_IRQ_STAT.EVT (0x30 + n))).testBit 6 = true
      ∧ t.get (PORT_STAT.GATE_FULL n) = 0
      ∧ (s.get (Port.FT n) ≠ 1 → t.get (Port.FT n) = s.get (Port.FT n)) ∧ (s.get (Port.FT n) = 1 → t.get (Port.FT n) = 2)
      ∧ Frame (.fields [PORT_STAT.STATE n, Port.FT n, PORT_STAT.GATE_FULL n, Port.TRANS n, PAGE_IRQ_STAT.EVT (0x30 + n)]) s t)
    ∧ (s.get (PORT_STAT.STATE n) = 9 →
      ∃ t, exec (.reverse n) s = .next t ∧ t.get (Port.REV_OPEN n) = 1 ∧ t.get (PORT_STAT.STATE n) = 1
      ∧ t.get (PORT_STAT.GATE_FULL n) = 0
      ∧ (muted s (0x30 + n) = false → (t.get (PAGE_FLT_STAT.CAUSE (0x30 + n))).testBit 13 = true)
      ∧ Frame (.any [.fields [Port.REV_OPEN n], startFp n, raiseFp (0x30 + n)]) s t)

/-- R287 to R291, R300, R303: attach, detach, role toggling, the entry to duty and its end, error recovery, the opening of
the switch and the discharge of the connector. -/
def Obligations.PdConnection : Prop :=
  ∀ (s : State) (c : Fin 4) (cc2 : Bool) (rp : Fin 4),
    pdActs s c = true →
    (1 ≤ s.get (PDP_STAT.CC_STATE c) → s.get (PDP_STAT.CC_STATE c) ≤ 4 → s.get (Pd.CC_OFF c) = 0 →
      (s.get (PDP_CTL.ROLE c) ≠ 1 → (foragerRuns s c = false ∨ s.get (PDP_STAT.VBUS_PRES c) = 1) →
        ∃ t, exec (.attach c 0 cc2 rp) s = .next t ∧ t.get (PDP_STAT.CC_STATE c) = 5 ∧ t.get (PDP_STAT.ATTACH_ROLE c) = 0
        ∧ t.get (PDP_STAT.PWR_ROLE c) = 0 ∧ t.get (PDP_STAT.POLARITY c) = bitOf cc2 ∧ t.get (PDP_STAT.RP_SEEN c) = rp.val
        ∧ t.get (Pd.RP c) = 0 ∧ t.get (Pd.RD c) = 1 ∧ t.get (PDP_STAT.DEADBAT c) = s.get HIVE_BOOT_STAT.DEADBAT
        ∧ (t.get (PAGE_IRQ_STAT.EVT (0x60 + c))).testBit 8 = true ∧ (∀ i : Fin 3, t.get (Pd.MSGID c i) = 0)
        ∧ (s.get (PDP_CTL.FRS_ARM c) = 1 → inSafeBoot s = false → s.get (Pd.SRCON c) = 0 → s.get (PDP_STAT.DUTY c) = 0 →
            dutyPossible s c = true → t.get (Pd.REQ c) = 1)
        ∧ (s.get (PDP_CTL.FRS_ARM c) = 0 → t.get (Pd.REQ c) = s.get (Pd.REQ c))
        ∧ Frame (attachFp c) s t)
      ∧ (s.get (PDP_CTL.ROLE c) ≠ 1 → foragerRuns s c = true → s.get (PDP_STAT.VBUS_PRES c) = 0 →
        ∃ t, exec (.attach c 0 cc2 rp) s = .next t ∧ t.get (PDP_STAT.CC_STATE c) = 3 ∧ t.get (Pd.WAIT_CC2 c) = bitOf cc2
        ∧ t.get (Pd.WAIT_RP c) = rp.val ∧ Frame (.fields [PDP_STAT.CC_STATE c, Pd.WAIT_CC2 c, Pd.WAIT_RP c]) s t)
      ∧ (pdMaySource s c = true → s.get (Port.VS (pdPort c)) ≤ 80 →
        ∃ t, exec (.attach c 1 cc2 rp) s = .next t
        ∧ (t.get (PAGE_IRQ_STAT.EVT (0x60 + c))).testBit 8 = true ∧ t.get (PDP_STAT.ATTACH_ROLE c) = 1
        ∧ (∀ i : Fin 3, t.get (Pd.MSGID c i) = 0)
        ∧ (s.get (PDP_STAT.DUTY c) = 0 → dutyPossible s c = true → t.get (PDP_STAT.CC_STATE c) = 6 ∧ t.get (PDP_STAT.PWR_ROLE c) = 1
            ∧ t.get (Pd.RP c) = 1 ∧ t.get (Pd.RD c) = 0 ∧ t.get (Pd.REQ c) = 1 ∧ t.get (Pd.VCONN c) = s.get (PDP_CTL.VCONN c))
        ∧ (s.get (PDP_STAT.DUTY c) = 0 → dutyPossible s c = false → muted s (0x60 + c) = false →
            (s.get (Flt.PRESENT (0x60 + c))).testBit 3 = false →
            (t.get (PAGE_FLT_STAT.CAUSE (0x60 + c))).testBit 3 = true)
        ∧ Frame (attachFp c) s t)
      ∧ (pdMaySource s c = true → 80 < s.get (Port.VS (pdPort c)) →
        ∃ t, exec (.attach c 1 cc2 rp) s = .next t ∧ t.get (PDP_STAT.CC_STATE c) = 4 ∧ t.get (Pd.WAIT_CC2 c) = bitOf cc2
        ∧ Frame (.fields [PDP_STAT.CC_STATE c, Pd.WAIT_CC2 c]) s t)
      ∧ (∃ t, exec (.attach c 2 cc2 rp) s = .next t ∧ t.get (PDP_STAT.CC_STATE c) = 8 ∧ t.get (PDP_STAT.POLARITY c) = bitOf cc2
        ∧ (t.get (PAGE_IRQ_STAT.EVT (0x60 + c))).testBit 8 = true ∧ Frame (attachFp c) s t))
    ∧ (pdAttached s c = true →
      ∃ t, exec (.detach c) s = .next t
      ∧ (t.get (PDP_STAT.CC_STATE c) = 1 ∨ (t.get (PDP_STAT.CC_STATE c) = 2 ∧ s.get (PDP_CTL.ROLE c) = 1))
      ∧ t.get (PDP_CTL.CONTRACT c) = 0 ∧ t.get (Pd.REF c) = 0 ∧ t.get (Pd.TR c) = 0 ∧ t.get (PDP_STAT.TRANS c) = 0
      ∧ (∀ i : Fin 8, t.get (PDP_TMR.RUN c i) = 0) ∧ (t.get (PAGE_IRQ_STAT.EVT (0x60 + c))).testBit 9 = true
      ∧ ((s.get (PORT_PD_STAT.STATE c) = 1 ∨ s.get (PORT_PD_STAT.STATE c) = 2) → t.get (PORT_PD_STAT.STATE c) = 3)
      ∧ t.antq[c].all (fun r => slice r.word 4 6 != pdPort c) = true
      ∧ t.get (PDP_STAT.ATTACH_ROLE c) = s.get (PDP_STAT.ATTACH_ROLE c) ∧ t.get (PDP_STAT.POLARITY c) = s.get (PDP_STAT.POLARITY c)
      ∧ t.get (PDP_STAT.DUTY c) = s.get (PDP_STAT.DUTY c)
      ∧ Frame (.any [.fields ((List.range 8).map (PDP_TMR.RUN c)), attachFp c]) s t)
    ∧ (s.get (PDP_CTL.EN c) = 1 → s.get (PDP_CTL.ROLE c) = 2 → pdMaySource s c = true →
        (s.get (PDP_STAT.CC_STATE c) = 1 ∨ s.get (PDP_STAT.CC_STATE c) = 2) →
      ∃ t, exec (.roleToggle c) s = .next t ∧ t.get (PDP_STAT.CC_STATE c) = 3 - s.get (PDP_STAT.CC_STATE c)
      ∧ t.get (Pd.RP c) = 2 - s.get (PDP_STAT.CC_STATE c) ∧ t.get (Pd.RD c) = s.get (PDP_STAT.CC_STATE c) - 1
      ∧ Frame (.fields [PDP_STAT.CC_STATE c, Pd.RP c, Pd.RD c]) s t)
    ∧ ((s.get (Pd.REQ c) = 0 ∨ dutyPossible s c = false ∨ dutyIssued s c = false) → exec (.dutyEntry c) s = .next s)
    ∧ (s.get (Pd.REQ c) = 1 → dutyPossible s c = true → dutyIssued s c = true →
      ∃ t, exec (.dutyEntry c) s = .next t ∧ t.get (PDP_STAT.DUTY c) = 1 ∧ t.get (Pd.REQ c) = 0
      ∧ (t.get (PAGE_IRQ_STAT.EVT (0x60 + c))).testBit 13 = true
      ∧ (s.get (Port.PAR_OK (pdPort c)) = 1 → classActed s (pdPage c) 2 = false → portClockLost s (pdPort c) = false →
          s.get (PORT_PD_STAT.STATE c) = 0 → t.get (PORT_PD_STAT.STATE c) = 1)
      ∧ (s.get (Pd.HR c) = 0 → s.get (PDP_STAT.CC_STATE c) = 6 → t.get (Pd.RAMP c) = 1 ∧ t.get (Pd.GOAL c) = 5000)
      ∧ (s.get (Pd.HR c) = 0 → s.get (PDP_STAT.CC_STATE c) = 5 → s.get (PDP_CTL.FRS_ARM c) = 1 → s.get (Pd.SRCON c) = 0 →
          t.get (Pd.REF c) = 4900 ∧ t.get (Pd.RAMP c) = 0)
      ∧ Frame (.fields [PDP_STAT.DUTY c, Pd.REQ c, Pd.REF c, Pd.RAMP c, Pd.GOAL c, Pd.SW_PEND c, PDP_STAT.SW_ON c,
          PORT_PD_STAT.STATE c, PAGE_IRQ_STAT.EVT (0x60 + c), PAGE_IRQ_STAT.EVT (pdPage c)]) s t)
    ∧ (s.get (PDP_STAT.DUTY c) = 1 → s.get (PDP_CTL.FRS_ARM c) = 0 → pdOff s c = true →
      ((s.get (PDP_STAT.CC_STATE c) = 0 ∨ s.get (PDP_STAT.CC_STATE c) = 5 ∨ s.get (PDP_STAT.CC_STATE c) = 7) ∨
        (1 ≤ s.get (PDP_STAT.CC_STATE c) ∧ s.get (PDP_STAT.CC_STATE c) ≤ 4 ∧ s.get (Port.VS (pdPort c)) ≤ 80)) →
      ∃ t, exec (.pdRelease c) s = .next t ∧ t.get (PDP_STAT.DUTY c) = 0 ∧ (t.get (PAGE_IRQ_STAT.EVT (0x60 + c))).testBit 13 = true
      ∧ Frame (.fields [PDP_STAT.DUTY c, PAGE_IRQ_STAT.EVT (0x60 + c)]) s t)
    ∧ ((s.get (PDP_CTL.FRS_ARM c) = 1 ∨ s.get (PORT_PD_STAT.STATE c) = 2 ∨ s.get (PDP_STAT.CC_STATE c) = 6) →
      exec (.pdRelease c) s = .next s)
    ∧ (s.get (PDP_STAT.CC_STATE c) = 7 → s.get (Pd.DIS c) = 1 →
      ∃ t, exec (.errorRecoveryEnd c) s = .next t ∧ t.get (Pd.ERR_OVER c) = 1 ∧ t.get (PDP_STAT.CC_STATE c) = 7
      ∧ Frame (.fields [Pd.ERR_OVER c]) s t)
    ∧ (s.get (PDP_STAT.CC_STATE c) = 7 → s.get (Pd.DIS c) = 0 →
      ∃ t, exec (.errorRecoveryEnd c) s = .next t ∧ t.get (PDP_STAT.CC_STATE c) ≠ 7 ∧ t.get (Pd.ERR_OVER c) = 0
      ∧ (s.get (PDP_CTL.EN c) = 1 → s.get (PORT_PD_STAT.STATE c) ≠ 5 → pdBarred s c = false →
          (t.get (PDP_STAT.CC_STATE c) = 1 ∨ (t.get (PDP_STAT.CC_STATE c) = 2 ∧ s.get (PDP_CTL.ROLE c) = 1)))
      ∧ (s.get (PDP_CTL.EN c) = 0 → t.get (PDP_STAT.CC_STATE c) = 0 ∧ t.get (Pd.RD c) = 1)
      ∧ Frame (.fields [PDP_STAT.CC_STATE c, Pd.RP c, Pd.RD c, PDP_STAT.RP_SEEN c, PDP_STAT.DEADBAT c, Pd.ERR_OVER c]) s t)
    ∧ (s.get (PORT_PD_STAT.STATE c) = 3 → portClockLost s (pdPort c) = false →
      ∃ t, exec (.switchOpen c) s = .next t ∧ t.get (PORT_PD_STAT.STATE c) = 4 ∧ t.get (Pd.DIS c) = 1 ∧ t.get (PDP_STAT.SW_ON c) = 0
      ∧ (t.get (PAGE_IRQ_STAT.EVT (pdPage c))).testBit 0 = true
      ∧ Frame (.fields [PORT_PD_STAT.STATE c, PDP_STAT.SW_ON c, Pd.DIS c, PAGE_IRQ_STAT.EVT (pdPage c)]) s t)
    ∧ (s.get (PORT_PD_STAT.STATE c) = 3 → portClockLost s (pdPort c) = true →
      ∃ t, exec (.switchOpen c) s = .next t ∧ t.get (Pd.SW_PEND c) = 5 ∧ Frame (.fields [Pd.SW_PEND c]) s t)
    ∧ (s.get (PORT_PD_STAT.STATE c) ≠ 3 → exec (.switchOpen c) s = .next s)
    ∧ (∃ t, exec (.vsafe0v c) s = .next t ∧ t.get (Pd.DIS c) = 0
      ∧ (s.get (PORT_PD_STAT.STATE c) = 4 → s.get (Pd.SRCOFF c) = 0 → portClockLost s (pdPort c) = false →
          t.get (PORT_PD_STAT.STATE c) = 0)
      ∧ (s.get (Pd.SRCOFF c) ≠ 0 → t.get (PDP_STAT.CC_STATE c) = 5 ∧ t.get (PDP_STAT.PWR_ROLE c) = 0 ∧ t.get (Pd.RP c) = 0
          ∧ t.get (Pd.RD c) = 1 ∧ t.get (Pd.SRCOFF c) = 0
          ∧ (s.get (PDP_CTL.FRS_ARM c) = 0 → portClockLost s (pdPort c) = false → t.get (PORT_PD_STAT.STATE c) = 0))
      ∧ (s.get (Pd.SRCOFF c) = 1 → (t.get (PAGE_IRQ_STAT.EVT (0x60 + c))).testBit 11 = true)
      ∧ (s.get (Pd.SRCOFF c) = 0 → s.get (PDP_STAT.CC_STATE c) = 7 → s.get (Pd.ERR_OVER c) = 1 → t.get (PDP_STAT.CC_STATE c) ≠ 7)
      ∧ Frame (.any [attachFp c, endFp (pdPage c)]) s t)
    ∧ (s.get (Pd.DIS c) = 1 → muted s (pdPage c) = false → (s.get (Flt.PRESENT (pdPage c))).testBit 9 = false →
      ∃ t, exec (.discharge c) s = .next t ∧ (t.get (PAGE_FLT_STAT.CAUSE (pdPage c))).testBit 9 = true
      ∧ Frame (raiseFp (pdPage c)) s t)
    ∧ (s.get (Pd.DIS c) = 0 → exec (.discharge c) s = .next s)

/-- R292, R293, R300, R305: the enable of a PD port, and the transitions of VBUS in duty. R299, R300, R308: the protective
responses of a PD port. -/
def Obligations.PdEnableVbusAndProtection : Prop :=
  (∀ (s : State) (a : Access) (c : Fin 4) (w : BitVec 32),
    (served s = true → pdActs s c = true → s.get (PAGE_LOCK.CFG (0x60 + c)) = 0 →
      (keeperView s a = true →
        ∃ t, exec (.pdEnable a c w) s = .next t ∧ t.get (PDP_CTL.EN c) = bitOf (w.getLsbD 0)
        ∧ t.get (PDP_CTL.ROLE c) = w.toNat / 4 % 4 ∧ t.get (PDP_CTL.RP c) = w.toNat / 2 ^ 22 % 4
        ∧ (s.get (PDP_CTL.EN c) = 1 → w.getLsbD 0 = false → t.get (PDP_STAT.CC_STATE c) = 0 ∧ t.get (Pd.RP c) = 0 ∧ t.get (Pd.RD c) = 1
            ∧ (pdAttached s c = true → (t.get (PAGE_IRQ_STAT.EVT (0x60 + c))).testBit 9 = true ∧ t.get (Pd.REF c) = 0
                ∧ t.get (PDP_CTL.CONTRACT c) = 0))
        ∧ (s.get (PDP_CTL.EN c) = 0 → w.getLsbD 0 = true → s.get (PDP_STAT.CC_STATE c) = 0 → pdBarred s c = false →
            ((s.get (PORT_PD_STAT.STATE c) ≠ 5 ∨ s.get (Pd.LATCH_OFF c) = 1) →
              t.get (PDP_STAT.CC_STATE c) = 1 ∨ (t.get (PDP_STAT.CC_STATE c) = 2 ∧ w.toNat / 4 % 4 = 1))
            ∧ (s.get (PORT_PD_STAT.STATE c) = 5 → s.get (Pd.LATCH_OFF c) = 1 → t.get (PORT_PD_STAT.STATE c) = 0)
            ∧ (s.get (PORT_PD_STAT.STATE c) = 5 → s.get (Pd.LATCH_OFF c) = 0 → t.get (PORT_PD_STAT.STATE c) = 5 ∧ t.get (PDP_STAT.CC_STATE c) = 0))
        ∧ Frame (.any [.fields ([PDP_CTL.EN c, PDP_CTL.ROLE c, PDP_CTL.SOP_EN c, PDP_CTL.VCONN c, PDP_CTL.FRS_ARM c, PDP_CTL.EPR c,
            PDP_CTL.RP c] ++ (List.range 8).map (PDP_TMR.RUN c)), attachFp c, raiseFp (0x60 + c), accessFp a (0x60 + c)]) s t)
      ∧ (keeperView s a = false → w.toNat / 4 % 4 = s.get (PDP_CTL.ROLE c) → w.getLsbD 0 = true → s.get (PDP_CTL.EN c) = 0 →
        ∃ t, exec (.pdEnable a c w) s = .next t ∧ t.get (PDP_CTL.EN c) = 0 ∧ t.get (PAGE_STAT.REFUSED (0x60 + c)) = 1))
    ∧ (served s = true → pdActs s c = true → s.get (PAGE_LOCK.CFG (0x60 + c)) = 0 →
      (keeperView s a = true ∨ w.toNat / 65536 % 4096 = s.get (PDP_VBUS.CEIL c)) →
      w.toNat % 4096 ≤ w.toNat / 65536 % 4096 → (w.toNat % 4096 ≤ 1000 ∨ s.get (PDP_CTL.EPR c) = 1) →
      ∃ t, exec (.transition a c w) s = .next t ∧ t.get (PDP_VBUS.TGT c) = w.toNat % 4096
      ∧ (s.get (PDP_STAT.DUTY c) = 0 → t.sent = s.sent ∧ t.get (Pd.TR c) = s.get (Pd.TR c))
      ∧ (s.get (PDP_STAT.DUTY c) = 1 → classActed s (0x60 + c) 2 = false → s.get (Pd.TR c) = 0 → vbusTgt t c ≠ vbusTgt s c →
          t.get (PDP_STAT.TRANS c) = 1
          ∧ (s.get (PDP_TRANS.ARM_TX c) = 1 → t.get (Pd.TR c) = 3 ∧ t.sent = s.sent)
          ∧ (s.get (PDP_TRANS.ARM_TX c) = 0 → t.get (Pd.TR c) = 1 ∧ t.sent.length = s.sent.length + 1))
      ∧ t.get (Pd.REF c) = s.get (Pd.REF c)
      ∧ Frame (.any [.fields [PDP_VBUS.TGT c, PDP_VBUS.CEIL c, Pd.TR c, PDP_STAT.TRANS c, Pd.TIME_TOT c, Pd.AMP_TOT c], pdSegmentFp c,
          accessFp a (0x60 + c)]) s t)
    ∧ (served s = true → s.get (PAGE_LOCK.CFG (0x60 + c)) = 0 → s.get (PDP_CTL.EPR c) = 0 → 1000 < w.toNat % 4096 →
        w.toNat % 4096 ≠ s.get (PDP_VBUS.TGT c) →
      ∃ t, exec (.transition a c w) s = .next t ∧ t.get (PDP_VBUS.TGT c) = s.get (PDP_VBUS.TGT c) ∧ t.get (PAGE_STAT.REFUSED (0x60 + c)) = 1)
    ∧ (pdActs s c = true →
      (s.get (Pd.TR c) = 1 → ∃ t, exec (.transitionStart c) s = .next t ∧ t.get (Pd.TR c) = 2 ∧ t.get (PDP_STAT.TRANS c) = s.get (PDP_STAT.TRANS c)
        ∧ Frame (.fields [Pd.TR c, Pd.RAMP c, Pd.DIS c]) s t)
      ∧ (s.get (Pd.TR c) = 2 → ∃ t, exec (.transDone c) s = .next t ∧ t.get (Pd.TR c) = 0 ∧ t.get (PDP_STAT.TRANS c) = 0
        ∧ t.get (Pd.REF c) = (20 * vbusTgt s c) % 65536 ∧ (t.get (PAGE_IRQ_STAT.EVT (0x60 + c))).testBit 11 = true
        ∧ Frame (.fields [Pd.TR c, PDP_STAT.TRANS c, Pd.REF c, Pd.DIS c, PAGE_IRQ_STAT.EVT (0x60 + c)]) s t)))
  ∧ (∀ (s : State) (c : Fin 4),
    muted s (pdPage c) = false → muted s (0x60 + c) = false → pdActs s c = true → portClockLost s (pdPort c) = false →
    s.get (PORT_PD_STAT.STATE c) ≠ 5 →
    (∃ t, exec (.pdShortCircuit c) s = .next t ∧ t.get (PORT_PD_STAT.TRIP_CAUSE c) = 0 ∧ t.get (Pd.REF c) = 0
      ∧ (t.get (PAGE_IRQ_STAT.EVT (pdPage c))).testBit 2 = true ∧ (t.get (PAGE_IRQ_STAT.EVT (0x60 + c))).testBit 14 = true
      ∧ t.get (PDP_CNT.TRIPS c) = min 255 (s.get (PDP_CNT.TRIPS c) + 1) ∧ (t.get (PAGE_FLT_STAT.CAUSE (pdPage c))).testBit 0 = true
      ∧ (t.get (PORT_PD_STAT.TRIPS10 c) < 3 → t.get (PDP_STAT.CC_STATE c) = 7 ∧ t.get (PDP_STAT.HR_CODE c) = 5
          ∧ t.get (Pd.RP c) = 0 ∧ t.get (Pd.RD c) = 0
          ∧ (portClockLost s (pdPort c) = false → t.get (PORT_PD_STAT.STATE c) = 4 ∧ t.get (Pd.DIS c) = 1))
      ∧ (t.get (PORT_PD_STAT.TRIPS10 c) = 3 → t.get (PDP_STAT.CC_STATE c) = 0 ∧ t.get (PORT_PD_STAT.STATE c) = 5
          ∧ t.get (Pd.RP c) = 0 ∧ t.get (Pd.RD c) = 1 ∧ (t.get (PAGE_FLT_STAT.CAUSE (0x60 + c))).testBit 5 = true)
      ∧ Frame (raiseFp (pdPage c)) s t)
    ∧ (∃ t, exec (.pdOverVoltage c) s = .next t ∧ t.get (PORT_PD_STAT.TRIP_CAUSE c) = 2
      ∧ (t.get (PAGE_FLT_STAT.CAUSE (pdPage c))).testBit 2 = true ∧ t.get (PDP_STAT.SW_ON c) = 0 ∧ Frame (raiseFp (pdPage c)) s t)
    ∧ (s.get (PORT_PD_STAT.STATE c) = 2 →
      (∃ t, exec (.pdOverCurrent c) s = .next t ∧ t.get (PORT_PD_STAT.TRIP_CAUSE c) = 1
        ∧ (t.get (PAGE_FLT_STAT.CAUSE (pdPage c))).testBit 1 = true ∧ t.get (PDP_STAT.SW_ON c) = 0 ∧ Frame (raiseFp (pdPage c)) s t)
      ∧ (∃ t, exec (.pdReverseCurrent c) s = .next t ∧ t.get (PORT_PD_STAT.TRIP_CAUSE c) = 3
        ∧ (t.get (PAGE_FLT_STAT.CAUSE (pdPage c))).testBit 3 = true ∧ t.get (PDP_STAT.SW_ON c) = 0 ∧ Frame (raiseFp (pdPage c)) s t))
    ∧ (s.get (PORT_PD_STAT.STATE c) = 1 →
      ∃ t, exec (.pdGateRise c) s = .next t ∧ t.get (PORT_PD_STAT.TRIP_CAUSE c) = 4
      ∧ (t.get (PAGE_FLT_STAT.CAUSE (pdPage c))).testBit 4 = true ∧ Frame (raiseFp (pdPage c)) s t)
    ∧ (∃ t, exec (.ccOvp c) s = .next t ∧ t.get (Pd.CC_OFF c) = 1 ∧ t.get (Pd.VCONN c) = 0
      ∧ t.get (PDP_CNT.TRIPS c) = min 255 (s.get (PDP_CNT.TRIPS c) + 1) ∧ (t.get (PAGE_IRQ_STAT.EVT (0x60 + c))).testBit 14 = true
      ∧ (t.get (PAGE_FLT_STAT.CAUSE (0x60 + c))).testBit 0 = true ∧ Frame (raiseFp (0x60 + c)) s t)
    ∧ (s.get (Pd.VCONN c) = 1 →
      ∃ t, exec (.vconnOc c) s = .next t ∧ t.get (Pd.VCONN c) = 0 ∧ (t.get (PAGE_IRQ_STAT.EVT (0x60 + c))).testBit 14 = true
      ∧ (t.get (PAGE_FLT_STAT.CAUSE (0x60 + c))).testBit 1 = true ∧ Frame (raiseFp (0x60 + c)) s t))

/-- R293 to R295, R298: messages of a PD port, its buffers, and the host timers. -/
def Obligations.PdMessagesAndTimers : Prop :=
  ∀ (s : State) (a : Access) (c : Fin 4) (w : BitVec 32) (n : Fin 8) (bytes : List (BitVec 8)),
    pdActs s c = true → served s = true → s.get (PAGE_LOCK.CFG (0x60 + c)) = 0 →
    (pdAttached s c = true → s.get (Pd.TX c) = 0 →
      (inSafeBoot s = true → ∀ ok : Bool, exec (.rxMsg c 0 bytes ok false) s = .next s)
      ∧ (inSafeBoot s = false → s.rx[c].length < 2 → s.get (Pd.MSGID c 0) ≠ messageId bytes + 1 →
        ∃ t, exec (.rxMsg c 0 bytes true false) s = .next t ∧ t.rx[c] = s.rx[c] ++ [(0, bytes)]
        ∧ t.get (PDP_RX_STAT.COUNT c) = s.rx[c].length + 1 ∧ (t.get (PAGE_IRQ_STAT.EVT (0x60 + c))).testBit 0 = true
        ∧ t.sent.length = s.sent.length + 1 ∧ t.get (Pd.MSGID c 0) = messageId bytes + 1
        ∧ Frame (.any [.fields [PDP_RX_STAT.COUNT c, PDP_RX_STAT.SOP c, PDP_RX_STAT.LEN c, Pd.MSGID c 0,
            PAGE_IRQ_STAT.EVT (0x60 + c)], .parts [.rx c, .sent]]) s t)
      ∧ (inSafeBoot s = false → s.rx[c].length < 2 → s.get (Pd.MSGID c 0) = messageId bytes + 1 →
        ∃ t, exec (.rxMsg c 0 bytes true false) s = .next t ∧ t.sent.length = s.sent.length + 1 ∧ Frame (.parts [.sent]) s t)
      ∧ (inSafeBoot s = false → s.rx[c].length = 2 →
        ∃ t, exec (.rxMsg c 0 bytes true false) s = .next t ∧ t.get (PDP_RX_STAT.OVF c) = 1 ∧ Frame (.fields [PDP_RX_STAT.OVF c]) s t)
      ∧ (inSafeBoot s = false →
        ∃ t, exec (.rxMsg c 0 bytes false false) s = .next t
        ∧ t.get (PDP_CNT.CRC_ERR c) = min 255 (s.get (PDP_CNT.CRC_ERR c) + 1) ∧ Frame (.fields [PDP_CNT.CRC_ERR c]) s t))
    ∧ (pdAttached s c = true → s.get (Pd.TX c) = 1 → inSafeBoot s = false →
      ∃ t, exec (.rxMsg c 0 bytes false true) s = .next t ∧ t.get (Pd.TX c) = 0 ∧ (t.get (PAGE_IRQ_STAT.EVT (0x60 + c))).testBit 3 = true
      ∧ Frame (.fields [Pd.TX c, PDP_CNT.CRC_ERR c, PAGE_IRQ_STAT.EVT (0x60 + c)]) s t)
    ∧ (s.get (Pd.TX c) = 1 →
      (∃ t, exec (.txOk c) s = .next t ∧ t.get (Pd.TX c) = 0 ∧ (t.get (PAGE_IRQ_STAT.EVT (0x60 + c))).testBit 1 = true
        ∧ (s.get (Pd.TR c) = 3 → t.get (Pd.TR c) = 1 ∧ t.sent.length = s.sent.length + 1)
        ∧ (s.get (Pd.TR c) ≠ 3 → t.sent = s.sent)
        ∧ Frame (.any [.fields [Pd.TX c, Pd.TR c, PDP_STAT.TRANS c, Pd.TIME_TOT c, Pd.AMP_TOT c, PAGE_IRQ_STAT.EVT (0x60 + c)], pdSegmentFp c]) s t)
      ∧ (s.get (Pd.RETRY c) < 2 →
        ∃ t, exec (.txRetry c) s = .next t ∧ t.get (Pd.RETRY c) = s.get (Pd.RETRY c) + 1 ∧ t.get (Pd.TX c) = 1
        ∧ t.sent = .pdMessage c (s.get (Pd.TX_SOP c)) (s.txMsg[c]) :: s.sent ∧ Frame (.any [.fields [Pd.RETRY c], .parts [.sent]]) s t)
      ∧ (2 ≤ s.get (Pd.RETRY c) →
        ∃ t, exec (.txRetry c) s = .next t ∧ t.get (Pd.TX c) = 0 ∧ (t.get (PAGE_IRQ_STAT.EVT (0x60 + c))).testBit 2 = true
        ∧ t.get (PDP_CNT.TX_FAIL c) = min 255 (s.get (PDP_CNT.TX_FAIL c) + 1)
        ∧ Frame (.fields [Pd.TX c, PDP_CNT.TX_FAIL c, PAGE_IRQ_STAT.EVT (0x60 + c)]) s t))
    ∧ (s.txBuf[c].length ≤ 260 →
      ∃ t, exec (.txData a c w) s = .next t ∧ t.txBuf[c].length = s.txBuf[c].length + 4
      ∧ t.txBuf[c].getD s.txBuf[c].length 0 = w.setWidth 8
      ∧ Frame (.any [.parts [.txBuf c], accessFp a (0x60 + c)]) s t)
    ∧ ((w.getLsbD 31 = false ∨ s.get (Pd.TX c) = 1) →
      ∃ t, exec (.go a c w) s = .next t ∧ t.get (PDP_TX.LEN c) = w.toNat % 512 ∧ t.txBuf[c] = s.txBuf[c] ∧ t.sent = s.sent
      ∧ Frame (.any [.fields [PDP_TX.SOP c, PDP_TX.LEN c], accessFp a (0x60 + c)]) s t)
    ∧ (w.getLsbD 31 = true → s.get (Pd.TX c) ≠ 1 → inSafeBoot s = false →
      ∃ t, exec (.go a c w) s = .next t ∧ t.get (PDP_TX.LEN c) = w.toNat % 512 ∧ t.get (Pd.TX c) = 1 ∧ t.get (Pd.RETRY c) = 0
      ∧ t.txMsg[c] = s.txBuf[c].take (w.toNat % 512) ∧ t.txBuf[c] = [] ∧ t.sent.length = s.sent.length + 1
      ∧ Frame (.any [.fields [PDP_TX.SOP c, PDP_TX.LEN c, Pd.TX c, Pd.TX_SOP c, Pd.RETRY c], .parts [.txBuf c, .txMsg c, .sent], accessFp a (0x60 + c)]) s t)
    ∧ (s.rx[c].head?.any (fun m => decide (s.get (Pd.RX_AT c) + 4 < m.2.length)) = true →
      ∃ t, exec (.rxData a c) s = .next t ∧ t.get (Last.DATA (pathNum a.path)) = rxWord s c ∧ t.rx[c] = s.rx[c]
      ∧ (s.get (Pd.RX_AT c) < 508 → t.get (Pd.RX_AT c) = s.get (Pd.RX_AT c) + 4)
      ∧ Frame (.any [.fields [Pd.RX_AT c, Last.DATA (pathNum a.path), Last.TAG (pathNum a.path)], accessFp a (0x60 + c)]) s t)
    ∧ (s.rx[c].head?.any (fun m => decide (m.2.length ≤ s.get (Pd.RX_AT c) + 4)) = true →
      ∃ t, exec (.rxData a c) s = .next t ∧ t.get (Last.DATA (pathNum a.path)) = rxWord s c ∧ t.rx[c] = s.rx[c].tail
      ∧ t.get (Pd.RX_AT c) = 0 ∧ t.get (PDP_RX_STAT.COUNT c) = s.rx[c].tail.length
      ∧ Frame (.any [.fields [Pd.RX_AT c, PDP_RX_STAT.COUNT c, PDP_RX_STAT.SOP c, PDP_RX_STAT.LEN c, Last.DATA (pathNum a.path), Last.TAG (pathNum a.path)],
          .parts [.rx c], accessFp a (0x60 + c)]) s t)
    ∧ (w.getLsbD 29 = true → w.getLsbD 28 = false →
      ∃ t, exec (.hostTimerStart a c n w) s = .next t ∧ t.get (PDP_TMR.RUN c n) = 1 ∧ t.get (PDP_TMR.LOAD c n) = w.toNat % 65536
      ∧ t.get (PDP_TMR.SWAP c n) = bitOf (w.getLsbD 30)
      ∧ Frame (.any [.fields [PDP_TMR.RUN c n, PDP_TMR.LOAD c n, PDP_TMR.SWAP c n], accessFp a (0x60 + c)]) s t)
    ∧ (w.getLsbD 28 = true →
      ∃ t, exec (.hostTimerStop a c n w) s = .next t ∧ t.get (PDP_TMR.RUN c n) = 0
      ∧ Frame (.any [.fields [PDP_TMR.RUN c n, PDP_TMR.LOAD c n, PDP_TMR.SWAP c n], accessFp a (0x60 + c)]) s t)
    ∧ (s.get (PDP_TMR.RUN c n) = 1 →
      ∃ t, exec (.hostTimerExpiry c n) s = .next t ∧ t.get (PDP_TMR.RUN c n) = 0 ∧ (t.get (PAGE_IRQ_STAT.EVT (0x60 + c))).testBit 7 = true
      ∧ Frame (.fields [PDP_TMR.RUN c n, PAGE_IRQ_STAT.EVT (0x60 + c)]) s t)

/-- R296, R297, R301, R302: Hard Reset and Cable Reset, the source sequence, the two role commands, the abandoned swap and
the Fast Role Swap. -/
def Obligations.PdResetsAndSwaps : Prop :=
  ∀ (s : State) (a : Access) (c : Fin 4),
    pdActs s c = true → served s = true → s.get (PAGE_LOCK.CFG (0x60 + c)) = 0 →
    (pdAttached s c = true → s.get (PDP_SWAP.STATE c) = 0 →
      (∃ t, exec (.hardReset a c) s = .next t ∧ t.get (PDP_CTL.CONTRACT c) = 0 ∧ t.get (Pd.TR c) = 0 ∧ t.get (PDP_STAT.TRANS c) = 0
        ∧ t.get (Pd.TX c) = 0 ∧ (∀ i : Fin 8, t.get (PDP_TMR.RUN c i) = 0) ∧ t.get (PDP_STAT.HR_CODE c) = 2
        ∧ t.get (PDP_CNT.HARD_RESETS c) = min 255 (s.get (PDP_CNT.HARD_RESETS c) + 1) ∧ t.get (PDP_STAT.DUTY c) = s.get (PDP_STAT.DUTY c)
        ∧ (s.get (PDP_STAT.PWR_ROLE c) = 1 → t.get (Pd.HR c) = 1) ∧ (s.get (PDP_STAT.PWR_ROLE c) = 0 → t.get (Pd.HR c) = s.get (Pd.HR c))
        ∧ Frame (.any [.fields ([PDP_CTL.CONTRACT c, Pd.TR c, PDP_STAT.TRANS c, Pd.TIME_LEFT c, Pd.AMP_LEFT c, Pd.TX c, Pd.FRS c, Pd.HR c, Pd.SRCOFF c,
            PDP_STAT.HR_CODE c, PDP_CNT.HARD_RESETS c] ++ (List.range 8).map (PDP_TMR.RUN c) ++ (List.range 3).map (Pd.MSGID c)), .parts [.sent], accessFp a (0x60 + c)]) s t)
      ∧ (∃ t, exec (.hardResetRx c) s = .next t ∧ t.get (PDP_CTL.CONTRACT c) = 0 ∧ t.get (PDP_STAT.HR_CODE c) = 1
        ∧ (t.get (PAGE_IRQ_STAT.EVT (0x60 + c))).testBit 4 = true
        ∧ Frame (.any [.fields ([PDP_CTL.CONTRACT c, Pd.TR c, PDP_STAT.TRANS c, Pd.TIME_LEFT c, Pd.AMP_LEFT c, Pd.TX c, Pd.FRS c, Pd.HR c, Pd.SRCOFF c,
            PDP_STAT.HR_CODE c, PDP_CNT.HARD_RESETS c, PAGE_IRQ_STAT.EVT (0x60 + c)] ++ (List.range 8).map (PDP_TMR.RUN c) ++ (List.range 3).map (Pd.MSGID c)), .parts [.sent]]) s t))
    ∧ (pdAttached s c = true → s.get (PDP_SWAP.STATE c) ≠ 0 →
      ∃ t, exec (.hardResetRx c) s = .next t ∧ t.get (PDP_SWAP.STATE c) = 0 ∧ t.get (PDP_STAT.HR_CODE c) = 3
      ∧ (t.get (PAGE_IRQ_STAT.EVT (0x60 + c))).testBit 4 = true ∧ (t.get (PAGE_IRQ_STAT.EVT (0x60 + c))).testBit 12 = true
      ∧ t.get (PDP_STAT.PWR_ROLE c) = s.get (PDP_STAT.ATTACH_ROLE c)
      ∧ (muted s (0x60 + c) = false → (t.get (PAGE_FLT_STAT.CAUSE (0x60 + c))).testBit 4 = true)
      ∧ (s.get (PDP_STAT.ATTACH_ROLE c) = 1 → s.get (PDP_STAT.DUTY c) = 1 → t.get (Pd.HR c) = 1 ∧ t.get (Pd.RP c) = 1)
      ∧ (s.get (PDP_STAT.ATTACH_ROLE c) = 0 → t.get (Pd.RAMP c) = 1 ∧ t.get (Pd.GOAL c) = 0 ∧ t.get (Pd.SRCOFF c) = 2)
      ∧ Frame (.any [.fields ([PDP_SWAP.STATE c, Pd.TX c, PDP_CNT.HARD_RESETS c] ++ (List.range 8).map (PDP_TMR.RUN c)),
          attachFp c, raiseFp (0x60 + c)]) s t)
    ∧ (pdAttached s c = true →
      (∃ t, exec (.cableReset a c) s = .next t ∧ t.get (Pd.TX c) = 0 ∧ t.sent.length = s.sent.length + 1
        ∧ Frame (.any [.fields [Pd.TX c, Pd.MSGID c 1, Pd.MSGID c 2], .parts [.sent], accessFp a (0x60 + c)]) s t)
      ∧ (∃ t, exec (.cableResetRx c) s = .next t ∧ t.get (PDP_STAT.HR_CODE c) = 6 ∧ (t.get (PAGE_IRQ_STAT.EVT (0x60 + c))).testBit 6 = true
        ∧ Frame (.fields [PDP_STAT.HR_CODE c, PAGE_IRQ_STAT.EVT (0x60 + c)]) s t)
      ∧ (s.get (PDP_STAT.PWR_ROLE c) = 1 → ∃ t, exec (.srcOff a c) s = .next t ∧ t.get (Pd.RAMP c) = 1 ∧ t.get (Pd.GOAL c) = 0
        ∧ t.get (Pd.SRCOFF c) = 1 ∧ t.get (Pd.DIS c) = 1 ∧ t.get (PDP_STAT.PWR_ROLE c) = 1
        ∧ Frame (.any [.fields [Pd.TR c, PDP_STAT.TRANS c, Pd.TIME_LEFT c, Pd.AMP_LEFT c, Pd.RAMP c, Pd.GOAL c, Pd.SRCOFF c, Pd.DIS c], .parts [.sent],
            accessFp a (0x60 + c)]) s t)
      ∧ (s.get (PDP_STAT.PWR_ROLE c) = 0 → pdMaySource s c = true → (s.get (PDP_STAT.DUTY c) = 1 ∨ dutyPossible s c = true) →
        ∃ t, exec (.srcOn a c) s = .next t ∧ t.get (Pd.RP c) = 1 ∧ t.get (Pd.RD c) = 0 ∧ t.get (Pd.SRCON c) = 1
        ∧ t.get (PDP_STAT.PWR_ROLE c) = 0
        ∧ (s.get (PDP_STAT.DUTY c) = 0 → dutyPossible s c = true → t.get (Pd.REQ c) = 1)
        ∧ (s.get (PDP_STAT.DUTY c) = 1 → t.get (Pd.RAMP c) = 1 ∧ t.get (Pd.GOAL c) = 5000)
        ∧ Frame (.any [attachFp c, raiseFp (0x60 + c), accessFp a (0x60 + c)]) s t))
    ∧ (s.get (Pd.HR c) = 1 → ∃ t, exec (.tPsHardReset c) s = .next t ∧ t.get (Pd.HR c) = 2 ∧ t.get (Pd.RAMP c) = 1
        ∧ t.get (Pd.GOAL c) = 0 ∧ t.get (Pd.DIS c) = 1 ∧ Frame (.fields [Pd.HR c, Pd.RAMP c, Pd.GOAL c, Pd.DIS c]) s t)
    ∧ (s.get (Pd.HR c) = 2 → ∃ t, exec (.tSrcRecover c) s = .next t ∧ t.get (Pd.HR c) = 3 ∧ t.get (Pd.RAMP c) = 1
        ∧ t.get (Pd.GOAL c) = 5000 ∧ t.get (PDP_VBUS.TGT c) = 0x0FA ∧ t.get (Pd.DIS c) = 0
        ∧ Frame (.fields [Pd.HR c, Pd.RAMP c, Pd.GOAL c, Pd.DIS c, PDP_VBUS.TGT c]) s t)
    ∧ (s.get (Pd.HR c) = 3 → ∃ t, exec (.hardResetDone c) s = .next t ∧ t.get (Pd.HR c) = 0
        ∧ (t.get (PAGE_IRQ_STAT.EVT (0x60 + c))).testBit 5 = true ∧ t.get (Pd.REF c) = 5000
        ∧ Frame (.fields [Pd.HR c, Pd.REF c, Pd.RAMP c, PAGE_IRQ_STAT.EVT (0x60 + c)]) s t)
    ∧ (s.get (PDP_STAT.CC_STATE c) = 5 → s.get (PDP_CTL.FRS_ARM c) = 1 →
      (∃ t, exec (.frsSignal c) s = .next t ∧ t.get (Pd.FRS c) = 1 ∧ (t.get (PAGE_IRQ_STAT.EVT (0x60 + c))).testBit 10 = true
        ∧ Frame (.fields [Pd.FRS c, PAGE_IRQ_STAT.EVT (0x60 + c)]) s t)
      ∧ (s.get (Pd.FRS c) = 1 → s.get (PDP_STAT.DUTY c) = 1 →
        ∃ t, exec (.frsTakeover c) s = .next t ∧ t.get (Pd.FRS c) = 0 ∧ Frame (.fields [Pd.FRS c]) s t)
      ∧ ((s.get (Pd.FRS c) = 0 ∨ s.get (PDP_STAT.DUTY c) = 0) → exec (.frsTakeover c) s = .next s))
    ∧ (s.get (Pd.SRCON c) = 1 → ∃ t, exec (.vsafe5v c) s = .next t ∧ t.get (PDP_STAT.PWR_ROLE c) = 1 ∧ t.get (PDP_STAT.CC_STATE c) = 6
        ∧ t.get (Pd.SRCON c) = 0 ∧ t.get (Pd.REF c) = 5000 ∧ (t.get (PAGE_IRQ_STAT.EVT (0x60 + c))).testBit 11 = true
        ∧ Frame (.fields [Pd.SRCON c, Pd.REF c, Pd.RAMP c, PDP_STAT.PWR_ROLE c, PDP_STAT.CC_STATE c, PAGE_IRQ_STAT.EVT (0x60 + c)]) s t)

/-- R313 to R326, R336: the end of a conversion, the birth and delivery of its value, an urgent request, and the start of a
step of the built-in set. R320, R321, R323: triggers of sequences by timers, phases and software, and the sequence that
becomes due. -/
def Obligations.HousekeepingValuesAndTriggers : Prop :=
  (∀ (s : State) (a : Access) (m : Fin 4) (i : Fin 256) (raw : BitVec 12) (w : BitVec 32),
    hksLive s = true →
    (s.get (Lane.BUSY m) = 1 → s.get (Lane.VON m) = 0 →
      (∃ t, exec (.conversionEnd m false) s = .next t
        ∧ t.get (Lane.VON m) = (if s.get (Lane.KIND m) = 2 then 0 else 1)
        ∧ (s.get (Lane.KIND m) ≠ 2 → t.get (Lane.VIN m) = s.get (Lane.IN m) ∧ t.get (Lane.VCONV m) = s.get (Lane.CONV m))
        ∧ ((List.range 6).all (fun q => s.get (Hks.UQ q) == 0) = true → (List.range 8).all (fun n => s.get (Imp.PAIR n) == 0) = true →
            s.get (Lane.SEC m) = 0 → t.get (Lane.BUSY m) = 0)
        ∧ Frame (.any [laneFp 0, laneFp 1, laneFp 2, laneFp 3, urgentFp, seqFp, .fields ((List.range 8).map Imp.PAIR)]) s t)
      ∧ (s.get HKS_CTL.RECOV_EN = 1 → s.get (Lane.KIND m) ≠ 2 →
        ∃ t, exec (.conversionEnd m true) s = .next t ∧ t.get (Lane.BUSY m) = 1 ∧ t.get (Lane.KIND m) = 2
        ∧ t.get HKS_CNT1.RECOV = min 65535 (s.get HKS_CNT1.RECOV + 1) ∧ t.get (Lane.VON m) = 1
        ∧ Frame (.any [laneFp 0, laneFp 1, laneFp 2, laneFp 3, urgentFp, seqFp, .fields ((List.range 8).map Imp.PAIR)]) s t))
    ∧ (s.get (Lane.VON 0) = 1 → s.get (Lane.VIN 0) = i.val → s.get (Lane.VKIND 0) ≠ 3 →
      ∃ t, exec (.valueAvailable i raw true 0) s = .next t ∧ t.get (Lane.VON 0) = 0
      ∧ (s.get (Lane.VTD 0) = 0 →
            (outOfRange s (s.get (Lane.VCONV 0)) i raw.toNat = true → (t.get (HKS_OVR.OVR (i / 32))).testBit (i % 32) = true)
            ∧ (s.get (MMT_CFG.EN 0) = 1 → s.get (MMT_CFG.SRC 0) = i.val → s.get (PAGE_CTL.TAG_CHK 0x78) = 0 →
                t.get (MMT_MIN.VALID 0) = 1 ∧ t.get (MMT_MAX.VALID 0) = 1
                ∧ (t.get (MMT_MIN.VALUE 0) : Int) ≤ (birth s (s.get (Lane.VCONV 0)) i raw.toNat false 0).val
                ∧ (birth s (s.get (Lane.VCONV 0)) i raw.toNat false 0).val ≤ (t.get (MMT_MAX.VALUE 0) : Int))
            ∧ (s.get (Lane.VKIND 0) = 4 → s.get (Lane.VWHO 0) = 0 → t.get HKS_URGENT.RESULT = 1
                ∧ (t.get (PAGE_IRQ_STAT.EVT 0x68)).testBit 9 = true))
      ∧ Frame (.any [laneFp 0, laneFp 1, laneFp 2, laneFp 3, seqFp, .fields [HKS_OVR.OVR (i / 32), HKS_URGENT.RESULT], deliverFp i,
          accDeliverFp s i, accFp (s.get Hks.UACC), raiseFp (0x70 + s.get Hks.UACC / 64), tagFp (0x70 + s.get Hks.UACC / 64),
          mmtFp s i]) s t)
    ∧ ((List.range 4).all (fun m => s.get (Lane.VON m) == 1 && s.get (Lane.VIN m) == i.val && s.get (Lane.VCONV m) == 2) = true →
      ∃ t, exec (.valueAvailable i raw false 0) s = .next t ∧ t.get (PAGE_TAG_ERR.FLAG 0x6B) = 1
      ∧ Frame (.any [laneFp 0, seqFp, tagFp 0x6B, urgentFp]) s t)
    ∧ (served s = true → s.get (PAGE_LOCK.CFG 0x68) = 0 → (List.range 8).all (fun n => s.get (Imp.PAIR n) == 0) = true →
      (w.getLsbD 31 = false →
        ∃ t, exec (.urgent a w) s = .next t ∧ t.get HKS_URGENT.INPUT = w.toNat % 256 ∧ t.get HKS_URGENT.RESULT = s.get HKS_URGENT.RESULT
        ∧ Frame (.any [.fields [HKS_URGENT.INPUT, HKS_URGENT.ACC], accessFp a 0x68]) s t)
      ∧ (w.getLsbD 31 = true → urgentBusy s 0 = true →
        ∃ t, exec (.urgent a w) s = .next t ∧ t.get HKS_URGENT.RESULT = 2 ∧ (t.get (PAGE_IRQ_STAT.EVT 0x68)).testBit 2 = true
        ∧ t.get HKS_CNT0.URG_DROP = min 65535 (s.get HKS_CNT0.URG_DROP + 1)
        ∧ Frame (.any [urgentFp, .fields [HKS_URGENT.INPUT, HKS_URGENT.ACC, PAGE_IRQ_STAT.EVT 0x68], accessFp a 0x68]) s t)
      ∧ (w.getLsbD 31 = true → urgentBusy s 0 = false → inputAbsent s (w.toNat % 256) = false →
        (firstLane (fun m => laneFree s m && laneFits s m (w.toNat % 256)) = some m.val →
          ∃ t, exec (.urgent a w) s = .next t ∧ t.get (Lane.BUSY m) = 1 ∧ t.get (Lane.IN m) = w.toNat % 256
          ∧ t.get (Lane.KIND m) = 4 ∧ t.get HKS_URGENT.RESULT = 0
          ∧ Frame (.any [laneFp m, urgentFp, .fields [HKS_URGENT.INPUT, HKS_URGENT.ACC], accessFp a 0x68]) s t)
        ∧ (firstLane (fun m => laneFree s m && laneFits s m (w.toNat % 256)) = none → laneFits s m (w.toNat % 256) = true →
            strict s = false →
          ∃ t, exec (.urgent a w) s = .next t ∧ t.get HKS_URGENT.RESULT = 2
          ∧ t.get HKS_CNT0.URG_DROP = min 65535 (s.get HKS_CNT0.URG_DROP + 1) ∧ (t.get (PAGE_IRQ_STAT.EVT 0x68)).testBit 2 = true
          ∧ Frame (.any [urgentFp, .fields [HKS_URGENT.INPUT, HKS_URGENT.ACC, PAGE_IRQ_STAT.EVT 0x68], accessFp a 0x68]) s t)))
    ∧ (s.get HKS_RUN.ACTIVE = 0 → s.get HKS_STAT.BUILTIN = 1 → (s.get Hks.BSTEP ≠ 0 ∨ builtinHeld s = true) →
      (List.range 8).all (fun n => s.get (Imp.PAIR n) == 0) = true → (List.range 4).all (fun m => laneFree s m) = true →
      ∃ t, exec .sequenceStepStart s = .next t ∧ t.get Hks.BSTEP = (s.get Hks.BSTEP + 1) % 64
      ∧ (inputAbsent s (4 * s.get Hks.BSTEP + m) = false → laneFits s m (4 * s.get Hks.BSTEP + m) = true →
          t.get (Lane.BUSY m) = 1 ∧ t.get (Lane.IN m) = 4 * s.get Hks.BSTEP + m.val)
      ∧ Frame (.any [laneFp 0, laneFp 1, laneFp 2, laneFp 3, seqFp, eccReadFp, .fields [Hks.TABLE_BAD], raiseFp 0x68, endFp 0x68]) s t)
    ∧ (s.get HKS_RUN.ACTIVE = 1 → s.get Hks.LAST = 1 → (List.range 8).all (fun n => s.get (Imp.PAIR n) == 0) = true →
      exec .sequenceStepStart s = .next s))
  ∧ (∀ (s : State) (a : Access) (q : Fin 32) (tm : Fin 8) (p : Fin 16) (ev : Fin 8) (w : BitVec 32),
    hksLive s = true → served s = true → s.get (PAGE_LOCK.CFG 0x68) = 0 →
    (s.get (HKS_TMR.EN tm) = 1 → s.get (HKS_SEQ_TRIG.SRC q) = tm.val + 1 →
      (s.get HKS_STAT.BUILTIN = 1 →
        ∃ t, exec (.seqTimer tm) s = .next t ∧ (t.get (PAGE_IRQ_STAT.EVT 0x68)).testBit 0 = true
        ∧ (s.get HKS_CNT0.TRIG_DROP < 65000 → s.get HKS_CNT0.TRIG_DROP < t.get HKS_CNT0.TRIG_DROP)
        ∧ Frame (.fields [HKS_CNT0.TRIG_DROP, PAGE_IRQ_STAT.EVT 0x68]) s t)
      ∧ (s.get HKS_STAT.BUILTIN = 0 → s.get (HKS_SEQ_TRIG.DELAY q) ≠ 0 → s.get (Hks.DLY q) < 3 →
        ∃ t, exec (.seqTimer tm) s = .next t ∧ t.get (Hks.DLY q) = s.get (Hks.DLY q) + 1
        ∧ (∀ y : Fin 32, s.get (HKS_SEQ_TRIG.SRC y) ≠ tm.val + 1 → t.get (Hks.DLY y) = s.get (Hks.DLY y)
            ∧ (t.get HKS_PEND.PEND).testBit y = (s.get HKS_PEND.PEND).testBit y)
        ∧ Frame (.any [seqFp, .fields ((List.range 32).map Hks.DLY)]) s t)
      ∧ (s.get HKS_STAT.BUILTIN = 0 → s.get (HKS_SEQ_TRIG.DELAY q) = 0 → s.get HKS_RUN.ACTIVE = 0 →
        ∃ t, exec (.seqTimer tm) s = .next t ∧ (t.get HKS_PEND.PEND).testBit q = true
        ∧ Frame (.any [seqFp, .fields ((List.range 32).map Hks.DLY)]) s t))
    ∧ ((s.get (PH_STAT.STATE p) = 0 ∨ absent s (0x20 + p) = true) → exec (.phaseEventTrigger p ev) s = .next s)
    ∧ (1 ≤ ev.val → ev.val ≤ 4 → spTakes s p (ev.val - 1) = false → exec (.phaseEventTrigger p ev) s = .next s)
    ∧ (absent s (0x20 + p) = false → s.get (HKS_SEQ_TRIG.SRC q) = 9 → s.get (HKS_SEQ_TRIG.PHASE q) = p.val →
        s.get (HKS_SEQ_TRIG.EVENT q) = ev.val → s.get HKS_STAT.BUILTIN = 0 → s.get (HKS_SEQ_TRIG.DELAY q) = 0 →
        s.get HKS_RUN.ACTIVE = 0 →
        ((ev.val = 0 ∧ s.get (PH_STAT.STATE p) ≠ 0) ∨ (1 ≤ ev.val ∧ ev.val ≤ 4 ∧ spTakes s p (ev.val - 1) = true)) →
      ∃ t, exec (.phaseEventTrigger p ev) s = .next t ∧ (t.get HKS_PEND.PEND).testBit q = true
      ∧ Frame (.any [seqFp, .fields ((List.range 32).map Hks.DLY)]) s t)
    ∧ (w.getLsbD q = true → s.get HKS_STAT.BUILTIN = 0 → s.get (HKS_SEQ_TRIG.DELAY q) = 0 → s.get HKS_RUN.ACTIVE = 0 →
      ∃ t, exec (.swTrig a w) s = .next t ∧ (t.get HKS_PEND.PEND).testBit q = true
      ∧ (∀ y : Fin 32, w.getLsbD y = false → (t.get HKS_PEND.PEND).testBit y = (s.get HKS_PEND.PEND).testBit y)
      ∧ Frame (.any [seqFp, .fields ((List.range 32).map Hks.DLY), accessFp a 0x68]) s t)
    ∧ (s.get (Hks.DLY q) ≠ 0 →
      ∃ t, exec (.sequenceDue q) s = .next t ∧ t.get (Hks.DLY q) = s.get (Hks.DLY q) - 1
      ∧ (s.get HKS_STAT.BUILTIN = 0 → s.get HKS_RUN.ACTIVE = 0 → (t.get HKS_PEND.PEND).testBit q = true)
      ∧ (s.get HKS_STAT.BUILTIN = 0 → s.get HKS_RUN.ACTIVE = 1 → s.get HKS_RUN.SEQ = q.val →
          (strict s = true → (s.get HKS_QUEUED.QUEUED).testBit q = false → (t.get HKS_QUEUED.QUEUED).testBit q = true
            ∧ (t.get (PAGE_IRQ_STAT.EVT 0x68)).testBit 1 = true ∧ t.get HKS_CNT0.TRIG_DROP = s.get HKS_CNT0.TRIG_DROP)
          ∧ ((strict s = false ∨ (s.get HKS_QUEUED.QUEUED).testBit q = true) → t.get HKS_QUEUED.QUEUED = s.get HKS_QUEUED.QUEUED
            ∧ (t.get (PAGE_IRQ_STAT.EVT 0x68)).testBit 0 = true
            ∧ t.get HKS_CNT0.TRIG_DROP = min 65535 (s.get HKS_CNT0.TRIG_DROP + 1)))
      ∧ Frame (.any [seqFp, .fields [Hks.DLY q]]) s t)
    ∧ (s.get (Hks.DLY q) = 0 → exec (.sequenceDue q) s = .next s))

/-- R314, R334 to R336: references, self-calibration, the passing of a lane to the spare, and the test DAC. -/
def Obligations.ConvertersAndCalibration : Prop :=
  ∀ (s : State) (a : Access) (k : Fin 5) (ofs : BitVec 12) (gain : BitVec 16) (w : BitVec 32),
    hksLive s = true → served s = true → s.get (PAGE_LOCK.CFG 0x68) = 0 → muted s 0x68 = false →
    (keeperView s a = true → s.get Hks.CALSTEP = 0 → s.get HKS_STAT.LANES = 0x3210 →
      ∃ t, exec (.laneRefWrite a w) s = .next t ∧ t.get HKS_LANE_REF.REF = w.toNat % 256
      ∧ (k.val < 4 → t.get (HKC_STAT.REF k) = laneRef t k
          ∧ t.get (HKC_STAT.SETTLED k) = (if s.get (HKC_STAT.REF k) = laneRef t k then s.get (HKC_STAT.SETTLED k) else 0))
      ∧ Frame (.any [.fields ([HKS_LANE_REF.REF] ++ (List.range 4).flatMap (fun k => [HKC_STAT.REF k, HKC_STAT.SETTLED k])), accessFp a 0x68]) s t)
    ∧ (s.get (HKC_STAT.SETTLED k) = 0 → (s.get HKS_STAT.SPARE ≤ 4 ∨ s.get HKS_STAT.SPARE = 7) →
      (∃ t, exec (.settled k) s = .next t ∧ t.get (HKC_STAT.SETTLED k) = 1 ∧ (t.get (PAGE_IRQ_STAT.EVT (0x69 + k))).testBit 1 = true
        ∧ Frame (.any [.fields [HKC_STAT.SETTLED k, PAGE_IRQ_STAT.EVT (0x69 + k)], endFp (0x69 + k)]) s t)
      ∧ (∃ t, exec (.refTimeout k) s = .next t ∧ t.get (HKC_STAT.ROLE k) = 6
        ∧ (muted s (0x69 + k) = false → s.bit (Flt.PRESENT (0x69 + k)) 1 = false → (t.get (PAGE_FLT_STAT.CAUSE (0x69 + k))).testBit 1 = true)
        ∧ (s.get HKS_STAT.LANES = 0x3210 → s.get HKS_STAT.SPARE = 4 → (List.range 4).all (fun m => laneConv t m != k.val) = true)
        ∧ Frame (.any [.fields ((List.range 5).flatMap (fun k => [HKC_STAT.REF k, HKC_STAT.SETTLED k])), convFp, raiseFp (0x69 + k),
            .fields [Mnt.CV], maintFp, raiseFp 0xB0]) s t
        ∧ (s.get Hks.CALSTEP ≠ 0 → s.get HKS_STAT.CAL_CONV = k.val → t.get HKS_STAT.CAL_BUSY = 0 ∧ t.get Hks.CALSTEP = 0
            ∧ (s.get Mnt.CV ≠ 1 → t.get HKS_CAL.RESULT = 3))))
    ∧ (keeperView s a = true → w.getLsbD 3 = true → s.bit (Flt.INJ 0x68) 2 = false → s.get HKS_STAT.CAL_BUSY = 0 →
      (s.get HKS_STAT.SPARE = 7 →
        ∃ t, exec (.calibration a w) s = .next t ∧ t.get HKS_CAL.RESULT = 2 ∧ t.get HKS_STAT.CAL_BUSY = 0
        ∧ t.get HKS_CAL.TARGET = w.toNat % 8 ∧ t.get HKS_CAL.AUTO = w.toNat / 65536
        ∧ (t.get (PAGE_FLT_STAT.CAUSE 0x68)).testBit 2 = true
        ∧ Frame (.any [.fields ([HKS_CAL.TARGET, HKS_CAL.AUTO, HKS_CAL.RESULT, HKS_STAT.CAL_BUSY, HKS_STAT.CAL_CONV, HKS_STAT.SPARE, Hks.CALSTEP,
            Hks.CALLANE, Hks.CALALL, Hks.CALNEXT] ++ (List.range 5).flatMap (fun k => [HKC_STAT.REF k, HKC_STAT.SETTLED k, HKC_STAT.ROLE k,
            PAGE_IRQ_STAT.EVT (0x69 + k)])), raiseFp 0x68, accessFp a 0x68]) s t)
      ∧ (s.get HKS_STAT.SPARE = k.val → (w.toNat % 8 = k.val ∨ 5 ≤ w.toNat % 8) →
        ∃ t, exec (.calibration a w) s = .next t ∧ t.get HKS_STAT.CAL_BUSY = 1 ∧ t.get HKS_STAT.CAL_CONV = k.val
        ∧ t.get (HKC_STAT.ROLE k) = 5 ∧ t.get HKS_CAL.TARGET = w.toNat % 8 ∧ t.get HKS_CAL.AUTO = w.toNat / 65536
        ∧ Frame (.any [.fields ([HKS_CAL.TARGET, HKS_CAL.AUTO, HKS_CAL.RESULT, HKS_STAT.CAL_BUSY, HKS_STAT.CAL_CONV, HKS_STAT.SPARE, Hks.CALSTEP,
            Hks.CALLANE, Hks.CALALL, Hks.CALNEXT] ++ (List.range 5).flatMap (fun k => [HKC_STAT.REF k, HKC_STAT.SETTLED k, HKC_STAT.ROLE k,
            PAGE_IRQ_STAT.EVT (0x69 + k)])), raiseFp 0x68, accessFp a 0x68]) s t)
      ∧ (s.get HKS_STAT.SPARE = 4 → s.get HKS_STAT.LANES = 0x3210 → w.toNat % 8 < 4 →
        ∃ t, exec (.calibration a w) s = .next t ∧ t.get HKS_STAT.CAL_BUSY = 1 ∧ t.get HKS_STAT.CAL_CONV = w.toNat % 8
        ∧ t.get (HKC_STAT.REF 4) = laneRef s (w.toNat % 8) ∧ t.get HKS_STAT.LANES = s.get HKS_STAT.LANES
        ∧ Frame (.any [.fields ([HKS_CAL.TARGET, HKS_CAL.AUTO, HKS_CAL.RESULT, HKS_STAT.CAL_BUSY, HKS_STAT.CAL_CONV, HKS_STAT.SPARE, Hks.CALSTEP,
            Hks.CALLANE, Hks.CALALL, Hks.CALNEXT] ++ (List.range 5).flatMap (fun k => [HKC_STAT.REF k, HKC_STAT.SETTLED k, HKC_STAT.ROLE k,
            PAGE_IRQ_STAT.EVT (0x69 + k)])), raiseFp 0x68, accessFp a 0x68]) s t))
    ∧ (s.get HKS_CAL.AUTO ≠ 0 → s.bit (Flt.INJ 0x68) 2 = false → s.get HKS_STAT.CAL_BUSY = 0 → s.get HKS_STAT.SPARE = k.val →
      ∃ t, exec .autoCalibration s = .next t ∧ t.get HKS_STAT.CAL_BUSY = 1 ∧ t.get HKS_STAT.CAL_CONV = k.val
      ∧ t.get (HKC_STAT.ROLE k) = 5 ∧ t.get HKS_CAL.TARGET = s.get HKS_CAL.TARGET
      ∧ Frame (.fields [HKS_STAT.CAL_BUSY, HKS_STAT.CAL_CONV, HKS_STAT.SPARE, Hks.CALSTEP, Hks.CALALL, Hks.CALNEXT, HKC_STAT.ROLE k,
          PAGE_IRQ_STAT.EVT (0x69 + k)]) s t)
    ∧ (s.get Hks.CALSTEP = 1 → s.get Mnt.CV = 0 → s.get HKS_STAT.CAL_CONV < 4 → s.get HKS_STAT.SPARE = 4 → s.get (HKC_STAT.SETTLED 4) = 1 →
        s.get Hks.CALLANE = 2 → laneFree s 2 = true →
      ∃ t, exec .laneHandover s = .next t ∧ laneConv t 2 = 4 ∧ t.get (HKC_STAT.ROLE 4) = 2 ∧ t.get HKS_STAT.SPARE = 7
      ∧ t.get Hks.CALSTEP = 2 ∧ t.get HKS_STAT.CAL_CONV = s.get HKS_STAT.CAL_CONV
      ∧ Frame (.fields ([HKS_STAT.LANES, HKS_STAT.SPARE, Hks.CALSTEP, HKS_STAT.CAL_CONV]
          ++ (List.range 5).flatMap (fun k => [HKC_STAT.ROLE k, PAGE_IRQ_STAT.EVT (0x69 + k)]))) s t)
    ∧ (s.get Hks.CALSTEP = 2 → s.get HKS_STAT.CAL_CONV = k.val → s.get Mnt.CV = 0 →
      (s.get HKS_STAT.SPARE ≤ 4 ∨ s.get HKS_STAT.SPARE = 7) →
      (calOk ofs gain = true →
        ∃ t, exec (.calDone ofs gain) s = .next t ∧ t.get (HKC_CAL.OFS k) = ofs.toNat ∧ t.get (HKC_CAL.GAIN k) = gain.toNat
        ∧ t.get (HKC_AGE.AGE k) = 0 ∧ t.get HKS_STAT.SPARE = k.val ∧ t.get HKS_CAL.RESULT = 1
        ∧ (t.get (PAGE_IRQ_STAT.EVT 0x68)).testBit 4 = true
        ∧ (s.get Hks.CALALL = 0 → t.get HKS_STAT.CAL_BUSY = 0 ∧ t.get HKS_STAT.CAL_CONV = 7)
        ∧ Frame (.any [.fields ([HKC_CAL.OFS k, HKC_CAL.GAIN k, HKC_AGE.AGE k, HKC_CNT.CALS k, HKS_CAL.RESULT, HKS_STAT.SPARE, HKS_STAT.CAL_BUSY,
            HKS_STAT.CAL_CONV, Hks.CALSTEP, Hks.CALLANE, Hks.CALALL, Hks.CALNEXT, PAGE_IRQ_STAT.EVT 0x68]
            ++ (List.range 5).flatMap (fun k => [HKC_STAT.REF k, HKC_STAT.SETTLED k, HKC_STAT.ROLE k])), raiseFp (0x69 + k), endFp (0x69 + k)]) s t)
      ∧ (calOk ofs gain = false →
        ∃ t, exec (.calDone ofs gain) s = .next t ∧ t.get (HKC_STAT.ROLE k) = 6 ∧ t.get HKS_CAL.RESULT = 3
        ∧ t.get HKS_STAT.CAL_BUSY = 0 ∧ t.get (HKC_CAL.OFS k) = s.get (HKC_CAL.OFS k) ∧ t.get (HKC_CAL.GAIN k) = s.get (HKC_CAL.GAIN k)
        ∧ (muted s (0x69 + k) = false → s.bit (Flt.PRESENT (0x69 + k)) 0 = false →
            (t.get (PAGE_FLT_STAT.CAUSE (0x69 + k))).testBit 0 = true)
        ∧ Frame (.any [.fields ([HKC_CAL.OFS k, HKC_CAL.GAIN k, HKC_AGE.AGE k, HKC_CNT.CALS k, HKS_CAL.RESULT, HKS_STAT.SPARE, HKS_STAT.CAL_BUSY,
            HKS_STAT.CAL_CONV, Hks.CALSTEP, Hks.CALLANE, Hks.CALALL, Hks.CALNEXT, PAGE_IRQ_STAT.EVT 0x68]
            ++ (List.range 5).flatMap (fun k => [HKC_STAT.REF k, HKC_STAT.SETTLED k, HKC_STAT.ROLE k])), raiseFp (0x69 + k), endFp (0x69 + k)]) s t))
    ∧ (keeperView s a = true →
      ∃ t, exec (.tdacWrite a w) s = .next t ∧ t.get HKS_TDAC.EN = bitOf (w.getLsbD 31) ∧ t.get HKS_TDAC.CODE = w.toNat / 65536 % 1024
      ∧ t.get HKS_TDAC.INPUT = w.toNat % 256
      ∧ ((w.getLsbD 31 ≠ s.flag HKS_TDAC.EN ∨ w.toNat / 65536 % 1024 ≠ s.get HKS_TDAC.CODE ∨ w.toNat % 256 ≠ s.get HKS_TDAC.INPUT) →
          t.get HKS_TDAC.READY = 0)
      ∧ Frame (.any [.fields ([HKS_TDAC.EN, HKS_TDAC.CODE, HKS_TDAC.INPUT, HKS_TDAC.READY, Hks.TDOFF, Hks.TDLAST]
          ++ (List.range 4).map Lane.TD), accessFp a 0x68]) s t)
    ∧ (s.get HKS_TDAC.EN = 0 →
      ∃ t, exec .tdacReady s = .next t ∧ t.get Hks.TDOFF = 0 ∧ Frame (.fields [Hks.TDOFF]) s t)
    ∧ (s.get HKS_TDAC.EN = 1 → s.get HKS_TDAC.READY = 0 →
      ∃ t, exec .tdacReady s = .next t ∧ t.get HKS_TDAC.READY = 1 ∧ t.get Hks.TDOFF = 0 ∧ (t.get (PAGE_IRQ_STAT.EVT 0x68)).testBit 6 = true
      ∧ Frame (.fields [Hks.TDOFF, HKS_TDAC.READY, PAGE_IRQ_STAT.EVT 0x68]) s t)

/-- R328 to R331, R333: clears and captures of accumulators and trackers, and the comparison of a block. -/
def Obligations.AccumulatorsAndTrackers : Prop :=
  ∀ (s : State) (a : Access) (acc : Fin 512) (tr : Fin 256) (w : BitVec 32),
    served s = true → s.get (PAGE_LOCK.CFG (0x70 + acc / 64)) = 0 → s.get (PAGE_LOCK.CFG 0x78) = 0 →
    (keeperView s a = true → s.get (Acc.CLAIM acc) = 0 →
      ∃ t, exec (.accClr a acc w) s = .next t ∧ t.get (ACC_CFG.SRC (acc / 64) (acc % 64)) = w.toNat % 512
      ∧ t.get (ACC_CFG.MODE (acc / 64) (acc % 64)) = w.toNat / 512 % 4 ∧ t.get (Acc.STOP acc) = 0
      ∧ (w.getLsbD 31 = true → accSum t acc = 0 ∧ accSq t acc = 0 ∧ accCnt t acc = 0 ∧ t.get (ACC_CLIPS.CLIPS (acc / 64) (acc % 64)) = 0
          ∧ t.get (ACC_CFG.SAT (acc / 64) (acc % 64)) = 0
          ∧ t.get (ACC_CFG.EPOCH (acc / 64) (acc % 64)) = (s.get (ACC_CFG.EPOCH (acc / 64) (acc % 64)) + 1) % 16)
      ∧ (w.getLsbD 31 = false → accSum t acc = accSum s acc ∧ accCnt t acc = accCnt s acc
          ∧ t.get (ACC_CFG.EPOCH (acc / 64) (acc % 64)) = s.get (ACC_CFG.EPOCH (acc / 64) (acc % 64)))
      ∧ Frame (.any [.fields [ACC_CFG.SRC (acc / 64) (acc % 64), ACC_CFG.MODE (acc / 64) (acc % 64), ACC_CFG.IQCH (acc / 64) (acc % 64),
          ACC_CFG.BLK (acc / 64) (acc % 64), ACC_CFG.THR_EN (acc / 64) (acc % 64), ACC_CFG.TEST (acc / 64) (acc % 64), Acc.STOP acc],
          accFp acc, accessFp a (0x70 + acc / 64)]) s t)
    ∧ (keeperView s a = true → s.get (Acc.CLAIM acc) ≠ 0 → w.getLsbD 31 = true →
      ∃ t, exec (.accClr a acc w) s = .next t ∧ t.get (Last.CODE (pathNum a.path)) = 2
      ∧ t.get (PAGE_STAT.REFUSED (0x70 + acc / 64)) = 1 ∧ t.get (PAGE_STAT.REFUSE_WHY (0x70 + acc / 64)) = 2
      ∧ Frame (accessFp a (0x70 + acc / 64)) s t)
    ∧ (keeperView s a = true →
      ∃ t, exec (.mmtClr a tr w) s = .next t ∧ t.get (MMT_CFG.SRC tr) = w.toNat % 256 ∧ t.get (MMT_CFG.LIMIT tr) = w.toNat / 65536 % 4096
      ∧ (w.getLsbD 31 = true → t.get (MMT_MIN.VALID tr) = 0 ∧ t.get (MMT_MAX.VALID tr) = 0)
      ∧ (w.getLsbD 31 = false → t.get (MMT_MIN.VALID tr) = s.get (MMT_MIN.VALID tr) ∧ t.get (MMT_MIN.VALUE tr) = s.get (MMT_MIN.VALUE tr))
      ∧ Frame (.any [.fields [MMT_CFG.SRC tr, MMT_CFG.EN tr, MMT_CFG.DIR tr, MMT_CFG.LIM_EN tr, MMT_CFG.TEST tr, MMT_CFG.LIMIT tr,
          MMT_MIN.VALID tr, MMT_MIN.CLIP tr, MMT_MIN.VALUE tr, MMT_MAX.VALID tr, MMT_MAX.CLIP tr, MMT_MAX.VALUE tr, Mmt.TESTMIN tr,
          Mmt.TESTMAX tr], accessFp a 0x78]) s t)
    ∧ (∃ t, exec (.accCapture a acc) s = .next t ∧ t.get (Cap.ON (pathNum a.path)) = 1 ∧ t.get (Cap.ACC (pathNum a.path)) = acc.val
      ∧ t.int (Cap.SUM (pathNum a.path)) = accSum s acc ∧ t.get (Cap.CNT (pathNum a.path)) = accCnt s acc
      ∧ t.int (Cap.SQ (pathNum a.path)) = accSq s acc
      ∧ t.get (Last.DATA (pathNum a.path)) = s.get (ACC_SUM_LO.SUM (acc / 64) (acc % 64))
      ∧ Frame (.any [.fields [Cap.ON (pathNum a.path), Cap.ACC (pathNum a.path), Cap.SUM (pathNum a.path), Cap.CNT (pathNum a.path),
          Cap.SQ (pathNum a.path), Cap.CLIPS (pathNum a.path), Cap.SUMTAG (pathNum a.path), Cap.SQTAG (pathNum a.path),
          Last.DATA (pathNum a.path), Last.TAG (pathNum a.path), TAG_INJ.ARM, PAGE_IRQ_STAT.EVT 0xA2],
          .parts [.readHold (pathNum a.path)], accessFp a (0x70 + acc / 64)]) s t)
    ∧ (s.get (Acc.DUE acc) = 0 → exec (.thresholdBlock acc) s = .next s)
    ∧ (s.get (Acc.DUE acc) = 1 →
      (s.get (PAGE_CTL.TAG_CHK (0x70 + acc / 64)) = 0 ∨ (s.get TAG_INJ.ARM = 0 ∧ s.get (Acc.RSUM acc) = residue (accSum s acc))) →
      ((s.get (ACC_THR.HI (acc / 64) (acc % 64)) * 2 ^ s.get (ACC_CFG.BLK (acc / 64) (acc % 64)) : Int) < 16 * s.int (Acc.DS acc)
        ∨ 16 * s.int (Acc.DS acc) < (s.get (ACC_THR.LO (acc / 64) (acc % 64)) * 2 ^ s.get (ACC_CFG.BLK (acc / 64) (acc % 64)) : Int)) →
      ∃ t, exec (.thresholdBlock acc) s = .next t ∧ (t.get (ACC_THR_EVT.EVT (acc / 64) (acc % 64 / 32))).testBit (acc % 32) = true
      ∧ t.get (Acc.DUE acc) = 0
      ∧ Frame (.any [.fields [Acc.DUE acc, ACC_THR_EVT.EVT (acc / 64) (acc % 64 / 32)], tagFp (0x70 + acc / 64)]) s t)

/-- R74, R81, R358 to R362: the scrubbers, the shadow and the restore of a retention word, a write through a window, and the
injections. -/
def Obligations.MemoryIntegrity : Prop :=
  ∀ (s : State) (a : Access) (u : BitVec 8) (wd : Fin 512) (addr : BitVec 24) (w : BitVec 32),
    muted s 0xA0 = false → muted s 0xA1 = false → s.get (MEM_INJ.ARM 1) = 0 →
    (scrubRuns s 0 = false → exec (.sramScrub u) s = .next s)
    ∧ (scrubRuns s 0 = true →
      ∃ t, exec (.sramScrub u) s = .next t ∧ t.get (MEM_SCRUB_POS.POS 0) = (s.get (MEM_SCRUB_POS.POS 0) + 1) % 524288
      ∧ ((s.get (MEM_SCRUB_POS.POS 0) = 524287 → t.get (MEM_PASS.PASS 0) = min 4294967295 (s.get (MEM_PASS.PASS 0) + 1)
              ∧ (t.get (PAGE_IRQ_STAT.EVT 0xA0)).testBit 2 = true)
          ∧ (s.ecc = [] → popCount 8 u.toNat = 1 → t.get (MEM_CNT.CE 0) = min 65535 (s.get (MEM_CNT.CE 0) + 1)
              ∧ t.get (MEM_CE_ADDR.ADDR 0) = 0x200000 + 8 * s.get (MEM_SCRUB_POS.POS 0) ∧ t.ecc = [])
          ∧ (s.ecc = [] → 2 ≤ popCount 8 u.toNat → t.get (MEM_CNT.UE 0) = min 65535 (s.get (MEM_CNT.UE 0) + 1)
              ∧ eccState t (0x40000 + s.get (MEM_SCRUB_POS.POS 0)) = 2 ∧ (t.get (PAGE_FLT_STAT.CAUSE 0xA0)).testBit 1 = true))
      ∧ Frame (.any [.fields [MEM_SCRUB_POS.POS 0, MEM_PASS.PASS 0, Mem.PASS_CE 0], eccReadFp]) s t)
    ∧ (∃ t, exec (.retentionScrub u) s = .next t ∧ t.get Mem.RETPOS = (s.get Mem.RETPOS + 1) % 512
      ∧ (s.get Mem.RETPOS = 511 → (t.get (PAGE_IRQ_STAT.EVT 0xA0)).testBit 2 = true)
      ∧ (s.ecc = [] → 2 ≤ popCount 8 u.toNat → eccState t (retKey (s.get Mem.RETPOS)) = 2
          ∧ (t.get (PAGE_FLT_STAT.CAUSE 0xA0)).testBit 2 = true)
      ∧ Frame (.any [.fields [Mem.RETPOS, MEM_PASS.PASS 0, Mem.PASS_CE 2], eccReadFp]) s t)
    ∧ (scrubRuns s 1 = false → exec (.mramScrub u) s = .next s)
    ∧ (scrubRuns s 1 = true →
      ∃ t, exec (.mramScrub u) s = .next t ∧ t.get (MEM_SCRUB_POS.POS 1) = (s.get (MEM_SCRUB_POS.POS 1) + 1) % 131072
      ∧ ((s.get (MEM_SCRUB_POS.POS 1) = 131071 → t.get (MEM_PASS.PASS 1) = min 4294967295 (s.get (MEM_PASS.PASS 1) + 1)
              ∧ (t.get (PAGE_IRQ_STAT.EVT 0xA1)).testBit 2 = true)
          ∧ (s.ecc = [] → popCount 8 u.toNat = 1 → s.get (MEM_SCRUB_POS.POS 1) < 131072 → t.ecc = []
              ∧ t.get (MEM_CNT.CE 1) = min 65535 (s.get (MEM_CNT.CE 1) + 1)))
      ∧ Frame (.any [.fields [MEM_SCRUB_POS.POS 1, MEM_PASS.PASS 1, Mem.PASS_CE 1], eccReadFp]) s t)
    ∧ ((s.get Boot.HELD = 1 ∨ eccState s (retKey wd) = 2) → exec (.retentionShadowCopy wd) s = .next s)
    ∧ (s.get Boot.HELD = 0 → eccState s (retKey wd) ≠ 2 →
      ∃ t, exec (.retentionShadowCopy wd) s = .next t ∧ t.word (shadowAddr wd) = s.retWord (8 * wd)
      ∧ t.word (shadowAddr wd + 4) = s.retWord (8 * wd + 4)
      ∧ Frame { mem := fun x => decide (shadowAddr wd ≤ x) && decide (x < shadowAddr wd + 8), ecc := fun x => x == shadowAddr wd / 8 } s t)
    ∧ (eccState s (retKey wd) ≠ 2 → exec (.retentionRestore wd) s = .next s)
    ∧ (eccState s (retKey wd) = 2 →
      ∃ t, exec (.retentionRestore wd) s = .next t ∧ t.retWord (8 * wd) = s.word (shadowAddr wd)
      ∧ t.retWord (8 * wd + 4) = s.word (shadowAddr wd + 4) ∧ eccState t (retKey wd) = 0
      ∧ Frame { ret := fun x => decide (8 * wd.val ≤ x) && decide (x < 8 * wd.val + 8), ecc := fun x => x == retKey wd } s t)
    ∧ (served s = true →
      (keeperView s a = true →
        ∃ t, exec (.windowWrite a (BitVec.ofNat 24 (0x500000 + addr.toNat % 0x80000 / 4 * 4)) w) s = .next t
        ∧ t.word (0x500000 + addr.toNat % 0x80000 / 4 * 4) = w.toNat ∧ t.get (Last.CODE (pathNum a.path)) = 0
        ∧ Frame (.any [{ mem := fun x => decide (0x500000 + addr.toNat % 0x80000 / 4 * 4 ≤ x) && decide (x < 0x500000 + addr.toNat % 0x80000 / 4 * 4 + 4),
                         ecc := fun x => x == (0x500000 + addr.toNat % 0x80000 / 4 * 4) / 8 },
            .fields [MEM_INJ.ARM 0, PAGE_IRQ_STAT.EVT 0xA0], accessFp a 0xA0]) s t)
      ∧ (keeperView s a = false →
        ∃ t, exec (.windowWrite a (BitVec.ofNat 24 (0x500000 + addr.toNat % 0x80000 / 4 * 4)) w) s = .next t
        ∧ t.get (Last.CODE (pathNum a.path)) = 1 ∧ t.get (PAGE_STAT.REFUSED 0xA0) = 1
        ∧ t.get (PAGE_STAT.REFUSE_WHY 0xA0) = 1 ∧ Frame (accessFp a 0xA0) s t)
      ∧ (∃ t, exec (.windowWrite a (BitVec.ofNat 24 (0x5E0000 + addr.toNat % 0x20000 / 4 * 4)) w) s = .next t
        ∧ t.get (Last.CODE (pathNum a.path)) = (if keeperView s a = true then 0 else 1))
      ∧ (∃ t, exec (.windowWrite a (BitVec.ofNat 24 (0x580000 + addr.toNat % 0x60000 / 4 * 4)) w) s = .next t
        ∧ t.get (Last.CODE (pathNum a.path)) = 1 ∧ Frame (accessFp a 0xA0) s t)
      ∧ (addr.toNat % 4 ≠ 0 → addr.toNat < 0x700000 →
        ∃ t, exec (.windowWrite a addr w) s = .next t ∧ t.get (Last.CODE (pathNum a.path)) = 8
        ∧ Frame (.fields [Last.CODE (pathNum a.path)]) s t)
      ∧ (∃ t, exec (.windowWrite a (BitVec.ofNat 24 (0x800000 + addr.toNat / 8 * 4)) w) s = .next t
        ∧ t.get (Last.CODE (pathNum a.path)) = 4 ∧ t.get (PAGE_STAT.REFUSED 0x00) = 1 ∧ Frame (accessFp a 0x00) s t))
    ∧ (served s = true → keeperView s a = true → s.get (PAGE_LOCK.CFG 0xA0) = 0 →
      (s.get (PAGE_LOCK.INJ 0xA0) = 0 →
        ∃ t, exec (.injectionArm a false w) s = .next t ∧ t.get (MEM_INJ.MASK 0) = w.toNat % 256
        ∧ t.get (MEM_INJ.ARM 0) = bitOf (w.getLsbD 31 && (popCount 8 (w.toNat % 256) == 1 || popCount 8 (w.toNat % 256) == 2))
        ∧ Frame (.any [.fields [MEM_INJ.MASK 0, MEM_INJ.ARM 0], accessFp a 0xA0]) s t)
      ∧ (s.get (PAGE_LOCK.INJ 0xA0) = 1 → w.getLsbD 31 = true → s.get (MEM_INJ.ARM 0) = 0 →
        ∃ t, exec (.injectionArm a false w) s = .next t ∧ t.get (Last.CODE (pathNum a.path)) = 2 ∧ t.get (MEM_INJ.ARM 0) = 0
        ∧ t.get (MEM_INJ.MASK 0) = w.toNat % 256
        ∧ Frame (.any [.fields [MEM_INJ.MASK 0, MEM_INJ.ARM 0], accessFp a 0xA0]) s t))
    ∧ (served s = true → keeperView s a = true → s.get (PAGE_LOCK.CFG 0xA2) = 0 → s.get (PAGE_LOCK.INJ 0xA2) = 0 →
      ∃ t, exec (.tagInj a w) s = .next t ∧ t.get TAG_INJ.MASK = w.toNat % 8192 ∧ t.get TAG_INJ.PAGE = w.toNat / 65536 % 256
      ∧ t.get TAG_INJ.PATH = w.toNat / 2 ^ 28 % 4 ∧ t.get TAG_INJ.PATH_SEL = bitOf (w.getLsbD 30)
      ∧ t.get TAG_INJ.ARM = bitOf (w.getLsbD 31 && w.toNat % 8192 != 0)
      ∧ Frame (.any [.fields [TAG_INJ.MASK, TAG_INJ.PAGE, TAG_INJ.PATH, TAG_INJ.PATH_SEL, TAG_INJ.ARM], accessFp a 0xA2]) s t)

/-- R369 to R373, R377, R378: a sensor takes its sample at its boundary: a missing value is an insane sample, a sane one
becomes the value and enters every comparison. The third sample across a threshold changes the level of the sensor and of its
zone, upwards under a substitute only; eight samples beyond the margin lengthen the interval; the third insane sample fails
the sensor; ten sane seconds end its substitution; ten seconds without an estimate bring minimum power. -/
def Obligations.ThermalSamplesAndLevels : Prop :=
  ∀ (s : State) (k : Fin 88),
    (thLive s k = false → exec (.thermalSample k) s = .next s ∧ exec (.thermalUrgentRequest k) s = .next s)
    ∧ (thLive s k = true → s.get (THS_STAT.SUBST k) = 0 → s.get (Ths.OUT k) = 0 →
      (s.get (Thm.NEW k) = 0 → (k.val < 40 ∨ s.get (PORT_CTL.TD_USE (k - 40)) = 0) →
        ∃ t, exec (.thermalSample k) s = .next t ∧ t.get (Ths.ICAUSE k) = 3
        ∧ t.get (Ths.INS k) = min 3 (s.get (Ths.INS k) + 1) ∧ t.get (THS_VAL.T k) = s.get (THS_VAL.T k)
        ∧ Frame (sampleFp s k) s t)
      ∧ (s.get (Thm.NEW k) = 1 → 40 ≤ k.val → s.get (PORT_CTL.TD_USE (k - 40)) = 0 →
        (saneCause s k (s.int (PORT_FET_T.T_FET (k - 40))) = 0 →
          ∃ t, exec (.thermalSample k) s = .next t ∧ t.int (THS_VAL.T k) = s.int (PORT_FET_T.T_FET (k - 40))
          ∧ t.get (THS_VAL.VALID k) = 1 ∧ t.get (THS_VAL.SUBST k) = 0 ∧ t.get (Ths.INS k) = 0 ∧ t.get (Thm.NEW k) = 0
          ∧ (∀ v : Nat, threshold s (THS_TH.TH1 k) = some (v : Int) →
              ((v : Int) ≤ s.int (PORT_FET_T.T_FET (k - 40)) → t.get (Ths.UP1 k) = min 3 (s.get (Ths.UP1 k) + 1))
              ∧ (s.int (PORT_FET_T.T_FET (k - 40)) < (v : Int) → t.get (Ths.UP1 k) = 0))
          ∧ Frame (sampleFp s k) s t)
        ∧ (2000 < s.int (PORT_FET_T.T_FET (k - 40)) →
          ∃ t, exec (.thermalSample k) s = .next t ∧ t.get (Ths.ICAUSE k) = 1
          ∧ t.get (Ths.INS k) = min 3 (s.get (Ths.INS k) + 1) ∧ Frame (sampleFp s k) s t)))
    ∧ ((40 ≤ k.val ∨ s.get (Thm.NEW k) = 1) → exec (.thermalUrgentRequest k) s = .next s)
    ∧ (thLive s k = true → k.val < 40 → s.get (Thm.NEW k) = 0 →
      exec (.thermalUrgentRequest k) s = .next (urgentRequest s (if k.val < 8 then 5 else 1 + thComb k) (thInput k)))
    ∧ (thLive s k = true → k.val < 8 → s.get (Thm.NEW k) = 0 → urgentBusy s 5 = true →
      ∃ t, exec (.thermalUrgentRequest k) s = .next t ∧ t.get HKS_CNT0.URG_DROP = min 65535 (s.get HKS_CNT0.URG_DROP + 1)
      ∧ (t.get (PAGE_IRQ_STAT.EVT 0x68)).testBit 2 = true
      ∧ Frame (.fields [HKS_CNT0.URG_DROP, PAGE_IRQ_STAT.EVT 0x68]) s t)
    ∧ (thLive s k = true → k.val < 8 → s.get (Thm.NEW k) = 0 → urgentBusy s 5 = false → inputAbsent s (thInput k) = false →
        (List.range 8).all (fun n => s.get (Imp.PAIR n) == 0) = true →
      ∀ m : Fin 4, firstLane (fun x => laneFree s x && laneFits s x (thInput k)) = some m.val →
      ∃ t, exec (.thermalUrgentRequest k) s = .next t ∧ t.get (Lane.BUSY m) = 1 ∧ t.get (Lane.IN m) = thInput k
      ∧ t.get (Lane.KIND m) = 4 ∧ t.get (Lane.WHO m) = 5 ∧ Frame (laneFp m) s t)
    ∧ (thLive s k = true → s.get (THS_CFG.ZONE k) < 16 →
      (s.get (Ths.UP1 k) = 3 → s.get (Ths.DN2 k) < 3 → s.get (Ths.UP2 k) < 3 → s.get (Ths.OVER2 k) = 0 → s.get (Ths.MINP k) = 0 →
        ∃ t, exec (.throttleLevel k) s = .next t ∧ t.get (THS_STAT.LEVEL k) = 1
        ∧ 1 ≤ t.get (THZ_STAT.LEVEL (s.get (THS_CFG.ZONE k))) ∧ Frame (throttleFp s k) s t)
      ∧ (s.get (Ths.UP2 k) = 3 → s.get (Ths.MINP k) = 0 →
        ∃ t, exec (.throttleLevel k) s = .next t ∧ t.get (THS_STAT.LEVEL k) = 2
        ∧ t.get (THZ_STAT.LEVEL (s.get (THS_CFG.ZONE k))) = 2 ∧ Frame (throttleFp s k) s t)
      ∧ (s.get (THS_STAT.SUBST k) = 1 →
        ∃ t, exec (.throttleLevel k) s = .next t ∧ s.get (Ths.OVER1 k) ≤ t.get (Ths.OVER1 k)
        ∧ s.get (Ths.OVER2 k) ≤ t.get (Ths.OVER2 k) ∧ Frame (throttleFp s k) s t)
      ∧ (s.get (Ths.DN1 k) = 3 → s.get (Ths.DN2 k) = 3 → s.get (Ths.UP1 k) < 3 → s.get (Ths.UP2 k) < 3 →
          s.get (THS_STAT.SUBST k) = 0 → s.get (Ths.MINP k) = 0 →
        ∃ t, exec (.throttleLevel k) s = .next t ∧ t.get (THS_STAT.LEVEL k) = 0 ∧ Frame (throttleFp s k) s t))
    ∧ (thLive s k = true → s.get (Ths.LEN k) = 8 → 1 ≤ s.get (THS_STAT.INTERVAL k) →
      ∃ t, exec (.intervalLengthen k) s = .next t ∧ t.get (THS_STAT.INTERVAL k) = s.get (THS_STAT.INTERVAL k) - 1
      ∧ t.get (Ths.LEN k) = 0 ∧ Frame (.fields [THS_STAT.INTERVAL k, Ths.LEN k]) s t)
    ∧ ((thLive s k = false ∨ s.get (Ths.INS k) ≠ 3 ∨ s.get (THS_STAT.SUBST k) = 1) → exec (.sensorFailed k) s = .next s)
    ∧ (thLive s k = true → s.get (Ths.INS k) = 3 → s.get (THS_STAT.SUBST k) = 0 →
      ∃ t, exec (.sensorFailed k) s = .next t ∧ t.get (THS_STAT.SUBST k) = 1
      ∧ t.get (THS_STAT.FAIL_CAUSE k) = s.get (Ths.ICAUSE k)
      ∧ (t.get (THM_SUBST.SUBST (k / 32))).testBit (k % 32) = true
      ∧ (t.get (THZ_EVT.EVT (s.get (THS_CFG.ZONE k)))).testBit 4 = true
      ∧ (muted s 0x80 = false → (t.get (PAGE_FLT_STAT.CAUSE 0x80)).testBit 4 = true)
      ∧ t.get (THS_VAL.SUBST k) = 1
      ∧ (s.get (Ths.LASTOK k) = 1 → s.get (THS_CFG.EST k) = 0 → -32768 ≤ s.int (Ths.LAST k) → s.int (Ths.LAST k) ≤ 32717 →
          t.int (THS_VAL.T k) = s.int (Ths.LAST k) + 50)
      ∧ Frame (.any [sampleFp s k, raiseFp 0x80]) s t)
    ∧ (thLive s k = true → s.get (THS_STAT.SUBST k) = 1 → s.get (Ths.OUT k) = 0 → s.get (Ths.SANERUN k) = 1 →
      ∃ t, exec (.substitutionEnd k) s = .next t ∧ t.get (THS_STAT.SUBST k) = 0 ∧ t.get (THS_STAT.FAIL_CAUSE k) = 0
      ∧ t.get (Ths.MINP k) = 0 ∧ t.get (THS_VAL.T k) = s.get (Ths.LAST k) ∧ t.get (THS_VAL.SUBST k) = 0
      ∧ (t.get (THM_SUBST.SUBST (k / 32))).testBit (k % 32) = false
      ∧ (t.get (THZ_EVT.EVT (s.get (THS_CFG.ZONE k)))).testBit 5 = true
      ∧ Frame (.any [sampleFp s k, endFp 0x80]) s t)
    ∧ (s.get (THS_STAT.SUBST k) = 1 → s.get (THS_CFG.EST k) = 0 → s.get (Ths.MINP k) = 0 →
      (sdLevel s k).isSome = true →
      ∃ t, exec (.minPower k) s = .next t
      ∧ t.get (Ths.MINP k) = 1 ∧ t.get (THS_STAT.LEVEL k) = 3
      ∧ (thKept s k = true → t.get (THZ_STAT.MINPWR (s.get (THS_CFG.ZONE k))) = 1)
      ∧ (t.get (THZ_EVT.EVT (s.get (THS_CFG.ZONE k)))).testBit 6 = true
      ∧ (muted s 0x80 = false → (t.get (PAGE_FLT_STAT.CAUSE 0x80)).testBit 5 = true)
      ∧ Frame (.any [sampleFp s k, raiseFp 0x80]) s t)

/-- R374 to R376: the second sample at or above SD, or the comparator on the die, shuts down what the sensor guards, with a
record of a DIE or BATTERY shutdown; a cooled sensor ends its shutdown, a recorded one once every record is acknowledged; the
first accepted write of a shutdown level locks it. -/
def Obligations.ThermalShutdowns : Prop :=
  ∀ (s : State) (a : Access) (k : Fin 88) (w : BitVec 32),
    (s.get (Ths.SDDUE k) = 0 → exec (.shutdown k) s = .next s)
    ∧ (s.get (Ths.SDDUE k) = 1 →
      ∃ t, exec (.shutdown k) s = .next t ∧ t.get (THS_STAT.SD k) = 1 ∧ t.get (Ths.SHUTT k) = s.get (THS_VAL.T k)
      ∧ (t.get (THZ_EVT.EVT (s.get (THS_CFG.ZONE k)))).testBit 2 = true
      ∧ (muted s 0x80 = false → (t.get (PAGE_FLT_STAT.CAUSE 0x80)).testBit (thKind k) = true)
      ∧ (thKind k < 2 → t.get (THS_STAT.PEND_ACK k) = 1 ∧ (t.get (THM_PEND.PEND (k / 32))).testBit (k % 32) = true
          ∧ t.get (Ths.RECS k) = min 255 (s.get (Ths.RECS k) + 1)
          ∧ (s.get Log.NEXT < 3584 → t.get Log.NEXT = s.get Log.NEXT + 1))
      ∧ (thKind k = 1 → t.get (CHG_SETPT.I_EFF ((k - 24) / 2)) = 0 ∧ t.get (Port.CMD (batPort ((k - 24) / 2))) = 0)
      ∧ (thKind k = 2 → t.get (PH_STAT.SLOTS (k - 8)) = 0)
      ∧ (thKind k = 3 → t.get (Port.HOT (k - 40)) = 1)
      ∧ (thKind k = 0 → (∀ p : Fin 16, t.get (PH_STAT.STATE p) ≠ 1) ∧ (∀ n : Fin 48, portKind n = 3 →
          t.get (PORT_STAT.GATE_FULL n) = 0))
      ∧ Frame (.any [.fields [THS_STAT.SD k, Ths.SDDUE k, Ths.SHUTT k, Ths.COLD k, Ths.COOLED k,
          THZ_EVT.EVT (s.get (THS_CFG.ZONE k))], shutActionFp k, raiseFp 0x80, pendFp k]) s t)
    ∧ (∃ t, exec .dieComparator s = .next t
      ∧ t.get (THS_STAT.SD 0) = 1 ∧ t.get (THS_STAT.PEND_ACK 0) = 1 ∧ (t.get (THM_PEND.PEND 0)).testBit 0 = true
      ∧ (∀ p : Fin 16, t.get (PH_STAT.STATE p) ≠ 1) ∧ (∀ n : Fin 48, portKind n = 3 → t.get (PORT_STAT.GATE_FULL n) = 0)
      ∧ (muted s 0x80 = false → (t.get (PAGE_FLT_STAT.CAUSE 0x80)).testBit 0 = true)
      ∧ Frame (.any [.fields [THS_STAT.SD 0, Ths.SDDUE 0, Ths.SHUTT 0, Ths.COLD 0, Ths.COOLED 0,
          THZ_EVT.EVT (s.get (THS_CFG.ZONE 0))], shutActionFp 0, raiseFp 0x80, pendFp 0]) s t)
    ∧ ((s.get (THS_STAT.SD k) = 0 ∨ s.get (Ths.COLD k) = 0) → exec (.cooled k) s = .next s)
    ∧ (s.get (THS_STAT.SD k) = 1 → s.get (Ths.COLD k) = 1 →
      (s.get (Ths.RECS k) ≠ 0 → exec (.cooled k) s = .next (s.put (Ths.COOLED k) 1))
      ∧ (s.get (Ths.RECS k) = 0 →
        ∃ t, exec (.cooled k) s = .next t ∧ t.get (THS_STAT.SD k) = 0
        ∧ (t.get (THZ_EVT.EVT (s.get (THS_CFG.ZONE k)))).testBit 3 = true
        ∧ (thKind k = 2 → s.get (PH_CTL.RUN (k - 8)) = 1 → s.get (PH_STAT.STATE (k - 8)) = 0 →
            t.get (PH_STAT.STATE (k - 8)) = 3)
        ∧ (thKind k = 3 → t.get (Port.HOT (k - 40)) = 0)
        ∧ Frame (shutEndFp s k) s t))
    ∧ (served s = true → keeperView s a = true → s.get (PAGE_LOCK.CFG 0x80) = 0 →
      (s.get (Ths.RECS k) = 1 →
        ∃ t, exec (.thmAck a (BitVec.ofNat 32 k.val)) s = .next t ∧ t.get (Ths.RECS k) = 0 ∧ t.get (THS_STAT.PEND_ACK k) = 0
        ∧ t.get (Last.CODE (pathNum a.path)) = 0
        ∧ (s.get (Ths.COOLED k) = 1 → s.get (THS_STAT.SD k) = 1 → t.get (THS_STAT.SD k) = 0)
        ∧ Frame (.any [pendFp k, shutEndFp s k, accessFp a 0x80]) s t)
      ∧ (2 ≤ s.get (Ths.RECS k) →
        ∃ t, exec (.thmAck a (BitVec.ofNat 32 k.val)) s = .next t ∧ t.get (Ths.RECS k) = s.get (Ths.RECS k) - 1
        ∧ t.get (THS_STAT.PEND_ACK k) = 1 ∧ t.get (THS_STAT.SD k) = s.get (THS_STAT.SD k)
        ∧ t.get (Last.CODE (pathNum a.path)) = 0 ∧ Frame (.any [pendFp k, accessFp a 0x80]) s t)
      ∧ (s.get (Ths.RECS k) = 0 →
        ∃ t, exec (.thmAck a (BitVec.ofNat 32 k.val)) s = .next t ∧ t.get (Last.CODE (pathNum a.path)) = 0
        ∧ Frame (accessFp a 0x80) s t))
    ∧ (served s = true → keeperView s a = false → 1 ≤ k.val →
      ∃ t, exec (.thmAck a (BitVec.ofNat 32 k.val)) s = .next t ∧ t.get (Last.CODE (pathNum a.path)) = 1
      ∧ Frame (accessFp a 0x80) s t)
    ∧ (served s = true → keeperView s a = true → 8 ≤ k.val → s.get (THS_SD.LOCK k) = 0 →
      ∃ t, exec (.sdWrite a k w) s = .next t ∧ t.get (THS_SD.SD k) = w.toNat % 65536 ∧ t.get (THS_SD.LOCK k) = 1
      ∧ t.get (Last.CODE (pathNum a.path)) = 0
      ∧ Frame (.any [.fields [THS_SD.SD k, THS_SD.LOCK k, Ths.LEN k], accessFp a 0x80]) s t)
    ∧ (served s = true → (k.val < 8 ∨ s.get (THS_SD.LOCK k) = 1 ∨ keeperView s a = false) →
      ∃ t, exec (.sdWrite a k w) s = .next t
      ∧ (w.toNat % 65536 ≠ s.get (THS_SD.SD k) → t.get (Last.CODE (pathNum a.path)) = if keeperView s a then 2 else 1)
      ∧ Frame (accessFp a 0x80) s t)

/-- R204 to R234: an evaluation of an engine that may not run changes nothing; an unqualified engine in SAFE-BOOT makes a
null evaluation; a follower without a lead opens its port and raises FOLLOW_CFG; a RESTART or a GOTO is taken before the
exits, and a taken exit, the safety timer and an over-high cell voltage show as their own commands. Blocks, the ten-second
means and stale inputs follow their rules. -/
def Obligations.ChargeEvaluations : Prop :=
  ∀ (s : State) (n : Fin 8) (e : Fin 4),
    (evaluates s n = false → exec (.evaluation n) s = .next s)
    ∧ (engineLive s n = true → inSafeBoot s = true → s.get (CHG_CTL.EN n) = 0 →
      ∃ t, exec (.evaluation n) s = .next t ∧ t.get (CHG_SETPT.I_EFF n) = 0 ∧ t.get (Port.CMD (batPort n)) = 0
      ∧ t.get (Chg.STARTED n) = 0 ∧ Frame (chargeFp s n) s t)
    ∧ (engineLive s n = true → inSafeBoot s = false → s.get (CHG_CTL.EN n) = 1 → s.get (CHG_CTL.FOLLOW n) = 1 →
      ((s.get (CHG_CTL.EN (n.val ^^^ 1)) = 0 ∨ s.get (CHG_CTL.FOLLOW (n.val ^^^ 1)) = 1) →
        ∃ t, exec (.evaluation n) s = .next t ∧ t.get (Port.CMD (batPort n)) = 0
        ∧ (muted s (0x88 + n) = false → s.bit (Flt.PRESENT (0x88 + n)) 6 = false →
            (t.get (PAGE_FLT_STAT.CAUSE (0x88 + n))).testBit 6 = true)
        ∧ Frame (chargeFp s n) s t)
      ∧ (s.get (CHG_CTL.EN (n.val ^^^ 1)) = 1 → s.get (CHG_CTL.FOLLOW (n.val ^^^ 1)) = 0 →
        ∃ t, exec (.evaluation n) s = .next t ∧ t.get (CHG_STAT.STATE n) = s.get (CHG_STAT.STATE (n.val ^^^ 1))
        ∧ t.get (CHG_STAT.FOLLOWER n) = 1 ∧ Frame (chargeFp s n) s t))
    ∧ (engineLive s n = true → inSafeBoot s = false → s.get (CHG_CTL.EN n) = 1 → s.get (CHG_CTL.FOLLOW n) = 0 →
        s.get (Chg.STARTED n) = 1 → s.get (CHG_STAT.STATE n) ≠ 62 →
      ∀ a, profileOf s n = some a →
        (s.get (Chg.CMD n) / 256 = 0x101 →
          ∃ t, exec (.evaluation n) s = .next t ∧ t.get (CHG_STAT.STATE n) = s.leNat (a + 7) 1 % 64
          ∧ t.get (Chg.AHT n) = 0 ∧ t.get (CHG_LAST.CAUSE n) = 1 ∧ t.get (CHG_LAST.FROM n) = s.get (CHG_STAT.STATE n)
          ∧ t.get (Chg.TW n) = 0 ∧ t.get (Chg.TS n) = 0 ∧ t.get (Chg.CMD n) = 0
          ∧ t.get (CHG_ABS_CNT.REMOVALS n) = 0 ∧ t.get (CHG_ABS_CNT.PROBES n) = 0 ∧ Frame (chargeFp s n) s t)
        ∧ (s.get (Chg.CMD n) / 256 = 0x102 → s.get (Chg.CMD n) % 256 < nStates s a →
          ∃ t, exec (.evaluation n) s = .next t ∧ t.get (CHG_STAT.STATE n) = s.get (Chg.CMD n) % 256
          ∧ t.get (CHG_LAST.CAUSE n) = 1 ∧ t.get (Chg.TW n) = 0 ∧ t.get (Chg.CMD n) = 0 ∧ Frame (chargeFp s n) s t)
        ∧ ((s.get (CHG_STAT.STATE n) < nStates s a ∨ s.get (CHG_STAT.STATE n) = 63) →
          ∃ t, exec (.evaluation n) s = .next t ∧ t.get (Chg.CMD n) = 0
          ∧ (stMode s a (t.get (CHG_STAT.STATE n)) ≠ 1 → t.get (CHG_SETPT.I_EFF n) = 0)
          ∧ (stMode s a (t.get (CHG_STAT.STATE n)) = 0 → t.get (CHG_SETPT.V_EFF n) = 0 ∧ t.get (Port.CMD (batPort n)) = 0)
          ∧ Frame (chargeFp s n) s t))
    ∧ ((evaluate s n).2 ≠ 4 + e.val → exec (.exitMet n e) s = .next s)
    ∧ ((evaluate s n).2 = 4 + e.val →
      ∃ t, exec (.exitMet n e) s = .next t ∧ t.get (CHG_LAST.CAUSE n) = 0 ∧ t.get (CHG_LAST.EXIT n) = e.val
      ∧ t.get (CHG_LAST.FROM n) = s.get (CHG_STAT.STATE n)
      ∧ (∀ a, engineProfile s n = some a →
          t.get (CHG_STAT.STATE n) = slice (exitWord s a (s.get (CHG_STAT.STATE n)) e) 8 6)
      ∧ Frame (chargeFp s n) s t)
    ∧ ((evaluate s n).2 ≠ 3 → exec (.chargeTimeout n) s = .next s)
    ∧ ((evaluate s n).2 = 3 →
      ∃ t, exec (.chargeTimeout n) s = .next t ∧ t.get (CHG_STAT.STATE n) = 63 ∧ t.get (CHG_LAST.CAUSE n) = 2
      ∧ t.get (CHG_SETPT.I_EFF n) = 0 ∧ t.get (CHG_SETPT.V_EFF n) = s.get (CHG_SETPT.V_EFF n)
      ∧ (muted s (0x88 + n) = false → (t.get (PAGE_FLT_STAT.CAUSE (0x88 + n))).testBit 0 = true)
      ∧ Frame (chargeFp s n) s t)
    ∧ (s.bit (Flt.PRESENT (0x88 + n)) 2 = true → exec (.vcellHigh n) s = .next s)
    ∧ (s.bit (Flt.PRESENT (0x88 + n)) 2 = false → (evaluate s n).1.bit (Flt.PRESENT (0x88 + n)) 2 = true →
      ∃ t, exec (.vcellHigh n) s = .next t ∧ (t.get (PAGE_FLT_STAT.CAUSE (0x88 + n))).testBit 2 = true
      ∧ Frame (chargeFp s n) s t)
    ∧ ((engineLive s n = false ∨ s.get (CHG_CTL.EN n) = 0 ∨ s.get (CHG_CTL.FOLLOW n) = 1
          ∨ (s.get (Chg.REFT n 0) < 20 ∧ s.get (Chg.REFT n 1) < 20)) → exec (.staleInput n) s = .next s)
    ∧ (engineLive s n = true → s.get (CHG_CTL.EN n) = 1 → s.get (CHG_CTL.FOLLOW n) = 0 →
        (20 ≤ s.get (Chg.REFT n 0) ∨ 20 ≤ s.get (Chg.REFT n 1)) →
      ∃ t, exec (.staleInput n) s = .next t ∧ t.get (CHG_SETPT.I_EFF n) = 0 ∧ t.get (Chg.NOFEED n) = 1
      ∧ (muted s (0x88 + n) = false → s.bit (Flt.PRESENT (0x88 + n)) 3 = false →
          (t.get (PAGE_FLT_STAT.CAUSE (0x88 + n))).testBit 3 = true)
      ∧ Frame (chargeFp s n) s t)
    ∧ (engineRuns s n = false → exec (.blockClose n) s = .next s ∧ exec (.dtdtUpdate n) s = .next s)
    ∧ (∀ a, engineProfile s n = some a → engineRuns s n = true →
      (s.get (Chg.VEP n) ≠ accEpoch s (s.get (CHG_ACC.VACC n)) →
        ∃ t, exec (.blockClose n) s = .next t ∧ t.get (Chg.VCNT n) = accCnt s (s.get (CHG_ACC.VACC n))
        ∧ t.get (Chg.VEP n) = accEpoch s (s.get (CHG_ACC.VACC n))
        ∧ t.get (CHG_VCELL.VCELL n) = s.get (CHG_VCELL.VCELL n) ∧ Frame (chargeFp s n) s t)
      ∧ (s.get (Chg.VEP n) = accEpoch s (s.get (CHG_ACC.VACC n)) →
          accCnt s (s.get (CHG_ACC.VACC n)) < s.get (Chg.VCNT n) + blockLen s a → exec (.blockClose n) s = .next s)
      ∧ (s.get (Chg.VEP n) = accEpoch s (s.get (CHG_ACC.VACC n)) → s.get TAG_INJ.ARM = 0 →
          (s.get (PAGE_CTL.TAG_CHK (0x88 + n)) = 0
            ∨ s.get (Acc.RSUM (s.get (CHG_ACC.VACC n))) = residue (accSum s (s.get (CHG_ACC.VACC n)))) →
          s.get (Chg.VCNT n) + blockLen s a ≤ accCnt s (s.get (CHG_ACC.VACC n)) →
        ∃ t, exec (.blockClose n) s = .next t ∧ t.get (Chg.VCNT n) = accCnt s (s.get (CHG_ACC.VACC n))
        ∧ t.get (Chg.BLKOK n) = 1
        ∧ t.get (CHG_VCELL.VCELL n) = min 65535 (t.get (Chg.MEAN n) / (cellsOf s a * 100000)) ∧ Frame (chargeFp s n) s t))
    ∧ (engineRuns s n = true → s.get (Chg.TCNT n) < 100 → exec (.dtdtUpdate n) s = .next s)
    ∧ (engineRuns s n = true → 100 ≤ s.get (Chg.TCNT n) →
      ∃ t, exec (.dtdtUpdate n) s = .next t ∧ t.get (Chg.TCNT n) = 0 ∧ t.get (Chg.TSUM n) = 0
      ∧ (s.get (Chg.TMN n) < 6 → t.get (CHG_STAT.DTDT_VALID n) = s.get (CHG_STAT.DTDT_VALID n))
      ∧ (6 ≤ s.get (Chg.TMN n) → t.get (CHG_STAT.DTDT_VALID n) = 1
          ∧ t.int (CHG_DV.DTDT n) = clampInt (-32768) 32767 (10 * (t.int (Chg.TM n 0) - s.int (Chg.TM n 5))))
      ∧ Frame (chargeFp s n) s t)

/-- R224 to R229: a probe is triggered by a collapse of the current or a loss of presence, or falls due; it freezes the
checkpoint and pauses the timers, and its end confirms the absence or rejects it. A battery that returns within 10 s resumes
the checkpoint, a later one is taken as new; a lamp takes the pattern selected for it. R204, R213, R231, R236: EN starts an
engine anew or ends it with its port open, a new PROFILE restarts it and raises PROFILE where it is not valid; RESTART and
GOTO wait for the next evaluation, CLEAR_TOTAL acts at once. -/
def Obligations.ProbesLampsAndChargeRegisters : Prop :=
  (∀ (s : State) (n m e : Fin 8) (below : Bool),
    (s.get (CHG_STAT.PROBING n) = 1 → exec (.probeTrigger n) s = .next s ∧ exec (.periodicProbe n) s = .next s)
    ∧ (inCharge s n = false → s.get (PORT_CTL.PRES_USE (batPort n)) = 0 → exec (.probeTrigger n) s = .next s)
    ∧ (s.get (CHG_STAT.PROBING n) = 0 → engineRuns s (runner s n) = true →
        (inCharge s n = true ∨ (s.get (PORT_CTL.PRES_USE (batPort n)) = 1 ∧ s.get (PORT_STAT.PRES (batPort n)) = 0)) →
      ∃ t, exec (.probeTrigger n) s = .next t ∧ t.get (CHG_STAT.PROBING n) = 1
      ∧ t.get (CHG_ABS_CNT.PROBES n) = min 65535 (s.get (CHG_ABS_CNT.PROBES n) + 1)
      ∧ t.get (Chg.PV n) = s.get (Comb.VBB (n / 2))
      ∧ (probing s (runner s n) = false → t.get (Chg.CKST (runner s n)) = s.get (CHG_STAT.STATE (runner s n)))
      ∧ Frame (.any [.fields [CHG_STAT.PROBING n, Chg.PV n, Chg.PI n, CHG_ABS_CNT.PROBES n], engineFp (runner s n),
          sweepEndFp s (runner s n)]) s t)
    ∧ ((inCharge s n = false ∨ s.get (CHG_ABS.PERIOD n) = 0) → exec (.periodicProbe n) s = .next s)
    ∧ (s.get (CHG_STAT.PROBING n) = 0 → engineRuns s (runner s n) = true → inCharge s n = true → 1 ≤ s.get (CHG_ABS.PERIOD n) →
      ∃ t, exec (.periodicProbe n) s = .next t ∧ t.get (CHG_STAT.PROBING n) = 1
      ∧ t.get (CHG_ABS_CNT.PROBES n) = min 65535 (s.get (CHG_ABS_CNT.PROBES n) + 1)
      ∧ Frame (.any [.fields [CHG_STAT.PROBING n, Chg.PV n, Chg.PI n, CHG_ABS_CNT.PROBES n], engineFp (runner s n),
          sweepEndFp s (runner s n)]) s t)
    ∧ (s.get (CHG_STAT.PROBING n) = 1 → s.get (Chg.COMMIT_PEND (runner s n)) = 0 → absenceConfirmed s n below = false →
      ∃ t, exec (.probeEnd n below) s = .next t ∧ t.get (CHG_STAT.PROBING n) = 0
      ∧ (t.get (PAGE_IRQ_STAT.EVT (0x88 + n))).testBit 8 = true
      ∧ Frame (.fields [CHG_STAT.PROBING n, PAGE_IRQ_STAT.EVT (0x88 + n)]) s t)
    ∧ (s.get (CHG_STAT.PROBING n) = 1 → absenceConfirmed s n below = true →
      ∃ t, exec (.probeEnd n below) s = .next t ∧ t.get (CHG_STAT.PROBING n) = 0 ∧ t.get (Chg.ABS n) = 1
      ∧ t.get (Port.CMD (batPort n)) = 0 ∧ (t.get (PAGE_IRQ_STAT.EVT (0x88 + n))).testBit 1 = true
      ∧ t.get (CHG_ABS_CNT.REMOVALS n) = min 65535 (s.get (CHG_ABS_CNT.REMOVALS n) + 1)
      ∧ (s.get (Chg.COMMIT_PEND (runner s n)) = 0 → enginePair s (runner s n) = [n.val] → runner s n = n.val →
          t.get (CHG_STAT.STATE n) = 62 ∧ t.get (CHG_SETPT.I_EFF n) = 0 ∧ t.get (CHG_LAST.CAUSE n) = 3)
      ∧ Frame (.any [.fields [CHG_STAT.PROBING n], chargeFp s n]) s t)
    ∧ (s.get (CHG_STAT.PROBING n) = 0 → exec (.probeEnd n below) s = .next s)
    ∧ (s.get (Chg.ABS n) = 0 → exec (.batteryReturn n) s = .next s)
    ∧ (∀ a, profileOf s n = some a → runner s n = n.val → s.get (Chg.ABS n) = 1 → engineLive s n = true → hasState s n = true →
        returnVolts s n a = true →
      ∃ t, exec (.batteryReturn n) s = .next t ∧ t.get (Chg.ABS n) = 0
      ∧ (t.get (PAGE_IRQ_STAT.EVT (0x88 + n))).testBit 2 = true
      ∧ (s.get (CHG_STAT.STATE n) = 62 → s.get (Chg.CMD n) / 256 ≠ 0x101 →
          (s.get (Chg.ABSMS n) ≤ 10000 → s.get (Chg.CKST n) < nStates s a →
            t.get (CHG_STAT.STATE n) = s.get (Chg.CKST n) ∧ t.get (CHG_STAT.RESUMED n) = 1
              ∧ t.get (Chg.AHT n) = s.get (Chg.CK n 3) ∧ t.get (CHG_LAST.CAUSE n) = 4 ∧ t.get (CHG_STAT.DTDT_VALID n) = 0)
          ∧ (10000 < s.get (Chg.ABSMS n) → t.get (CHG_STAT.STATE n) = s.leNat (a + 7) 1 % 64 ∧ t.get (Chg.AHT n) = 0
              ∧ t.get (CHG_LAST.CAUSE n) = 5 ∧ (t.get (PAGE_IRQ_STAT.EVT (0x88 + n))).testBit 4 = true))
      ∧ Frame (chargeFp s n) s t)
    ∧ (∃ t, exec (.lampPatternChange m) s = .next t ∧ t.get (Pin.PAT m) = lampPattern s m
      ∧ (slice (s.get PINS_LAMP_SEL.SEL) (4 * m.val) 4 = e.val → s.get Boot.HELD = 0 → s.get HIVE_MODE.MODE ≠ 0 →
          s.get Sleep.STATE = 0 → s.get (CHG_CTL.EN e) = 1 → absent s (0x30 + batPort e) = false →
          t.get (Pin.PAT m) = s.get (CHG_STAT.LAMP e))
      ∧ Frame (.fields [Pin.PAT m]) s t))
  ∧ (∀ (s : State) (a : Access) (n : Fin 8) (w : BitVec 32) (arg : BitVec 8),
    served s = true → keeperView s a = true → s.get (PAGE_LOCK.CFG (0x88 + n)) = 0 → absent s (0x88 + n) = false →
    (∃ t, exec (.engineEnable a n w) s = .next t
      ∧ t.get (CHG_CTL.EN n) = bitOf (w.getLsbD 0) ∧ t.get (CHG_CTL.FOLLOW n) = bitOf (w.getLsbD 2)
      ∧ t.get (CHG_CTL.PROFILE n) = slice w.toNat 8 4 ∧ t.get (Last.CODE (pathNum a.path)) = 0
      ∧ (s.get (CHG_CTL.EN n) = 1 → w.getLsbD 0 = false → t.get (Port.CMD (batPort n)) = 0 ∧ t.get (CHG_SETPT.I_EFF n) = 0
          ∧ t.get (Chg.STARTED n) = 0)
      ∧ (s.get (CHG_CTL.EN n) = 0 → w.getLsbD 0 = true → t.get (Chg.STARTED n) = 0
          ∧ t.get (CHG_STAT.STATE n) = s.get (CHG_STAT.STATE n))
      ∧ Frame (.any [.fields [CHG_CTL.EN n, CHG_CTL.FOLLOW n, CHG_CTL.STRETCH_BUD n, CHG_CTL.PROFILE n], chargeFp s n,
          accessFp a (0x88 + n)]) s t)
    ∧ (∃ t, exec (.profileWrite a n w) s = .next t
      ∧ t.get (CHG_CTL.PROFILE n) = slice w.toNat 8 4
      ∧ (slice w.toNat 8 4 ≠ s.get (CHG_CTL.PROFILE n) → t.get (Chg.STARTED n) = 0
          ∧ (w.getLsbD 0 = true → w.getLsbD 2 = false → findTable s 0x0003 (slice w.toNat 8 4) = none →
              muted s (0x88 + n) = false → (t.get (PAGE_FLT_STAT.CAUSE (0x88 + n))).testBit 1 = true
                ∨ s.bit (Flt.PRESENT (0x88 + n)) 1 = true))
      ∧ Frame (.any [.fields [CHG_CTL.EN n, CHG_CTL.FOLLOW n, CHG_CTL.STRETCH_BUD n, CHG_CTL.PROFILE n], chargeFp s n,
          accessFp a (0x88 + n)]) s t)
    ∧ (∃ t, exec (.restart a n) s = .next t ∧ t.get (Chg.CMD n) = 65536 + 0x0100
      ∧ Frame (.any [.fields [Chg.CMD n], accessFp a (0x88 + n)]) s t)
    ∧ (∃ t, exec (.gotoState a n arg) s = .next t ∧ t.get (Chg.CMD n) = 65536 + 0x0200 + arg.toNat
      ∧ Frame (.any [.fields [Chg.CMD n], accessFp a (0x88 + n)]) s t)
    ∧ (∃ t, exec (.clearTotal a n) s = .next t ∧ t.get (Chg.AHT n) = 0 ∧ t.get (CHG_AH_TOTAL.AH n) = 0
      ∧ Frame (.any [.fields [Chg.AHT n, CHG_AH_TOTAL.AH n], accessFp a (0x88 + n)]) s t))

/-- R238, R242, R250: a request that is not refused waits in PENDING, a refused one shows REFUSED; a pending sweep starts or
resumes while the engine is not limited and no other sweep runs on the bus; an abort ends any sweep. -/
def Obligations.SweepRequests : Prop :=
  ∀ (s : State) (a : Access) (n : Fin 8) (w : BitVec 32),
    (served s = true → keeperView s a = true → s.get (PAGE_LOCK.CFG (0x88 + n)) = 0 →
      (w.getLsbD 0 = true → w.getLsbD 1 = false → w.getLsbD 8 = true → engineLead s n = none →
          sweepRefused (s.put (CHG_IMP_CTL.EN n) 1) n = false →
        ∃ t, exec (.sweepRequest a n w) s = .next t ∧ t.get (CHG_IMP_STAT.STATE n) = 1 ∧ t.get (CHG_STAT.SWEEP_PEND n) = 1
        ∧ t.get (CHG_IMP_CTL.EN n) = 1 ∧ t.get (CHG_IMP_STAT.END n) = s.get (CHG_IMP_STAT.END n)
        ∧ Frame (.any [.fields [CHG_IMP_CTL.EN n], sweepFp s n, accessFp a (0x88 + n)]) s t)
      ∧ (w.getLsbD 0 = true → w.getLsbD 8 = true → w.getLsbD 1 = false → engineLead s n = none →
          (inSafeBoot s = true ∨ s.get (CHG_STAT.MODE n) = 0 ∨ portClosed s (batPort n) = false
            ∨ s.get (CHG_IMP_STAT.STATE n) ≠ 0) →
        ∃ t, exec (.sweepRequest a n w) s = .next t ∧ t.get (CHG_IMP_STAT.END n) = 4
        ∧ (t.get (CHG_IMP_EVT.EVT n)).testBit 4 = true ∧ t.get (CHG_IMP_STAT.STATE n) = s.get (CHG_IMP_STAT.STATE n)
        ∧ Frame (.any [.fields [CHG_IMP_CTL.EN n], sweepFp s n, accessFp a (0x88 + n)]) s t)
      ∧ (w.getLsbD 0 = false → (w.getLsbD 1 = true ∨ w.getLsbD 8 = false) →
        ∃ t, exec (.sweepRequest a n w) s = .next t ∧ t.get (CHG_IMP_STAT.STATE n) = 0
        ∧ t.get (CHG_IMP_CTL.EN n) = bitOf (w.getLsbD 8)
        ∧ Frame (.any [.fields [CHG_IMP_CTL.EN n], sweepFp s n, accessFp a (0x88 + n)]) s t))
    ∧ (engineRuns s n = false → exec (.autoSweep n) s = .next s)
    ∧ (∀ x, (stSweep s n).bind (sweepTable s) = some x → engineRuns s n = true → s.leNat (x + 0xA) 2 ≠ 0 → s.get (Chg.TW n) ≠ 0 →
        s.get (Chg.TW n) % (s.leNat (x + 0xA) 2 * 600) = 0 → engineLead s n = none →
      (sweepRefused s n = false →
        ∃ t, exec (.autoSweep n) s = .next t ∧ t.get (CHG_IMP_STAT.STATE n) = 1 ∧ t.get (CHG_STAT.SWEEP_PEND n) = 1
        ∧ Frame (sweepFp s n) s t)
      ∧ (sweepRefused s n = true →
        ∃ t, exec (.autoSweep n) s = .next t ∧ t.get (CHG_IMP_STAT.END n) = 4 ∧ (t.get (CHG_IMP_EVT.EVT n)).testBit 4 = true
        ∧ Frame (.fields [CHG_IMP_STAT.END n, CHG_IMP_EVT.EVT n]) s t))
    ∧ (s.get (CHG_IMP_STAT.STATE n) = 0 → exec (.sweepAbort n) s = .next s)
    ∧ (s.get (CHG_IMP_STAT.STATE n) ≠ 0 →
      ∃ t, exec (.sweepAbort n) s = .next t ∧ t.get (CHG_IMP_STAT.STATE n) = 0 ∧ t.get (CHG_IMP_STAT.END n) = 2
      ∧ (t.get (CHG_IMP_EVT.EVT n)).testBit 3 = true ∧ t.get (Imp.DELTA n) = 0
      ∧ t.get (CHG_IMP_CNT.ABORTS n) = min 65535 (s.get (CHG_IMP_CNT.ABORTS n) + 1)
      ∧ (2 ≤ s.get (CHG_IMP_STAT.STATE n) → hasState s n = true → t.get (CHG_STAT.DV_ARMED n) = 0)
      ∧ Frame (sweepFp s n) s t)
    ∧ ((s.get (CHG_IMP_STAT.STATE n) ≠ 1 ∨ s.get (CHG_STAT.LIMITED n) = 1) → exec (.sweepResume n) s = .next s)
    ∧ (gangOf s (n / 2) = [n.val / 2] → impRuns s (n.val ^^^ 1) = true → exec (.sweepResume n) s = .next s)
    ∧ (∀ x, sweepTable s (s.get (CHG_IMP_STAT.TABLE n)) = some x → s.get (CHG_IMP_STAT.STATE n) = 1 →
        s.get (CHG_STAT.LIMITED n) = 0 → gangOf s (n / 2) = [n.val / 2] → impRuns s (n.val ^^^ 1) = false →
      ∃ t, exec (.sweepResume n) s = .next t ∧ t.get (CHG_IMP_STAT.STATE n) = 2
      ∧ (t.get (CHG_IMP_EVT.EVT n)).testBit 0 = true ∧ t.get (CHG_STAT.SWEEP_PEND n) = 0 ∧ t.get (Imp.WAIT n) = 1
      ∧ t.get (CHG_DV.NDV n) = 0
      ∧ t.get (Imp.FTW n) = (ptFreq (pointWord s x (s.get (Imp.AWAIT n) - 1)) * 2 ^ 48 + 3200000000) / 6400000000
      ∧ Frame (sweepFp s n) s t)

/-- R243 to R248, R252: at each step the index and the perturbation move on; at index 0 the awaited point begins with its
amplitude fixed, or is skipped; pairs convert on two lanes while a point settles or integrates; the sums are claimed for the
integration alone; the result is stored and the sweep moves on or completes. -/
def Obligations.SweepPoints : Prop :=
  ∀ (s : State) (n : Fin 8),
    (hksLive s = false → exec (.impStep n) s = .next s)
    ∧ (s.get (Imp.TAIL n) = 0 → s.get (CHG_IMP_STAT.STATE n) < 2 → exec (.impStep n) s = .next s)
    ∧ (hksLive s = true → s.get (Imp.TAIL n) = 1 → 1 ≤ s.get (Imp.FTW n) →
      ∃ t, exec (.impStep n) s = .next t ∧ t.get (Imp.K n) = (s.get (Imp.PHASE n) / 2 ^ 42 + 1) % 64
      ∧ t.get (Imp.PAIR n) = 1 ∧ (t.get (Imp.K n) = 0 → t.get (Imp.DELTA n) = 0 ∧ t.get (Imp.TAIL n) = 0)
      ∧ Frame (sweepFp s n) s t)
    ∧ (∀ x, sweepTable s (s.get (CHG_IMP_STAT.TABLE n)) = some x → hksLive s = true → s.get (Imp.TAIL n) = 0 →
        1 ≤ s.get (Imp.FTW n) → (s.get (CHG_IMP_STAT.STATE n) = 2 ∨ s.get (CHG_IMP_STAT.STATE n) = 3) →
      ∃ t, exec (.impStep n) s = .next t ∧ t.get (Imp.K n) = (s.get (Imp.PHASE n) / 2 ^ 42 + 1) % 64
      ∧ (s.get (Imp.WAIT n) = 0 → t.get (CHG_IMP_STAT.STATE n) = s.get (CHG_IMP_STAT.STATE n)
          ∧ t.int (Imp.DELTA n) = (s.get (Imp.AMP n) * 10 * refSine (t.get (Imp.K n))).fdiv 32767
          ∧ t.get (Imp.PAIR n) = 1)
      ∧ (s.get (Imp.WAIT n) = 1 → t.get (Imp.K n) ≠ 0 → t.get (Imp.PAIR n) = 1 ∧ t.get (Imp.PON n) = bitOf
              (s.get (CHG_IMP_STAT.STATE n) == 3
                && decide (s.get (Imp.CYC n) < ptInteg (pointWord s x (s.get (CHG_IMP_STAT.POINT n)))))
          ∧ t.get (Imp.WAIT n) = 1 ∧ t.get (CHG_IMP_STAT.POINT n) = s.get (CHG_IMP_STAT.POINT n))
      ∧ (s.get (Imp.WAIT n) = 1 → t.get (Imp.K n) = 0 → 1 ≤ s.get (Imp.AWAIT n) → s.get (Imp.AWAIT n) ≤ 32 →
          t.get (CHG_IMP_STAT.POINT n) = s.get (Imp.AWAIT n) - 1
          ∧ (10 * pointAmp (s.put (CHG_IMP_STAT.POINT n) (s.get (Imp.AWAIT n) - 1)) n x = 0 →
              t.get (Imp.STATUS n (s.get (Imp.AWAIT n) - 1)) = 1)
          ∧ (0 < pointAmp (s.put (CHG_IMP_STAT.POINT n) (s.get (Imp.AWAIT n) - 1)) n x → t.get (Imp.WAIT n) = 0
              ∧ t.get (Imp.AMP n) = pointAmp (s.put (CHG_IMP_STAT.POINT n) (s.get (Imp.AWAIT n) - 1)) n x
              ∧ t.get (Imp.CYC n) = 0))
      ∧ Frame (sweepFp s n) s t)
    ∧ ((hksLive s = false ∨ s.get (Imp.PAIR n) = 0) → exec (.impedancePair n) s = .next s)
    ∧ (hksLive s = true → s.get (Imp.PAIR n) = 1 → enginePair s n = [n.val] →
        laneFree s 0 = true → laneFree s 1 = true →
        (∀ i : Fin 2, laneFits s i (48 * (batPort n / 12) + 12 + batPort n % 12) = true
          ∧ laneFits s i (48 * (batPort n / 12) + batPort n % 12) = true) →
      ∃ t, exec (.impedancePair n) s = .next t ∧ t.get (Imp.PAIR n) = 0 ∧ t.get (Lane.BUSY 0) = 1 ∧ t.get (Lane.BUSY 1) = 1
      ∧ t.get (Lane.IN 0) = 48 * (batPort n / 12) + 12 + batPort n % 12
      ∧ t.get (Lane.IN 1) = 48 * (batPort n / 12) + batPort n % 12
      ∧ t.get (Lane.KIND 0) = 3 ∧ t.get (Lane.WHO 0) = n.val
      ∧ Frame (.any [.fields [Imp.PAIR n], laneFp 0, laneFp 1]) s t)
    ∧ ((s.get (CHG_IMP_STAT.STATE n) ≠ 2 ∨ s.get (Imp.WAIT n) = 1 ∨ s.get (Imp.K n) ≠ 0) → exec (.settleDone n) s = .next s)
    ∧ (∀ x, sweepTable s (s.get (CHG_IMP_STAT.TABLE n)) = some x → s.get (CHG_IMP_STAT.STATE n) = 2 → s.get (Imp.WAIT n) = 0 →
        s.get (Imp.K n) = 0 →
      (s.get (Imp.CYC n) < ptSettle (pointWord s x (s.get (CHG_IMP_STAT.POINT n))) → exec (.settleDone n) s = .next s)
      ∧ (ptSettle (pointWord s x (s.get (CHG_IMP_STAT.POINT n))) ≤ s.get (Imp.CYC n) →
        ∃ t, exec (.settleDone n) s = .next t ∧ t.get (CHG_IMP_STAT.STATE n) = 3 ∧ t.get (Imp.CYC n) = 0 ∧ t.get (Imp.PON n) = 1
        ∧ (∀ j : Fin 4, accSum t (s.get (CHG_IMP_ACC.BASE n) / 4 * 4 + j) = 0
            ∧ t.get (ACC_CFG.CLAIMED (s.get (CHG_IMP_ACC.BASE n) / 64) (s.get (CHG_IMP_ACC.BASE n) / 4 * 4 % 64 + j)) = 1)
        ∧ Frame (.any [sweepFp s n, claimFp s n]) s t))
    ∧ ((s.get (CHG_IMP_STAT.STATE n) ≠ 3 ∨ s.get (Imp.K n) ≠ 0) → exec (.integrationDone n) s = .next s)
    ∧ (∀ x, sweepTable s (s.get (CHG_IMP_STAT.TABLE n)) = some x → s.get (CHG_IMP_STAT.STATE n) = 3 → s.get (Imp.K n) = 0 →
      (s.get (Imp.CYC n) < ptInteg (pointWord s x (s.get (CHG_IMP_STAT.POINT n))) → exec (.integrationDone n) s = .next s)
      ∧ (ptInteg (pointWord s x (s.get (CHG_IMP_STAT.POINT n))) ≤ s.get (Imp.CYC n) →
        ∃ t, exec (.integrationDone n) s = .next t ∧ t.get (CHG_IMP_STAT.STATE n) = 4 ∧ Frame (sweepFp s n) s t))
    ∧ (s.get (CHG_IMP_STAT.STATE n) ≠ 4 → exec (.pointResult n) s = .next s)
    ∧ (∀ x, sweepTable s (s.get (CHG_IMP_STAT.TABLE n)) = some x → s.get (CHG_IMP_STAT.STATE n) = 4 →
      ∃ t, exec (.pointResult n) s = .next t ∧ (t.get (CHG_IMP_EVT.EVT n)).testBit 1 = true
      ∧ t.get (Imp.TBAT n (s.get (CHG_IMP_STAT.POINT n))) = s.get (CHG_TEMP.T_BAT n)
      ∧ (t.get (Imp.STATUS n (s.get (CHG_IMP_STAT.POINT n))) ≠ 0 → t.get (Imp.RE n (s.get (CHG_IMP_STAT.POINT n))) = 0
          ∧ t.get (Imp.IM n (s.get (CHG_IMP_STAT.POINT n))) = 0)
      ∧ (s.get (Imp.DIST n) = 2 → t.get (Imp.STATUS n (s.get (CHG_IMP_STAT.POINT n))) = 3)
      ∧ (s.get (CHG_IMP_STAT.POINT n) + 1 < sweepPts s x → t.get (CHG_IMP_STAT.STATE n) = 2
          ∧ t.get (Imp.AWAIT n) = s.get (CHG_IMP_STAT.POINT n) + 2)
      ∧ (sweepPts s x ≤ s.get (CHG_IMP_STAT.POINT n) + 1 → t.get (CHG_IMP_STAT.STATE n) = 0 ∧ t.get (CHG_IMP_STAT.END n) = 1
          ∧ (t.get (CHG_IMP_EVT.EVT n)).testBit 2 = true
          ∧ t.get (CHG_IMP_CNT.COMPLETED n) = min 65535 (s.get (CHG_IMP_CNT.COMPLETED n) + 1)
          ∧ t.get (CHG_STAT.DV_ARMED n) = 0)
      ∧ Frame (.any [sweepFp s n, tagFp (0x88 + n)]) s t)

/-- R402 to R415: a registered line sets the pending bit of an edge source on its rising edge and is followed by a level
source that is not active; PEND_SET latches and PEND_CLR clears; a claim takes the candidate of its target on one edge, or is
spurious; an end of interrupt of the top of the stack pops it and re-samples a level line, any other changes nothing but a
report. The INT pins follow the candidates. -/
def Obligations.InterruptController : Prop :=
  ∀ (s : State) (a : Access) (t : Fin 4) (src : Fin 256) (j : Fin 8) (w : BitVec 32),
    (intcRuns s = false → exec (.lineChange src) s = .next s)
    ∧ (intcRuns s = true → 16 ≤ src.val → s.get (INTC_SRC_CFG.SENSE src) = 0 → srcLine s src = true →
        s.get (Intc.LINE src) = 0 →
      ∃ u, exec (.lineChange src) s = .next u ∧ u.get (Intc.LINE src) = 1 ∧ u.get (INTC_SRC_CFG.PEND src) = 1
      ∧ Frame (.fields [Intc.LINE src, INTC_SRC_CFG.PEND src, Pin.INTN]) s u)
    ∧ (intcRuns s = true → 16 ≤ src.val → s.get (INTC_SRC_CFG.SENSE src) = 0 →
        (srcLine s src = false ∨ s.get (Intc.LINE src) = 1) →
      ∃ u, exec (.lineChange src) s = .next u ∧ u.get (Intc.LINE src) = bitOf (srcLine s src)
      ∧ u.get (INTC_SRC_CFG.PEND src) = s.get (INTC_SRC_CFG.PEND src) ∧ Frame (.fields [Intc.LINE src, INTC_SRC_CFG.PEND src, Pin.INTN]) s u)
    ∧ (intcRuns s = true → 16 ≤ src.val → s.get (INTC_SRC_CFG.SENSE src) = 1 → s.get (INTC_SRC_CFG.ACTIVE src) = 0 →
      ∃ u, exec (.lineChange src) s = .next u ∧ u.get (Intc.LINE src) = bitOf (srcLine s src)
      ∧ u.get (INTC_SRC_CFG.PEND src) = max (bitOf (srcLine s src)) (s.get (Intc.LATCH src))
      ∧ Frame (.fields [Intc.LINE src, INTC_SRC_CFG.PEND src, Pin.INTN]) s u)
    ∧ (intcRuns s = true → 16 ≤ src.val → s.get (INTC_SRC_CFG.SENSE src) = 1 → s.get (INTC_SRC_CFG.ACTIVE src) = 1 →
      ∃ u, exec (.lineChange src) s = .next u ∧ u.get (Intc.LINE src) = bitOf (srcLine s src)
      ∧ u.get (INTC_SRC_CFG.PEND src) = s.get (INTC_SRC_CFG.PEND src) ∧ Frame (.fields [Intc.LINE src, INTC_SRC_CFG.PEND src, Pin.INTN]) s u)
    ∧ (served s = true →
      ∃ u, exec (.pendSet a j w) s = .next u
      ∧ (∀ i : Fin 32, u.get (INTC_SRC_CFG.PEND (32 * j + i)) = (if w.getLsbD i then 1 else s.get (INTC_SRC_CFG.PEND (32 * j + i)))
          ∧ u.get (Intc.LATCH (32 * j + i)) = (if w.getLsbD i then 1 else s.get (Intc.LATCH (32 * j + i))))
      ∧ Frame (.any [.fields (Pin.INTN :: (List.range 32).flatMap (fun i => [INTC_SRC_CFG.PEND (32 * j + i),
          Intc.LATCH (32 * j + i)])), accessFp a 0x08]) s u)
    ∧ (served s = true →
      ∃ u, exec (.pendClr a j w) s = .next u
      ∧ (∀ i : Fin 32, u.get (Intc.LATCH (32 * j + i)) = (if w.getLsbD i then 0 else s.get (Intc.LATCH (32 * j + i)))
          ∧ u.get (INTC_SRC_CFG.PEND (32 * j + i)) = (if w.getLsbD i then bitOf (s.flag (INTC_SRC_CFG.SENSE (32 * j + i))
                && s.flag (Intc.LINE (32 * j + i)) && !s.flag (INTC_SRC_CFG.ACTIVE (32 * j + i)))
              else s.get (INTC_SRC_CFG.PEND (32 * j + i))))
      ∧ Frame (.any [.fields (Pin.INTN :: (List.range 32).flatMap (fun i => [INTC_SRC_CFG.PEND (32 * j + i),
          Intc.LATCH (32 * j + i)])), accessFp a 0x08]) s u)
    ∧ (served s = true → stackDepth s t < 15 → candidate s t = none →
      ∃ u, exec (.intcClaim a t) s = .next u
      ∧ u.get (Last.DATA (pathNum a.path)) = 0
      ∧ u.get (INTC_T_CNT.SPURIOUS t) = min 65535 (s.get (INTC_T_CNT.SPURIOUS t) + 1)
      ∧ u.get (INTC_T_STAT.DEPTH t) = s.get (INTC_T_STAT.DEPTH t)
      ∧ Frame (.any [.fields ([INTC_T_CNT.SPURIOUS t, INTC_T_CNT.CLAIMS t, INTC_T_STAT.DEPTH t, Intc.STKSRC t (stackDepth s t),
          Intc.STKPRI t (stackDepth s t), Pin.INTN, Last.DATA (pathNum a.path), Last.TAG (pathNum a.path)]
          ++ (candidate s t).toList.flatMap (fun n => [INTC_SRC_CFG.PEND n, INTC_SRC_CFG.ACTIVE n, INTC_SRC_CFG.NEXT n,
            Intc.LATCH n])), accessFp a 0x08]) s u)
    ∧ (∀ n : Fin 256, served s = true → stackDepth s t < 15 → candidate s t = some n.val →
      ∃ u, exec (.intcClaim a t) s = .next u
      ∧ u.get (Last.DATA (pathNum a.path)) = 0x100 + n + s.get (INTC_SRC_CFG.PRIO n) * 0x10000
      ∧ u.get (INTC_SRC_CFG.PEND n) = 0 ∧ u.get (INTC_SRC_CFG.ACTIVE n) = 1
      ∧ u.get (INTC_T_STAT.DEPTH t) = stackDepth s t + 1 ∧ runPrio u t = s.get (INTC_SRC_CFG.PRIO n)
      ∧ u.get (Intc.STKSRC t (stackDepth s t)) = n ∧ u.get (INTC_SRC_CFG.NEXT n) = (t + 1) % 4
      ∧ u.get (INTC_T_CNT.CLAIMS t) = min 65535 (s.get (INTC_T_CNT.CLAIMS t) + 1)
      ∧ Frame (.any [.fields ([INTC_T_CNT.SPURIOUS t, INTC_T_CNT.CLAIMS t, INTC_T_STAT.DEPTH t, Intc.STKSRC t (stackDepth s t),
          Intc.STKPRI t (stackDepth s t), Pin.INTN, Last.DATA (pathNum a.path), Last.TAG (pathNum a.path)]
          ++ (candidate s t).toList.flatMap (fun n => [INTC_SRC_CFG.PEND n, INTC_SRC_CFG.ACTIVE n, INTC_SRC_CFG.NEXT n,
            Intc.LATCH n])), accessFp a 0x08]) s u)
    ∧ (served s = true → stackDepth s t = 0 → muted s 0x08 = false →
      ∃ u, exec (.endOfInterrupt a t w) s = .next u ∧ (u.get (PAGE_FLT_STAT.CAUSE 0x08)).testBit 1 = true
      ∧ u.get (INTC_T_STAT.DEPTH t) = s.get (INTC_T_STAT.DEPTH t) ∧ Frame (.any [.fields [INTC_T_STAT.DEPTH t, INTC_SRC_CFG.ACTIVE (w.toNat % 256), INTC_SRC_CFG.PEND (w.toNat % 256),
          Pin.INTN], raiseFp 0x08, accessFp a 0x08]) s u)
    ∧ (served s = true → stackDepth s t ≠ 0 → s.get (Intc.STKSRC t (stackDepth s t - 1)) ≠ w.toNat % 256 →
        muted s 0x08 = false →
      ∃ u, exec (.endOfInterrupt a t w) s = .next u ∧ (u.get (PAGE_FLT_STAT.CAUSE 0x08)).testBit 0 = true
      ∧ u.get (INTC_T_STAT.DEPTH t) = s.get (INTC_T_STAT.DEPTH t) ∧ Frame (.any [.fields [INTC_T_STAT.DEPTH t, INTC_SRC_CFG.ACTIVE (w.toNat % 256), INTC_SRC_CFG.PEND (w.toNat % 256),
          Pin.INTN], raiseFp 0x08, accessFp a 0x08]) s u)
    ∧ (served s = true → stackDepth s t ≠ 0 → s.get (Intc.STKSRC t (stackDepth s t - 1)) = w.toNat % 256 →
      ∃ u, exec (.endOfInterrupt a t w) s = .next u
      ∧ u.get (INTC_T_STAT.DEPTH t) = stackDepth s t - 1 ∧ u.get (INTC_SRC_CFG.ACTIVE (w.toNat % 256)) = 0
      ∧ (s.get (INTC_SRC_CFG.SENSE (w.toNat % 256)) = 1 → u.get (INTC_SRC_CFG.PEND (w.toNat % 256))
          = max (s.get (Intc.LINE (w.toNat % 256))) (s.get (Intc.LATCH (w.toNat % 256))))
      ∧ (s.get (INTC_SRC_CFG.SENSE (w.toNat % 256)) = 0 →
          u.get (INTC_SRC_CFG.PEND (w.toNat % 256)) = s.get (INTC_SRC_CFG.PEND (w.toNat % 256)))
      ∧ Frame (.any [.fields [INTC_T_STAT.DEPTH t, INTC_SRC_CFG.ACTIVE (w.toNat % 256), INTC_SRC_CFG.PEND (w.toNat % 256),
          Pin.INTN], accessFp a 0x08]) s u)
    ∧ (served s = true →
      ∃ u, exec (.endOfInterrupt a t w) s = .next u ∧ Frame (.any [.fields [INTC_T_STAT.DEPTH t, INTC_SRC_CFG.ACTIVE (w.toNat % 256), INTC_SRC_CFG.PEND (w.toNat % 256),
          Pin.INTN], raiseFp 0x08, accessFp a 0x08]) s u)
    ∧ ((s.get (INTC_SRC_CFG.ACTIVE src) = 0 ∨ s.get INTC_CTL.ACT_MAX = 0) → exec (.activeLong src) s = .next s)
    ∧ (s.get (INTC_SRC_CFG.ACTIVE src) = 1 → s.get INTC_CTL.ACT_MAX ≠ 0 → muted s 0x08 = false →
      ∃ u, exec (.activeLong src) s = .next u ∧ (u.get (PAGE_FLT_STAT.CAUSE 0x08)).testBit 2 = true
      ∧ Frame (raiseFp 0x08) s u)
    ∧ (∃ u, exec (.activeLong src) s = .next u ∧ Frame (raiseFp 0x08) s u)

/-- R424 to R427, R432: outside hardware service the expected first key arms, the expected second key completes a pair that
is judged, and any other value fails; host and internal check-ins mark their slots, and a second host check-in fails. Under
hardware service host keys and check-ins are ignored and counted, and the sequencer serves. -/
def Obligations.WatchdogKeysAndSlots : Prop :=
  ∀ (s : State) (a : Access) (w : BitVec 32) (n : Fin 16) (code : BitVec 8),
    (served s = true → s.get WDG_STAT.SVC_BY_HW = 0 → s.get WDG_STAT.ARMED = 0 →
      ∃ t, exec (.firstKey a) s = .next t ∧ t.get WDG_STAT.ARMED = 1
      ∧ Frame (.any [.fields [WDG_STAT.ARMED], accessFp a 0x09]) s t)
    ∧ (served s = true → s.get WDG_STAT.SVC_BY_HW = 0 → s.get WDG_STAT.ARMED = 1 →
      ∃ t, exec (.firstKey a) s = .next t ∧ t.get WDG_STAT.ARMED = 0 ∧ t.get WDG_STAT.FAILED = 1 ∧ t.get WDG_CAUSE_X.BAD_KEY = 1)
    ∧ (served s = true → s.get WDG_STAT.SVC_BY_HW = 1 →
      ∃ t, exec (.firstKey a) s = .next t ∧ t.get WDG_CNT.KEYS_IGNORED = min 65535 (s.get WDG_CNT.KEYS_IGNORED + 1)
      ∧ Frame (.any [.fields [WDG_CNT.KEYS_IGNORED], accessFp a 0x09]) s t)
    ∧ (served s = true → s.get WDG_STAT.SVC_BY_HW = 0 → s.get WDG_STAT.ARMED = 1 → (s.get WDG_TICK.TICK < wdgOpen s ∨ s.get WDG_STAT.SERVED = 1) →
      ∃ t, exec (.keyPair a (BitVec.ofNat 32 (0x4E1A ^^^ (s.get WDG_SEQ.SEQ % 256)))) s = .next t
      ∧ t.get WDG_STAT.ARMED = 0 ∧ t.get WDG_CAUSE_X.EARLY = 1 ∧ t.get WDG_STAT.FAILED = 1
      ∧ t.get WDG_STAT.SERVED = s.get WDG_STAT.SERVED ∧ Frame (.any [.fields [WDG_STAT.ARMED, WDG_STAT.SERVED, WDG_CNT.KEYS_IGNORED], wdgFailFp, accessFp a 0x09]) s t)
    ∧ (served s = true → s.get WDG_STAT.SVC_BY_HW = 0 → s.get WDG_STAT.ARMED = 1 → wdgOpen s ≤ s.get WDG_TICK.TICK → s.get WDG_STAT.SERVED = 0 → slotsMissing s ≠ [] →
      ∃ t, exec (.keyPair a (BitVec.ofNat 32 (0x4E1A ^^^ (s.get WDG_SEQ.SEQ % 256)))) s = .next t
      ∧ t.get WDG_STAT.ARMED = 0 ∧ t.get WDG_CNT.KEYS_IGNORED = min 65535 (s.get WDG_CNT.KEYS_IGNORED + 1)
      ∧ t.get WDG_STAT.FAILED = s.get WDG_STAT.FAILED ∧ t.get WDG_STAT.SERVED = 0 ∧ Frame (.any [.fields [WDG_STAT.ARMED, WDG_STAT.SERVED, WDG_CNT.KEYS_IGNORED], wdgFailFp, accessFp a 0x09]) s t)
    ∧ (served s = true → s.get WDG_STAT.SVC_BY_HW = 0 → s.get WDG_STAT.ARMED = 1 → wdgOpen s ≤ s.get WDG_TICK.TICK → s.get WDG_STAT.SERVED = 0 → slotsMissing s = [] →
      ∃ t, exec (.keyPair a (BitVec.ofNat 32 (0x4E1A ^^^ (s.get WDG_SEQ.SEQ % 256)))) s = .next t
      ∧ t.get WDG_STAT.ARMED = 0 ∧ t.get WDG_STAT.SERVED = 1 ∧ (t.get (PAGE_IRQ_STAT.EVT 0x09)).testBit 2 = true
      ∧ t.get WDG_STAT.FAILED = s.get WDG_STAT.FAILED ∧ Frame (.any [.fields [WDG_STAT.ARMED, WDG_STAT.SERVED, WDG_CNT.KEYS_IGNORED], wdgFailFp, accessFp a 0x09]) s t)
    ∧ (served s = true → s.get WDG_STAT.SVC_BY_HW = 0 → w.toNat ≠ expectedKey s →
      ∃ t, exec (.badKey a w) s = .next t ∧ t.get WDG_STAT.ARMED = 0 ∧ t.get WDG_STAT.FAILED = 1
      ∧ t.get WDG_CAUSE_X.BAD_KEY = 1 ∧ (t.get (PAGE_IRQ_STAT.EVT 0x09)).testBit 1 = true
      ∧ (s.get WDG_STAT.FAILED = 0 → t.get Wdg.FCAUSE = 5 ∧ t.get Wdg.RX = 4)
      ∧ (muted s 0x09 = false → s.bit (Flt.PRESENT 0x09) 1 = false → (t.get (PAGE_FLT_STAT.CAUSE 0x09)).testBit 1 = true)
      ∧ Frame (.any [.fields [WDG_STAT.ARMED], wdgFailFp, accessFp a 0x09]) s t)
    ∧ (served s = true → s.get WDG_STAT.SVC_BY_HW = 0 → (s.get Wdg.EN).testBit n = true → slotCode s n = 0 →
        (s.get WDG_STAT.CHECKED).testBit n = false →
      ∃ t, exec (.checkin a (BitVec.ofNat 32 (1 <<< n.val))) s = .next t ∧ (t.get WDG_STAT.CHECKED).testBit n = true
      ∧ Frame (.any [.fields [WDG_STAT.CHECKED], accessFp a 0x09]) s t)
    ∧ (served s = true → s.get WDG_STAT.SVC_BY_HW = 0 → (s.get Wdg.EN).testBit n = true → slotCode s n = 0 →
        (s.get WDG_STAT.CHECKED).testBit n = true →
      ∃ t, exec (.checkin a (BitVec.ofNat 32 (1 <<< n.val))) s = .next t ∧ t.get WDG_STAT.FAILED = 1
      ∧ (t.get WDG_CAUSE.DUP).testBit n = true ∧ t.get WDG_STAT.CHECKED = s.get WDG_STAT.CHECKED
      ∧ Frame (.any [.fields [WDG_STAT.CHECKED], wdgFailFp, accessFp a 0x09]) s t)
    ∧ (served s = true → (s.get WDG_STAT.SVC_BY_HW = 1 ∨ (s.get Wdg.EN).testBit n = false ∨ codeInternal (slotCode s n) = true) →
      ∃ t, exec (.checkin a (BitVec.ofNat 32 (1 <<< n.val))) s = .next t
      ∧ t.get WDG_CNT.STRAY = min 65535 (s.get WDG_CNT.STRAY + 1)
      ∧ Frame (.any [.fields [WDG_CNT.STRAY], accessFp a 0x09]) s t)
    ∧ ((s.get Boot.HELD = 1 ∨ codeInternal code.toNat = false) → exec (.internalCheckin code) s = .next s)
    ∧ (∀ k : Fin 16, s.get Boot.HELD = 0 → codeInternal code.toNat = true → (s.get Wdg.EN).testBit k = true →
        slotCode s k = code.toNat →
      ∃ t, exec (.internalCheckin code) s = .next t ∧ (t.get WDG_STAT.CHECKED).testBit k = true
      ∧ (∀ j : Fin 16, slotCode s j ≠ code.toNat →
          (t.get WDG_STAT.CHECKED).testBit j = (s.get WDG_STAT.CHECKED).testBit j)
      ∧ (s.get WDG_STAT.SVC_BY_HW = 1 → wdgOpen s ≤ s.get WDG_TICK.TICK → slotsMissing t = [] → t.get WDG_STAT.SERVED = 1)
      ∧ t.get WDG_STAT.FAILED = s.get WDG_STAT.FAILED
      ∧ Frame (.fields [WDG_STAT.CHECKED, WDG_STAT.SERVED, PAGE_IRQ_STAT.EVT 0x09]) s t)

/-- R420 to R422, R428, R429, R431: a cycle without a failure at its close starts the next one; a missing slot or a late
service, or a failure recorded before, triggers the watchdog reset with the count incremented. The early warning sets EW and
wakes the device. The stop of the clock in use resets at once, that of the other is reported. -/
def Obligations.WatchdogCycles : Prop :=
  ∀ (s : State),
    ((s.get Boot.HELD = 1 ∨ s.get WDG_TICK.TICK ≠ s.get Wdg.CLOSE) → exec .windowClose s = .next s)
    ∧ (s.get Boot.HELD = 0 → s.get WDG_TICK.TICK = s.get Wdg.CLOSE → slotsMissing s = [] → s.get WDG_STAT.SERVED = 1 → s.get WDG_STAT.FAILED = 0 →
      ∃ t, exec .windowClose s = .next t
      ∧ t.get WDG_TICK.TICK = 0 ∧ t.get WDG_SEQ.SEQ = (s.get WDG_SEQ.SEQ + 1) % 2 ^ 32 ∧ t.get WDG_STAT.SERVED = 0
      ∧ t.get WDG_STAT.ARMED = 0 ∧ t.get WDG_STAT.EW = 0 ∧ t.get Boot.HELD = 0
      ∧ (s.get Sleep.STATE ≠ 2 → t.get WDG_STAT.CHECKED = 0)
      ∧ (s.get WDG_STAT.SVC_BY_HW = 0 → s.get Wdg.HOSTNEXT = 0 → t.get Wdg.OPEN = s.get WDG_WIN.OPEN
          ∧ t.get Wdg.CLOSE = s.get WDG_WIN.CLOSE ∧ t.get Wdg.EN = s.get WDG_SLOT_EN.EN)
      ∧ (s.get WDG_STAT.SVC_BY_HW = 1 → s.get Wdg.HOSTNEXT = 0 → t.get Wdg.OPEN = 200 ∧ t.get Wdg.CLOSE = 999
          ∧ t.get Wdg.EN = if inSafeBoot s then 0xF000 else 0x1000)
      ∧ t.get WDG_TICK.EW = ewTick (wdgOpen t) (t.get Wdg.CLOSE)
      ∧ Frame (.any [cycleFp, .fields [Boot.STABLEMS], retFp 0x008 0x010]) s t)
    ∧ (s.get Boot.HELD = 0 → s.get WDG_TICK.TICK = s.get Wdg.CLOSE → (slotsMissing s ≠ [] ∨ s.get WDG_STAT.SERVED = 0 ∨ s.get WDG_STAT.FAILED = 1) →
      ∃ t, exec .windowClose s = .next t
      ∧ t.get Boot.HELD = 1 ∧ t.get Boot.TRIGS = 8 ∧ t.get Wdg.RPEND = 1 ∧ t.retWord 0 = min (s.retWord 0 + 1) 0xFFFFFFFF
      ∧ t.get Wdg.RCOUNT = t.retWord 0 ∧ t.get Wdg.RSEQ = s.get WDG_SEQ.SEQ
      ∧ (s.get WDG_STAT.FAILED = 0 → (slotsMissing s = [] → t.get Wdg.RCAUSE = 2 ∧ t.get Wdg.RX = 2)
          ∧ (slotsMissing s ≠ [] → t.get Wdg.RCAUSE = 3 ∧ t.get Wdg.RSLOT = (slotsMissing s).headD 0
            ∧ t.get Wdg.RMISS = andNot (s.get Wdg.EN) (s.get WDG_STAT.CHECKED)))
      ∧ (∀ b : Nat, 0x600000 ≤ b → t.byte b = s.byte b))
    ∧ ((s.get WDG_STAT.SERVED = 1 ∨ s.get WDG_TICK.TICK ≠ s.get WDG_TICK.EW) → exec .earlyWarning s = .next s)
    ∧ (s.get Boot.HELD = 0 → s.get WDG_TICK.TICK = s.get WDG_TICK.EW → s.get WDG_STAT.SERVED = 0 → s.get WDG_STAT.EW = 0 →
      ∃ t, exec .earlyWarning s = .next t ∧ t.get WDG_STAT.EW = 1 ∧ (t.get (PAGE_IRQ_STAT.EVT 0x09)).testBit 0 = true
      ∧ (s.get Sleep.STATE = 2 → (t.get Sleep.PEND).testBit 2 = true)
      ∧ Frame (.fields [WDG_STAT.EW, PAGE_IRQ_STAT.EVT 0x09, Sleep.PEND]) s t)
    ∧ ((s.get Boot.HELD = 1 ∨ s.get WDG_STAT.MON_OTHER = 1) → exec .clkStop s = .next s)
    ∧ (s.get Boot.HELD = 0 → s.get WDG_STAT.MON_OTHER = 0 →
      ∃ t, exec .clkStop s = .next t ∧ t.get Boot.HELD = 1 ∧ t.get WDG_CFG.CLKSEL = 1 - s.get WDG_STAT.CLK_INUSE
      ∧ t.get WDG_STAT.CLK_INUSE = 1 - s.get WDG_STAT.CLK_INUSE ∧ (t.get Wdg.RX).testBit 3 = true
      ∧ t.retWord 0 = min (s.retWord 0 + 1) 0xFFFFFFFF ∧ t.get Boot.TRIGS = 8)
    ∧ ((s.get Boot.HELD = 1 ∨ s.get WDG_STAT.MON_OTHER = 1) → exec .clkMon s = .next s)
    ∧ (s.get Boot.HELD = 0 → s.get WDG_STAT.MON_OTHER = 0 →
      ∃ t, exec .clkMon s = .next t ∧ t.get WDG_STAT.MON_OTHER = 1
      ∧ (muted s 0x09 = false → s.bit (Flt.PRESENT 0x09) 0 = false → (t.get (PAGE_FLT_STAT.CAUSE 0x09)).testBit 0 = true)
      ∧ Frame (.any [.fields [WDG_STAT.MON_OTHER], raiseFp 0x09]) s t)
    ∧ (∃ t, exec .monOtherClear s = .next t ∧ t.get WDG_STAT.MON_OTHER = 0
      ∧ (s.get WDG_STAT.MON_OTHER = 1 → (t.get (Flt.PRESENT 0x09)).testBit 0 = false)
      ∧ Frame (.any [.fields [WDG_STAT.MON_OTHER], endFp 0x09]) s t)

/-- R80, R87 to R90, R97, R98, R111: register accesses. `SW_RMT` has a KRW and an RW field, `SW_TIME` and `CMB_ANT_POST` are
the 64-bit registers of the clauses on holders; a misaligned command of one access leaves code 8 (the model's, log entry 24).
-/
def Obligations.RegisterAccesses : Prop :=
  ∀ (s : State) (a : Access) (addr : BitVec 20) (w : BitVec 32) (page : BitVec 8) (c : Fin 4),
    (served s = false →
      (∃ t, exec (.registerWrite a addr w) s = .next t ∧ t = s) ∧ (∃ t, exec (.readHolderCapture a addr) s = .next t ∧ t = s)
      ∧ (∃ t, exec (.lowWordWrite a addr w) s = .next t ∧ t = s) ∧ (∃ t, exec (.highWordCommit a addr w) s = .next t ∧ t = s)
      ∧ (∃ t, exec (.pageIrqSet a page w) s = .next t ∧ t = s) ∧ (∃ t, exec (.pwrRetData a (some w)) s = .next t ∧ t = s))
    ∧ (served s = true → addr.toNat % 4 ≠ 0 →
      (∃ t, exec (.registerWrite a addr w) s = .next t ∧ t.get (Last.CODE (pathNum a.path)) = 8
        ∧ Frame (.fields [Last.CODE (pathNum a.path)]) s t)
      ∧ (∃ t, exec (.readHolderCapture a addr) s = .next t ∧ t.get (Last.CODE (pathNum a.path)) = 8
        ∧ Frame (.fields [Last.CODE (pathNum a.path)]) s t))
    ∧ (served s = true → pageKind page.toNat = none →
      (∃ t, exec (.registerWrite a (BitVec.ofNat 20 (page.toNat * 4096 + 0x80)) w) s = .next t
        ∧ t.get (Last.CODE (pathNum a.path)) = 4 ∧ t.get (PAGE_STAT.REFUSED 0x00) = 1 ∧ t.get (PAGE_STAT.REFUSE_WHY 0x00) = 1
        ∧ Frame (accessFp a 0x00) s t)
      ∧ (∃ t, exec (.readHolderCapture a (BitVec.ofNat 20 (page.toNat * 4096 + 0x80))) s = .next t
        ∧ t.get (Last.CODE (pathNum a.path)) = 4 ∧ t.get (Last.DATA (pathNum a.path)) = 0 ∧ t.get (Last.TAG (pathNum a.path)) = 0
        ∧ t.get (PAGE_STAT.REFUSED 0x00) = 1 ∧ t.get (PAGE_STAT.REFUSE_WHY 0x00) = 1
        ∧ Frame (.any [accessFp a 0x00, .fields [Last.DATA (pathNum a.path), Last.TAG (pathNum a.path)]]) s t))
    ∧ (served s = true → keeperView s a = true → s.get (PAGE_LOCK.CFG 0x98) = 0 →
      ∃ t, exec (.registerWrite a 0x98068#20 w) s = .next t
        ∧ t.get SW_RMT.TGT = w.toNat % 65536 ∧ t.get SW_RMT.TIMEOUT = w.toNat / 16777216
        ∧ t.get (Last.CODE (pathNum a.path)) = 0
        ∧ Frame (.any [accessFp a 0x98, .fields [SW_RMT.TGT, SW_RMT.TIMEOUT]]) s t)
    ∧ (served s = true → (keeperView s a = false ∨ s.get (PAGE_LOCK.CFG 0x98) = 1) →
      ∃ t, exec (.registerWrite a 0x98068#20 w) s = .next t
        ∧ t.get SW_RMT.TGT = w.toNat % 65536 ∧ t.get SW_RMT.TIMEOUT = s.get SW_RMT.TIMEOUT
        ∧ (w.toNat / 16777216 ≠ s.get SW_RMT.TIMEOUT →
            t.get (Last.CODE (pathNum a.path)) = (if keeperView s a then 2 else 1) ∧ t.get (PAGE_STAT.REFUSED 0x98) = 1
            ∧ t.get (PAGE_STAT.REFUSE_WHY 0x98) = (if keeperView s a then 2 else 1))
        ∧ (w.toNat / 16777216 = s.get SW_RMT.TIMEOUT → t.get (Last.CODE (pathNum a.path)) = 0
            ∧ t.get (PAGE_STAT.REFUSED 0x98) = s.get (PAGE_STAT.REFUSED 0x98))
        ∧ Frame (.any [accessFp a 0x98, .fields [SW_RMT.TGT, SW_RMT.TIMEOUT]]) s t)
    ∧ (served s = true → pageKind page.toNat ≠ none →
      ∃ t, exec (.pageIrqSet a page w) s = .next t
        ∧ t.get (PAGE_IRQ_STAT.EVT page.toNat) = s.get (PAGE_IRQ_STAT.EVT page.toNat) ||| (w.toNat &&& evtAssigned page.toNat)
        ∧ t.get (Last.CODE (pathNum a.path)) = 0
        ∧ Frame (.any [accessFp a page.toNat, .fields [PAGE_IRQ_STAT.EVT page.toNat]]) s t)
    ∧ (served s = true →
      (∃ t, exec (.readHolderCapture a 0x9805C#20) s = .next t
        ∧ t.readHold[pathNum a.path] = some ⟨0x9805C, s.get SW_TIME_LO.TIME, s.get SW_TIME_HI.TIME, 0⟩
        ∧ t.get (Last.DATA (pathNum a.path)) = s.get SW_TIME_LO.TIME ∧ t.get (Last.CODE (pathNum a.path)) = 0
        ∧ Frame (.any [accessFp a 0x98, .fields [Last.DATA (pathNum a.path), Last.TAG (pathNum a.path), Cap.ON (pathNum a.path)],
            .parts [.readHold (pathNum a.path)]]) s t)
      ∧ ((s.readHold[pathNum a.path]).any (fun h => h.key == 0x9805C) = true →
        ∃ t, exec (.readHolderCapture a 0x98060#20) s = .next t
        ∧ t.get (Last.DATA (pathNum a.path)) = ((s.readHold[pathNum a.path]).map (·.hi)).getD 0 % 4294967296
        ∧ t.readHold[pathNum a.path] = s.readHold[pathNum a.path] ∧ Frame (.any [accessFp a 0x98, .fields [Last.DATA (pathNum a.path), Last.TAG (pathNum a.path), Cap.ON (pathNum a.path),
            TAG_INJ.ARM, PAGE_IRQ_STAT.EVT 0xA2], .parts [.readHold (pathNum a.path)]]) s t)
      ∧ ((s.readHold[pathNum a.path]).any (fun h => h.key == 0x9805C) = false →
        ∃ t, exec (.readHolderCapture a 0x98060#20) s = .next t
        ∧ t.get (Last.DATA (pathNum a.path)) = s.get SW_TIME_HI.TIME ∧ Frame (.any [accessFp a 0x98, .fields [Last.DATA (pathNum a.path), Last.TAG (pathNum a.path), Cap.ON (pathNum a.path),
            TAG_INJ.ARM, PAGE_IRQ_STAT.EVT 0xA2], .parts [.readHold (pathNum a.path)]]) s t))
    ∧ (served s = true →
      (∃ t, exec (.lowWordWrite a (BitVec.ofNat 20 (0x10074 + 0x1000 * c)) w) s = .next t
        ∧ t.writeHold[pathNum a.path] = some ⟨0x10074 + 0x1000 * c.val, w.toNat⟩ ∧ t.get (Last.CODE (pathNum a.path)) = 0
        ∧ Frame (.any [accessFp a 0x10, .parts [.writeHold (pathNum a.path)]]) s t)
      ∧ (∀ h : Nat, (s.writeHold[pathNum a.path]).bind (fun x => if x.key = 0x10074 + 0x1000 * c.val then some x.lo else none)
            = some h → h < 4294967296 → h % 16 = 8 → h.testBit 12 = false → s.get (CMB_CTL.ANT_EN c) = 1 →
            foragerRuns s c = true → s.antq[c].length < 16 →
        ∃ t, exec (.highWordCommit a (BitVec.ofNat 20 (0x10078 + 0x1000 * c)) w) s = .next t
        ∧ t.get (CMB_ANT_CNT.ACCEPTED c) = min 65535 (s.get (CMB_ANT_CNT.ACCEPTED c) + 1)
        ∧ t.antq[c].getLast?.map (fun y => (slice y.word 4 6, slice y.word 10 22, slice y.word 32 32))
            = some (50, slice h 10 22, w.toNat)
        ∧ t.writeHold[pathNum a.path] = none ∧ Frame (.any [accessFp a 0x10, recordInFp c, gangInFp s c, disturbFp s c, .parts [.writeHold (pathNum a.path)]]) s t)
      ∧ ((s.writeHold[pathNum a.path]).any (fun x => x.key == 0x10074 + 0x1000 * c.val) = true →
        ∃ t, exec (.highWordCommit a (BitVec.ofNat 20 (0x10078 + 0x1000 * c)) w) s = .next t
        ∧ t.writeHold[pathNum a.path] = none ∧ Frame (.any [accessFp a 0x10, recordInFp c, gangInFp s c, disturbFp s c, .parts [.writeHold (pathNum a.path)]]) s t)
      ∧ (∃ t, exec (.highWordCommit a (BitVec.ofNat 20 (0x10078 + 0x1000 * c)) w) s = .next t ∧ Frame (.any [accessFp a 0x10, recordInFp c, gangInFp s c, disturbFp s c, .parts [.writeHold (pathNum a.path)]]) s t))
    ∧ (served s = true →
      (∃ t, exec (.pwrRetData a none) s = .next t
        ∧ t.get (Last.DATA (pathNum a.path)) = s.retWord (4 * s.get PWR_RET_ADDR.WORD)
        ∧ t.get PWR_RET_ADDR.WORD = (s.get PWR_RET_ADDR.WORD + 1) % 1024
        ∧ Frame (.any [accessFp a 0x02, .fields [PWR_RET_ADDR.WORD, Last.DATA (pathNum a.path), Last.TAG (pathNum a.path),
            TAG_INJ.ARM, PAGE_IRQ_STAT.EVT 0xA2], retFp 0 0x1000, eccReadFp]) s t)
      ∧ (keeperView s a = true → s.get (PAGE_LOCK.CFG 0x02) = 0 → 512 ≤ s.get PWR_RET_ADDR.WORD →
        ∃ t, exec (.pwrRetData a (some w)) s = .next t
        ∧ t.retWord (4 * s.get PWR_RET_ADDR.WORD) = w.toNat
        ∧ t.get PWR_RET_ADDR.WORD = (s.get PWR_RET_ADDR.WORD + 1) % 1024 ∧ t.get (Last.CODE (pathNum a.path)) = 0
        ∧ Frame (.any [accessFp a 0x02, .fields [PWR_RET_ADDR.WORD],
            retFp (8 * (s.get PWR_RET_ADDR.WORD / 2)) (8 * (s.get PWR_RET_ADDR.WORD / 2) + 8)]) s t)
      ∧ ((keeperView s a = false ∨ s.get (PAGE_LOCK.CFG 0x02) = 1 ∨ s.get PWR_RET_ADDR.WORD < 512) →
        ∃ t, exec (.pwrRetData a (some w)) s = .next t
        ∧ t.get PWR_RET_ADDR.WORD = (s.get PWR_RET_ADDR.WORD + 1) % 1024
        ∧ Frame (.any [accessFp a 0x02, .fields [PWR_RET_ADDR.WORD]]) s t))

/-- R92 to R95: pin and code sessions open and close, and the third failed attempt in a row starts the lockout. -/
def Obligations.KeeperSessions : Prop :=
  ∀ (s : State) (a : Access) (w : BitVec 32) (p : Path),
    (∃ t, exec .pinSessionOpen s = .next t ∧ t.get Pin.KEEPER_EN = 1
      ∧ (served s = true → t.get Ses.PIN = 1 ∧ (s.get Ses.PIN = 0 → t.get HIVE_KSESS_STAT.PIN = 1 ∧ t.get HIVE_KSESS_EVT.OPENED = 1))
      ∧ Frame (.fields [Pin.KEEPER_EN, Ses.PIN, HIVE_KSESS_STAT.PIN, HIVE_KSESS_STAT.OPEN, HIVE_KSESS_EVT.OPENED]) s t)
    ∧ (∃ t, exec .pinSessionClose s = .next t ∧ t.get Pin.KEEPER_EN = 0 ∧ t.get Ses.PIN = 0
      ∧ (s.get Ses.PIN = 1 → t.get HIVE_KSESS_STAT.PIN = 0 ∧ t.get HIVE_KSESS_EVT.CLOSED = 1)
      ∧ Frame (.fields [Pin.KEEPER_EN, Ses.PIN, HIVE_KSESS_STAT.PIN, HIVE_KSESS_STAT.OPEN, HIVE_KSESS_EVT.CLOSED]) s t)
    ∧ (served s = true → ∃ t, exec (.ksessCodeLo a w) s = .next t ∧ t.codeHold[pathNum a.path] = some w
      ∧ Frame (.any [accessFp a 0x00, .parts [.codeHold (pathNum a.path)]]) s t)
    ∧ (served s = true → s.get HIVE_KSESS_STAT.LOCKOUT = 0 → s.get Ses.IMGCODE ≠ 0 →
        (s.codeHold[pathNum a.path]).map (fun l => l.toNat + 4294967296 * w.toNat) = some (s.get Ses.IMGCODE) →
      ∃ t, exec (.attempt a w) s = .next t
      ∧ t.get (Ses.CODE (pathNum a.path)) = 1 ∧ t.get HIVE_KSESS_STAT.FAILS = 0 ∧ t.get (Ses.IDLE_T (pathNum a.path)) = 0
      ∧ (t.get HIVE_KSESS_STAT.OPEN).testBit (pathNum a.path) = true ∧ t.codeHold[pathNum a.path] = none
      ∧ (a.path = .swarm → t.get Ses.NODE = a.node.toNat)
      ∧ (s.get (Ses.CODE (pathNum a.path)) = 0 → t.get HIVE_KSESS_EVT.OPENED = 1)
      ∧ Frame (.any [accessFp a 0x00, sessionFp (pathNum a.path), .fields [Ses.NODE, HIVE_KSESS_STAT.FAILS],
          .parts [.codeHold (pathNum a.path)]]) s t)
    ∧ (served s = true → s.get HIVE_KSESS_STAT.LOCKOUT = 0 → (s.get Ses.IMGCODE = 0 ∨
        (s.codeHold[pathNum a.path]).map (fun l => l.toNat + 4294967296 * w.toNat) ≠ some (s.get Ses.IMGCODE)) →
      ∃ t, exec (.attempt a w) s = .next t
      ∧ t.get (Ses.CODE (pathNum a.path)) = s.get (Ses.CODE (pathNum a.path)) ∧ t.get HIVE_KSESS_EVT.FAILED = 1
      ∧ t.get HIVE_KSESS_STAT.TOTAL_FAILS = min 255 (s.get HIVE_KSESS_STAT.TOTAL_FAILS + 1) ∧ t.codeHold[pathNum a.path] = none
      ∧ (s.get HIVE_KSESS_STAT.FAILS < 2 → t.get HIVE_KSESS_STAT.FAILS = s.get HIVE_KSESS_STAT.FAILS + 1
          ∧ t.get HIVE_KSESS_STAT.LOCKOUT = 0)
      ∧ (s.get HIVE_KSESS_STAT.FAILS = 2 → t.get HIVE_KSESS_STAT.FAILS = 0 ∧ t.get HIVE_KSESS_STAT.LOCKOUT = 1
          ∧ t.get HIVE_KSESS_STAT.LOCK_REM = 60 ∧ t.get HIVE_KSESS_EVT.LOCKOUT = 1
          ∧ (muted s 0x00 = false → (t.get (PAGE_FLT_STAT.CAUSE 0x00)).testBit 1 = true))
      ∧ Frame (.any [accessFp a 0x00, .fields [HIVE_KSESS_STAT.FAILS, HIVE_KSESS_STAT.TOTAL_FAILS, HIVE_KSESS_STAT.LOCKOUT,
          HIVE_KSESS_STAT.LOCK_REM, HIVE_KSESS_EVT.FAILED, HIVE_KSESS_EVT.LOCKOUT, Ses.LOCK_T],
          .parts [.codeHold (pathNum a.path)], raiseFp 0x00]) s t)
    ∧ (served s = true → s.get HIVE_KSESS_STAT.LOCKOUT = 1 →
      ∃ t, exec (.attempt a w) s = .next t ∧ t.codeHold[pathNum a.path] = none
      ∧ Frame (.any [accessFp a 0x00, .parts [.codeHold (pathNum a.path)]]) s t)
    ∧ (s.get HIVE_KSESS_STAT.LOCKOUT = 1 → ∃ t, exec .lockoutEnd s = .next t ∧ t.get HIVE_KSESS_STAT.LOCKOUT = 0
      ∧ t.get HIVE_KSESS_STAT.LOCK_REM = 0 ∧ t.get HIVE_KSESS_STAT.FAILS = 0
      ∧ Frame (.fields [HIVE_KSESS_STAT.LOCKOUT, HIVE_KSESS_STAT.LOCK_REM, HIVE_KSESS_STAT.FAILS, Ses.LOCK_T]) s t)
    ∧ (served s = true → w.toNat.testBit 0 = true →
      ∃ t, exec (.sessionClose a w) s = .next t ∧ t.get (Ses.CODE (pathNum a.path)) = 0
      ∧ (s.get (Ses.CODE (pathNum a.path)) = 1 → t.get HIVE_KSESS_EVT.CLOSED = 1) ∧ Frame (.any [accessFp a 0x00, .fields [HIVE_KSESS_CTL.IDLE, HIVE_KSESS_STAT.OPEN, HIVE_KSESS_STAT.PIN, HIVE_KSESS_EVT.CLOSED,
          Ses.CODE 0, Ses.CODE 1, Ses.CODE 2, Ses.CODE 3]]) s t)
    ∧ (served s = true → w.toNat.testBit 0 = false → keeperView s a = false →
      ∃ t, exec (.sessionClose a w) s = .next t ∧ (∀ q : Fin 4, t.get (Ses.CODE q) = s.get (Ses.CODE q)) ∧ Frame (.any [accessFp a 0x00, .fields [HIVE_KSESS_CTL.IDLE, HIVE_KSESS_STAT.OPEN, HIVE_KSESS_STAT.PIN, HIVE_KSESS_EVT.CLOSED,
          Ses.CODE 0, Ses.CODE 1, Ses.CODE 2, Ses.CODE 3]]) s t)
    ∧ (served s = true → keeperView s a = true → s.get (PAGE_LOCK.CFG 0x00) = 0 →
      ∃ t, exec (.sessionClose a w) s = .next t ∧ t.get HIVE_KSESS_CTL.IDLE = w.toNat / 256 % 256
      ∧ (w.toNat / 256 % 256 ≠ 0 → w.toNat / 256 % 256 ≠ s.get HIVE_KSESS_CTL.IDLE → ∀ q : Fin 4, q ≠ pathNum a.path →
          1000 * (w.toNat / 256 % 256) ≤ s.get (Ses.IDLE_T q) → t.get (Ses.CODE q) = 0) ∧ Frame (.any [accessFp a 0x00, .fields [HIVE_KSESS_CTL.IDLE, HIVE_KSESS_STAT.OPEN, HIVE_KSESS_STAT.PIN, HIVE_KSESS_EVT.CLOSED,
          Ses.CODE 0, Ses.CODE 1, Ses.CODE 2, Ses.CODE 3]]) s t)
    ∧ (s.get HIVE_KSESS_CTL.IDLE = 0 → exec (.sessionIdleClose p) s = .next s)
    ∧ (s.get HIVE_KSESS_CTL.IDLE ≠ 0 →
      ∃ t, exec (.sessionIdleClose p) s = .next t ∧ t.get (Ses.CODE (pathNum p)) = 0
      ∧ (s.get (Ses.CODE (pathNum p)) = 1 → t.get HIVE_KSESS_EVT.CLOSED = 1
          ∧ (t.get HIVE_KSESS_STAT.OPEN).testBit (pathNum p) = (s.get Ses.PIN == 1 && pathNum p == 0))
      ∧ Frame (.fields [Ses.CODE (pathNum p), HIVE_KSESS_STAT.OPEN, HIVE_KSESS_STAT.PIN, HIVE_KSESS_EVT.CLOSED]) s t)

/-- R101 to R103, R108 to R112: a frame is checked before any of its words is performed. The first check that fails gives
CODE and no access is performed; the words of an accepted one-word frame are performed at the check, and of a longer read
frame as many as fit in the first chunk. HRDY falls at the check. A frame on a served port with no earlier frame open is
taken. R104, R105, R107, R109: the chunks of a response, and frames ended before and after the check. -/
def Obligations.HostFramesAndChunks : Prop :=
  (∀ (s : State) (kb : Bool) (addr : BitVec 24) (len : BitVec 8) (data : List (BitVec 32)) (w : BitVec 32) (op : BitVec 8) (rcrc : BitVec 16),
    (served s = false →
      (∃ t, exec (.rd kb addr len rcrc) s = .next t ∧ t = s) ∧ (∃ t, exec (.wr kb addr len data rcrc) s = .next t ∧ t = s)
      ∧ (∃ t, exec (.rdn kb addr len rcrc) s = .next t ∧ t = s) ∧ (∃ t, exec (.wrn kb addr len data rcrc) s = .next t ∧ t = s)
      ∧ (∃ t, exec (.nop op addr len rcrc) s = .next t ∧ t = s))
    ∧ (served s = true → s.jobs[0] = none →
      -- RCRC differs: CRC, counted, and no access
      (crc16 0xFFFF (requestBytes (2 + 128 * bitOf kb) addr.toNat len.toNat data) ≠ rcrc.toNat →
        ∃ t, exec (.wr kb addr len data rcrc) s = .next t
        ∧ t.jobs[0].map (fun j => (j.kind, j.code, j.index, j.left)) = some (0, 5, 0, 0) ∧ t.get Pin.HRDY = 0
        ∧ t.get HOST_STAT.CRC_ERRS = min 255 (s.get HOST_STAT.CRC_ERRS + 1)
        ∧ Frame (.any [.fields [Pin.HRDY, HOST_STAT.CRC_ERRS, Flt.BURST 0x04], .parts [.jobs 0], raiseFp 0x04]) s t)
      ∧ (crc16 0xFFFF (requestBytes (3 + 128 * bitOf kb) addr.toNat len.toNat []) ≠ rcrc.toNat →
        ∃ t, exec (.rdn kb addr len rcrc) s = .next t
        ∧ t.jobs[0].map (fun j => (j.kind, j.code, j.index, j.done)) = some (0, 5, 0, min (64 * 2 ^ s.get HOST_CFG.FIFO) (len.toNat + 1))
        ∧ (∀ b ∈ (t.jobs[0].map (·.out)).getD [], b = 0)
        ∧ t.get HOST_STAT.CRC_ERRS = min 255 (s.get HOST_STAT.CRC_ERRS + 1)
        ∧ Frame (.any [.fields [Pin.HRDY, HOST_STAT.CRC_ERRS, Flt.BURST 0x04], .parts [.jobs 0], raiseFp 0x04]) s t)
      -- NOP, and an opcode that R102 does not list
      ∧ (op.toNat % 128 = 5 →
        ∃ t, exec (.nop op addr len (BitVec.ofNat 16 (crc16 0xFFFF (requestBytes op.toNat addr.toNat len.toNat [])))) s = .next t ∧ t.get Pin.HRDY = 0
        ∧ t.jobs[0].map (fun j => (j.kind, j.code, j.left, j.out)) = some (0, 0, 0, []) ∧ Frame (.any [.fields [Pin.HRDY], .parts [.jobs 0]]) s t)
      ∧ ((op.toNat % 128 = 0 ∨ 5 < op.toNat % 128) →
        ∃ t, exec (.nop op addr len (BitVec.ofNat 16 (crc16 0xFFFF (requestBytes op.toNat addr.toNat len.toNat [])))) s = .next t ∧ t.get Pin.HRDY = 0
        ∧ t.jobs[0].map (fun j => (j.kind, j.code, j.left, j.out)) = some (0, 6, 0, []) ∧ Frame (.any [.fields [Pin.HRDY], .parts [.jobs 0]]) s t)
      -- MISALIGNED and RANGE
      ∧ ((addr.toNat % 4 ≠ 0 ∨ 0xFFFFFC < addr.toNat + 4 * len.toNat) →
        ∃ t, exec (.rd kb addr len (BitVec.ofNat 16 (crc16 0xFFFF (requestBytes (1 + 128 * bitOf kb) addr.toNat len.toNat [])))) s = .next t
        ∧ t.jobs[0].map (fun j => (j.kind, j.code, j.index, j.done)) = some (0, if addr.toNat % 4 = 0 then 9 else 8, 0,
            min (64 * 2 ^ s.get HOST_CFG.FIFO) (len.toNat + 1))
        ∧ (∀ b ∈ (t.jobs[0].map (·.out)).getD [], b = 0) ∧ t.get Pin.HRDY = 0 ∧ Frame (.any [.fields [Pin.HRDY], .parts [.jobs 0]]) s t)
      -- the first chunk of a read of the windows
      ∧ (addr.toNat % 4 = 0 → 0x200000 ≤ addr.toNat → addr.toNat + 4 * len.toNat < 0x700000 →
        ∃ t, exec (.rd kb addr len (BitVec.ofNat 16 (crc16 0xFFFF (requestBytes (1 + 128 * bitOf kb) addr.toNat len.toNat [])))) s = .next t
        ∧ t.jobs[0].map (fun j => (j.kind, j.write, j.left, j.done, j.fifo, j.addr, j.out.length)) =
            some (0, false, len.toNat + 1 - min (64 * 2 ^ s.get HOST_CFG.FIFO) (len.toNat + 1),
              min (64 * 2 ^ s.get HOST_CFG.FIFO) (len.toNat + 1), 64 * 2 ^ s.get HOST_CFG.FIFO,
              addr.toNat + 4 * min (64 * 2 ^ s.get HOST_CFG.FIFO) (len.toNat + 1), 6 * min (64 * 2 ^ s.get HOST_CFG.FIFO) (len.toNat + 1))
        ∧ t.get Pin.HRDY = 0)
      -- one word is read
      ∧ (addr.toNat % 4 = 0 → addr.toNat < 0x700000 →
        ∃ t, exec (.rd kb addr 0 (BitVec.ofNat 16 (crc16 0xFFFF (requestBytes (1 + 128 * bitOf kb) addr.toNat 0 [])))) s = .next t
        ∧ t.jobs[0].map (fun j => (j.kind, j.code, j.index, j.left, j.out)) =
            some (0, (wordRead s (kb && sessionOpen s .host 0) 0 addr.toNat).2.2.2, 0, 0,
              beBytes 4 (wordRead s (kb && sessionOpen s .host 0) 0 addr.toNat).2.1
                ++ beBytes 2 (wordRead s (kb && sessionOpen s .host 0) 0 addr.toNat).2.2.1)
        ∧ Frame (.any [.fields [Pin.HRDY], .parts [.jobs 0]]) (wordRead s (kb && sessionOpen s .host 0) 0 addr.toNat).1 t)
      ∧ (addr.toNat % 4 = 0 → addr.toNat < 0x700000 →
        ∃ t, exec (.rdn kb addr 0 (BitVec.ofNat 16 (crc16 0xFFFF (requestBytes (3 + 128 * bitOf kb) addr.toNat 0 [])))) s = .next t
        ∧ t.jobs[0].map (fun j => (j.kind, j.code, j.index, j.left, j.out)) =
            some (0, (wordRead s (kb && sessionOpen s .host 0) 0 addr.toNat).2.2.2, 0, 0,
              beBytes 4 (wordRead s (kb && sessionOpen s .host 0) 0 addr.toNat).2.1
                ++ beBytes 2 (wordRead s (kb && sessionOpen s .host 0) 0 addr.toNat).2.2.1)
        ∧ Frame (.any [.fields [Pin.HRDY], .parts [.jobs 0]]) (wordRead s (kb && sessionOpen s .host 0) 0 addr.toNat).1 t)
      -- one word is written
      ∧ (addr.toNat % 4 = 0 → addr.toNat < 0x700000 →
          (wordWrite s (kb && sessionOpen s .host 0) 0 0 addr.toNat w.toNat).1.get Boot.HELD = 0 →
        ∃ t, exec (.wr kb addr 0 [w] (BitVec.ofNat 16 (crc16 0xFFFF (requestBytes (2 + 128 * bitOf kb) addr.toNat 0 [w])))) s = .next t
        ∧ t.jobs[0].map (fun j => (j.kind, j.code, j.index, j.left, j.out)) =
            some (0, (wordWrite s (kb && sessionOpen s .host 0) 0 0 addr.toNat w.toNat).2, 0, 0, [])
        ∧ Frame (.any [.fields [Pin.HRDY], .parts [.jobs 0]]) (wordWrite s (kb && sessionOpen s .host 0) 0 0 addr.toNat w.toNat).1 t)
      ∧ (addr.toNat % 4 = 0 → addr.toNat < 0x700000 →
          (wordWrite s (kb && sessionOpen s .host 0) 0 0 addr.toNat w.toNat).1.get Boot.HELD = 0 →
        ∃ t, exec (.wrn kb addr 0 [w] (BitVec.ofNat 16 (crc16 0xFFFF (requestBytes (4 + 128 * bitOf kb) addr.toNat 0 [w])))) s = .next t
        ∧ t.jobs[0].map (fun j => (j.kind, j.code, j.index, j.left, j.out)) =
            some (0, (wordWrite s (kb && sessionOpen s .host 0) 0 0 addr.toNat w.toNat).2, 0, 0, [])
        ∧ Frame (.any [.fields [Pin.HRDY], .parts [.jobs 0]]) (wordWrite s (kb && sessionOpen s .host 0) 0 0 addr.toNat w.toNat).1 t)))
  ∧ (∀ (s : State) (j : Job),
    (s.jobs[0] = some j → j.kind = 0 → j.wait = 0 → j.quota = 0 → s.get Pin.HRDY = 0 →
      ∃ t, exec .chunkReady s = .next t
        ∧ t.sent = s.sent ++ [.hostResponse (j.out ++ (if j.left = 0 then beBytes 2 (j.code * 4096 + j.index % 256)
            ++ beBytes 2 (crc16 (crc16 j.crc j.out) (beBytes 2 (j.code * 4096 + j.index % 256))) else []))]
        ∧ t.jobs[0] = some { j with crc := crc16 j.crc j.out, out := [] } ∧ (served s = true → t.get Pin.HRDY = 1)
        ∧ Frame (.any [.fields [Pin.HRDY], .parts [.jobs 0, .sent]]) s t)
    ∧ ((s.jobs[0] = none ∨ s.get Pin.HRDY = 1) → exec .chunkReady s = .next s)
    ∧ (s.jobs[0] = some j → j.kind = 0 → s.get Pin.HRDY = 1 → j.left = 0 →
      ∃ t, exec .chunkDrained s = .next t
        ∧ t.jobs[0] = none ∧ t.get HOST_STAT.CODE = j.code % 16 ∧ t.get HOST_STAT.INDEX = j.index % 256
        ∧ Frame (.any [.fields [HOST_STAT.CODE, HOST_STAT.INDEX], .parts [.jobs 0]]) s t)
    ∧ (s.jobs[0] = some j → j.kind = 0 → s.get Pin.HRDY = 1 → j.left ≠ 0 → 5 ≤ j.code → j.write = false →
        s.get Boot.HELD = 0 → j.wait = 0 →
      ∃ t, exec .chunkDrained s = .next t
        ∧ t.get Pin.HRDY = 0
        ∧ t.jobs[0].map (fun q => (q.left, q.done, q.code)) = some (j.left - min j.fifo j.left, j.done + min j.fifo j.left, j.code)
        ∧ Frame (.any [.fields [Pin.HRDY], .parts [.jobs 0]]) s t)
    ∧ ((s.jobs[0] = none ∨ s.get Pin.HRDY = 0) → exec .chunkDrained s = .next s)
    ∧ (served s = false → exec .frameAbort s = .next s)
    ∧ (served s = true → s.jobs[0] = none →
      ∃ t, exec .frameAbort s = .next t ∧ t.get HOST_STAT.ABORTS = min 255 (s.get HOST_STAT.ABORTS + 1)
        ∧ t.get HOST_STAT.CODE = 0xA ∧ t.get HOST_STAT.INDEX = 0
        ∧ Frame (.fields [HOST_STAT.ABORTS, HOST_STAT.CODE, HOST_STAT.INDEX]) s t)
    ∧ (s.jobs[0] = none → exec .frameEndAfterCheck s = .next s)
    ∧ (s.jobs[0] = some j → j.kind = 0 → j.wait = 0 → (j.left = 0 ∨ 5 ≤ j.code) → s.get Boot.HELD = 0 →
      ∃ t, exec .frameEndAfterCheck s = .next t
        ∧ t.jobs[0] = none ∧ t.get HOST_STAT.ABORTS = min 255 (s.get HOST_STAT.ABORTS + 1)
        ∧ t.get HOST_STAT.CODE = j.code % 16 ∧ t.get HOST_STAT.INDEX = j.index % 256 ∧ t.get Pin.HRDY = bitOf (served s)
        ∧ Frame (.any [.fields [HOST_STAT.ABORTS, HOST_STAT.CODE, HOST_STAT.INDEX, Pin.HRDY], .parts [.jobs 0]]) s t)
    ∧ (s.jobs[0] = some j → j.kind = 0 → j.wait = 0 → j.write = false → j.code = 0 → j.left = 1 → j.addr < 0x700000 →
        s.get Boot.HELD = 0 →
      ∃ t, exec .frameEndAfterCheck s = .next t
        ∧ t.get HOST_STAT.CODE = (wordRead s j.keeper 0 j.addr).2.2.2 % 16
        ∧ Frame (.any [.fields [HOST_STAT.ABORTS, HOST_STAT.CODE, HOST_STAT.INDEX, Pin.HRDY], .parts [.jobs 0]])
            (wordRead s j.keeper 0 j.addr).1 t)
    ∧ ((s.get HOST_CFG.STALL = 0 ∨ s.get Pin.HRDY = 0) → exec .stall s = .next s)
    ∧ (s.get HOST_CFG.STALL ≠ 0 → s.get Pin.HRDY = 1 → s.jobs[0] = some j → j.kind = 0 →
      ∃ t, exec .stall s = .next t ∧ exec .frameEndAfterCheck s = .next t)
    ∧ (s.get HOST_CFG.STALL ≠ 0 → s.get Pin.HRDY = 1 → s.jobs[0] = some j → j.kind = 0 → j.wait = 0 →
        (j.left = 0 ∨ 5 ≤ j.code) → s.get Boot.HELD = 0 →
      ∃ t, exec .stall s = .next t
        ∧ t.jobs[0] = none ∧ t.get HOST_STAT.ABORTS = min 255 (s.get HOST_STAT.ABORTS + 1)
        ∧ t.get HOST_STAT.CODE = j.code % 16 ∧ t.get HOST_STAT.INDEX = j.index % 256 ∧ Frame (.any [.fields [HOST_STAT.ABORTS, HOST_STAT.CODE, HOST_STAT.INDEX, Pin.HRDY], .parts [.jobs 0]]) s t)
    ∧ (s.get HOST_CFG.STALL ≠ 0 → s.get Pin.HRDY = 1 → s.jobs[0] = none → served s = true →
      ∃ t, exec .stall s = .next t ∧ t.get HOST_STAT.ABORTS = min 255 (s.get HOST_STAT.ABORTS + 1)
        ∧ t.get HOST_STAT.CODE = 0xA ∧ t.get HOST_STAT.INDEX = 0
        ∧ Frame (.fields [HOST_STAT.ABORTS, HOST_STAT.CODE, HOST_STAT.INDEX]) s t))

/-- R113 to R118: a controller that takes part in the bus answers a request for its node with one response frame; frames that
it ignores or cannot queue are counted. What performs a word is the same as on the other paths. The standard's error counters
are free values (log entry 22). -/
def Obligations.CanAccess : Prop :=
  ∀ (s : State) (n : Fin 2) (j : Job) (seq src other : BitVec 8) (id : BitVec 29) (kb : Bool) (addr : BitVec 24) (len op : BitVec 8) (w : BitVec 32)
    (payload : List (BitVec 8)) (waiting : Fin 5) (pad : Fin 3),
    ((served s = false ∨ canHears s n = false) → exec (.canRequest n (some id) payload waiting) s = .next s)
    ∧ (served s = true → canHears s n = true →
      (∃ t, exec (.canRequest n none payload waiting) s = .next t
        ∧ t.get (CAN_STAT.DROPPED n) = min 255 (s.get (CAN_STAT.DROPPED n) + 1)
        ∧ (s.get (CAN_STAT.REC n) < 128 → t.get (CAN_STAT.REC n) = s.get (CAN_STAT.REC n) - 1)
        ∧ (128 ≤ s.get (CAN_STAT.REC n) → 119 ≤ t.get (CAN_STAT.REC n) ∧ t.get (CAN_STAT.REC n) ≤ 127)
        ∧ Frame (.any [.fields [CAN_STAT.DROPPED n], canFp n]) s t)
      ∧ ((s.get (CAN_CFG.LISTEN n) = 1 ∨ id.toNat / 2 ^ 27 ≠ 2 ∨ id.toNat % 256 ≠ s.get (CAN_CFG.NODE n) ∨ s.get (CAN_CFG.NODE n) = 0
            ∨ s.get (CAN_CFG.NODE n) = 255) →
        ∃ t, exec (.canRequest n (some id) payload waiting) s = .next t ∧ Frame (canFp n) s t))
    ∧ (served s = true → canOn s n = true → s.get (CAN_CFG.NODE n) ≠ 0 → s.get (CAN_CFG.NODE n) ≠ 255 →
      (∃ t, exec (.canRequest n (some (BitVec.ofNat 29 (2 ^ 28 + seq.toNat * 65536 + src.toNat * 256 + s.get (CAN_CFG.NODE n)))) payload 4) s = .next t
        ∧ t.get (CAN_STAT.DROPPED n) = min 255 (s.get (CAN_STAT.DROPPED n) + 1)
        ∧ Frame (.any [.fields [CAN_STAT.DROPPED n], canFp n, raiseFp (0x05 + n)]) s t)
      ∧ (s.jobs[canPath n] = some j → s.canq[n].length < 4 →
        ∃ t, exec (.canRequest n (some (BitVec.ofNat 29 (2 ^ 28 + seq.toNat * 65536 + src.toNat * 256 + s.get (CAN_CFG.NODE n)))) payload 0) s = .next t
        ∧ t.canq[n] = s.canq[n] ++ [⟨seq.toNat * 256 + src.toNat, payload⟩] ∧ Frame (.any [canFp n, .parts [.canq n]]) s t)
      ∧ (s.jobs[canPath n] = none → s.canq[n] = [] →
          -- NOP, an opcode that R102 does not list, and a request that a check refuses: STATUS, with RDATA of zeros where it fits
          ((op.toNat % 128 = 0 ∨ 5 ≤ op.toNat % 128) →
            ∃ t, exec (.canRequest n (some (BitVec.ofNat 29 (2 ^ 28 + seq.toNat * 65536 + src.toNat * 256 + s.get (CAN_CFG.NODE n))))
              (requestBytes op.toNat addr.toNat len.toNat [] ++ beBytes 2 (crc16 0xFFFF (requestBytes op.toNat addr.toNat len.toNat []))
                ++ List.replicate pad 0) 0) s = .next t
            ∧ t.sent = s.sent ++ [.can n (2 ^ 27 + seq.toNat * 65536 + s.get (CAN_CFG.NODE n) * 256 + src.toNat)
                  (beBytes 2 (if op.toNat % 128 = 5 then 0 else 0x6000) ++ beBytes 2 (crc16 0xFFFF (beBytes 2 (if op.toNat % 128 = 5 then 0 else 0x6000))))]
            ∧ t.get (CAN_STAT.TEC n) = s.get (CAN_STAT.TEC n) - 1 ∧ Frame (.any [canFp n, .parts [.sent]]) s t)
          ∧ ((op.toNat % 128 = 1 ∨ op.toNat % 128 = 3) → 9 < len.toNat →
            ∃ t, exec (.canRequest n (some (BitVec.ofNat 29 (2 ^ 28 + seq.toNat * 65536 + src.toNat * 256 + s.get (CAN_CFG.NODE n))))
              (requestBytes op.toNat addr.toNat len.toNat [] ++ beBytes 2 (crc16 0xFFFF (requestBytes op.toNat addr.toNat len.toNat []))
                ++ List.replicate pad 0) 0) s = .next t
            ∧ t.sent = s.sent ++ [.can n (2 ^ 27 + seq.toNat * 65536 + s.get (CAN_CFG.NODE n) * 256 + src.toNat)
                  (beBytes 2 0x7000 ++ beBytes 2 (crc16 0xFFFF (beBytes 2 0x7000)))] ∧ Frame (.any [canFp n, .parts [.sent]]) s t)
          ∧ ((op.toNat % 128 = 1 ∨ op.toNat % 128 = 3) → len.toNat = 0 → addr.toNat % 4 ≠ 0 →
            ∃ t, exec (.canRequest n (some (BitVec.ofNat 29 (2 ^ 28 + seq.toNat * 65536 + src.toNat * 256 + s.get (CAN_CFG.NODE n))))
              (requestBytes op.toNat addr.toNat len.toNat [] ++ beBytes 2 (crc16 0xFFFF (requestBytes op.toNat addr.toNat len.toNat []))
                ++ List.replicate pad 0) 0) s = .next t
            ∧ t.sent = s.sent ++ [.can n (2 ^ 27 + seq.toNat * 65536 + s.get (CAN_CFG.NODE n) * 256 + src.toNat)
                  (canPad (beBytes 2 0x8000 ++ List.replicate 6 0 ++ beBytes 2 (crc16 0xFFFF (beBytes 2 0x8000 ++ List.replicate 6 0))))] ∧ Frame (.any [canFp n, .parts [.sent]]) s t)
          -- one word is read
          ∧ (op.toNat % 128 = 3 → len.toNat = 0 → addr.toNat % 4 = 0 → addr.toNat < 0x700000 →
            ∃ t, exec (.canRequest n (some (BitVec.ofNat 29 (2 ^ 28 + seq.toNat * 65536 + src.toNat * 256 + s.get (CAN_CFG.NODE n))))
              (requestBytes op.toNat addr.toNat len.toNat [] ++ beBytes 2 (crc16 0xFFFF (requestBytes op.toNat addr.toNat len.toNat []))
                ++ List.replicate pad 0) 0) s = .next t
            ∧ (let r := wordRead (canHeard s n) (op.toNat.testBit 7 && sessionOpen s (canSession n) 0) (canPath n) addr.toNat
               let body := beBytes 2 (r.2.2.2 * 4096) ++ beBytes 4 r.2.1 ++ beBytes 2 r.2.2.1
               t.sent = r.1.sent ++ [.can n (2 ^ 27 + seq.toNat * 65536 + s.get (CAN_CFG.NODE n) * 256 + src.toNat)
                    (canPad (body ++ beBytes 2 (crc16 0xFFFF body)))]
               ∧ Frame (.any [canFp n, .parts [.sent]]) r.1 t))
          -- one word is written
          ∧ (addr.toNat % 4 = 0 → 0x200000 ≤ addr.toNat → addr.toNat < 0x700000 →
            ∃ t, exec (.canRequest n (some (BitVec.ofNat 29 (2 ^ 28 + seq.toNat * 65536 + src.toNat * 256 + s.get (CAN_CFG.NODE n))))
              (requestBytes (4 + 128 * bitOf kb) addr.toNat 0 [w] ++ beBytes 2 (crc16 0xFFFF (requestBytes (4 + 128 * bitOf kb) addr.toNat 0 [w]))
                ++ List.replicate pad 0) 0) s = .next t
            ∧ (let r := wordWrite (canHeard s n) (kb && sessionOpen s (canSession n) 0) (canPath n) 0 addr.toNat w.toNat
               t.sent = r.1.sent ++ [.can n (2 ^ 27 + seq.toNat * 65536 + s.get (CAN_CFG.NODE n) * 256 + src.toNat)
                    (beBytes 2 (r.2 * 4096) ++ beBytes 2 (crc16 0xFFFF (beBytes 2 (r.2 * 4096))))]
               ∧ Frame (.any [canFp n, .parts [.sent]]) r.1 t))
          -- RCRC differs
          ∧ (∃ t, exec (.canRequest n (some (BitVec.ofNat 29 (2 ^ 28 + seq.toNat * 65536 + src.toNat * 256 + s.get (CAN_CFG.NODE n))))
              (requestBytes (4 + 128 * bitOf kb) addr.toNat 0 [w]
                ++ beBytes 2 (crc16 0xFFFF (requestBytes (4 + 128 * bitOf kb) addr.toNat 0 [w]) ^^^ (1 + other.toNat))) 0) s = .next t
            ∧ t.sent = s.sent ++ [.can n (2 ^ 27 + seq.toNat * 65536 + s.get (CAN_CFG.NODE n) * 256 + src.toNat)
                  (beBytes 2 0x5000 ++ beBytes 2 (crc16 0xFFFF (beBytes 2 0x5000)))] ∧ Frame (.any [canFp n, .parts [.sent]]) s t)))
    ∧ ((served s = false ∨ s.get Boot.STEP < 3 ∨ canOn s n = false ∨ s.get (CAN_CFG.HB n) = 0) →
      exec (.heartbeat n) s = .next s)
    ∧ (served s = true → 3 ≤ s.get Boot.STEP → canOn s n = true → s.get (CAN_CFG.HB n) ≠ 0 →
      ∃ t, exec (.heartbeat n) s = .next t
      ∧ t.get (Can.HBSEQ n) = (s.get (Can.HBSEQ n) + 1) % 256
      ∧ t.get (CAN_STAT.TEC n) = s.get (CAN_STAT.TEC n) - 1
      ∧ (let body := beBytes 2 (regView s false 0x00 0x040 % 4096) ++ beBytes 1 (max (s.get PINS_ERR.DRIVE) (s.get Err.EXT))
            ++ beBytes 1 (min 255 (activePages s)) ++ beBytes 4 (s.retWord 0)
         t.sent = s.sent ++ [.can n (s.get (Can.HBSEQ n) * 65536 + s.get (CAN_CFG.NODE n) * 256 + 0xFF)
            (body ++ beBytes 2 (crc16 0xFFFF body) ++ [0, 0])])
      ∧ Frame (.any [.fields [Can.HBSEQ n], canFp n, .parts [.sent]]) s t)
    ∧ (served s = true → s.get (CAN_CFG.EN n) = 1 → s.get (CAN_STAT.STATE n) = 0 →
      ∃ t, exec (.errPassive n) s = .next t ∧ t.get (CAN_STAT.STATE n) = 1
      ∧ Frame (.any [canFp n, raiseFp (0x05 + n)]) s t)
    ∧ (served s = true → canOn s n = true →
      ∃ t, exec (.busOff n) s = .next t ∧ t.get (CAN_STAT.STATE n) = 2
      ∧ Frame (.any [canFp n, raiseFp (0x05 + n)]) s t)
    ∧ (s.get (CAN_STAT.STATE n) = 2 → ∃ t, exec (.busOffRecovery n) s = .next t ∧ t.get (CAN_STAT.STATE n) = 0
        ∧ t.get (CAN_STAT.TEC n) = 0 ∧ t.get (CAN_STAT.REC n) = 0
        ∧ Frame (.any [.fields [CAN_STAT.STATE n, CAN_STAT.TEC n, CAN_STAT.REC n], endFp (0x05 + n)]) s t)

/-- R437, R439, R440, R441, R449: LINK frames of a port, its end, and how a frame for another node goes on. R438, R443, R444,
R455: the address that the device takes, and a node that becomes unreachable. -/
def Obligations.SwarmLinksAndAddresses : Prop :=
  (∀ (s : State) (f : SwFrame) (west east : Bool) (rx tTx tHold : BitVec 48) (pay : List (BitVec 8)) (bad : BitVec 32),
    (swOn s (bitOf west) = false →
      exec (.link (sealed { f with west := west, payload := List.take 19 (pay ++ List.replicate 19 (7 : BitVec 8)) } 0) rx) s = .next s)
    ∧ (swOn s (bitOf west) = true →
      ∃ t, exec (.link (sealed { f with west := west, payload := List.take 19 (pay ++ List.replicate 19 (7 : BitVec 8)) } 0) rx) s = .next t
      ∧ t.get (swLock (bitOf west)) = 1 ∧ t.get (swPartner (bitOf west)) = 1
      ∧ t.get (swPeer (bitOf west)) = f.src.toNat ∧ t.get (Sw.RUN (bitOf west)) = min 3 (s.get (Sw.RUN (bitOf west)) + 1)
      ∧ t.get (Sw.TTX (bitOf west)) = field (List.take 19 (pay ++ List.replicate 19 (7 : BitVec 8))) 1 6
      ∧ t.get (swDelay (bitOf west)) = min 65535 (((rx.toNat + 2 * 2 ^ 48 - field (List.take 19 (pay ++ List.replicate 19 (7 : BitVec 8))) 7 6
          - field (List.take 19 (pay ++ List.replicate 19 (7 : BitVec 8))) 13 6) % 2 ^ 48) / 2)
      ∧ t.get (swUp (bitOf west)) = (if 2 ≤ s.get (Sw.RUN (bitOf west)) then 1 else s.get (swUp (bitOf west)))
      ∧ (2 ≤ s.get (Sw.RUN (bitOf west)) → s.get (swUp (bitOf west)) = 0 → (t.get (PAGE_IRQ_STAT.EVT 0x98)).testBit (bitOf west) = true)
      ∧ Frame (.fields [swLock (bitOf west), swPartner (bitOf west), swPeer (bitOf west), swDelay (bitOf west), swUp (bitOf west),
          Sw.RUN (bitOf west), Sw.TTX (bitOf west), PAGE_IRQ_STAT.EVT 0x98]) s t)
    ∧ (swOn s (bitOf west) = true → bad ≠ 0 →
      ∃ t, exec (.link { f with west := west, crc := (sealed f 0).crc ^^^ bad } rx) s = .next t
        ∧ t.get (Sw.RUN (bitOf west)) = 0 ∧ Frame (.fields [Sw.RUN (bitOf west)]) s t)
    ∧ (swOn s (bitOf west) = false → exec (.linkSend west tTx tHold) s = .next s)
    ∧ (swOn s (bitOf west) = true →
      ∃ t, exec (.linkSend west tTx tHold) s = .next t
      ∧ t.get Sw.SEQ = (s.get Sw.SEQ + 1) % 256
      ∧ t.sent = s.sent ++ [frameOn (bitOf west) (frameBytes 0 false false (s.get (swPeer (bitOf west))) (ownAddr s) 255 (s.get Sw.SEQ)
          (beBytes 1 (bitOf west) ++ beBytes 6 tTx.toNat ++ beBytes 6 (s.get (Sw.TTX (bitOf west))) ++ beBytes 6 tHold.toNat))]
      ∧ Frame (.any [.fields [Sw.SEQ], .parts [.sent]]) s t)
    ∧ (∃ t, exec (.portDown west) s = .next t ∧ t.get (swUp (bitOf west)) = 0 ∧ t.get (swPartner (bitOf west)) = 0
      ∧ t.get (Sw.RUN (bitOf west)) = 0
      ∧ (s.get (swUp (bitOf west)) = 1 → (t.get (PAGE_IRQ_STAT.EVT 0x98)).testBit (bitOf west) = true ∧ t.get SW_TOPO.RING = 0)
      ∧ Frame (.any [.fields [swUp (bitOf west), swPartner (bitOf west), Sw.RUN (bitOf west), SW_TOPO.RING, PAGE_IRQ_STAT.EVT 0x98,
          Sw.SEQ], .parts [.sent]]) s t)
    ∧ (∃ t, exec (.receiverLockLost east) s = .next t ∧ t.get (swLock (bitOf (!east))) = 0 ∧ t.get (swUp (bitOf (!east))) = 0
      ∧ t.get (swPartner (bitOf (!east))) = 0
      ∧ (s.get (swUp (bitOf (!east))) = 1 → (t.get (PAGE_IRQ_STAT.EVT 0x98)).testBit (bitOf (!east)) = true)
      ∧ Frame (.any [.fields [swLock (bitOf (!east)), swUp (bitOf (!east)), swPartner (bitOf (!east)), Sw.RUN (bitOf (!east)), SW_TOPO.RING,
          PAGE_IRQ_STAT.EVT 0x98, Sw.SEQ], .parts [.sent]]) s t)
    ∧ (∃ t, exec .announceSend s = .next t ∧ t.get Sw.SEQ = (s.get Sw.SEQ + 1) % 256
      ∧ t.sent = s.sent ++ ([0, 1].filter (swLocal s)).map (fun p => frameOn p (frameBytes 1 false true (s.get SW_ADDR.SEG * 64) (ownAddr s) 255 (s.get Sw.SEQ)
          (beBytes 6 Config.uid.toNat ++ beBytes 1 (s.get SW_CTL.QPRI * 16 + 8 * bitOf (eligible s) + s.get SW_TOPO.ROLE)
            ++ beBytes 1 (s.get SW_TOPO.QVALID * 128 + s.get SW_TOPO.QUEEN) ++ beBytes 1 (s.get SW_TOPO.HVALID * 128 + s.get SW_TOPO.HEIR))))
      ∧ Frame (.any [.fields [Sw.SEQ], .parts [.sent]]) s t)
    -- a REPORT of another node, seen before, is discarded; a unicast frame for another node of the segment is forwarded with TTL - 1
    ∧ (swOn s (bitOf west) = true → isOwn s f.dst = false → isOwn s f.src = false → f.dst.toNat / 64 = s.get SW_ADDR.SEG → 2 ≤ f.ttl.toNat →
      s.get (swMode (bitOf west)) = 0 → hopsBy s 0 (f.dst.toNat % 64) ≠ 0 →
      (hopsBy s 1 (f.dst.toNat % 64) = 0 ∨ hopsBy s 0 (f.dst.toNat % 64) ≤ hopsBy s 1 (f.dst.toNat % 64)) →
      ∃ t, exec (.rsp (sealed { f with west := west, bcast := false, payload := [0, 0, 0, 0], full := false } 5)) s = .next t
        ∧ t.sent = s.sent ++ [frameOn 0 (frameBytes 5 f.keeper false f.dst.toNat f.src.toNat (f.ttl.toNat - 1) f.seq.toNat [0, 0, 0, 0])]
        ∧ Frame (.any [.fields [swLock (bitOf west)], .parts [.sent]]) s t))
  ∧ (∀ (s : State) (west : Bool) (node : Fin 64),
    ((s.get SW_ADDR.AUTO = 0 ∨ s.get SW_ADDR.VALID = 1 ∨ s.get Boot.STEP < 3 ∨ (s.get SW_PORT_E.UP = 0 ∧ s.get SW_PORT_W.UP = 0)) →
      exec .addressAssign s = .next s)
    ∧ (s.get SW_ADDR.AUTO = 1 → s.get SW_ADDR.VALID = 0 → 3 ≤ s.get Boot.STEP → (s.get SW_PORT_E.UP = 1 ∨ s.get SW_PORT_W.UP = 1) →
        swReach s node = false → (∀ k : Fin 64, k.val < node.val → swReach s k = true) →
      ∃ t, exec .addressAssign s = .next t
      ∧ t.get SW_ADDR.NODE_ACT = node.val ∧ t.get SW_ADDR.VALID = 1 ∧ t.get SW_ADDR.DUP = 0
      ∧ (t.get (PAGE_IRQ_STAT.EVT 0x98)).testBit 9 = true ∧ (t.get (Flt.PRESENT 0x98)).testBit 1 = false
      ∧ Frame (.any [.fields [SW_ADDR.NODE_ACT, SW_ADDR.VALID, SW_ADDR.DUP], swarmRoleFp, endFp 0x98]) s t)
    ∧ (∃ t, exec .addressAssign s = .next t
      ∧ Frame (.any [.fields [SW_ADDR.NODE_ACT, SW_ADDR.VALID, SW_ADDR.DUP], swarmRoleFp, endFp 0x98]) s t)
    ∧ (s.get SW_ADDR.VALID = 1 → node.val = s.get SW_ADDR.NODE_ACT →
      ∃ t, exec (.nodeUnreachable west node) s = .next t ∧ t.get SW_TOPO.RING = 0
      ∧ Frame (.fields [SW_TOPO.RING, PAGE_IRQ_STAT.EVT 0x98]) s t)
    ∧ ((s.get SW_ADDR.VALID = 0 ∨ node.val ≠ s.get SW_ADDR.NODE_ACT) → s.get (Sw.HOP (1 - bitOf west) node) ≠ 0 →
      ∃ t, exec (.nodeUnreachable west node) s = .next t ∧ t.get (Sw.HOP (bitOf west) node) = 0
      ∧ Frame (.fields [Sw.HOP (bitOf west) node]) s t)
    ∧ ((s.get SW_ADDR.VALID = 0 ∨ node.val ≠ s.get SW_ADDR.NODE_ACT) → s.get (Sw.HOP (1 - bitOf west) node) = 0 →
      ∃ t, exec (.nodeUnreachable west node) s = .next t ∧ t.get (Sw.HOP (bitOf west) node) = 0
      ∧ t.get (Sw.ELIGN node) = 0 ∧ t.get (Sw.SEQN node) = 0
      ∧ (s.get SW_TOPO.QVALID = 1 → s.get SW_TOPO.QUEEN = node.val → t.get SW_TOPO.QVALID = 0)
      ∧ (s.get (Ses.CODE 3) = 1 → s.get Ses.NODE = s.get SW_ADDR.SEG * 64 + node.val → t.get (Ses.CODE 3) = 0
          ∧ t.get HIVE_KSESS_EVT.CLOSED = 1)
      ∧ Frame (.any [.fields [Sw.HOP (bitOf west) node, Sw.ELIGN node, Sw.SEQN node, SW_TOPO.QVALID, SW_TOPO.QUEEN], bondFp, swarmRoleFp]) s t))

/-- R443 to R447, R457: what an ANNOUNCE shows of a node; the queen that it declares or gives up; the device's own that comes
back and a duplicate; the election, the takeover of the heir, and NO_QUEEN. R449: how a TIME frame steps or slews the swarm
time and goes on, the queen's own, and HOLDOVER. -/
def Obligations.SwarmRolesAndTime : Prop :=
  (∀ (s : State) (f : SwFrame) (west : Bool) (node : Fin 64) (b6 b7 b8 : BitVec 8) (uid : BitVec 48) (dt : BitVec 24),
    -- another node of the segment
    (swOn s (bitOf west) = true → s.get (swMode (bitOf west)) = 0 → (s.get SW_ADDR.VALID = 0 ∨ node.val ≠ s.get SW_ADDR.NODE_ACT) →
      uid ≠ Config.uid → (s.get (Sw.SEQN node) = 0 ∨ s.get (Sw.SEQN node) = f.seq.toNat) →
      ∃ t, exec (.announce (sealed { f with west := west, bcast := true, src := BitVec.ofNat 16 (s.get SW_ADDR.SEG * 64 + node), payload := (beBytes 6 uid.toNat ++ [b6, b7, b8] : List (BitVec 8)) } 1)) s = .next t
        ∧ t.get (Sw.SEQN node) = f.seq.toNat + 1
        ∧ (b6.toNat % 8 ≠ 0 → b6.toNat % 8 ≠ 4 →
            t.get (Sw.HOP (bitOf west) node) = 256 - f.ttl.toNat ∧ t.get (Sw.UIDN node) = uid.toNat
            ∧ t.get (Sw.QPRIN node) = b6.toNat / 16 ∧ t.get (Sw.ELIGN node) = b6.toNat / 8 % 2)
        ∧ ((b6.toNat % 8 = 0 ∨ b6.toNat % 8 = 4) → t.get (Sw.HOP (bitOf west) node) = s.get (Sw.HOP (bitOf west) node))
        ∧ Frame (.any [arriveFp { f with west := west, src := BitVec.ofNat 16 node }, nodeFp node, queenFp, shareInFp,
            .fields [swLock (bitOf west)], bondFp]) s t)
    -- the node that it declares queen, and a queen that gives up its part
    ∧ (swOn s (bitOf west) = true → s.get (swMode (bitOf west)) = 0 → (s.get SW_ADDR.VALID = 0 ∨ node.val ≠ s.get SW_ADDR.NODE_ACT) →
        uid ≠ Config.uid → (s.get (Sw.SEQN node) = 0 ∨ s.get (Sw.SEQN node) = f.seq.toNat) →
        b6.toNat % 8 = 3 → s.get Sw.ISQ = 0 →
      ∃ t, exec (.announce (sealed { f with west := west, bcast := true, src := BitVec.ofNat 16 (s.get SW_ADDR.SEG * 64 + node), payload := (beBytes 6 uid.toNat ++ [b6, b7, b8] : List (BitVec 8)) } 1)) s = .next t
        ∧ t.get SW_TOPO.QVALID = 1 ∧ t.get SW_TOPO.QUEEN = node.val
        ∧ ((s.get SW_TOPO.QVALID = 0 ∨ s.get SW_TOPO.QUEEN ≠ node.val) →
            t.get SW_CNT2.QUEEN_CHG = min 65535 (s.get SW_CNT2.QUEEN_CHG + 1) ∧ (t.get (PAGE_IRQ_STAT.EVT 0x98)).testBit 3 = true))
    ∧ (swOn s (bitOf west) = true → s.get (swMode (bitOf west)) = 0 → (s.get SW_ADDR.VALID = 0 ∨ node.val ≠ s.get SW_ADDR.NODE_ACT) →
        uid ≠ Config.uid → (s.get (Sw.SEQN node) = 0 ∨ s.get (Sw.SEQN node) = f.seq.toNat) →
        b6.toNat % 8 ≠ 3 → s.get SW_TOPO.QVALID = 1 → s.get SW_TOPO.QUEEN = node.val → s.get Sw.ISQ = 0 →
      ∃ t, exec (.announce (sealed { f with west := west, bcast := true, src := BitVec.ofNat 16 (s.get SW_ADDR.SEG * 64 + node), payload := (beBytes 6 uid.toNat ++ [b6, b7, b8] : List (BitVec 8)) } 1)) s = .next t
        ∧ (t.get SW_TOPO.QVALID = 0 ∨ (t.get Sw.ISQ = 1 ∧ t.get SW_TOPO.QUEEN = s.get SW_ADDR.NODE_ACT)))
    -- its own, and a duplicate
    ∧ (swOn s (bitOf west) = true → s.get (swMode (bitOf west)) = 0 → s.get SW_ADDR.VALID = 1 →
      (∃ t, exec (.announce (sealed { f with west := west, bcast := true, src := BitVec.ofNat 16 (ownAddr s), payload := (beBytes 6 Config.uid.toNat ++ [b6, b7, b8] : List (BitVec 8)) } 1)) s = .next t
        ∧ t.get SW_TOPO.RING = 1 ∧ (s.get SW_TOPO.RING = 0 → (t.get (PAGE_IRQ_STAT.EVT 0x98)).testBit 2 = true)
        ∧ Frame (.fields [swLock (bitOf west), SW_TOPO.RING, PAGE_IRQ_STAT.EVT 0x98]) s t)
      ∧ (b6.toNat % 8 ≠ 0 → b6.toNat % 8 ≠ 4 → uid ≠ Config.uid →
        ∃ t, exec (.announce (sealed { f with west := west, bcast := true, src := BitVec.ofNat 16 (ownAddr s), payload := (beBytes 6 uid.toNat ++ [b6, b7, b8] : List (BitVec 8)) } 1)) s = .next t
        ∧ t.get SW_CNT2.DUP_SEEN = min 65535 (s.get SW_CNT2.DUP_SEEN + 1)
        ∧ (Config.uid.toNat < uid.toNat → t.get SW_ADDR.VALID = 1 ∧ Frame (.fields [swLock (bitOf west), SW_CNT2.DUP_SEEN]) s t)
        ∧ (uid.toNat < Config.uid.toNat → t.get SW_ADDR.VALID = 0 ∧ t.get SW_ADDR.DUP = 1 ∧ t.get Sw.ISQ = 0
            ∧ (t.get (PAGE_IRQ_STAT.EVT 0x98)).testBit 9 = true
            ∧ (muted s 0x98 = false → (s.get (Flt.PRESENT 0x98)).testBit 1 = false → (t.get (PAGE_FLT_STAT.CAUSE 0x98)).testBit 1 = true))
        ∧ Frame (.any [.fields [swLock (bitOf west), SW_CNT2.DUP_SEEN, SW_ADDR.VALID, SW_ADDR.DUP], queenFp, raiseFp 0x98]) s t))
    ∧ (s.get SW_TOPO.QVALID = 1 → exec .election s = .next s) ∧ (eligible s = false → exec .election s = .next s)
    ∧ ((∃ k : Fin 64, k.val ≠ s.get SW_ADDR.NODE_ACT ∧ swReach s k = true ∧ s.get (Sw.ELIGN k) = 1 ∧ outranks s k = false) →
      exec .election s = .next s)
    ∧ (s.get SW_TOPO.QVALID = 0 → eligible s = true →
        (∀ k : Fin 64, k.val ≠ s.get SW_ADDR.NODE_ACT → (swReach s k = true ∧ s.get (Sw.ELIGN k) = 1) → outranks s k = true) →
      ∃ t, exec .election s = .next t
      ∧ t.get Sw.ISQ = 1 ∧ t.get SW_TOPO.QVALID = 1 ∧ t.get SW_TOPO.QUEEN = s.get SW_ADDR.NODE_ACT ∧ t.get Sw.HAS = 1
      ∧ (inSafeBoot s = false → t.get SW_TOPO.ROLE = 3)
      ∧ (s.get Sw.HAS = 0 → t.get SW_TIME_LO.TIME = 0 ∧ t.get SW_TIME_HI.TIME = 0)
      ∧ (t.get (PAGE_IRQ_STAT.EVT 0x98)).testBit 3 = true ∧ Frame queenFp s t)
    ∧ (∃ t, exec .election s = .next t ∧ Frame queenFp s t)
    ∧ (s.get SW_TOPO.ROLE ≠ 2 →
      ∃ t, exec (.heirTakeover dt.toNat) s = .next t ∧ Frame (.fields [SW_TIME_LO.TIME, SW_TIME_HI.TIME]) s t)
    ∧ (s.get SW_TOPO.ROLE = 2 →
      ∃ t, exec (.heirTakeover dt.toNat) s = .next t
      ∧ t.get Sw.ISQ = 1 ∧ t.get SW_TOPO.QVALID = 1 ∧ t.get SW_TOPO.QUEEN = s.get SW_ADDR.NODE_ACT
      ∧ (s.get Sw.HAS = 1 → swTime t = (swTime s + dt.toNat) % 2 ^ 64)
      ∧ (∀ g : Fin 16, t.get (Sw.TOTAL g) = s.get (Sw.TOTAL g)) ∧ (∀ m : Fin 256, t.get (Sw.TGT m) = s.get (Sw.TGT m))
      ∧ Frame (.any [queenFp, shareInFp]) s t)
    ∧ ((s.get SW_TOPO.QVALID = 1 ∨ (List.range 4).any (isMember s) = false) → exec .noQueen s = .next s)
    ∧ (s.get SW_TOPO.QVALID = 0 → (List.range 4).any (isMember s) = true → muted s 0x98 = false →
        (s.get (Flt.PRESENT 0x98)).testBit 2 = false →
      ∃ t, exec .noQueen s = .next t ∧ (t.get (PAGE_FLT_STAT.CAUSE 0x98)).testBit 2 = true
      ∧ (t.get (Flt.PRESENT 0x98)).testBit 2 = true ∧ Frame (raiseFp 0x98) s t)
    ∧ (∃ t, exec .noQueen s = .next t ∧ Frame (raiseFp 0x98) s t))
  ∧ (∀ (s : State) (f : SwFrame) (org : BitVec 64) (corr residence : BitVec 32) (dt : BitVec 24),
    (swOn s (bitOf f.west) = true → s.get (swMode (bitOf f.west)) = 0 → isOwn s f.src = false → s.get (Sw.SEQN (f.src.toNat % 64)) = 0 →
      s.get Sw.ISQ = 0 →
      ∃ t, exec (.timeFrame (sealed { f with bcast := true, payload := (beBytes 8 (org.toNat % 2 ^ 40) ++ beBytes 4 corr.toNat : List (BitVec 8)) } 8)
          dt.toNat residence) s = .next t
        ∧ t.get Sw.HAS = 1 ∧ t.get SW_TIME_STAT.VALID = 1 ∧ t.get SW_TIME_STAT.HOLDOVER = 0
        ∧ (1000 < ((queenTime s (bitOf f.west) (org.toNat % 2 ^ 40) corr.toNat : Int) - swTime (swPass s dt.toNat)).natAbs →
            swTime t = queenTime s (bitOf f.west) (org.toNat % 2 ^ 40) corr.toNat ∧ (t.get (PAGE_IRQ_STAT.EVT 0x98)).testBit 5 = true
            ∧ t.get Sw.SLEW = 0)
        ∧ (((queenTime s (bitOf f.west) (org.toNat % 2 ^ 40) corr.toNat : Int) - swTime (swPass s dt.toNat)).natAbs ≤ 1000 →
            swTime t = swTime (swPass s dt.toNat)
            ∧ t.int Sw.SLEW = (queenTime s (bitOf f.west) (org.toNat % 2 ^ 40) corr.toNat : Int) - swTime (swPass s dt.toNat))
        ∧ t.int SW_TIME_STAT.OFS = clampInt (-32768) 32767
            ((queenTime s (bitOf f.west) (org.toNat % 2 ^ 40) corr.toNat : Int) - swTime (swPass s dt.toNat))
        ∧ (2 ≤ f.ttl.toNat → f.full = false → swLocal s (1 - bitOf f.west) = true →
            t.sent = s.sent ++ [frameOn (1 - bitOf f.west) (frameBytes 8 f.keeper true f.dst.toNat f.src.toNat (f.ttl.toNat - 1) f.seq.toNat
              (beBytes 8 (org.toNat % 2 ^ 40) ++ beBytes 4 (corr.toNat + residence.toNat + s.get (swDelay (bitOf f.west)))))])
        ∧ Frame (.any [arriveFp f, .fields [Sw.HAS, Sw.SLEW, SW_TIME_LO.TIME, SW_TIME_HI.TIME, SW_TIME_STAT.VALID, SW_TIME_STAT.HOLDOVER,
            SW_TIME_STAT.OFS]]) s t)
    ∧ (s.get Sw.ISQ = 0 →
      ∃ t, exec (.timeSend dt.toNat) s = .next t ∧ t.sent = s.sent
      ∧ (s.get Sw.HAS = 1 → swTime t = (swTime s + dt.toNat) % 2 ^ 64) ∧ Frame (.any [.fields [SW_TIME_LO.TIME, SW_TIME_HI.TIME, Sw.SEQ], .parts [.sent]]) s t)
    ∧ (s.get Sw.ISQ = 1 → s.get Sw.HAS = 1 →
      ∃ t, exec (.timeSend dt.toNat) s = .next t
      ∧ t.sent = s.sent ++ ([0, 1].filter (swLocal s)).map (fun p => frameOn p (frameBytes 8 false true (s.get SW_ADDR.SEG * 64) (ownAddr s) 255
          (s.get Sw.SEQ) (beBytes 8 ((swTime s + dt.toNat) % 2 ^ 64) ++ beBytes 4 0)))
      ∧ swTime t = (swTime s + dt.toNat) % 2 ^ 64 ∧ Frame (.any [.fields [SW_TIME_LO.TIME, SW_TIME_HI.TIME, Sw.SEQ], .parts [.sent]]) s t)
    ∧ ((s.get Sw.HAS = 0 ∨ s.get Sw.ISQ = 1 ∨ s.get SW_TIME_STAT.HOLDOVER = 1) → exec .holdover s = .next s)
    ∧ (s.get Sw.HAS = 1 → s.get Sw.ISQ = 0 → s.get SW_TIME_STAT.HOLDOVER = 0 →
      ∃ t, exec .holdover s = .next t ∧ t.get SW_TIME_STAT.HOLDOVER = 1 ∧ (t.get (PAGE_IRQ_STAT.EVT 0x98)).testBit 6 = true
      ∧ Frame (.fields [SW_TIME_STAT.HOLDOVER, PAGE_IRQ_STAT.EVT 0x98]) s t))

/-- R451, R452: the queen's computation, and the delivery of an entry of a SHARE frame to a comb of the device. R89, R440,
R450, R451: reports build the rosters, totals come by GROUP_SET, and the registers that send them. -/
def Obligations.SharesRostersAndTotals : Prop :=
  (∀ (s : State) (f : SwFrame) (c : Fin 4) (g : Fin 16) (total tgt : BitVec 16) (eff : BitVec 46) (part : Bool) (dt : BitVec 20),
    (s.get Sw.ISQ = 0 →
      ∃ t, exec (.shareCompute dt.toNat) s = .next t ∧ t.sent = s.sent ∧ (∀ m : Fin 256, t.get (Sw.TGT m) = s.get (Sw.TGT m))
      ∧ (∀ m : Fin 256, t.get (Sw.AGE m) = (if s.get (Sw.MEM m) = 0 then s.get (Sw.AGE m) else min 65535 (s.get (Sw.AGE m) + 1)))
      ∧ Frame (.any [.fields (PAGE_IRQ_STAT.EVT 0x98 :: SW_TIME_LO.TIME :: SW_TIME_HI.TIME :: (List.range 256).flatMap (fun m => [Sw.AGE m, Sw.TGT m,
          Sw.TGTTAG m]) ++ (List.range 16).map Sw.PART), shareInFp]) s t)
    ∧ (s.get Sw.ISQ = 1 →
      ∃ t, exec (.shareCompute dt.toNat) s = .next t
      ∧ (∀ q ∈ shareTargets t g, t.get (Sw.TGT q.1) = ofSigned 16 q.2 ∧ t.get (Sw.TGTTAG q.1) = tagOf 6 q.2)
      ∧ t.get (Sw.PART g) = bitOf (!(roster t g).all (memReach t))
      -- no member short of its share: the fraction of the total that the reachable weights carry, in proportion
      ∧ ((roster t g).all (fun m => t.get (Sw.DEF m) == 0) = true → ∀ m ∈ (roster t g).filter (memReach t),
          t.get (Sw.TGT m) = ofSigned 16 (((t.int (Sw.TOTAL g) * weightSum t ((roster t g).filter (memReach t))).tdiv (weightSum t (roster t g))
            * memWeight t m).tdiv (weightSum t ((roster t g).filter (memReach t)))))
      ∧ t.get (Sw.TOTAL g) = s.get (Sw.TOTAL g)
      ∧ (∀ m : Fin 256, t.get (Sw.AGE m) = (if s.get (Sw.MEM m) = 0 then s.get (Sw.AGE m) else min 65535 (s.get (Sw.AGE m) + 1))) ∧ (∀ m : Fin 256, t.get (Sw.MEM m) = s.get (Sw.MEM m))
      ∧ Frame (.any [.fields (PAGE_IRQ_STAT.EVT 0x98 :: SW_TIME_LO.TIME :: SW_TIME_HI.TIME :: (List.range 256).flatMap (fun m => [Sw.AGE m, Sw.TGT m,
          Sw.TGTTAG m]) ++ (List.range 16).map Sw.PART), shareInFp]) s t)
    ∧ (swOn s (bitOf f.west) = true → s.get (swMode (bitOf f.west)) = 0 → isOwn s f.src = false → s.get (Sw.SEQN (f.src.toNat % 64)) = 0 →
      s.get Sw.ISQ = 0 → s.get SW_ADDR.VALID = 1 →
      ∃ t, exec (.shareFrame (sealed { f with bcast := true, payload := (beBytes 1 (16 + g) ++ beBytes 1 (bitOf part) ++ beBytes 6 eff.toNat
          ++ beBytes 2 total.toNat ++ beBytes 1 (4 * s.get SW_ADDR.NODE_ACT + c) ++ beBytes 2 tgt.toNat ++ beBytes 2 (tagOf 6 tgt.toInt) : List (BitVec 8)) } 2) dt.toNat) s = .next t
        ∧ t.get (Sw.TOTAL g) = total.toNat ∧ t.get (Sw.PART g) = bitOf part
        ∧ t.get (Sw.TGT (4 * s.get SW_ADDR.NODE_ACT + c)) = tgt.toNat
        ∧ t.get SW_TOPO.QVALID = 1 ∧ t.get SW_TOPO.QUEEN = f.src.toNat % 64
        ∧ (s.get TAG_INJ.ARM = 0 → isMember s c = true → s.get (SW_MEMB.GROUP c) = g.val → inSafeBoot s = false →
            t.get (SW_MEMB.TARGET c) = tgt.toNat ∧ t.get (Sw.MTAG c) = tagOf 6 tgt.toInt
            ∧ (swTime (swPass s dt.toNat) < 2 ^ 46 →
                t.get SW_CNT1.SHARE_LATE = (if eff.toNat < swTime (swPass s dt.toNat) then min 65535 (s.get SW_CNT1.SHARE_LATE + 1) else s.get SW_CNT1.SHARE_LATE)
                ∧ t.sent.contains (Sent.record c (7 + 49 * 2 ^ 4 + 1 * 2 ^ 10 + 1 * 2 ^ 12 + tgt.toNat * 2 ^ 16 + s.get SW_SHARE_CFG.RAMP * 2 ^ 32
                  + ((eff.toNat - swTime (swPass s dt.toNat)) / 1000 % 2 ^ 24) * 2 ^ 40)) = true))
        ∧ ((isMember s c = false ∨ s.get (SW_MEMB.GROUP c) ≠ g.val ∨ inSafeBoot s = true) → t.get (SW_MEMB.TARGET c) = s.get (SW_MEMB.TARGET c))
        ∧ Frame (.any [arriveFp f, .fields [SW_TIME_LO.TIME, SW_TIME_HI.TIME, Sw.TOTAL g, Sw.PART g, Sw.TGT (4 * s.get SW_ADDR.NODE_ACT + c),
            Sw.TGTTAG (4 * s.get SW_ADDR.NODE_ACT + c), SW_TOPO.QVALID, SW_TOPO.QUEEN, SW_CNT2.QUEEN_CHG], swarmRoleFp, endFp 0x98, shareInFp]) s t))
  ∧ (∀ (s : State) (a : Access) (f : SwFrame) (c : Fin 4) (g : Fin 16) (forget : Bool) (wt : BitVec 8) (d total : BitVec 16) (w : BitVec 32),
    (swOn s (bitOf f.west) = true → s.get (swMode (bitOf f.west)) = 0 → isOwn s f.src = false → s.get (Sw.SEQN (f.src.toNat % 64)) = 0 →
      (∃ t, exec (.report (sealed { f with bcast := true, payload := (beBytes 1 1 ++ beBytes 1 (16 * g + 8 * bitOf false + c) ++ [wt] ++ beBytes 2 d.toNat
          ++ beBytes 2 (tagOf 6 d.toInt) : List (BitVec 8)) } 3)) s = .next t
        ∧ t.get (Sw.MEM (4 * (f.src.toNat % 64) + c)) = 0 ∧ Frame (.any [arriveFp f, tagFp 0x98, .fields [Sw.MEM (4 * (f.src.toNat % 64) + c), Sw.WT (4 * (f.src.toNat % 64) + c),
            Sw.DEF (4 * (f.src.toNat % 64) + c), Sw.AGE (4 * (f.src.toNat % 64) + c)]]) s t)
      ∧ ((s.get (Sw.MEM (4 * (f.src.toNat % 64) + c)) ≠ 0 ∨ ((List.range 256).filter (fun k => s.get (Sw.MEM k) != 0)).length < 64) →
        ∃ t, exec (.report (sealed { f with bcast := true, payload := (beBytes 1 1 ++ beBytes 1 (16 * g + 8 * bitOf true + c) ++ [wt] ++ beBytes 2 d.toNat
          ++ beBytes 2 (tagOf 6 d.toInt) : List (BitVec 8)) } 3)) s = .next t
        ∧ t.get (Sw.MEM (4 * (f.src.toNat % 64) + c)) = g + 1 ∧ t.get (Sw.WT (4 * (f.src.toNat % 64) + c)) = wt.toNat ∧ t.get (Sw.AGE (4 * (f.src.toNat % 64) + c)) = 0
        ∧ (s.get TAG_INJ.ARM = 0 → t.get (Sw.DEF (4 * (f.src.toNat % 64) + c)) = d.toNat) ∧ Frame (.any [arriveFp f, tagFp 0x98, .fields [Sw.MEM (4 * (f.src.toNat % 64) + c), Sw.WT (4 * (f.src.toNat % 64) + c),
            Sw.DEF (4 * (f.src.toNat % 64) + c), Sw.AGE (4 * (f.src.toNat % 64) + c)]]) s t)
      ∧ (s.get (Sw.MEM (4 * (f.src.toNat % 64) + c)) = 0 → 64 ≤ ((List.range 256).filter (fun k => s.get (Sw.MEM k) != 0)).length →
        ∃ t, exec (.report (sealed { f with bcast := true, payload := (beBytes 1 1 ++ beBytes 1 (16 * g + 8 * bitOf true + c) ++ [wt] ++ beBytes 2 d.toNat
          ++ beBytes 2 (tagOf 6 d.toInt) : List (BitVec 8)) } 3)) s = .next t
        ∧ t.get (Sw.MEM (4 * (f.src.toNat % 64) + c)) = 0
        ∧ (s.get Sw.ISQ = 1 → muted s 0x98 = false → (t.get (PAGE_FLT_STAT.CAUSE 0x98)).testBit 3 = true) ∧ Frame (.any [arriveFp f, tagFp 0x98, .fields [Sw.MEM (4 * (f.src.toNat % 64) + c), Sw.WT (4 * (f.src.toNat % 64) + c),
            Sw.DEF (4 * (f.src.toNat % 64) + c), Sw.AGE (4 * (f.src.toNat % 64) + c)]]) s t)
      ∧ (s.get Sw.ISQ = 1 →
        ∃ t, exec (.groupSet (sealed { f with bcast := true, payload := (beBytes 1 (128 * bitOf forget + g) ++ beBytes 2 total.toNat ++ [0] : List (BitVec 8)) } 7)) s = .next t ∧ t.get (Sw.TOTAL g) = total.toNat
        ∧ (total.toNat ≠ s.get (Sw.TOTAL g) → (t.get (PAGE_IRQ_STAT.EVT 0x98)).testBit 10 = true)
        ∧ (∀ m : Fin 256, t.get (Sw.MEM m) = (if forget = true ∧ s.get (Sw.MEM m) = g + 1 ∧ memReach s m = false then 0 else s.get (Sw.MEM m)))
        ∧ Frame (.any [arriveFp f, .fields (Sw.TOTAL g :: (List.range 256).map Sw.MEM)]) s t)
      ∧ (s.get Sw.ISQ = 0 →
        ∃ t, exec (.groupSet (sealed { f with bcast := true, payload := (beBytes 1 (128 * bitOf forget + g) ++ beBytes 2 total.toNat ++ [0] : List (BitVec 8)) } 7)) s = .next t ∧ t.get (Sw.TOTAL g) = s.get (Sw.TOTAL g)
        ∧ (∀ m : Fin 256, t.get (Sw.MEM m) = (if forget = true ∧ s.get (Sw.MEM m) = g + 1 ∧ memReach s m = false then 0 else s.get (Sw.MEM m)))
        ∧ Frame (.any [arriveFp f, .fields (Sw.TOTAL g :: (List.range 256).map Sw.MEM)]) s t))
    ∧ ((s.get SW_ADDR.VALID = 0 ∨ inSafeBoot s = true ∨ ∀ k : Fin 4, s.get (SW_MEMB.EN k) = 0) → exec .reportSend s = .next s)
    ∧ (s.get SW_ADDR.VALID = 1 → inSafeBoot s = false → (∃ k : Fin 4, s.get (SW_MEMB.EN k) = 1) →
      ∃ t, exec .reportSend s = .next t
      ∧ t.sent.length = s.sent.length + ([0, 1].filter (swLocal s)).length ∧ t.get Sw.SEQ = (s.get Sw.SEQ + 1) % 256
      ∧ (∀ k : Fin 4, (s.get (SW_MEMB.EN k) ≠ 0 ∧ isMember s k = false) → t.get (Sw.MEM (4 * s.get SW_ADDR.NODE_ACT + k)) = 0)
      ∧ (∀ k : Fin 4, (s.get (SW_MEMB.EN k) ≠ 0 ∧ isMember s k = true ∧ s.get (Sw.MEM (4 * s.get SW_ADDR.NODE_ACT + k)) ≠ 0) →
          t.get (Sw.MEM (4 * s.get SW_ADDR.NODE_ACT + k)) = s.get (SW_MEMB.GROUP k) + 1
          ∧ t.get (Sw.DEF (4 * s.get SW_ADDR.NODE_ACT + k)) = s.get (CMB_SHARE.DEFICIT k))
      ∧ Frame (.any [.fields (Sw.SEQ :: (List.range 4).flatMap (fun k => [Sw.MEM (4 * s.get SW_ADDR.NODE_ACT + k), Sw.WT (4 * s.get SW_ADDR.NODE_ACT + k),
          Sw.DEF (4 * s.get SW_ADDR.NODE_ACT + k), Sw.AGE (4 * s.get SW_ADDR.NODE_ACT + k)])), .parts [.sent], raiseFp 0x98]) s t)
    ∧ (served s = true → keeperView s a = true → s.get (PAGE_LOCK.CFG 0x98) = 0 → (BitVec.ofNat 16 w.toNat).toInt.natAbs ≤ w.toNat / 65536 →
      ∃ t, exec (.groupTotalWrite a w) s = .next t ∧ t.get (Sw.CEIL (s.get SW_GRP_SEL.GROUP)) = w.toNat / 65536
      ∧ t.get (Sw.REQT (s.get SW_GRP_SEL.GROUP)) = w.toNat % 65536
      ∧ (s.get SW_ADDR.VALID = 1 → s.get Sw.ISQ = 1 → t.get (Sw.TOTAL (s.get SW_GRP_SEL.GROUP)) = w.toNat % 65536)
      ∧ (s.get SW_ADDR.VALID = 1 →
          t.sent = s.sent ++ ([0, 1].filter (swLocal s)).map (fun p => frameOn p (frameBytes 7 false true (s.get SW_ADDR.SEG * 64) (ownAddr s) 255
            (s.get Sw.SEQ) (beBytes 1 (s.get SW_GRP_SEL.GROUP) ++ beBytes 2 (w.toNat % 65536)))))
      ∧ (s.get SW_ADDR.VALID = 0 → t.sent = s.sent)
      ∧ Frame (.any [accessFp a 0x98, .fields [Sw.CEIL (s.get SW_GRP_SEL.GROUP), Sw.REQT (s.get SW_GRP_SEL.GROUP), Sw.TOTAL (s.get SW_GRP_SEL.GROUP),
          SW_GRP_TOTAL.CEIL, SW_GRP_TOTAL.TOTAL, Sw.SEQ, PAGE_IRQ_STAT.EVT 0x98], .parts [.sent]]) s t)
    ∧ (served s = true → (keeperView s a = false ∨ s.get (PAGE_LOCK.CFG 0x98) = 1) → (BitVec.ofNat 16 w.toNat).toInt.natAbs ≤ s.get (Sw.CEIL (s.get SW_GRP_SEL.GROUP)) →
      ∃ t, exec (.groupTotalWrite a w) s = .next t ∧ t.get (Sw.REQT (s.get SW_GRP_SEL.GROUP)) = w.toNat % 65536
      ∧ t.get (Sw.CEIL (s.get SW_GRP_SEL.GROUP)) = s.get (Sw.CEIL (s.get SW_GRP_SEL.GROUP))
      ∧ (s.get SW_ADDR.VALID = 1 → s.get Sw.ISQ = 1 → t.get (Sw.TOTAL (s.get SW_GRP_SEL.GROUP)) = w.toNat % 65536)
      ∧ (s.get SW_ADDR.VALID = 1 →
          t.sent = s.sent ++ ([0, 1].filter (swLocal s)).map (fun p => frameOn p (frameBytes 7 false true (s.get SW_ADDR.SEG * 64) (ownAddr s) 255
            (s.get Sw.SEQ) (beBytes 1 (s.get SW_GRP_SEL.GROUP) ++ beBytes 2 (w.toNat % 65536)))))
      ∧ (s.get SW_ADDR.VALID = 0 → t.sent = s.sent)
      ∧ Frame (.any [accessFp a 0x98, .fields [Sw.CEIL (s.get SW_GRP_SEL.GROUP), Sw.REQT (s.get SW_GRP_SEL.GROUP), Sw.TOTAL (s.get SW_GRP_SEL.GROUP),
          SW_GRP_TOTAL.CEIL, SW_GRP_TOTAL.TOTAL, Sw.SEQ, PAGE_IRQ_STAT.EVT 0x98], .parts [.sent]]) s t)
    ∧ (served s = true → keeperView s a = true → s.get (PAGE_LOCK.CFG 0x98) = 0 → w.toNat / 65536 < (BitVec.ofNat 16 w.toNat).toInt.natAbs → w.toNat % 65536 ≠ s.get (Sw.REQT (s.get SW_GRP_SEL.GROUP)) →
      ∃ t, exec (.groupTotalWrite a w) s = .next t ∧ t.get (Last.CODE (pathNum a.path)) = 3 ∧ t.get (PAGE_STAT.REFUSE_WHY 0x98) = 3
      ∧ t.get (Sw.REQT (s.get SW_GRP_SEL.GROUP)) = s.get (Sw.REQT (s.get SW_GRP_SEL.GROUP)) ∧ t.sent = s.sent ∧ t.get (Sw.CEIL (s.get SW_GRP_SEL.GROUP)) = w.toNat / 65536
      ∧ Frame (.any [accessFp a 0x98, .fields [Sw.CEIL (s.get SW_GRP_SEL.GROUP), Sw.REQT (s.get SW_GRP_SEL.GROUP), Sw.TOTAL (s.get SW_GRP_SEL.GROUP),
          SW_GRP_TOTAL.CEIL, SW_GRP_TOTAL.TOTAL, Sw.SEQ, PAGE_IRQ_STAT.EVT 0x98], .parts [.sent]]) s t)
    ∧ (served s = true → (keeperView s a = false ∨ s.get (PAGE_LOCK.CFG 0x98) = 1) → s.get (Sw.CEIL (s.get SW_GRP_SEL.GROUP)) < (BitVec.ofNat 16 w.toNat).toInt.natAbs → w.toNat % 65536 ≠ s.get (Sw.REQT (s.get SW_GRP_SEL.GROUP)) →
      ∃ t, exec (.groupTotalWrite a w) s = .next t ∧ t.get (Sw.REQT (s.get SW_GRP_SEL.GROUP)) = s.get (Sw.REQT (s.get SW_GRP_SEL.GROUP)) ∧ t.sent = s.sent
      ∧ t.get (Sw.CEIL (s.get SW_GRP_SEL.GROUP)) = s.get (Sw.CEIL (s.get SW_GRP_SEL.GROUP))
      ∧ Frame (.any [accessFp a 0x98, .fields [Sw.CEIL (s.get SW_GRP_SEL.GROUP), Sw.REQT (s.get SW_GRP_SEL.GROUP), Sw.TOTAL (s.get SW_GRP_SEL.GROUP),
          SW_GRP_TOTAL.CEIL, SW_GRP_TOTAL.TOTAL, Sw.SEQ, PAGE_IRQ_STAT.EVT 0x98], .parts [.sent]]) s t)
    ∧ (served s = true → w.toNat.testBit 8 = false →
      ∃ t, exec (.forget a w) s = .next t ∧ t.get SW_GRP_SEL.GROUP = w.toNat % 16
      ∧ Frame (.any [accessFp a 0x98, .fields [SW_GRP_SEL.GROUP]]) s t)
    ∧ (served s = true → w.toNat.testBit 8 = true → s.get SW_ADDR.VALID = 1 →
      ∃ t, exec (.forget a w) s = .next t ∧ t.get SW_GRP_SEL.GROUP = w.toNat % 16
      ∧ t.sent = s.sent ++ ([0, 1].filter (swLocal s)).map (fun p => frameOn p (frameBytes 7 false true (s.get SW_ADDR.SEG * 64) (ownAddr s) 255
          (s.get Sw.SEQ) (beBytes 1 (128 + w.toNat % 16) ++ beBytes 2 (s.get (Sw.TOTAL (w.toNat % 16))))))
      ∧ (∀ m : Fin 256, t.get (Sw.MEM m) = (if s.get (Sw.MEM m) = w.toNat % 16 + 1 ∧ memReach s m = false then 0 else s.get (Sw.MEM m)))
      ∧ Frame (.any [accessFp a 0x98, .fields (SW_GRP_SEL.GROUP :: Sw.SEQ :: (List.range 256).map Sw.MEM), .parts [.sent]]) s t)
    ∧ (served s = true →
      ∃ t, exec (.forget a w) s = .next t ∧ t.get SW_GRP_SEL.GROUP = w.toNat % 16 ∧ Frame (.any [accessFp a 0x98, .fields (SW_GRP_SEL.GROUP :: Sw.SEQ :: (List.range 256).map Sw.MEM), .parts [.sent]]) s t))

/-- R59, R83, R88, R454 to R456: a REQ is performed on the target's Swarm path and answered with RSP; RESET performs the
reset only for the bound node, with KEEPER and its payload. A read of R97 starts with the holders cleared. R454: remote words
at the originating device: REQ sent, RSP folded in, and failures. -/
def Obligations.RemoteAccess : Prop :=
  (∀ (s : State) (a : Access) (f : SwFrame) (addr : BitVec 20) (op : BitVec 8) (w : BitVec 32),
    (swOn s (bitOf f.west) = true → s.get SW_ADDR.VALID = 1 →
      -- a REQ that a check refuses
      ((op.toNat % 128 = 0 ∨ 5 < op.toNat % 128) →
        ∃ t, exec (.req (sealed { f with bcast := false, dst := BitVec.ofNat 16 (ownAddr s), payload := (beBytes 1 op.toNat ++ beBytes 3 addr.toNat ++ [0] : List (BitVec 8)) } 4)) s = .next t
        ∧ t.sent = s.sent ++ (swRoutes s 2 f.src.toNat).map (fun p => frameOn p (frameBytes 5 false false f.src.toNat (ownAddr s) 255 (s.get Sw.SEQ) (beBytes 2 0x6000)))
        ∧ Frame (.any [.fields [swLock (bitOf f.west), Sw.SEQ, Cap.ON 3, SW_CNT1.NO_ROUTE], .parts [.sent, .readHold 3, .writeHold 3], raiseFp 0x98]) s t)
      -- one word is read, and one is written
      ∧ (op.toNat % 128 = 3 → addr.toNat % 4 = 0 → (remoteRead s f addr.toNat).1.get Boot.HELD = 0 →
        ∃ t, exec (.req (sealed { f with bcast := false, dst := BitVec.ofNat 16 (ownAddr s), payload := (beBytes 1 op.toNat ++ beBytes 3 addr.toNat ++ [0] : List (BitVec 8)) } 4)) s = .next t
        ∧ t.sent = (remoteRead s f addr.toNat).1.sent ++ (swRoutes (remoteRead s f addr.toNat).1 2 f.src.toNat).map (fun p => frameOn p
            (frameBytes 5 false false f.src.toNat (ownAddr (remoteRead s f addr.toNat).1) 255 ((remoteRead s f addr.toNat).1.get Sw.SEQ)
              (beBytes 2 ((remoteRead s f addr.toNat).2.2.2 * 4096) ++ beBytes 4 (remoteRead s f addr.toNat).2.1 ++ beBytes 2 (remoteRead s f addr.toNat).2.2.1)))
        ∧ Frame (.any [.fields [Sw.SEQ, SW_CNT1.NO_ROUTE], .parts [.sent], raiseFp 0x98]) (remoteRead s f addr.toNat).1 t)
      ∧ (addr.toNat % 4 = 0 → (remoteWrite s f addr.toNat w.toNat).1.get Boot.HELD = 0 →
        ∃ t, exec (.req (sealed { f with bcast := false, dst := BitVec.ofNat 16 (ownAddr s), payload := (beBytes 1 4 ++ beBytes 3 addr.toNat ++ [0] ++ beBytes 4 w.toNat : List (BitVec 8)) } 4)) s = .next t
        ∧ t.sent = (remoteWrite s f addr.toNat w.toNat).1.sent ++ (swRoutes (remoteWrite s f addr.toNat w.toNat).1 2 f.src.toNat).map (fun p => frameOn p
            (frameBytes 5 false false f.src.toNat (ownAddr (remoteWrite s f addr.toNat w.toNat).1) 255 ((remoteWrite s f addr.toNat w.toNat).1.get Sw.SEQ)
              (beBytes 2 ((remoteWrite s f addr.toNat w.toNat).2 * 4096))))
        ∧ Frame (.any [.fields [Sw.SEQ, SW_CNT1.NO_ROUTE], .parts [.sent], raiseFp 0x98]) (remoteWrite s f addr.toNat w.toNat).1 t)
      ∧ (f.keeper = true → sessionOpen s .swarm f.src = true →
        ∃ t, exec (.resetFrame (sealed { f with bcast := false, dst := BitVec.ofNat 16 (ownAddr s), payload := [0x5E, 0x7A, 0, 0] } 6)) s = .next t ∧ WarmReset s t 6)
      ∧ ((f.keeper = false ∨ sessionOpen s .swarm f.src = false) →
        ∃ t, exec (.resetFrame (sealed { f with bcast := false, dst := BitVec.ofNat 16 (ownAddr s), payload := [0x5E, 0x7A, 0, 0] } 6)) s = .next t ∧ Frame (.fields [swLock (bitOf f.west)]) s t)
      ∧ (∃ t, exec (.resetFrame (sealed { f with bcast := false, dst := BitVec.ofNat 16 (ownAddr s), payload := [0x5E, 0x7B, 0, 0] } 6)) s = .next t
        ∧ Frame (.fields [swLock (bitOf f.west)]) s t))
    ∧ (served s = true → (keeperView s a = false ∨ s.get (PAGE_LOCK.CFG 0x98) = 1) →
      ∃ t, exec (.resetCommand a w) s = .next t ∧ t.sent = s.sent ∧ t.get SW_CMD.TGT = s.get SW_CMD.TGT ∧ Frame (.any [accessFp a 0x98, .fields [SW_CMD.TGT, Sw.SEQ, SW_CNT1.NO_ROUTE], .parts [.sent], raiseFp 0x98]) s t)
    ∧ (served s = true → keeperView s a = true → s.get (PAGE_LOCK.CFG 0x98) = 0 → w.toNat % 16 ≠ 1 →
      ∃ t, exec (.resetCommand a w) s = .next t ∧ t.get SW_CMD.TGT = w.toNat / 65536 ∧ t.sent = s.sent ∧ Frame (.any [accessFp a 0x98, .fields [SW_CMD.TGT, Sw.SEQ, SW_CNT1.NO_ROUTE], .parts [.sent], raiseFp 0x98]) s t)
    ∧ (served s = true → keeperView s a = true → s.get (PAGE_LOCK.CFG 0x98) = 0 → w.toNat % 16 = 1 → s.get SW_ADDR.VALID = 1 →
      ∃ t, exec (.resetCommand a w) s = .next t
      ∧ t.sent = s.sent ++ (swRoutes s 2 (w.toNat / 65536)).map (fun p => frameOn p (frameBytes 6 true false (w.toNat / 65536) (ownAddr s) 255
          (s.get Sw.SEQ) (beBytes 2 0x5E7A)))
      ∧ t.get SW_CMD.TGT = w.toNat / 65536 ∧ Frame (.any [accessFp a 0x98, .fields [SW_CMD.TGT, Sw.SEQ, SW_CNT1.NO_ROUTE], .parts [.sent], raiseFp 0x98]) s t))
  ∧ (∀ (s : State) (a : Access) (f : SwFrame) (p : Fin 3) (j : Job) (addr : BitVec 20) (len : Fin 20) (v : BitVec 32) (tag : BitVec 16) (code : Fin 5),
    -- no valid address, or no route: every word fails at once
    (served s = true → a.path ≠ .swarm → (s.jobs[pathNum a.path] = none) → addr.toNat % 4 = 0 → addr.toNat + 4 * len.val < 0x100000 →
        (s.get SW_ADDR.VALID = 0 ∨ s.get SW_RMT.TGT = ownAddr s ∨ (swRoutes s 2 (s.get SW_RMT.TGT)).isEmpty = true) →
      ∃ t, exec (.remoteAccess a addr (BitVec.ofNat 8 len) none) s = .next t
        ∧ t.sent = s.sent ∧ t.jobs[pathNum a.path] = none
        ∧ t.get SW_RMT_STAT.REASON = (if s.get SW_ADDR.VALID = 0 then 3 else 2)
        ∧ t.get SW_RMT_STAT.ERRS = min 65535 (s.get SW_RMT_STAT.ERRS + len.val + 1)
        ∧ (t.get (PAGE_IRQ_STAT.EVT 0x98)).testBit 8 = true
        ∧ t.get (Last.DATA (pathNum a.path)) = 0 ∧ t.get (Last.TAG (pathNum a.path)) = 0 ∧ t.get (Last.CODE (pathNum a.path)) = 4
        ∧ t.get (PAGE_STAT.REFUSED 0x98) = 1 ∧ t.get (PAGE_STAT.REFUSE_WHY 0x98) = 1
        ∧ Frame (.any [accessFp a 0x98, .fields [Last.DATA (pathNum a.path), Last.TAG (pathNum a.path), Pin.HRDY, SW_RMT_STAT.REASON, SW_RMT_STAT.ERRS,
            PAGE_IRQ_STAT.EVT 0x98, Sw.SEQ, Sw.STAMP], .parts [.sent, .jobs (pathNum a.path)]]) s t)
    -- the REQ is sent, and the frame waits
    ∧ (served s = true → a.path ≠ .swarm → (s.jobs[pathNum a.path] = none) → addr.toNat % 4 = 0 → addr.toNat + 4 * len.val < 0x100000 →
        s.get SW_ADDR.VALID = 1 → s.get SW_RMT.TGT ≠ ownAddr s → (swRoutes s 2 (s.get SW_RMT.TGT)).isEmpty = false →
      ∃ t, exec (.remoteAccess a addr (BitVec.ofNat 8 len) none) s = .next t
        ∧ t.sent = s.sent ++ (swRoutes s 2 (s.get SW_RMT.TGT)).map (fun q => frameOn q (frameBytes 4 (keeperView s a) false (s.get SW_RMT.TGT) (ownAddr s) 255
          (s.get Sw.SEQ) (requestBytes (1 + 128 * bitOf (keeperView s a)) addr.toNat (min 11 (len.val + 1) - 1) [])))
        ∧ t.jobs[pathNum a.path].map (fun q => (q.wait, q.target, q.left, q.kind)) = some (min 11 (len.val + 1), s.get SW_RMT.TGT, len.val + 1, 2)
        ∧ t.get SW_RMT_STAT.ERRS = s.get SW_RMT_STAT.ERRS
        ∧ Frame (.any [accessFp a 0x98, .fields [Last.DATA (pathNum a.path), Last.TAG (pathNum a.path), Pin.HRDY, SW_RMT_STAT.REASON, SW_RMT_STAT.ERRS,
            PAGE_IRQ_STAT.EVT 0x98, Sw.SEQ, Sw.STAMP], .parts [.sent, .jobs (pathNum a.path)]]) s t)
    -- the last word's RSP
    ∧ (swOn s (bitOf f.west) = true → s.get SW_ADDR.VALID = 1 → isOwn s f.src = false →
      s.jobs[p.castSucc] = some { j with kind := 2, wait := 1, left := 1, quota := 1, write := false, target := f.src.toNat } →
      (∀ q : Fin 4, q ≠ p.castSucc → s.jobs[q] = none) → s.canq[0] = [] → s.canq[1] = [] → s.get Boot.HELD = 0 →
      ∃ t, exec (.rsp (sealed { f with bcast := false, dst := BitVec.ofNat 16 (ownAddr s), payload := (beBytes 2 (code * 4096) ++ beBytes 4 v.toNat ++ beBytes 2 tag.toNat : List (BitVec 8)) } 5)) s = .next t
        ∧ t.jobs[p.castSucc] = none ∧ t.get (Last.DATA p) = v.toNat ∧ t.get (Last.TAG p) = tag.toNat
        ∧ (j.code = 0 → t.get (Last.CODE p) = code.val)
        ∧ (code ≠ 0 → t.get (PAGE_STAT.REFUSED 0x98) = 1 ∧ t.get (PAGE_STAT.REFUSE_WHY 0x98) = (if code = 4 then 1 else code.val))
        ∧ Frame (.any [.fields [swLock (bitOf f.west), Last.DATA p, Last.TAG p, Last.CODE p, Pin.HRDY, PAGE_STAT.REFUSED 0x98, PAGE_STAT.REFUSE_WHY 0x98],
            .parts [.jobs p.castSucc]]) s t)
    ∧ ((s.jobs[p.castSucc] = none ∨ s.jobs[p.castSucc] = some { j with wait := 0 }) →
      exec (.remoteTimeout (if p = 0 then .host else if p = 1 then .can0 else .can1)) s = .next s)
    ∧ (s.jobs[p.castSucc] = some { j with kind := 2, wait := len.val + 1, left := len.val + 1, quota := len.val + 1, write := false } →
        s.canq[0] = [] → s.canq[1] = [] → s.get Boot.HELD = 0 →
      ∃ t, exec (.remoteTimeout (if p = 0 then .host else if p = 1 then .can0 else .can1)) s = .next t
      ∧ t.jobs[p.castSucc] = none ∧ t.get SW_RMT_STAT.REASON = 1 ∧ t.get SW_RMT_STAT.ERRS = min 65535 (s.get SW_RMT_STAT.ERRS + len.val + 1)
      ∧ t.get (Last.DATA p) = 0 ∧ t.get (Last.TAG p) = 0 ∧ (j.code = 0 → t.get (Last.CODE p) = 4)
      ∧ (t.get (PAGE_IRQ_STAT.EVT 0x98)).testBit 8 = true
      ∧ Frame (.any [.fields [Last.DATA p, Last.TAG p, Last.CODE p, Pin.HRDY, PAGE_STAT.REFUSED 0x98, PAGE_STAT.REFUSE_WHY 0x98,
          SW_RMT_STAT.REASON, SW_RMT_STAT.ERRS, PAGE_IRQ_STAT.EVT 0x98], .parts [.jobs p.castSucc]]) s t))

/-- R462, R466 to R469, R473: the commands of `TBL_CMD`, when each is refused, and what each leaves when it is done. R465,
R466: the loader opens, checks the first word in the order of its rule, writes, and ends as DONE or OVERRUN. -/
def Obligations.TableCommandsAndLoads : Prop :=
  (∀ (s : State) (a : Access),
    (served s = true → keeperView s a = true → s.get (PAGE_LOCK.CFG 0x90) = 0 →
      (s.get Tbl.RUN ≠ 0 →
        ∃ t, exec (.copy a) s = .next t ∧ t.get TBL_BANK.RESULT = 2 ∧ t.get TBL_BANK.WHY = 4 ∧ t.get Tbl.RUN = s.get Tbl.RUN
        ∧ t.get TBL_BANK.INACT = s.get TBL_BANK.INACT
        ∧ Frame (.any [tableFp, accessFp a 0x90]) s t)
      ∧ (s.get Tbl.RUN = 0 → s.get TBL_BANK.INACT = 6 →
        ∃ t, exec (.copy a) s = .next t ∧ t.get TBL_BANK.RESULT = 2 ∧ t.get TBL_BANK.WHY = 5 ∧ t.get Tbl.RUN = s.get Tbl.RUN
        ∧ t.get TBL_BANK.INACT = s.get TBL_BANK.INACT
        ∧ Frame (.any [tableFp, accessFp a 0x90]) s t)
      ∧ (s.get Tbl.RUN = 0 → s.get TBL_BANK.INACT ≠ 6 →
        ∃ t, exec (.copy a) s = .next t ∧ t.get Tbl.RUN = 1 ∧ t.get TBL_BANK.INACT = 1
        ∧ Frame (.any [tableFp, accessFp a 0x90]) s t)
      ∧ (s.get Tbl.RUN ≠ 0 →
        ∃ t, exec (.erase a) s = .next t ∧ t.get TBL_BANK.RESULT = 2 ∧ t.get TBL_BANK.WHY = 4 ∧ t.get Tbl.RUN = s.get Tbl.RUN
        ∧ t.get TBL_BANK.INACT = s.get TBL_BANK.INACT
        ∧ Frame (.any [tableFp, accessFp a 0x90]) s t)
      ∧ (s.get Tbl.RUN = 0 → s.get TBL_BANK.INACT = 6 →
        ∃ t, exec (.erase a) s = .next t ∧ t.get TBL_BANK.RESULT = 2 ∧ t.get TBL_BANK.WHY = 5 ∧ t.get Tbl.RUN = s.get Tbl.RUN
        ∧ t.get TBL_BANK.INACT = s.get TBL_BANK.INACT
        ∧ Frame (.any [tableFp, accessFp a 0x90]) s t)
      ∧ (s.get Tbl.RUN = 0 → s.get TBL_BANK.INACT ≠ 6 →
        ∃ t, exec (.erase a) s = .next t ∧ t.get Tbl.RUN = 5
        ∧ Frame (.any [tableFp, accessFp a 0x90]) s t)
      ∧ (s.get Tbl.RUN ≠ 0 →
        ∃ t, exec (.verify a) s = .next t ∧ t.get TBL_BANK.RESULT = 2 ∧ t.get TBL_BANK.WHY = 4 ∧ t.get Tbl.RUN = s.get Tbl.RUN
        ∧ t.get TBL_BANK.INACT = s.get TBL_BANK.INACT
        ∧ Frame (.any [tableFp, accessFp a 0x90]) s t)
      ∧ (s.get Tbl.RUN = 0 → s.get TBL_BANK.INACT = 6 →
        ∃ t, exec (.verify a) s = .next t ∧ t.get TBL_BANK.RESULT = 2 ∧ t.get TBL_BANK.WHY = 5 ∧ t.get Tbl.RUN = s.get Tbl.RUN
        ∧ t.get TBL_BANK.INACT = s.get TBL_BANK.INACT
        ∧ Frame (.any [tableFp, accessFp a 0x90]) s t)
      ∧ (s.get Tbl.RUN = 0 → s.get TBL_BANK.INACT ≠ 6 →
        ∃ t, exec (.verify a) s = .next t ∧ t.get Tbl.RUN = 2 ∧ t.get TBL_BANK.INACT = 2 ∧ t.get TBL_VER_STAT.RESULT = 2
        ∧ Frame (.any [tableFp, accessFp a 0x90]) s t)
      ∧ (s.get Tbl.RUN = 0 → s.get TBL_BANK.INACT = 3 → inFull s = true →
        ∃ t, exec (.commit a) s = .next t ∧ t.get Tbl.RUN = 3 ∧ t.get TBL_BANK.INACT = 5
        ∧ Frame (.any [tableFp, accessFp a 0x90]) s t)
      ∧ (s.get Tbl.RUN ≠ 0 →
        ∃ t, exec (.commit a) s = .next t ∧ t.get TBL_BANK.RESULT = 2 ∧ t.get TBL_BANK.WHY = 4 ∧ t.get Tbl.RUN = s.get Tbl.RUN
        ∧ t.get TBL_BANK.INACT = s.get TBL_BANK.INACT
        ∧ Frame (.any [tableFp, accessFp a 0x90]) s t)
      ∧ (s.get Tbl.RUN = 0 → s.get TBL_BANK.INACT = 6 →
        ∃ t, exec (.commit a) s = .next t ∧ t.get TBL_BANK.RESULT = 2 ∧ t.get TBL_BANK.WHY = 5 ∧ t.get Tbl.RUN = s.get Tbl.RUN
        ∧ t.get TBL_BANK.INACT = s.get TBL_BANK.INACT
        ∧ Frame (.any [tableFp, accessFp a 0x90]) s t)
      ∧ (s.get Tbl.RUN = 0 → s.get TBL_BANK.INACT ≠ 6 → inFull s = false →
        ∃ t, exec (.commit a) s = .next t ∧ t.get TBL_BANK.RESULT = 2 ∧ t.get TBL_BANK.WHY = 2 ∧ t.get Tbl.RUN = s.get Tbl.RUN
        ∧ t.get TBL_BANK.INACT = s.get TBL_BANK.INACT
        ∧ Frame (.any [tableFp, accessFp a 0x90]) s t)
      ∧ (s.get Tbl.RUN = 0 → s.get TBL_BANK.INACT ≠ 6 → s.get TBL_BANK.INACT ≠ 3 → inFull s = true →
        ∃ t, exec (.commit a) s = .next t ∧ t.get TBL_BANK.RESULT = 2 ∧ t.get TBL_BANK.WHY = 1 ∧ t.get Tbl.RUN = s.get Tbl.RUN
        ∧ t.get TBL_BANK.INACT = s.get TBL_BANK.INACT
        ∧ Frame (.any [tableFp, accessFp a 0x90]) s t)
      ∧ (s.get Tbl.RUN = 0 →
        ∃ t, exec (.imgCheck a) s = .next t ∧ t.get Tbl.RUN = 4 ∧ t.get Tbl.SLOT = 1 - s.get HIVE_BOOT_STAT.IMG
        ∧ Frame (.any [tableFp, .fields [Tbl.SLOT], accessFp a 0x90]) s t)
      ∧ (s.get Tbl.RUN ≠ 0 →
        ∃ t, exec (.imgCheck a) s = .next t ∧ t.get TBL_BANK.RESULT = 2 ∧ t.get TBL_BANK.WHY = 4 ∧ t.get Tbl.RUN = s.get Tbl.RUN
        ∧ Frame (.any [tableFp, .fields [Tbl.SLOT], accessFp a 0x90]) s t))
    -- a locked page and the Worker view
    ∧ (served s = true → keeperView s a = true → s.get (PAGE_LOCK.CFG 0x90) = 1 →
      ∃ t, exec (.commit a) s = .next t ∧ t.get TBL_BANK.RESULT = 2 ∧ t.get TBL_BANK.WHY = 3 ∧ t.get (Last.CODE (pathNum a.path)) = 2
        ∧ Frame (.any [.fields [TBL_BANK.RESULT, TBL_BANK.WHY], accessFp a 0x90]) s t)
    ∧ (served s = true → keeperView s a = false → s.get TBL_CMD.OP = 0 → ∃ t, exec (.commit a) s = .next t ∧ t.get (Last.CODE (pathNum a.path)) = 1
        ∧ Frame (accessFp a 0x90) s t)
    ∧ (s.get Tbl.RUN = 1 → ∃ t, exec .copyDone s = .next t ∧ t.get Tbl.RUN = 0 ∧ t.get TBL_BANK.RESULT = 1
      ∧ (∀ b : Nat, bankBase (s.get TBL_BANK.ACTIVE) ≤ b → b < bankBase (s.get TBL_BANK.ACTIVE) + 0x80000 →
          t.byte (b - bankBase (s.get TBL_BANK.ACTIVE) + bankBase (1 - s.get TBL_BANK.ACTIVE)) = s.byte b)
      ∧ Frame (.any [tableFp, bankFp (1 - s.get TBL_BANK.ACTIVE), eccReadFp]) s t)
    ∧ (s.get Tbl.RUN = 5 → ∃ t, exec .eraseDone s = .next t ∧ t.get Tbl.RUN = 0 ∧ t.get TBL_BANK.RESULT = 1 ∧ t.get TBL_BANK.INACT = 0
      ∧ (∀ b : Nat, bankBase (1 - s.get TBL_BANK.ACTIVE) ≤ b → b < bankBase (1 - s.get TBL_BANK.ACTIVE) + 0x80000 → t.byte b = 0)
      ∧ Frame (.any [tableFp, bankFp (1 - s.get TBL_BANK.ACTIVE)]) s t)
    ∧ (s.get Tbl.RUN = 2 → verifyFailure s (1 - s.get TBL_BANK.ACTIVE) = none →
      ∃ t, exec .verifyDone s = .next t
      ∧ t.get TBL_BANK.INACT = 3 ∧ t.get TBL_VER_STAT.RESULT = 1 ∧ t.get TBL_BANK.RESULT = 1 ∧ t.get Tbl.RUN = 0
      ∧ (t.get (PAGE_IRQ_STAT.EVT 0x90)).testBit 2 = true ∧ Frame (.any [tableFp, eccReadFp, raiseFp 0x90]) s t)
    ∧ (s.get Tbl.RUN = 2 → s.leNat (bankBase (1 - s.get TBL_BANK.ACTIVE)) 2 ≠ 1 →
      ∃ t, exec .verifyDone s = .next t
      ∧ t.get TBL_BANK.INACT = 4 ∧ t.get TBL_VER_STAT.RESULT = 3 ∧ t.get TBL_BANK.RESULT = 3
      ∧ t.get TBL_VER_STAT.WHY = 1 ∧ t.get TBL_VER_STAT.ENTRY = 0xFF
      ∧ (muted s 0x90 = false → (t.get (PAGE_FLT_STAT.CAUSE 0x90)).testBit 0 = true) ∧ Frame (.any [tableFp, eccReadFp, raiseFp 0x90]) s t)
    ∧ (s.get Tbl.RUN = 2 → verifyFailure s (1 - s.get TBL_BANK.ACTIVE) ≠ none →
      ∃ t, exec .verifyDone s = .next t ∧ t.get TBL_BANK.INACT = 4 ∧ t.get Tbl.RUN = 0
      ∧ (t.get (PAGE_IRQ_STAT.EVT 0x90)).testBit 2 = true ∧ Frame (.any [tableFp, eccReadFp, raiseFp 0x90]) s t)
    ∧ (s.get Tbl.RUN = 4 → ∃ t, exec .imgCheckDone s = .next t ∧ t.get Tbl.RUN = 0 ∧ t.get TBL_IMG_STAT.SLOT = s.get Tbl.SLOT
      ∧ t.get TBL_IMG_STAT.RESULT = (if imageValid s (s.get Tbl.SLOT) then 1 else 2)
      ∧ (s.leNat (slotBase (s.get Tbl.SLOT)) 4 ≠ 0x53429648 → t.get TBL_IMG_STAT.RESULT = 2)
      ∧ Frame (.any [tableFp, .fields [TBL_IMG_STAT.RESULT, TBL_IMG_STAT.SLOT], eccReadFp]) s t))
  ∧ (∀ (s : State) (a : Access) (w : BitVec 32) (len : BitVec 16),
    served s = true → keeperView s a = true → s.get (PAGE_LOCK.CFG 0x90) = 0 →
    (w.getLsbD 31 = true →
      ∃ t, exec (.loadStart a w) s = .next t ∧ t.get TBL_LD_STAT.CODE = 1 ∧ t.get TBL_LD_STAT.WORDS = 0
      ∧ t.get TBL_LD_CTL.TTYPE = w.toNat % 65536 ∧ t.get TBL_LD_CTL.INDEX = w.toNat / 65536 % 256 ∧ Frame (.any [.fields [TBL_LD_CTL.TTYPE, TBL_LD_CTL.INDEX, TBL_LD_STAT.CODE, TBL_LD_STAT.WORDS], accessFp a 0x90]) s t)
    ∧ (w.getLsbD 31 = false →
      ∃ t, exec (.loadStart a w) s = .next t ∧ t.get TBL_LD_CTL.TTYPE = w.toNat % 65536
      ∧ t.get TBL_LD_CTL.INDEX = w.toNat / 65536 % 256
      ∧ Frame (.any [.fields [TBL_LD_CTL.TTYPE, TBL_LD_CTL.INDEX], accessFp a 0x90]) s t)
    -- the first word
    ∧ (s.get TBL_LD_STAT.CODE = 1 → s.get TBL_LD_STAT.WORDS = 0 → (s.get TBL_BANK.INACT = 2 ∨ s.get TBL_BANK.INACT = 5 ∨ s.get TBL_BANK.INACT = 6) →
      ∃ t, exec (.loadData a w) s = .next t ∧ t.get TBL_LD_STAT.CODE = 6 ∧ (t.get (PAGE_IRQ_STAT.EVT 0x90)).testBit 1 = true
      ∧ (muted s 0x90 = false → (t.get (PAGE_FLT_STAT.CAUSE 0x90)).testBit 1 = true))
    ∧ (s.get TBL_LD_STAT.CODE = 1 → s.get TBL_LD_STAT.WORDS = 0 → s.get TBL_BANK.INACT ≠ 2 → s.get TBL_BANK.INACT ≠ 5 → s.get TBL_BANK.INACT ≠ 6 → s.get TBL_LD_CTL.TTYPE ≠ 1 →
        findEntry s (1 - s.get TBL_BANK.ACTIVE) (s.get TBL_LD_CTL.TTYPE) (s.get TBL_LD_CTL.INDEX) = none →
      ∃ t, exec (.loadData a w) s = .next t ∧ t.get TBL_LD_STAT.CODE = 4)
    ∧ (s.get TBL_LD_STAT.CODE = 1 → s.get TBL_LD_STAT.WORDS = 0 → s.get TBL_BANK.INACT ≠ 2 → s.get TBL_BANK.INACT ≠ 5 → s.get TBL_BANK.INACT ≠ 6 → s.get TBL_LD_CTL.TTYPE = 1 → w.toNat % 65536 ≠ 1 →
      ∃ t, exec (.loadData a w) s = .next t ∧ t.get TBL_LD_STAT.CODE = 5)
    ∧ (s.get TBL_LD_STAT.CODE = 1 → s.get TBL_LD_STAT.WORDS = 0 → s.get TBL_BANK.INACT ≠ 2 → s.get TBL_BANK.INACT ≠ 5 → s.get TBL_BANK.INACT ≠ 6 → s.get TBL_LD_CTL.TTYPE = 1 → 0x1000 < len.toNat →
      ∃ t, exec (.loadData a (BitVec.ofNat 32 (len.toNat * 65536 + 1))) s = .next t ∧ t.get TBL_LD_STAT.CODE = 3)
    ∧ (s.get TBL_LD_STAT.CODE = 1 → s.get TBL_LD_STAT.WORDS = 0 → s.get TBL_BANK.INACT ≠ 2 → s.get TBL_BANK.INACT ≠ 5 → s.get TBL_BANK.INACT ≠ 6 → s.get TBL_LD_CTL.TTYPE = 1 → 0 < len.toNat → len.toNat ≤ 0x1000 →
      ∃ t, exec (.loadData a (BitVec.ofNat 32 (len.toNat * 65536 + 1))) s = .next t
      ∧ t.get TBL_LD_STAT.WORDS = 1 ∧ t.get TBL_BANK.INACT = 1
      ∧ t.word (bankBase (1 - s.get TBL_BANK.ACTIVE)) = len.toNat * 65536 + 1
      ∧ t.get TBL_LD_STAT.CODE = (if len.toNat ≤ 4 then 2 else 1))
    -- a further word
    ∧ (s.get TBL_LD_STAT.CODE = 1 → s.get TBL_LD_STAT.WORDS ≠ 0 → s.get TBL_BANK.INACT ≠ 2 → s.get TBL_BANK.INACT ≠ 5 → s.get TBL_BANK.INACT ≠ 6 → s.get TBL_LD_STAT.WORDS < 131072 →
      ∃ t, exec (.loadData a w) s = .next t ∧ t.word (s.get Tbl.LBASE + 4 * s.get TBL_LD_STAT.WORDS) = w.toNat
      ∧ t.get TBL_LD_STAT.WORDS = s.get TBL_LD_STAT.WORDS + 1 ∧ t.get TBL_BANK.INACT = 1
      ∧ (s.get Tbl.LWORDS = s.get TBL_LD_STAT.WORDS + 1 → t.get TBL_LD_STAT.CODE = 2 ∧ (t.get (PAGE_IRQ_STAT.EVT 0x90)).testBit 0 = true)
      ∧ (s.get TBL_LD_STAT.WORDS + 1 < s.get Tbl.LWORDS → t.get TBL_LD_STAT.CODE = 1))
    ∧ (s.get TBL_LD_STAT.CODE = 2 →
      ∃ t, exec (.loadData a w) s = .next t ∧ t.get TBL_LD_STAT.CODE = 7 ∧ Frame (.any [.fields [TBL_LD_STAT.CODE], accessFp a 0x90]) s t)
    ∧ (s.get TBL_LD_STAT.CODE ≠ 1 → s.get TBL_LD_STAT.CODE ≠ 2 →
      ∃ t, exec (.loadData a w) s = .next t ∧ Frame (accessFp a 0x90) s t)
    ∧ (∃ t, exec (.loadData a w) s = .next t
      ∧ (∀ b : Nat, (b < s.get Tbl.LBASE + 4 * s.get TBL_LD_STAT.WORDS ∨ s.get Tbl.LBASE + 4 * s.get TBL_LD_STAT.WORDS + 4 ≤ b) →
          s.get TBL_LD_STAT.WORDS ≠ 0 → (b < 0x580000 ∨ 0x5A0000 ≤ b) → t.byte b = s.byte b)
      ∧ Frame (.any [.fields [TBL_LD_STAT.CODE, TBL_LD_STAT.WORDS, Tbl.LBASE, Tbl.LWORDS, TBL_BANK.INACT, PAGE_IRQ_STAT.EVT 0x90], raiseFp 0x90,
          accessFp a 0x90, { mem := fun _ => true, ecc := fun _ => true }]) s t))

/-- R470 to R472: the barrier, its registration in each island, an abandoned commit, and the end of retirement. -/
def Obligations.TableCommits : Prop :=
  ∀ (s : State) (c : Fin 4) (n : Fin 48) (prepared : List (Fin 16 × Timing)),
    (s.get TBL_BANK.INACT ≠ 5 → exec .barrier s = .next s)
    ∧ (s.get TBL_BANK.INACT = 5 →
      ∃ t, exec .barrier s = .next t
      ∧ t.get TBL_BANK.ACTIVE = 1 - s.get TBL_BANK.ACTIVE ∧ t.get TBL_BANK.GEN = (s.get TBL_BANK.GEN + 1) % 65536
      ∧ t.get TBL_BANK.INACT = 6 ∧ t.get TBL_BANK.RESULT = 1 ∧ t.get Tbl.RUN = 0 ∧ (t.get (PAGE_IRQ_STAT.EVT 0x90)).testBit 3 = true
      ∧ (∀ e : Fin 8, 2 ≤ s.get (CHG_IMP_STAT.STATE e) → t.get (CHG_IMP_CNT.ABORTS e) = min 65535 (s.get (CHG_IMP_CNT.ABORTS e) + 1) ∧ t.get (CHG_IMP_STAT.END e) = 2)
      ∧ (∀ b : Nat, (b < 0x580000 ∨ 0x5A0000 ≤ b) → t.byte b = s.byte b)
      ∧ Frame (.any ([.fields [TBL_BANK.ACTIVE, TBL_BANK.GEN], tableFp, raiseFp 0x80, endFp 0x80] ++ (List.range 8).flatMap (fun e =>
          [engineFp e, sweepEndFp s e, raiseFp (0x88 + e), endFp (0x88 + e)]))) s t)
    ∧ (s.get TBL_BANK.INACT ≠ 5 → exec .commitTimeout s = .next s)
    ∧ (s.get TBL_BANK.INACT = 5 →
      ∃ t, exec .commitTimeout s = .next t
      ∧ t.get TBL_BANK.INACT = 3 ∧ t.get TBL_BANK.RESULT = 3 ∧ t.get Tbl.RUN = 0
      ∧ t.get TBL_BANK.ACTIVE = s.get TBL_BANK.ACTIVE ∧ t.get TBL_BANK.GEN = s.get TBL_BANK.GEN
      ∧ (muted s 0x90 = false → (t.get (PAGE_FLT_STAT.CAUSE 0x90)).testBit 2 = true)
      ∧ Frame (.any [tableFp, raiseFp 0x90]) s t)
    -- the Forager of comb c
    ∧ ((s.get TBL_BANK.INACT ≠ 6 ∨ s.get (CMB_STAT.GEN c) = s.get TBL_BANK.ACTIVE) →
      exec (.barrierRegistered (Fin.ofNat 53 c) prepared) s = .next s)
    ∧ (s.get TBL_BANK.INACT = 6 → s.get (CMB_STAT.GEN c) ≠ s.get TBL_BANK.ACTIVE →
      ∃ t, exec (.barrierRegistered (Fin.ofNat 53 c) prepared) s = .next t
      ∧ t.get (CMB_STAT.GEN c) = s.get TBL_BANK.ACTIVE
      ∧ (t.get (PAGE_IRQ_STAT.EVT (0x10 + c))).testBit 7 = true ∧ min 65535 (s.get (CMB_SQ_CNT.SQUASHES c) + 1) ≤ t.get (CMB_SQ_CNT.SQUASHES c)
      ∧ ((prepared.filter (fun q => q.1.val / 4 == c.val)).isEmpty = true → ∀ p : Fin 16, p.val / 4 = c.val → t.slots[p] = [])
      ∧ (∀ p : Fin 16, p.val / 4 = c.val → (t.window[p]).all (fun e => e.stage == 2 || e.gen == s.get TBL_BANK.ACTIVE) = true)
      ∧ Frame (foragerBarrierFp c) s t)
    -- the sequencer
    ∧ (s.get TBL_BANK.INACT = 6 → (seqTable s).isSome = true →
      ∃ t, exec (.barrierRegistered 4 prepared) s = .next t ∧ t.get Hks.TABLE_BAD = 0
      ∧ t.get Hks.RUNAT = s.get Hks.RUNAT ∧ t.get HKS_RUN.ACTIVE = s.get HKS_RUN.ACTIVE ∧ Frame (.any [.fields [Hks.TABLE_BAD, HKS_STAT.BUILTIN, Hks.BSTEP, PAGE_IRQ_STAT.EVT 0x68], raiseFp 0x68, endFp 0x68]) s t)
    ∧ (s.get TBL_BANK.INACT = 6 → seqTable s = none →
      ∃ t, exec (.barrierRegistered 4 prepared) s = .next t ∧ t.get Hks.TABLE_BAD = 1 ∧ t.get HKS_STAT.BUILTIN = 1
      ∧ t.get Hks.RUNAT = s.get Hks.RUNAT ∧ t.get HKS_RUN.ACTIVE = s.get HKS_RUN.ACTIVE ∧ Frame (.any [.fields [Hks.TABLE_BAD, HKS_STAT.BUILTIN, Hks.BSTEP, PAGE_IRQ_STAT.EVT 0x68], raiseFp 0x68, endFp 0x68]) s t)
    -- a port island
    ∧ (s.get TBL_BANK.INACT = 6 →
      ∃ t, exec (.barrierRegistered (Fin.ofNat 53 (5 + n)) prepared) s = .next t ∧ t.get (Port.PAR_OK n) = bitOf (fetTable s n).isSome
      ∧ (∀ i : Fin 3, t.get (Port.DT n i) = s.get (Port.DT n i) ∨ s.get (PORT_STAT.STATE n) ≠ t.get (PORT_STAT.STATE n) ∨ t.get (Port.PAR_OK n) = 0)
      ∧ Frame (.any [.fields (Port.PAR_OK n :: (List.range 11).map (Port.PAR n)), startFp n, pairFp n, portActFp n, raiseFp (0x30 + n), endFp (0x30 + n)]) s t)
    ∧ ((s.get TBL_BANK.INACT ≠ 6 ∨ bankRead s = true) → exec .released s = .next s)
    ∧ (s.get TBL_BANK.INACT = 6 → (∀ k : Fin 4, s.get (CMB_STAT.GEN k) = s.get TBL_BANK.ACTIVE) → s.get HKS_RUN.ACTIVE = 0 →
        (∀ p : Fin 16, (s.window[p]).all (fun e => e.stage != 2 || e.gen == s.get TBL_BANK.ACTIVE) = true) →
      ∃ t, exec .released s = .next t
      ∧ t.get TBL_BANK.INACT = 3 ∧ (t.get (PAGE_IRQ_STAT.EVT 0x90)).testBit 4 = true ∧ (t.get (Flt.PRESENT 0x90)).testBit 3 = false
      ∧ Frame (.any [.fields [TBL_BANK.INACT, PAGE_IRQ_STAT.EVT 0x90], endFp 0x90]) s t)
    ∧ (s.get TBL_BANK.INACT ≠ 6 → exec .retireTimeout s = .next s)
    ∧ (s.get TBL_BANK.INACT = 6 → muted s 0x90 = false → (s.get (Flt.PRESENT 0x90)).testBit 3 = false →
      ∃ t, exec .retireTimeout s = .next t ∧ (t.get (PAGE_FLT_STAT.CAUSE 0x90)).testBit 3 = true ∧ t.get TBL_BANK.INACT = 6
      ∧ Frame (raiseFp 0x90) s t)
    ∧ (∃ t, exec .retireTimeout s = .next t ∧ t.get TBL_BANK.INACT = s.get TBL_BANK.INACT ∧ Frame (raiseFp 0x90) s t)

/-- R474 to R479, R483: a phase or a comb leaves and returns. `MAINT_CMD` is written with GO in the Keeper view. -/
def Obligations.PhaseAndCombDrains : Prop :=
  ∀ (s : State) (a : Access) (p : Fin 16) (c : Fin 4) (arg : BitVec 16),
    (served s = true → keeperView s a = true → s.get (PAGE_LOCK.CFG 0xB0) = 0 →
      (∃ t, exec (.phaseOut a arg) s = .next t
        ∧ ((t.get (PAGE_IRQ_STAT.EVT 0xB0)).testBit 0 = true ∨ t.get MAINT_STAT.BUSY = 1) ∧ Frame (.any [maintFp, .fields ((List.range 16).map Mnt.OUT ++ (List.range 16).map Mnt.SHARE), accessFp a 0xB0]) s t)
      ∧ (s.get MAINT_STAT.BUSY = 1 →
        ∃ t, exec (.phaseOut a arg) s = .next t ∧ t.get MAINT_STAT.RESULT = 2 ∧ t.get MAINT_STAT.WHY = 1)
      ∧ (s.get MAINT_STAT.BUSY = 0 → inFull s = false →
        ∃ t, exec (.phaseOut a arg) s = .next t ∧ t.get MAINT_STAT.RESULT = 2 ∧ t.get MAINT_STAT.WHY = 2)
      ∧ (s.get MAINT_STAT.BUSY = 0 → inFull s = true → 16 ≤ arg.toNat →
        ∃ t, exec (.phaseOut a arg) s = .next t ∧ t.get MAINT_STAT.RESULT = 2 ∧ t.get MAINT_STAT.WHY = 10)
      ∧ (s.get MAINT_STAT.BUSY = 0 → inFull s = true → absent s (0x20 + p) = false → s.get (Mnt.OUT p) = 0 → s.get (Ph.DUTY p) = 1 →
        ∃ t, exec (.phaseOut a (BitVec.ofNat 16 p)) s = .next t ∧ t.get MAINT_STAT.RESULT = 2 ∧ t.get MAINT_STAT.WHY = 6
        ∧ t.get (Mnt.OUT p) = 0 ∧ Frame (.any [maintFp, .fields [Mnt.OUT p, Mnt.SHARE p], accessFp a 0xB0]) s t)
      ∧ (s.get MAINT_STAT.BUSY = 0 → inFull s = true → absent s (0x20 + p) = false → s.get (Mnt.OUT p) = 0 → s.get (Ph.DUTY p) = 0 →
          runAhead s (p / 4) = [p] → (s.get (CMB_PP_STAT.MODE (p / 4)) = 2 ∨ s.get (CMB_PP_STAT.MODE (p / 4)) = 3) →
        ∃ t, exec (.phaseOut a (BitVec.ofNat 16 p)) s = .next t ∧ t.get MAINT_STAT.RESULT = 2 ∧ t.get MAINT_STAT.WHY = 5
        ∧ t.get (Mnt.OUT p) = 0 ∧ Frame (.any [maintFp, .fields [Mnt.OUT p, Mnt.SHARE p], accessFp a 0xB0]) s t)
      ∧ (s.get MAINT_STAT.BUSY = 0 → inFull s = true → absent s (0x20 + p) = false → s.get (Mnt.OUT p) = 0 → s.get (Ph.DUTY p) = 0 →
          (runAhead s (p / 4) ≠ [p] ∨ (s.get (CMB_PP_STAT.MODE (p / 4)) ≠ 2 ∧ s.get (CMB_PP_STAT.MODE (p / 4)) ≠ 3)) →
        ∃ t, exec (.phaseOut a (BitVec.ofNat 16 p)) s = .next t ∧ t.get (Mnt.OUT p) = 1 ∧ t.get MAINT_STAT.BUSY = 1 ∧ t.get MAINT_STAT.OP = 1
        ∧ t.get MAINT_STAT.ARG = p.val ∧ Frame (.any [maintFp, .fields [Mnt.OUT p, Mnt.SHARE p], accessFp a 0xB0]) s t)
      ∧ (s.get MAINT_STAT.BUSY = 0 → inFull s = true → absent s (0x20 + p) = false → s.get (Mnt.OUT p) = 3 → s.get (Mnt.DRAIN (p / 4)) = 0 → modelDescribes s p = false →
        ∃ t, exec (.phaseIn a (BitVec.ofNat 16 p)) s = .next t ∧ t.get MAINT_STAT.RESULT = 2 ∧ t.get MAINT_STAT.WHY = 9 ∧ t.get (Mnt.OUT p) = 3
        ∧ Frame (.any [maintFp, phaseDrainFp p, raiseFp 0xB0, accessFp a 0xB0]) s t)
      ∧ (s.get MAINT_STAT.BUSY = 0 → inFull s = true → absent s (0x20 + p) = false → s.get (Mnt.OUT p) = 3 → s.get (Mnt.DRAIN (p / 4)) = 0 → modelDescribes s p = true → cannotRun s p = true →
        ∃ t, exec (.phaseIn a (BitVec.ofNat 16 p)) s = .next t ∧ t.get MAINT_STAT.RESULT = 3 ∧ t.get (Mnt.OUT p) = 3 ∧ Frame (.any [maintFp, phaseDrainFp p, raiseFp 0xB0, accessFp a 0xB0]) s t)
      ∧ (s.get MAINT_STAT.BUSY = 0 → inFull s = true → absent s (0x20 + p) = false → s.get (Mnt.OUT p) = 3 → s.get (Mnt.DRAIN (p / 4)) = 0 → modelDescribes s p = true → cannotRun s p = false →
        ∃ t, exec (.phaseIn a (BitVec.ofNat 16 p)) s = .next t ∧ t.get (Mnt.OUT p) = 0 ∧ t.get (PH_CTL.RUN p) = 1 ∧ t.get MAINT_STAT.RESULT = 1
        ∧ t.get MAINT_STAT.BUSY = 0 ∧ t.get (PAGE_STAT.DRAINED (0x20 + p)) = 0 ∧ (t.get MAINT_PH_OUT.PHASES).testBit p = false
        ∧ Frame (.any [maintFp, phaseDrainFp p, raiseFp 0xB0, accessFp a 0xB0]) s t)
      ∧ (s.get MAINT_STAT.BUSY = 0 → inFull s = true → absent s (0x10 + c) = false → s.get (Mnt.DRAIN c) = 0 → (s.get (CMB_PP_STAT.MODE c) = 2 ∨ s.get (CMB_PP_STAT.MODE c) = 3) →
        ∃ t, exec (.combDrain a (BitVec.ofNat 16 c)) s = .next t ∧ t.get MAINT_STAT.RESULT = 2 ∧ t.get MAINT_STAT.WHY = 5 ∧ t.get (Mnt.DRAIN c) = 0
        ∧ Frame (.any ([maintFp, .fields [Mnt.DRAIN c, PAGE_STAT.DRAINED (0x10 + c), MAINT_PH_OUT.COMBS, HIVE_MODE.MAINT, Sw.SEQ], .parts [.sent], raiseFp 0x98,
            .fields ((List.range 256).flatMap (fun m => [Sw.MEM m, Sw.WT m, Sw.DEF m, Sw.AGE m])), accessFp a 0xB0]
            ++ (combPhases c).map (fun (q : Fin 16) => .fields [Mnt.OUT q, Mnt.BYC q, Mnt.SHARE q]))) s t)
      ∧ (s.get MAINT_STAT.BUSY = 0 → inFull s = true → absent s (0x10 + c) = false → s.get (Mnt.DRAIN c) = 0 → s.get (CMB_PP_STAT.MODE c) ≠ 2 → s.get (CMB_PP_STAT.MODE c) ≠ 3 →
          (∀ q : Fin 16, q.val / 4 = c.val → s.flag (Ph.DUTY q) = false) →
        ∃ t, exec (.combDrain a (BitVec.ofNat 16 c)) s = .next t ∧ t.get (Mnt.DRAIN c) = 1 ∧ isMember t c = false
        ∧ (∀ q : Fin 16, (q.val / 4 = c.val ∧ absent s (0x20 + q) = false ∧ s.get (Mnt.OUT q) = 0) → t.get (Mnt.OUT q) = 1)
        ∧ Frame (.any ([maintFp, .fields [Mnt.DRAIN c, PAGE_STAT.DRAINED (0x10 + c), MAINT_PH_OUT.COMBS, HIVE_MODE.MAINT, Sw.SEQ], .parts [.sent], raiseFp 0x98,
            .fields ((List.range 256).flatMap (fun m => [Sw.MEM m, Sw.WT m, Sw.DEF m, Sw.AGE m])), accessFp a 0xB0]
            ++ (combPhases c).map (fun (q : Fin 16) => .fields [Mnt.OUT q, Mnt.BYC q, Mnt.SHARE q]))) s t)
      ∧ (s.get MAINT_STAT.BUSY = 0 → inFull s = true → absent s (0x10 + c) = false → (s.get MAINT_PH_OUT.COMBS).testBit c = false →
        ∃ t, exec (.combRestore a (BitVec.ofNat 16 c)) s = .next t ∧ t.get MAINT_STAT.RESULT = 2 ∧ t.get MAINT_STAT.WHY = 4 ∧ Frame (.any ([maintFp, .fields [Mnt.DRAIN c, PAGE_STAT.DRAINED (0x10 + c), MAINT_PH_OUT.COMBS, HIVE_MODE.MAINT, Sw.SEQ], .parts [.sent], raiseFp 0x98, raiseFp 0xB0,
            .fields ((List.range 256).flatMap (fun m => [Sw.MEM m, Sw.WT m, Sw.DEF m, Sw.AGE m])), accessFp a 0xB0] ++ (combPhases c).map (fun (q : Fin 16) => phaseDrainFp q))) s t)
      ∧ (s.get MAINT_STAT.BUSY = 0 → inFull s = true → absent s (0x10 + c) = false → (s.get MAINT_PH_OUT.COMBS).testBit c = true → modelTable s c = none →
        ∃ t, exec (.combRestore a (BitVec.ofNat 16 c)) s = .next t ∧ t.get MAINT_STAT.RESULT = 2 ∧ t.get MAINT_STAT.WHY = 9 ∧ Frame (.any ([maintFp, .fields [Mnt.DRAIN c, PAGE_STAT.DRAINED (0x10 + c), MAINT_PH_OUT.COMBS, HIVE_MODE.MAINT, Sw.SEQ], .parts [.sent], raiseFp 0x98, raiseFp 0xB0,
            .fields ((List.range 256).flatMap (fun m => [Sw.MEM m, Sw.WT m, Sw.DEF m, Sw.AGE m])), accessFp a 0xB0] ++ (combPhases c).map (fun (q : Fin 16) => phaseDrainFp q))) s t)
      ∧ (s.get MAINT_STAT.BUSY = 0 → inFull s = true → absent s (0x10 + c) = false → (s.get MAINT_PH_OUT.COMBS).testBit c = true → (modelTable s c).any (modelForm s) = true →
          (combPhases c).any (fun q => s.get (Mnt.OUT q) == 3 && cannotRun s q) = true →
        ∃ t, exec (.combRestore a (BitVec.ofNat 16 c)) s = .next t ∧ t.get MAINT_STAT.RESULT = 3 ∧ t.get (Mnt.DRAIN c) = s.get (Mnt.DRAIN c) ∧ Frame (.any ([maintFp, .fields [Mnt.DRAIN c, PAGE_STAT.DRAINED (0x10 + c), MAINT_PH_OUT.COMBS, HIVE_MODE.MAINT, Sw.SEQ], .parts [.sent], raiseFp 0x98, raiseFp 0xB0,
            .fields ((List.range 256).flatMap (fun m => [Sw.MEM m, Sw.WT m, Sw.DEF m, Sw.AGE m])), accessFp a 0xB0] ++ (combPhases c).map (fun (q : Fin 16) => phaseDrainFp q))) s t)
      ∧ (s.get MAINT_STAT.BUSY = 0 → inFull s = true → absent s (0x10 + c) = false → (s.get MAINT_PH_OUT.COMBS).testBit c = true → (modelTable s c).any (modelForm s) = true →
          (combPhases c).any (fun q => s.get (Mnt.OUT q) == 3 && cannotRun s q) = false →
        ∃ t, exec (.combRestore a (BitVec.ofNat 16 c)) s = .next t ∧ t.get MAINT_STAT.RESULT = 1 ∧ t.get (Mnt.DRAIN c) = 0 ∧ t.get (PAGE_STAT.DRAINED (0x10 + c)) = 0
        ∧ (∀ q : Fin 16, (q.val / 4 = c.val ∧ s.get (Mnt.OUT q) = 3) → t.get (Mnt.OUT q) = 0 ∧ t.get (PH_CTL.RUN q) = 1)
        ∧ Frame (.any ([maintFp, .fields [Mnt.DRAIN c, PAGE_STAT.DRAINED (0x10 + c), MAINT_PH_OUT.COMBS, HIVE_MODE.MAINT, Sw.SEQ], .parts [.sent], raiseFp 0x98, raiseFp 0xB0,
            .fields ((List.range 256).flatMap (fun m => [Sw.MEM m, Sw.WT m, Sw.DEF m, Sw.AGE m])), accessFp a 0xB0] ++ (combPhases c).map (fun (q : Fin 16) => phaseDrainFp q))) s t))
    ∧ (s.get (Mnt.OUT p) ≠ 1 → exec (.phaseAtZero p) s = .next s)
    ∧ (s.get (Mnt.OUT p) = 1 →
      ∃ t, exec (.phaseAtZero p) s = .next t ∧ t.get (Mnt.OUT p) = 2 ∧ t.get (PH_CTL.RUN p) = 0
      ∧ (∀ q : Fin 4, ((runAhead t (p / 4))[q.val]?).all (fun r => s.flag (Ph.DUTY r) || t.get (PH_ILV.ANGLE r) ==
          (512 * q + (runAhead t (p / 4)).length) / (2 * (runAhead t (p / 4)).length)) = true)
      ∧ Frame (.any [phaseDrainFp p]) s t)
    ∧ ((s.get (Mnt.OUT p) ≠ 2 ∨ s.get (PH_STAT.STATE p) = 1 ∨ s.get (PH_STAT.STATE p) = 2) →
      exec (.phaseOutComplete p) s = .next s)
    ∧ (s.get (Mnt.OUT p) = 2 → s.get (PH_STAT.STATE p) = 3 → (∀ q : Fin 16, s.flag (PH_STAT.WALKING q) = false) →
      ∃ t, exec (.phaseOutComplete p) s = .next t
      ∧ t.get (Mnt.OUT p) = 3 ∧ t.get (PAGE_STAT.DRAINED (0x20 + p)) = 1 ∧ (t.get MAINT_PH_OUT.PHASES).testBit p = true
      ∧ (t.get HIVE_MODE.MAINT).testBit (p / 4) = true ∧ (t.get (PAGE_IRQ_STAT.EVT 0xB0)).testBit 1 = true
      ∧ (s.get MAINT_STAT.BUSY = 1 → s.get Mnt.OP = 1 → s.get Mnt.ARG = p.val → t.get MAINT_STAT.BUSY = 0 ∧ t.get MAINT_STAT.RESULT = 1)
      ∧ Frame (.any [maintFp, .fields [Mnt.OUT p, PAGE_STAT.DRAINED (0x20 + p), PAGE_STAT.DRAINED (0x10 + p / 4), MAINT_PH_OUT.PHASES, MAINT_PH_OUT.COMBS,
          HIVE_MODE.MAINT]]) s t)
    ∧ (∃ t, exec (.phaseOutComplete p) s = .next t
      ∧ Frame (.any [maintFp, .fields [Mnt.OUT p, PAGE_STAT.DRAINED (0x20 + p), PAGE_STAT.DRAINED (0x10 + p / 4), MAINT_PH_OUT.PHASES, MAINT_PH_OUT.COMBS,
          HIVE_MODE.MAINT]]) s t)

/-- R474, R480 to R483: sensors, ports and converters are set aside and returned, and drains and holds that reach DRAIN_MAX.
-/
def Obligations.HoldsAndTimeouts : Prop :=
  ∀ (s : State) (a : Access) (k : Fin 88) (n : Fin 48) (x : Fin 5),
    (served s = true → keeperView s a = true → s.get (PAGE_LOCK.CFG 0xB0) = 0 → inFull s = true → s.get MAINT_STAT.BUSY = 0 →
      ((thPages k).any (absent s) = false → s.get (Ths.OUT k) = 0 → (sdLevel s k).isSome = true → s.get (THS_CFG.EST k) = 0 →
        ∃ t, exec (.sensorOut a (BitVec.ofNat 16 k)) s = .next t ∧ t.get MAINT_STAT.RESULT = 2 ∧ t.get MAINT_STAT.WHY = 7 ∧ t.get (Ths.OUT k) = 0
        ∧ t.get (THS_STAT.FAIL_CAUSE k) = s.get (THS_STAT.FAIL_CAUSE k) ∧ Frame (.any [maintFp, .fields [Ths.OUT k, MAINT_SENS.OUT (k / 32)], accessFp a 0xB0]) s t)
      ∧ ((thPages k).any (absent s) = false → s.get (Ths.OUT k) = 0 → ((sdLevel s k).isSome = false ∨ s.get (THS_CFG.EST k) ≠ 0) →
        ∃ t, exec (.sensorOut a (BitVec.ofNat 16 k)) s = .next t ∧ t.get (Ths.OUT k) = 1 ∧ t.get MAINT_STAT.RESULT = 1
        ∧ (t.get (MAINT_SENS.OUT (k / 32))).testBit (k % 32) = true ∧ (t.get (PAGE_IRQ_STAT.EVT 0xB0)).testBit 1 = true
        ∧ t.get (THS_STAT.FAIL_CAUSE k) = s.get (THS_STAT.FAIL_CAUSE k) ∧ Frame (.any [maintFp, .fields [Ths.OUT k, MAINT_SENS.OUT (k / 32)], accessFp a 0xB0]) s t)
      ∧ (s.get (Ths.OUT k) = 1 →
        ∃ t, exec (.sensorIn a (BitVec.ofNat 16 k)) s = .next t ∧ t.get (Ths.OUT k) = 0 ∧ t.get MAINT_STAT.RESULT = 1
        ∧ (t.get (MAINT_SENS.OUT (k / 32))).testBit (k % 32) = false ∧ Frame (.any [maintFp, .fields [Ths.OUT k, MAINT_SENS.OUT (k / 32)], accessFp a 0xB0]) s t)
      ∧ (s.get (Ths.OUT k) = 0 →
        ∃ t, exec (.sensorIn a (BitVec.ofNat 16 k)) s = .next t ∧ t.get MAINT_STAT.RESULT = 2 ∧ t.get MAINT_STAT.WHY = 4 ∧ Frame (.any [maintFp, .fields [Ths.OUT k, MAINT_SENS.OUT (k / 32)], accessFp a 0xB0]) s t)
      ∧ (portKind n ≠ 4 → absent s (0x30 + n) = false → s.get (Port.HELD n) = 0 →
        ∃ t, exec (.portHold a (BitVec.ofNat 16 n)) s = .next t ∧ t.get (Port.HELD n) = 1 ∧ t.get MAINT_STAT.RESULT = 1
        ∧ (n.val < 32 → (t.get MAINT_PORT0.HOLD).testBit n = true) ∧ (32 ≤ n.val → (t.get MAINT_PORT1.HOLD).testBit (n - 32) = true)
        ∧ Frame (.any [maintFp, .fields [Port.HELD n, MAINT_PORT0.HOLD, MAINT_PORT1.HOLD], accessFp a 0xB0]) s t)
      ∧ (portKind n = 4 → absent s (0x30 + n) = false →
        ∃ t, exec (.portHold a (BitVec.ofNat 16 n)) s = .next t ∧ t.get MAINT_STAT.RESULT = 2 ∧ t.get MAINT_STAT.WHY = 4 ∧ t.get (Port.HELD n) = s.get (Port.HELD n)
        ∧ Frame (.any [maintFp, .fields [Port.HELD n, MAINT_PORT0.HOLD, MAINT_PORT1.HOLD], accessFp a 0xB0]) s t)
      ∧ (s.get (Port.HELD n) = 1 →
        ∃ t, exec (.portRelease a (BitVec.ofNat 16 n)) s = .next t ∧ t.get (Port.HELD n) = 0 ∧ t.staged[n] = [] ∧ t.get MAINT_STAT.RESULT = 1
        ∧ Frame (.any [maintFp, .keys (fun key => key / 0x1000 == 0x30 + n.val), .fields [Port.HELD n, MAINT_PORT0.HOLD, MAINT_PORT1.HOLD, Port.PAR_OK n], resumeFp n, pairFp n, portActFp n,
            .fields ((List.range 11).map (Port.PAR n)), .parts [.staged n], raiseFp (0x30 + n), endFp (0x30 + n), accessFp a 0xB0]) s t)
      ∧ (s.get (Port.HELD n) = 1 → s.staged[n] = [(0x048, 0x00030201)] →
        ∃ t, exec (.portRelease a (BitVec.ofNat 16 n)) s = .next t
        ∧ ∀ q ∈ regLayout (0x30 + n) 0x048, q.2 = .krw → t.get q.1 = fieldOf 0x00030201 q.1)
      ∧ (s.get (Port.HELD n) = 0 →
        ∃ t, exec (.portRelease a (BitVec.ofNat 16 n)) s = .next t ∧ t.get MAINT_STAT.RESULT = 2 ∧ t.get MAINT_STAT.WHY = 4 ∧ t.staged[n] = s.staged[n]
        ∧ Frame (.any [maintFp, .keys (fun key => key / 0x1000 == 0x30 + n.val), .fields [Port.HELD n, MAINT_PORT0.HOLD, MAINT_PORT1.HOLD, Port.PAR_OK n], resumeFp n, pairFp n, portActFp n,
            .fields ((List.range 11).map (Port.PAR n)), .parts [.staged n], raiseFp (0x30 + n), endFp (0x30 + n), accessFp a 0xB0]) s t)
      ∧ (s.bit MAINT_CONV.OUT x = true →
        ∃ t, exec (.convOut a (BitVec.ofNat 16 x)) s = .next t ∧ t.get MAINT_STAT.RESULT = 2 ∧ t.get MAINT_STAT.WHY = 4 ∧ Frame (.any [maintFp, .fields ([MAINT_CONV.OUT, HKS_STAT.SPARE, HKS_STAT.CAL_BUSY, HKS_STAT.CAL_CONV, Hks.CALSTEP, Hks.CALLANE, Mnt.CV]
            ++ (List.range 5).flatMap (fun y => [HKC_STAT.ROLE y, HKC_STAT.REF y, HKC_STAT.SETTLED y, PAGE_IRQ_STAT.EVT (0x69 + y)])), accessFp a 0xB0]) s t)
      ∧ (s.bit MAINT_CONV.OUT x = false → s.get HKS_STAT.CAL_BUSY = 0 → s.get HKS_STAT.SPARE = 7 →
        ∃ t, exec (.convOut a (BitVec.ofNat 16 x)) s = .next t ∧ t.get MAINT_STAT.RESULT = 2 ∧ t.get MAINT_STAT.WHY = 8 ∧ Frame (.any [maintFp, .fields ([MAINT_CONV.OUT, HKS_STAT.SPARE, HKS_STAT.CAL_BUSY, HKS_STAT.CAL_CONV, Hks.CALSTEP, Hks.CALLANE, Mnt.CV]
            ++ (List.range 5).flatMap (fun y => [HKC_STAT.ROLE y, HKC_STAT.REF y, HKC_STAT.SETTLED y, PAGE_IRQ_STAT.EVT (0x69 + y)])), accessFp a 0xB0]) s t)
      ∧ (s.bit MAINT_CONV.OUT x = false → s.get HKS_STAT.CAL_BUSY = 0 → s.get HKS_STAT.SPARE = x.val →
          (List.range 4).all (fun m => laneConv s m != x.val) = true →
        ∃ t, exec (.convOut a (BitVec.ofNat 16 x)) s = .next t ∧ t.get HKS_STAT.SPARE = 7 ∧ (t.get MAINT_CONV.OUT).testBit x = true ∧ t.get (HKC_STAT.ROLE x) = 6
        ∧ t.get MAINT_STAT.RESULT = 1 ∧ Frame (.any [maintFp, .fields ([MAINT_CONV.OUT, HKS_STAT.SPARE, HKS_STAT.CAL_BUSY, HKS_STAT.CAL_CONV, Hks.CALSTEP, Hks.CALLANE, Mnt.CV]
            ++ (List.range 5).flatMap (fun y => [HKC_STAT.ROLE y, HKC_STAT.REF y, HKC_STAT.SETTLED y, PAGE_IRQ_STAT.EVT (0x69 + y)])), accessFp a 0xB0]) s t)
      ∧ (s.bit MAINT_CONV.OUT x = false → s.get HKS_STAT.CAL_BUSY = 0 → s.get HKS_STAT.SPARE ≠ 7 →
          (List.range 4).any (fun m => laneConv s m == x.val) = true →
        ∃ t, exec (.convOut a (BitVec.ofNat 16 x)) s = .next t ∧ t.get HKS_STAT.CAL_BUSY = 1 ∧ t.get HKS_STAT.CAL_CONV = x.val ∧ t.get Mnt.CV = 1
        ∧ t.get MAINT_STAT.BUSY = 1 ∧ Frame (.any [maintFp, .fields ([MAINT_CONV.OUT, HKS_STAT.SPARE, HKS_STAT.CAL_BUSY, HKS_STAT.CAL_CONV, Hks.CALSTEP, Hks.CALLANE, Mnt.CV]
            ++ (List.range 5).flatMap (fun y => [HKC_STAT.ROLE y, HKC_STAT.REF y, HKC_STAT.SETTLED y, PAGE_IRQ_STAT.EVT (0x69 + y)])), accessFp a 0xB0]) s t)
      ∧ (s.bit MAINT_CONV.OUT x = true → s.get HKS_STAT.CAL_BUSY = 0 →
        ∃ t, exec (.convIn a (BitVec.ofNat 16 x)) s = .next t ∧ t.get HKS_STAT.CAL_BUSY = 1 ∧ t.get HKS_STAT.CAL_CONV = x.val ∧ t.get Hks.CALSTEP = 2
        ∧ t.get (HKC_STAT.ROLE x) = 5 ∧ t.get MAINT_STAT.BUSY = 1 ∧ Frame (.any [maintFp, .fields [HKS_STAT.CAL_BUSY, HKS_STAT.CAL_CONV, Hks.CALSTEP, Mnt.CV, HKC_STAT.ROLE x, PAGE_IRQ_STAT.EVT (0x69 + x)], accessFp a 0xB0]) s t)
      ∧ (s.bit MAINT_CONV.OUT x = false →
        ∃ t, exec (.convIn a (BitVec.ofNat 16 x)) s = .next t ∧ t.get MAINT_STAT.RESULT = 2 ∧ t.get MAINT_STAT.WHY = 4 ∧ Frame (.any [maintFp, .fields [HKS_STAT.CAL_BUSY, HKS_STAT.CAL_CONV, Hks.CALSTEP, Mnt.CV, HKC_STAT.ROLE x, PAGE_IRQ_STAT.EVT (0x69 + x)], accessFp a 0xB0]) s t))
    ∧ (s.get (Port.HELD n) = 0 → exec (.drainTimeout (some n)) s = .next s)
    ∧ (s.get (Port.HELD n) = 1 →
      ∃ t, exec (.drainTimeout (some n)) s = .next t ∧ t.get (Port.HELD n) = 0 ∧ t.staged[n] = []
      ∧ (t.get (PAGE_IRQ_STAT.EVT 0xB0)).testBit 1 = true ∧ t.get MAINT_STAT.RESULT = s.get MAINT_STAT.RESULT
      ∧ Frame (.any [.fields [Port.HELD n, MAINT_PORT0.HOLD, MAINT_PORT1.HOLD, PAGE_IRQ_STAT.EVT 0xB0], resumeFp n, pairFp n, portActFp n, .parts [.staged n],
          raiseFp (0x30 + n), endFp (0x30 + n)]) s t)
    ∧ ((s.get MAINT_STAT.BUSY = 0 ∨ (s.get Mnt.OP ≠ 1 ∧ s.get Mnt.OP ≠ 3 ∧ s.get Mnt.OP ≠ 9)) →
      exec (.drainTimeout none) s = .next s)
    ∧ (s.get MAINT_STAT.BUSY = 1 → s.get Mnt.OP = 1 → s.get Mnt.ARG < 16 →
      ∃ t, exec (.drainTimeout none) s = .next t ∧ t.get MAINT_STAT.BUSY = 0 ∧ t.get MAINT_STAT.RESULT = 4
      ∧ (muted s 0xB0 = false → (t.get (PAGE_FLT_STAT.CAUSE 0xB0)).testBit 0 = true)
      ∧ t.get (Mnt.OUT (s.get Mnt.ARG)) = 0 ∧ t.get (PH_CTL.RUN (s.get Mnt.ARG)) = 1
      ∧ Frame (.any ([maintFp, raiseFp 0xB0, .fields [Mnt.DRAIN (s.get Mnt.ARG), Mnt.CV, HKS_STAT.CAL_BUSY, HKS_STAT.CAL_CONV, Hks.CALSTEP, Hks.CALALL]]
          ++ (List.finRange 16).map (fun (q : Fin 16) => phaseDrainFp q))) s t)
    ∧ (s.get MAINT_STAT.BUSY = 1 → s.get Mnt.OP = 3 → s.get Mnt.ARG < 4 →
      ∃ t, exec (.drainTimeout none) s = .next t ∧ t.get MAINT_STAT.BUSY = 0 ∧ t.get MAINT_STAT.RESULT = 4
      ∧ (muted s 0xB0 = false → (t.get (PAGE_FLT_STAT.CAUSE 0xB0)).testBit 0 = true)
      ∧ t.get (Mnt.DRAIN (s.get Mnt.ARG)) = 0
      ∧ (∀ q : Fin 16, (q.val / 4 = s.get Mnt.ARG ∧ s.get (Mnt.BYC q) = 1) → t.get (Mnt.OUT q) = 0 ∧ t.get (PH_CTL.RUN q) = 1)
      ∧ Frame (.any ([maintFp, raiseFp 0xB0, .fields [Mnt.DRAIN (s.get Mnt.ARG), Mnt.CV, HKS_STAT.CAL_BUSY, HKS_STAT.CAL_CONV, Hks.CALSTEP, Hks.CALALL]]
          ++ (List.finRange 16).map (fun (q : Fin 16) => phaseDrainFp q))) s t)
    ∧ (s.get MAINT_STAT.BUSY = 1 → s.get Mnt.OP = 9 →
      ∃ t, exec (.drainTimeout none) s = .next t ∧ t.get MAINT_STAT.BUSY = 0 ∧ t.get MAINT_STAT.RESULT = 4
      ∧ (muted s 0xB0 = false → (t.get (PAGE_FLT_STAT.CAUSE 0xB0)).testBit 0 = true)
      ∧ t.get HKS_STAT.CAL_BUSY = 0 ∧ t.get Mnt.CV = 0
      ∧ Frame (.any ([maintFp, raiseFp 0xB0, .fields [Mnt.DRAIN (s.get Mnt.ARG), Mnt.CV, HKS_STAT.CAL_BUSY, HKS_STAT.CAL_CONV, Hks.CALSTEP, Hks.CALALL]]
          ++ (List.finRange 16).map (fun (q : Fin 16) => phaseDrainFp q))) s t)
end

