-- ==== Sys2Proof/Laws/Store.lean ====
section
/-! SUPPORT. The laws of the sparse stores: read after write, and every operation keeps the canonical form. -/

namespace Sys2Proof.Machine

variable {α : Type} {d : α}

@[simp] theorem Sparse.look_nil (a : Nat) : Sparse.look d [] a = d := rfl

theorem Sparse.look_cons (k : Nat) (v : α) (t : List (Nat × α)) (a : Nat) :
    Sparse.look d ((k, v) :: t) a = if a = k then v else Sparse.look d t a := rfl

/-- Filtering by number reads as `d` where the filter drops and as before elsewhere. -/
theorem Sparse.look_keep (p : Nat → Bool) (l : List (Nat × α)) (a : Nat) :
    Sparse.look d (Sparse.keep p l) a = if p a then Sparse.look d l a else d := by
  induction l with
  | nil => simp [Sparse.keep]
  | cons e t ih =>
    obtain ⟨k, v⟩ := e
    simp only [Sparse.keep, List.filter_cons] at ih ⊢
    by_cases h : a = k
    · subst h
      cases hp : p a <;> simp_all [Sparse.look_cons]
    · cases hp : p k <;> simp [Sparse.look_cons, h, ih]

theorem Sparse.erase_eq_keep (l : List (Nat × α)) (a : Nat) : Sparse.erase l a = Sparse.keep (· != a) l := rfl

theorem Sparse.look_insert (l : List (Nat × α)) (a b : Nat) (v : α) (h : Sparse.look d l a = d)
    (hl : ∀ e ∈ l, e.1 ≠ a) :
    Sparse.look d (Sparse.insert l a v) b = if b = a then v else Sparse.look d l b := by
  induction l with
  | nil => simp [Sparse.insert, Sparse.look_cons]
  | cons e t ih =>
    obtain ⟨k, w⟩ := e
    have hk : k ≠ a := hl (k, w) (by simp)
    have ht := ih (by simpa [Sparse.look_cons, hk.symm] using h) (fun e he => hl e (by simp [he]))
    simp only [Sparse.insert]
    split
    · simp [Sparse.look_cons]
    · simp only [Sparse.look_cons, ht]
      split_ifs <;> simp_all

variable [DecidableEq α]

/-- A read after a write: the value written, and every other number as before. -/
theorem Sparse.look_set (l : List (Nat × α)) (a b : Nat) (v : α) :
    Sparse.look d (Sparse.set d l a v) b = if b = a then v else Sparse.look d l b := by
  have he : ∀ b, Sparse.look d (Sparse.erase l a) b = if b = a then d else Sparse.look d l b := by
    intro b
    rw [Sparse.erase_eq_keep, Sparse.look_keep]
    by_cases h : b = a <;> simp [h]
  unfold Sparse.set
  split
  · rename_i hv
    rw [he, hv]
  · rw [Sparse.look_insert _ _ _ _ (by simp [he]) (by simp [Sparse.erase]), he]
    split_ifs <;> rfl

@[simp] theorem Sparse.look_set_same (l : List (Nat × α)) (a : Nat) (v : α) :
    Sparse.look d (Sparse.set d l a v) a = v := by simp [Sparse.look_set]

theorem Sparse.look_set_ne (l : List (Nat × α)) {a b : Nat} (v : α) (h : b ≠ a) :
    Sparse.look d (Sparse.set d l a v) b = Sparse.look d l b := by simp [Sparse.look_set, h]

/-! ### The canonical form -/

theorem Sparse.wfFrom_mono (l : List (Nat × α)) {m n : Nat} (h : m ≤ n) (hl : Sparse.wfFrom d n l = true) :
    Sparse.wfFrom d m l = true := by
  cases l with
  | nil => rfl
  | cons e t =>
    simp only [Sparse.wfFrom, Bool.and_eq_true, decide_eq_true_eq] at hl ⊢
    exact ⟨⟨by omega, hl.1.2⟩, hl.2⟩

theorem Sparse.wfFrom_keep (p : Nat → Bool) (l : List (Nat × α)) (m : Nat) (h : Sparse.wfFrom d m l = true) :
    Sparse.wfFrom d m (Sparse.keep p l) = true := by
  induction l generalizing m with
  | nil => rfl
  | cons e t ih =>
    simp only [Sparse.wfFrom, Bool.and_eq_true, decide_eq_true_eq] at h
    have ht := ih (e.1 + 1) h.2
    simp only [Sparse.keep, List.filter_cons] at ht ⊢
    split
    · simp only [Sparse.wfFrom, Bool.and_eq_true, decide_eq_true_eq]
      exact ⟨h.1, ht⟩
    · exact Sparse.wfFrom_mono _ (by omega) ht

theorem Sparse.wfFrom_insert (l : List (Nat × α)) (m a : Nat) (v : α) (hm : m ≤ a) (hv : v ≠ d)
    (hl : ∀ e ∈ l, e.1 ≠ a) (h : Sparse.wfFrom d m l = true) :
    Sparse.wfFrom d m (Sparse.insert l a v) = true := by
  induction l generalizing m with
  | nil => simp [Sparse.insert, Sparse.wfFrom, hm, hv]
  | cons e t ih =>
    obtain ⟨k, w⟩ := e
    have hk : k ≠ a := hl (k, w) (by simp)
    simp only [Sparse.wfFrom, Bool.and_eq_true, decide_eq_true_eq] at h
    simp only [Sparse.insert]
    split
    · simp only [Sparse.wfFrom, Bool.and_eq_true, decide_eq_true_eq]
      exact ⟨⟨hm, hv⟩, ⟨by omega, h.1.2⟩, h.2⟩
    · simp only [Sparse.wfFrom, Bool.and_eq_true, decide_eq_true_eq]
      exact ⟨h.1, ih (k + 1) (by omega) (fun e he => hl e (by simp [he])) h.2⟩

/-- A write keeps the canonical form. -/
theorem Sparse.wf_set (l : List (Nat × α)) (a : Nat) (v : α) (h : Sparse.wf d l = true) :
    Sparse.wf d (Sparse.set d l a v) = true := by
  unfold Sparse.set
  have he : Sparse.wfFrom d 0 (Sparse.erase l a) = true := by
    rw [Sparse.erase_eq_keep]
    exact Sparse.wfFrom_keep _ l 0 h
  split
  · exact he
  · exact Sparse.wfFrom_insert _ 0 a v (by omega) (by assumption) (by simp [Sparse.erase]) he

/-- Dropping entries keeps the canonical form. -/
theorem Sparse.wf_keep (p : Nat → Bool) (l : List (Nat × α)) (h : Sparse.wf d l = true) :
    Sparse.wf d (Sparse.keep p l) = true := Sparse.wfFrom_keep p l 0 h

/-- Two canonical stores that read alike are equal data. -/
theorem Sparse.wfFrom_ext (l l' : List (Nat × α)) (m : Nat) (h : Sparse.wfFrom d m l = true)
    (h' : Sparse.wfFrom d m l' = true) (he : ∀ a, Sparse.look d l a = Sparse.look d l' a) : l = l' := by
  have low : ∀ (l : List (Nat × α)) (m a : Nat), Sparse.wfFrom d m l = true → a < m → Sparse.look d l a = d := by
    intro l
    induction l with
    | nil => intros; rfl
    | cons e t ih =>
      intro m a h ha
      simp only [Sparse.wfFrom, Bool.and_eq_true, decide_eq_true_eq] at h
      rw [Sparse.look_cons, if_neg (by omega)]
      exact ih (e.1 + 1) a h.2 (by omega)
  induction l generalizing l' m with
  | nil =>
    cases l' with
    | nil => rfl
    | cons e t =>
      obtain ⟨k, v⟩ := e
      simp only [Sparse.wfFrom, Bool.and_eq_true, decide_eq_true_eq] at h'
      have := he k
      rw [Sparse.look_nil, Sparse.look_cons, if_pos rfl] at this
      exact absurd this.symm h'.1.2
  | cons e t ih =>
    obtain ⟨k, v⟩ := e
    simp only [Sparse.wfFrom, Bool.and_eq_true, decide_eq_true_eq] at h
    cases l' with
    | nil =>
      have := he k
      simp [Sparse.look_cons] at this
      exact absurd this h.1.2
    | cons e' t' =>
      obtain ⟨k', v'⟩ := e'
      simp only [Sparse.wfFrom, Bool.and_eq_true, decide_eq_true_eq] at h'
      have hk : k = k' := by
        rcases Nat.lt_trichotomy k k' with hlt | heq | hgt
        · have := he k
          rw [Sparse.look_cons, if_pos rfl, Sparse.look_cons, if_neg (by omega), low t' (k' + 1) k h'.2 (by omega)] at this
          exact absurd this h.1.2
        · exact heq
        · have := he k'
          rw [Sparse.look_cons, if_neg (by omega), Sparse.look_cons, if_pos rfl, low t (k + 1) k' h.2 (by omega)] at this
          exact absurd this.symm h'.1.2
      subst hk
      have hv : v = v' := by simpa [Sparse.look_cons] using he k
      subst hv
      congr 1
      refine ih t' (k + 1) h.2 h'.2 (fun a => ?_)
      by_cases hak : a = k
      · subst hak
        rw [low t _ _ h.2 (by omega), low t' _ _ h'.2 (by omega)]
      · simpa [Sparse.look_cons, hak] using he a

end Sys2Proof.Machine
end

