-- ==== Sys2Proof/Laws/State.lean ====
section
/-! SUPPORT. The laws of the state: what each named update leaves unchanged, and reads after writes of fields and bytes. -/

namespace Sys2Proof.Machine

variable (s : State)

@[simp] theorem State.put_mem (f : Fld) (v : Nat) : (s.put f v).mem = s.mem := rfl
@[simp] theorem State.put_ret (f : Fld) (v : Nat) : (s.put f v).ret = s.ret := rfl
@[simp] theorem State.put_ecc (f : Fld) (v : Nat) : (s.put f v).ecc = s.ecc := rfl
@[simp] theorem State.put_readHold (f : Fld) (v : Nat) : (s.put f v).readHold = s.readHold := rfl
@[simp] theorem State.put_writeHold (f : Fld) (v : Nat) : (s.put f v).writeHold = s.writeHold := rfl
@[simp] theorem State.put_codeHold (f : Fld) (v : Nat) : (s.put f v).codeHold = s.codeHold := rfl
@[simp] theorem State.put_slots (f : Fld) (v : Nat) : (s.put f v).slots = s.slots := rfl
@[simp] theorem State.put_exec (f : Fld) (v : Nat) : (s.put f v).exec = s.exec := rfl
@[simp] theorem State.put_coming (f : Fld) (v : Nat) : (s.put f v).coming = s.coming := rfl
@[simp] theorem State.put_window (f : Fld) (v : Nat) : (s.put f v).window = s.window := rfl
@[simp] theorem State.put_antq (f : Fld) (v : Nat) : (s.put f v).antq = s.antq := rfl
@[simp] theorem State.put_rx (f : Fld) (v : Nat) : (s.put f v).rx = s.rx := rfl
@[simp] theorem State.put_txBuf (f : Fld) (v : Nat) : (s.put f v).txBuf = s.txBuf := rfl
@[simp] theorem State.put_txMsg (f : Fld) (v : Nat) : (s.put f v).txMsg = s.txMsg := rfl
@[simp] theorem State.put_staged (f : Fld) (v : Nat) : (s.put f v).staged = s.staged := rfl
@[simp] theorem State.put_jobs (f : Fld) (v : Nat) : (s.put f v).jobs = s.jobs := rfl
@[simp] theorem State.put_canq (f : Fld) (v : Nat) : (s.put f v).canq = s.canq := rfl
@[simp] theorem State.put_sent (f : Fld) (v : Nat) : (s.put f v).sent = s.sent := rfl
@[simp] theorem State.put_pending (f : Fld) (v : Nat) : (s.put f v).pending = s.pending := rfl

@[simp] theorem State.setByte_regs (a : Nat) (b : BitVec 8) : (s.setByte a b).regs = s.regs := rfl
@[simp] theorem State.setByte_ret (a : Nat) (b : BitVec 8) : (s.setByte a b).ret = s.ret := rfl
@[simp] theorem State.setByte_ecc (a : Nat) (b : BitVec 8) : (s.setByte a b).ecc = s.ecc := rfl
@[simp] theorem State.setByte_readHold (a : Nat) (b : BitVec 8) : (s.setByte a b).readHold = s.readHold := rfl
@[simp] theorem State.setByte_writeHold (a : Nat) (b : BitVec 8) : (s.setByte a b).writeHold = s.writeHold := rfl
@[simp] theorem State.setByte_codeHold (a : Nat) (b : BitVec 8) : (s.setByte a b).codeHold = s.codeHold := rfl
@[simp] theorem State.setByte_slots (a : Nat) (b : BitVec 8) : (s.setByte a b).slots = s.slots := rfl
@[simp] theorem State.setByte_exec (a : Nat) (b : BitVec 8) : (s.setByte a b).exec = s.exec := rfl
@[simp] theorem State.setByte_coming (a : Nat) (b : BitVec 8) : (s.setByte a b).coming = s.coming := rfl
@[simp] theorem State.setByte_window (a : Nat) (b : BitVec 8) : (s.setByte a b).window = s.window := rfl
@[simp] theorem State.setByte_antq (a : Nat) (b : BitVec 8) : (s.setByte a b).antq = s.antq := rfl
@[simp] theorem State.setByte_rx (a : Nat) (b : BitVec 8) : (s.setByte a b).rx = s.rx := rfl
@[simp] theorem State.setByte_txBuf (a : Nat) (b : BitVec 8) : (s.setByte a b).txBuf = s.txBuf := rfl
@[simp] theorem State.setByte_txMsg (a : Nat) (b : BitVec 8) : (s.setByte a b).txMsg = s.txMsg := rfl
@[simp] theorem State.setByte_staged (a : Nat) (b : BitVec 8) : (s.setByte a b).staged = s.staged := rfl
@[simp] theorem State.setByte_jobs (a : Nat) (b : BitVec 8) : (s.setByte a b).jobs = s.jobs := rfl
@[simp] theorem State.setByte_canq (a : Nat) (b : BitVec 8) : (s.setByte a b).canq = s.canq := rfl
@[simp] theorem State.setByte_sent (a : Nat) (b : BitVec 8) : (s.setByte a b).sent = s.sent := rfl
@[simp] theorem State.setByte_pending (a : Nat) (b : BitVec 8) : (s.setByte a b).pending = s.pending := rfl

@[simp] theorem State.setRetByte_regs (a : Nat) (b : BitVec 8) : (s.setRetByte a b).regs = s.regs := rfl
@[simp] theorem State.setRetByte_mem (a : Nat) (b : BitVec 8) : (s.setRetByte a b).mem = s.mem := rfl
@[simp] theorem State.setRetByte_ecc (a : Nat) (b : BitVec 8) : (s.setRetByte a b).ecc = s.ecc := rfl
@[simp] theorem State.setRetByte_readHold (a : Nat) (b : BitVec 8) : (s.setRetByte a b).readHold = s.readHold := rfl
@[simp] theorem State.setRetByte_writeHold (a : Nat) (b : BitVec 8) : (s.setRetByte a b).writeHold = s.writeHold := rfl
@[simp] theorem State.setRetByte_codeHold (a : Nat) (b : BitVec 8) : (s.setRetByte a b).codeHold = s.codeHold := rfl
@[simp] theorem State.setRetByte_slots (a : Nat) (b : BitVec 8) : (s.setRetByte a b).slots = s.slots := rfl
@[simp] theorem State.setRetByte_exec (a : Nat) (b : BitVec 8) : (s.setRetByte a b).exec = s.exec := rfl
@[simp] theorem State.setRetByte_coming (a : Nat) (b : BitVec 8) : (s.setRetByte a b).coming = s.coming := rfl
@[simp] theorem State.setRetByte_window (a : Nat) (b : BitVec 8) : (s.setRetByte a b).window = s.window := rfl
@[simp] theorem State.setRetByte_antq (a : Nat) (b : BitVec 8) : (s.setRetByte a b).antq = s.antq := rfl
@[simp] theorem State.setRetByte_rx (a : Nat) (b : BitVec 8) : (s.setRetByte a b).rx = s.rx := rfl
@[simp] theorem State.setRetByte_txBuf (a : Nat) (b : BitVec 8) : (s.setRetByte a b).txBuf = s.txBuf := rfl
@[simp] theorem State.setRetByte_txMsg (a : Nat) (b : BitVec 8) : (s.setRetByte a b).txMsg = s.txMsg := rfl
@[simp] theorem State.setRetByte_staged (a : Nat) (b : BitVec 8) : (s.setRetByte a b).staged = s.staged := rfl
@[simp] theorem State.setRetByte_jobs (a : Nat) (b : BitVec 8) : (s.setRetByte a b).jobs = s.jobs := rfl
@[simp] theorem State.setRetByte_canq (a : Nat) (b : BitVec 8) : (s.setRetByte a b).canq = s.canq := rfl
@[simp] theorem State.setRetByte_sent (a : Nat) (b : BitVec 8) : (s.setRetByte a b).sent = s.sent := rfl
@[simp] theorem State.setRetByte_pending (a : Nat) (b : BitVec 8) : (s.setRetByte a b).pending = s.pending := rfl

@[simp] theorem State.send_regs (m : Sent) : (s.send m).regs = s.regs := rfl
@[simp] theorem State.send_mem (m : Sent) : (s.send m).mem = s.mem := rfl
@[simp] theorem State.send_ret (m : Sent) : (s.send m).ret = s.ret := rfl
@[simp] theorem State.send_ecc (m : Sent) : (s.send m).ecc = s.ecc := rfl
@[simp] theorem State.send_readHold (m : Sent) : (s.send m).readHold = s.readHold := rfl
@[simp] theorem State.send_writeHold (m : Sent) : (s.send m).writeHold = s.writeHold := rfl
@[simp] theorem State.send_codeHold (m : Sent) : (s.send m).codeHold = s.codeHold := rfl
@[simp] theorem State.send_slots (m : Sent) : (s.send m).slots = s.slots := rfl
@[simp] theorem State.send_exec (m : Sent) : (s.send m).exec = s.exec := rfl
@[simp] theorem State.send_coming (m : Sent) : (s.send m).coming = s.coming := rfl
@[simp] theorem State.send_window (m : Sent) : (s.send m).window = s.window := rfl
@[simp] theorem State.send_antq (m : Sent) : (s.send m).antq = s.antq := rfl
@[simp] theorem State.send_rx (m : Sent) : (s.send m).rx = s.rx := rfl
@[simp] theorem State.send_txBuf (m : Sent) : (s.send m).txBuf = s.txBuf := rfl
@[simp] theorem State.send_txMsg (m : Sent) : (s.send m).txMsg = s.txMsg := rfl
@[simp] theorem State.send_staged (m : Sent) : (s.send m).staged = s.staged := rfl
@[simp] theorem State.send_jobs (m : Sent) : (s.send m).jobs = s.jobs := rfl
@[simp] theorem State.send_canq (m : Sent) : (s.send m).canq = s.canq := rfl
@[simp] theorem State.send_pending (m : Sent) : (s.send m).pending = s.pending := rfl

@[simp] theorem State.keepKeys_mem (p : Nat → Bool) : (s.keepKeys p).mem = s.mem := rfl
@[simp] theorem State.keepKeys_ret (p : Nat → Bool) : (s.keepKeys p).ret = s.ret := rfl
@[simp] theorem State.keepKeys_ecc (p : Nat → Bool) : (s.keepKeys p).ecc = s.ecc := rfl
@[simp] theorem State.keepKeys_readHold (p : Nat → Bool) : (s.keepKeys p).readHold = s.readHold := rfl
@[simp] theorem State.keepKeys_writeHold (p : Nat → Bool) : (s.keepKeys p).writeHold = s.writeHold := rfl
@[simp] theorem State.keepKeys_codeHold (p : Nat → Bool) : (s.keepKeys p).codeHold = s.codeHold := rfl
@[simp] theorem State.keepKeys_slots (p : Nat → Bool) : (s.keepKeys p).slots = s.slots := rfl
@[simp] theorem State.keepKeys_exec (p : Nat → Bool) : (s.keepKeys p).exec = s.exec := rfl
@[simp] theorem State.keepKeys_coming (p : Nat → Bool) : (s.keepKeys p).coming = s.coming := rfl
@[simp] theorem State.keepKeys_window (p : Nat → Bool) : (s.keepKeys p).window = s.window := rfl
@[simp] theorem State.keepKeys_antq (p : Nat → Bool) : (s.keepKeys p).antq = s.antq := rfl
@[simp] theorem State.keepKeys_rx (p : Nat → Bool) : (s.keepKeys p).rx = s.rx := rfl
@[simp] theorem State.keepKeys_txBuf (p : Nat → Bool) : (s.keepKeys p).txBuf = s.txBuf := rfl
@[simp] theorem State.keepKeys_txMsg (p : Nat → Bool) : (s.keepKeys p).txMsg = s.txMsg := rfl
@[simp] theorem State.keepKeys_staged (p : Nat → Bool) : (s.keepKeys p).staged = s.staged := rfl
@[simp] theorem State.keepKeys_jobs (p : Nat → Bool) : (s.keepKeys p).jobs = s.jobs := rfl
@[simp] theorem State.keepKeys_canq (p : Nat → Bool) : (s.keepKeys p).canq = s.canq := rfl
@[simp] theorem State.keepKeys_sent (p : Nat → Bool) : (s.keepKeys p).sent = s.sent := rfl
@[simp] theorem State.keepKeys_pending (p : Nat → Bool) : (s.keepKeys p).pending = s.pending := rfl

@[simp] theorem State.clearMem_regs (lo hi : Nat) : (s.clearMem lo hi).regs = s.regs := rfl
@[simp] theorem State.clearMem_ret (lo hi : Nat) : (s.clearMem lo hi).ret = s.ret := rfl
@[simp] theorem State.clearMem_readHold (lo hi : Nat) : (s.clearMem lo hi).readHold = s.readHold := rfl
@[simp] theorem State.clearMem_writeHold (lo hi : Nat) : (s.clearMem lo hi).writeHold = s.writeHold := rfl
@[simp] theorem State.clearMem_codeHold (lo hi : Nat) : (s.clearMem lo hi).codeHold = s.codeHold := rfl
@[simp] theorem State.clearMem_slots (lo hi : Nat) : (s.clearMem lo hi).slots = s.slots := rfl
@[simp] theorem State.clearMem_exec (lo hi : Nat) : (s.clearMem lo hi).exec = s.exec := rfl
@[simp] theorem State.clearMem_coming (lo hi : Nat) : (s.clearMem lo hi).coming = s.coming := rfl
@[simp] theorem State.clearMem_window (lo hi : Nat) : (s.clearMem lo hi).window = s.window := rfl
@[simp] theorem State.clearMem_antq (lo hi : Nat) : (s.clearMem lo hi).antq = s.antq := rfl
@[simp] theorem State.clearMem_rx (lo hi : Nat) : (s.clearMem lo hi).rx = s.rx := rfl
@[simp] theorem State.clearMem_txBuf (lo hi : Nat) : (s.clearMem lo hi).txBuf = s.txBuf := rfl
@[simp] theorem State.clearMem_txMsg (lo hi : Nat) : (s.clearMem lo hi).txMsg = s.txMsg := rfl
@[simp] theorem State.clearMem_staged (lo hi : Nat) : (s.clearMem lo hi).staged = s.staged := rfl
@[simp] theorem State.clearMem_jobs (lo hi : Nat) : (s.clearMem lo hi).jobs = s.jobs := rfl
@[simp] theorem State.clearMem_canq (lo hi : Nat) : (s.clearMem lo hi).canq = s.canq := rfl
@[simp] theorem State.clearMem_sent (lo hi : Nat) : (s.clearMem lo hi).sent = s.sent := rfl
@[simp] theorem State.clearMem_pending (lo hi : Nat) : (s.clearMem lo hi).pending = s.pending := rfl

@[simp] theorem State.withPending_regs (l : List Instr) : (s.withPending l).regs = s.regs := rfl
@[simp] theorem State.withPending_mem (l : List Instr) : (s.withPending l).mem = s.mem := rfl
@[simp] theorem State.withPending_ret (l : List Instr) : (s.withPending l).ret = s.ret := rfl
@[simp] theorem State.withPending_ecc (l : List Instr) : (s.withPending l).ecc = s.ecc := rfl
@[simp] theorem State.withPending_readHold (l : List Instr) : (s.withPending l).readHold = s.readHold := rfl
@[simp] theorem State.withPending_writeHold (l : List Instr) : (s.withPending l).writeHold = s.writeHold := rfl
@[simp] theorem State.withPending_codeHold (l : List Instr) : (s.withPending l).codeHold = s.codeHold := rfl
@[simp] theorem State.withPending_slots (l : List Instr) : (s.withPending l).slots = s.slots := rfl
@[simp] theorem State.withPending_exec (l : List Instr) : (s.withPending l).exec = s.exec := rfl
@[simp] theorem State.withPending_coming (l : List Instr) : (s.withPending l).coming = s.coming := rfl
@[simp] theorem State.withPending_window (l : List Instr) : (s.withPending l).window = s.window := rfl
@[simp] theorem State.withPending_antq (l : List Instr) : (s.withPending l).antq = s.antq := rfl
@[simp] theorem State.withPending_rx (l : List Instr) : (s.withPending l).rx = s.rx := rfl
@[simp] theorem State.withPending_txBuf (l : List Instr) : (s.withPending l).txBuf = s.txBuf := rfl
@[simp] theorem State.withPending_txMsg (l : List Instr) : (s.withPending l).txMsg = s.txMsg := rfl
@[simp] theorem State.withPending_staged (l : List Instr) : (s.withPending l).staged = s.staged := rfl
@[simp] theorem State.withPending_jobs (l : List Instr) : (s.withPending l).jobs = s.jobs := rfl
@[simp] theorem State.withPending_canq (l : List Instr) : (s.withPending l).canq = s.canq := rfl
@[simp] theorem State.withPending_sent (l : List Instr) : (s.withPending l).sent = s.sent := rfl

@[simp] theorem State.withPending_pending (l : List Instr) : (s.withPending l).pending = l := rfl
@[simp] theorem State.send_sent (m : Sent) : (s.send m).sent = s.sent ++ [m] := rfl

/-! ### Fields -/

/-- A field after a write of a field: the low bits written where the two are one, else as before. -/
theorem State.get_put (f g : Fld) (v : Nat) :
    (s.put f v).get g = if g.id = f.id then (((v % 2 ^ f.len) ^^^ f.rst) ^^^ g.rst) % 2 ^ g.len else s.get g := by
  unfold State.get State.put
  simp only [Sparse.look_set]
  split <;> rfl

@[simp] theorem State.get_put_same (f : Fld) (v : Nat) : (s.put f v).get f = v % 2 ^ f.len := by
  rw [State.get_put, if_pos rfl, Nat.xor_assoc, Nat.xor_self, Nat.xor_zero, Nat.mod_mod]

theorem State.get_put_ne {f g : Fld} (v : Nat) (h : g.id ≠ f.id) : (s.put f v).get g = s.get g := by
  rw [State.get_put, if_neg h]

/-- A field never holds more than its width. -/
theorem State.get_lt (f : Fld) : s.get f < 2 ^ f.len := Nat.mod_lt _ (Nat.two_pow_pos _)

/-- A field depends on the field store alone. -/
theorem State.get_congr {s t : State} (h : t.regs = s.regs) (f : Fld) : t.get f = s.get f := by
  unfold State.get
  rw [h]

@[simp] theorem State.get_setByte (a : Nat) (b : BitVec 8) (f : Fld) : (s.setByte a b).get f = s.get f := rfl
@[simp] theorem State.get_setRetByte (a : Nat) (b : BitVec 8) (f : Fld) : (s.setRetByte a b).get f = s.get f := rfl
@[simp] theorem State.get_send (m : Sent) (f : Fld) : (s.send m).get f = s.get f := rfl
@[simp] theorem State.get_withPending (l : List Instr) (f : Fld) : (s.withPending l).get f = s.get f := rfl

/-- A field at reset holds its reset value. -/
theorem State.get_reset (f : Fld) : State.reset.get f = f.rst % 2 ^ f.len := by
  simp [State.get, State.reset]

/-! ### Bytes -/

theorem State.byte_setByte (a b : Nat) (v : BitVec 8) :
    (s.setByte a v).byte b = if b = a then v else s.byte b := Sparse.look_set _ _ _ _

@[simp] theorem State.byte_put (f : Fld) (v a : Nat) : (s.put f v).byte a = s.byte a := rfl
@[simp] theorem State.byte_send (m : Sent) (a : Nat) : (s.send m).byte a = s.byte a := rfl

theorem State.retByte_setRetByte (a b : Nat) (v : BitVec 8) :
    (s.setRetByte a v).retByte b = if b = a then v else s.retByte b := Sparse.look_set _ _ _ _

@[simp] theorem State.retByte_put (f : Fld) (v a : Nat) : (s.put f v).retByte a = s.retByte a := rfl
@[simp] theorem State.retByte_send (m : Sent) (a : Nat) : (s.send m).retByte a = s.retByte a := rfl

/-! ### Conditional and repeated effects -/

@[simp] theorem State.on_true (g : State → State) : s.on true g = g s := rfl
@[simp] theorem State.on_false (g : State → State) : s.on false g = s := rfl
@[simp] theorem State.each_nil {β : Type} (g : State → β → State) : s.each [] g = s := rfl
@[simp] theorem State.each_cons {β : Type} (x : β) (l : List β) (g : State → β → State) :
    s.each (x :: l) g = (g s x).each l g := rfl

end Sys2Proof.Machine
end

