-- ==== Sys2Proof/Laws/Frame.lean ====
section
/-! SUPPORT. The calculus of frames: what a command may change, composed from what its operations may change. -/

namespace Sys2Proof.Machine

/-- Whatever `F` allows, `G` allows. -/
structure Footprint.le (F G : Footprint) : Prop where
  fld : ∀ i, F.fld i = true → G.fld i = true
  mem : ∀ a, F.mem a = true → G.mem a = true
  ret : ∀ a, F.ret a = true → G.ret a = true
  ecc : ∀ w, F.ecc w = true → G.ecc w = true
  part : ∀ q, F.part q = true → G.part q = true

variable {F G : Footprint} {s t u : State}

theorem Part.same_refl (s : State) (q : Part) : q.same s s := by cases q <;> rfl

theorem Part.same_trans {q : Part} (h : q.same s t) (h' : q.same t u) : q.same s u := by
  cases q <;> exact Eq.trans h' h

theorem Footprint.le_refl (F : Footprint) : F.le F := ⟨fun _ h => h, fun _ h => h, fun _ h => h, fun _ h => h, fun _ h => h⟩

theorem Footprint.le_or_left (F G : Footprint) : F.le (F.or G) := by
  constructor <;> intro _ h <;> simp [Footprint.or, h]

theorem Footprint.le_or_right (F G : Footprint) : G.le (F.or G) := by
  constructor <;> intro _ h <;> simp [Footprint.or, h]

theorem Footprint.le_trans {F G H : Footprint} (h : F.le G) (h' : G.le H) : F.le H :=
  ⟨fun i a => h'.fld i (h.fld i a), fun i a => h'.mem i (h.mem i a), fun i a => h'.ret i (h.ret i a),
   fun i a => h'.ecc i (h.ecc i a), fun i a => h'.part i (h.part i a)⟩

theorem Frame.refl (F : Footprint) (s : State) : Frame F s s :=
  ⟨fun _ _ => rfl, fun _ _ => rfl, fun _ _ => rfl, fun _ _ => rfl, fun q _ => Part.same_refl s q⟩

theorem Frame.trans (h : Frame F s t) (h' : Frame F t u) : Frame F s u :=
  ⟨fun f a => (h'.fld f a).trans (h.fld f a), fun b a => (h'.mem b a).trans (h.mem b a),
   fun b a => (h'.ret b a).trans (h.ret b a), fun b a => (h'.ecc b a).trans (h.ecc b a),
   fun q a => Part.same_trans (h.part q a) (h'.part q a)⟩

/-- A frame holds for every wider footprint. -/
theorem Frame.mono (h : Frame F s t) (hl : F.le G) : Frame G s t := by
  have neg : ∀ {a b : Bool}, (a = true → b = true) → b = false → a = false := by
    intro a b hab hb
    cases a
    · rfl
    · rw [hab rfl] at hb
      exact absurd hb (by simp)
  exact ⟨fun f a => h.fld f (neg (hl.fld _) a), fun b a => h.mem b (neg (hl.mem _) a),
    fun b a => h.ret b (neg (hl.ret _) a), fun b a => h.ecc b (neg (hl.ecc _) a),
    fun q a => h.part q (neg (hl.part _) a)⟩

theorem Frame.left (h : Frame F s t) : Frame (F.or G) s t := h.mono (Footprint.le_or_left F G)

theorem Frame.right (h : Frame G s t) : Frame (F.or G) s t := h.mono (Footprint.le_or_right F G)

/-- Writing a field that the footprint allows. -/
theorem Frame.put (h : Frame F s t) {f : Fld} (hf : F.fld f.id = true) (v : Nat) : Frame F s (t.put f v) := by
  refine ⟨fun g hg => ?_, h.mem, h.ret, h.ecc, fun q hq => ?_⟩
  · rw [State.get_put_ne _ _ (by intro e; rw [e, hf] at hg; exact absurd hg (by simp))]
    exact h.fld g hg
  · exact Part.same_trans (h.part q hq) (by cases q <;> rfl)

theorem Frame.putB (h : Frame F s t) {f : Fld} (hf : F.fld f.id = true) (b : Bool) : Frame F s (t.putB f b) :=
  h.put hf _

theorem Frame.putI (h : Frame F s t) {f : Fld} (hf : F.fld f.id = true) (z : Int) : Frame F s (t.putI f z) :=
  h.put hf _

theorem Frame.putSat (h : Frame F s t) {f : Fld} (hf : F.fld f.id = true) (v : Nat) : Frame F s (t.putSat f v) :=
  h.put hf _

theorem Frame.orF (h : Frame F s t) {f : Fld} (hf : F.fld f.id = true) (m : Nat) : Frame F s (t.orF f m) :=
  h.put hf _

theorem Frame.clrF (h : Frame F s t) {f : Fld} (hf : F.fld f.id = true) (m : Nat) : Frame F s (t.clrF f m) :=
  h.put hf _

theorem Frame.putBit (h : Frame F s t) {f : Fld} (hf : F.fld f.id = true) (i : Nat) (b : Bool) :
    Frame F s (t.putBit f i b) := by
  cases b
  · exact h.clrF hf _
  · exact h.orF hf _

theorem Frame.inc (h : Frame F s t) {f : Fld} (hf : F.fld f.id = true) : Frame F s (t.inc f) := h.put hf _

theorem Frame.wrapInc (h : Frame F s t) {f : Fld} (hf : F.fld f.id = true) : Frame F s (t.wrapInc f) := h.put hf _

theorem Frame.evt (h : Frame F s t) {p : Nat} (hf : F.fld (PAGE_IRQ_STAT.EVT p).id = true) (i : Nat) :
    Frame F s (t.evt p i) := h.put hf _

/-- Writing a byte of the windows that the footprint allows. -/
theorem Frame.setByte (h : Frame F s t) {a : Nat} (ha : F.mem a = true) (b : BitVec 8) : Frame F s (t.setByte a b) := by
  refine ⟨h.fld, fun c hc => ?_, h.ret, h.ecc, fun q hq => Part.same_trans (h.part q hq) (by cases q <;> rfl)⟩
  rw [State.byte_setByte, if_neg (by intro e; rw [e, ha] at hc; exact absurd hc (by simp))]
  exact h.mem c hc

/-- Writing a byte of the retention SRAM that the footprint allows. -/
theorem Frame.setRetByte (h : Frame F s t) {a : Nat} (ha : F.ret a = true) (b : BitVec 8) :
    Frame F s (t.setRetByte a b) := by
  refine ⟨h.fld, h.mem, fun c hc => ?_, h.ecc, fun q hq => Part.same_trans (h.part q hq) (by cases q <;> rfl)⟩
  rw [State.retByte_setRetByte, if_neg (by intro e; rw [e, ha] at hc; exact absurd hc (by simp))]
  exact h.ret c hc

/-- Sending, where the footprint allows the list of what was sent. -/
theorem Frame.send (h : Frame F s t) (hs : F.part .sent = true) (m : Sent) : Frame F s (t.send m) := by
  refine ⟨h.fld, h.mem, h.ret, h.ecc, fun q hq => Part.same_trans (h.part q hq) ?_⟩
  cases q <;> first | rfl | (rw [hs] at hq; exact absurd hq (by simp))

/-- A conditional effect. -/
theorem Frame.on (h : Frame F s t) (b : Bool) {g : State → State} (hg : b = true → Frame F s t → Frame F s (g t)) :
    Frame F s (t.on b g) := by
  cases b
  · exact h
  · exact hg rfl h

/-- An effect for each member of a list. -/
theorem Frame.each {β : Type} (h : Frame F s t) (l : List β) {g : State → β → State}
    (hg : ∀ u x, x ∈ l → Frame F s u → Frame F s (g u x)) : Frame F s (t.each l g) := by
  induction l generalizing t with
  | nil => exact h
  | cons x l ih => exact ih (hg t x (by simp) h) (fun u y hy => hg u y (by simp [hy]))

/-- The fields of a list. -/
theorem Footprint.mem_fields {l : List Fld} {f : Fld} (h : f ∈ l) : (Footprint.fields l).fld f.id = true := by
  simpa [Footprint.fields] using ⟨f, h, rfl⟩

end Sys2Proof.Machine
end

