-- ==== Sys2Proof/Laws/Ops.lean ====
section
/-! SUPPORT. What the operations over memory, fields and the queue do: each keeps the canonical form and the queue of the
commands that wait, and what each may change. -/

namespace Sys2Proof.Machine

/-! ### The canonical form -/

theorem Memory.wf_iff (s : State) : Memory.wf s = true ↔
    Sparse.wf 0 s.regs = true ∧ Sparse.wf 0 s.mem = true ∧ Sparse.wf 0 s.ret = true ∧ Sparse.wf 0 s.ecc = true := by
  simp [Memory.wf, and_assoc]

/-- A change beside the four stores keeps the canonical form. -/
theorem Memory.wf_congr {s t : State} (hr : t.regs = s.regs) (hm : t.mem = s.mem) (hn : t.ret = s.ret) (he : t.ecc = s.ecc)
    (h : Memory.wf s = true) : Memory.wf t = true := by
  unfold Memory.wf at *
  rw [hr, hm, hn, he]
  exact h

theorem Memory.wf_reset : Memory.wf State.reset = true := by decide

theorem Memory.wf_put {s : State} (h : Memory.wf s = true) (f : Fld) (v : Nat) : Memory.wf (s.put f v) = true := by
  rw [Memory.wf_iff] at *
  exact ⟨Sparse.wf_set _ _ _ h.1, h.2.1, h.2.2.1, h.2.2.2⟩

theorem Memory.wf_putB {s : State} (h : Memory.wf s = true) (f : Fld) (b : Bool) : Memory.wf (s.putB f b) = true :=
  Memory.wf_put h f _

theorem Memory.wf_putI {s : State} (h : Memory.wf s = true) (f : Fld) (z : Int) : Memory.wf (s.putI f z) = true :=
  Memory.wf_put h f _

theorem Memory.wf_putSat {s : State} (h : Memory.wf s = true) (f : Fld) (v : Nat) : Memory.wf (s.putSat f v) = true :=
  Memory.wf_put h f _

theorem Memory.wf_orF {s : State} (h : Memory.wf s = true) (f : Fld) (m : Nat) : Memory.wf (s.orF f m) = true :=
  Memory.wf_put h f _

theorem Memory.wf_clrF {s : State} (h : Memory.wf s = true) (f : Fld) (m : Nat) : Memory.wf (s.clrF f m) = true :=
  Memory.wf_put h f _

theorem Memory.wf_putBit {s : State} (h : Memory.wf s = true) (f : Fld) (i : Nat) (b : Bool) :
    Memory.wf (s.putBit f i b) = true := by
  cases b
  · exact Memory.wf_clrF h f _
  · exact Memory.wf_orF h f _

theorem Memory.wf_inc {s : State} (h : Memory.wf s = true) (f : Fld) : Memory.wf (s.inc f) = true := Memory.wf_put h f _

theorem Memory.wf_wrapInc {s : State} (h : Memory.wf s = true) (f : Fld) : Memory.wf (s.wrapInc f) = true :=
  Memory.wf_put h f _

theorem Memory.wf_put64 {s : State} (h : Memory.wf s = true) (f g : Fld) (v : Nat) : Memory.wf (s.put64 f g v) = true :=
  Memory.wf_put (Memory.wf_put h f _) g _

theorem Memory.wf_keepKeys {s : State} (h : Memory.wf s = true) (p : Nat → Bool) : Memory.wf (s.keepKeys p) = true := by
  rw [Memory.wf_iff] at *
  exact ⟨Sparse.wf_keep (fun i => p (i / 32)) _ h.1, h.2.1, h.2.2.1, h.2.2.2⟩

theorem Memory.wf_setByte {s : State} (h : Memory.wf s = true) (a : Nat) (b : BitVec 8) :
    Memory.wf (s.setByte a b) = true := by
  rw [Memory.wf_iff] at *
  exact ⟨h.1, Sparse.wf_set _ _ _ h.2.1, h.2.2.1, h.2.2.2⟩

theorem Memory.wf_setRetByte {s : State} (h : Memory.wf s = true) (a : Nat) (b : BitVec 8) :
    Memory.wf (s.setRetByte a b) = true := by
  rw [Memory.wf_iff] at *
  exact ⟨h.1, h.2.1, Sparse.wf_set _ _ _ h.2.2.1, h.2.2.2⟩

/-- Writing a check-bit condition. -/
theorem Memory.wf_setEcc {s : State} (h : Memory.wf s = true) (w m : Nat) :
    Memory.wf { s with ecc := Sparse.set 0 s.ecc w m } = true := by
  rw [Memory.wf_iff] at *
  exact ⟨h.1, h.2.1, h.2.2.1, Sparse.wf_set _ _ _ h.2.2.2⟩

theorem Memory.wf_setLe {s : State} (h : Memory.wf s = true) (a v n : Nat) : Memory.wf (s.setLe a v n) = true := by
  induction n generalizing s a v with
  | zero => exact h
  | succ n ih => exact ih (Memory.wf_setByte h a _) (a + 1) (v / 256)

theorem Memory.wf_eccStore {s : State} (h : Memory.wf s = true) (w : Nat) : Memory.wf (s.eccStore w) = true := by
  unfold State.eccStore
  dsimp only
  split
  · exact Memory.wf_orF (Memory.wf_put (Memory.wf_setEcc h _ _) _ _) _ _
  · exact Memory.wf_setEcc h _ _

theorem Memory.wf_eccHalf {s : State} (h : Memory.wf s = true) (w i : Nat) : Memory.wf (s.eccHalf w i) = true := by
  unfold State.eccHalf
  dsimp only
  split
  · exact Memory.wf_eccStore h _
  · split
    · exact Memory.wf_eccStore h _
    · exact Memory.wf_setEcc h _ _

theorem Memory.wf_setWord {s : State} (h : Memory.wf s = true) (a v : Nat) : Memory.wf (s.setWord a v) = true :=
  Memory.wf_eccHalf (Memory.wf_setLe h a v 4) _ _

theorem Memory.wf_setDouble {s : State} (h : Memory.wf s = true) (a v : Nat) : Memory.wf (s.setDouble a v) = true :=
  Memory.wf_eccStore (Memory.wf_setLe h a v 8) _

theorem Memory.wf_setRetWord {s : State} (h : Memory.wf s = true) (a v : Nat) : Memory.wf (s.setRetWord a v) = true :=
  Memory.wf_eccHalf (Memory.wf_setRetByte (Memory.wf_setRetByte (Memory.wf_setRetByte (Memory.wf_setRetByte h _ _) _ _) _ _) _ _)
    _ _

theorem Memory.wf_clearMem {s : State} (h : Memory.wf s = true) (lo hi : Nat) : Memory.wf (s.clearMem lo hi) = true := by
  rw [Memory.wf_iff] at *
  exact ⟨h.1, Sparse.wf_keep (fun a => decide (a < lo) || decide (hi ≤ a)) _ h.2.1, h.2.2.1,
    Sparse.wf_keep (fun w => decide (w < lo / 8) || decide (hi / 8 ≤ w)) _ h.2.2.2⟩

theorem Memory.wf_send {s : State} (h : Memory.wf s = true) (m : Sent) : Memory.wf (s.send m) = true := h

theorem Memory.wf_withPending {s : State} (h : Memory.wf s = true) (l : List Instr) : Memory.wf (s.withPending l) = true := h

theorem Memory.wf_on {s : State} (h : Memory.wf s = true) (b : Bool) {g : State → State}
    (hg : Memory.wf s = true → Memory.wf (g s) = true) : Memory.wf (s.on b g) = true := by
  cases b
  · exact h
  · exact hg h

theorem Memory.wf_each {β : Type} {s : State} (h : Memory.wf s = true) (l : List β) {g : State → β → State}
    (hg : ∀ t x, Memory.wf t = true → Memory.wf (g t x) = true) : Memory.wf (s.each l g) = true := by
  induction l generalizing s with
  | nil => exact h
  | cons x l ih => exact ih (hg s x h)

/-- Two states in the canonical form whose stores read alike have equal stores. -/
theorem Memory.ext {s t : State} (hs : Memory.wf s = true) (ht : Memory.wf t = true) (h : ∀ a, s.byte a = t.byte a) :
    s.mem = t.mem :=
  Sparse.wfFrom_ext _ _ 0 ((Memory.wf_iff s).mp hs).2.1 ((Memory.wf_iff t).mp ht).2.1 h

/-! ### Bytes and words -/

theorem State.byte_setLe (s : State) (a v n b : Nat) (h : b < a ∨ a + n ≤ b) : (s.setLe a v n).byte b = s.byte b := by
  induction n generalizing s a v with
  | zero => rfl
  | succ n ih =>
    rw [State.setLe, ih _ _ _ (by omega), State.byte_setByte, if_neg (by omega)]

/-- A number written is the number read, cut to its bytes. -/
theorem State.leNat_setLe (s : State) (a v n : Nat) : (s.setLe a v n).leNat a n = v % 256 ^ n := by
  induction n generalizing s a v with
  | zero => simp [State.leNat, Nat.mod_one]
  | succ n ih =>
    rw [State.leNat, State.setLe, ih, State.byte_setLe _ _ _ _ _ (Or.inl (Nat.lt_succ_self a)), State.byte_setByte, if_pos rfl,
      BitVec.toNat_ofNat]
    have h := Nat.mod_mul (x := v) (a := 256) (b := 256 ^ n)
    rw [show 256 ^ (n + 1) = 256 * 256 ^ n by rw [Nat.pow_succ, Nat.mul_comm], h]

theorem State.byte_eccStore (s : State) (w a : Nat) : (s.eccStore w).byte a = s.byte a := by
  unfold State.eccStore
  dsimp only
  split <;> rfl

theorem State.byte_eccHalf (s : State) (w i a : Nat) : (s.eccHalf w i).byte a = s.byte a := by
  unfold State.eccHalf
  dsimp only
  split
  · exact State.byte_eccStore s w a
  · split
    · exact State.byte_eccStore s w a
    · rfl

theorem State.leNat_congr {s t : State} (h : ∀ a, t.byte a = s.byte a) (a n : Nat) : t.leNat a n = s.leNat a n := by
  induction n generalizing a with
  | zero => rfl
  | succ n ih => rw [State.leNat, State.leNat, h, ih]

/-- A word written is the word read. -/
theorem State.word_setWord (s : State) (a v : Nat) : (s.setWord a v).word a = v % 4294967296 := by
  rw [State.word, State.setWord, State.leNat_congr (s := s.setLe a v 4) (fun b => State.byte_eccHalf _ _ _ b), State.leNat_setLe]
  norm_num

/-- A word written leaves every byte outside it. -/
theorem State.byte_setWord (s : State) (a v b : Nat) (h : b < a ∨ a + 4 ≤ b) : (s.setWord a v).byte b = s.byte b := by
  rw [State.setWord, State.byte_eccHalf, State.byte_setLe _ _ _ _ _ h]

/-- A cleared range reads as zero, and every byte outside it as before. -/
theorem State.byte_clearMem (s : State) (lo hi a : Nat) :
    (s.clearMem lo hi).byte a = if lo ≤ a ∧ a < hi then 0 else s.byte a := by
  unfold State.byte State.clearMem
  simp only [Sparse.look_keep, Bool.or_eq_true, decide_eq_true_eq]
  split_ifs <;> first | rfl | omega

/-! ### The queue -/

@[simp] theorem State.putBit_pending (s : State) (f : Fld) (i : Nat) (b : Bool) : (s.putBit f i b).pending = s.pending := by
  cases b <;> rfl

@[simp] theorem State.setLe_pending (s : State) (a v n : Nat) : (s.setLe a v n).pending = s.pending := by
  induction n generalizing s a v with
  | zero => rfl
  | succ n ih => exact ih _ _ _

@[simp] theorem State.eccStore_pending (s : State) (w : Nat) : (s.eccStore w).pending = s.pending := by
  unfold State.eccStore
  dsimp only
  split <;> rfl

@[simp] theorem State.eccHalf_pending (s : State) (w i : Nat) : (s.eccHalf w i).pending = s.pending := by
  unfold State.eccHalf
  dsimp only
  split
  · exact State.eccStore_pending s w
  · split
    · exact State.eccStore_pending s w
    · rfl

@[simp] theorem State.setWord_pending (s : State) (a v : Nat) : (s.setWord a v).pending = s.pending := by
  simp [State.setWord]

@[simp] theorem State.setRetWord_pending (s : State) (a v : Nat) : (s.setRetWord a v).pending = s.pending := by
  simp [State.setRetWord]

theorem State.on_pending {s : State} (b : Bool) {g : State → State} (hg : (g s).pending = s.pending) :
    (s.on b g).pending = s.pending := by
  cases b
  · rfl
  · exact hg

theorem State.each_pending {β : Type} (s : State) (l : List β) {g : State → β → State}
    (hg : ∀ t x, (g t x).pending = t.pending) : (s.each l g).pending = s.pending := by
  induction l generalizing s with
  | nil => rfl
  | cons x l ih => exact (ih (g s x)).trans (hg s x)

/-- On an empty queue a millisecond passes. -/
theorem step_empty {s : State} (h : s.pending = []) : step s = .next (tick s) := by
  unfold step
  rw [h]

/-! ### Frames of the memory operations -/

variable {F : Footprint} {s t : State}

/-- Writing a check-bit condition that the footprint allows. -/
theorem Frame.setEcc (h : Frame F s t) {w : Nat} (hw : F.ecc w = true) (m : Nat) :
    Frame F s { t with ecc := Sparse.set 0 t.ecc w m } := by
  refine ⟨h.fld, h.mem, h.ret, fun c hc => ?_, fun q hq => Part.same_trans (h.part q hq) (by cases q <;> rfl)⟩
  rw [← h.ecc c hc]
  exact Sparse.look_set_ne _ _ (by intro e; rw [e, hw] at hc; exact absurd hc (by simp))

theorem Frame.setLe (h : Frame F s t) (a v n : Nat) (ha : ∀ b, a ≤ b → b < a + n → F.mem b = true) :
    Frame F s (t.setLe a v n) := by
  induction n generalizing t a v with
  | zero => exact h
  | succ n ih =>
    exact ih (Frame.setByte h (ha a (Nat.le_refl a) (by omega)) _) _ _ (fun b h1 h2 => ha b (by omega) (by omega))

/-- Storing the check bits of a word, with what an armed injection changes. -/
theorem Frame.eccStore (h : Frame F s t) {w : Nat} (hw : F.ecc w = true)
    (ha : w < 0x200000 → F.fld (MEM_INJ.ARM (memOf (8 * w))).id = true)
    (he : w < 0x200000 → F.fld (PAGE_IRQ_STAT.EVT (0xA0 + memOf (8 * w))).id = true) : Frame F s (t.eccStore w) := by
  unfold State.eccStore
  dsimp only
  split
  · rename_i hc
    exact Frame.orF (Frame.put (Frame.setEcc h hw _) (ha hc.1) _) (he hc.1) _
  · exact Frame.setEcc h hw _

end Sys2Proof.Machine
end

