-- ==== Sys2Proof/Laws/Faults.lean ====
section
/-! SUPPORT. What the shared operations of the fault reaction may change: events, the error pin, the fault log, the record of a
raise and of an action, and the end of a cause. -/

namespace Sys2Proof.Machine

variable {F : Footprint} {s t : State}

/-- A list of footprints allows what each member allows. -/
theorem Footprint.le_any {G : Footprint} {l : List Footprint} (h : G ∈ l) : G.le (Footprint.any l) := by
  induction l with
  | nil => exact absurd h (by simp)
  | cons x l ih =>
    rcases List.mem_cons.mp h with rfl | h
    · exact Footprint.le_or_left _ _
    · exact Footprint.le_trans (ih h) (Footprint.le_or_right _ _)

/-- A footprint above a list of fields allows each of them. -/
theorem Footprint.le.field {l : List Fld} (h : (Footprint.fields l).le F) {f : Fld} (hf : f ∈ l) : F.fld f.id = true :=
  h.fld _ (Footprint.mem_fields hf)

/-- ERR_N and its records (R392, R393). -/
theorem errUpdate_frame (h : Frame F s t) (hF : errFp.le F) (p : Nat) : Frame F s (errUpdate t p) := by
  have hd : F.fld PINS_ERR.DRIVE.id = true := Footprint.le.field hF (by simp)
  have hi : F.fld PINS_ERR.FIRST.id = true := Footprint.le.field hF (by simp)
  have he : F.fld (PAGE_IRQ_STAT.EVT 0x0C).id = true := Footprint.le.field hF (by simp)
  have hs : F.fld Sleep.ERR.id = true := Footprint.le.field hF (by simp)
  unfold errUpdate
  split
  · exact (((h.put hd _).put hi _).on (s := s) (g := (·.put Sleep.ERR 1)) _ (fun _ h => h.put hs _)).evt he _
  · split
    · exact (h.put hd _).evt he _
    · exact h

/-- A record of the fault log (R394). -/
theorem logFault_frame (h : Frame F s t) (hF : logFp.le F) (p cause attr kind : Nat) :
    Frame F s (logFault t p cause attr kind) := by
  have hn : F.fld HIVE_FLT_LOG.NEXT.id = true := hF.fld _ (by decide)
  have hq : F.fld HIVE_FLT_SEQ.SEQ.id = true := hF.fld _ (by decide)
  have he : F.fld (PAGE_IRQ_STAT.EVT 0x00).id = true := hF.fld _ (by decide)
  have ha : F.fld (MEM_INJ.ARM 0).id = true := hF.fld _ (by decide)
  have hm : F.fld (PAGE_IRQ_STAT.EVT 0xA0).id = true := hF.fld _ (by decide)
  have hlt : t.get HIVE_FLT_LOG.NEXT < 8192 := State.get_lt t HIVE_FLT_LOG.NEXT
  have store : ∀ {u : State} (a v : Nat), Frame F s u → 0x580000 ≤ a → a + 8 ≤ 0x5A0000 → Frame F s (u.setDouble a v) := by
    intro u a v hu h1 h2
    have m0 : memOf (8 * (a / 8)) = 0 := by
      unfold memOf
      rw [if_pos (by omega)]
    refine Frame.eccStore (hu.setLe a v 8 (fun b hb hb' => hF.mem b ?_)) (hF.ecc _ ?_) (fun _ => ?_) (fun _ => ?_)
    · simp [logFp]; omega
    · simp [logFp]; omega
    · rw [m0]; exact ha
    · rw [m0]; exact hm
  unfold logFault
  dsimp only
  split
  · split
    · exact (((store _ _ (store _ _ h (by omega) (by omega)) (by omega) (by omega)).wrapInc hq).put hn _).evt he _
    · exact ((store _ _ (store _ _ h (by omega) (by omega)) (by omega) (by omega)).wrapInc hq).put hn _
  · exact h

/-- The quiet period of a class (R389). -/
theorem quietUpdate_frame (h : Frame F s t) {p : Nat} (hq : F.fld (Flt.QUIET p).id = true) (n : Nat) :
    Frame F s (quietUpdate t p n) := h.putBit hq _ _

/-- The end of a cause's condition (R384, R389). -/
theorem causeEnds_frame (h : Frame F s t) {p : Nat} (hF : (endFp p).le F) (i : Nat) : Frame F s (causeEnds t p i) := by
  have hp : F.fld (Flt.PRESENT p).id = true := Footprint.le.field hF (by simp)
  have hq : F.fld (Flt.QUIET p).id = true := Footprint.le.field hF (by simp)
  unfold causeEnds
  dsimp only
  split
  · exact h.putBit hp _ _
  · exact quietUpdate_frame (h.putBit hp _ _) hq _

/-- The record of a raise (R384 to R389). -/
theorem recordRaise_frame (h : Frame F s t) (c : Cause) (hc : c.bit < 16) (hF : (recordFp c.page).le F) :
    Frame F s (recordRaise t c) := by
  have hl : logFp.le F := Footprint.le_trans (Footprint.le_any (by simp)) hF
  have hr : errFp.le F := Footprint.le_trans (Footprint.le_any (by simp)) hF
  have hk : (classFp c.page).le F := Footprint.le_trans (Footprint.le_any (by simp)) hF
  have cause : F.fld (PAGE_FLT_STAT.CAUSE c.page).id = true := Footprint.le.field hk (by simp)
  have count : F.fld (PAGE_FLT_CNT.FAULTS c.page).id = true := Footprint.le.field hk (by simp)
  have event : F.fld (PAGE_IRQ_STAT.EVT c.page).id = true := Footprint.le.field hk (by simp)
  have active : F.fld (PAGE_FLT_STAT.ACTIVE c.page).id = true := Footprint.le.field hk (by simp)
  have acked : F.fld (PAGE_FLT_STAT.ACKED c.page).id = true := Footprint.le.field hk (by simp)
  have present : F.fld (Flt.PRESENT c.page).id = true := Footprint.le.field hk (by simp)
  have unack : F.fld (Flt.UNACK c.page).id = true := Footprint.le.field hk (by simp)
  have timer : F.fld (Flt.TIMER c.page).id = true := Footprint.le.field hk (by simp)
  have injected : F.fld (Flt.INJ c.page).id = true := Footprint.le.field hk (by simp)
  have quiet : F.fld (Flt.QUIET c.page).id = true := Footprint.le.field hk (by simp)
  have stand : F.fld (Flt.STAND c.page c.bit).id = true :=
    Footprint.le.field hk (List.mem_append_right _ (List.mem_map.mpr ⟨c.bit, List.mem_range.mpr hc, rfl⟩))
  have base := (((((((h.orF cause (1 <<< c.bit)).on (!c.merged) (g := (·.inc (PAGE_FLT_CNT.FAULTS c.page)))
    (fun _ h => h.inc count)).evt event 15).put stand (raiseClass t c)).putBit present c.bit
    (c.holds || t.bit (Flt.PRESENT c.page) c.bit)).putBit active (raiseClass t c - 1) true).putBit acked (raiseClass t c - 1) false)
  unfold recordRaise
  dsimp only
  refine errUpdate_frame (logFault_frame (quietUpdate_frame (quietUpdate_frame (Frame.on ?_ _
    (g := (·.putBit (Flt.INJ c.page) c.bit true)) (fun _ h => h.putBit injected _ _)) quiet _) quiet _) hl _ _ _ _) hr _
  split
  · exact base
  · exact (base.putBit unack _ _).putBit timer _ _

/-- The record of an action (R385, R394). -/
theorem recordAction_frame (h : Frame F s t) {p : Nat} (ha : F.fld (PAGE_FLT_STAT.ACTED p).id = true) (hF : logFp.le F)
    (n : Nat) : Frame F s (recordAction t p n) := by
  unfold recordAction
  split
  · exact h
  · exact logFault_frame (h.putBit ha _ _) hF _ _ _ _

/-- A raise that puts no class action in force changes what its record changes (R385, R386). -/
theorem raiseFault_frame_recorded (h : Frame F s t) (c : Cause) (hc : c.bit < 16) (hF : (recordFp c.page).le F)
    (hn : raiseActs t c (raiseClass t c) = false) : Frame F s (raiseFault t c) := by
  unfold raiseFault
  dsimp only
  split
  · exact h
  · rw [hn]
    exact recordRaise_frame h c hc hF

/-- An absent page raises nothing (R53). -/
theorem raiseFault_muted (s : State) (c : Cause) (h : muted s c.page = true) : raiseFault s c = s := by
  unfold raiseFault
  rw [h]
  rfl

/-! ### The canonical form -/

theorem Memory.wf_evt (h : Memory.wf s = true) (p i : Nat) : Memory.wf (s.evt p i) = true := Memory.wf_put h _ _

theorem Memory.wf_errUpdate (h : Memory.wf s = true) (p : Nat) : Memory.wf (errUpdate s p) = true := by
  unfold errUpdate
  split
  · exact Memory.wf_evt (Memory.wf_on (g := (·.put Sleep.ERR 1)) (Memory.wf_put (Memory.wf_put h _ _) _ _) _
      (fun h => Memory.wf_put h _ _)) _ _
  · split
    · exact Memory.wf_evt (Memory.wf_put h _ _) _ _
    · exact h

theorem Memory.wf_logFault (h : Memory.wf s = true) (p cause attr kind : Nat) :
    Memory.wf (logFault s p cause attr kind) = true := by
  unfold logFault
  dsimp only
  have hs : ∀ {u : State} (a v b w : Nat), Memory.wf u = true → Memory.wf ((u.setDouble a v).setDouble b w) = true :=
    fun a v b w hu => Memory.wf_setDouble (Memory.wf_setDouble hu a v) b w
  split
  · split
    · exact Memory.wf_evt (Memory.wf_put (Memory.wf_wrapInc (hs _ _ _ _ h) _) _ _) _ _
    · exact Memory.wf_put (Memory.wf_wrapInc (hs _ _ _ _ h) _) _ _
  · exact h

theorem Memory.wf_causeEnds (h : Memory.wf s = true) (p i : Nat) : Memory.wf (causeEnds s p i) = true := by
  unfold causeEnds
  dsimp only
  split
  · exact Memory.wf_putBit h _ _ _
  · exact Memory.wf_putBit (Memory.wf_putBit h _ _ _) _ _ _

theorem Memory.wf_recordRaise (h : Memory.wf s = true) (c : Cause) : Memory.wf (recordRaise s c) = true := by
  unfold recordRaise
  dsimp only
  refine Memory.wf_errUpdate (Memory.wf_logFault (Memory.wf_putBit (Memory.wf_putBit (Memory.wf_on
    (g := (·.putBit (Flt.INJ c.page) c.bit true)) ?_ _ (fun h => Memory.wf_putBit h _ _ _)) _ _ _) _ _ _) _ _ _ _) _
  have base := fun n => Memory.wf_putBit (Memory.wf_putBit (Memory.wf_putBit (Memory.wf_put (Memory.wf_evt (Memory.wf_on (Memory.wf_orF h
    (PAGE_FLT_STAT.CAUSE c.page) (1 <<< c.bit)) (!c.merged)
    (g := (·.inc (PAGE_FLT_CNT.FAULTS c.page))) (fun h => Memory.wf_inc h (PAGE_FLT_CNT.FAULTS c.page))) c.page 15) (Flt.STAND c.page c.bit) n)
    (Flt.PRESENT c.page) c.bit (c.holds || s.bit (Flt.PRESENT c.page) c.bit)) (PAGE_FLT_STAT.ACTIVE c.page) (n - 1) true) (PAGE_FLT_STAT.ACKED c.page) (n - 1) false
  split
  · exact base _
  · exact Memory.wf_putBit (Memory.wf_putBit (base _) _ _ _) _ _ _

theorem Memory.wf_recordAction (h : Memory.wf s = true) (p n : Nat) : Memory.wf (recordAction s p n) = true := by
  unfold recordAction
  split
  · exact h
  · exact Memory.wf_logFault (Memory.wf_putBit h _ _ _) _ _ _ _

end Sys2Proof.Machine
end

