-- ==== Sys2Proof/WellFormed.lean ====
section
/-! DEFINITION. When a command is one that the block's environment can send: the lengths and ranges that the spec gives
the operands which Lean's types leave wider. The machine gives every command a meaning, well formed or not. -/

namespace Sys2Proof

/-- A plan entry's times fit their fields: quarter counts of 17 bits (R123). -/
def Timing.wf (e : Timing) : Bool :=
  decide (e.tAH < 131072) && decide (e.tAL < 131072) && decide (e.tBH < 131072) && decide (e.tBL < 131072)

/-- The payload of a Swarm frame has 4 to 68 bytes (R439). -/
def SwFrame.wf (f : SwFrame) : Bool :=
  decide (4 ≤ f.payload.length) && decide (f.payload.length ≤ 68)

/-- A tagged value stands in the 32-bit two's complement of a register (R349). -/
def Tagged.wf (x : Tagged) : Bool := decide (-2147483648 ≤ x.val) && decide (x.val < 2147483648)

/-- A command is well formed. -/
def Instr.wf : Instr → Bool
  | .wr _ _ len data _ => data.length == len.toNat + 1
  | .wrn _ _ len data _ => data.length == len.toNat + 1
  | .canRequest _ _ payload _ => decide (payload.length ≤ 64)
  | .slotWrite _ e => e.wf
  | .planEntryCommit _ e _ => e.wf
  | .barrierRegistered _ prepared => prepared.all (fun r => r.2.wf)
  | .confirmation _ _ x _ => x.wf
  | .rxMsg _ _ bytes _ _ => decide (2 ≤ bytes.length) && decide (bytes.length ≤ 264)
  | .internalCheckin code => decide (1 ≤ code.toNat) && decide (code.toNat ≤ 10)
  | .link f _ => f.wf
  | .announce f => f.wf
  | .shareFrame f _ => f.wf
  | .report f => f.wf
  | .req f => f.wf
  | .rsp f => f.wf
  | .resetFrame f => f.wf
  | .groupSet f => f.wf
  | .timeFrame f _ _ => f.wf
  | .remoteAccess _ _ len data => match data with
    | none => true
    | some l => l.length == len.toNat + 1
  | .phaseOut _ arg => decide (arg.toNat < 16)
  | .phaseIn _ arg => decide (arg.toNat < 16)
  | _ => true

end Sys2Proof
end

