-- ==== Sys2Proof/Tests/Slice0.lean ====
section
/-! SUPPORT. Tests: ill-formed commands refused, numbers that the spec works out, and for every statement with hypotheses a
state that meets them. -/

open Sys2Proof Sys2Proof.Machine

namespace Sys2Proof.Tests

/-- The reset state with some fields written. -/
def fieldsAt (l : List (Fld × Nat)) : State := l.foldl (fun s q => s.put q.1 q.2) State.reset

/-- A state with some bytes of the windows written. -/
def bytesPut (s : State) (l : List (Nat × Nat)) : State := l.foldl (fun s q => s.setByte q.1 (BitVec.ofNat 8 q.2)) s

/-! A state with one entry of a queue, buffer, holder or window replaced. -/

def withReadHold (s : State) (i : Fin 4) (x : Option ReadHold) : State := { s with readHold := s.readHold.set i x }
def withWriteHold (s : State) (i : Fin 4) (x : Option WriteHold) : State := { s with writeHold := s.writeHold.set i x }
def withCodeHold (s : State) (i : Fin 4) (x : Option (BitVec 32)) : State := { s with codeHold := s.codeHold.set i x }
def withSlots (s : State) (i : Fin 16) (x : List Timing) : State := { s with slots := s.slots.set i x }
def withExec (s : State) (i : Fin 16) (x : Option Timing) : State := { s with exec := s.exec.set i x }
def withComing (s : State) (i : Fin 16) (x : Option Timing) : State := { s with coming := s.coming.set i x }
def withWindow (s : State) (i : Fin 16) (x : List PlanEntry) : State := { s with window := s.window.set i x }
def withAntq (s : State) (i : Fin 4) (x : List Queued) : State := { s with antq := s.antq.set i x }
def withRx (s : State) (i : Fin 4) (x : List (Nat × List (BitVec 8))) : State := { s with rx := s.rx.set i x }
def withStaged (s : State) (i : Fin 48) (x : List (Nat × Nat)) : State := { s with staged := s.staged.set i x }
def withJobs (s : State) (i : Fin 4) (x : Option Job) : State := { s with jobs := s.jobs.set i x }
def withEcc (s : State) (l : List (Nat × Nat)) : State := { s with ecc := l }

theorem uid_succ_ne : Config.uid + 1 ≠ Config.uid := by
  intro h
  have := congrArg BitVec.toNat h
  rw [BitVec.toNat_add] at this
  have hl := Config.uid.isLt
  change (Config.uid.toNat + 1) % 2 ^ 48 = Config.uid.toNat at this
  omega

/-- The state after a command. -/
def after (c : Instr) (s : State) : State :=
  match exec c s with
  | .next t => t
  | _ => s

/-- FULL, with the paths served and the host port's pin session open. -/
def running : List (Fld × Nat) := [(HIVE_MODE.MODE, 1), (Boot.STEP, 5), (Boot.PLL, 1), (Ses.PIN, 1)]

/-- An access of the host port in the Keeper view. -/
def keeperHost : Access := ⟨.host, true, 0⟩

/-! ### An ill-formed command for each check -/

theorem test_wf_refuses_write_length : (Instr.wr false 0 1 [0] 0).wf = false := by decide
theorem test_wf_refuses_fixed_write_length : (Instr.wrn false 0 0 [] 0).wf = false := by decide
theorem test_wf_refuses_long_can_payload : (Instr.canRequest 0 none (List.replicate 65 0) 0).wf = false := by decide
theorem test_wf_refuses_wide_timing : (Instr.slotWrite 0 ⟨131072, 0, 0, 0, false, false, 0⟩).wf = false := by decide
theorem test_wf_refuses_wide_plan : (Instr.planEntryCommit 0 ⟨0, 0, 0, 131072, false, false, 0⟩ false).wf = false := by decide
theorem test_wf_refuses_wide_prepared :
    (Instr.barrierRegistered 0 [(0, ⟨0, 131072, 0, 0, false, false, 0⟩)]).wf = false := by decide
theorem test_wf_refuses_wide_value : (Instr.confirmation 0 ⟨0, false⟩ ⟨2147483648, 0, false⟩ false).wf = false := by decide
theorem test_wf_refuses_short_message : (Instr.rxMsg 0 0 [1] false false).wf = false := by decide
theorem test_wf_refuses_checkin_code : (Instr.internalCheckin 11).wf = false := by decide
theorem test_wf_refuses_short_frame :
    (Instr.announce ⟨false, false, true, 0, 0, 0, 0, [1, 2, 3], 0, false⟩).wf = false := by decide
theorem test_wf_refuses_remote_length : (Instr.remoteAccess keeperHost 0 1 (some [0])).wf = false := by decide
theorem test_wf_refuses_wide_drain : (Instr.phaseOut keeperHost 16).wf = false := by decide
theorem test_wf_refuses_wide_restore : (Instr.phaseIn keeperHost 16).wf = false := by decide
theorem test_wf_accepts : (Instr.slotWrite 0 ⟨131071, 0, 0, 0, false, false, 0⟩).wf = true := by decide

/-! ### What the spec works out -/

/-- No row of the table gives bits. -/
theorem test_no_word_decodes : decodeTableWord 16 0xFFFF = none := by decide

/-- `PAGE_ID` of BAT0 (the example of chapter 4). -/
theorem test_page_id_of_bat0 : pageId 0x32 = 0x02023032 := by decide

/-- The tags of ACC_SUM 5,704,090 and of the code -14,237,696 (the example of R355). -/
theorem test_tags : tagOf 3 5704090 = 0x6C52 ∧ tagOf 1 (-14237696) = 0x3935 := by decide

/-- The tag of the base target 3,500 (the example of chapter 19). -/
theorem test_share_tag : tagOf 6 3500 = 0xCDAC := by decide

/-- The places of PH01 and PH02 in a period of 51,200 taps (the example of chapter 6). -/
theorem test_interleave :
    phTarget (fieldsAt [(HIVE_MODE.MODE, 1), (Comb.PER 0, 51200), (PH_ILV.ANGLE 1, 0x55)]) 1 = 17000 ∧
    phTarget (fieldsAt [(HIVE_MODE.MODE, 1), (Comb.PER 0, 51200), (PH_ILV.ANGLE 2, 0xAB)]) 2 = 34200 := by decide

/-- The third wrong attempt in a row starts the lockout (step 2 of the example of chapter 4). -/
theorem test_third_attempt_locks_out :
    let t := after (.attempt ⟨.host, false, 0⟩ 7) (fieldsAt (running ++ [(HIVE_KSESS_STAT.FAILS, 2), (HIVE_KSESS_STAT.TOTAL_FAILS, 2)]))
    t.get HIVE_KSESS_STAT.FAILS = 0 ∧ t.get HIVE_KSESS_STAT.LOCKOUT = 1 ∧ t.get HIVE_KSESS_STAT.TOTAL_FAILS = 3
      ∧ t.get HIVE_KSESS_EVT.LOCKOUT = 1 ∧ t.get HIVE_KSESS_EVT.FAILED = 1 := by decide

/-- A Worker-view write of two KRW fields is refused and recorded (step 4 of the example of chapter 4). -/
theorem test_worker_write_is_refused :
    let t := after (.registerWrite ⟨.host, false, 0⟩ 0x32024 0x003100C8) (fieldsAt running)
    regView t false 0x32 0x008 = 0x00000061 ∧ t.get (PAGE_FLT_CFG.REACT 0x32) = 100 := by decide +kernel

/-- The same write in the Keeper view under the pin session sets REACT (step 6 of the example of chapter 4). -/
theorem test_keeper_write_sets_react :
    (after (.registerWrite keeperHost 0x32024 0x003100C8) (fieldsAt running)).get (PAGE_FLT_CFG.REACT 0x32) = 200 := by decide

/-- `PAGE_FLT_STAT` after the acknowledgement (step 2 of the example of chapter 16). -/
theorem test_acknowledge :
    fltStat (after (.faultAck keeperHost 0x25 2) (fieldsAt (running ++ [(PAGE_FLT_STAT.CAUSE 0x25, 0x10), (PAGE_FLT_STAT.ACTIVE 0x25, 2),
      (Flt.UNACK 0x25, 2), (Flt.TIMER 0x25, 2), (Flt.STAND 0x25 4, 2)]))) 0x25 = 0x00100202 := by decide

/-- The C3 timer expires: both actions in force, the phase held and the device in recovery (step 6 of the same example). -/
theorem test_third_class_timer :
    let t := after (.reactionTimer 0x25 2) (fieldsAt (running ++ [(PAGE_FLT_STAT.CAUSE 0x25, 0x50), (PAGE_FLT_STAT.ACTIVE 0x25, 6),
      (PAGE_FLT_STAT.ACTED 0x25, 2), (Flt.UNACK 0x25, 6), (Flt.TIMER 0x25, 4), (Flt.STAND 0x25 4, 3), (Flt.STAND 0x25 6, 2),
      (PH_CTL.RUN 5, 1), (PH_CTL.HOLD 5, 2), (PH_STAT.STATE 5, 1)]))
    fltStat t 0x25 = 0x00500660 ∧ recovery t = true ∧ t.get (PH_STAT.HOLD_CAUSE 5) = 2 := by decide +kernel

/-- The second key of cycle 0x0A37 serves the window (the example of chapter 18). -/
theorem test_key_pair_serves :
    (after (.keyPair keeperHost 0x4E2D) (fieldsAt (running ++ [(WDG_STAT.SVC_BY_HW, 0), (WDG_SEQ.SEQ, 0x0A37), (WDG_STAT.ARMED, 1),
      (Wdg.CLOSE, 999), (Wdg.EN, 0x1103), (WDG_STAT.CHECKED, 0x1103), (WDG_TICK.TICK, 620)]))).get WDG_STAT.SERVED = 1 := by decide

/-- The request of node 0x10 for `PAGE_FLT_STAT` of BAT0 is answered under the identifier 0x082A_2110 in 12 bytes (the example
of chapter 5). -/
theorem test_can_answer :
    let req : List (BitVec 8) := [0x01, 0x03, 0x20, 0x1C, 0x00]
    ((after (.canRequest 0 (some 0x102A1021) (req ++ beBytes 2 (crc16 0xFFFF req)) 0) (fieldsAt (running ++ [(CAN_CFG.EN 0, 1),
      (CAN_CFG.NODE 0, 0x21)]))).sent.map (fun m => match m with
        | .can n id p => (n, id, p.length)
        | _ => (9, 0, 0))) = [(0, 0x082A2110, 12)] := by decide +kernel

/-- The check value of the CRC-32 of IEEE 802.3, for the digits 1 to 9, known from outside the spec. -/
theorem test_crc32_check : crc32 [0x31, 0x32, 0x33, 0x34, 0x35, 0x36, 0x37, 0x38, 0x39] = 0xCBF43926 := by decide +kernel

/-! ### The statements over every command -/

theorem witness_StepRunsTheFrontCommand : ∃ (s : State) (c : Instr) (rest : List Instr), s.pending = c :: rest :=
  ⟨State.reset.withPending [.refLost], .refLost, [], rfl⟩

theorem witness_EveryStepKeepsTheCanonicalForm : ∃ s t : State, Memory.wf s = true ∧ step s = .next t :=
  ⟨bytesPut (fieldsAt running) [(0x200000, 1), (0x6FFFFF, 255)], _, by decide, rfl⟩

theorem witness_EveryStepKeepsTheQueuesBounded : ∃ s t : State, Queues.bounded s = true ∧ step s = .next t :=
  ⟨(fieldsAt running).withPending [.refLost], _, by decide, rfl⟩

theorem witness_CommandsLeaveTheQueue : ∃ (c : Instr) (s t : State), exec c s = .next t :=
  ⟨.refLost, State.reset, _, rfl⟩

/-! ### States that meet the hypotheses of each statement -/

/-! ### A bank whose directory passes the verification of R468: no entry, and the CRC-32 of its 4,096 bytes -/

/-- The CRC-32 byte by byte, each value compared with itself so that the kernel computes it before the next. -/
def crcStrict (c : Nat) : List (BitVec 8) → Nat
  | [] => c
  | b :: t => bif c == c then crcStrict (crc32Byte c b) t else 0

theorem crcStrict_eq (c : Nat) (l : List (BitVec 8)) : crcStrict c l = l.foldl crc32Byte c := by
  induction l generalizing c with
  | nil => rfl
  | cons b t ih => simp [crcStrict, ih]

def verifiedBank : State := bytesPut (fieldsAt [(PAGE_LOCK.CFG 0x90, 1), (Boot.PLL, 1), (Ses.CODE 2, 1), (Tbl.RUN, 2)])
  [(0x280000, 1), (0x280003, 16), (0x280004, 1), (0x28000c, 202), (0x28000d, 40), (0x28000e, 13), (0x28000f, 47)]

theorem verifiedBank_crc : crc32 (crcBlank (Sys2Proof.Machine.bytesAt verifiedBank 0x280000 0x1000) 0xC) = 0x2F0D28CA := by
  rw [crc32, ← crcStrict_eq]
  decide +kernel

theorem verifiedBank_passes : verifyFailure verifiedBank (1 - verifiedBank.get TBL_BANK.ACTIVE) = none := by
  have hb : 1 - verifiedBank.get TBL_BANK.ACTIVE = 1 := by decide +kernel
  have hd : dirOk verifiedBank 1 = true := by
    unfold dirOk
    dsimp only
    rw [show bankBase 1 = 0x280000 from rfl, verifiedBank_crc]
    decide +kernel
  rw [hb]
  unfold verifyFailure
  rw [hd]
  decide +kernel

/-- States that meet the hypotheses of `Obligations.IdleMillisecond`, clause by clause. -/
theorem witness_IdleMillisecond :
    (∃ (s : State), s.pending = [] ∧ s.get Sleep.STATE ≠ 1 ∧ s.get Boot.POR = 1 ∧ s.get HIVE_KSESS_CTL.IDLE = 0) ∧
    (∃ (s : State), s.pending = [] ∧ s.get Sleep.STATE ≠ 1 ∧ s.get Boot.POR = 0 ∧ s.get Boot.HELD = 0 ∧ s.get (Clk.LOST 73)
      = 0 ∧ s.get HIVE_KSESS_CTL.IDLE ≠ 0) :=
  ⟨⟨fieldsAt [(HIVE_KSESS_CTL.IDLE, 0), (Boot.POR, 1)], by decide⟩,
   ⟨State.reset, by decide⟩⟩

/-- States that meet the hypotheses of `Obligations.WithoutASessionTheKeeperViewIsTheWorkerView`, clause by clause. -/
theorem witness_WithoutASessionTheKeeperViewIsTheWorkerView :
    (∃ (s : State) (a : Access), sessionOpen s a.path a.node = false) :=
  ⟨State.reset, ⟨.host, false, 0#16⟩, by decide⟩

/-- States that meet the hypotheses of `Obligations.EntryClipping`, clause by clause. -/
theorem witness_EntryClipping :
    (∃ (s : State) (p : Fin 16) (e : Timing) (per : Nat) (t1 : Nat), per < t1 ∧ decides s p = true ∧ BitVec.ofNat 8 (s.get
      (Ph.PERCNT p) + 1) = e.index ∧ s.slots[p].head? = some e ∧ clipped s p (comingLength s p) e = e) ∧
    (∃ (s : State) (p : Fin 16) (e : Timing) (per : Nat) (d1 : Nat) (d2 : Nat) (t1 : Nat) (t2 : Nat), t1 ≤ per ∧ 0 < t2 ∧
      per < t1 + d1 + t2 + d2 ∧ decides s p = true ∧ BitVec.ofNat 8 (s.get (Ph.PERCNT p) + 1) = e.index ∧ s.slots[p].head?
      = some e ∧ clipped s p (comingLength s p) e ≠ e) ∧
    (∃ (per : Nat) (d1 : Nat) (d2 : Nat) (t1 : Nat) (t2 : Nat), t1 ≤ per ∧ (t2 = 0 ∨ t1 + d1 + t2 + d2 ≤ per)) :=
  ⟨⟨withSlots (fieldsAt [(HIVE_MODE.MODE, 1), (PH_CTL.RUN 13, 1), (PH_STAT.STATE 13, 1), (Ph.PERCNT 13, 135), (Comb.PER 3,
     0x143d8)]) 13 ([⟨36464, 7627, 24497, 57377, true, true, 136#8⟩]), 13, ⟨36464, 7627, 24497, 57377, true, true, 136#8⟩,
     0, 1, by decide⟩,
   ⟨withSlots (fieldsAt [(HIVE_MODE.MODE, 1), (PH_CTL.RUN 8, 1), (PH_STAT.STATE 8, 1), (Ph.PERCNT 8, 47)]) 8 ([⟨42034,
     7189, 25961, 58793, true, false, 48#8⟩]), 8, ⟨42034, 7189, 25961, 58793, true, false, 48#8⟩, 178, 0, 0, 0, 179, by
     decide⟩,
   ⟨2131868869, 0, 0, 0, 0, by decide⟩⟩

/-- States that meet the hypotheses of `Obligations.EligibleAndPresentable`, clause by clause. -/
theorem witness_EligibleAndPresentable :
    (∃ (s : State) (n : Fin 256) (t : Fin 4), s.get (INTC_T_CTL.THRESH t) = 15 ∧ served s = true ∧ presentable s n t =
      false) :=
  ⟨fieldsAt [(INTC_PEND.PEND 66, 15), (Boot.PLL, 1)], 0, 2, by decide⟩

/-- States that meet the hypotheses of `Obligations.ExpectedKey`, clause by clause. -/
theorem witness_ExpectedKey :
    (∃ (s : State) (w : BitVec 32), served s = true ∧ s.get WDG_STAT.SVC_BY_HW = 0 ∧ s.get WDG_STAT.ARMED = 1 ∧ s.get
      WDG_STAT.SERVED = 0 ∧ wdgOpen s ≤ s.get WDG_TICK.TICK ∧ slotsMissing s = [] ∧ w.toNat ≠ (if s.get WDG_STAT.ARMED = 0
      then 0xB1E5 else 0x4E1A ^^^ (s.get WDG_SEQ.SEQ % 256))) ∧
    (∃ (s : State) (w : BitVec 32), served s = true ∧ s.get WDG_STAT.SVC_BY_HW = 0 ∧ s.get WDG_STAT.ARMED = 0 ∧ w.toNat =
      0x0000B1E5) :=
  ⟨⟨fieldsAt [(WDG_STAT.SVC_BY_HW, 0), (WDG_STAT.ARMED, 1), (WDG_STAT.CHECKED, 0x144a), (WDG_TICK.TICK, 200), (Boot.PLL,
     1)], 0#32, by decide⟩,
   ⟨fieldsAt [(WDG_STAT.SVC_BY_HW, 0), (Boot.PLL, 1)], 0xb1e5#32, by decide⟩⟩

/-- States that meet the hypotheses of `Obligations.DuplicateCheckIn`, clause by clause. -/
theorem witness_DuplicateCheckIn :
    (∃ (s : State) (n : Fin 16), served s = true ∧ s.get WDG_STAT.SVC_BY_HW = 0 ∧ s.bit Wdg.EN n = true ∧ s.bit
      WDG_STAT.CHECKED n = true ∧ codeInternal (slotCode s n) = false) :=
  ⟨fieldsAt [(WDG_STAT.SVC_BY_HW, 0), (WDG_STAT.CHECKED, 1024), (Boot.PLL, 1), (Wdg.EN, 0x1400)], 10, by decide⟩

/-- States that meet the hypotheses of `Obligations.MaintenanceStateThroughSleepAndReset`, clause by clause. -/
theorem witness_MaintenanceStateThroughSleepAndReset :
    (∃ (s : State) (a : Access), s.get Boot.HELD = 0 ∧ s.get Sleep.STATE ≠ 0 ∧ served s = true ∧ keeperView s a = true ∧
      s.get WDG_STAT.MON_OTHER = 0) ∧
    (∃ (s : State), s.get Boot.HELD = 0 ∧ s.get Pwr.VDDC_DOM ≠ 0 ∧ s.get Boot.POR = 0 ∧ s.get Pin.RST_LOW = 0 ∧ s.get
      PINS_ERR.DRIVE = 0) ∧
    (∃ (s : State), s.get Boot.HELD = 0 ∧ s.get WDG_TICK.TICK = s.get Wdg.CLOSE ∧ s.get WDG_STAT.FAILED = 1) :=
  ⟨⟨fieldsAt [(Boot.PLL, 1), (Sleep.STATE, 1), (Ses.PIN, 1)], ⟨.host, true, 0#16⟩, by decide⟩,
   ⟨fieldsAt [(PINS_ERR.DRIVE, 0), (Pwr.VDDC_DOM, 1)], by decide⟩,
   ⟨fieldsAt [(WDG_STAT.FAILED, 1), (WDG_TICK.TICK, 999)], by decide⟩⟩

/-- States that meet the hypotheses of `Obligations.RecoveryMode`, clause by clause. -/
theorem witness_RecoveryMode :
    (∃ (s : State), allocatedPages.all (fun q => !s.bit (PAGE_FLT_STAT.ACTED q) 2 && !s.bit (PAGE_FLT_STAT.ACTED q) 3) =
      true ∧ served s = true) ∧
    (∃ (s : State) (p : Fin 256), pageKind p.val ≠ none ∧ (s.bit (PAGE_FLT_STAT.ACTED p) 2 || s.bit (PAGE_FLT_STAT.ACTED p)
      3) = true ∧ served s = true) :=
  ⟨⟨fieldsAt [(Boot.PLL, 1)], by decide⟩,
   ⟨fieldsAt [(PAGE_FLT_STAT.ACTED 0xa1, 4), (Boot.PLL, 1)], 161, by decide⟩⟩

/-- States that meet the hypotheses of `Obligations.SuppliesAndClockReference`, clause by clause. -/
theorem witness_SuppliesAndClockReference :
    (∃ (s : State) (xtal : Bool) (valid : Bool), s.get Pwr.PREREG = 1 ∧ s.get Pin.CORE_EN = 0 ∧ s.get CLK_STAT.SRC ≠ bitOf
      xtal ∧ s.get (Clk.REF_VALID (bitOf xtal)) ≠ bitOf valid) ∧
    (∃ (s : State), s.get Pwr.PREREG = 0 ∧ s.get Pin.CORE_EN = 1 ∧ s.get Pwr.VDDC_OK = 0) ∧
    (∃ (s : State) (a : Access) (w : BitVec 32) (j : Fin 2), s.get CLK_STAT.SRC < 2 ∧ refPick s = some j.val ∧ s.get
      CLK_STAT.RET_READY = 0 ∧ served s = true ∧ keeperView s a = true ∧ s.get (PAGE_LOCK.CFG 0x01) = 0 ∧ w.getLsbD 8 =
      true ∧ w.toNat % 4 = s.get CLK_CTL.PREF ∧ (refReady s = false ∨ s.get CLK_STAT.SRC ≠ 2) ∧ s.get Boot.HELD = 0 ∧ s.get
      Boot.STEP = 0) ∧
    (∃ (s : State) (a : Access) (w : BitVec 32), served s = true ∧ keeperView s a = true ∧ s.get (PAGE_LOCK.CFG 0x01) = 0 ∧
      w.getLsbD 8 = true ∧ w.toNat % 4 = s.get CLK_CTL.PREF ∧ refReady s = true ∧ s.get CLK_STAT.SRC = 2) :=
  ⟨⟨State.reset, false, true, by decide⟩,
   ⟨fieldsAt [(Pin.CORE_EN, 1), (Pwr.PREREG, 0)], by decide⟩,
   ⟨fieldsAt [(CLK_STAT.SRC, 0), (CLK_CTL.PREF, 1), (Boot.PLL, 1), (Clk.REF_VALID 0, 1), (Ses.PIN, 1)], ⟨.host, true,
     0#16⟩, 257#32, 0, by decide⟩,
   ⟨fieldsAt [(CLK_CTL.PREF, 1), (Boot.PLL, 1), (Clk.REF_VALID 0, 1), (Clk.READY_T 0, 100), (Ses.PIN, 1)], ⟨.host, true,
     0#16⟩, 257#32, by decide⟩⟩

/-- States that meet the hypotheses of `Obligations.ResetsClearAndKeep`, clause by clause. -/
theorem witness_ResetsClearAndKeep :
    (∃ (s : State) (a : Access) (f : Fld) (b : Nat), s.get Boot.HELD = 0 ∧ f.lo < 32 ∧ f ∉ resetSets ∧ keptKey true f.key =
      false ∧ 0x200000 ≤ b ∧ b < 0x600000 ∧ served s = true ∧ keeperView s a = true ∧ s.get Pwr.VDDC_DOM ≠ 0 ∧ s.get
      Boot.POR = 0 ∧ s.get Pin.RST_LOW = 0 ∧ s.get PINS_ERR.DRIVE = 0) ∧
    (∃ (s : State) (b : Nat), s.get Boot.HELD = 0 ∧ 0x600000 ≤ b) ∧
    (∃ (s : State), s.get Boot.HELD = 1 ∧ s.get Boot.POR = 0 ∧ s.get Pin.RST_LOW = 0 ∧ s.get PINS_ERR.DRIVE = 1) ∧
    (∃ (s : State), s.get Boot.POR = 1) :=
  ⟨⟨fieldsAt [(PINS_ERR.DRIVE, 0), (Pwr.VDDC_DOM, 1), (Boot.PLL, 1), (Ses.CODE 1, 1)], ⟨.can0, true, 0#16⟩, ⟨64, 10, 1, 0⟩,
     3144228, by decide⟩,
   ⟨State.reset, 8110153, by decide⟩,
   ⟨fieldsAt [(Boot.HELD, 1)], by decide⟩,
   ⟨fieldsAt [(Boot.POR, 1)], by decide⟩⟩

/-- States that meet the hypotheses of `Obligations.StartUpSteps`, clause by clause. -/
theorem witness_StartUpSteps :
    (∃ (s : State), s.get Boot.HELD = 0 ∧ s.get Boot.STEP = 4 ∧ s.get Boot.CLAIM = 1 ∧ s.get Pin.RST_LOW = 0 ∧ s.get
      Boot.WINDOW = 0 ∧ s.get Boot.CLAIM ≠ 0 ∧ s.get HIVE_MODE.MODE = 1 ∧ 60000 ≤ s.get Boot.STABLEMS ∧ s.get
      HIVE_BOOT_STAT.NOIMG = 0) ∧
    (∃ (s : State), s.get Boot.HELD = 0 ∧ s.get Boot.STEP = 1 ∧ s.get Pin.KEEPER_EN = 1) ∧
    (∃ (s : State), s.get Boot.HELD = 0 ∧ s.get Boot.STEP = 2) ∧
    (∃ (s : State), s.get Boot.HELD = 0 ∧ s.get Boot.STEP = 4 ∧ s.get Boot.CLAIM = 0 ∧ s.get HIVE_BOOT_STAT.DEADBAT = 0 ∧
      s.get Boot.WINDOW = 0 ∧ s.get Pin.RST_LOW = 0) ∧
    (∃ (s : State), s.get Boot.HELD = 0 ∧ s.get Boot.WINDOW = 0 ∧ s.get Boot.CLAIM = 0 ∧ s.get Boot.STEP = 5 ∧ s.get
      HIVE_MODE.MODE = 0) :=
  ⟨⟨fieldsAt [(HIVE_MODE.MODE, 1), (Boot.STEP, 4), (Boot.CLAIM, 1), (Boot.STABLEMS, 0xea60)], by decide⟩,
   ⟨fieldsAt [(Pin.KEEPER_EN, 1), (Boot.STEP, 1)], by decide⟩,
   ⟨fieldsAt [(Boot.STEP, 2)], by decide⟩,
   ⟨fieldsAt [(Boot.STEP, 4)], by decide⟩,
   ⟨fieldsAt [(Boot.STEP, 5)], by decide⟩⟩

/-- States that meet the hypotheses of `Obligations.ClaimSleepAndWake`, clause by clause. -/
theorem witness_ClaimSleepAndWake :
    (∃ (s : State), s.get Boot.RELEASE = 1 ∧ s.get Pwr.VDDC_OK = 1) ∧
    (∃ (s : State), s.get Sleep.STATE = 0 ∧ s.get Boot.RELEASE = 1 ∧ s.get Pwr.VDDC_OK = 0 ∧ s.get HIVE_MODE.MODE = 2) ∧
    (∃ (s : State) (a : Access), served s = true ∧ a.path = .host ∧ s.get HIVE_MODE.MODE = 0 ∧ s.get Boot.RELEASE = 0 ∧
      s.get Boot.WINDOW = 0 ∧ s.get Boot.STEP = 5) ∧
    (∃ (s : State) (a : Access), served s = true ∧ a.path = .host ∧ s.get HIVE_MODE.MODE = 2 ∧ s.get Boot.RELEASE = 0) ∧
    (∃ (s : State) (a : Access), served s = true ∧ a.path = .host ∧ s.get HIVE_MODE.MODE = 0 ∧ s.get Boot.RELEASE = 0 ∧
      s.get Boot.WINDOW = 0 ∧ s.get Boot.STEP ≠ 5) ∧
    (∃ (s : State) (src : Fin 12), s.get Boot.POR = 0 ∧ s.get Sleep.STATE = 1 ∧ s.get Sleep.STEP = 4 ∧ s.get Sleep.PEND = 0
      ∧ wakeEnabled s src = true) ∧
    (∃ (s : State) (src : Fin 12), s.get Boot.POR = 0 ∧ s.get Sleep.STATE = 1 ∧ s.get Sleep.STEP = 3 ∧ s.get Sleep.PEND = 0
      ∧ wakeEnabled s src = true ∧ s.get Sleep.STEP ≠ 4) ∧
    (∃ (s : State) (a : Access), served s = true ∧ keeperView s a = true ∧ s.get HIVE_MODE.MODE = 1 ∧ s.get MAINT_STAT.BUSY
      = 0 ∧ s.get Sleep.STATE = 0) ∧
    (∃ (s : State) (src : Fin 12), s.get Sleep.STATE = 2 ∧ wakeEnabled s src = true ∧ s.get Pin.RST_LOW = 0) ∧
    (∃ (s : State), (s.get Sleep.STATE = 1 ∨ s.get Sleep.STATE = 2) ∧ s.get HIVE_SLEEP_TMR.DURATION ≠ 0 ∧ (s.get
      HIVE_WAKE.EN).testBit 1 = true) :=
  ⟨⟨fieldsAt [(Pwr.VDDC_OK, 1), (Boot.RELEASE, 1)], by decide⟩,
   ⟨fieldsAt [(HIVE_MODE.MODE, 2), (Boot.RELEASE, 1)], by decide⟩,
   ⟨fieldsAt [(Boot.STEP, 5), (Boot.PLL, 1)], ⟨.host, true, 0#16⟩, by decide⟩,
   ⟨fieldsAt [(HIVE_MODE.MODE, 2), (Boot.PLL, 1)], ⟨.host, true, 0#16⟩, by decide⟩,
   ⟨fieldsAt [(Boot.PLL, 1)], ⟨.host, true, 0#16⟩, by decide⟩,
   ⟨fieldsAt [(Sleep.STATE, 1), (Sleep.STEP, 4)], 2, by decide⟩,
   ⟨fieldsAt [(Sleep.STATE, 1), (Sleep.STEP, 3)], 2, by decide⟩,
   ⟨fieldsAt [(HIVE_MODE.MODE, 1), (Boot.PLL, 1), (Ses.PIN, 1)], ⟨.host, true, 0#16⟩, by decide⟩,
   ⟨fieldsAt [(Sleep.STATE, 2)], 2, by decide⟩,
   ⟨fieldsAt [(HIVE_WAKE.EN, 6), (HIVE_SLEEP_TMR.DURATION, 1), (Sleep.STATE, 1)], by decide⟩⟩

/-- States that meet the hypotheses of `Obligations.FaultReactionAndLamps`, clause by clause. -/
theorem witness_FaultReactionAndLamps :
    (∃ (s : State) (a : Access) (page : BitVec 8) (w : BitVec 32) (i : Fin 16) (k : Fin 16) (cls : Fin 4) (j : Fin 16) (n :
      Fin 4), served s = true ∧ keeperView s a = true ∧ s.get (PAGE_LOCK.CFG page.toNat) = 0 ∧ s.get (PAGE_LOCK.INJ
      page.toNat) = 0 ∧ causeClass page.toNat i ≠ none ∧ causeClass page.toNat k = causeClass page.toNat i ∧ muted s
      page.toNat = false ∧ pageKind page.toNat ≠ none ∧ (∀ j : Fin 16, w.getLsbD (16 + j) = true → causeClass page.toNat j
      = none) ∧ (w.getLsbD n = false ∨ classActive s page.toNat (n + 1) = false) ∧ s.bit (Flt.TIMER page.toNat) cls = false
      ∧ s.get Pin.RST_LOW = 0 ∧ s.bit (Flt.QUIET page.toNat) cls = true ∧ classActive s page.toNat (cls + 1) = true ∧ s.get
      (Flt.STAND page.toNat j) = cls + 1) ∧
    (∃ (s : State) (a : Access) (page : BitVec 8) (w : BitVec 32) (cls : Fin 4) (n : Fin 4), served s = true ∧ keeperView s
      a = true ∧ pageKind page.toNat ≠ none ∧ w.getLsbD n = true ∧ classActive s page.toNat (n + 1) = true ∧ s.bit
      (Flt.TIMER page.toNat) cls = true) ∧
    (∃ (s : State) (page : BitVec 8), served s = true ∧ pageKind page.toNat = none) ∧
    (∃ (s : State) (a : Access) (page : BitVec 8) (w : BitVec 32) (j : Fin 16), served s = true ∧ keeperView s a = true ∧
      s.get (PAGE_LOCK.CFG page.toNat) = 0 ∧ s.get (PAGE_LOCK.INJ page.toNat) = 0 ∧ pageKind page.toNat ≠ none ∧ muted s
      page.toNat = false ∧ w.getLsbD (16 + j) = true ∧ causeClass page.toNat j ≠ none) :=
  ⟨⟨fieldsAt [(PAGE_FLT_STAT.ACTIVE 0x40, 4), (Boot.PLL, 1), (Flt.STAND 64 4, 3), (Flt.QUIET 64, 4), (Ses.PIN, 1)], ⟨.host,
     true, 0#16⟩, 64#8, 0#32, 0, 0, 2, 4, 0, by decide⟩,
   ⟨fieldsAt [(PAGE_FLT_STAT.ACTIVE 0x30, 2), (Boot.PLL, 1), (Flt.TIMER 48, 2), (Ses.PIN, 1)], ⟨.host, true, 0#16⟩, 48#8,
     2#32, 1, 1, by decide⟩,
   ⟨fieldsAt [(Boot.PLL, 1)], 121#8, by decide⟩,
   ⟨fieldsAt [(Boot.PLL, 1), (Ses.PIN, 1)], ⟨.host, true, 0#16⟩, 16#8, 0x4319be77#32, 0, by decide⟩⟩

/-- States that meet the hypotheses of `Obligations.PhaseStagingIssueAndPeriodStart`, clause by clause. -/
theorem witness_PhaseStagingIssueAndPeriodStart :
    (∃ (s : State) (a : Access) (p : Fin 16) (e : Timing), phHeld s p = false ∧ s.flag (PH_CTL.RUN p) = true ∧
      s.slots[p].length < 2 ∧ held145 s p e = false ∧ (s.get (Ph.SEQANY p) = 1 ∨ s.get (PH_STAT.NEXT_IDX p) =
      e.index.toNat) ∧ degraded s p = false ∧ decides s p = true ∧ BitVec.ofNat 8 (s.get (Ph.PERCNT p) + 1) = e.index ∧
      s.slots[p].head? = some e ∧ served s = true ∧ keeperView s a = true ∧ s.get (PAGE_LOCK.CFG (0x20 + p)) = 0 ∧ s.get
      (PH_STAT.STATE p) ≠ 0) ∧
    (∃ (s : State) (p : Fin 16) (e : Timing), phHeld s p = false ∧ s.flag (PH_CTL.RUN p) = true ∧ held145 s p e = false ∧
      (2 ≤ s.slots[p].length ∨ (s.get (Ph.SEQANY p) = 0 ∧ s.get (PH_STAT.NEXT_IDX p) ≠ e.index.toNat)) ∧ decides s p =
      false) ∧
    (∃ (s : State) (p : Fin 16) (e : Timing), phHeld s p = false ∧ s.flag (PH_CTL.RUN p) = true ∧ s.slots[p].length < 2 ∧
      held145 s p e = false ∧ (s.get (Ph.SEQANY p) = 1 ∨ s.get (PH_STAT.NEXT_IDX p) = e.index.toNat) ∧ degraded s p = true
      ∧ decides s p = true ∧ s.slots[p] = []) ∧
    (∃ (s : State) (p : Fin 16) (e : Timing), decides s p = true ∧ s.slots[p].head? = some e ∧ 1 ≤ (BitVec.ofNat 8 (s.get
      (Ph.PERCNT p) + 1) - e.index).toNat ∧ (BitVec.ofNat 8 (s.get (Ph.PERCNT p) + 1) - e.index).toNat ≤ 127) ∧
    (∃ (s : State) (p : Fin 16) (e : Timing), s.get (PH_STAT.STATE p) ≠ 0 ∧ s.get (Ph.NEXT p) = 1 ∧ phForced s p = false ∧
      s.get (PH_STAT.STATE p) = 1 ∧ s.exec[p] = some e ∧ e.ordA = true ∧ e.ordB = false) ∧
    (∃ (s : State) (p : Fin 16) (e : Timing), s.get (PH_STAT.STATE p) ≠ 0 ∧ phClockLost s p = false ∧ s.get (Ph.ENDRUN p) =
      1 ∧ s.get (Ph.NEXT p) ≠ 1 ∧ s.get (PH_STAT.STATE p) = 1 ∧ s.exec[p] = some e ∧ e.ordA = false ∧ e.ordB = true) ∧
    (∃ (s : State) (p : Fin 16), (s.get (PH_STAT.STATE p) = 0 ∨ phClockLost s p = true) ∧ degraded s p = false) ∧
    (∃ (s : State) (p : Fin 16), s.get (PH_STAT.STATE p) ≠ 0 ∧ s.get (Ph.NEXT p) = 2 ∧ s.get (Ph.ENDRUN p) = 0 ∧ s.get
      (PH_CTL.RUN p) = 1 ∧ phHeld s p = false) :=
  ⟨⟨withSlots (fieldsAt [(HIVE_MODE.MODE, 1), (PH_CTL.RUN 3, 1), (PH_STAT.STATE 3, 1), (Boot.PLL, 1), (Ses.CODE 2, 1),
     (Ph.PERCNT 3, 17)]) 3 ([⟨58272, 49694, 48594, 28601, true, true, 18#8⟩]), ⟨.can1, true, 0#16⟩, 3, ⟨58272, 49694,
     48594, 28601, true, true, 18#8⟩, by decide⟩,
   ⟨withSlots (fieldsAt [(HIVE_MODE.MODE, 1), (PH_CTL.RUN 7, 1)]) 7 ([⟨0, 0, 0, 0, false, false, 0#8⟩, ⟨0, 0, 0, 0, false,
     false, 0#8⟩]), 7, ⟨0, 0, 0, 0, false, false, 0#8⟩, by decide⟩,
   ⟨fieldsAt [(HIVE_MODE.MODE, 1), (CMB_STAT.DEGRADED 3, 2), (PH_CTL.RUN 13, 1), (PH_STAT.STATE 13, 1)], 13, ⟨0, 0, 0, 0,
     false, false, 0#8⟩, by decide⟩,
   ⟨withSlots (fieldsAt [(HIVE_MODE.MODE, 1), (PH_CTL.RUN 5, 1), (PH_STAT.STATE 5, 1)]) 5 ([⟨51231, 54119, 41496, 37776,
     true, true, 178#8⟩]), 5, ⟨51231, 54119, 41496, 37776, true, true, 178#8⟩, by decide⟩,
   ⟨withExec (fieldsAt [(HIVE_MODE.MODE, 1), (PH_STAT.STATE 2, 1), (Ph.NEXT 2, 1)]) 2 (some ⟨44342, 32900, 58674, 44992,
     true, false, 138#8⟩), 2, ⟨44342, 32900, 58674, 44992, true, false, 138#8⟩, by decide⟩,
   ⟨withExec (fieldsAt [(PH_STAT.STATE 0, 1), (Ph.ENDRUN 0, 1)]) 0 (some ⟨5222, 16342, 15771, 50068, false, true, 96#8⟩),
     0, ⟨5222, 16342, 15771, 50068, false, true, 96#8⟩, by decide⟩,
   ⟨State.reset, 0, by decide⟩,
   ⟨fieldsAt [(HIVE_MODE.MODE, 1), (PH_CTL.RUN 15, 1), (PH_STAT.STATE 15, 1), (Ph.NEXT 15, 2)], 15, by decide⟩⟩

/-- States that meet the hypotheses of `Obligations.PhaseHoldCommands`, clause by clause. -/
theorem witness_PhaseHoldCommands :
    (∃ (s : State) (a : Access) (p : Fin 16) (duv : Bool) (w : BitVec 32), phClockLost s p = false ∧ s.bit (Ph.GD p) (bitOf
      duv) = true ∧ served s = true ∧ keeperView s a = true ∧ s.get (PAGE_LOCK.CFG (0x20 + p)) = 0 ∧ w.getLsbD 0 = true ∧
      s.get (PH_CTL.RUN p) = 0 ∧ s.get (PH_STAT.STATE p) = 0) ∧
    (∃ (s : State) (a : Access) (p : Fin 16) (w : BitVec 32), served s = true ∧ keeperView s a = true ∧ s.get
      (PAGE_LOCK.CFG (0x20 + p)) = 0 ∧ w.getLsbD 0 = false ∧ s.get (PH_CTL.RUN p) = 1 ∧ s.get (PH_STAT.STATE p) = 1 ∧ s.get
      (PH_STAT.STATE p) ≠ 0 ∧ s.get (Ph.NEXT p) = 1) ∧
    (∃ (s : State) (p : Fin 16), s.get (PH_STAT.STATE p) = 2 ∧ phClockLost s p = false ∧ absent s (0x20 + p) = false ∧
      s.get Sleep.STATE = 0) ∧
    (∃ (s : State) (a : Access) (p : Fin 16) (w : BitVec 32), served s = true ∧ keeperView s a = true ∧ s.get
      (PAGE_LOCK.CFG (0x20 + p)) = 0 ∧ w.getLsbD 0 = false ∧ s.get (PH_CTL.RUN p) = 1 ∧ s.get (PH_STAT.STATE p) = 3 ∧ s.get
      (Ph.NEXT p) ≠ 1) :=
  ⟨⟨fieldsAt [(Boot.PLL, 1), (Ses.PIN, 1), (Ph.GD 11, 2)], ⟨.host, true, 0#16⟩, 11, true, 1#32, by decide⟩,
   ⟨fieldsAt [(PH_CTL.RUN 2, 1), (PH_STAT.STATE 2, 1), (Boot.PLL, 1), (Ses.PIN, 1), (Ph.NEXT 2, 1)], ⟨.host, true, 0#16⟩,
     2, 0#32, by decide⟩,
   ⟨fieldsAt [(PH_STAT.STATE 1, 2)], 1, by decide⟩,
   ⟨fieldsAt [(PH_CTL.RUN 15, 1), (PH_STAT.STATE 15, 3), (Boot.PLL, 1), (Ses.CODE 1, 1)], ⟨.can0, true, 0#16⟩, 15, 0#32, by
     decide⟩⟩

/-- States that meet the hypotheses of `Obligations.PhaseLimitAndSense`, clause by clause. -/
theorem witness_PhaseLimitAndSense :
    (∃ (s : State) (p : Fin 16) (neg : Bool) (tm : Nat) (sp : Fin 4) (raw : BitVec 12), s.get (PH_STAT.STATE p) = 1 ∧
      phForced s p = false ∧ blanked s p neg tm = false ∧ s.get (Ph.CUT p) = 0 ∧ (s.get (Ph.CBC_RUN p) < max 1 (s.get
      (PH_CBC.PERSIST p)) ∨ s.get (Ph.CBC_SAID p) = 1) ∧ (s.get (Ph.SAT_RUN p) ≠ 8 ∨ s.get (Ph.SAT_SAID p) = 1) ∧ (s.get
      (Ph.UNDER_RUN p) ≠ 64 ∨ s.get (PH_CTL.RUN p) = 0 ∨ s.get (Ph.STARVED p) = 1) ∧ spTakes s p sp = true ∧ phClockLost s
      p = false ∧ sp = 0 ∧ phClipped raw = false) ∧
    (∃ (s : State) (p : Fin 16) (neg : Bool) (tm : Nat) (sp : Fin 4) (raw : BitVec 12), (s.get (PH_STAT.STATE p) ≠ 1 ∨
      phForced s p = true ∨ blanked s p neg tm = true) ∧ max 1 (s.get (PH_CBC.PERSIST p)) ≤ s.get (Ph.CBC_RUN p) ∧ s.get
      (Ph.CBC_SAID p) = 0 ∧ muted s (0x20 + p) = false ∧ s.bit (Flt.PRESENT (0x20 + p)) 4 = false ∧ spTakes s p sp = true ∧
      phClockLost s p = false ∧ sp = 0 ∧ phClipped raw = true) ∧
    (∃ (s : State) (p : Fin 16) (neg : Bool) (tm : Nat) (sp : Fin 4), s.get (PH_STAT.STATE p) = 1 ∧ phForced s p = false ∧
      blanked s p neg tm = false ∧ s.get (Ph.CUT p) ≠ 0 ∧ spTakes s p sp = true ∧ phClockLost s p = false ∧ sp ≠ 0) ∧
    (∃ (s : State) (p : Fin 16), s.get (Ph.SAT_RUN p) = 8 ∧ s.get (Ph.SAT_SAID p) = 0 ∧ muted s (0x20 + p) = false ∧ s.bit
      (Flt.PRESENT (0x20 + p)) 6 = false) ∧
    (∃ (s : State) (p : Fin 16), s.get (Ph.UNDER_RUN p) = 64 ∧ s.get (PH_CTL.RUN p) = 1 ∧ s.get (Ph.STARVED p) = 0 ∧ muted
      s (0x20 + p) = false ∧ s.bit (Flt.PRESENT (0x20 + p)) 5 = false) :=
  ⟨⟨fieldsAt [(HIVE_MODE.MODE, 1), (PH_STAT.STATE 7, 1)], 7, false, 0, 0, 0#12, by decide⟩,
   ⟨fieldsAt [(PH_STAT.STATE 10, 1), (Ph.CBC_RUN 10, 16)], 10, false, 0, 0, 2047#12, by decide⟩,
   ⟨fieldsAt [(HIVE_MODE.MODE, 1), (PH_STAT.STATE 1, 1), (Ph.CUT 1, 1)], 1, false, 0, 1, by decide⟩,
   ⟨fieldsAt [(Ph.SAT_RUN 7, 8)], 7, by decide⟩,
   ⟨fieldsAt [(PH_CTL.RUN 15, 1), (Ph.UNDER_RUN 15, 64)], 15, by decide⟩⟩

/-- States that meet the hypotheses of `Obligations.PlanConfirmAndMiss`, clause by clause. -/
theorem witness_PlanConfirmAndMiss :
    (∃ (s : State) (p : Fin 16) (c : Fin 4) (e : Timing) (idx : BitVec 8) (more : Bool) (close : Bool) (q : Fin 16), (plans
      s p = false ∨ nextIndex s p close e.index = false) ∧ judged s p idx = none ∧ more = true ∧ s.get (CMB_GANG.STATE c) =
      2 ∧ q.val / 4 = c ∧ inSet s q = true ∧ consec s p ≠ 8 ∧ s.get (CMB_STORM.TH c) ≠ 0 ∧ s.get (CMB_STORM.TH c) ≤ s.get
      (CMB_CONSEC.STORM_CNT c) ∧ s.get (CMB_STAT.STORM c) = 0) ∧
    (∃ (s : State) (p : Fin 16) (c : Fin 4), consec s p = 8 ∧ muted s (0x20 + p) = false ∧ s.get (CMB_STAT.STORM c) = 1 ∧
      s.get (Comb.MARKN c) = 0 ∧ s.get (Comb.EDGECNT c) ≤ s.get (CMB_STORM.TH c) / 4) ∧
    (∃ (s : State) (p : Fin 16) (idx : BitVec 8) (x : Tagged) (cbcNow : Bool) (more : Bool) (y : PlanEntry), judged s p idx
      = some y ∧ s.get (PH_STAT.STATE p) = 1 ∧ degraded s p = false ∧ (tagCheck s (0x10 + p / 4) x.val x.tag).1 = true ∧
      x.clip = false ∧ cbcNow = false ∧ y.band * 16384 < (x.val - y.iPred).natAbs ∧ y.gen = s.get (CMB_STAT.GEN (p / 4)) ∧
      more = true) ∧
    (∃ (s : State) (p : Fin 16) (idx : BitVec 8) (x : Tagged) (cbcNow : Bool) (more : Bool) (y : PlanEntry), judged s p idx
      = some y ∧ s.get (PH_STAT.STATE p) = 1 ∧ degraded s p = false ∧ (tagCheck s (0x10 + p / 4) x.val x.tag).1 = true ∧
      x.clip = false ∧ cbcNow = false ∧ y.band * 16384 < (x.val - y.iPred).natAbs ∧ y.gen = s.get (CMB_STAT.GEN (p / 4)) ∧
      more = false ∧ (gangOf s (p / 4)).all (fun d => s.get (Comb.MISSED d) == 0) = true) ∧
    (∃ (s : State) (p : Fin 16) (idx : BitVec 8) (x : Tagged) (cbcNow : Bool) (y : PlanEntry), judged s p idx = some y ∧
      s.get (PH_STAT.STATE p) = 1 ∧ degraded s p = false ∧ (tagCheck s (0x10 + p / 4) x.val x.tag).1 = true ∧ x.clip =
      false ∧ cbcNow = false ∧ (x.val - y.iPred).natAbs ≤ y.band * 16384) ∧
    (∃ (s : State) (p : Fin 16) (e : Timing) (close : Bool) (a : Nat), modelTable s (p / 4) = some a ∧ plans s p = true ∧
      nextIndex s p close e.index = true ∧ s.window[p].length < (if degraded s p then 2 else depthOf s (p / 4)) ∧ beyond s
      p a (lanePredict s p a e).2 (lanePredict s p a e).1.iPred = false) :=
  ⟨⟨fieldsAt [(CMB_GANG.STATE 2, 2), (CMB_CONSEC.STORM_CNT 2, 32), (PH_STAT.STATE 9, 1)], 0, 2, ⟨0, 0, 0, 0, false, false,
     0#8⟩, 0#8, true, false, 9, by decide⟩,
   ⟨fieldsAt [(CMB_CONSEC.CONSEC 2, 2048), (CMB_STAT.STORM 3, 1)], 10, 3, by decide⟩,
   ⟨withWindow (fieldsAt [(PH_STAT.STATE 11, 1)]) 11 ([⟨⟨1, 1, 1, 1, true, true, 9#8⟩, 2, false, false, 0, 3, -499995, 0,
     0⟩]), 11, 9#8, ⟨0, 0#16, false⟩, false, true, ⟨⟨1, 1, 1, 1, true, true, 9#8⟩, 2, false, false, 0, 3, -499995, 0, 0⟩,
     by decide⟩,
   ⟨withWindow (fieldsAt [(PH_STAT.STATE 2, 1)]) 2 ([⟨⟨1, 1, 1, 1, true, true, 138#8⟩, 2, false, false, 0, 3, -81915, 0,
     0⟩]), 2, 138#8, ⟨0, 0#16, false⟩, false, false, ⟨⟨1, 1, 1, 1, true, true, 138#8⟩, 2, false, false, 0, 3, -81915, 0,
     0⟩, by decide⟩,
   ⟨withWindow (fieldsAt [(PH_STAT.STATE 6, 1)]) 6 ([⟨⟨1, 1, 1, 1, true, true, 96#8⟩, 2, false, false, 0, 3, 0, 0, 0⟩]), 6,
     96#8, ⟨0, 0#16, false⟩, false, ⟨⟨1, 1, 1, 1, true, true, 96#8⟩, 2, false, false, 0, 3, 0, 0, 0⟩, by decide⟩,
   ⟨bytesPut (fieldsAt [(HIVE_MODE.MODE, 1), (CMB_CTL.EN 2, 1), (PH_CTL.RUN 10, 1), (Comb.MODEL_OK 2, 1), (Ph.COEF 10 0,
     100000), (Ph.COEF 10 2, 100000), (Comb.COEF 2 0, 1000), (Comb.COEF 2 1, 1000), (Comb.PER 2, 51200)]) [(0x200006, 1),
     (0x200010, 2), (0x200015, 16)], 10, ⟨0, 0, 0, 0, false, false, 1#8⟩, false, 2101248, by decide +kernel⟩⟩

/-- States that meet the hypotheses of `Obligations.AnticipationRecords`, clause by clause. -/
theorem witness_AnticipationRecords :
    (∃ (s : State) (c : Fin 4) (r : BitVec 64), s.flag (CMB_CTL.ANT_EN c) = false ∧ foragerRuns s c = false ∧ r.toNat /
      4096 % 2 = 0) ∧
    (∃ (s : State) (c : Fin 4) (idx : Fin 16), foragerRuns s c = true ∧ s.flag (CMB_CTL.ANT_EN c) = true ∧ s.antq[c].length
      < 16 ∧ s.flag (CMB_PP_CTL.SHARE_EN c) = true ∧ inSafeBoot s = false ∧ (s.antq[c])[idx.val]?.any (fun y => slice
      y.word 0 4 == 7) = true) ∧
    (∃ (s : State) (c : Fin 4) (idx : Fin 16) (j : Fin 2), (s.antq[c])[idx.val]?.any (fun y => recLoads y.word &&
      y.word.testBit 12 == (j.val == 1)) = true) :=
  ⟨⟨fieldsAt [(CMB_CTL.ANT_EN 2, 0)], 2, 0#64, by decide⟩,
   ⟨withAntq (fieldsAt [(HIVE_MODE.MODE, 1), (CMB_PP_CTL.SHARE_EN 2, 1)]) 2 ([⟨0, 0, 0⟩, ⟨6255621877710808743, 0, 0⟩]), 2,
     1, by decide⟩,
   ⟨withAntq State.reset 3 ([⟨17488462209549447553, 0, 0⟩]), 3, 0, 1, by decide⟩⟩

/-- States that meet the hypotheses of `Obligations.ForagerRegistersAndGangs`, clause by clause. -/
theorem witness_ForagerRegistersAndGangs :
    (∃ (s : State) (a : Access) (c : Fin 4) (w : BitVec 32) (d : Fin 4) (q : Fin 16), (s.get (CMB_CTL.EN c) = 0 ∨ s.get
      (Comb.MODEL_OK c) = 0) ∧ served s = true ∧ keeperView s a = true ∧ s.get (PAGE_LOCK.CFG (0x10 + c)) = 0 ∧ w.toNat %
      131072 ≠ s.get (CMB_MARK.PER c) ∧ markComb s d = c.val ∧ q.val / 4 = d.val ∧ (combLive s c = false ∨ w.toNat / 65536
      % 256 = s.get (CMB_PLAN_CTL.MODEL c)) ∧ (combLive s c = false ∨ s.get (CMB_CTL.EN c) = 1) ∧ s.get (CMB_GANG.REQ c) ≠
      w.toNat % 16 ∧ s.get (CMB_GANG.STATE d) ≠ 2) ∧
    (∃ (s : State) (c : Fin 4) (d : Fin 4), s.get (CMB_GANG.STATE c) = 2 ∧ (gangOf s c).any (fun d => s.get (CMB_GANG.REQ
      d) != s.get (CMB_GANG.MEMBERS d) || !s.flag (CMB_CTL.EN d)) = true ∧ d.val ∈ gangOf s c) ∧
    (∃ (s : State) (c : Fin 4) (m : Nat), modelTable s c = some m ∧ s.get (CMB_CTL.EN c) = 1 ∧ s.get (Comb.MODEL_OK c) = 1)
      ∧
    (∃ (s : State) (c : Fin 4) (d : Fin 4), gangAsked s c ≠ [] ∧ (gangAsked s c)[0]? = some c.val ∧ inSafeBoot s = false ∧
      (gangAsked s c).all (fun d => s.get (CMB_GANG.STATE d) == 1) = true ∧ (gangAsked s c).all (withinMean s (gangAsked s
      c)) = true ∧ d.val ∈ gangAsked s c) ∧
    (∃ (s : State) (c : Fin 4) (d : Fin 4), gangAsked s c ≠ [] ∧ (gangAsked s c)[0]? = some c.val ∧ inSafeBoot s = false ∧
      (gangAsked s c).all (fun d => s.get (CMB_GANG.STATE d) == 1) = true ∧ (gangAsked s c).all (withinMean s (gangAsked s
      c)) = false ∧ d.val ∈ gangAsked s c ∧ muted s (0x10 + d) = false) :=
  ⟨⟨fieldsAt [(Boot.PLL, 1), (Ses.CODE 1, 1)], ⟨.can0, true, 0#16⟩, 0, 1#32, 0, 0, by decide⟩,
   ⟨fieldsAt [(CMB_GANG.STATE 0, 2)], 0, 0, by decide⟩,
   ⟨bytesPut (fieldsAt [(CMB_CTL.EN 0, 1), (Comb.MODEL_OK 0, 1)]) [(0x200006, 1), (0x200010, 2), (0x200015, 16)], 0,
     2101248, by decide +kernel⟩,
   ⟨fieldsAt [(CMB_GANG.REQ 0, 3), (CMB_GANG.STATE 0, 1), (CMB_GANG.REQ 1, 3), (CMB_GANG.STATE 1, 1)], 0, 0, by decide⟩,
   ⟨fieldsAt [(CMB_GANG.REQ 0, 3), (CMB_GANG.STATE 0, 1), (CMB_GANG.REQ 1, 3), (CMB_GANG.STATE 1, 1), (Comb.VBB 1, 1)], 0,
     0, by decide⟩⟩

/-- States that meet the hypotheses of `Obligations.ArbiterEvaluates`, clause by clause. -/
theorem witness_ArbiterEvaluates :
    (∃ (s : State) (c : Fin 4), foragerRuns s c = true ∧ s.get (Comb.PERWAIT c) = 0 ∧ s.get (CMB_PP_CTL.EN c) = 1 ∧ s.get
      (Arb.STALE c) = 0 ∧ s.get (CMB_GANG.STATE c) ≠ 2 ∧ s.get (Mnt.DRAIN c) = 0 ∧ s.get (Arb.CUTRAMP c) = 0 ∧ arbRuns s c
      = true ∧ s.get (CMB_PP_STAT.MODE c) ≠ 3 ∧ closedEngines s c ≠ [] ∧ s.get (Arb.SUPHELD c) = 1 ∧ (s.get
      (CMB_PP_STAT.SHARE_LIVE c) = 1 ∨ (s.get (Comb.SHARE_ON c) = 1 ∧ s.get (Arb.SHARE_OUT c) = 0))) ∧
    (∃ (s : State) (c : Fin 4), foragerRuns s c = true ∧ s.get (Comb.PERWAIT c) ≠ 0 ∧ closedEngines s c = [] ∧ s.get
      (CMB_PP_CTL.EN c) = 0) ∧
    (∃ (s : State) (c : Fin 4) (e : Fin 8), foragerRuns s c = true ∧ s.get (CMB_PP_CTL.EN c) = 1 ∧ s.get (Arb.STALE c) = 1
      ∧ s.get (Arb.STALE_RAMP c) = 0 ∧ s.get (CMB_PP_STAT.MODE c) = 3 ∧ closedEngines s c = [e.val]) ∧
    (∃ (s : State) (c : Fin 4), foragerRuns s c = false) :=
  ⟨⟨fieldsAt [(HIVE_MODE.MODE, 1), (CMB_PP_CTL.EN 1, 1), (PORT_STAT.STATE 14, 5), (Comb.SHARE_ON 1, 1), (Arb.SUPHELD 1,
     1)], 1, by decide⟩,
   ⟨fieldsAt [(HIVE_MODE.MODE, 1), (Comb.PERWAIT 0, 1)], 0, by decide⟩,
   ⟨fieldsAt [(HIVE_MODE.MODE, 1), (CMB_PP_CTL.EN 2, 1), (CMB_PP_STAT.MODE 2, 3), (PORT_STAT.STATE 26, 5), (Arb.STALE 2,
     1)], 2, 4, by decide⟩,
   ⟨State.reset, 0, by decide⟩⟩

/-- States that meet the hypotheses of `Obligations.SourceSelection`, clause by clause. -/
theorem witness_SourceSelection :
    (∃ (s : State) (a : Access) (c : Fin 4) (m : Fin 2) (w : BitVec 32), foragerRuns s c = true ∧ s.get (PORT_STAT.WIN (12
      * c.val + m.val)) = 1 ∧ s.get (Arb.STUCK c) = m.val + 1 ∧ arbRuns s c = true ∧ s.get (CMB_PP_CTL.REVERT c) = 1 ∧
      s.get (CMB_PP_CTL.SEL c) = 0 ∧ s.get (Arb.CHG c) = 0 ∧ qualified s c (s.get (CMB_PP_CTL.PRI c)) = true ∧ sourceOn s c
      = true ∧ s.get (CMB_PP_STAT.ACTIVE c) ≠ s.get (CMB_PP_CTL.PRI c) ∧ served s = true ∧ keeperView s a = true ∧ s.get
      (PAGE_LOCK.CFG (0x10 + c)) = 0 ∧ w.toNat / 4 % 4 ≠ s.get (CMB_PP_CTL.SEL c) ∧ (s.get (Port.CMD (12 * c.val)) = 1 ∨
      s.get (Port.CMD (12 * c.val + 1)) = 1 ∨ s.get (CMB_PP_STAT.ON c) ≠ 0)) ∧
    (∃ (s : State) (a : Access) (c : Fin 4) (m : Fin 2) (n : Fin 48) (w : BitVec 32), served s = true ∧ keeperView s a =
      true ∧ s.get (PAGE_LOCK.CFG (0x10 + c)) = 0 ∧ w.toNat / 4 % 4 ≠ s.get (CMB_PP_CTL.SEL c) ∧ s.get (Arb.CHG c) ≠ 0 ∧
      arbRuns s c = true ∧ pickSource s c = some m.val ∧ (s.get (Arb.CHG c) = 0 ∨ s.get (Arb.CHG c) = 3) ∧ s.get (Port.CMD
      (12 * c.val)) = 0 ∧ s.get (Port.CMD (12 * c.val + 1)) = 0 ∧ s.get (CMB_PP_STAT.ON c) = 0 ∧ s.get (Port.FALL (12 *
      c.val + (1 - m.val))) = 0 ∧ portKind n = 1 ∧ s.get (PORT_STAT.GATE_FULL n) = 1 ∧ s.get (PORT_STAT.GATE_FULL (12 * (n
      / 12) + (1 - n % 12))) = 0) ∧
    (∃ (s : State) (a : Access) (c : Fin 4) (w : BitVec 32), served s = true ∧ keeperView s a = true ∧ s.get (PAGE_LOCK.CFG
      (0x10 + c)) = 0 ∧ w.toNat / 4 % 4 = s.get (CMB_PP_CTL.SEL c) ∧ w.toNat / 16 % 2 = s.get (CMB_PP_CTL.PRI c) ∧ arbRuns
      s c = true ∧ s.get (Arb.CHG c) = 1) ∧
    (∃ (s : State) (n : Fin 48), portKind n ≠ 4 ∧ s.get (PORT_STAT.GATE_FULL n) = 0 ∧ s.get (PORT_STAT.STATE n) ≠ 4 ∧ s.get
      (PORT_STAT.STATE n) ≠ 6 ∧ s.get (PORT_STAT.STATE n) ≠ 9 ∧ portKind n = 1 ∧ s.get (Arb.CHG (n / 12)) = 2) :=
  ⟨⟨fieldsAt [(HIVE_MODE.MODE, 1), (CMB_PP_CTL.EN 3, 1), (CMB_PP_CTL.PRI 3, 1), (CMB_PP_STAT.ON 3, 1),
     (CMB_PP_STAT.QUALIFIED 3, 2), (PORT_STAT.WIN 36, 1), (Boot.PLL, 1), (Ses.PIN, 1), (Port.CMD 36, 1), (Arb.STUCK 3, 1)],
     ⟨.host, true, 0#16⟩, 3, 0, 0xd80fe4#32, by decide⟩,
   ⟨fieldsAt [(HIVE_MODE.MODE, 1), (CMB_PP_CTL.EN 0, 1), (CMB_PP_CTL.SEL 0, 1), (CMB_PP_STAT.QUALIFIED 0, 1),
     (PORT_STAT.GATE_FULL 13, 1), (Boot.PLL, 1), (Ses.PIN, 1), (Arb.CHG 0, 3)], ⟨.host, true, 0#16⟩, 0, 0, 13, 0#32, by
     decide⟩,
   ⟨fieldsAt [(HIVE_MODE.MODE, 1), (CMB_PP_CTL.EN 3, 1), (Boot.PLL, 1), (Ses.PIN, 1), (Arb.CHG 3, 1)], ⟨.host, true, 0#16⟩,
     3, 0#32, by decide⟩,
   ⟨fieldsAt [(Arb.CHG 3, 2)], 36, by decide⟩⟩

/-- States that meet the hypotheses of `Obligations.BudgetsAndShedding`, clause by clause. -/
theorem witness_BudgetsAndShedding :
    (∃ (s : State) (a : Access) (c : Fin 4) (w : BitVec 32) (k : Fin 7), served s = true ∧ keeperView s a = true ∧ s.get
      (PAGE_LOCK.CFG (0x10 + c)) = 0 ∧ w.toNat % 65536 ≤ w.toNat / 65536 ∧ arbRuns s c = true ∧ s.get (CMB_PP_STAT.RAMP c)
      = 0 ∧ inSafeBoot s = false ∧ w.toNat % 65536 < s.get (Pd.LIM c) ∧ s.get (Arb.PD_CUT c) = 0 ∧ s.get (CMB_PP_STAT.ON c)
      ≠ 0 ∧ iSrc s c ≤ max (s.get (CMB_TARGET.LIMIT c)) (drawTarget s c) ∧ s.get (CMB_PP_STAT.MODE c) = 3 ∧ shedPri s c k ≠
      0 ∧ shedPri s c k < s.get (CMB_VBB_CFG.KEEP c) ∧ feederOn s (12 * c + 4 + k) = true) ∧
    (∃ (s : State) (a : Access) (c : Fin 4) (w : BitVec 32), served s = true ∧ keeperView s a = true ∧ s.get (PAGE_LOCK.CFG
      (0x10 + c)) = 0 ∧ w.toNat % 65536 ≤ w.toNat / 65536 ∧ (inSafeBoot s = true ∨ s.get (Pd.LIM c) ≤ w.toNat % 65536) ∧
      arbRuns s c = true ∧ s.get (CMB_PP_STAT.RAMP c) = 1 ∧ s.get (Arb.PD_CUT c) = 1) ∧
    (∃ (s : State) (c : Fin 4), arbRuns s c = true ∧ s.get (CMB_PP_STAT.ON c) ≠ 0 ∧ s.get (CMB_PP_STAT.RAMP c) = 0 ∧ s.get
      (Arb.SHEDTRIP c) = 0 ∧ (max (s.get (CMB_TARGET.LIMIT c)) (drawTarget s c) : Int) < iSrc s c ∧ shedChoice s c = none ∧
      s.bit (Flt.PRESENT (0x30 + 12 * c + s.get (CMB_PP_STAT.ACTIVE c))) 10 = false ∧ muted s (0x30 + 12 * c + s.get
      (CMB_PP_STAT.ACTIVE c)) = false) ∧
    (∃ (s : State) (c : Fin 4) (k : Fin 7), arbRuns s c = true ∧ s.get (CMB_PP_STAT.ON c) ≠ 0 ∧ s.get (CMB_PP_STAT.RAMP c)
      = 0 ∧ s.get (Arb.SHEDTRIP c) = 0 ∧ (max (s.get (CMB_TARGET.LIMIT c)) (drawTarget s c) : Int) < iSrc s c ∧ shedChoice
      s c = some k.val ∧ muted s (0x34 + 12 * c + k) = false) ∧
    (∃ (s : State) (c : Fin 4), arbRuns s c = true ∧ s.get (CMB_PP_STAT.ON c) ≠ 0 ∧ s.get (CMB_PP_STAT.RAMP c) = 0 ∧ s.get
      (Arb.SHEDTRIP c) = 1 ∧ (max (s.get (CMB_TARGET.LIMIT c)) (drawTarget s c) : Int) < iSrc s c) :=
  ⟨⟨fieldsAt [(HIVE_MODE.MODE, 1), (CMB_PP_CTL.EN 1, 1), (CMB_PP_STAT.MODE 1, 3), (CMB_PP_STAT.ON 1, 1), (CMB_VBB_CFG.KEEP
     1, 2), (CMB_SHED_PRI.PRI 1, 0x8d10), (PORT_STAT.STATE 17, 5), (Boot.PLL, 1), (Ses.PIN, 1)], ⟨.host, true, 0#16⟩, 1,
     0#32, 1, by decide⟩,
   ⟨fieldsAt [(HIVE_MODE.MODE, 1), (CMB_PP_CTL.EN 1, 1), (CMB_PP_STAT.RAMP 1, 1), (Boot.PLL, 1), (Ses.CODE 1, 1),
     (Arb.PD_CUT 1, 1)], ⟨.can0, true, 0#16⟩, 1, 0xfffffa23#32, by decide⟩,
   ⟨fieldsAt [(HIVE_MODE.MODE, 1), (CMB_PP_CTL.EN 3, 1), (CMB_PP_STAT.ON 3, 1), (CMB_BUDGET.LIM 3, 1600), (CMB_TARGET.LIMIT
     3, 1600), (Port.IF 36, 1601)], 3, by decide⟩,
   ⟨fieldsAt [(HIVE_MODE.MODE, 1), (CMB_PP_CTL.EN 2, 1), (CMB_PP_STAT.ON 2, 1), (CMB_BUDGET.LIM 2, 1600), (CMB_SHED_PRI.PRI
     2, 16), (CMB_TARGET.LIMIT 2, 1600), (PORT_STAT.STATE 29, 5), (Port.IF 24, 1601)], 2, 1, by decide⟩,
   ⟨fieldsAt [(HIVE_MODE.MODE, 1), (CMB_PP_CTL.EN 3, 1), (CMB_PP_STAT.ON 3, 1), (CMB_BUDGET.LIM 3, 1600), (CMB_TARGET.LIMIT
     3, 1600), (Port.IF 36, 1601), (Arb.SHEDTRIP 3, 1)], 3, by decide⟩⟩

/-- States that meet the hypotheses of `Obligations.PortWindowsAndPresence`, clause by clause. -/
theorem witness_PortWindowsAndPresence :
    (∃ (s : State) (n : Fin 48), portActs s n = true ∧ s.get (PORT_STAT.WIN n) = 1 ∧ portKind n ≠ 1 ∧ 4 ≤ s.get
      (PORT_STAT.STATE n) ∧ (portKind n ≠ 1 ∨ s.get (PORT_CTL.PRES_USE n) ≠ 1 ∨ s.get (PORT_STAT.PRES n) = 1) ∧ s.get
      (PORT_OVP.LEVEL n) ≠ 0 ∧ muted s (0x30 + n) = false ∧ s.get (PORT_STAT.PRES n) = 1 ∧ portKind n = 2) ∧
    (∃ (s : State) (a : Access) (n : Fin 48) (w : BitVec 32), portActs s n = true ∧ portKind n = 1 ∧ s.get (PORT_STAT.STATE
      n) = 5 ∧ combLive s (n / 12) = true ∧ s.get (PORT_OVP.LEVEL n) = 0 ∧ served s = true ∧ s.get (Port.HELD n) = 0 ∧
      s.get (PAGE_LOCK.CFG (0x30 + n)) = 0 ∧ (keeperView s a = true ∨ (w.toNat / 16 % 2 = s.get (PORT_CTL.SAFE n) ∧ w.toNat
      / 8 % 2 = s.get (PORT_CTL.SLEEP_ON n) ∧ w.toNat / 256 % 256 = s.get (PORT_CTL.ANT_LEAD n))) ∧ w.getLsbD 0 = false ∧
      s.get (PORT_CTL.EN n) = 1 ∧ portKind n ≠ 3) ∧
    (∃ (s : State) (a : Access) (n : Fin 48) (w : BitVec 32), portActs s n = true ∧ s.get (PORT_STAT.PRES n) = 0 ∧ portKind
      n = 3 ∧ s.get (PORT_CTL.PRES_USE n) = 1 ∧ served s = true ∧ s.get (Port.HELD n) = 0 ∧ s.get (PAGE_LOCK.CFG (0x30 +
      n)) = 0 ∧ (keeperView s a = true ∨ (w.toNat / 16 % 2 = s.get (PORT_CTL.SAFE n) ∧ w.toNat / 8 % 2 = s.get
      (PORT_CTL.SLEEP_ON n) ∧ w.toNat / 256 % 256 = s.get (PORT_CTL.ANT_LEAD n))) ∧ w.getLsbD 0 = true ∧ s.get (PORT_CTL.EN
      n) = 0 ∧ s.get (PORT_STAT.STATE n) ≠ 8) ∧
    (∃ (s : State) (a : Access) (n : Fin 48) (w : BitVec 32), portActs s n = true ∧ s.get (PORT_STAT.PRES n) = 1 ∧ portKind
      n = 3 ∧ s.get (PORT_CTL.PRES_USE n) = 1 ∧ s.get (Port.HELD n) = 0 ∧ s.get (PORT_STAT.STATE n) = 5 ∧ s.get
      (PORT_CTL.EN n) = 1 ∧ served s = true ∧ s.get (PAGE_LOCK.CFG (0x30 + n)) = 0 ∧ (keeperView s a = true ∨ (w.toNat / 16
      % 2 = s.get (PORT_CTL.SAFE n) ∧ w.toNat / 8 % 2 = s.get (PORT_CTL.SLEEP_ON n) ∧ w.toNat / 256 % 256 = s.get
      (PORT_CTL.ANT_LEAD n))) ∧ w.getLsbD 0 = false) ∧
    (∃ (s : State) (a : Access) (n : Fin 48) (w : BitVec 32), portActs s n = true ∧ portKind n = 1 ∧ combLive s (n / 12) =
      false ∧ s.get (PORT_CTL.PRES_USE n) = 1 ∧ s.get (PORT_STAT.PRES n) = 0 ∧ served s = true ∧ s.get (Port.HELD n) = 0 ∧
      s.get (PAGE_LOCK.CFG (0x30 + n)) = 0 ∧ (keeperView s a = true ∨ (w.toNat / 16 % 2 = s.get (PORT_CTL.SAFE n) ∧ w.toNat
      / 8 % 2 = s.get (PORT_CTL.SLEEP_ON n) ∧ w.toNat / 256 % 256 = s.get (PORT_CTL.ANT_LEAD n))) ∧ w.getLsbD 0 = true ∧
      s.get (PORT_CTL.EN n) = 0 ∧ s.get (PORT_STAT.STATE n) = 8) ∧
    (∃ (s : State) (a : Access) (n : Fin 48) (w : BitVec 32), portActs s n = true ∧ served s = true ∧ s.get (Port.HELD n) =
      0 ∧ s.get (PAGE_LOCK.CFG (0x30 + n)) = 0 ∧ (keeperView s a = true ∨ (w.toNat / 16 % 2 = s.get (PORT_CTL.SAFE n) ∧
      w.toNat / 8 % 2 = s.get (PORT_CTL.SLEEP_ON n) ∧ w.toNat / 256 % 256 = s.get (PORT_CTL.ANT_LEAD n))) ∧ w.getLsbD 0 =
      false ∧ s.get (PORT_CTL.EN n) = 1 ∧ s.get (PORT_STAT.STATE n) = 8) :=
  ⟨⟨fieldsAt [(PORT_STAT.STATE 39, 4), (PORT_STAT.PRES 39, 1), (PORT_STAT.WIN 39, 1), (PORT_OVP.LEVEL 39, 1)], 39, by
     decide⟩,
   ⟨fieldsAt [(HIVE_MODE.MODE, 1), (PORT_CTL.EN 37, 1), (PORT_STAT.STATE 37, 5), (Boot.PLL, 1), (Ses.PIN, 1)], ⟨.host,
     true, 0#16⟩, 37, 0#32, by decide⟩,
   ⟨fieldsAt [(PORT_CTL.PRES_USE 20, 1), (PORT_CTL.ANT_LEAD 20, 0), (Boot.PLL, 1)], ⟨.host, true, 0#16⟩, 20, 1#32, by
     decide⟩,
   ⟨fieldsAt [(PORT_CTL.EN 30, 1), (PORT_CTL.PRES_USE 30, 1), (PORT_STAT.STATE 30, 5), (PORT_STAT.PRES 30, 1), (Boot.PLL,
     1), (Ses.PIN, 1)], ⟨.host, true, 0#16⟩, 30, 0#32, by decide⟩,
   ⟨fieldsAt [(PORT_CTL.PRES_USE 25, 1), (PORT_CTL.ANT_LEAD 25, 0), (PORT_STAT.STATE 25, 8), (Boot.PLL, 1)], ⟨.host, true,
     0#16⟩, 25, 1#32, by decide⟩,
   ⟨fieldsAt [(PORT_CTL.EN 34, 1), (PORT_CTL.ANT_LEAD 34, 234), (PORT_STAT.STATE 34, 8), (Boot.PLL, 1)], ⟨.host, true,
     0#16⟩, 34, 0xea60#32, by decide⟩⟩

/-- States that meet the hypotheses of `Obligations.PortStart`, clause by clause. -/
theorem witness_PortStart :
    (∃ (s : State) (n : Fin 48), portActs s n = true ∧ portKind n = 3 ∧ s.get (Port.HELD n) = 0 ∧ combLive s (n / 12) =
      true ∧ s.get (PORT_STAT.STATE n) = 3 ∧ s.get (Port.MAIN n) = 1 ∧ s.get (Port.PCG_DONE n) = 0 ∧ muted s (0x30 + n) =
      false ∧ s.get (Port.FALL n) = 1 ∧ (portKind n ≠ 1 ∨ s.get (Port.OFF_CMD n) = 0)) ∧
    (∃ (s : State) (n : Fin 48), portActs s n = true ∧ portKind n = 3 ∧ combLive s (n / 12) = false ∧ s.get
      (PORT_STAT.STATE n) = 4 ∧ muted s (0x30 + n) = false) ∧
    (∃ (s : State) (n : Fin 48), portActs s n = true ∧ portKind n = 3 ∧ s.get (Port.HELD n) = 0 ∧ combLive s (n / 12) =
      true ∧ s.get (PORT_STAT.STATE n) = 2 ∧ s.get (Port.PCG n) = 1) ∧
    (∃ (s : State) (n : Fin 48), portActs s n = true ∧ portKind n = 3 ∧ s.get (PORT_STAT.STATE n) = 5 ∧ s.get (Port.PG_RUN
      n) = 1 ∧ s.get (PORT_STAT.PG n) = 0) ∧
    (∃ (s : State) (n : Fin 48), portActs s n = true ∧ s.get (PORT_STAT.STATE n) = 7 ∧ s.get (Port.HELD n) = 0 ∧ s.get
      (PORT_CTL.EN n) = 0) ∧
    (∃ (s : State) (n : Fin 48), portActs s n = true ∧ portKind n = 3 ∧ s.get (Port.HELD n) = 0 ∧ combLive s (n / 12) =
      true ∧ ((s.get (PORT_STAT.STATE n) = 2 ∧ s.get (Port.PCG n) = 0) ∨ (s.get (PORT_STAT.STATE n) = 3 ∧ s.get (Port.MAIN
      n) = 1 ∧ s.get (Port.PCG_DONE n) = 1))) ∧
    (∃ (s : State) (n : Fin 48), portActs s n = true ∧ portKind n = 3 ∧ s.get (PORT_STAT.INS_DONE n) = 0 ∧ (s.get
      (PORT_CTL.PRES_USE n) = 0 ∨ s.get (PORT_STAT.PRES n) = 1) ∧ s.get (PORT_STAT.STATE n) = 1 ∧ s.get (Port.HELD n) = 0 ∧
      s.get (Port.SLEPT n) = 0 ∧ portReady s n = true) ∧
    (∃ (s : State) (n : Fin 48), portActs s n = true ∧ s.get (PORT_STAT.STATE n) = 3 ∧ s.get (Port.PCG_DONE n) = 0 ∧
      portKind n ≠ 3) ∧
    (∃ (s : State) (n : Fin 48), portActs s n = true ∧ s.get (Port.FALL n) = 1 ∧ portKind n = 1 ∧ s.get (Port.OFF_CMD n) =
      1 ∧ muted s (0x30 + n) = false) :=
  ⟨⟨fieldsAt [(HIVE_MODE.MODE, 1), (PORT_STAT.STATE 5, 3), (Port.MAIN 5, 1), (Port.FALL 5, 1)], 5, by decide⟩,
   ⟨fieldsAt [(PORT_STAT.STATE 5, 4)], 5, by decide⟩,
   ⟨fieldsAt [(HIVE_MODE.MODE, 1), (PORT_STAT.STATE 18, 2), (Port.PCG 18, 1)], 18, by decide⟩,
   ⟨fieldsAt [(PORT_STAT.STATE 5, 5), (Port.PG_RUN 5, 1)], 5, by decide⟩,
   ⟨fieldsAt [(PORT_STAT.STATE 36, 7)], 36, by decide⟩,
   ⟨fieldsAt [(HIVE_MODE.MODE, 1), (PORT_STAT.STATE 5, 2)], 5, by decide⟩,
   ⟨fieldsAt [(HIVE_MODE.MODE, 1), (PORT_CTL.EN 17, 1), (PORT_STAT.STATE 17, 1), (PORT_STAT.WIN 17, 1), (Port.PAR_OK 17,
     1)], 17, by decide⟩,
   ⟨fieldsAt [(PORT_STAT.STATE 0, 3)], 0, by decide⟩,
   ⟨fieldsAt [(Port.OFF_CMD 1, 1), (Port.FALL 1, 1)], 1, by decide⟩⟩

/-- States that meet the hypotheses of `Obligations.PortLimitsAndTrips`, clause by clause. -/
theorem witness_PortLimitsAndTrips :
    (∃ (s : State) (n : Fin 48), portActs s n = true ∧ s.get (PORT_STAT.STATE n) = 6 ∧ s.get (Port.ENH n) = 0 ∧ s.get
      (Port.FT n) = 1 ∧ muted s (0x30 + n) = false ∧ s.get (PORT_STAT.STATE n) ≠ 8 ∧ s.get (PORT_STAT.RETRY_RUN n) = 1 ∧
      retryOver s n = false ∧ s.get (PORT_CTL.TD_USE n) = 0 ∧ portKind n = 2 ∧ (s.get (PORT_STAT.STATE n) = 5 ∨ s.get
      (PORT_STAT.STATE n) = 6) ∧ chargePermitted s n = false) ∧
    (∃ (s : State) (n : Fin 48), portActs s n = true ∧ (s.get (PORT_STAT.STATE n) = 4 ∨ s.get (PORT_STAT.STATE n) = 5) ∧
      s.get (PORT_STAT.RETRY_RUN n) = 1 ∧ 100 * max 1 (s.get (PORT_RETRY.MIN n)) ≤ s.get (PORT_RETRY_STAT.ELAPSED n) ∧
      s.int (Port.AMB n) < 10 * toSigned 8 (s.get (PORT_RETRY.T_OK n)) ∧ s.int (Port.AMB n) + fetExcess s n ≤ 10 * toSigned
      8 (s.get (PORT_RETRY.T_OK n)) ∧ s.get (PORT_STAT.TOGGLED n) = 0 ∧ portKind n = 2 ∧ (s.get (PORT_STAT.STATE n) = 5 ∨
      s.get (PORT_STAT.STATE n) = 6) ∧ chargePermitted s n = false ∧ s.get (Port.FT n) ≠ 1) ∧
    (∃ (s : State) (n : Fin 48), portActs s n = true ∧ s.get (PORT_STAT.RETRY_RUN n) = 1 ∧ 100 * max 1 (s.get
      (PORT_RETRY.MIN n)) ≤ s.get (PORT_RETRY_STAT.ELAPSED n) ∧ s.int (Port.AMB n) < 10 * toSigned 8 (s.get
      (PORT_RETRY.T_OK n)) ∧ s.int (Port.AMB n) + fetExcess s n ≤ 10 * toSigned 8 (s.get (PORT_RETRY.T_OK n)) ∧ s.get
      (PORT_STAT.TOGGLED n) = 1 ∧ s.get (PORT_STAT.STATE n) = 9 ∧ muted s (0x30 + n) = false) ∧
    (∃ (s : State) (n : Fin 48), portActs s n = true ∧ s.get (PORT_STAT.STATE n) = 7 ∧ portKind n = 2 ∧ chargePermitted s n
      = true) :=
  ⟨⟨fieldsAt [(PORT_STAT.STATE 2, 6), (PORT_STAT.RETRY_RUN 2, 1), (Port.FT 2, 1)], 2, by decide⟩,
   ⟨fieldsAt [(PORT_STAT.STATE 2, 5), (PORT_STAT.RETRY_RUN 2, 1), (PORT_RETRY_STAT.ELAPSED 2, 1000)], 2, by decide⟩,
   ⟨fieldsAt [(PORT_STAT.STATE 2, 9), (PORT_STAT.TOGGLED 2, 1), (PORT_STAT.RETRY_RUN 2, 1), (PORT_RETRY_STAT.ELAPSED 2,
     1000)], 2, by decide⟩,
   ⟨fieldsAt [(PORT_STAT.STATE 2, 7), (CHG_SETPT.I_EFF 0, 1)], 2, by decide⟩⟩

/-- States that meet the hypotheses of `Obligations.PdConnection`, clause by clause. -/
theorem witness_PdConnection :
    (∃ (s : State) (c : Fin 4), pdActs s c = true ∧ 1 ≤ s.get (PDP_STAT.CC_STATE c) ∧ s.get (PDP_STAT.CC_STATE c) ≤ 4 ∧
      s.get (Pd.CC_OFF c) = 0 ∧ s.get (PDP_CTL.ROLE c) ≠ 1 ∧ foragerRuns s c = true ∧ s.get (PDP_STAT.VBUS_PRES c) = 0 ∧
      pdMaySource s c = true ∧ s.get (Port.VS (pdPort c)) ≤ 80 ∧ s.get (PDP_STAT.DUTY c) = 0 ∧ dutyPossible s c = false ∧
      muted s (0x60 + c) = false ∧ (s.get (Flt.PRESENT (0x60 + c))).testBit 3 = false ∧ s.get (PDP_CTL.EN c) = 1 ∧ s.get
      (PDP_CTL.ROLE c) = 2 ∧ (s.get (PDP_STAT.CC_STATE c) = 1 ∨ s.get (PDP_STAT.CC_STATE c) = 2) ∧ (s.get (Pd.REQ c) = 0 ∨
      dutyPossible s c = false ∨ dutyIssued s c = false) ∧ s.get (PORT_PD_STAT.STATE c) ≠ 3 ∧ s.get (Pd.SRCOFF c) ≠ 0 ∧
      s.get (PDP_CTL.FRS_ARM c) = 0 ∧ portClockLost s (pdPort c) = false ∧ s.get (Pd.SRCOFF c) = 1 ∧ s.get (Pd.DIS c) = 1 ∧
      muted s (pdPage c) = false ∧ (s.get (Flt.PRESENT (pdPage c))).testBit 9 = false) ∧
    (∃ (s : State) (c : Fin 4), pdActs s c = true ∧ s.get (PDP_STAT.DUTY c) = 1 ∧ s.get (PDP_CTL.FRS_ARM c) = 0 ∧ pdOff s c
      = true ∧ ((s.get (PDP_STAT.CC_STATE c) = 0 ∨ s.get (PDP_STAT.CC_STATE c) = 5 ∨ s.get (PDP_STAT.CC_STATE c) = 7) ∨ (1
      ≤ s.get (PDP_STAT.CC_STATE c) ∧ s.get (PDP_STAT.CC_STATE c) ≤ 4 ∧ s.get (Port.VS (pdPort c)) ≤ 80)) ∧ s.get
      (PDP_STAT.CC_STATE c) = 7 ∧ s.get (Pd.DIS c) = 0 ∧ s.get (PDP_CTL.EN c) = 1 ∧ s.get (PORT_PD_STAT.STATE c) ≠ 5 ∧
      pdBarred s c = false ∧ s.get (PORT_PD_STAT.STATE c) = 4 ∧ s.get (Pd.SRCOFF c) = 0 ∧ portClockLost s (pdPort c) =
      false ∧ s.get (Pd.ERR_OVER c) = 1) ∧
    (∃ (s : State) (c : Fin 4), pdActs s c = true ∧ 1 ≤ s.get (PDP_STAT.CC_STATE c) ∧ s.get (PDP_STAT.CC_STATE c) ≤ 4 ∧
      s.get (Pd.CC_OFF c) = 0 ∧ s.get (PDP_CTL.ROLE c) ≠ 1 ∧ (foragerRuns s c = false ∨ s.get (PDP_STAT.VBUS_PRES c) = 1) ∧
      s.get (PDP_CTL.FRS_ARM c) = 1 ∧ inSafeBoot s = false ∧ s.get (Pd.SRCON c) = 0 ∧ s.get (PDP_STAT.DUTY c) = 0 ∧
      dutyPossible s c = true ∧ pdMaySource s c = true ∧ s.get (Port.VS (pdPort c)) ≤ 80 ∧ (s.get (PDP_CTL.FRS_ARM c) = 1 ∨
      s.get (PORT_PD_STAT.STATE c) = 2 ∨ s.get (PDP_STAT.CC_STATE c) = 6)) ∧
    (∃ (s : State) (c : Fin 4), pdActs s c = true ∧ s.get (PDP_STAT.CC_STATE c) = 7 ∧ s.get (Pd.DIS c) = 0 ∧ s.get
      (PDP_CTL.EN c) = 0 ∧ s.get (PORT_PD_STAT.STATE c) = 3 ∧ portClockLost s (pdPort c) = false) ∧
    (∃ (s : State) (c : Fin 4), pdActs s c = true ∧ s.get (PDP_STAT.CC_STATE c) = 7 ∧ s.get (Pd.DIS c) = 1 ∧ s.get
      (PORT_PD_STAT.STATE c) = 3 ∧ portClockLost s (pdPort c) = true) ∧
    (∃ (s : State) (c : Fin 4), pdActs s c = true ∧ 1 ≤ s.get (PDP_STAT.CC_STATE c) ∧ s.get (PDP_STAT.CC_STATE c) ≤ 4 ∧
      s.get (Pd.CC_OFF c) = 0 ∧ s.get (PDP_CTL.ROLE c) ≠ 1 ∧ (foragerRuns s c = false ∨ s.get (PDP_STAT.VBUS_PRES c) = 1) ∧
      s.get (PDP_CTL.FRS_ARM c) = 0 ∧ pdMaySource s c = true ∧ 80 < s.get (Port.VS (pdPort c))) ∧
    (∃ (s : State) (c : Fin 4), pdActs s c = true ∧ pdAttached s c = true ∧ (s.get (PORT_PD_STAT.STATE c) = 1 ∨ s.get
      (PORT_PD_STAT.STATE c) = 2)) ∧
    (∃ (s : State) (c : Fin 4), pdActs s c = true ∧ s.get (Pd.REQ c) = 1 ∧ dutyPossible s c = true ∧ dutyIssued s c = true
      ∧ s.get (Port.PAR_OK (pdPort c)) = 1 ∧ classActed s (pdPage c) 2 = false ∧ portClockLost s (pdPort c) = false ∧ s.get
      (PORT_PD_STAT.STATE c) = 0) ∧
    (∃ (s : State) (c : Fin 4), pdActs s c = true ∧ s.get (Pd.REQ c) = 1 ∧ dutyPossible s c = true ∧ dutyIssued s c = true
      ∧ s.get (Pd.HR c) = 0 ∧ s.get (PDP_STAT.CC_STATE c) = 6) ∧
    (∃ (s : State) (c : Fin 4), pdActs s c = true ∧ s.get (Pd.REQ c) = 1 ∧ dutyPossible s c = true ∧ dutyIssued s c = true
      ∧ s.get (Pd.HR c) = 0 ∧ s.get (PDP_STAT.CC_STATE c) = 5 ∧ s.get (PDP_CTL.FRS_ARM c) = 1 ∧ s.get (Pd.SRCON c) = 0) :=
  ⟨⟨fieldsAt [(HIVE_MODE.MODE, 1), (PDP_CTL.EN 1, 1), (PDP_CTL.ROLE 1, 2), (PDP_STAT.CC_STATE 1, 1), (Pd.DIS 1, 1),
     (Pd.SRCOFF 1, 1)], 1, by decide⟩,
   ⟨fieldsAt [(PORT_WIN_CFG.HYST 47, 54), (PDP_CTL.EN 3, 1), (PDP_STAT.CC_STATE 3, 7), (PDP_STAT.DUTY 3, 1), (Pd.ERR_OVER
     3, 1)], 3, by decide⟩,
   ⟨fieldsAt [(CMB_CTL.EN 0, 1), (PH_CTL.RUN 3, 1), (PH_CTL.HOLD 3, 1), (PDP_CTL.ROLE 0, 2), (PDP_CTL.FRS_ARM 0, 1),
     (PDP_STAT.CC_STATE 0, 1)], 0, by decide⟩,
   ⟨fieldsAt [(PORT_WIN_CFG.HYST 47, 49), (PDP_STAT.CC_STATE 3, 7)], 3, by decide⟩,
   ⟨fieldsAt [(PORT_WIN_CFG.HYST 23, 49), (PDP_STAT.CC_STATE 1, 7), (Clk.LOST 39, 1), (Pd.DIS 1, 1)], 1, by decide⟩,
   ⟨fieldsAt [(PDP_CTL.ROLE 0, 2), (PDP_STAT.CC_STATE 0, 1), (Port.VS 11, 81)], 0, by decide⟩,
   ⟨fieldsAt [(PORT_WIN_CFG.HYST 47, 51), (PDP_STAT.CC_STATE 3, 5)], 3, by decide⟩,
   ⟨withExec (fieldsAt [(CMB_CTL.EN 2, 1), (PH_CTL.RUN 11, 1), (PH_CTL.HOLD 11, 1), (PH_STAT.STATE 11, 1), (Ph.DUTY 11, 1),
     (Port.PAR_OK 35, 1), (Pd.REQ 2, 1)]) 11 (some ⟨0, 0, 0, 0, false, false, 0#8⟩), 2, by decide⟩,
   ⟨withExec (fieldsAt [(CMB_CTL.EN 2, 1), (PH_CTL.RUN 11, 1), (PH_CTL.HOLD 11, 1), (PH_STAT.STATE 11, 1),
     (PDP_STAT.CC_STATE 2, 6), (Ph.DUTY 11, 1), (Pd.REQ 2, 1)]) 11 (some ⟨0, 0, 0, 0, false, false, 0#8⟩), 2, by decide⟩,
   ⟨withExec (fieldsAt [(CMB_CTL.EN 0, 1), (PH_CTL.RUN 3, 1), (PH_CTL.HOLD 3, 1), (PH_STAT.STATE 3, 1), (PDP_CTL.FRS_ARM 0,
     1), (PDP_STAT.CC_STATE 0, 5), (Ph.DUTY 3, 1), (Pd.REQ 0, 1)]) 3 (some ⟨0, 0, 0, 0, false, false, 0#8⟩), 0, by decide⟩⟩

/-- States that meet the hypotheses of `Obligations.PdEnableVbusAndProtection`, clause by clause. -/
theorem witness_PdEnableVbusAndProtection :
    (∃ (s : State) (a : Access) (c : Fin 4) (w : BitVec 32), served s = true ∧ pdActs s c = true ∧ s.get (PAGE_LOCK.CFG
      (0x60 + c)) = 0 ∧ keeperView s a = true ∧ s.get (PDP_CTL.EN c) = 0 ∧ w.getLsbD 0 = true ∧ s.get (PDP_STAT.CC_STATE c)
      = 0 ∧ pdBarred s c = false ∧ (s.get (PORT_PD_STAT.STATE c) ≠ 5 ∨ s.get (Pd.LATCH_OFF c) = 1) ∧ s.get
      (PORT_PD_STAT.STATE c) = 5 ∧ s.get (Pd.LATCH_OFF c) = 1 ∧ (keeperView s a = true ∨ w.toNat / 65536 % 4096 = s.get
      (PDP_VBUS.CEIL c)) ∧ w.toNat % 4096 ≤ w.toNat / 65536 % 4096 ∧ (w.toNat % 4096 ≤ 1000 ∨ s.get (PDP_CTL.EPR c) = 1) ∧
      s.get (PDP_STAT.DUTY c) = 0 ∧ s.get (Pd.TR c) = 1) ∧
    (∃ (s : State) (c : Fin 4) (w : BitVec 32), served s = true ∧ s.get (PAGE_LOCK.CFG (0x60 + c)) = 0 ∧ s.get (PDP_CTL.EPR
      c) = 0 ∧ 1000 < w.toNat % 4096 ∧ w.toNat % 4096 ≠ s.get (PDP_VBUS.TGT c) ∧ pdActs s c = true ∧ s.get (Pd.TR c) = 2) ∧
    (∃ (s : State) (a : Access) (c : Fin 4) (w : BitVec 32), served s = true ∧ pdActs s c = true ∧ s.get (PAGE_LOCK.CFG
      (0x60 + c)) = 0 ∧ keeperView s a = false ∧ w.toNat / 4 % 4 = s.get (PDP_CTL.ROLE c) ∧ w.getLsbD 0 = true ∧ s.get
      (PDP_CTL.EN c) = 0 ∧ (keeperView s a = true ∨ w.toNat / 65536 % 4096 = s.get (PDP_VBUS.CEIL c)) ∧ w.toNat % 4096 ≤
      w.toNat / 65536 % 4096 ∧ (w.toNat % 4096 ≤ 1000 ∨ s.get (PDP_CTL.EPR c) = 1) ∧ s.get (PDP_STAT.DUTY c) = 1 ∧
      classActed s (0x60 + c) 2 = false ∧ s.get (Pd.TR c) = 0 ∧ s.get (PDP_TRANS.ARM_TX c) = 0) ∧
    (∃ (s : State) (a : Access) (c : Fin 4) (w : BitVec 32), served s = true ∧ pdActs s c = true ∧ s.get (PAGE_LOCK.CFG
      (0x60 + c)) = 0 ∧ (keeperView s a = true ∨ w.toNat / 65536 % 4096 = s.get (PDP_VBUS.CEIL c)) ∧ w.toNat % 4096 ≤
      w.toNat / 65536 % 4096 ∧ (w.toNat % 4096 ≤ 1000 ∨ s.get (PDP_CTL.EPR c) = 1) ∧ s.get (PDP_STAT.DUTY c) = 1 ∧
      classActed s (0x60 + c) 2 = false ∧ s.get (Pd.TR c) = 0 ∧ s.get (PDP_TRANS.ARM_TX c) = 1) ∧
    (∃ (s : State) (a : Access) (c : Fin 4) (w : BitVec 32), served s = true ∧ pdActs s c = true ∧ s.get (PAGE_LOCK.CFG
      (0x60 + c)) = 0 ∧ keeperView s a = true ∧ s.get (PDP_CTL.EN c) = 0 ∧ w.getLsbD 0 = true ∧ s.get (PDP_STAT.CC_STATE c)
      = 0 ∧ pdBarred s c = false ∧ s.get (PORT_PD_STAT.STATE c) = 5 ∧ s.get (Pd.LATCH_OFF c) = 0) ∧
    (∃ (s : State) (a : Access) (c : Fin 4) (w : BitVec 32), served s = true ∧ pdActs s c = true ∧ s.get (PAGE_LOCK.CFG
      (0x60 + c)) = 0 ∧ keeperView s a = true ∧ s.get (PDP_CTL.EN c) = 1 ∧ w.getLsbD 0 = false ∧ pdAttached s c = true) ∧
    (∃ (s : State) (c : Fin 4), muted s (pdPage c) = false ∧ muted s (0x60 + c) = false ∧ pdActs s c = true ∧ portClockLost
      s (pdPort c) = false ∧ s.get (PORT_PD_STAT.STATE c) ≠ 5 ∧ s.get (PORT_PD_STAT.STATE c) = 2 ∧ s.get (Pd.VCONN c) = 1)
      ∧
    (∃ (s : State) (c : Fin 4), muted s (pdPage c) = false ∧ muted s (0x60 + c) = false ∧ pdActs s c = true ∧ portClockLost
      s (pdPort c) = false ∧ s.get (PORT_PD_STAT.STATE c) ≠ 5 ∧ s.get (PORT_PD_STAT.STATE c) = 1) :=
  ⟨⟨fieldsAt [(PORT_WIN_CFG.HYST 47, 55), (Boot.PLL, 1), (Ses.PIN, 1), (Pd.TR 3, 1), (Pd.LATCH_OFF 3, 1)], ⟨.host, true,
     0#16⟩, 3, 0x9f92a165#32, by decide⟩,
   ⟨fieldsAt [(Boot.PLL, 1), (Pd.TR 1, 2)], 1, 1001#32, by decide⟩,
   ⟨fieldsAt [(PDP_STAT.DUTY 0, 1), (PDP_VBUS.CEIL 0, 757), (Boot.PLL, 1)], ⟨.host, true, 0#16⟩, 0, 0xd2f5a251#32, by
     decide⟩,
   ⟨fieldsAt [(PDP_STAT.DUTY 0, 1), (PDP_TRANS.ARM_TX 0, 1), (Boot.PLL, 1), (Ses.PIN, 1)], ⟨.host, true, 0#16⟩, 0, 0#32, by
     decide⟩,
   ⟨fieldsAt [(PORT_WIN_CFG.HYST 11, 55), (Boot.PLL, 1), (Ses.PIN, 1)], ⟨.host, true, 0#16⟩, 0, 1#32, by decide⟩,
   ⟨fieldsAt [(PDP_CTL.EN 3, 1), (PDP_STAT.CC_STATE 3, 5), (Boot.PLL, 1), (Ses.CODE 1, 1)], ⟨.can0, true, 0#16⟩, 3, 0#32,
     by decide⟩,
   ⟨fieldsAt [(PORT_WIN_CFG.HYST 47, 48), (Pd.VCONN 3, 1)], 3, by decide⟩,
   ⟨fieldsAt [(PORT_WIN_CFG.HYST 11, 51)], 0, by decide⟩⟩

/-- States that meet the hypotheses of `Obligations.PdMessagesAndTimers`, clause by clause. -/
theorem witness_PdMessagesAndTimers :
    (∃ (s : State) (c : Fin 4) (w : BitVec 32) (n : Fin 8), pdActs s c = true ∧ served s = true ∧ s.get (PAGE_LOCK.CFG
      (0x60 + c)) = 0 ∧ pdAttached s c = true ∧ s.get (Pd.TX c) = 1 ∧ inSafeBoot s = false ∧ s.get (Pd.TR c) ≠ 3 ∧ s.get
      (Pd.RETRY c) < 2 ∧ s.txBuf[c].length ≤ 260 ∧ (w.getLsbD 31 = false ∨ s.get (Pd.TX c) = 1) ∧ s.rx[c].head?.any (fun m
      => decide (m.2.length ≤ s.get (Pd.RX_AT c) + 4)) = true ∧ w.getLsbD 28 = true ∧ s.get (PDP_TMR.RUN c n) = 1) ∧
    (∃ (s : State) (c : Fin 4) (w : BitVec 32) (bytes : List (BitVec 8)), pdActs s c = true ∧ served s = true ∧ s.get
      (PAGE_LOCK.CFG (0x60 + c)) = 0 ∧ pdAttached s c = true ∧ s.get (Pd.TX c) = 0 ∧ inSafeBoot s = false ∧ s.rx[c].length
      < 2 ∧ s.get (Pd.MSGID c 0) ≠ messageId bytes + 1 ∧ w.getLsbD 31 = true ∧ s.get (Pd.TX c) ≠ 1 ∧ w.getLsbD 29 = true ∧
      w.getLsbD 28 = false) ∧
    (∃ (s : State) (c : Fin 4), pdActs s c = true ∧ served s = true ∧ s.get (PAGE_LOCK.CFG (0x60 + c)) = 0 ∧ s.get (Pd.TX
      c) = 1 ∧ s.get (Pd.TR c) = 3 ∧ 2 ≤ s.get (Pd.RETRY c) ∧ s.rx[c].head?.any (fun m => decide (s.get (Pd.RX_AT c) + 4 <
      m.2.length)) = true ∧ s.get (Pd.RX_AT c) < 508) ∧
    (∃ (s : State) (c : Fin 4) (bytes : List (BitVec 8)), pdActs s c = true ∧ served s = true ∧ s.get (PAGE_LOCK.CFG (0x60
      + c)) = 0 ∧ pdAttached s c = true ∧ s.get (Pd.TX c) = 0 ∧ inSafeBoot s = false ∧ s.rx[c].length < 2 ∧ s.get (Pd.MSGID
      c 0) = messageId bytes + 1) ∧
    (∃ (s : State) (c : Fin 4), pdActs s c = true ∧ served s = true ∧ s.get (PAGE_LOCK.CFG (0x60 + c)) = 0 ∧ pdAttached s c
      = true ∧ s.get (Pd.TX c) = 0 ∧ inSafeBoot s = true) ∧
    (∃ (s : State) (c : Fin 4), pdActs s c = true ∧ served s = true ∧ s.get (PAGE_LOCK.CFG (0x60 + c)) = 0 ∧ pdAttached s c
      = true ∧ s.get (Pd.TX c) = 0 ∧ inSafeBoot s = false ∧ s.rx[c].length = 2) :=
  ⟨⟨withRx (fieldsAt [(PDP_STAT.CC_STATE 3, 5), (PDP_TMR.RUN 3 2, 1), (Boot.PLL, 1), (Pd.TX 3, 1)]) 3 ([(0, [])]), 3,
     0x1f44f49f#32, 2, by decide⟩,
   ⟨fieldsAt [(PDP_STAT.CC_STATE 3, 5), (Boot.PLL, 1)], 3, 0xecc657e2#32, [], by decide⟩,
   ⟨withRx (fieldsAt [(Boot.PLL, 1), (Pd.TR 1, 3), (Pd.TX 1, 1), (Pd.RETRY 1, 2)]) 1 ([(0, [0#8, 0#8, 0#8, 0#8, 0#8])]), 1,
     by decide⟩,
   ⟨fieldsAt [(PDP_STAT.CC_STATE 3, 5), (Boot.PLL, 1), (Pd.MSGID 3 0, 1)], 3, [], by decide⟩,
   ⟨fieldsAt [(HIVE_MODE.MODE, 2), (PDP_STAT.CC_STATE 2, 5), (Boot.PLL, 1)], 2, by decide⟩,
   ⟨withRx (fieldsAt [(PDP_STAT.CC_STATE 1, 5), (Boot.PLL, 1)]) 1 ([(0, []), (0, [])]), 1, by decide⟩⟩

/-- States that meet the hypotheses of `Obligations.PdResetsAndSwaps`, clause by clause. -/
theorem witness_PdResetsAndSwaps :
    (∃ (s : State) (c : Fin 4), pdActs s c = true ∧ served s = true ∧ s.get (PAGE_LOCK.CFG (0x60 + c)) = 0 ∧ pdAttached s c
      = true ∧ s.get (PDP_SWAP.STATE c) = 0 ∧ s.get (PDP_STAT.PWR_ROLE c) = 0 ∧ pdMaySource s c = true ∧ (s.get
      (PDP_STAT.DUTY c) = 1 ∨ dutyPossible s c = true) ∧ s.get (PDP_STAT.DUTY c) = 1 ∧ s.get (Pd.HR c) = 3 ∧ s.get
      (PDP_STAT.CC_STATE c) = 5 ∧ s.get (PDP_CTL.FRS_ARM c) = 1 ∧ (s.get (Pd.FRS c) = 0 ∨ s.get (PDP_STAT.DUTY c) = 0)) ∧
    (∃ (s : State) (c : Fin 4), pdActs s c = true ∧ served s = true ∧ s.get (PAGE_LOCK.CFG (0x60 + c)) = 0 ∧ pdAttached s c
      = true ∧ s.get (PDP_SWAP.STATE c) ≠ 0 ∧ muted s (0x60 + c) = false ∧ s.get (PDP_STAT.ATTACH_ROLE c) = 0 ∧ s.get
      (PDP_STAT.CC_STATE c) = 5 ∧ s.get (PDP_CTL.FRS_ARM c) = 1 ∧ s.get (Pd.FRS c) = 1 ∧ s.get (PDP_STAT.DUTY c) = 1) ∧
    (∃ (s : State) (c : Fin 4), pdActs s c = true ∧ served s = true ∧ s.get (PAGE_LOCK.CFG (0x60 + c)) = 0 ∧ pdAttached s c
      = true ∧ s.get (PDP_SWAP.STATE c) = 0 ∧ s.get (PDP_STAT.PWR_ROLE c) = 1 ∧ s.get (Pd.HR c) = 1) ∧
    (∃ (s : State) (c : Fin 4), pdActs s c = true ∧ served s = true ∧ s.get (PAGE_LOCK.CFG (0x60 + c)) = 0 ∧ s.get (Pd.HR
      c) = 2 ∧ s.get (Pd.SRCON c) = 1) ∧
    (∃ (s : State) (c : Fin 4), pdActs s c = true ∧ served s = true ∧ s.get (PAGE_LOCK.CFG (0x60 + c)) = 0 ∧ pdAttached s c
      = true ∧ s.get (PDP_STAT.PWR_ROLE c) = 0 ∧ pdMaySource s c = true ∧ (s.get (PDP_STAT.DUTY c) = 1 ∨ dutyPossible s c =
      true) ∧ s.get (PDP_STAT.DUTY c) = 0 ∧ dutyPossible s c = true) ∧
    (∃ (s : State) (c : Fin 4), pdActs s c = true ∧ served s = true ∧ s.get (PAGE_LOCK.CFG (0x60 + c)) = 0 ∧ pdAttached s c
      = true ∧ s.get (PDP_SWAP.STATE c) ≠ 0 ∧ s.get (PDP_STAT.ATTACH_ROLE c) = 1 ∧ s.get (PDP_STAT.DUTY c) = 1) :=
  ⟨⟨fieldsAt [(PDP_CTL.ROLE 0, 1), (PDP_CTL.FRS_ARM 0, 1), (PDP_STAT.CC_STATE 0, 5), (PDP_STAT.DUTY 0, 1), (Boot.PLL, 1),
     (Pd.HR 0, 3)], 0, by decide⟩,
   ⟨fieldsAt [(PDP_CTL.FRS_ARM 0, 1), (PDP_STAT.CC_STATE 0, 5), (PDP_STAT.DUTY 0, 1), (PDP_SWAP.STATE 0, 1), (Boot.PLL, 1),
     (Pd.FRS 0, 1)], 0, by decide⟩,
   ⟨fieldsAt [(PDP_STAT.CC_STATE 2, 5), (PDP_STAT.PWR_ROLE 2, 1), (Boot.PLL, 1), (Pd.HR 2, 1)], 2, by decide⟩,
   ⟨fieldsAt [(Boot.PLL, 1), (Pd.HR 0, 2), (Pd.SRCON 0, 1)], 0, by decide⟩,
   ⟨fieldsAt [(CMB_CTL.EN 1, 1), (PH_CTL.RUN 7, 1), (PH_CTL.HOLD 7, 1), (PDP_CTL.ROLE 1, 1), (PDP_STAT.CC_STATE 1, 5),
     (Boot.PLL, 1)], 1, by decide⟩,
   ⟨fieldsAt [(PDP_STAT.CC_STATE 1, 5), (PDP_STAT.ATTACH_ROLE 1, 1), (PDP_STAT.DUTY 1, 1), (PDP_SWAP.STATE 1, 1),
     (Boot.PLL, 1)], 1, by decide⟩⟩

/-- States that meet the hypotheses of `Obligations.HousekeepingValuesAndTriggers`, clause by clause. -/
theorem witness_HousekeepingValuesAndTriggers :
    (∃ (s : State) (m : Fin 4) (i : Fin 256) (raw : BitVec 12) (w : BitVec 32), hksLive s = true ∧ s.get (Lane.BUSY m) = 1
      ∧ s.get (Lane.VON m) = 0 ∧ (List.range 6).all (fun q => s.get (Hks.UQ q) == 0) = true ∧ (List.range 8).all (fun n =>
      s.get (Imp.PAIR n) == 0) = true ∧ s.get (Lane.SEC m) = 0 ∧ s.get HKS_CTL.RECOV_EN = 1 ∧ s.get (Lane.KIND m) ≠ 2 ∧
      s.get (Lane.VON 0) = 1 ∧ s.get (Lane.VIN 0) = i.val ∧ s.get (Lane.VKIND 0) ≠ 3 ∧ s.get (Lane.VTD 0) = 0 ∧ outOfRange
      s (s.get (Lane.VCONV 0)) i raw.toNat = true ∧ s.get (MMT_CFG.EN 0) = 1 ∧ s.get (MMT_CFG.SRC 0) = i.val ∧ s.get
      (PAGE_CTL.TAG_CHK 0x78) = 0 ∧ s.get (Lane.VKIND 0) = 4 ∧ s.get (Lane.VWHO 0) = 0 ∧ served s = true ∧ s.get
      (PAGE_LOCK.CFG 0x68) = 0 ∧ w.getLsbD 31 = true ∧ urgentBusy s 0 = true) ∧
    (∃ (s : State) (i : Fin 256) (w : BitVec 32), hksLive s = true ∧ (List.range 4).all (fun m => s.get (Lane.VON m) == 1
      && s.get (Lane.VIN m) == i.val && s.get (Lane.VCONV m) == 2) = true ∧ served s = true ∧ s.get (PAGE_LOCK.CFG 0x68) =
      0 ∧ (List.range 8).all (fun n => s.get (Imp.PAIR n) == 0) = true ∧ w.getLsbD 31 = false ∧ s.get HKS_RUN.ACTIVE = 1 ∧
      s.get Hks.LAST = 1) ∧
    (∃ (s : State) (m : Fin 4) (w : BitVec 32), hksLive s = true ∧ served s = true ∧ s.get (PAGE_LOCK.CFG 0x68) = 0 ∧
      (List.range 8).all (fun n => s.get (Imp.PAIR n) == 0) = true ∧ w.getLsbD 31 = true ∧ urgentBusy s 0 = false ∧
      inputAbsent s (w.toNat % 256) = false ∧ firstLane (fun m => laneFree s m && laneFits s m (w.toNat % 256)) = some
      m.val ∧ s.get HKS_RUN.ACTIVE = 0 ∧ s.get HKS_STAT.BUILTIN = 1 ∧ (s.get Hks.BSTEP ≠ 0 ∨ builtinHeld s = true) ∧
      (List.range 4).all (fun m => laneFree s m) = true ∧ inputAbsent s (4 * s.get Hks.BSTEP + m) = false ∧ laneFits s m (4
      * s.get Hks.BSTEP + m) = true) ∧
    (∃ (s : State) (m : Fin 4) (w : BitVec 32), hksLive s = true ∧ served s = true ∧ s.get (PAGE_LOCK.CFG 0x68) = 0 ∧
      (List.range 8).all (fun n => s.get (Imp.PAIR n) == 0) = true ∧ w.getLsbD 31 = true ∧ urgentBusy s 0 = false ∧
      inputAbsent s (w.toNat % 256) = false ∧ firstLane (fun m => laneFree s m && laneFits s m (w.toNat % 256)) = none ∧
      laneFits s m (w.toNat % 256) = true ∧ strict s = false) ∧
    (∃ (s : State) (q : Fin 32) (tm : Fin 8) (p : Fin 16) (ev : Fin 8) (w : BitVec 32) (y : Fin 32), hksLive s = true ∧
      served s = true ∧ s.get (PAGE_LOCK.CFG 0x68) = 0 ∧ s.get (HKS_TMR.EN tm) = 1 ∧ s.get (HKS_SEQ_TRIG.SRC q) = tm.val +
      1 ∧ s.get HKS_STAT.BUILTIN = 0 ∧ s.get (HKS_SEQ_TRIG.DELAY q) = 0 ∧ s.get HKS_RUN.ACTIVE = 0 ∧ (s.get (PH_STAT.STATE
      p) = 0 ∨ absent s (0x20 + p) = true) ∧ 1 ≤ ev.val ∧ ev.val ≤ 4 ∧ spTakes s p (ev.val - 1) = false ∧ w.getLsbD q =
      true ∧ w.getLsbD y = false ∧ s.get (Hks.DLY q) = 0) ∧
    (∃ (s : State) (q : Fin 32) (tm : Fin 8) (y : Fin 32), hksLive s = true ∧ served s = true ∧ s.get (PAGE_LOCK.CFG 0x68)
      = 0 ∧ s.get (HKS_TMR.EN tm) = 1 ∧ s.get (HKS_SEQ_TRIG.SRC q) = tm.val + 1 ∧ s.get HKS_STAT.BUILTIN = 0 ∧ s.get
      (HKS_SEQ_TRIG.DELAY q) ≠ 0 ∧ s.get (Hks.DLY q) < 3 ∧ s.get (HKS_SEQ_TRIG.SRC y) ≠ tm.val + 1 ∧ s.get (Hks.DLY q) ≠ 0
      ∧ s.get HKS_RUN.ACTIVE = 0) ∧
    (∃ (s : State) (q : Fin 32) (tm : Fin 8), hksLive s = true ∧ served s = true ∧ s.get (PAGE_LOCK.CFG 0x68) = 0 ∧ s.get
      (HKS_TMR.EN tm) = 1 ∧ s.get (HKS_SEQ_TRIG.SRC q) = tm.val + 1 ∧ s.get HKS_STAT.BUILTIN = 1 ∧ s.get HKS_CNT0.TRIG_DROP
      < 65000) ∧
    (∃ (s : State) (q : Fin 32), hksLive s = true ∧ served s = true ∧ s.get (PAGE_LOCK.CFG 0x68) = 0 ∧ s.get (Hks.DLY q) ≠
      0 ∧ s.get HKS_STAT.BUILTIN = 0 ∧ s.get HKS_RUN.ACTIVE = 1 ∧ s.get HKS_RUN.SEQ = q.val ∧ (strict s = false ∨ (s.get
      HKS_QUEUED.QUEUED).testBit q = true)) ∧
    (∃ (s : State) (q : Fin 32), hksLive s = true ∧ served s = true ∧ s.get (PAGE_LOCK.CFG 0x68) = 0 ∧ s.get (Hks.DLY q) ≠
      0 ∧ s.get HKS_STAT.BUILTIN = 0 ∧ s.get HKS_RUN.ACTIVE = 1 ∧ s.get HKS_RUN.SEQ = q.val ∧ strict s = true ∧ (s.get
      HKS_QUEUED.QUEUED).testBit q = false) ∧
    (∃ (s : State) (q : Fin 32) (p : Fin 16) (ev : Fin 8), hksLive s = true ∧ served s = true ∧ s.get (PAGE_LOCK.CFG 0x68)
      = 0 ∧ absent s (0x20 + p) = false ∧ s.get (HKS_SEQ_TRIG.SRC q) = 9 ∧ s.get (HKS_SEQ_TRIG.PHASE q) = p.val ∧ s.get
      (HKS_SEQ_TRIG.EVENT q) = ev.val ∧ s.get HKS_STAT.BUILTIN = 0 ∧ s.get (HKS_SEQ_TRIG.DELAY q) = 0 ∧ s.get
      HKS_RUN.ACTIVE = 0 ∧ ((ev.val = 0 ∧ s.get (PH_STAT.STATE p) ≠ 0) ∨ (1 ≤ ev.val ∧ ev.val ≤ 4 ∧ spTakes s p (ev.val -
      1) = true))) :=
  ⟨⟨fieldsAt [(PAGE_CTL.TAG_CHK 0x78, 0), (MMT_CFG.SRC 0, 101), (MMT_CFG.EN 0, 1), (Boot.PLL, 1), (Lane.BUSY 1, 1),
     (Lane.VON 0, 1), (Lane.VIN 0, 101), (Lane.VKIND 0, 4)], 1, 101, 0#12, 0x80000000#32, by decide⟩,
   ⟨fieldsAt [(HKS_TMR.EN 11, 1), (Boot.PLL, 1), (Lane.VON 0, 1), (Lane.VON 1, 1), (Lane.VON 2, 1), (Lane.VON 3, 1),
     (Lane.VIN 0, 57), (Lane.VIN 1, 57), (Lane.VIN 2, 57), (Lane.VIN 3, 57), (Lane.VCONV 0, 2), (Lane.VCONV 1, 2),
     (Lane.VCONV 2, 2), (Lane.VCONV 3, 2), (Hks.LAST, 1)], 57, 0#32, by decide⟩,
   ⟨fieldsAt [(HKC_STAT.SETTLED 0, 1), (Boot.PLL, 1)], 0, 0x80000000#32, by decide⟩,
   ⟨fieldsAt [(HIVE_MODE.MODE, 1), (HKC_STAT.SETTLED 0, 1), (Boot.PLL, 1), (Lane.BUSY 0, 1)], 0, 0x80000000#32, by decide⟩,
   ⟨fieldsAt [(HKS_STAT.BUILTIN, 0), (HKS_TMR.EN 2, 1), (HKS_TMR.PER 53, 3), (Boot.PLL, 1)], 9, 2, 0, 1, 0x6d444360#32, 0,
     by decide⟩,
   ⟨fieldsAt [(HKS_STAT.BUILTIN, 0), (HKS_TMR.EN 0, 1), (HKS_TMR.PER 72, 1), (HKS_SEQ_TRIG.DELAY 28, 1), (Boot.PLL, 1),
     (Hks.DLY 28, 1)], 28, 0, 0, by decide⟩,
   ⟨fieldsAt [(HKS_TMR.EN 1, 1), (HKS_TMR.PER 54, 2), (Boot.PLL, 1)], 10, 1, by decide⟩,
   ⟨fieldsAt [(HIVE_MODE.MODE, 1), (HKS_STAT.BUILTIN, 0), (HKS_TMR.PER 11, 4), (HKS_TMR.EN 11, 1), (Boot.PLL, 1), (Hks.DLY
     4, 1)], 4, by decide⟩,
   ⟨fieldsAt [(HKS_STAT.BUILTIN, 0), (HKS_TMR.PER 11, 21), (HKS_TMR.EN 11, 1), (Boot.PLL, 1), (Hks.DLY 21, 1)], 21, by
     decide⟩,
   ⟨fieldsAt [(PH_CTL.SPEN 5, 5), (PH_STAT.STATE 5, 1), (HKS_STAT.BUILTIN, 0), (HKS_TMR.PER 57, 9), (HKS_SEQ_TRIG.PHASE 13,
     5), (HKS_SEQ_TRIG.EVENT 13, 4), (Boot.PLL, 1)], 13, 5, 4, by decide⟩⟩

/-- States that meet the hypotheses of `Obligations.ConvertersAndCalibration`, clause by clause. -/
theorem witness_ConvertersAndCalibration :
    (∃ (s : State) (a : Access) (k : Fin 5) (ofs : BitVec 12) (gain : BitVec 16) (w : BitVec 32), hksLive s = true ∧ served
      s = true ∧ s.get (PAGE_LOCK.CFG 0x68) = 0 ∧ muted s 0x68 = false ∧ s.get (HKC_STAT.SETTLED k) = 0 ∧ (s.get
      HKS_STAT.SPARE ≤ 4 ∨ s.get HKS_STAT.SPARE = 7) ∧ muted s (0x69 + k) = false ∧ s.bit (Flt.PRESENT (0x69 + k)) 1 =
      false ∧ s.get HKS_STAT.LANES = 0x3210 ∧ s.get HKS_STAT.SPARE = 4 ∧ s.get Hks.CALSTEP ≠ 0 ∧ s.get HKS_STAT.CAL_CONV =
      k.val ∧ s.get Mnt.CV ≠ 1 ∧ keeperView s a = true ∧ w.getLsbD 3 = true ∧ s.bit (Flt.INJ 0x68) 2 = false ∧ s.get
      HKS_STAT.CAL_BUSY = 0 ∧ w.toNat % 8 < 4 ∧ s.get Hks.CALSTEP = 2 ∧ s.get Mnt.CV = 0 ∧ calOk ofs gain = false ∧ s.bit
      (Flt.PRESENT (0x69 + k)) 0 = false ∧ (w.getLsbD 31 ≠ s.flag HKS_TDAC.EN ∨ w.toNat / 65536 % 1024 ≠ s.get
      HKS_TDAC.CODE ∨ w.toNat % 256 ≠ s.get HKS_TDAC.INPUT) ∧ s.get HKS_TDAC.EN = 0) ∧
    (∃ (s : State) (a : Access) (k : Fin 5) (w : BitVec 32), hksLive s = true ∧ served s = true ∧ s.get (PAGE_LOCK.CFG
      0x68) = 0 ∧ muted s 0x68 = false ∧ keeperView s a = true ∧ s.get Hks.CALSTEP = 0 ∧ s.get HKS_STAT.LANES = 0x3210 ∧
      k.val < 4 ∧ w.getLsbD 3 = true ∧ s.bit (Flt.INJ 0x68) 2 = false ∧ s.get HKS_STAT.CAL_BUSY = 0 ∧ s.get HKS_STAT.SPARE
      = k.val ∧ (w.toNat % 8 = k.val ∨ 5 ≤ w.toNat % 8) ∧ s.get HKS_CAL.AUTO ≠ 0 ∧ s.get HKS_TDAC.EN = 1 ∧ s.get
      HKS_TDAC.READY = 0) ∧
    (∃ (s : State), hksLive s = true ∧ served s = true ∧ s.get (PAGE_LOCK.CFG 0x68) = 0 ∧ muted s 0x68 = false ∧ s.get
      Hks.CALSTEP = 1 ∧ s.get Mnt.CV = 0 ∧ s.get HKS_STAT.CAL_CONV < 4 ∧ s.get HKS_STAT.SPARE = 4 ∧ s.get (HKC_STAT.SETTLED
      4) = 1 ∧ s.get Hks.CALLANE = 2 ∧ laneFree s 2 = true) ∧
    (∃ (s : State) (a : Access) (w : BitVec 32), hksLive s = true ∧ served s = true ∧ s.get (PAGE_LOCK.CFG 0x68) = 0 ∧
      muted s 0x68 = false ∧ keeperView s a = true ∧ w.getLsbD 3 = true ∧ s.bit (Flt.INJ 0x68) 2 = false ∧ s.get
      HKS_STAT.CAL_BUSY = 0 ∧ s.get HKS_STAT.SPARE = 7) ∧
    (∃ (s : State) (k : Fin 5) (ofs : BitVec 12) (gain : BitVec 16), hksLive s = true ∧ served s = true ∧ s.get
      (PAGE_LOCK.CFG 0x68) = 0 ∧ muted s 0x68 = false ∧ s.get Hks.CALSTEP = 2 ∧ s.get HKS_STAT.CAL_CONV = k.val ∧ s.get
      Mnt.CV = 0 ∧ (s.get HKS_STAT.SPARE ≤ 4 ∨ s.get HKS_STAT.SPARE = 7) ∧ calOk ofs gain = true ∧ s.get Hks.CALALL = 0) :=
  ⟨⟨fieldsAt [(HKS_STAT.CAL_CONV, 1), (Boot.PLL, 1), (Ses.PIN, 1), (Hks.CALSTEP, 2)], ⟨.host, true, 0#16⟩, 1, 0#12, 0#16,
     0x27986288#32, by decide⟩,
   ⟨fieldsAt [(HKS_STAT.SPARE, 1), (HKS_CAL.AUTO, 1), (HKS_TMR.EN 17, 1), (Boot.PLL, 1), (Ses.PIN, 1)], ⟨.host, true,
     0#16⟩, 1, 13#32, by decide⟩,
   ⟨fieldsAt [(HKS_STAT.CAL_CONV, 3), (HKC_STAT.SETTLED 4, 1), (Boot.PLL, 1), (Hks.CALSTEP, 1), (Hks.CALLANE, 2)], by
     decide⟩,
   ⟨fieldsAt [(HKS_STAT.SPARE, 7), (Boot.PLL, 1), (Ses.CODE 1, 1)], ⟨.can0, true, 0#16⟩, 8#32, by decide⟩,
   ⟨fieldsAt [(HKS_STAT.CAL_CONV, 4), (Boot.PLL, 1), (Hks.CALSTEP, 2)], 4, 0#12, 0x7d71#16, by decide⟩⟩

/-- States that meet the hypotheses of `Obligations.AccumulatorsAndTrackers`, clause by clause. -/
theorem witness_AccumulatorsAndTrackers :
    (∃ (s : State) (a : Access) (acc : Fin 512) (w : BitVec 32), served s = true ∧ s.get (PAGE_LOCK.CFG (0x70 + acc / 64))
      = 0 ∧ s.get (PAGE_LOCK.CFG 0x78) = 0 ∧ keeperView s a = true ∧ s.get (Acc.CLAIM acc) = 0 ∧ w.getLsbD 31 = false ∧
      s.get (Acc.DUE acc) = 0) ∧
    (∃ (s : State) (a : Access) (acc : Fin 512) (w : BitVec 32), served s = true ∧ s.get (PAGE_LOCK.CFG (0x70 + acc / 64))
      = 0 ∧ s.get (PAGE_LOCK.CFG 0x78) = 0 ∧ keeperView s a = true ∧ s.get (Acc.CLAIM acc) = 0 ∧ w.getLsbD 31 = true ∧
      s.get (Acc.DUE acc) = 1 ∧ (s.get (PAGE_CTL.TAG_CHK (0x70 + acc / 64)) = 0 ∨ (s.get TAG_INJ.ARM = 0 ∧ s.get (Acc.RSUM
      acc) = residue (accSum s acc))) ∧ ((s.get (ACC_THR.HI (acc / 64) (acc % 64)) * 2 ^ s.get (ACC_CFG.BLK (acc / 64) (acc
      % 64)) : Int) < 16 * s.int (Acc.DS acc) ∨ 16 * s.int (Acc.DS acc) < (s.get (ACC_THR.LO (acc / 64) (acc % 64)) * 2 ^
      s.get (ACC_CFG.BLK (acc / 64) (acc % 64)) : Int))) ∧
    (∃ (s : State) (a : Access) (acc : Fin 512) (w : BitVec 32), served s = true ∧ s.get (PAGE_LOCK.CFG (0x70 + acc / 64))
      = 0 ∧ s.get (PAGE_LOCK.CFG 0x78) = 0 ∧ keeperView s a = true ∧ s.get (Acc.CLAIM acc) ≠ 0 ∧ w.getLsbD 31 = true) :=
  ⟨⟨fieldsAt [(Boot.PLL, 1), (Ses.CODE 1, 1)], ⟨.can0, true, 0#16⟩, 0, 0#32, by decide⟩,
   ⟨fieldsAt [(Boot.PLL, 1), (Ses.PIN, 1), (Acc.DS 409, 0x147a), (Acc.DUE 409, 1)], ⟨.host, true, 0#16⟩, 409,
     0x8dfcb0ca#32, by decide⟩,
   ⟨fieldsAt [(Boot.PLL, 1), (Ses.PIN, 1), (Acc.CLAIM 174, 1)], ⟨.host, true, 0#16⟩, 174, 0xe67c19e5#32, by decide⟩⟩

/-- States that meet the hypotheses of `Obligations.MemoryIntegrity`, clause by clause. -/
theorem witness_MemoryIntegrity :
    (∃ (s : State) (a : Access) (u : BitVec 8) (wd : Fin 512) (addr : BitVec 24), muted s 0xA0 = false ∧ muted s 0xA1 =
      false ∧ s.get (MEM_INJ.ARM 1) = 0 ∧ scrubRuns s 0 = true ∧ s.ecc = [] ∧ popCount 8 u.toNat = 1 ∧ s.get Mem.RETPOS =
      511 ∧ scrubRuns s 1 = true ∧ s.get (MEM_SCRUB_POS.POS 1) = 131071 ∧ s.get (MEM_SCRUB_POS.POS 1) < 131072 ∧ s.get
      Boot.HELD = 0 ∧ eccState s (retKey wd) ≠ 2 ∧ served s = true ∧ addr.toNat % 4 ≠ 0 ∧ addr.toNat < 0x700000 ∧
      keeperView s a = true ∧ s.get (PAGE_LOCK.CFG 0xA0) = 0 ∧ s.get (PAGE_LOCK.INJ 0xA0) = 0 ∧ s.get (PAGE_LOCK.CFG 0xA2)
      = 0 ∧ s.get (PAGE_LOCK.INJ 0xA2) = 0) ∧
    (∃ (s : State) (a : Access) (wd : Fin 512), muted s 0xA0 = false ∧ muted s 0xA1 = false ∧ s.get (MEM_INJ.ARM 1) = 0 ∧
      scrubRuns s 0 = false ∧ scrubRuns s 1 = false ∧ (s.get Boot.HELD = 1 ∨ eccState s (retKey wd) = 2) ∧ eccState s
      (retKey wd) = 2 ∧ served s = true ∧ keeperView s a = false) ∧
    (∃ (s : State) (a : Access) (u : BitVec 8) (w : BitVec 32), muted s 0xA0 = false ∧ muted s 0xA1 = false ∧ s.get
      (MEM_INJ.ARM 1) = 0 ∧ scrubRuns s 0 = true ∧ s.get (MEM_SCRUB_POS.POS 0) = 524287 ∧ s.ecc = [] ∧ 2 ≤ popCount 8
      u.toNat ∧ served s = true ∧ keeperView s a = true ∧ s.get (PAGE_LOCK.CFG 0xA0) = 0 ∧ s.get (PAGE_LOCK.INJ 0xA0) = 1 ∧
      w.getLsbD 31 = true ∧ s.get (MEM_INJ.ARM 0) = 0) :=
  ⟨⟨fieldsAt [(MEM_SCRUB_POS.POS 1, 0x1ffff), (Boot.STEP, 3), (Boot.PLL, 1), (Ses.PIN, 1), (Mem.RETPOS, 511)], ⟨.host,
     true, 0#16⟩, 1#8, 0, 1#24, by decide⟩,
   ⟨withEcc (fieldsAt [(Boot.PLL, 1)]) [(2097244, 259)], ⟨.host, false, 0#16⟩, 92, by decide⟩,
   ⟨fieldsAt [(PAGE_LOCK.INJ 0xa0, 1), (MEM_SCRUB_POS.POS 0, 0x7ffff), (Boot.STEP, 3), (Boot.PLL, 1), (Ses.PIN, 1)],
     ⟨.host, true, 0#16⟩, 9#8, 0xf47a2759#32, by decide⟩⟩

/-- States that meet the hypotheses of `Obligations.ThermalSamplesAndLevels`, clause by clause. -/
theorem witness_ThermalSamplesAndLevels :
    (∃ (s : State) (k : Fin 88), (40 ≤ k.val ∨ s.get (Thm.NEW k) = 1) ∧ thLive s k = true ∧ s.get (THS_CFG.ZONE k) < 16 ∧
      s.get (THS_STAT.SUBST k) = 1 ∧ s.get (Ths.LEN k) = 8 ∧ 1 ≤ s.get (THS_STAT.INTERVAL k) ∧ (thLive s k = false ∨ s.get
      (Ths.INS k) ≠ 3 ∨ s.get (THS_STAT.SUBST k) = 1) ∧ s.get (Ths.OUT k) = 0 ∧ s.get (Ths.SANERUN k) = 1 ∧ s.get
      (THS_CFG.EST k) = 0 ∧ s.get (Ths.MINP k) = 0 ∧ (sdLevel s k).isSome = true ∧ thKept s k = true ∧ muted s 0x80 =
      false) ∧
    (∃ (s : State) (k : Fin 88), thLive s k = true ∧ s.get (THS_STAT.SUBST k) = 0 ∧ s.get (Ths.OUT k) = 0 ∧ s.get (Thm.NEW
      k) = 0 ∧ (k.val < 40 ∨ s.get (PORT_CTL.TD_USE (k - 40)) = 0) ∧ k.val < 40 ∧ s.get (THS_CFG.ZONE k) < 16 ∧ s.get
      (Ths.DN1 k) = 3 ∧ s.get (Ths.DN2 k) = 3 ∧ s.get (Ths.UP1 k) < 3 ∧ s.get (Ths.UP2 k) < 3 ∧ s.get (Ths.MINP k) = 0 ∧
      s.get (Ths.INS k) = 3 ∧ muted s 0x80 = false ∧ s.get (Ths.LASTOK k) = 1 ∧ s.get (THS_CFG.EST k) = 0 ∧ -32768 ≤ s.int
      (Ths.LAST k) ∧ s.int (Ths.LAST k) ≤ 32717) ∧
    (∃ (s : State) (k : Fin 88) (v : Nat), thLive s k = true ∧ s.get (THS_STAT.SUBST k) = 0 ∧ s.get (Ths.OUT k) = 0 ∧ s.get
      (Thm.NEW k) = 1 ∧ 40 ≤ k.val ∧ s.get (PORT_CTL.TD_USE (k - 40)) = 0 ∧ saneCause s k (s.int (PORT_FET_T.T_FET (k -
      40))) = 0 ∧ threshold s (THS_TH.TH1 k) = some (v : Int) ∧ (v : Int) ≤ s.int (PORT_FET_T.T_FET (k - 40)) ∧ s.get
      (THS_CFG.ZONE k) < 16 ∧ s.get (Ths.UP1 k) = 3 ∧ s.get (Ths.DN2 k) < 3 ∧ s.get (Ths.UP2 k) < 3 ∧ s.get (Ths.OVER2 k) =
      0 ∧ s.get (Ths.MINP k) = 0) ∧
    (∃ (s : State) (k : Fin 88), thLive s k = true ∧ s.get (THS_STAT.SUBST k) = 0 ∧ s.get (Ths.OUT k) = 0 ∧ s.get (Thm.NEW
      k) = 1 ∧ 40 ≤ k.val ∧ s.get (PORT_CTL.TD_USE (k - 40)) = 0 ∧ 2000 < s.int (PORT_FET_T.T_FET (k - 40)) ∧ s.get
      (THS_CFG.ZONE k) < 16 ∧ s.get (Ths.UP2 k) = 3 ∧ s.get (Ths.MINP k) = 0) ∧
    (∃ (s : State) (k : Fin 88), thLive s k = false) ∧
    (∃ (s : State) (k : Fin 88) (m : Fin 4), thLive s k = true ∧ k.val < 8 ∧ s.get (Thm.NEW k) = 0 ∧ urgentBusy s 5 = false
      ∧ inputAbsent s (thInput k) = false ∧ (List.range 8).all (fun n => s.get (Imp.PAIR n) == 0) = true ∧ firstLane (fun x
      => laneFree s x && laneFits s x (thInput k)) = some m.val) ∧
    (∃ (s : State) (k : Fin 88) (v : Nat), thLive s k = true ∧ s.get (THS_STAT.SUBST k) = 0 ∧ s.get (Ths.OUT k) = 0 ∧ s.get
      (Thm.NEW k) = 1 ∧ 40 ≤ k.val ∧ s.get (PORT_CTL.TD_USE (k - 40)) = 0 ∧ saneCause s k (s.int (PORT_FET_T.T_FET (k -
      40))) = 0 ∧ threshold s (THS_TH.TH1 k) = some (v : Int) ∧ s.int (PORT_FET_T.T_FET (k - 40)) < (v : Int)) ∧
    (∃ (s : State) (k : Fin 88), thLive s k = true ∧ k.val < 8 ∧ s.get (Thm.NEW k) = 0 ∧ urgentBusy s 5 = true) :=
  ⟨⟨fieldsAt [(THS_STAT.SUBST 45, 1), (Boot.STEP, 3), (Boot.PLL, 1), (Ths.LEN 45, 8), (Ths.SANERUN 45, 1)], 45, by decide⟩,
   ⟨fieldsAt [(Boot.STEP, 3), (Boot.PLL, 1), (Ths.LASTOK 17, 1), (Ths.INS 17, 3), (Ths.DN1 17, 3), (Ths.DN2 17, 3)], 17, by
     decide⟩,
   ⟨fieldsAt [(PORT_FET_T.T_FET 26, 100), (THM_PEND.PEND 377, 0x7f9b), (Boot.STEP, 3), (Boot.PLL, 1), (Thm.NEW 66, 1),
     (Ths.UP1 66, 3)], 66, 100, by decide⟩,
   ⟨fieldsAt [(PORT_FET_T.T_FET 5, 2001), (Boot.STEP, 3), (Boot.PLL, 1), (Thm.NEW 45, 1), (Ths.UP2 45, 3)], 45, by decide⟩,
   ⟨State.reset, 0, by decide⟩,
   ⟨fieldsAt [(HKC_STAT.SETTLED 0, 1), (Boot.PLL, 1)], 0, 0, by decide⟩,
   ⟨fieldsAt [(THM_PEND.PEND 272, 0x7ed3), (Boot.STEP, 3), (Boot.PLL, 1), (Thm.NEW 45, 1)], 45, 300, by decide⟩,
   ⟨fieldsAt [(Boot.PLL, 1), (Hks.UQ 0, 1536)], 0, by decide⟩⟩

/-- States that meet the hypotheses of `Obligations.ThermalShutdowns`, clause by clause. -/
theorem witness_ThermalShutdowns :
    (∃ (s : State) (a : Access) (k : Fin 88) (w : BitVec 32), s.get (Ths.SDDUE k) = 1 ∧ muted s 0x80 = false ∧ thKind k < 2
      ∧ s.get Log.NEXT < 3584 ∧ thKind k = 1 ∧ (s.get (THS_STAT.SD k) = 0 ∨ s.get (Ths.COLD k) = 0) ∧ served s = true ∧
      keeperView s a = false ∧ 1 ≤ k.val ∧ (k.val < 8 ∨ s.get (THS_SD.LOCK k) = 1 ∨ keeperView s a = false) ∧ w.toNat %
      65536 ≠ s.get (THS_SD.SD k)) ∧
    (∃ (s : State) (a : Access) (k : Fin 88), s.get (Ths.SDDUE k) = 0 ∧ s.get (THS_STAT.SD k) = 1 ∧ s.get (Ths.COLD k) = 1
      ∧ s.get (Ths.RECS k) = 0 ∧ thKind k = 3 ∧ served s = true ∧ keeperView s a = true ∧ s.get (PAGE_LOCK.CFG 0x80) = 0 ∧
      8 ≤ k.val ∧ s.get (THS_SD.LOCK k) = 0) ∧
    (∃ (s : State) (a : Access) (k : Fin 88), s.get (Ths.SDDUE k) = 1 ∧ thKind k = 3 ∧ served s = true ∧ keeperView s a =
      true ∧ s.get (PAGE_LOCK.CFG 0x80) = 0 ∧ s.get (Ths.RECS k) = 1 ∧ s.get (Ths.COOLED k) = 1 ∧ s.get (THS_STAT.SD k) =
      1) ∧
    (∃ (s : State) (a : Access) (k : Fin 88), s.get (Ths.SDDUE k) = 1 ∧ thKind k = 2 ∧ served s = true ∧ keeperView s a =
      true ∧ s.get (PAGE_LOCK.CFG 0x80) = 0 ∧ 2 ≤ s.get (Ths.RECS k)) ∧
    (∃ (s : State) (k : Fin 88), s.get (THS_STAT.SD k) = 1 ∧ s.get (Ths.COLD k) = 1 ∧ s.get (Ths.RECS k) ≠ 0) ∧
    (∃ (s : State) (k : Fin 88), s.get (THS_STAT.SD k) = 1 ∧ s.get (Ths.COLD k) = 1 ∧ s.get (Ths.RECS k) = 0 ∧ thKind k = 2
      ∧ s.get (PH_CTL.RUN (k - 8)) = 1 ∧ s.get (PH_STAT.STATE (k - 8)) = 0) ∧
    (∃ (s : State) (k : Fin 88) (n : Fin 48), s.get (Ths.SDDUE k) = 1 ∧ thKind k = 0 ∧ portKind n = 3) :=
  ⟨⟨fieldsAt [(Boot.PLL, 1), (Ths.SDDUE 35, 1)], ⟨.host, true, 0#16⟩, 35, 0#32, by decide⟩,
   ⟨fieldsAt [(THS_STAT.SD 78, 1), (Boot.PLL, 1), (Ses.PIN, 1), (Ths.COLD 78, 1)], ⟨.host, true, 0#16⟩, 78, by decide⟩,
   ⟨fieldsAt [(THS_STAT.SD 74, 1), (Boot.PLL, 1), (Ses.PIN, 1), (Ths.SDDUE 74, 1), (Ths.RECS 74, 1), (Ths.COOLED 74, 1)],
     ⟨.host, true, 0#16⟩, 74, by decide⟩,
   ⟨fieldsAt [(Boot.PLL, 1), (Ses.CODE 1, 1), (Ths.SDDUE 22, 1), (Ths.RECS 22, 2)], ⟨.can0, true, 0#16⟩, 22, by decide⟩,
   ⟨fieldsAt [(THS_STAT.SD 17, 1), (Ths.RECS 17, 1), (Ths.COLD 17, 1)], 17, by decide⟩,
   ⟨fieldsAt [(PH_CTL.RUN 5, 1), (THS_STAT.SD 13, 1), (Ths.COLD 13, 1)], 13, by decide⟩,
   ⟨fieldsAt [(Ths.SDDUE 6, 1)], 6, 4, by decide⟩⟩

/-- States that meet the hypotheses of `Obligations.ChargeEvaluations`, clause by clause. -/
theorem witness_ChargeEvaluations :
    (∃ (s : State) (n : Fin 8) (e : Fin 4) (a : Nat), engineLive s n = true ∧ inSafeBoot s = false ∧ s.get (CHG_CTL.EN n) =
      1 ∧ s.get (CHG_CTL.FOLLOW n) = 0 ∧ s.get (Chg.STARTED n) = 1 ∧ s.get (CHG_STAT.STATE n) ≠ 62 ∧ profileOf s n = some a
      ∧ s.get (Chg.CMD n) / 256 = 0x101 ∧ (s.get (CHG_STAT.STATE n) < nStates s a ∨ s.get (CHG_STAT.STATE n) = 63) ∧
      (evaluate s n).2 ≠ 4 + e.val ∧ (evaluate s n).2 ≠ 3 ∧ s.bit (Flt.PRESENT (0x88 + n)) 2 = true ∧ (engineLive s n =
      false ∨ s.get (CHG_CTL.EN n) = 0 ∨ s.get (CHG_CTL.FOLLOW n) = 1 ∨ (s.get (Chg.REFT n 0) < 20 ∧ s.get (Chg.REFT n 1) <
      20)) ∧ engineProfile s n = some a ∧ engineRuns s n = true ∧ s.get (Chg.VEP n) = accEpoch s (s.get (CHG_ACC.VACC n)) ∧
      accCnt s (s.get (CHG_ACC.VACC n)) < s.get (Chg.VCNT n) + blockLen s a ∧ s.get (Chg.TCNT n) < 100) ∧
    (∃ (s : State) (n : Fin 8), (evaluate s n).2 = 3 ∧ muted s (0x88 + n) = false ∧ s.bit (Flt.PRESENT (0x88 + n)) 2 =
      false ∧ (evaluate s n).1.bit (Flt.PRESENT (0x88 + n)) 2 = true ∧ engineRuns s n = true ∧ 100 ≤ s.get (Chg.TCNT n) ∧
      s.get (Chg.TMN n) < 6) ∧
    (∃ (s : State) (n : Fin 8), evaluates s n = false ∧ engineRuns s n = false) ∧
    (∃ (s : State) (n : Fin 8) (a : Nat), engineLive s n = true ∧ inSafeBoot s = false ∧ s.get (CHG_CTL.EN n) = 1 ∧ s.get
      (CHG_CTL.FOLLOW n) = 0 ∧ s.get (Chg.STARTED n) = 1 ∧ s.get (CHG_STAT.STATE n) ≠ 62 ∧ profileOf s n = some a ∧ s.get
      (Chg.CMD n) / 256 = 0x102 ∧ s.get (Chg.CMD n) % 256 < nStates s a ∧ engineRuns s n = true ∧ 100 ≤ s.get (Chg.TCNT n)
      ∧ 6 ≤ s.get (Chg.TMN n)) ∧
    (∃ (s : State) (n : Fin 8), engineLive s n = true ∧ inSafeBoot s = false ∧ s.get (CHG_CTL.EN n) = 1 ∧ s.get
      (CHG_CTL.FOLLOW n) = 1 ∧ (s.get (CHG_CTL.EN (n.val ^^^ 1)) = 0 ∨ s.get (CHG_CTL.FOLLOW (n.val ^^^ 1)) = 1) ∧ muted s
      (0x88 + n) = false ∧ s.bit (Flt.PRESENT (0x88 + n)) 6 = false) ∧
    (∃ (s : State) (n : Fin 8), engineLive s n = true ∧ inSafeBoot s = false ∧ s.get (CHG_CTL.EN n) = 1 ∧ s.get
      (CHG_CTL.FOLLOW n) = 1 ∧ s.get (CHG_CTL.EN (n.val ^^^ 1)) = 1 ∧ s.get (CHG_CTL.FOLLOW (n.val ^^^ 1)) = 0) ∧
    (∃ (s : State) (n : Fin 8), engineLive s n = true ∧ s.get (CHG_CTL.EN n) = 1 ∧ s.get (CHG_CTL.FOLLOW n) = 0 ∧ (20 ≤
      s.get (Chg.REFT n 0) ∨ 20 ≤ s.get (Chg.REFT n 1)) ∧ muted s (0x88 + n) = false ∧ s.bit (Flt.PRESENT (0x88 + n)) 3 =
      false) ∧
    (∃ (s : State) (n : Fin 8) (a : Nat), engineProfile s n = some a ∧ engineRuns s n = true ∧ s.get (Chg.VEP n) ≠ accEpoch
      s (s.get (CHG_ACC.VACC n))) ∧
    (∃ (s : State) (n : Fin 8), engineLive s n = true ∧ inSafeBoot s = true ∧ s.get (CHG_CTL.EN n) = 0) ∧
    (∃ (s : State) (n : Fin 8) (a : Nat), engineProfile s n = some a ∧ engineRuns s n = true ∧ s.get (Chg.VEP n) = accEpoch
      s (s.get (CHG_ACC.VACC n)) ∧ s.get TAG_INJ.ARM = 0 ∧ (s.get (PAGE_CTL.TAG_CHK (0x88 + n)) = 0 ∨ s.get (Acc.RSUM
      (s.get (CHG_ACC.VACC n))) = residue (accSum s (s.get (CHG_ACC.VACC n)))) ∧ s.get (Chg.VCNT n) + blockLen s a ≤ accCnt
      s (s.get (CHG_ACC.VACC n))) ∧
    (∃ (s : State) (n : Fin 8) (e : Fin 4) (a : Nat), (evaluate s n).2 = 4 + e.val ∧ engineProfile s n = some a) :=
  ⟨⟨bytesPut (fieldsAt [(HIVE_MODE.MODE, 1), (CHG_CTL.EN 4, 1), (Flt.PRESENT 140, 4), (Chg.STARTED 4, 1), (Chg.CMD 4,
     0x10100)]) [(0x200006, 2), (0x200010, 3), (0x200015, 16), (0x201000, 3), (0x201003, 9), (0x201004, 1), (0x201006, 3),
     (0x20100a, 4), (0x20100c, 200)], 4, 0, 2101248, by decide +kernel⟩,
   ⟨bytesPut (fieldsAt [(HIVE_MODE.MODE, 1), (CHG_CTL.EN 2, 1), (CHG_STAT.STATE 2, 1), (CHG_VCELL.VCELL 2, 1), (Chg.STARTED
     2, 1), (Chg.TW 2, 2399), (Chg.VCOK 2, 1), (Chg.VH 2, 9), (Chg.TCNT 2, 100)]) [(0x200006, 2), (0x200010, 3), (0x200015,
     16), (0x201000, 3), (0x201003, 9), (0x201004, 1), (0x201006, 3), (0x20100a, 4), (0x20100c, 200), (0x201128, 1)], 2, by
     decide +kernel⟩,
   ⟨State.reset, 0, by decide⟩,
   ⟨bytesPut (fieldsAt [(HIVE_MODE.MODE, 1), (CHG_CTL.EN 4, 1), (Chg.STARTED 4, 1), (Chg.CMD 4, 0x10200), (Chg.TCNT 4,
     100), (Chg.TMN 4, 6)]) [(0x200006, 2), (0x200010, 3), (0x200015, 16), (0x201000, 3), (0x201003, 9), (0x201004, 1),
     (0x201006, 3), (0x20100a, 4), (0x20100c, 200)], 4, 2101248, by decide +kernel⟩,
   ⟨fieldsAt [(HIVE_MODE.MODE, 1), (CHG_CTL.EN 3, 1), (CHG_CTL.FOLLOW 3, 1)], 3, by decide⟩,
   ⟨fieldsAt [(HIVE_MODE.MODE, 1), (CHG_CTL.EN 2, 1), (CHG_CTL.EN 3, 1), (CHG_CTL.FOLLOW 3, 1)], 3, by decide⟩,
   ⟨fieldsAt [(HIVE_MODE.MODE, 1), (CHG_CTL.EN 0, 1), (Chg.REFT 0 0, 20)], 0, by decide⟩,
   ⟨bytesPut (fieldsAt [(HIVE_MODE.MODE, 1), (ACC_CFG.EPOCH 1 1, 1), (CHG_CTL.EN 5, 1), (CHG_ACC.VACC 5, 65), (Chg.STARTED
     5, 1)]) [(0x200006, 2), (0x200010, 3), (0x200015, 16), (0x201000, 3), (0x201003, 9), (0x201004, 1), (0x201006, 3),
     (0x20100a, 4), (0x20100c, 200)], 5, 2101248, by decide +kernel⟩,
   ⟨fieldsAt [(HIVE_MODE.MODE, 2)], 0, by decide⟩,
   ⟨bytesPut (fieldsAt [(HIVE_MODE.MODE, 1), (ACC_CNT_LO.CNT 1 1, 0x1000), (CHG_CTL.EN 2, 1), (CHG_ACC.VACC 2, 65),
     (Chg.STARTED 2, 1)]) [(0x200006, 2), (0x200010, 3), (0x200015, 16), (0x201000, 3), (0x201003, 9), (0x201004, 1),
     (0x201006, 3), (0x20100a, 4), (0x20100c, 200)], 2, 2101248, by decide +kernel⟩,
   ⟨bytesPut (fieldsAt [(HIVE_MODE.MODE, 1), (CHG_CTL.EN 3, 1), (CHG_STAT.STATE 3, 1), (Chg.STARTED 3, 1)]) [(0x200006, 2),
     (0x200010, 3), (0x200015, 16), (0x201000, 3), (0x201003, 9), (0x201004, 1), (0x201006, 3), (0x20100a, 4), (0x20100c,
     200), (0x201130, 33)], 3, 0, 2101248, by decide +kernel⟩⟩

/-- States that meet the hypotheses of `Obligations.ProbesLampsAndChargeRegisters`, clause by clause. -/
theorem witness_ProbesLampsAndChargeRegisters :
    (∃ (s : State) (n : Fin 8) (below : Bool), inCharge s n = false ∧ s.get (PORT_CTL.PRES_USE (batPort n)) = 0 ∧ (inCharge
      s n = false ∨ s.get (CHG_ABS.PERIOD n) = 0) ∧ s.get (CHG_STAT.PROBING n) = 1 ∧ s.get (Chg.COMMIT_PEND (runner s n)) =
      0 ∧ absenceConfirmed s n below = false ∧ s.get (Chg.ABS n) = 0) ∧
    (∃ (s : State) (n : Fin 8) (m : Fin 8) (e : Fin 8), s.get (CHG_STAT.PROBING n) = 0 ∧ engineRuns s (runner s n) = true ∧
      (inCharge s n = true ∨ (s.get (PORT_CTL.PRES_USE (batPort n)) = 1 ∧ s.get (PORT_STAT.PRES (batPort n)) = 0)) ∧
      probing s (runner s n) = false ∧ inCharge s n = true ∧ 1 ≤ s.get (CHG_ABS.PERIOD n) ∧ slice (s.get PINS_LAMP_SEL.SEL)
      (4 * m.val) 4 = e.val ∧ s.get Boot.HELD = 0 ∧ s.get HIVE_MODE.MODE ≠ 0 ∧ s.get Sleep.STATE = 0 ∧ s.get (CHG_CTL.EN e)
      = 1 ∧ absent s (0x30 + batPort e) = false) ∧
    (∃ (s : State) (n : Fin 8) (a : Nat), profileOf s n = some a ∧ runner s n = n.val ∧ s.get (Chg.ABS n) = 1 ∧ engineLive
      s n = true ∧ hasState s n = true ∧ returnVolts s n a = true ∧ s.get (CHG_STAT.STATE n) = 62 ∧ s.get (Chg.CMD n) / 256
      ≠ 0x101 ∧ s.get (Chg.ABSMS n) ≤ 10000 ∧ s.get (Chg.CKST n) < nStates s a) ∧
    (∃ (s : State) (n : Fin 8) (a : Nat), profileOf s n = some a ∧ runner s n = n.val ∧ s.get (Chg.ABS n) = 1 ∧ engineLive
      s n = true ∧ hasState s n = true ∧ returnVolts s n a = true ∧ s.get (CHG_STAT.STATE n) = 62 ∧ s.get (Chg.CMD n) / 256
      ≠ 0x101 ∧ 10000 < s.get (Chg.ABSMS n)) ∧
    (∃ (s : State) (n : Fin 8) (below : Bool), s.get (CHG_STAT.PROBING n) = 1 ∧ absenceConfirmed s n below = true ∧ s.get
      (Chg.COMMIT_PEND (runner s n)) = 0 ∧ enginePair s (runner s n) = [n.val] ∧ runner s n = n.val) ∧
    (∃ (s : State) (a : Access) (n : Fin 8) (w : BitVec 32), served s = true ∧ keeperView s a = true ∧ s.get (PAGE_LOCK.CFG
      (0x88 + n)) = 0 ∧ absent s (0x88 + n) = false ∧ s.get (CHG_CTL.EN n) = 0 ∧ w.getLsbD 0 = true ∧ slice w.toNat 8 4 ≠
      s.get (CHG_CTL.PROFILE n) ∧ w.getLsbD 2 = false ∧ findTable s 0x0003 (slice w.toNat 8 4) = none ∧ muted s (0x88 + n)
      = false) ∧
    (∃ (s : State) (a : Access) (n : Fin 8) (w : BitVec 32), served s = true ∧ keeperView s a = true ∧ s.get (PAGE_LOCK.CFG
      (0x88 + n)) = 0 ∧ absent s (0x88 + n) = false ∧ s.get (CHG_CTL.EN n) = 1 ∧ w.getLsbD 0 = false) :=
  ⟨⟨fieldsAt [(CHG_STAT.PROBING 1, 1)], 1, false, by decide⟩,
   ⟨fieldsAt [(HIVE_MODE.MODE, 1), (CHG_CTL.EN 2, 1), (CHG_STAT.MODE 2, 1), (Chg.STARTED 2, 1)], 2, 2, 2, by decide⟩,
   ⟨bytesPut (fieldsAt [(HIVE_MODE.MODE, 1), (CHG_CTL.EN 4, 1), (CHG_STAT.STATE 4, 62), (Port.VS 26, 320), (Chg.STARTED 4,
     1), (Chg.ABS 4, 1)]) [(0x200006, 2), (0x200010, 3), (0x200015, 16), (0x201000, 3), (0x201003, 9), (0x201004, 1),
     (0x201006, 3), (0x20100a, 4), (0x20100c, 200), (0x201011, 164)], 4, 2101248, by decide +kernel⟩,
   ⟨bytesPut (fieldsAt [(HIVE_MODE.MODE, 1), (CHG_CTL.EN 4, 1), (CHG_STAT.STATE 4, 62), (Port.VS 26, 320), (Chg.STARTED 4,
     1), (Chg.ABS 4, 1), (Chg.ABSMS 4, 0x3e80)]) [(0x200006, 2), (0x200010, 3), (0x200015, 16), (0x201000, 3), (0x201003,
     9), (0x201004, 1), (0x201006, 3), (0x20100a, 4), (0x20100c, 200), (0x201011, 164)], 4, 2101248, by decide +kernel⟩,
   ⟨fieldsAt [(CHG_STAT.PROBING 6, 1), (Comb.VBB 3, 25)], 6, true, by decide⟩,
   ⟨fieldsAt [(Boot.PLL, 1), (Ses.PIN, 1)], ⟨.host, true, 0#16⟩, 0, 0xd0eb651b#32, by decide⟩,
   ⟨fieldsAt [(CHG_CTL.EN 5, 1), (Boot.PLL, 1), (Ses.PIN, 1)], ⟨.host, true, 0#16⟩, 5, 0#32, by decide⟩⟩

/-- States that meet the hypotheses of `Obligations.SweepRequests`, clause by clause. -/
theorem witness_SweepRequests :
    (∃ (s : State) (a : Access) (n : Fin 8) (w : BitVec 32), served s = true ∧ keeperView s a = true ∧ s.get (PAGE_LOCK.CFG
      (0x88 + n)) = 0 ∧ w.getLsbD 0 = false ∧ (w.getLsbD 1 = true ∨ w.getLsbD 8 = false) ∧ engineRuns s n = false ∧ s.get
      (CHG_IMP_STAT.STATE n) = 0 ∧ (s.get (CHG_IMP_STAT.STATE n) ≠ 1 ∨ s.get (CHG_STAT.LIMITED n) = 1)) ∧
    (∃ (s : State) (a : Access) (n : Fin 8) (w : BitVec 32) (x : Nat), served s = true ∧ keeperView s a = true ∧ s.get
      (PAGE_LOCK.CFG (0x88 + n)) = 0 ∧ w.getLsbD 0 = true ∧ w.getLsbD 8 = true ∧ w.getLsbD 1 = false ∧ engineLead s n =
      none ∧ (inSafeBoot s = true ∨ s.get (CHG_STAT.MODE n) = 0 ∨ portClosed s (batPort n) = false ∨ s.get
      (CHG_IMP_STAT.STATE n) ≠ 0) ∧ (stSweep s n).bind (sweepTable s) = some x ∧ engineRuns s n = true ∧ s.leNat (x + 0xA)
      2 ≠ 0 ∧ s.get (Chg.TW n) ≠ 0 ∧ s.get (Chg.TW n) % (s.leNat (x + 0xA) 2 * 600) = 0 ∧ sweepRefused s n = true ∧
      sweepTable s (s.get (CHG_IMP_STAT.TABLE n)) = some x ∧ s.get (CHG_IMP_STAT.STATE n) = 1 ∧ s.get (CHG_STAT.LIMITED n)
      = 0 ∧ gangOf s (n / 2) = [n.val / 2] ∧ impRuns s (n.val ^^^ 1) = false) ∧
    (∃ (s : State) (n : Fin 8) (x : Nat), (stSweep s n).bind (sweepTable s) = some x ∧ engineRuns s n = true ∧ s.leNat (x +
      0xA) 2 ≠ 0 ∧ s.get (Chg.TW n) ≠ 0 ∧ s.get (Chg.TW n) % (s.leNat (x + 0xA) 2 * 600) = 0 ∧ engineLead s n = none ∧
      sweepRefused s n = false) ∧
    (∃ (s : State) (n : Fin 8), s.get (CHG_IMP_STAT.STATE n) ≠ 0 ∧ 2 ≤ s.get (CHG_IMP_STAT.STATE n) ∧ hasState s n = true)
      ∧
    (∃ (s : State) (a : Access) (n : Fin 8) (w : BitVec 32), served s = true ∧ keeperView s a = true ∧ s.get (PAGE_LOCK.CFG
      (0x88 + n)) = 0 ∧ w.getLsbD 0 = true ∧ w.getLsbD 1 = false ∧ w.getLsbD 8 = true ∧ engineLead s n = none ∧
      sweepRefused (s.put (CHG_IMP_CTL.EN n) 1) n = false) ∧
    (∃ (s : State) (n : Fin 8), gangOf s (n / 2) = [n.val / 2] ∧ impRuns s (n.val ^^^ 1) = true) :=
  ⟨⟨fieldsAt [(Boot.PLL, 1), (Ses.PIN, 1)], ⟨.host, true, 0#16⟩, 0, 0#32, by decide⟩,
   ⟨bytesPut (fieldsAt [(HIVE_MODE.MODE, 1), (CHG_CTL.EN 0, 1), (CHG_IMP_STAT.STATE 0, 1), (Boot.PLL, 1), (Ses.PIN, 1),
     (Chg.STARTED 0, 1), (Chg.TW 0, 600)]) [(0x200006, 2), (0x200010, 3), (0x200015, 16), (0x200020, 4), (0x200025, 32),
     (0x201000, 3), (0x201003, 9), (0x201004, 1), (0x201006, 3), (0x20100a, 4), (0x20100c, 200), (0x202000, 4), (0x202002,
     32), (0x202003, 1), (0x202004, 1), (0x202006, 2), (0x20200a, 1), (0x202015, 89), (0x202020, 160), (0x202023, 3),
     (0x202025, 2), (0x202028, 16), (0x20202b, 3), (0x20202d, 1)], ⟨.host, true, 0#16⟩, 0, 0x8dd455b9#32, 2105344, by
     decide +kernel⟩,
   ⟨bytesPut (fieldsAt [(HIVE_MODE.MODE, 1), (PORT_STAT.STATE 38, 5), (CHG_CTL.EN 6, 1), (CHG_STAT.MODE 6, 1),
     (CHG_IMP_CTL.EN 6, 1), (Chg.STARTED 6, 1), (Chg.TW 6, 600)]) [(0x200006, 2), (0x200010, 3), (0x200015, 16), (0x200020,
     4), (0x200025, 32), (0x201000, 3), (0x201003, 9), (0x201004, 1), (0x201006, 3), (0x20100a, 4), (0x20100c, 200),
     (0x202000, 4), (0x202002, 32), (0x202003, 1), (0x202004, 1), (0x202006, 2), (0x20200a, 1), (0x202015, 89), (0x202020,
     160), (0x202023, 3), (0x202025, 2), (0x202028, 16), (0x20202b, 3), (0x20202d, 1)], 6, 2105344, by decide +kernel⟩,
   ⟨fieldsAt [(CHG_CTL.EN 7, 1), (CHG_IMP_STAT.STATE 7, 2), (Chg.STARTED 7, 1)], 7, by decide⟩,
   ⟨bytesPut (fieldsAt [(HIVE_MODE.MODE, 1), (PORT_STAT.STATE 3, 5), (CHG_CTL.EN 1, 1), (CHG_STAT.MODE 1, 1), (Boot.PLL,
     1), (Ses.PIN, 1), (Chg.STARTED 1, 1)]) [(0x200006, 2), (0x200010, 3), (0x200015, 16), (0x200020, 4), (0x200025, 32),
     (0x201000, 3), (0x201003, 9), (0x201004, 1), (0x201006, 3), (0x20100a, 4), (0x20100c, 200), (0x202000, 4), (0x202002,
     32), (0x202003, 1), (0x202004, 1), (0x202006, 2), (0x202015, 89), (0x202020, 160), (0x202023, 3), (0x202025, 2),
     (0x202028, 16), (0x20202b, 3), (0x20202d, 1)], ⟨.host, true, 0#16⟩, 1, 0x32ae45e1#32, by decide +kernel⟩,
   ⟨fieldsAt [(CHG_IMP_STAT.STATE 0, 2)], 1, by decide⟩⟩

/-- States that meet the hypotheses of `Obligations.SweepPoints`, clause by clause. -/
theorem witness_SweepPoints :
    (∃ (s : State) (n : Fin 8) (x : Nat), hksLive s = true ∧ s.get (Imp.TAIL n) = 1 ∧ 1 ≤ s.get (Imp.FTW n) ∧ (hksLive s =
      false ∨ s.get (Imp.PAIR n) = 0) ∧ (s.get (CHG_IMP_STAT.STATE n) ≠ 2 ∨ s.get (Imp.WAIT n) = 1 ∨ s.get (Imp.K n) ≠ 0) ∧
      (s.get (CHG_IMP_STAT.STATE n) ≠ 3 ∨ s.get (Imp.K n) ≠ 0) ∧ sweepTable s (s.get (CHG_IMP_STAT.TABLE n)) = some x ∧
      s.get (CHG_IMP_STAT.STATE n) = 4 ∧ s.get (Imp.DIST n) = 2 ∧ s.get (CHG_IMP_STAT.POINT n) + 1 < sweepPts s x) ∧
    (∃ (s : State) (n : Fin 8) (x : Nat), sweepTable s (s.get (CHG_IMP_STAT.TABLE n)) = some x ∧ hksLive s = true ∧ s.get
      (Imp.TAIL n) = 0 ∧ 1 ≤ s.get (Imp.FTW n) ∧ (s.get (CHG_IMP_STAT.STATE n) = 2 ∨ s.get (CHG_IMP_STAT.STATE n) = 3) ∧
      s.get (Imp.WAIT n) = 0 ∧ s.get (CHG_IMP_STAT.STATE n) = 3 ∧ s.get (Imp.K n) = 0 ∧ s.get (Imp.CYC n) < ptInteg
      (pointWord s x (s.get (CHG_IMP_STAT.POINT n))) ∧ s.get (CHG_IMP_STAT.STATE n) ≠ 4) ∧
    (∃ (s : State) (n : Fin 8), s.get (Imp.TAIL n) = 0 ∧ s.get (CHG_IMP_STAT.STATE n) < 2 ∧ hksLive s = true ∧ s.get
      (Imp.PAIR n) = 1 ∧ enginePair s n = [n.val] ∧ laneFree s 0 = true ∧ laneFree s 1 = true ∧ (∀ i : Fin 2, laneFits s i
      (48 * (batPort n / 12) + 12 + batPort n % 12) = true ∧ laneFits s i (48 * (batPort n / 12) + batPort n % 12) = true))
      ∧
    (∃ (s : State) (n : Fin 8) (x : Nat), sweepTable s (s.get (CHG_IMP_STAT.TABLE n)) = some x ∧ hksLive s = true ∧ s.get
      (Imp.TAIL n) = 0 ∧ 1 ≤ s.get (Imp.FTW n) ∧ (s.get (CHG_IMP_STAT.STATE n) = 2 ∨ s.get (CHG_IMP_STAT.STATE n) = 3) ∧
      s.get (Imp.WAIT n) = 1 ∧ 1 ≤ s.get (Imp.AWAIT n) ∧ s.get (Imp.AWAIT n) ≤ 32 ∧ 10 * pointAmp (s.put
      (CHG_IMP_STAT.POINT n) (s.get (Imp.AWAIT n) - 1)) n x = 0 ∧ s.get (CHG_IMP_STAT.STATE n) = 3 ∧ s.get (Imp.K n) = 0 ∧
      ptInteg (pointWord s x (s.get (CHG_IMP_STAT.POINT n))) ≤ s.get (Imp.CYC n)) ∧
    (∃ (s : State) (n : Fin 8) (x : Nat), sweepTable s (s.get (CHG_IMP_STAT.TABLE n)) = some x ∧ hksLive s = true ∧ s.get
      (Imp.TAIL n) = 0 ∧ 1 ≤ s.get (Imp.FTW n) ∧ (s.get (CHG_IMP_STAT.STATE n) = 2 ∨ s.get (CHG_IMP_STAT.STATE n) = 3) ∧
      s.get (Imp.WAIT n) = 1 ∧ 1 ≤ s.get (Imp.AWAIT n) ∧ s.get (Imp.AWAIT n) ≤ 32 ∧ 0 < pointAmp (s.put (CHG_IMP_STAT.POINT
      n) (s.get (Imp.AWAIT n) - 1)) n x) ∧
    (∃ (s : State) (n : Fin 8) (x : Nat), hksLive s = false ∧ sweepTable s (s.get (CHG_IMP_STAT.TABLE n)) = some x ∧ s.get
      (CHG_IMP_STAT.STATE n) = 2 ∧ s.get (Imp.WAIT n) = 0 ∧ s.get (Imp.K n) = 0 ∧ ptSettle (pointWord s x (s.get
      (CHG_IMP_STAT.POINT n))) ≤ s.get (Imp.CYC n)) ∧
    (∃ (s : State) (n : Fin 8) (x : Nat), sweepTable s (s.get (CHG_IMP_STAT.TABLE n)) = some x ∧ s.get (CHG_IMP_STAT.STATE
      n) = 4 ∧ sweepPts s x ≤ s.get (CHG_IMP_STAT.POINT n) + 1) ∧
    (∃ (s : State) (n : Fin 8) (x : Nat), sweepTable s (s.get (CHG_IMP_STAT.TABLE n)) = some x ∧ s.get (CHG_IMP_STAT.STATE
      n) = 2 ∧ s.get (Imp.WAIT n) = 0 ∧ s.get (Imp.K n) = 0 ∧ s.get (Imp.CYC n) < ptSettle (pointWord s x (s.get
      (CHG_IMP_STAT.POINT n)))) :=
  ⟨⟨bytesPut (fieldsAt [(CHG_IMP_STAT.STATE 0, 4), (Boot.PLL, 1), (Imp.DIST 0, 2), (Imp.FTW 0, 1), (Imp.TAIL 0, 1)])
     [(0x200006, 2), (0x200020, 4), (0x200025, 32), (0x202000, 4), (0x202002, 32), (0x202003, 1), (0x202004, 1), (0x202006,
     2), (0x202015, 89), (0x202022, 233), (0x202025, 2), (0x20202a, 233), (0x20202d, 1)], 0, 2105344, by decide +kernel⟩,
   ⟨bytesPut (fieldsAt [(CHG_IMP_STAT.STATE 5, 3), (Boot.PLL, 1), (Imp.FTW 5, 1)]) [(0x200006, 2), (0x200020, 4),
     (0x200025, 32), (0x202000, 4), (0x202002, 32), (0x202003, 1), (0x202004, 1), (0x202006, 2), (0x202015, 89), (0x202022,
     233), (0x202025, 2), (0x20202a, 233), (0x20202d, 1)], 5, 2105344, by decide +kernel⟩,
   ⟨fieldsAt [(HKC_STAT.SETTLED 0, 1), (HKC_STAT.SETTLED 1, 1), (Boot.PLL, 1), (Imp.PAIR 7, 1)], 7, by decide⟩,
   ⟨bytesPut (fieldsAt [(CHG_IMP_STAT.STATE 2, 3), (Boot.PLL, 1), (Imp.CYC 2, 2), (Imp.WAIT 2, 1), (Imp.FTW 2, 1),
     (Imp.AWAIT 2, 3)]) [(0x200006, 2), (0x200020, 4), (0x200025, 32), (0x202000, 4), (0x202002, 32), (0x202003, 1),
     (0x202004, 1), (0x202006, 2), (0x202015, 89), (0x202022, 233), (0x202025, 2), (0x20202a, 233), (0x20202d, 1)], 2,
     2105344, by decide +kernel⟩,
   ⟨bytesPut (fieldsAt [(CHG_IMP_STAT.STATE 2, 2), (Boot.PLL, 1), (Imp.WAIT 2, 1), (Imp.FTW 2, 1), (Imp.AWAIT 2, 1)])
     [(0x200006, 2), (0x200020, 4), (0x200025, 32), (0x202000, 4), (0x202002, 32), (0x202003, 1), (0x202004, 1), (0x202006,
     2), (0x202015, 89), (0x202022, 233), (0x202025, 2), (0x20202a, 233), (0x20202d, 1)], 2, 2105344, by decide +kernel⟩,
   ⟨bytesPut (fieldsAt [(CHG_IMP_STAT.STATE 1, 2)]) [(0x200006, 2), (0x200020, 4), (0x200025, 32), (0x202000, 4),
     (0x202002, 32), (0x202003, 1), (0x202004, 1), (0x202006, 2), (0x202015, 89), (0x202022, 233), (0x202025, 2),
     (0x20202a, 233), (0x20202d, 1)], 1, 2105344, by decide +kernel⟩,
   ⟨bytesPut (fieldsAt [(CHG_IMP_STAT.STATE 4, 4), (CHG_IMP_STAT.POINT 4, 1)]) [(0x200006, 2), (0x200020, 4), (0x200025,
     32), (0x202000, 4), (0x202002, 32), (0x202003, 1), (0x202004, 1), (0x202006, 2), (0x202015, 89), (0x202022, 233),
     (0x202025, 2), (0x20202a, 233), (0x20202d, 1)], 4, 2105344, by decide +kernel⟩,
   ⟨bytesPut (fieldsAt [(CHG_IMP_STAT.STATE 6, 2)]) [(0x200006, 2), (0x200020, 4), (0x200025, 32), (0x202000, 4),
     (0x202002, 32), (0x202003, 1), (0x202004, 1), (0x202006, 2), (0x202015, 89), (0x202022, 233), (0x202024, 1),
     (0x202025, 2), (0x20202a, 233), (0x20202d, 1)], 6, 2105344, by decide +kernel⟩⟩

/-- States that meet the hypotheses of `Obligations.InterruptController`, clause by clause. -/
theorem witness_InterruptController :
    (∃ (s : State) (t : Fin 4) (src : Fin 256), intcRuns s = true ∧ 16 ≤ src.val ∧ s.get (INTC_SRC_CFG.SENSE src) = 1 ∧
      s.get (INTC_SRC_CFG.ACTIVE src) = 0 ∧ served s = true ∧ stackDepth s t < 15 ∧ candidate s t = none ∧ stackDepth s t =
      0 ∧ muted s 0x08 = false ∧ (s.get (INTC_SRC_CFG.ACTIVE src) = 0 ∨ s.get INTC_CTL.ACT_MAX = 0)) ∧
    (∃ (s : State) (t : Fin 4) (src : Fin 256) (w : BitVec 32), intcRuns s = true ∧ 16 ≤ src.val ∧ s.get
      (INTC_SRC_CFG.SENSE src) = 0 ∧ (srcLine s src = false ∨ s.get (Intc.LINE src) = 1) ∧ served s = true ∧ stackDepth s t
      ≠ 0 ∧ s.get (Intc.STKSRC t (stackDepth s t - 1)) ≠ w.toNat % 256 ∧ muted s 0x08 = false ∧ s.get (INTC_SRC_CFG.ACTIVE
      src) = 1 ∧ s.get INTC_CTL.ACT_MAX ≠ 0) ∧
    (∃ (s : State) (t : Fin 4) (src : Fin 256) (w : BitVec 32), intcRuns s = true ∧ 16 ≤ src.val ∧ s.get
      (INTC_SRC_CFG.SENSE src) = 1 ∧ s.get (INTC_SRC_CFG.ACTIVE src) = 1 ∧ served s = true ∧ stackDepth s t ≠ 0 ∧ s.get
      (Intc.STKSRC t (stackDepth s t - 1)) = w.toNat % 256 ∧ s.get (INTC_SRC_CFG.SENSE (w.toNat % 256)) = 0) ∧
    (∃ (s : State) (t : Fin 4) (w : BitVec 32), served s = true ∧ stackDepth s t ≠ 0 ∧ s.get (Intc.STKSRC t (stackDepth s t
      - 1)) = w.toNat % 256 ∧ s.get (INTC_SRC_CFG.SENSE (w.toNat % 256)) = 1) ∧
    (∃ (s : State) (src : Fin 256), intcRuns s = true ∧ 16 ≤ src.val ∧ s.get (INTC_SRC_CFG.SENSE src) = 0 ∧ srcLine s src =
      true ∧ s.get (Intc.LINE src) = 0) ∧
    (∃ (s : State), intcRuns s = false) ∧
    (∃ (s : State) (t : Fin 4) (n : Fin 256), served s = true ∧ stackDepth s t < 15 ∧ candidate s t = some n.val) :=
  ⟨⟨fieldsAt [(Boot.PLL, 1)], 0, 16, by decide⟩,
   ⟨fieldsAt [(INTC_PEND.PEND 32, 1), (INTC_T_STAT.DEPTH 2, 2), (INTC_SRC_CFG.SENSE 23, 0), (INTC_SRC_CFG.ACTIVE 23, 1),
     (Boot.PLL, 1), (Intc.STKSRC 2 1, 1)], 2, 23, 0#32, by decide⟩,
   ⟨fieldsAt [(INTC_T_STAT.DEPTH 3, 1), (INTC_SRC_CFG.ACTIVE 23, 1), (Boot.PLL, 1)], 3, 23, 0#32, by decide⟩,
   ⟨fieldsAt [(INTC_T_STAT.DEPTH 2, 1), (INTC_T_CLAIM.PRIO 24, 1), (Boot.PLL, 1)], 2, 0#32, by decide⟩,
   ⟨fieldsAt [(INTC_SRC_CFG.SENSE 23, 0), (PAGE_IRQ_STAT.EVT 9, 1), (PAGE_IRQ_EN.EN 9, 1)], 23, by decide⟩,
   ⟨fieldsAt [(Clk.LOST 73, 1)], by decide⟩,
   ⟨fieldsAt [(INTC_PEND.PEND 272, 1), (INTC_SRC_CFG.TGT 32, 4), (INTC_SRC_CFG.PEND 32, 1), (Boot.PLL, 1)], 2, 32, by
     decide⟩⟩

/-- States that meet the hypotheses of `Obligations.WatchdogKeysAndSlots`, clause by clause. -/
theorem witness_WatchdogKeysAndSlots :
    (∃ (s : State) (w : BitVec 32) (n : Fin 16) (code : BitVec 8), served s = true ∧ s.get WDG_STAT.SVC_BY_HW = 0 ∧ s.get
      WDG_STAT.ARMED = 1 ∧ (s.get WDG_TICK.TICK < wdgOpen s ∨ s.get WDG_STAT.SERVED = 1) ∧ w.toNat ≠ expectedKey s ∧ s.get
      WDG_STAT.FAILED = 0 ∧ muted s 0x09 = false ∧ s.bit (Flt.PRESENT 0x09) 1 = false ∧ (s.get WDG_STAT.SVC_BY_HW = 1 ∨
      (s.get Wdg.EN).testBit n = false ∨ codeInternal (slotCode s n) = true) ∧ (s.get Boot.HELD = 1 ∨ codeInternal
      code.toNat = false)) ∧
    (∃ (s : State) (code : BitVec 8) (k : Fin 16) (j : Fin 16), served s = true ∧ s.get WDG_STAT.SVC_BY_HW = 1 ∧ s.get
      Boot.HELD = 0 ∧ codeInternal code.toNat = true ∧ (s.get Wdg.EN).testBit k = true ∧ slotCode s k = code.toNat ∧
      slotCode s j ≠ code.toNat ∧ wdgOpen s ≤ s.get WDG_TICK.TICK) ∧
    (∃ (s : State) (n : Fin 16), served s = true ∧ s.get WDG_STAT.SVC_BY_HW = 0 ∧ s.get WDG_STAT.ARMED = 0 ∧ (s.get
      Wdg.EN).testBit n = true ∧ slotCode s n = 0 ∧ (s.get WDG_STAT.CHECKED).testBit n = false) ∧
    (∃ (s : State) (n : Fin 16), served s = true ∧ s.get WDG_STAT.SVC_BY_HW = 0 ∧ s.get WDG_STAT.ARMED = 1 ∧ wdgOpen s ≤
      s.get WDG_TICK.TICK ∧ s.get WDG_STAT.SERVED = 0 ∧ slotsMissing s = [] ∧ (s.get Wdg.EN).testBit n = true ∧ slotCode s
      n = 0 ∧ (s.get WDG_STAT.CHECKED).testBit n = true) ∧
    (∃ (s : State), served s = true ∧ s.get WDG_STAT.SVC_BY_HW = 0 ∧ s.get WDG_STAT.ARMED = 1 ∧ wdgOpen s ≤ s.get
      WDG_TICK.TICK ∧ s.get WDG_STAT.SERVED = 0 ∧ slotsMissing s ≠ []) :=
  ⟨⟨fieldsAt [(WDG_STAT.SVC_BY_HW, 0), (WDG_STAT.ARMED, 1), (Boot.PLL, 1)], 0#32, 0, 0#8, by decide⟩,
   ⟨fieldsAt [(WDG_TICK.TICK, 200), (Boot.PLL, 1)], 1#8, 12, 0, by decide⟩,
   ⟨fieldsAt [(WDG_STAT.SVC_BY_HW, 0), (Boot.PLL, 1), (Wdg.EN, 0x1001)], 0, by decide⟩,
   ⟨fieldsAt [(WDG_STAT.SVC_BY_HW, 0), (WDG_STAT.ARMED, 1), (WDG_STAT.CHECKED, 0x1002), (WDG_TICK.TICK, 200), (Boot.PLL,
     1), (Wdg.EN, 0x1002)], 1, by decide⟩,
   ⟨fieldsAt [(WDG_STAT.SVC_BY_HW, 0), (WDG_STAT.ARMED, 1), (Boot.PLL, 1), (Wdg.OPEN, 0)], by decide⟩⟩

/-- States that meet the hypotheses of `Obligations.WatchdogCycles`, clause by clause. -/
theorem witness_WatchdogCycles :
    (∃ (s : State), s.get Boot.HELD = 0 ∧ s.get WDG_TICK.TICK = s.get Wdg.CLOSE ∧ slotsMissing s = [] ∧ s.get
      WDG_STAT.SERVED = 1 ∧ s.get WDG_STAT.FAILED = 0 ∧ s.get Sleep.STATE ≠ 2 ∧ s.get WDG_STAT.SVC_BY_HW = 1 ∧ s.get
      Wdg.HOSTNEXT = 0 ∧ (s.get WDG_STAT.SERVED = 1 ∨ s.get WDG_TICK.TICK ≠ s.get WDG_TICK.EW) ∧ (s.get Boot.HELD = 1 ∨
      s.get WDG_STAT.MON_OTHER = 1) ∧ s.get WDG_STAT.MON_OTHER = 1) ∧
    (∃ (s : State) (b : Nat), s.get Boot.HELD = 0 ∧ s.get WDG_TICK.TICK = s.get Wdg.CLOSE ∧ (slotsMissing s ≠ [] ∨ s.get
      WDG_STAT.SERVED = 0 ∨ s.get WDG_STAT.FAILED = 1) ∧ s.get WDG_STAT.FAILED = 0 ∧ slotsMissing s ≠ [] ∧ 0x600000 ≤ b ∧
      s.get WDG_STAT.MON_OTHER = 0 ∧ muted s 0x09 = false ∧ s.bit (Flt.PRESENT 0x09) 0 = false) ∧
    (∃ (s : State), (s.get Boot.HELD = 1 ∨ s.get WDG_TICK.TICK ≠ s.get Wdg.CLOSE) ∧ s.get Boot.HELD = 0 ∧ s.get
      WDG_TICK.TICK = s.get WDG_TICK.EW ∧ s.get WDG_STAT.SERVED = 0 ∧ s.get WDG_STAT.EW = 0 ∧ s.get Sleep.STATE = 2) ∧
    (∃ (s : State), s.get Boot.HELD = 0 ∧ s.get WDG_TICK.TICK = s.get Wdg.CLOSE ∧ (slotsMissing s ≠ [] ∨ s.get
      WDG_STAT.SERVED = 0 ∨ s.get WDG_STAT.FAILED = 1) ∧ s.get WDG_STAT.FAILED = 0 ∧ slotsMissing s = []) ∧
    (∃ (s : State), s.get Boot.HELD = 0 ∧ s.get WDG_TICK.TICK = s.get Wdg.CLOSE ∧ slotsMissing s = [] ∧ s.get
      WDG_STAT.SERVED = 1 ∧ s.get WDG_STAT.FAILED = 0 ∧ s.get WDG_STAT.SVC_BY_HW = 0 ∧ s.get Wdg.HOSTNEXT = 0) :=
  ⟨⟨fieldsAt [(WDG_STAT.MON_OTHER, 1), (WDG_STAT.SERVED, 1), (WDG_STAT.CHECKED, 0x1000), (WDG_TICK.TICK, 999)], by decide⟩,
   ⟨fieldsAt [(WDG_TICK.TICK, 999)], 11130390, by decide⟩,
   ⟨fieldsAt [(WDG_TICK.TICK, 799), (Sleep.STATE, 2)], by decide⟩,
   ⟨fieldsAt [(WDG_STAT.CHECKED, 0x1000), (WDG_TICK.TICK, 999)], by decide⟩,
   ⟨fieldsAt [(WDG_STAT.SVC_BY_HW, 0), (WDG_STAT.SERVED, 1), (WDG_STAT.CHECKED, 0x1000), (WDG_TICK.TICK, 999)], by decide⟩⟩

/-- States that meet the hypotheses of `Obligations.RegisterAccesses`, clause by clause. -/
theorem witness_RegisterAccesses :
    (∃ (s : State) (a : Access) (addr : BitVec 20) (w : BitVec 32) (page : BitVec 8) (c : Fin 4) (h : Nat), served s = true
      ∧ addr.toNat % 4 ≠ 0 ∧ (keeperView s a = false ∨ s.get (PAGE_LOCK.CFG 0x98) = 1) ∧ w.toNat / 16777216 ≠ s.get
      SW_RMT.TIMEOUT ∧ pageKind page.toNat ≠ none ∧ (s.readHold[pathNum a.path]).any (fun h => h.key == 0x9805C) = false ∧
      (s.writeHold[pathNum a.path]).bind (fun x => if x.key = 0x10074 + 0x1000 * c.val then some x.lo else none) = some h ∧
      h < 4294967296 ∧ h % 16 = 8 ∧ h.testBit 12 = false ∧ s.get (CMB_CTL.ANT_EN c) = 1 ∧ foragerRuns s c = true ∧
      s.antq[c].length < 16 ∧ (s.writeHold[pathNum a.path]).any (fun x => x.key == 0x10074 + 0x1000 * c.val) = true ∧
      (keeperView s a = false ∨ s.get (PAGE_LOCK.CFG 0x02) = 1 ∨ s.get PWR_RET_ADDR.WORD < 512)) ∧
    (∃ (s : State) (a : Access) (page : BitVec 8), served s = true ∧ pageKind page.toNat = none ∧ keeperView s a = true ∧
      s.get (PAGE_LOCK.CFG 0x98) = 0 ∧ s.get (PAGE_LOCK.CFG 0x02) = 0 ∧ 512 ≤ s.get PWR_RET_ADDR.WORD) ∧
    (∃ (s : State), served s = false) ∧
    (∃ (s : State) (a : Access), served s = true ∧ (s.readHold[pathNum a.path]).any (fun h => h.key == 0x9805C) = true) ∧
    (∃ (s : State) (a : Access) (w : BitVec 32), served s = true ∧ (keeperView s a = false ∨ s.get (PAGE_LOCK.CFG 0x98) =
      1) ∧ w.toNat / 16777216 = s.get SW_RMT.TIMEOUT) :=
  ⟨⟨withWriteHold (fieldsAt [(HIVE_MODE.MODE, 1), (Boot.PLL, 1)]) 0 (some ⟨69748, 73736⟩), ⟨.host, false, 0#16⟩, 1#20,
     0#32, 0#8, 1, 73736, by decide⟩,
   ⟨fieldsAt [(PWR_RET_ADDR.WORD, 512), (Boot.PLL, 1), (Ses.CODE 0, 1)], ⟨.host, true, 0#16⟩, 100#8, by decide⟩,
   ⟨State.reset, by decide⟩,
   ⟨withReadHold (fieldsAt [(Boot.PLL, 1)]) 2 (some ⟨622684, 0, 0, 0⟩), ⟨.can1, false, 0#16⟩, by decide⟩,
   ⟨fieldsAt [(SW_RMT.TIMEOUT, 0), (Boot.PLL, 1)], ⟨.host, true, 0#16⟩, 0#32, by decide⟩⟩

/-- States that meet the hypotheses of `Obligations.KeeperSessions`, clause by clause. -/
theorem witness_KeeperSessions :
    (∃ (s : State) (a : Access) (w : BitVec 32) (p : Path) (q : Fin 4), s.get Ses.PIN = 1 ∧ served s = true ∧ s.get
      HIVE_KSESS_STAT.LOCKOUT = 0 ∧ (s.get Ses.IMGCODE = 0 ∨ (s.codeHold[pathNum a.path]).map (fun l => l.toNat +
      4294967296 * w.toNat) ≠ some (s.get Ses.IMGCODE)) ∧ s.get HIVE_KSESS_STAT.FAILS < 2 ∧ w.toNat.testBit 0 = true ∧
      s.get (Ses.CODE (pathNum a.path)) = 1 ∧ keeperView s a = true ∧ s.get (PAGE_LOCK.CFG 0x00) = 0 ∧ w.toNat / 256 % 256
      ≠ 0 ∧ w.toNat / 256 % 256 ≠ s.get HIVE_KSESS_CTL.IDLE ∧ q ≠ pathNum a.path ∧ 1000 * (w.toNat / 256 % 256) ≤ s.get
      (Ses.IDLE_T q) ∧ s.get HIVE_KSESS_CTL.IDLE ≠ 0 ∧ s.get (Ses.CODE (pathNum p)) = 1) ∧
    (∃ (s : State) (a : Access) (w : BitVec 32), served s = true ∧ s.get Ses.PIN = 0 ∧ s.get HIVE_KSESS_STAT.LOCKOUT = 0 ∧
      s.get Ses.IMGCODE ≠ 0 ∧ (s.codeHold[pathNum a.path]).map (fun l => l.toNat + 4294967296 * w.toNat) = some (s.get
      Ses.IMGCODE) ∧ s.get (Ses.CODE (pathNum a.path)) = 0 ∧ w.toNat.testBit 0 = false ∧ keeperView s a = false ∧ s.get
      HIVE_KSESS_CTL.IDLE = 0) ∧
    (∃ (s : State) (a : Access) (w : BitVec 32), served s = true ∧ s.get HIVE_KSESS_STAT.LOCKOUT = 0 ∧ (s.get Ses.IMGCODE =
      0 ∨ (s.codeHold[pathNum a.path]).map (fun l => l.toNat + 4294967296 * w.toNat) ≠ some (s.get Ses.IMGCODE)) ∧ s.get
      HIVE_KSESS_STAT.FAILS = 2 ∧ muted s 0x00 = false) ∧
    (∃ (s : State), served s = true ∧ s.get HIVE_KSESS_STAT.LOCKOUT = 1) ∧
    (∃ (s : State) (a : Access) (w : BitVec 32), served s = true ∧ s.get HIVE_KSESS_STAT.LOCKOUT = 0 ∧ s.get Ses.IMGCODE ≠
      0 ∧ (s.codeHold[pathNum a.path]).map (fun l => l.toNat + 4294967296 * w.toNat) = some (s.get Ses.IMGCODE) ∧ a.path =
      .swarm) :=
  ⟨⟨fieldsAt [(Boot.PLL, 1), (Ses.PIN, 1), (Ses.CODE 1, 1), (Ses.CODE 2, 1), (Ses.IDLE_T 3, 1000)], ⟨.can1, true, 0#16⟩,
     511#32, .can0, 3, by decide⟩,
   ⟨withCodeHold (fieldsAt [(HIVE_KSESS_CTL.IDLE, 0), (Boot.PLL, 1), (Ses.IMGCODE, 0xea600000004d)]) 1 (some 77#32),
     ⟨.can0, true, 0#16⟩, 0xea60#32, by decide⟩,
   ⟨fieldsAt [(HIVE_KSESS_STAT.FAILS, 2), (Boot.PLL, 1)], ⟨.host, true, 0#16⟩, 0#32, by decide⟩,
   ⟨fieldsAt [(HIVE_KSESS_STAT.LOCKOUT, 1), (Boot.PLL, 1)], by decide⟩,
   ⟨withCodeHold (fieldsAt [(Boot.PLL, 1), (Ses.IMGCODE, 0x50000004d)]) 3 (some 77#32), ⟨.swarm, true, 0#16⟩, 5#32, by
     decide⟩⟩

/-- States that meet the hypotheses of `Obligations.HostFramesAndChunks`, clause by clause. -/
theorem witness_HostFramesAndChunks :
    (∃ (s : State) (kb : Bool) (addr : BitVec 24) (w : BitVec 32) (op : BitVec 8), served s = true ∧ s.jobs[0] = none ∧
      op.toNat % 128 = 5 ∧ addr.toNat % 4 = 0 ∧ addr.toNat < 0x700000 ∧ (wordWrite s (kb && sessionOpen s .host 0) 0 0
      addr.toNat w.toNat).1.get Boot.HELD = 0) ∧
    (∃ (s : State), served s = false) ∧
    (∃ (s : State), (s.jobs[0] = none ∨ s.get Pin.HRDY = 1) ∧ (s.jobs[0] = none ∨ s.get Pin.HRDY = 0) ∧ served s = false ∧
      (s.get HOST_CFG.STALL = 0 ∨ s.get Pin.HRDY = 0)) ∧
    (∃ (s : State) (j : Job), s.jobs[0] = some j ∧ j.kind = 0 ∧ s.get Pin.HRDY = 1 ∧ j.left = 0 ∧ s.get HOST_CFG.STALL ≠ 0
      ∧ j.wait = 0 ∧ (j.left = 0 ∨ 5 ≤ j.code) ∧ s.get Boot.HELD = 0) ∧
    (∃ (s : State) (j : Job), s.jobs[0] = some j ∧ j.kind = 0 ∧ j.wait = 0 ∧ j.quota = 0 ∧ s.get Pin.HRDY = 0 ∧ served s =
      true ∧ j.write = false ∧ j.code = 0 ∧ j.left = 1 ∧ j.addr < 0x700000 ∧ s.get Boot.HELD = 0) ∧
    (∃ (s : State), s.get HOST_CFG.STALL ≠ 0 ∧ s.get Pin.HRDY = 1 ∧ s.jobs[0] = none ∧ served s = true) ∧
    (∃ (s : State) (j : Job), s.jobs[0] = some j ∧ j.kind = 0 ∧ s.get Pin.HRDY = 1 ∧ j.left ≠ 0 ∧ 5 ≤ j.code ∧ j.write =
      false ∧ s.get Boot.HELD = 0 ∧ j.wait = 0) :=
  ⟨⟨fieldsAt [(Boot.PLL, 1)], false, 0#24, 0#32, 5#8, by decide⟩,
   ⟨State.reset, by decide⟩,
   ⟨State.reset, by decide⟩,
   ⟨withJobs (fieldsAt [(Pin.HRDY, 1)]) 0 (some ⟨0, false, true, false, 38016, [0x5f6995d6#32, 0xea60#32, 0xfbcccb92#32],
     0, 0, 64, 2, 1, 254, 43400, [3#8, 1#8, 16#8, 71#8], 0, 3, 13862, 59613⟩), ⟨0, false, true, false, 38016,
     [0x5f6995d6#32, 0xea60#32, 0xfbcccb92#32], 0, 0, 64, 2, 1, 254, 43400, [3#8, 1#8, 16#8, 71#8], 0, 3, 13862, 59613⟩, by
     decide⟩,
   ⟨withJobs (fieldsAt [(Boot.PLL, 1)]) 0 (some ⟨0, false, true, true, 7095856, [0xea60#32, 0xea60#32], 1, 0, 64, 0, 0,
     199, 7876, [], 0, 2, 58979, 38167⟩), ⟨0, false, true, true, 7095856, [0xea60#32, 0xea60#32], 1, 0, 64, 0, 0, 199,
     7876, [], 0, 2, 58979, 38167⟩, by decide⟩,
   ⟨fieldsAt [(Pin.HRDY, 1), (Boot.PLL, 1)], by decide⟩,
   ⟨withJobs (fieldsAt [(Pin.HRDY, 1)]) 0 (some ⟨0, false, false, true, 4019244, [0xe212b493#32], 2, 0, 64, 3, 5, 131,
     12394, [12#8, 142#8, 138#8], 0, 1, 24223, 50085⟩), ⟨0, false, false, true, 4019244, [0xe212b493#32], 2, 0, 64, 3, 5,
     131, 12394, [12#8, 142#8, 138#8], 0, 1, 24223, 50085⟩, by decide⟩⟩

/-- States that meet the hypotheses of `Obligations.CanAccess`, clause by clause. -/
theorem witness_CanAccess :
    (∃ (s : State) (n : Fin 2) (id : BitVec 29) (len : BitVec 8) (op : BitVec 8), served s = true ∧ canHears s n = true ∧
      s.get (CAN_STAT.REC n) < 128 ∧ (s.get (CAN_CFG.LISTEN n) = 1 ∨ id.toNat / 2 ^ 27 ≠ 2 ∨ id.toNat % 256 ≠ s.get
      (CAN_CFG.NODE n) ∨ s.get (CAN_CFG.NODE n) = 0 ∨ s.get (CAN_CFG.NODE n) = 255) ∧ canOn s n = true ∧ s.get
      (CAN_CFG.NODE n) ≠ 0 ∧ s.get (CAN_CFG.NODE n) ≠ 255 ∧ s.jobs[canPath n] = none ∧ s.canq[n] = [] ∧ (op.toNat % 128 = 1
      ∨ op.toNat % 128 = 3) ∧ 9 < len.toNat ∧ 3 ≤ s.get Boot.STEP ∧ s.get (CAN_CFG.HB n) ≠ 0 ∧ s.get (CAN_CFG.EN n) = 1 ∧
      s.get (CAN_STAT.STATE n) = 0) ∧
    (∃ (s : State) (n : Fin 2), (served s = false ∨ canHears s n = false) ∧ (served s = false ∨ s.get Boot.STEP < 3 ∨ canOn
      s n = false ∨ s.get (CAN_CFG.HB n) = 0) ∧ s.get (CAN_STAT.STATE n) = 2) ∧
    (∃ (s : State) (n : Fin 2) (j : Job), served s = true ∧ canHears s n = true ∧ 128 ≤ s.get (CAN_STAT.REC n) ∧ canOn s n
      = true ∧ s.get (CAN_CFG.NODE n) ≠ 0 ∧ s.get (CAN_CFG.NODE n) ≠ 255 ∧ s.jobs[canPath n] = some j ∧ s.canq[n].length <
      4) :=
  ⟨⟨fieldsAt [(CAN_CFG.EN 0, 1), (CAN_CFG.NODE 0, 1), (Boot.STEP, 3), (Boot.PLL, 1)], 0, 0#29, 10#8, 1#8, by decide⟩,
   ⟨fieldsAt [(CAN_STAT.STATE 1, 2)], 1, by decide⟩,
   ⟨withJobs (fieldsAt [(CAN_CFG.EN 1, 1), (CAN_CFG.NODE 1, 1), (CAN_STAT.REC 1, 128), (Boot.PLL, 1)]) 2 (some ⟨1, true,
     true, true, 5379244, [0xea60#32, 0#32], 1, 0, 64, 1, 3, 181, 59759, [52#8, 32#8, 0#8, 9#8], 0, 3, 56772, 32272⟩), 1,
     ⟨1, true, true, true, 5379244, [0xea60#32, 0#32], 1, 0, 64, 1, 3, 181, 59759, [52#8, 32#8, 0#8, 9#8], 0, 3, 56772,
     32272⟩, by decide⟩⟩

/-- States that meet the hypotheses of `Obligations.SwarmLinksAndAddresses`, clause by clause. -/
theorem witness_SwarmLinksAndAddresses :
    (∃ (s : State) (f : SwFrame) (west : Bool) (east : Bool) (bad : BitVec 32), swOn s (bitOf west) = true ∧ bad ≠ 0 ∧
      s.get (swUp (bitOf west)) = 1 ∧ s.get (swUp (bitOf (!east))) = 1 ∧ isOwn s f.dst = false ∧ isOwn s f.src = false ∧
      f.dst.toNat / 64 = s.get SW_ADDR.SEG ∧ 2 ≤ f.ttl.toNat ∧ s.get (swMode (bitOf west)) = 0 ∧ hopsBy s 0 (f.dst.toNat %
      64) ≠ 0 ∧ (hopsBy s 1 (f.dst.toNat % 64) = 0 ∨ hopsBy s 0 (f.dst.toNat % 64) ≤ hopsBy s 1 (f.dst.toNat % 64))) ∧
    (∃ (s : State) (west : Bool), swOn s (bitOf west) = true ∧ 2 ≤ s.get (Sw.RUN (bitOf west)) ∧ s.get (swUp (bitOf west))
      = 0) ∧
    (∃ (s : State) (west : Bool), swOn s (bitOf west) = false) ∧
    (∃ (s : State) (west : Bool) (node : Fin 64), (s.get SW_ADDR.AUTO = 0 ∨ s.get SW_ADDR.VALID = 1 ∨ s.get Boot.STEP < 3 ∨
      (s.get SW_PORT_E.UP = 0 ∧ s.get SW_PORT_W.UP = 0)) ∧ (s.get SW_ADDR.VALID = 0 ∨ node.val ≠ s.get SW_ADDR.NODE_ACT) ∧
      s.get (Sw.HOP (1 - bitOf west) node) = 0 ∧ s.get SW_TOPO.QVALID = 1 ∧ s.get SW_TOPO.QUEEN = node.val ∧ s.get
      (Ses.CODE 3) = 1 ∧ s.get Ses.NODE = s.get SW_ADDR.SEG * 64 + node.val) ∧
    (∃ (s : State) (west : Bool) (node : Fin 64), (s.get SW_ADDR.VALID = 0 ∨ node.val ≠ s.get SW_ADDR.NODE_ACT) ∧ s.get
      (Sw.HOP (1 - bitOf west) node) ≠ 0) ∧
    (∃ (s : State) (node : Fin 64), s.get SW_ADDR.VALID = 1 ∧ node.val = s.get SW_ADDR.NODE_ACT) ∧
    (∃ (s : State) (node : Fin 64), s.get SW_ADDR.AUTO = 1 ∧ s.get SW_ADDR.VALID = 0 ∧ 3 ≤ s.get Boot.STEP ∧ (s.get
      SW_PORT_E.UP = 1 ∨ s.get SW_PORT_W.UP = 1) ∧ swReach s node = false ∧ (∀ k : Fin 64, k.val < node.val → swReach s k =
      true)) :=
  ⟨⟨fieldsAt [(SW_PORT_E.UP, 1), (SW_PORT_W.UP, 1), (Boot.PLL, 1), (Sw.HOP 0 2, 1)], ⟨false, false, false, 2#16, 0#16, 2#8,
     0#8, [], 0#32, false⟩, false, false, 1#32, by decide⟩,
   ⟨fieldsAt [(Boot.PLL, 1), (Sw.RUN 0, 2)], false, by decide⟩,
   ⟨State.reset, false, by decide⟩,
   ⟨fieldsAt [(SW_TOPO.QUEEN, 38), (SW_TOPO.QVALID, 1), (Ses.CODE 3, 1), (Ses.NODE, 38)], false, 38, by decide⟩,
   ⟨fieldsAt [(Sw.HOP 1 41, 1)], false, 41, by decide⟩,
   ⟨fieldsAt [(SW_ADDR.NODE_ACT, 60), (SW_ADDR.VALID, 1)], 60, by decide⟩,
   ⟨fieldsAt [(SW_PORT_E.UP, 1), (Boot.STEP, 3)], 0, by decide⟩⟩

/-- States that meet the hypotheses of `Obligations.SwarmRolesAndTime`, clause by clause. -/
theorem witness_SwarmRolesAndTime :
    (∃ (s : State) (f : SwFrame) (west : Bool) (node : Fin 64) (b6 : BitVec 8) (uid : BitVec 48), swOn s (bitOf west) =
      true ∧ s.get (swMode (bitOf west)) = 0 ∧ (s.get SW_ADDR.VALID = 0 ∨ node.val ≠ s.get SW_ADDR.NODE_ACT) ∧ (s.get
      (Sw.SEQN node) = 0 ∨ s.get (Sw.SEQN node) = f.seq.toNat) ∧ b6.toNat % 8 = 3 ∧ s.get Sw.ISQ = 0 ∧ (s.get
      SW_TOPO.QVALID = 0 ∨ s.get SW_TOPO.QUEEN ≠ node.val) ∧ s.get SW_ADDR.VALID = 1 ∧ s.get SW_TOPO.RING = 0 ∧ b6.toNat %
      8 ≠ 0 ∧ b6.toNat % 8 ≠ 4 ∧ muted s 0x98 = false ∧ (s.get (Flt.PRESENT 0x98)).testBit 1 = false ∧ s.get SW_TOPO.QVALID
      = 0 ∧ eligible s = true ∧ (∀ k : Fin 64, k.val ≠ s.get SW_ADDR.NODE_ACT → (swReach s k = true ∧ s.get (Sw.ELIGN k) =
      1) → outranks s k = true) ∧ inSafeBoot s = false ∧ s.get Sw.HAS = 0 ∧ s.get SW_TOPO.ROLE ≠ 2 ∧ (s.get SW_TOPO.QVALID
      = 1 ∨ (List.range 4).any (isMember s) = false) ∧ uid ≠ Config.uid) ∧
    (∃ (s : State), s.get SW_TOPO.QVALID = 1 ∧ eligible s = false ∧ s.get SW_TOPO.ROLE = 2 ∧ s.get Sw.HAS = 1) ∧
    (∃ (s : State), s.get SW_TOPO.QVALID = 0 ∧ (List.range 4).any (isMember s) = true ∧ muted s 0x98 = false ∧ (s.get
      (Flt.PRESENT 0x98)).testBit 2 = false) ∧
    (∃ (s : State), (∃ k : Fin 64, k.val ≠ s.get SW_ADDR.NODE_ACT ∧ swReach s k = true ∧ s.get (Sw.ELIGN k) = 1 ∧ outranks
      s k = false)) ∧
    (∃ (s : State) (f : SwFrame) (org : BitVec 64) (corr : BitVec 32) (dt : BitVec 24), swOn s (bitOf f.west) = true ∧
      s.get (swMode (bitOf f.west)) = 0 ∧ isOwn s f.src = false ∧ s.get (Sw.SEQN (f.src.toNat % 64)) = 0 ∧ s.get Sw.ISQ = 0
      ∧ 1000 < ((queenTime s (bitOf f.west) (org.toNat % 2 ^ 40) corr.toNat : Int) - swTime (swPass s dt.toNat)).natAbs ∧ 2
      ≤ f.ttl.toNat ∧ f.full = false ∧ swLocal s (1 - bitOf f.west) = true ∧ s.get Sw.HAS = 1 ∧ s.get SW_TIME_STAT.HOLDOVER
      = 0) ∧
    (∃ (s : State), s.get Sw.ISQ = 1 ∧ s.get Sw.HAS = 1 ∧ (s.get Sw.HAS = 0 ∨ s.get Sw.ISQ = 1 ∨ s.get
      SW_TIME_STAT.HOLDOVER = 1)) ∧
    (∃ (s : State) (f : SwFrame) (org : BitVec 64) (corr : BitVec 32) (dt : BitVec 24), swOn s (bitOf f.west) = true ∧
      s.get (swMode (bitOf f.west)) = 0 ∧ isOwn s f.src = false ∧ s.get (Sw.SEQN (f.src.toNat % 64)) = 0 ∧ s.get Sw.ISQ = 0
      ∧ ((queenTime s (bitOf f.west) (org.toNat % 2 ^ 40) corr.toNat : Int) - swTime (swPass s dt.toNat)).natAbs ≤ 1000) :=
  ⟨⟨fieldsAt [(HIVE_MODE.MODE, 1), (CLK_STAT.SRC, 3), (SW_ADDR.VALID, 1), (Boot.PLL, 1)], ⟨false, false, false, 0#16, 0#16,
     0#8, 0#8, [], 0#32, false⟩, false, 1, 59#8, Config.uid + 1, by decide, by decide, by decide, by decide, by decide, by
     decide, by decide, by decide, by decide, by decide, by decide, by decide, by decide, by decide, by decide, by decide,
     by decide, by decide, by decide, by decide, uid_succ_ne⟩,
   ⟨fieldsAt [(SW_TOPO.ROLE, 2), (SW_TOPO.QVALID, 1), (Sw.HAS, 1)], by decide⟩,
   ⟨fieldsAt [(CMB_PP_CTL.SHARE_EN 0, 1), (SW_MEMB.EN 0, 1)], by decide⟩,
   ⟨fieldsAt [(Sw.HOP 0 9, 1), (Sw.QPRIN 9, 9), (Sw.ELIGN 9, 1)], by decide +kernel⟩,
   ⟨fieldsAt [(SW_PORT_W.UP, 1), (Boot.PLL, 1), (Sw.HAS, 1)], ⟨false, false, false, 0#16, 0#16, 2#8, 0#8, [], 0#32, false⟩,
     0#64, 0#32, 1001#24, by decide⟩,
   ⟨fieldsAt [(Sw.ISQ, 1), (Sw.HAS, 1)], by decide⟩,
   ⟨fieldsAt [(Boot.PLL, 1)], ⟨false, false, false, 0#16, 0#16, 0#8, 0#8, [], 0#32, false⟩, 0#64, 0#32, 0#24, by decide⟩⟩

/-- States that meet the hypotheses of `Obligations.SharesRostersAndTotals`, clause by clause. -/
theorem witness_SharesRostersAndTotals :
    (∃ (s : State), s.get Sw.ISQ = 1) ∧
    (∃ (s : State) (f : SwFrame) (c : Fin 4) (g : Fin 16), swOn s (bitOf f.west) = true ∧ s.get (swMode (bitOf f.west)) = 0
      ∧ isOwn s f.src = false ∧ s.get (Sw.SEQN (f.src.toNat % 64)) = 0 ∧ s.get Sw.ISQ = 0 ∧ s.get SW_ADDR.VALID = 1 ∧
      (isMember s c = false ∨ s.get (SW_MEMB.GROUP c) ≠ g.val ∨ inSafeBoot s = true)) ∧
    (∃ (s : State) (f : SwFrame) (c : Fin 4) (g : Fin 16) (dt : BitVec 20), swOn s (bitOf f.west) = true ∧ s.get (swMode
      (bitOf f.west)) = 0 ∧ isOwn s f.src = false ∧ s.get (Sw.SEQN (f.src.toNat % 64)) = 0 ∧ s.get Sw.ISQ = 0 ∧ s.get
      SW_ADDR.VALID = 1 ∧ s.get TAG_INJ.ARM = 0 ∧ isMember s c = true ∧ s.get (SW_MEMB.GROUP c) = g.val ∧ inSafeBoot s =
      false ∧ swTime (swPass s dt.toNat) < 2 ^ 46) ∧
    (∃ (s : State) (a : Access) (f : SwFrame) (c : Fin 4) (w : BitVec 32), swOn s (bitOf f.west) = true ∧ s.get (swMode
      (bitOf f.west)) = 0 ∧ isOwn s f.src = false ∧ s.get (Sw.SEQN (f.src.toNat % 64)) = 0 ∧ (s.get (Sw.MEM (4 *
      (f.src.toNat % 64) + c)) ≠ 0 ∨ ((List.range 256).filter (fun k => s.get (Sw.MEM k) != 0)).length < 64) ∧ s.get
      TAG_INJ.ARM = 0 ∧ s.get Sw.ISQ = 0 ∧ (s.get SW_ADDR.VALID = 0 ∨ inSafeBoot s = true ∨ ∀ k : Fin 4, s.get (SW_MEMB.EN
      k) = 0) ∧ served s = true ∧ (keeperView s a = false ∨ s.get (PAGE_LOCK.CFG 0x98) = 1) ∧ (BitVec.ofNat 16
      w.toNat).toInt.natAbs ≤ s.get (Sw.CEIL (s.get SW_GRP_SEL.GROUP)) ∧ s.get SW_ADDR.VALID = 0 ∧ w.toNat.testBit 8 =
      false) ∧
    (∃ (s : State) (a : Access) (f : SwFrame) (c : Fin 4) (g : Fin 16) (total : BitVec 16) (w : BitVec 32), swOn s (bitOf
      f.west) = true ∧ s.get (swMode (bitOf f.west)) = 0 ∧ isOwn s f.src = false ∧ s.get (Sw.SEQN (f.src.toNat % 64)) = 0 ∧
      s.get (Sw.MEM (4 * (f.src.toNat % 64) + c)) = 0 ∧ 64 ≤ ((List.range 256).filter (fun k => s.get (Sw.MEM k) !=
      0)).length ∧ s.get Sw.ISQ = 1 ∧ muted s 0x98 = false ∧ total.toNat ≠ s.get (Sw.TOTAL g) ∧ served s = true ∧
      keeperView s a = true ∧ s.get (PAGE_LOCK.CFG 0x98) = 0 ∧ (BitVec.ofNat 16 w.toNat).toInt.natAbs ≤ w.toNat / 65536 ∧
      s.get SW_ADDR.VALID = 1 ∧ w.toNat.testBit 8 = true) ∧
    (∃ (s : State) (a : Access) (w : BitVec 32) (k : Fin 4), s.get SW_ADDR.VALID = 1 ∧ inSafeBoot s = false ∧ (∃ k : Fin 4,
      s.get (SW_MEMB.EN k) = 1) ∧ s.get (SW_MEMB.EN k) ≠ 0 ∧ isMember s k = false ∧ served s = true ∧ (keeperView s a =
      false ∨ s.get (PAGE_LOCK.CFG 0x98) = 1) ∧ (BitVec.ofNat 16 w.toNat).toInt.natAbs ≤ s.get (Sw.CEIL (s.get
      SW_GRP_SEL.GROUP)) ∧ s.get Sw.ISQ = 1) ∧
    (∃ (s : State) (a : Access) (w : BitVec 32) (k : Fin 4), s.get SW_ADDR.VALID = 1 ∧ inSafeBoot s = false ∧ (∃ k : Fin 4,
      s.get (SW_MEMB.EN k) = 1) ∧ s.get (SW_MEMB.EN k) ≠ 0 ∧ isMember s k = true ∧ s.get (Sw.MEM (4 * s.get
      SW_ADDR.NODE_ACT + k)) ≠ 0 ∧ served s = true ∧ (keeperView s a = false ∨ s.get (PAGE_LOCK.CFG 0x98) = 1) ∧ s.get
      (Sw.CEIL (s.get SW_GRP_SEL.GROUP)) < (BitVec.ofNat 16 w.toNat).toInt.natAbs ∧ w.toNat % 65536 ≠ s.get (Sw.REQT (s.get
      SW_GRP_SEL.GROUP))) ∧
    (∃ (s : State) (a : Access) (w : BitVec 32), served s = true ∧ keeperView s a = true ∧ s.get (PAGE_LOCK.CFG 0x98) = 0 ∧
      w.toNat / 65536 < (BitVec.ofNat 16 w.toNat).toInt.natAbs ∧ w.toNat % 65536 ≠ s.get (Sw.REQT (s.get
      SW_GRP_SEL.GROUP))) ∧
    (∃ (s : State) (a : Access) (w : BitVec 32), served s = true ∧ keeperView s a = true ∧ s.get (PAGE_LOCK.CFG 0x98) = 0 ∧
      (BitVec.ofNat 16 w.toNat).toInt.natAbs ≤ w.toNat / 65536 ∧ s.get SW_ADDR.VALID = 0) :=
  ⟨⟨fieldsAt [(Sw.ISQ, 1)], by decide⟩,
   ⟨fieldsAt [(SW_ADDR.VALID, 1), (Boot.PLL, 1)], ⟨false, false, false, 0#16, 1#16, 0#8, 0#8, [], 0#32, false⟩, 0, 0, by
     decide⟩,
   ⟨fieldsAt [(CMB_PP_CTL.SHARE_EN 3, 1), (SW_ADDR.VALID, 1), (SW_MEMB.GROUP 3, 15), (SW_MEMB.EN 3, 1), (Boot.PLL, 1)],
     ⟨false, false, false, 0#16, 1#16, 0#8, 0#8, [], 0#32, false⟩, 3, 15, 0#20, by decide⟩,
   ⟨fieldsAt [(Boot.PLL, 1)], ⟨.host, false, 0#16⟩, ⟨false, false, false, 0#16, 0#16, 0#8, 0#8, [], 0#32, false⟩, 0, 0#32,
     by decide⟩,
   ⟨fieldsAt ([(SW_ADDR.NODE_ACT, 1), (SW_ADDR.VALID, 1), (Boot.PLL, 1), (Ses.CODE 1, 1), (Sw.ISQ, 1)] ++ (List.range
     64).map (fun k => (Sw.MEM (128 + k), 1))), ⟨.can0, true, 0#16⟩, ⟨false, false, false, 0#16, 0#16, 0#8, 0#8, [], 0#32,
     false⟩, 0, 0, 1#16, 0xba2dc900#32, by decide +kernel⟩,
   ⟨fieldsAt [(SW_ADDR.VALID, 1), (SW_MEMB.EN 2, 1), (Boot.PLL, 1), (Sw.ISQ, 1)], ⟨.host, true, 0#16⟩, 0#32, 2, by decide⟩,
   ⟨fieldsAt [(CMB_PP_CTL.SHARE_EN 2, 1), (SW_ADDR.NODE_ACT, 5), (SW_ADDR.VALID, 1), (SW_MEMB.EN 2, 1), (Boot.PLL, 1),
     (Sw.MEM 22, 1), (Sw.CEIL 0, 0)], ⟨.host, true, 0#16⟩, 1#32, 2, by decide⟩,
   ⟨fieldsAt [(Boot.PLL, 1), (Ses.PIN, 1)], ⟨.host, true, 0#16⟩, 1#32, by decide⟩,
   ⟨fieldsAt [(Boot.PLL, 1), (Ses.PIN, 1)], ⟨.host, true, 0#16⟩, 0#32, by decide⟩⟩

/-- States that meet the hypotheses of `Obligations.RemoteAccess`, clause by clause. -/
theorem witness_RemoteAccess :
    (∃ (s : State) (a : Access) (f : SwFrame) (addr : BitVec 20) (op : BitVec 8) (w : BitVec 32), swOn s (bitOf f.west) =
      true ∧ s.get SW_ADDR.VALID = 1 ∧ op.toNat % 128 = 3 ∧ addr.toNat % 4 = 0 ∧ (remoteRead s f addr.toNat).1.get
      Boot.HELD = 0 ∧ (remoteWrite s f addr.toNat w.toNat).1.get Boot.HELD = 0 ∧ (f.keeper = false ∨ sessionOpen s .swarm
      f.src = false) ∧ served s = true ∧ (keeperView s a = false ∨ s.get (PAGE_LOCK.CFG 0x98) = 1)) ∧
    (∃ (s : State) (a : Access) (f : SwFrame) (w : BitVec 32), swOn s (bitOf f.west) = true ∧ s.get SW_ADDR.VALID = 1 ∧
      f.keeper = true ∧ sessionOpen s .swarm f.src = true ∧ served s = true ∧ keeperView s a = true ∧ s.get (PAGE_LOCK.CFG
      0x98) = 0 ∧ w.toNat % 16 ≠ 1) ∧
    (∃ (s : State) (a : Access) (w : BitVec 32), served s = true ∧ keeperView s a = true ∧ s.get (PAGE_LOCK.CFG 0x98) = 0 ∧
      w.toNat % 16 = 1 ∧ s.get SW_ADDR.VALID = 1) ∧
    (∃ (s : State) (f : SwFrame) (p : Fin 3) (j : Job) (code : Fin 5), swOn s (bitOf f.west) = true ∧ s.get SW_ADDR.VALID =
      1 ∧ isOwn s f.src = false ∧ s.jobs[p.castSucc] = some
      { j with kind := 2, wait := 1, left := 1, quota := 1, write := false, target := f.src.toNat } ∧ (∀ q : Fin 4, q ≠
      p.castSucc → s.jobs[q] = none) ∧ s.canq[0] = [] ∧ s.canq[1] = [] ∧ s.get Boot.HELD = 0 ∧ j.code = 0 ∧ code ≠ 0) ∧
    (∃ (s : State) (p : Fin 3) (j : Job), (s.jobs[p.castSucc] = none ∨ s.jobs[p.castSucc] = some { j with wait := 0 })) ∧
    (∃ (s : State) (p : Fin 3) (j : Job) (len : Fin 20), s.jobs[p.castSucc] = some
      { j with kind := 2, wait := len.val + 1, left := len.val + 1, quota := len.val + 1, write := false } ∧ s.canq[0] = []
      ∧ s.canq[1] = [] ∧ s.get Boot.HELD = 0 ∧ j.code = 0) :=
  ⟨⟨fieldsAt [(SW_ADDR.VALID, 1), (Boot.PLL, 1)], ⟨.host, false, 0#16⟩, ⟨false, false, false, 0#16, 0#16, 0#8, 0#8, [],
     0#32, false⟩, 0#20, 3#8, 0#32, by decide⟩,
   ⟨fieldsAt [(SW_ADDR.VALID, 1), (Boot.PLL, 1), (Ses.CODE 2, 1), (Ses.CODE 3, 1), (Ses.NODE, 3)], ⟨.can1, true, 0#16⟩,
     ⟨false, true, false, 0#16, 3#16, 0#8, 0#8, [], 0#32, false⟩, 0#32, by decide⟩,
   ⟨fieldsAt [(SW_ADDR.VALID, 1), (Boot.PLL, 1), (Ses.CODE 2, 1)], ⟨.can1, true, 0#16⟩, 1#32, by decide⟩,
   ⟨withJobs (fieldsAt [(SW_ADDR.VALID, 1), (Boot.PLL, 1)]) 0 (some ⟨2, false, true, false, 1486816, [0x70deb98#32], 1, 1,
     64, 1, 0, 114, 63785, [138#8, 0#8, 144#8], 1, 0, 51100, 21977⟩), ⟨false, false, false, 0#16, 0xc79c#16, 0#8, 0#8, [],
     0#32, false⟩, 0, ⟨0, false, true, false, 1486816, [0x70deb98#32], 0, 0, 64, 1, 0, 114, 63785, [138#8, 0#8, 144#8], 0,
     0, 0, 21977⟩, 1, by decide⟩,
   ⟨State.reset, 0, ⟨0, false, false, false, 0, [], 0, 0, 0, 0, 0, 0, 0, [], 0, 0, 0, 0⟩, by decide⟩,
   ⟨withJobs State.reset 1 (some ⟨2, false, true, false, 3636360, [3#32, 0#32, 1#32], 17, 17, 64, 5, 0, 92, 43631, [39#8],
     17, 3, 37671, 27290⟩), 1, ⟨0, false, true, false, 3636360, [3#32, 0#32, 1#32], 0, 0, 64, 5, 0, 92, 43631, [39#8], 0,
     3, 37671, 27290⟩, 16, by decide⟩⟩

/-- States that meet the hypotheses of `Obligations.TableCommandsAndLoads`, clause by clause. -/
theorem witness_TableCommandsAndLoads :
    (∃ (s : State) (a : Access), served s = true ∧ keeperView s a = false ∧ s.get TBL_CMD.OP = 0 ∧ s.get Tbl.RUN = 2 ∧
      s.leNat (bankBase (1 - s.get TBL_BANK.ACTIVE)) 2 ≠ 1 ∧ muted s 0x90 = false ∧ verifyFailure s (1 - s.get
      TBL_BANK.ACTIVE) ≠ none) ∧
    (∃ (s : State) (a : Access), served s = true ∧ keeperView s a = true ∧ s.get (PAGE_LOCK.CFG 0x90) = 1 ∧ s.get Tbl.RUN =
      2 ∧ verifyFailure s (1 - s.get TBL_BANK.ACTIVE) = none) ∧
    (∃ (s : State) (b : Nat), s.get Tbl.RUN = 5 ∧ bankBase (1 - s.get TBL_BANK.ACTIVE) ≤ b ∧ b < bankBase (1 - s.get
      TBL_BANK.ACTIVE) + 0x80000) ∧
    (∃ (s : State), s.get Tbl.RUN = 4 ∧ s.leNat (slotBase (s.get Tbl.SLOT)) 4 ≠ 0x53429648) ∧
    (∃ (s : State) (b : Nat), s.get Tbl.RUN = 1 ∧ bankBase (s.get TBL_BANK.ACTIVE) ≤ b ∧ b < bankBase (s.get
      TBL_BANK.ACTIVE) + 0x80000) ∧
    (∃ (s : State) (a : Access) (w : BitVec 32) (len : BitVec 16), served s = true ∧ keeperView s a = true ∧ s.get
      (PAGE_LOCK.CFG 0x90) = 0 ∧ w.getLsbD 31 = true ∧ s.get TBL_LD_STAT.CODE = 1 ∧ s.get TBL_LD_STAT.WORDS = 0 ∧ s.get
      TBL_BANK.INACT ≠ 2 ∧ s.get TBL_BANK.INACT ≠ 5 ∧ s.get TBL_BANK.INACT ≠ 6 ∧ s.get TBL_LD_CTL.TTYPE = 1 ∧ w.toNat %
      65536 ≠ 1 ∧ 0x1000 < len.toNat) ∧
    (∃ (s : State) (a : Access) (b : Nat), served s = true ∧ keeperView s a = true ∧ s.get (PAGE_LOCK.CFG 0x90) = 0 ∧ s.get
      TBL_LD_STAT.CODE ≠ 1 ∧ s.get TBL_LD_STAT.CODE ≠ 2 ∧ (b < s.get Tbl.LBASE + 4 * s.get TBL_LD_STAT.WORDS ∨ s.get
      Tbl.LBASE + 4 * s.get TBL_LD_STAT.WORDS + 4 ≤ b) ∧ s.get TBL_LD_STAT.WORDS ≠ 0 ∧ (b < 0x580000 ∨ 0x5A0000 ≤ b)) ∧
    (∃ (s : State) (a : Access), served s = true ∧ keeperView s a = true ∧ s.get (PAGE_LOCK.CFG 0x90) = 0 ∧ s.get
      TBL_LD_STAT.CODE = 1 ∧ s.get TBL_LD_STAT.WORDS = 0 ∧ s.get TBL_BANK.INACT ≠ 2 ∧ s.get TBL_BANK.INACT ≠ 5 ∧ s.get
      TBL_BANK.INACT ≠ 6 ∧ s.get TBL_LD_CTL.TTYPE ≠ 1 ∧ findEntry s (1 - s.get TBL_BANK.ACTIVE) (s.get TBL_LD_CTL.TTYPE)
      (s.get TBL_LD_CTL.INDEX) = none) ∧
    (∃ (s : State) (a : Access), served s = true ∧ keeperView s a = true ∧ s.get (PAGE_LOCK.CFG 0x90) = 0 ∧ s.get
      TBL_LD_STAT.CODE = 2) ∧
    (∃ (s : State) (a : Access), served s = true ∧ keeperView s a = true ∧ s.get (PAGE_LOCK.CFG 0x90) = 0 ∧ s.get
      TBL_LD_STAT.CODE = 1 ∧ s.get TBL_LD_STAT.WORDS = 0 ∧ (s.get TBL_BANK.INACT = 2 ∨ s.get TBL_BANK.INACT = 5 ∨ s.get
      TBL_BANK.INACT = 6) ∧ muted s 0x90 = false) ∧
    (∃ (s : State) (a : Access), served s = true ∧ keeperView s a = true ∧ s.get (PAGE_LOCK.CFG 0x90) = 0 ∧ s.get
      TBL_LD_STAT.CODE = 1 ∧ s.get TBL_LD_STAT.WORDS ≠ 0 ∧ s.get TBL_BANK.INACT ≠ 2 ∧ s.get TBL_BANK.INACT ≠ 5 ∧ s.get
      TBL_BANK.INACT ≠ 6 ∧ s.get TBL_LD_STAT.WORDS < 131072 ∧ s.get Tbl.LWORDS = s.get TBL_LD_STAT.WORDS + 1) ∧
    (∃ (s : State) (a : Access), served s = true ∧ keeperView s a = true ∧ s.get (PAGE_LOCK.CFG 0x90) = 0 ∧ s.get
      TBL_LD_STAT.CODE = 1 ∧ s.get TBL_LD_STAT.WORDS ≠ 0 ∧ s.get TBL_BANK.INACT ≠ 2 ∧ s.get TBL_BANK.INACT ≠ 5 ∧ s.get
      TBL_BANK.INACT ≠ 6 ∧ s.get TBL_LD_STAT.WORDS < 131072 ∧ s.get TBL_LD_STAT.WORDS + 1 < s.get Tbl.LWORDS) :=
  ⟨⟨fieldsAt [(Boot.PLL, 1), (Tbl.RUN, 2)], ⟨.host, true, 0#16⟩, by decide⟩,
   ⟨verifiedBank, ⟨.can1, true, 0#16⟩, by decide +kernel, by decide +kernel, by decide +kernel, by decide +kernel,
     verifiedBank_passes⟩,
   ⟨fieldsAt [(Tbl.RUN, 5)], 3144227, by decide⟩,
   ⟨fieldsAt [(Tbl.RUN, 4)], by decide⟩,
   ⟨fieldsAt [(Tbl.RUN, 1)], 2619939, by decide⟩,
   ⟨fieldsAt [(TBL_LD_CTL.TTYPE, 1), (TBL_LD_STAT.CODE, 1), (Boot.PLL, 1), (Ses.PIN, 1)], ⟨.host, true, 0#16⟩,
     0xfffffa23#32, 0x190f#16, by decide⟩,
   ⟨fieldsAt [(TBL_LD_STAT.WORDS, 1), (Boot.PLL, 1), (Ses.PIN, 1)], ⟨.host, true, 0#16⟩, 0, by decide⟩,
   ⟨fieldsAt [(TBL_LD_STAT.CODE, 1), (Boot.PLL, 1), (Ses.CODE 1, 1)], ⟨.can0, true, 0#16⟩, by decide⟩,
   ⟨fieldsAt [(TBL_LD_STAT.CODE, 2), (Boot.PLL, 1), (Ses.CODE 1, 1)], ⟨.can0, true, 0#16⟩, by decide⟩,
   ⟨fieldsAt [(TBL_BANK.INACT, 2), (TBL_LD_STAT.CODE, 1), (Boot.PLL, 1), (Ses.CODE 1, 1)], ⟨.can0, true, 0#16⟩, by decide⟩,
   ⟨fieldsAt [(TBL_LD_STAT.WORDS, 3), (TBL_LD_STAT.CODE, 1), (Boot.PLL, 1), (Ses.PIN, 1), (Tbl.LWORDS, 4)], ⟨.host, true,
     0#16⟩, by decide⟩,
   ⟨fieldsAt [(TBL_LD_STAT.WORDS, 1), (TBL_LD_STAT.CODE, 1), (Boot.PLL, 1), (Ses.CODE 1, 1), (Tbl.LWORDS, 3)], ⟨.can0,
     true, 0#16⟩, by decide⟩⟩

/-- States that meet the hypotheses of `Obligations.TableCommits`, clause by clause. -/
theorem witness_TableCommits :
    (∃ (s : State) (c : Fin 4) (e : Fin 8) (b : Nat), s.get TBL_BANK.INACT = 5 ∧ 2 ≤ s.get (CHG_IMP_STAT.STATE e) ∧ (b <
      0x580000 ∨ 0x5A0000 ≤ b) ∧ (s.get TBL_BANK.INACT ≠ 6 ∨ s.get (CMB_STAT.GEN c) = s.get TBL_BANK.ACTIVE) ∧ (s.get
      TBL_BANK.INACT ≠ 6 ∨ bankRead s = true) ∧ s.get TBL_BANK.INACT ≠ 6) ∧
    (∃ (s : State), s.get TBL_BANK.INACT ≠ 5 ∧ s.get TBL_BANK.INACT = 6 ∧ (seqTable s).isSome = true ∧ (∀ k : Fin 4, s.get
      (CMB_STAT.GEN k) = s.get TBL_BANK.ACTIVE) ∧ s.get HKS_RUN.ACTIVE = 0 ∧ (∀ p : Fin 16, (s.window[p]).all (fun e =>
      e.stage != 2 || e.gen == s.get TBL_BANK.ACTIVE) = true) ∧ muted s 0x90 = false ∧ (s.get (Flt.PRESENT 0x90)).testBit 3
      = false) :=
  ⟨⟨fieldsAt [(CHG_IMP_STAT.STATE 2, 2), (TBL_BANK.INACT, 5)], 0, 2, 0, by decide⟩,
   ⟨bytesPut (fieldsAt [(TBL_BANK.INACT, 6)]) [(0x200006, 1), (0x200010, 6), (0x200015, 16), (0x201000, 6), (0x201002, 64),
     (0x201003, 16), (0x201004, 1)], by decide +kernel⟩⟩

/-- States that meet the hypotheses of `Obligations.PhaseAndCombDrains`, clause by clause. -/
theorem witness_PhaseAndCombDrains :
    (∃ (s : State) (a : Access) (p : Fin 16) (c : Fin 4) (arg : BitVec 16) (q : Fin 16), served s = true ∧ keeperView s a =
      true ∧ s.get (PAGE_LOCK.CFG 0xB0) = 0 ∧ s.get MAINT_STAT.BUSY = 0 ∧ inFull s = true ∧ 16 ≤ arg.toNat ∧ absent s (0x20
      + p) = false ∧ s.get (Mnt.OUT p) = 0 ∧ s.get (Ph.DUTY p) = 0 ∧ (runAhead s (p / 4) ≠ [p] ∨ (s.get (CMB_PP_STAT.MODE
      (p / 4)) ≠ 2 ∧ s.get (CMB_PP_STAT.MODE (p / 4)) ≠ 3)) ∧ absent s (0x10 + c) = false ∧ s.get (Mnt.DRAIN c) = 0 ∧ s.get
      (CMB_PP_STAT.MODE c) ≠ 2 ∧ s.get (CMB_PP_STAT.MODE c) ≠ 3 ∧ (∀ q : Fin 16, q.val / 4 = c.val → s.flag (Ph.DUTY q) =
      false) ∧ q.val / 4 = c.val ∧ absent s (0x20 + q) = false ∧ s.get (Mnt.OUT q) = 0 ∧ (s.get MAINT_PH_OUT.COMBS).testBit
      c = false ∧ s.get (Mnt.OUT p) ≠ 1 ∧ (s.get (Mnt.OUT p) ≠ 2 ∨ s.get (PH_STAT.STATE p) = 1 ∨ s.get (PH_STAT.STATE p) =
      2)) ∧
    (∃ (s : State) (a : Access) (p : Fin 16) (c : Fin 4), served s = true ∧ keeperView s a = true ∧ s.get (PAGE_LOCK.CFG
      0xB0) = 0 ∧ s.get MAINT_STAT.BUSY = 0 ∧ inFull s = true ∧ absent s (0x20 + p) = false ∧ s.get (Mnt.OUT p) = 0 ∧ s.get
      (Ph.DUTY p) = 0 ∧ runAhead s (p / 4) = [p] ∧ (s.get (CMB_PP_STAT.MODE (p / 4)) = 2 ∨ s.get (CMB_PP_STAT.MODE (p / 4))
      = 3) ∧ absent s (0x10 + c) = false ∧ s.get (Mnt.DRAIN c) = 0 ∧ (s.get (CMB_PP_STAT.MODE c) = 2 ∨ s.get
      (CMB_PP_STAT.MODE c) = 3) ∧ (s.get MAINT_PH_OUT.COMBS).testBit c = true ∧ modelTable s c = none) ∧
    (∃ (s : State) (a : Access) (p : Fin 16), served s = true ∧ keeperView s a = true ∧ s.get (PAGE_LOCK.CFG 0xB0) = 0 ∧
      s.get MAINT_STAT.BUSY = 1 ∧ s.get (Mnt.OUT p) = 2 ∧ s.get (PH_STAT.STATE p) = 3 ∧ (∀ q : Fin 16, s.flag
      (PH_STAT.WALKING q) = false) ∧ s.get Mnt.OP = 1 ∧ s.get Mnt.ARG = p.val) ∧
    (∃ (s : State) (a : Access) (p : Fin 16) (c : Fin 4) (q : Fin 16), served s = true ∧ keeperView s a = true ∧ s.get
      (PAGE_LOCK.CFG 0xB0) = 0 ∧ s.get MAINT_STAT.BUSY = 0 ∧ inFull s = true ∧ absent s (0x20 + p) = false ∧ s.get (Mnt.OUT
      p) = 3 ∧ s.get (Mnt.DRAIN (p / 4)) = 0 ∧ modelDescribes s p = true ∧ cannotRun s p = false ∧ absent s (0x10 + c) =
      false ∧ (s.get MAINT_PH_OUT.COMBS).testBit c = true ∧ (modelTable s c).any (modelForm s) = true ∧ (combPhases c).any
      (fun q => s.get (Mnt.OUT q) == 3 && cannotRun s q) = false ∧ q.val / 4 = c.val ∧ s.get (Mnt.OUT q) = 3) ∧
    (∃ (s : State) (a : Access) (p : Fin 16) (c : Fin 4), served s = true ∧ keeperView s a = true ∧ s.get (PAGE_LOCK.CFG
      0xB0) = 0 ∧ s.get MAINT_STAT.BUSY = 0 ∧ inFull s = true ∧ absent s (0x20 + p) = false ∧ s.get (Mnt.OUT p) = 3 ∧ s.get
      (Mnt.DRAIN (p / 4)) = 0 ∧ modelDescribes s p = true ∧ cannotRun s p = true ∧ absent s (0x10 + c) = false ∧ (s.get
      MAINT_PH_OUT.COMBS).testBit c = true ∧ (modelTable s c).any (modelForm s) = true ∧ (combPhases c).any (fun q => s.get
      (Mnt.OUT q) == 3 && cannotRun s q) = true) ∧
    (∃ (s : State) (a : Access) (p : Fin 16), served s = true ∧ keeperView s a = true ∧ s.get (PAGE_LOCK.CFG 0xB0) = 0 ∧
      s.get MAINT_STAT.BUSY = 0 ∧ inFull s = false ∧ s.get (Mnt.OUT p) = 1) ∧
    (∃ (s : State) (a : Access) (p : Fin 16), served s = true ∧ keeperView s a = true ∧ s.get (PAGE_LOCK.CFG 0xB0) = 0 ∧
      s.get MAINT_STAT.BUSY = 0 ∧ inFull s = true ∧ absent s (0x20 + p) = false ∧ s.get (Mnt.OUT p) = 3 ∧ s.get (Mnt.DRAIN
      (p / 4)) = 0 ∧ modelDescribes s p = false) ∧
    (∃ (s : State) (a : Access) (p : Fin 16), served s = true ∧ keeperView s a = true ∧ s.get (PAGE_LOCK.CFG 0xB0) = 0 ∧
      s.get MAINT_STAT.BUSY = 0 ∧ inFull s = true ∧ absent s (0x20 + p) = false ∧ s.get (Mnt.OUT p) = 0 ∧ s.get (Ph.DUTY p)
      = 1) :=
  ⟨⟨fieldsAt [(HIVE_MODE.MODE, 1), (Boot.PLL, 1), (Ses.PIN, 1)], ⟨.host, true, 0#16⟩, 0, 1, 16#16, 4, by decide⟩,
   ⟨fieldsAt [(HIVE_MODE.MODE, 1), (CMB_CTL.EN 1, 1), (CMB_PP_STAT.MODE 1, 2), (PH_CTL.RUN 7, 1), (MAINT_PH_OUT.COMBS, 2),
     (Boot.PLL, 1), (Ses.PIN, 1), (Comb.MODEL_OK 1, 1)], ⟨.host, true, 0#16⟩, 7, 1, by decide⟩,
   ⟨fieldsAt [(PH_STAT.STATE 4, 3), (MAINT_STAT.BUSY, 1), (Boot.PLL, 1), (Ses.PIN, 1), (Mnt.OUT 4, 2), (Mnt.OP, 1),
     (Mnt.ARG, 4)], ⟨.host, true, 0#16⟩, 4, by decide⟩,
   ⟨bytesPut (fieldsAt [(HIVE_MODE.MODE, 1), (MAINT_PH_OUT.COMBS, 8), (Boot.PLL, 1), (Ses.PIN, 1), (Mnt.OUT 4, 3), (Mnt.OUT
     12, 3)]) [(0x200006, 1), (0x200010, 2), (0x200015, 16), (0x201000, 2), (0x201003, 2), (0x201004, 1), (0x201006, 15),
     (0x201040, 136), (0x20105a, 7), (0x201081, 19), (0x20109a, 7), (0x2010c1, 19), (0x2010da, 7), (0x201101, 19),
     (0x201119, 161)], ⟨.host, true, 0#16⟩, 4, 3, 12, by decide +kernel⟩,
   ⟨bytesPut (fieldsAt [(HIVE_MODE.MODE, 1), (MAINT_PH_OUT.COMBS, 2), (Boot.PLL, 1), (Ses.PIN, 1), (Ph.GD 4, 1), (Mnt.OUT
     4, 3)]) [(0x200006, 1), (0x200010, 2), (0x200015, 16), (0x201000, 2), (0x201003, 2), (0x201004, 1), (0x201006, 15),
     (0x201040, 136), (0x20105a, 7), (0x201081, 19), (0x20109a, 7), (0x2010c1, 19), (0x2010da, 7), (0x201101, 19),
     (0x201119, 161)], ⟨.host, true, 0#16⟩, 4, 1, by decide +kernel⟩,
   ⟨fieldsAt [(Boot.PLL, 1), (Ses.PIN, 1), (Mnt.OUT 4, 1)], ⟨.host, true, 0#16⟩, 4, by decide⟩,
   ⟨fieldsAt [(HIVE_MODE.MODE, 1), (Boot.PLL, 1), (Ses.PIN, 1), (Mnt.OUT 5, 3)], ⟨.host, true, 0#16⟩, 5, by decide⟩,
   ⟨fieldsAt [(HIVE_MODE.MODE, 1), (Boot.PLL, 1), (Ses.PIN, 1), (Ph.DUTY 4, 1)], ⟨.host, true, 0#16⟩, 4, by decide⟩⟩

/-- States that meet the hypotheses of `Obligations.HoldsAndTimeouts`, clause by clause. -/
theorem witness_HoldsAndTimeouts :
    (∃ (s : State) (a : Access) (k : Fin 88) (n : Fin 48) (x : Fin 5), served s = true ∧ keeperView s a = true ∧ s.get
      (PAGE_LOCK.CFG 0xB0) = 0 ∧ inFull s = true ∧ s.get MAINT_STAT.BUSY = 0 ∧ s.get (Ths.OUT k) = 1 ∧ portKind n = 4 ∧
      absent s (0x30 + n) = false ∧ s.get (Port.HELD n) = 1 ∧ s.staged[n] = [(0x048, 0x00030201)] ∧ s.bit MAINT_CONV.OUT x
      = false ∧ s.get HKS_STAT.CAL_BUSY = 0 ∧ s.get HKS_STAT.SPARE ≠ 7 ∧ (List.range 4).any (fun m => laneConv s m ==
      x.val) = true ∧ (s.get MAINT_STAT.BUSY = 0 ∨ (s.get Mnt.OP ≠ 1 ∧ s.get Mnt.OP ≠ 3 ∧ s.get Mnt.OP ≠ 9))) ∧
    (∃ (s : State) (a : Access) (k : Fin 88) (n : Fin 48) (x : Fin 5), served s = true ∧ keeperView s a = true ∧ s.get
      (PAGE_LOCK.CFG 0xB0) = 0 ∧ inFull s = true ∧ s.get MAINT_STAT.BUSY = 0 ∧ (thPages k).any (absent s) = false ∧ s.get
      (Ths.OUT k) = 0 ∧ (sdLevel s k).isSome = true ∧ s.get (THS_CFG.EST k) = 0 ∧ portKind n ≠ 4 ∧ absent s (0x30 + n) =
      false ∧ s.get (Port.HELD n) = 0 ∧ n.val < 32 ∧ s.bit MAINT_CONV.OUT x = false ∧ s.get HKS_STAT.CAL_BUSY = 0 ∧ s.get
      HKS_STAT.SPARE = x.val ∧ (List.range 4).all (fun m => laneConv s m != x.val) = true) ∧
    (∃ (s : State) (a : Access) (n : Fin 48) (x : Fin 5), served s = true ∧ keeperView s a = true ∧ s.get (PAGE_LOCK.CFG
      0xB0) = 0 ∧ inFull s = true ∧ s.get MAINT_STAT.BUSY = 0 ∧ portKind n ≠ 4 ∧ absent s (0x30 + n) = false ∧ s.get
      (Port.HELD n) = 0 ∧ 32 ≤ n.val ∧ s.bit MAINT_CONV.OUT x = true ∧ s.get HKS_STAT.CAL_BUSY = 0) ∧
    (∃ (s : State) (q : Fin 16), s.get MAINT_STAT.BUSY = 1 ∧ s.get Mnt.OP = 3 ∧ s.get Mnt.ARG < 4 ∧ muted s 0xB0 = false ∧
      q.val / 4 = s.get Mnt.ARG ∧ s.get (Mnt.BYC q) = 1) ∧
    (∃ (s : State), s.get MAINT_STAT.BUSY = 1 ∧ s.get Mnt.OP = 1 ∧ s.get Mnt.ARG < 16 ∧ muted s 0xB0 = false) ∧
    (∃ (s : State), s.get MAINT_STAT.BUSY = 1 ∧ s.get Mnt.OP = 9 ∧ muted s 0xB0 = false) ∧
    (∃ (s : State) (a : Access) (x : Fin 5), served s = true ∧ keeperView s a = true ∧ s.get (PAGE_LOCK.CFG 0xB0) = 0 ∧
      inFull s = true ∧ s.get MAINT_STAT.BUSY = 0 ∧ s.bit MAINT_CONV.OUT x = false ∧ s.get HKS_STAT.CAL_BUSY = 0 ∧ s.get
      HKS_STAT.SPARE = 7) ∧
    (∃ (s : State) (a : Access) (k : Fin 88), served s = true ∧ keeperView s a = true ∧ s.get (PAGE_LOCK.CFG 0xB0) = 0 ∧
      inFull s = true ∧ s.get MAINT_STAT.BUSY = 0 ∧ (thPages k).any (absent s) = false ∧ s.get (Ths.OUT k) = 0 ∧ ((sdLevel
      s k).isSome = false ∨ s.get (THS_CFG.EST k) ≠ 0)) :=
  ⟨⟨withStaged (fieldsAt [(HIVE_MODE.MODE, 1), (Boot.PLL, 1), (Ses.PIN, 1), (Port.HELD 47, 1), (Ths.OUT 25, 1)]) 47 ([(72,
     197121)]), ⟨.host, true, 0#16⟩, 25, 47, 0, by decide⟩,
   ⟨fieldsAt [(HIVE_MODE.MODE, 1), (Boot.PLL, 1), (Ses.PIN, 1)], ⟨.host, true, 0#16⟩, 0, 0, 4, by decide⟩,
   ⟨fieldsAt [(HIVE_MODE.MODE, 1), (MAINT_SENS.OUT 5, 8), (Boot.PLL, 1), (Ses.PIN, 1)], ⟨.host, true, 0#16⟩, 36, 3, by
     decide⟩,
   ⟨fieldsAt [(MAINT_STAT.BUSY, 1), (Mnt.BYC 12, 1), (Mnt.OP, 3), (Mnt.ARG, 3)], 12, by decide⟩,
   ⟨fieldsAt [(MAINT_STAT.BUSY, 1), (Mnt.OP, 1)], by decide⟩,
   ⟨fieldsAt [(MAINT_STAT.BUSY, 1), (Mnt.OP, 9)], by decide⟩,
   ⟨fieldsAt [(HIVE_MODE.MODE, 1), (HKS_STAT.SPARE, 7), (Boot.PLL, 1), (Ses.PIN, 1)], ⟨.host, true, 0#16⟩, 0, by decide⟩,
   ⟨fieldsAt [(HIVE_MODE.MODE, 1), (THS_CFG.EST 87, 1), (Boot.PLL, 1), (Ses.PIN, 1)], ⟨.host, true, 0#16⟩, 87, by decide⟩⟩

end Sys2Proof.Tests
end

section
/-! SUPPORT. What an access acts by, and what the state after reset holds (R7, R10). -/

namespace Sys2Proof.Machine

/-! ### The state after reset (R7) -/

/-- Every window byte reads as zero at reset. -/
@[simp] theorem State.byte_reset (b : Nat) : State.reset.byte b = 0 := rfl

/-- Every retention byte reads as zero at reset. -/
@[simp] theorem State.retByte_reset (b : Nat) : State.reset.retByte b = 0 := rfl

/-- The queues of the state after reset keep their sizes, and its mode is START-UP. -/
theorem Queues.bounded_reset : Queues.bounded State.reset = true := by decide

/-- Nothing is staged, running or planned in a phase at reset (R123, R124, R143). -/
theorem State.phase_reset (p : Fin 16) :
    State.reset.slots[p] = [] ∧ State.reset.exec[p] = none ∧ State.reset.coming[p] = none ∧ State.reset.window[p] = [] := by
  simp [State.reset]

/-- No comb queues a record, and no PD port holds a message or bytes to send, at reset (R161, R295). -/
theorem State.comb_reset (c : Fin 4) :
    State.reset.antq[c] = [] ∧ State.reset.rx[c] = [] ∧ State.reset.txBuf[c] = [] ∧ State.reset.txMsg[c] = [] := by
  simp [State.reset]

/-- No access path holds a word, a code or a frame at reset (R92, R97, R98, R105). -/
theorem State.path_reset (i : Fin 4) : State.reset.readHold[i] = none ∧ State.reset.writeHold[i] = none
    ∧ State.reset.codeHold[i] = none ∧ State.reset.jobs[i] = none := by
  simp [State.reset]

/-- No CAN FD request waits at reset (R116). -/
theorem State.canq_reset (i : Fin 2) : State.reset.canq[i] = [] := by
  simp [State.reset]

/-- No register write is staged for a port at reset (R481). -/
theorem State.staged_reset (n : Fin 48) : State.reset.staged[n] = [] := by
  simp [State.reset]

/-- Settles O3: each conjunct is the law of reset for its part of the state. -/
theorem stateAfterReset : Obligations.StateAfterReset := by
  unfold Obligations.StateAfterReset
  refine ⟨State.get_reset, fun b => ⟨State.byte_reset b, State.retByte_reset b⟩, Memory.wf_reset, Queues.bounded_reset,
    State.phase_reset, fun c => ?_, State.canq_reset, State.staged_reset, rfl, rfl, State.get_reset _, State.get_reset _⟩
  obtain ⟨hantq, hrx, hbuf, hmsg⟩ := State.comb_reset c
  exact ⟨hantq, hrx, hbuf, hmsg, State.path_reset c⟩

/-! ### What an access acts by (R10, R88) -/

/-- Without an open session the view is the Worker view, whatever Keeper bit the access carries (R10). -/
theorem keeperView_eq_false {s : State} {a : Access} (h : sessionOpen s a.path a.node = false) (keeper : Bool) :
    keeperView s { a with keeper := keeper } = false := by
  rw [keeperView, h, Bool.and_false]

section
variable {s : State} {a b : Access} (hview : keeperView s a = keeperView s b) (hpath : a.path = b.path)
include hview hpath

/-- An access restarts the idle time of its path by its view alone. -/
theorem touch_eq_of_view : touch s a = touch s b := by
  rw [touch, touch, hpath, hview]

/-- A register access acts by its path and the view that is judged for it, not by the Keeper bit that it carries. -/
theorem regOp_eq_of_view (g : State → Bool → Res) : regOp s a g = regOp s b g := by
  rw [regOp, regOp, touch_eq_of_view hview hpath, hpath, hview]

/-- A read acts by its path and its view. -/
theorem readOp_eq_of_view (addr : Nat) : readOp s a addr = readOp s b addr := by
  rw [readOp, readOp, touch_eq_of_view hview hpath, hpath, hview]

/-- A write acts by its path, its node and its view. -/
theorem writeOp_eq_of_view (hnode : a.node = b.node) (addr w : Nat) : writeOp s a addr w = writeOp s b addr w := by
  rw [writeOp, writeOp, hpath, hnode, regOp_eq_of_view hview hpath]

end

/-- REGISTER_WRITE is one write of its address. -/
theorem exec_registerWrite (a : Access) (addr : BitVec 20) (w : BitVec 32) (s : State) :
    exec (.registerWrite a addr w) s = .next (writeOp s a addr.toNat w.toNat) := rfl

/-- READ_HOLDER_CAPTURE is one read of its address. -/
theorem exec_readHolderCapture (a : Access) (addr : BitVec 20) (s : State) :
    exec (.readHolderCapture a addr) s = .next (readOp s a addr.toNat) := rfl

/-- Settles O8: without a session both accesses have the Worker view, and an access acts by its view. -/
theorem withoutASessionTheKeeperViewIsTheWorkerView : Obligations.WithoutASessionTheKeeperViewIsTheWorkerView := by
  unfold Obligations.WithoutASessionTheKeeperViewIsTheWorkerView
  intro s a addr w hclosed
  have hview : keeperView s { a with keeper := false } = keeperView s { a with keeper := true } :=
    (keeperView_eq_false hclosed false).trans (keeperView_eq_false hclosed true).symm
  refine ⟨⟨_, exec_registerWrite _ addr w s, ?_⟩, ⟨_, exec_readHolderCapture _ addr s, ?_⟩⟩
  · rw [exec_registerWrite, writeOp_eq_of_view hview rfl rfl]
  · rw [exec_readHolderCapture, readOp_eq_of_view hview rfl]

end Sys2Proof.Machine
end

section
/-! SUPPORT. What any step can do to the state, said once: every operation of the machine is made of the moves of `Evolves`,
which bound what happens to the queues and to the mode (R32, R116, R123, R144, R164, R295). -/

namespace Sys2Proof.Machine

-- The side conditions' proofs are declared below: one declaration after another, or each waits for them in a thread of its own.
set_option Elab.async false

/-! ### The moves that operations are made of -/

/-- A field written out is not HIVE_MODE.MODE where its number is another. -/
theorem Fld.id_ne_mode {f : Fld} {k l n r : Nat} (hf : f = ⟨k, l, n, r⟩) (h : k * 32 + l ≠ 2048) :
    f.id ≠ HIVE_MODE.MODE.id := by
  rw [hf]
  exact h

/-- `u` is `t` with other holders, plans, buffers and things sent: no queue outgrows its size, the memories and the commands
that wait are as they were. -/
structure Requeued (t u : State) : Prop where
  regs : u.regs = t.regs := by rfl
  mem : u.mem = t.mem := by rfl
  ret : u.ret = t.ret := by rfl
  ecc : u.ecc = t.ecc := by rfl
  pending : u.pending = t.pending := by rfl
  slots : ∀ p : Fin 16, u.slots[p].length ≤ max 2 t.slots[p].length := by exact fun _ => le_max_right _ _
  window : ∀ p : Fin 16, u.window[p].length ≤ max 16 t.window[p].length := by exact fun _ => le_max_right _ _
  antq : ∀ c : Fin 4, u.antq[c].length ≤ max 16 t.antq[c].length := by exact fun _ => le_max_right _ _
  rx : ∀ c : Fin 4, u.rx[c].length ≤ max 2 t.rx[c].length := by exact fun _ => le_max_right _ _
  canq : ∀ i : Fin 2, u.canq[i].length ≤ max 4 t.canq[i].length := by exact fun _ => le_max_right _ _

/-- `t` is reached from `s` by moves of a command: a field other than the mode written, one of the three modes entered, a
byte or a check-bit condition stored, fields or bytes reset, the retention SRAM restored from its shadow, or a queue moved
within its size. A side condition on a field is met by its number. -/
inductive Evolves (s : State) : State → Prop
  | refl : Evolves s s
  | put {t : State} (h : Evolves s t) {f : Fld} {v : Nat}
      (hf : f.id ≠ HIVE_MODE.MODE.id := by exact Fld.id_ne_mode rfl (by omega)) : Evolves s (t.put f v)
  | mode {t : State} (h : Evolves s t) {v : Nat} (hv : v ≤ 2) : Evolves s (t.put HIVE_MODE.MODE v)
  | setByte {t : State} (h : Evolves s t) {a : Nat} {b : BitVec 8} : Evolves s (t.setByte a b)
  | setRetByte {t : State} (h : Evolves s t) {a : Nat} {b : BitVec 8} : Evolves s (t.setRetByte a b)
  | setEcc {t : State} (h : Evolves s t) {w m : Nat} : Evolves s { t with ecc := Sparse.set 0 t.ecc w m }
  | keepKeys {t : State} (h : Evolves s t) {p : Nat → Bool} : Evolves s (t.keepKeys p)
  | clearMem {t : State} (h : Evolves s t) {lo hi : Nat} : Evolves s (t.clearMem lo hi)
  | restoreRet {t : State} (h : Evolves s t) {p : Nat → Bool} : Evolves s { t with
      ret := (t.mem.filter (fun c => 0x6F1000 ≤ c.1 && c.1 < 0x6F2000)).map (fun c => (c.1 - 0x6F1000, c.2)),
      ecc := Sparse.keep p t.ecc }
  | requeue {t u : State} (h : Evolves s t) (hu : Requeued t u) : Evolves s u

/-- A command completes, and its next state is reached by moves. -/
def Answers (s : State) (o : Out) : Prop := ∃ t, o = .next t ∧ Evolves s t

variable {s t u : State}

protected theorem Evolves.next (h : Evolves s t) : Answers s (.next t) := ⟨t, rfl, h⟩

/-- The state beside what else an operation answers. -/
protected theorem Evolves.fst {α : Type} {x : α} (h : Evolves s t) : Evolves s (t, x).1 := h

protected theorem Evolves.snd {α : Type} {x : α} (h : Evolves s t) : Evolves s (x, t).2 := h

protected theorem Evolves.ite {c : Prop} [Decidable c] (ht : Evolves s t) (hu : Evolves s u) : Evolves s
    (if c then t else u) := by
  split
  · exact ht
  · exact hu

protected theorem Evolves.ite_fst {α : Type} {c : Prop} [Decidable c] {a b : State × α} (ha : Evolves s a.1)
    (hb : Evolves s b.1) :
    Evolves s (if c then a else b).1 := by
  split
  · exact ha
  · exact hb

protected theorem Evolves.ite_snd {α : Type} {c : Prop} [Decidable c] {a b : α × State} (ha : Evolves s a.2)
    (hb : Evolves s b.2) :
    Evolves s (if c then a else b).2 := by
  split
  · exact ha
  · exact hb

protected theorem Evolves.on (h : Evolves s t) {b : Bool} {g : State → State} (hg : ∀ u, Evolves s u → Evolves s (g u)) :
    Evolves s (t.on b g) := by
  cases b
  · exact h
  · exact hg t h

/-- A fold over a list whose accumulator carries the state. -/
protected theorem Evolves.foldl {α β : Type} {st : β → State} {g : β → α → β}
    (hg : ∀ q x, Evolves s (st q) → Evolves s (st (g q x)))
    {l : List α} {q : β} (h : Evolves s (st q)) : Evolves s (st (l.foldl g q)) := by
  induction l generalizing q with
  | nil => exact h
  | cons x l ih => exact ih (hg q x h)

protected theorem Evolves.eachMem {α : Type} (h : Evolves s t) {l : List α} {g : State → α → State}
    (hg : ∀ u x, x ∈ l → Evolves s u → Evolves s (g u x)) : Evolves s (t.each l g) := by
  induction l generalizing t with
  | nil => exact h
  | cons x l ih => exact ih (hg t x (by simp) h) (fun u y hy => hg u y (by simp [hy]))

protected theorem Evolves.each {α : Type} (h : Evolves s t) {l : List α} {g : State → α → State}
    (hg : ∀ u x, Evolves s u → Evolves s (g u x)) : Evolves s (t.each l g) := h.eachMem fun u x _ => hg u x

/-! ### Fields and memories -/

section
variable {f : Fld} (h : Evolves s t)
include h

protected theorem Evolves.putB {b : Bool} (hf : f.id ≠ HIVE_MODE.MODE.id := by exact Fld.id_ne_mode rfl (by omega)) :
    Evolves s (t.putB f b) := h.put hf

protected theorem Evolves.putI {z : Int} (hf : f.id ≠ HIVE_MODE.MODE.id := by exact Fld.id_ne_mode rfl (by omega)) :
    Evolves s (t.putI f z) := h.put hf

protected theorem Evolves.putSat {v : Nat} (hf : f.id ≠ HIVE_MODE.MODE.id := by exact Fld.id_ne_mode rfl (by omega)) :
    Evolves s (t.putSat f v) := h.put hf

protected theorem Evolves.orF {m : Nat} (hf : f.id ≠ HIVE_MODE.MODE.id := by exact Fld.id_ne_mode rfl (by omega)) :
    Evolves s (t.orF f m) := h.put hf

protected theorem Evolves.clrF {m : Nat} (hf : f.id ≠ HIVE_MODE.MODE.id := by exact Fld.id_ne_mode rfl (by omega)) :
    Evolves s (t.clrF f m) := h.put hf

protected theorem Evolves.putBit {i : Nat} {b : Bool}
    (hf : f.id ≠ HIVE_MODE.MODE.id := by exact Fld.id_ne_mode rfl (by omega)) :
    Evolves s (t.putBit f i b) := .ite (h.orF hf) (h.clrF hf)

protected theorem Evolves.inc (hf : f.id ≠ HIVE_MODE.MODE.id := by exact Fld.id_ne_mode rfl (by omega)) :
    Evolves s (t.inc f) := h.put hf

protected theorem Evolves.wrapInc (hf : f.id ≠ HIVE_MODE.MODE.id := by exact Fld.id_ne_mode rfl (by omega)) :
    Evolves s (t.wrapInc f) := h.put hf

protected theorem Evolves.put64 {g : Fld} {v : Nat} (hf : f.id ≠ HIVE_MODE.MODE.id := by exact Fld.id_ne_mode rfl (by omega))
    (hg : g.id ≠ HIVE_MODE.MODE.id := by exact Fld.id_ne_mode rfl (by omega)) : Evolves s (t.put64 f g v) := (h.put hf).put hg

end

protected theorem Evolves.setLe (h : Evolves s t) {a v n : Nat} : Evolves s (t.setLe a v n) := by
  induction n generalizing t a v with
  | zero => exact h
  | succ n ih => exact ih h.setByte

protected theorem Evolves.eccStore (h : Evolves s t) {w : Nat} : Evolves s (t.eccStore w) :=
  .ite h.setEcc.put.orF h.setEcc

protected theorem Evolves.eccHalf (h : Evolves s t) {w i : Nat} : Evolves s (t.eccHalf w i) :=
  .ite h.eccStore (.ite h.eccStore h.setEcc)

protected theorem Evolves.setWord (h : Evolves s t) {a v : Nat} : Evolves s (t.setWord a v) := h.setLe.eccHalf

protected theorem Evolves.setDouble (h : Evolves s t) {a v : Nat} : Evolves s (t.setDouble a v) := h.setLe.eccStore

protected theorem Evolves.setRetWord (h : Evolves s t) {a v : Nat} : Evolves s (t.setRetWord a v) :=
  h.setRetByte.setRetByte.setRetByte.setRetByte.eccHalf

protected theorem Evolves.send (h : Evolves s t) {m : Sent} : Evolves s (t.send m) := h.requeue {}

protected theorem Evolves.fresh (h : Evolves s t) : Evolves s t.fresh.2 := h.wrapInc

/-! ### The queues -/

/-- A member of a vector written is no longer than the bound that the others keep. -/
theorem length_set_le {α : Type} {n k : Nat} {v : Vector (List α) n} {i : Fin n} {l : List α}
    (hl : l.length ≤ max k v[i].length)
    (j : Fin n) : (v.set i l)[j].length ≤ max k v[j].length := by
  obtain ⟨i, hi⟩ := i
  obtain ⟨j, hj⟩ := j
  simp only [Fin.getElem_fin] at hl ⊢
  rw [Vector.getElem_set]
  split
  · subst_vars
    exact hl
  · exact le_max_right _ _

section
variable (h : Evolves s t)
include h

protected theorem Evolves.slotsSet {p : Fin 16} {l : List Timing} (hl : l.length ≤ max 2 t.slots[p].length) :
    Evolves s { t with slots := t.slots.set p l } := h.requeue { slots := length_set_le hl }

protected theorem Evolves.windowSet {p : Fin 16} {l : List PlanEntry} (hl : l.length ≤ max 16 t.window[p].length) :
    Evolves s { t with window := t.window.set p l } := h.requeue { window := length_set_le hl }

protected theorem Evolves.antqSet {c : Fin 4} {l : List Queued} (hl : l.length ≤ max 16 t.antq[c].length) :
    Evolves s { t with antq := t.antq.set c l } := h.requeue { antq := length_set_le hl }

protected theorem Evolves.rxSet {c : Fin 4} {l : List (Nat × List (BitVec 8))} (hl : l.length ≤ max 2 t.rx[c].length) :
    Evolves s { t with rx := t.rx.set c l } := h.requeue { rx := length_set_le hl }

protected theorem Evolves.canqSet {n : Fin 2} {l : List CanWait} (hl : l.length ≤ max 4 t.canq[n].length) :
    Evolves s { t with canq := t.canq.set n l } := h.requeue { canq := length_set_le hl }

end

/-! ### The register map beside the mode (R9, R34) -/

/-- No field of the layout that a write may change is HIVE_MODE.MODE. -/
def Layout.SparesMode (l : Layout) : Prop := ∀ q ∈ l, q.2 = .ro ∨ q.1.id ≠ HIVE_MODE.MODE.id

/-- Every field of the layout stands above the register HIVE_MODE. -/
def Layout.HighKeys (l : Layout) : Prop := ∀ q ∈ l, 64 < q.1.key

@[simp] theorem Layout.highKeys_nil : Layout.HighKeys [] := by simp [Layout.HighKeys]

@[simp] theorem Layout.highKeys_cons {q : Fld × Ty} {l : Layout} :
    Layout.HighKeys (q :: l) ↔ 64 < q.1.key ∧ Layout.HighKeys l := by
  simp [Layout.HighKeys]

theorem Layout.HighKeys.ne_mode {l : Layout} (h : Layout.HighKeys l) {q : Fld × Ty} (hq : q ∈ l) :
    q.1.id ≠ HIVE_MODE.MODE.id := by
  have hk := h q hq
  simp only [Fld.id]
  omega

theorem Layout.HighKeys.sparesMode {l : Layout} (h : Layout.HighKeys l) : Layout.SparesMode l := fun _ hq => .inr
    (h.ne_mode hq)

theorem Layout.SparesMode.filter {l : Layout} (h : l.SparesMode) {g : Fld × Ty → Bool} : Layout.SparesMode (l.filter g) :=
  fun q hq => h q (List.mem_of_mem_filter hq)

theorem hiveLayout_sparesMode (off : Nat) : (hiveLayout off).SparesMode := by
  unfold hiveLayout
  split <;> simp [Layout.SparesMode, Fld.id]

theorem pageLayout_sparesMode (p off : Nat) : (pageLayout p off).SparesMode := by
  unfold pageLayout
  split <;> simp [Layout.SparesMode, Fld.id] <;> omega

theorem clkLayout_highKeys (off : Nat) : (clkLayout off).HighKeys := by
  unfold clkLayout
  split <;> simp

theorem pwrLayout_highKeys (off : Nat) : (pwrLayout off).HighKeys := by
  unfold pwrLayout
  split <;> simp

theorem hostLayout_highKeys (off : Nat) : (hostLayout off).HighKeys := by
  unfold hostLayout
  split <;> simp

theorem pinsLayout_highKeys (off : Nat) : (pinsLayout off).HighKeys := by
  unfold pinsLayout
  split <;> simp

theorem hksLayout_highKeys (off : Nat) : (hksLayout off).HighKeys := by
  unfold hksLayout
  repeat' split
  all_goals simp <;> omega

theorem mmtLayout_highKeys (off : Nat) : (mmtLayout off).HighKeys := by
  unfold mmtLayout
  repeat' split
  all_goals simp <;> omega

theorem tagLayout_highKeys (off : Nat) : (tagLayout off).HighKeys := by
  unfold tagLayout
  repeat' split
  all_goals simp <;> omega

theorem thmLayout_highKeys (off : Nat) : (thmLayout off).HighKeys := by
  unfold thmLayout
  repeat' split
  all_goals simp <;> omega

theorem intcLayout_highKeys (off : Nat) : (intcLayout off).HighKeys := by
  unfold intcLayout
  repeat' split
  all_goals simp <;> omega

theorem wdgLayout_highKeys (off : Nat) : (wdgLayout off).HighKeys := by
  unfold wdgLayout
  split <;> simp

theorem swLayout_highKeys (off : Nat) : (swLayout off).HighKeys := by
  unfold swLayout
  repeat' split
  all_goals simp <;> omega

theorem tblLayout_highKeys (off : Nat) : (tblLayout off).HighKeys := by
  unfold tblLayout
  split <;> simp

theorem maintLayout_highKeys (off : Nat) : (maintLayout off).HighKeys := by
  unfold maintLayout
  repeat' split
  all_goals simp <;> omega

theorem canLayout_highKeys (n off : Nat) : (canLayout n off).HighKeys := by
  unfold canLayout
  split <;> simp

theorem phLayout_highKeys (n off : Nat) : (phLayout n off).HighKeys := by
  unfold phLayout
  split <;> simp

theorem cmbLayout_highKeys (n off : Nat) : (cmbLayout n off).HighKeys := by
  unfold cmbLayout
  split <;> simp

theorem portLayout_highKeys (n off : Nat) : (portLayout n off).HighKeys := by
  unfold portLayout
  split <;> simp

theorem pdpLayout_highKeys (n off : Nat) : (pdpLayout n off).HighKeys := by
  unfold pdpLayout
  repeat' split
  all_goals simp <;> omega

theorem portpdLayout_highKeys (n off : Nat) : (portpdLayout n off).HighKeys := by
  unfold portpdLayout
  split <;> simp

theorem hkcLayout_highKeys (n off : Nat) : (hkcLayout n off).HighKeys := by
  unfold hkcLayout
  split <;> simp

theorem accLayout_highKeys (n off : Nat) : (accLayout n off).HighKeys := by
  unfold accLayout
  repeat' split
  all_goals simp <;> omega

theorem chgLayout_highKeys (n off : Nat) : (chgLayout n off).HighKeys := by
  unfold chgLayout
  split <;> simp

theorem memLayout_highKeys (n off : Nat) : (memLayout n off).HighKeys := by
  unfold memLayout
  split <;> simp

theorem portPageLayout_highKeys (n off : Nat) : (portPageLayout n off).HighKeys := by
  unfold portPageLayout
  split
  · split
    · exact portLayout_highKeys n off
    · exact portpdLayout_highKeys (n / 12) off
  · exact fun q hq => portLayout_highKeys n off q (List.mem_of_mem_filter hq)

/-- A plain write changes the mode in no register (R34). -/
theorem regLayout_sparesMode (p off : Nat) : (regLayout p off).SparesMode := by
  unfold regLayout
  split
  · exact Layout.highKeys_nil.sparesMode
  · split
    · exact pageLayout_sparesMode p off
    · split
      · exact hiveLayout_sparesMode off
      · exact (clkLayout_highKeys off).sparesMode
      · exact (pwrLayout_highKeys off).sparesMode
      · exact (hostLayout_highKeys off).sparesMode
      · exact (canLayout_highKeys _ off).sparesMode
      · exact (intcLayout_highKeys off).sparesMode
      · exact (wdgLayout_highKeys off).sparesMode
      · exact (pinsLayout_highKeys off).sparesMode
      · exact (cmbLayout_highKeys _ off).sparesMode
      · exact (phLayout_highKeys _ off).sparesMode
      · exact (portPageLayout_highKeys _ off).sparesMode
      · exact (pdpLayout_highKeys _ off).sparesMode
      · exact (hksLayout_highKeys off).sparesMode
      · exact (hkcLayout_highKeys _ off).sparesMode
      · exact (accLayout_highKeys _ off).sparesMode
      · exact (mmtLayout_highKeys off).sparesMode
      · exact (thmLayout_highKeys off).sparesMode
      · exact (chgLayout_highKeys _ off).sparesMode
      · exact (tblLayout_highKeys off).sparesMode
      · exact (swLayout_highKeys off).sparesMode
      · exact (memLayout_highKeys 0 off).sparesMode
      · exact (memLayout_highKeys 1 off).sparesMode
      · exact (tagLayout_highKeys off).sparesMode
      · exact (maintLayout_highKeys off).sparesMode
      · exact Layout.highKeys_nil.sparesMode

/-! ### Fields that a number chooses -/

theorem missField_ne_mode {p : Nat} : (missField p).id ≠ HIVE_MODE.MODE.id := by
  unfold missField
  split <;> exact Fld.id_ne_mode rfl (by omega)

theorem swUp_ne_mode {w : Nat} : (swUp w).id ≠ HIVE_MODE.MODE.id := by
  unfold swUp
  split <;> decide

theorem swLock_ne_mode {w : Nat} : (swLock w).id ≠ HIVE_MODE.MODE.id := by
  unfold swLock
  split <;> decide

theorem swPartner_ne_mode {w : Nat} : (swPartner w).id ≠ HIVE_MODE.MODE.id := by
  unfold swPartner
  split <;> decide

theorem swPeer_ne_mode {w : Nat} : (swPeer w).id ≠ HIVE_MODE.MODE.id := by
  unfold swPeer
  split <;> decide

theorem swDelay_ne_mode {w : Nat} : (swDelay w).id ≠ HIVE_MODE.MODE.id := by
  unfold swDelay
  split <;> decide

theorem refShown_ne_mode {w : Nat} : (refShown w).id ≠ HIVE_MODE.MODE.id := by
  unfold refShown
  split <;> decide

/-! ### Machine/Flags.lean -/

protected theorem Evolves.evt (h : Evolves s t) {p i : Nat} : Evolves s (t.evt p i) := h.orF

protected theorem Evolves.errUpdate (h : Evolves s t) {p : Nat} : Evolves s (errUpdate t p) :=
  .ite ((h.put.put.on fun _ h => h.put).evt) (.ite h.put.evt h)

protected theorem Evolves.logFault (h : Evolves s t) {p cause attr kind : Nat} :
    Evolves s (logFault t p cause attr kind) :=
  .ite (.ite h.setDouble.setDouble.wrapInc.put.evt h.setDouble.setDouble.wrapInc.put) h

protected theorem Evolves.quietUpdate (h : Evolves s t) {p n : Nat} : Evolves s (quietUpdate t p n) := h.putBit

protected theorem Evolves.recordRaise (h : Evolves s t) {c : Cause} : Evolves s (recordRaise t c) := by
  unfold recordRaise
  extract_lets n s1 s2 s3 s4 s5
  have h3 : Evolves s s3 := ((h.orF.on fun _ h => h.inc).evt).put.putBit.putBit.putBit
  have h4 : Evolves s s4 := .ite h3 h3.putBit.putBit
  exact (((h4.on fun _ h => h.putBit).quietUpdate).quietUpdate).logFault.errUpdate

protected theorem Evolves.causeEnds (h : Evolves s t) {p i : Nat} : Evolves s (causeEnds t p i) :=
  .ite h.putBit h.putBit.quietUpdate

protected theorem Evolves.recordAction (h : Evolves s t) {p n : Nat} : Evolves s (recordAction t p n) :=
  .ite h h.putBit.logFault

/-! ### Machine/Operands.lean -/

protected theorem Evolves.touch (h : Evolves s t) {a : Access} : Evolves s (touch t a) := h.on fun _ h => h.put

protected theorem Evolves.regOp (h : Evolves s t) {a : Access} {g : State → Bool → Res}
    (hg : ∀ u x1, Evolves s u → Evolves s (g u x1).1) :
    Evolves s (regOp t a g) := .ite ((hg _ _ h.touch).put) h

protected theorem Evolves.refusal (h : Evolves s t) {p code : Nat} : Evolves s (refusal t p code) := .ite h h.put.put

protected theorem Evolves.pageWrite (h : Evolves s t) {p : Nat} {g : State → Res}
    (hg : ∀ u, Evolves s u → Evolves s (g u).1) :
    Evolves s (pageWrite t p g).1 := .ite_fst h.refusal.fst (hg _ h)

protected theorem Evolves.storeField (h : Evolves s t) {w : Nat} {f : Fld} {ty : Ty}
    (hf : ty = .ro ∨ f.id ≠ HIVE_MODE.MODE.id) :
    Evolves s (storeField t w f ty) := by
  cases ty with
  | ro => exact h
  | wo => exact h
  | rw | krw | k => exact h.put (hf.resolve_left (by decide))
  | w1c => exact h.clrF (hf.resolve_left (by decide))

/-- A plain write of a register leaves the mode. -/
protected theorem Evolves.storeFields (h : Evolves s t) {w : Nat} {l : Layout}
    (hl : l.SparesMode := by exact regLayout_sparesMode _ _) : Evolves s (storeFields t w l) := by
  induction l generalizing t with
  | nil => exact h
  | cons q l ih => exact ih (h.storeField (hl q (by simp))) (fun x hx => hl x (by simp [hx]))

protected theorem Evolves.specialRes (h : Evolves s t) {k : Bool} {p off w : Nat} {exempt : Bool} {g : State → Nat → Res}
    (hg : ∀ u x1, Evolves s u → Evolves s (g u x1).1) :
    Evolves s (specialRes t k p off w exempt g).1 := ((hg _ _ h).refusal).fst

protected theorem Evolves.specialWrite (h : Evolves s t) {k : Bool} {p off w : Nat} {exempt : Bool} {g : State → Nat → State}
    (hg : ∀ u x1, Evolves s u → Evolves s (g u x1)) :
    Evolves s (specialWrite t k p off w exempt g).1 := h.specialRes fun _ _ h => (hg _ _ h).fst

protected theorem Evolves.plainWrite (h : Evolves s t) {k : Bool} {p off w : Nat} :
    Evolves s (plainWrite t k p off w).1 := h.specialWrite fun _ _ h => h.storeFields

protected theorem Evolves.ceiled (h : Evolves s t) {w : Nat} {setp ceil : Fld} {g : State → Nat → State}
    (hg : ∀ u x1, Evolves s u → Evolves s (g u x1)) :
    Evolves s (ceiled t w setp ceil g).1 := .ite_fst ((hg _ _ h).fst) ((hg _ _ h).fst)

/-! ### Machine/Plan.lean -/

protected theorem Evolves.coefRecompute (h : Evolves s t) {c : Nat} : Evolves s (coefRecompute t c) := by
  unfold coefRecompute
  split
  · exact h
  · exact (((h.each fun _ _ h => h.put.put.put).put).put).wrapInc

protected theorem Evolves.busTake (h : Evolves s t) {d x : Nat} {e : Int × Int} : Evolves s (busTake t d x e) :=
  h.putI.putI.putI

protected theorem Evolves.busCheckpoint (h : Evolves s t) {c : Fin 4} : Evolves s (busCheckpoint t c) :=
  h.each fun _ _ h => h.busTake.busTake.put

protected theorem Evolves.busRestore (h : Evolves s t) {c : Nat} : Evolves s (busRestore t c) :=
  h.each fun _ _ h => h.each fun _ _ h => h.putI

protected theorem Evolves.squashPlans (h : Evolves s t) {p : Fin 16} : Evolves s (squashPlans t p) :=
  (h.windowSet (le_max_of_le_right (List.length_filter_le _ _))).put.send

theorem length_repredict {p : Fin 16} {a : Nat} {prev : Timing} {start : Int} {l : List PlanEntry} :
    (repredict s p a prev start l).length = l.length := by
  induction l generalizing prev start with
  | nil => rfl
  | cons e l ih => rw [repredict, List.length_cons, List.length_cons, ih]

protected theorem Evolves.squashOne (h : Evolves s t) {p : Fin 16} : Evolves s (squashOne t p) := by
  unfold squashOne
  extract_lets u l
  split
  · exact h.squashPlans.windowSet (le_max_of_le_right length_repredict.le)
  · exact h.squashPlans

protected theorem Evolves.squashBus (h : Evolves s t) {c : Nat} : Evolves s (squashBus t c) :=
  h.on fun _ h => h.busRestore.busCheckpoint

protected theorem Evolves.squashCount (h : Evolves s t) {c : Nat} : Evolves s (squashCount t c) := h.inc.evt

protected theorem Evolves.squashList (h : Evolves s t) {c : Nat} {l : List (Fin 16)} : Evolves s (squashList t c l) :=
  (h.squashBus.each fun _ _ h => h.squashOne).squashCount

protected theorem Evolves.squashComb (h : Evolves s t) {c : Nat} : Evolves s (squashComb t c) := h.squashList

protected theorem Evolves.squashEvery (h : Evolves s t) {c : Nat} : Evolves s (squashEvery t c) := h.squashList

protected theorem Evolves.gangRelay (h : Evolves s t) {c : Nat} : Evolves s (gangRelay t c) := h.each fun _ _ h => h.send

protected theorem Evolves.setSquash (h : Evolves s t) {p : Fin 16} : Evolves s (setSquash t p) :=
  .ite h.squashComb.gangRelay h.squashList

protected theorem Evolves.missSquash (h : Evolves s t) {p : Fin 16} : Evolves s (missSquash t p) := h.setSquash.inc.putSat

protected theorem Evolves.missRecord (h : Evolves s t) {p : Fin 16} {idx cause : Nat} {dev : Int} :
    Evolves s (missRecord t p idx cause dev) := (h.inc missField_ne_mode).evt.put.put.put.putI

/-! ### Machine/Actions.lean -/

protected theorem Evolves.clearSlots (h : Evolves s t) {p : Fin 16} : Evolves s (clearSlots t p) :=
  (h.slotsSet (Nat.zero_le _)).put.put

protected theorem Evolves.underEnds (h : Evolves s t) {p : Nat} : Evolves s (underEnds t p) := h.put.put.causeEnds

protected theorem Evolves.clipEnds (h : Evolves s t) {p : Nat} : Evolves s (clipEnds t p) := h.put.put.causeEnds

protected theorem Evolves.limitEnds (h : Evolves s t) {p : Nat} : Evolves s (limitEnds t p) := h.put.put.causeEnds

protected theorem Evolves.runsEnd (h : Evolves s t) {p : Nat} : Evolves s (runsEnd t p) :=
  h.limitEnds.clipEnds.underEnds.put.put

protected theorem Evolves.planAnew (h : Evolves s t) {p : Nat} : Evolves s (planAnew t p) := h.put.put

protected theorem Evolves.holdLock (h : Evolves s t) {p : Fin 16} : Evolves s (holdLock t p) := by
  unfold holdLock
  split
  · exact h
  · exact h.put.put

protected theorem Evolves.phRest (h : Evolves s t) {p : Fin 16} : Evolves s (phRest t p) := .ite h.put.put h.put.runsEnd.put

protected theorem Evolves.phHold (h : Evolves s t) {p : Fin 16} {allOff under : Bool} :
    Evolves s (phHold t p allOff under) := by
  unfold phHold
  extract_lets form s0 s1 freed s2
  have h0 : Evolves s s0 := h.on fun _ h => h.put
  have h1 : Evolves s s1 := h0.on fun u h => by
    have hw : Evolves s { u with window := u.window.set p [] } := h.windowSet (Nat.zero_le _)
    have hc : Evolves s { u with window := u.window.set p [], coming := u.coming.set p none } := hw.requeue {}
    exact hc.put.put.put.planAnew
  split
  · exact h1
  · exact h1.phRest
  · have h2 : Evolves s s2 := ((h1.on fun _ h => h.holdLock).requeue {}).put.planAnew.evt
    exact .ite h2.put.put h2.phRest
  · exact .ite h1.phRest h1

protected theorem Evolves.sendRecord (h : Evolves s t) {c w : Nat} : Evolves s (sendRecord t c w) := h.send

protected theorem Evolves.portState (h : Evolves s t) {n st : Nat} : Evolves s (portState t n st) := .ite h h.put.evt

protected theorem Evolves.portPg (h : Evolves s t) {n : Nat} {on : Bool} : Evolves s (portPg t n on) :=
  .ite h.put h.put.putB.evt

protected theorem Evolves.portPullDown (h : Evolves s t) {n : Nat} : Evolves s (portPullDown t n) :=
  ((((h.on fun _ h => h.inc).on fun _ h => h.put).put).put).portPg

protected theorem Evolves.portCancel (h : Evolves s t) {n : Nat} : Evolves s (portCancel t n) := by
  unfold portCancel
  extract_lets st
  exact h.on fun _ h => h.sendRecord.put

protected theorem Evolves.portScale (h : Evolves s t) {n : Nat} : Evolves s (portScale t n) :=
  .ite (h.each fun _ _ h => h.putI) h

protected theorem Evolves.wakeFires (h : Evolves s t) {src : Nat} : Evolves s (wakeFires t src) := h.on fun _ h => h.orF

protected theorem Evolves.portTrip (h : Evolves s t) {n i : Nat} : Evolves s (portTrip t n i) := by
  unfold portTrip
  extract_lets s' s1 s2 s3 s4
  have h1 : Evolves s s1 := (h.on fun _ h => h.put).portScale.portCancel.portPullDown.portState
  exact (h1.evt.inc.on fun _ h => h.inc).put.put.put.put.put.put.on fun _ h => h.wakeFires

protected theorem Evolves.portOff (h : Evolves s t) {n : Nat} : Evolves s (portOff t n) :=
  .ite h.portCancel.portPullDown h.portCancel.portPullDown.portState

protected theorem Evolves.onWindow (h : Evolves s t) {p : Fin 16} {g : List PlanEntry → List PlanEntry}
    (hg : (g t.window[p]).length ≤ max 16 t.window[p].length) : Evolves s (onWindow t p g) := h.windowSet hg

/-- Entries that leave a window. -/
protected theorem Evolves.filterWindow (h : Evolves s t) {p : Fin 16} {g : PlanEntry → Bool} :
    Evolves s (onWindow t p (fun l => l.filter g)) := h.onWindow (le_max_of_le_right (List.length_filter_le _ _))

protected theorem Evolves.phStop (h : Evolves s t) {p : Fin 16} {allOff : Bool} : Evolves s (phStop t p allOff) :=
  (h.on fun _ h => h.setSquash).phHold

protected theorem Evolves.combSquash (h : Evolves s t) {c : Nat} : Evolves s (combSquash t c) :=
  h.on fun _ h => h.squashEvery.gangRelay

protected theorem Evolves.leavePlan (h : Evolves s t) {p : Fin 16} {before : Bool} : Evolves s (leavePlan t p before) :=
  h.on fun _ h => h.filterWindow

protected theorem Evolves.rejoinPlan (h : Evolves s t) {p : Fin 16} : Evolves s (rejoinPlan t p) := h.filterWindow

protected theorem Evolves.combStop (h : Evolves s t) {c : Nat} : Evolves s (combStop t c) :=
  h.combSquash.each fun _ _ h => h.phHold

protected theorem Evolves.dropRecords (h : Evolves s t) {c : Nat} : Evolves s (dropRecords t c) :=
  h.each fun _ _ h => h.antqSet (le_max_of_le_right (List.length_filter_le _ _))

protected theorem Evolves.detachMiss (h : Evolves s t) {c : Fin 4} : Evolves s (detachMiss t c) :=
  .ite h.dropRecords.filterWindow.missRecord.missSquash h.dropRecords

protected theorem Evolves.pdSwitch (h : Evolves s t) {c st : Nat} : Evolves s (pdSwitch t c st) :=
  .ite h.put (.ite h.putB h.putB.put.evt)

protected theorem Evolves.disReview (h : Evolves s t) {c : Nat} : Evolves s (disReview t c) := h.on fun _ h => h.putB

protected theorem Evolves.refRamp (h : Evolves s t) {c goal : Nat} : Evolves s (refRamp t c goal) := h.put.put

protected theorem Evolves.refAt (h : Evolves s t) {c v : Nat} : Evolves s (refAt t c v) := h.put.put

protected theorem Evolves.pdCancelTransition (h : Evolves s t) {c : Nat} : Evolves s (pdCancelTransition t c) :=
  ((((h.on fun _ h => h.sendRecord).put).put).put).put

protected theorem Evolves.pdSegment (h : Evolves s t) {c start : Nat} : Evolves s (pdSegment t c start) :=
  h.sendRecord.put.putI

protected theorem Evolves.pdAnnounce (h : Evolves s t) {c start : Nat} : Evolves s (pdAnnounce t c start) :=
  h.put.putI.put.putI.pdSegment

protected theorem Evolves.pdOpen (h : Evolves s t) {c : Nat} : Evolves s (pdOpen t c) :=
  .ite h.put.put (h.pdSwitch.on fun _ h => h.put)

protected theorem Evolves.pdSwitchBack (h : Evolves s t) {c : Nat} : Evolves s (pdSwitchBack t c) :=
  .ite h.put (.ite h.put.pdOpen h.put.pdSwitch)

protected theorem Evolves.pdQuiet (h : Evolves s t) {c : Nat} : Evolves s (pdQuiet t c) :=
  h.pdCancelTransition.put.refAt.put.put.put.put.put.put.put

protected theorem Evolves.pdErrorRecovery (h : Evolves s t) {c : Nat} : Evolves s (pdErrorRecovery t c) :=
  h.pdOpen.pdQuiet.put.put.put.put.put.put

protected theorem Evolves.pdDisable (h : Evolves s t) {c : Nat} : Evolves s (pdDisable t c) :=
  h.pdOpen.pdQuiet.put.put.put.put

protected theorem Evolves.pdUnattached (h : Evolves s t) {c : Nat} : Evolves s (pdUnattached t c) := h.put.putB.putB.put.put

protected theorem Evolves.pdStartAgain (h : Evolves s t) {c : Nat} : Evolves s (pdStartAgain t c) :=
  h.on fun _ h => h.pdUnattached

protected theorem Evolves.pdSinkOnly (h : Evolves s t) {c : Nat} : Evolves s (pdSinkOnly t c) := by
  unfold pdSinkOnly
  extract_lets s1 cc
  have h1 : Evolves s s1 := h.put.put.put
  exact .ite h1.pdUnattached (.ite h1.pdQuiet.pdUnattached (.ite h1.put.put h1))

protected theorem Evolves.pdClose (h : Evolves s t) {c : Nat} : Evolves s (pdClose t c) := .ite h h.pdSwitch

protected theorem Evolves.noteRaise (h : Evolves s t) {c : Cause} : Evolves s (noteRaise t c) :=
  h.recordRaise.on fun _ h => h.recordAction

protected theorem Evolves.pdCount (h : Evolves s t) {c : Nat} : Evolves s (pdCount t c) := h.put.put.put.inc.evt.put

protected theorem Evolves.pdLatch (h : Evolves s t) {c : Nat} : Evolves s (pdLatch t c) := h.pdDisable.pdSwitch.put.noteRaise

protected theorem Evolves.pdProtect (h : Evolves s t) {c : Fin 4} {i : Nat} : Evolves s (pdProtect t c i) :=
  .ite h.detachMiss.put.pdCount.evt.pdLatch h.detachMiss.put.pdCount.evt.pdErrorRecovery

protected theorem Evolves.setLane (h : Evolves s t) {m k : Nat} : Evolves s (setLane t m k) := h.put

protected theorem Evolves.convRole (h : Evolves s t) {k r : Nat} : Evolves s (convRole t k r) := .ite h h.put.evt

protected theorem Evolves.calBreak (h : Evolves s t) {k : Nat} : Evolves s (calBreak t k) :=
  h.on fun _ h => h.put.put.put.put.put

protected theorem Evolves.convWithdraw (h : Evolves s t) {k : Nat} : Evolves s (convWithdraw t k) := by
  unfold convWithdraw
  extract_lets sp s1 s2
  have h2 : Evolves s s2 := h.calBreak.convRole.on fun _ h => h.put
  split
  · exact h2
  · exact .ite h2.setLane.put.convRole h2.setLane.noteRaise

protected theorem Evolves.builtinReview (h : Evolves s t) : Evolves s (builtinReview t) := h.on fun _ h => h.put

protected theorem Evolves.chgOpen (h : Evolves s t) {n : Nat} : Evolves s (chgOpen t n) := h.put.portOff

protected theorem Evolves.impUnclaim (h : Evolves s t) {n : Nat} : Evolves s (impUnclaim t n) :=
  h.each fun _ _ h => h.on fun _ h => h.put.put.put

protected theorem Evolves.impDisturb (h : Evolves s t) {c : Nat} : Evolves s (impDisturb t c) :=
  h.each fun _ _ h => .ite h.impUnclaim.put.put.put.put h.impUnclaim.put.put

/-! ### Machine/Engine.lean -/

protected theorem Evolves.impStop (h : Evolves s t) {n : Nat} : Evolves s (impStop t n) :=
  h.impUnclaim.put.put.put.put.put.put.put.put

protected theorem Evolves.pointsClear (h : Evolves s t) {n : Nat} : Evolves s (pointsClear t n) :=
  h.each fun _ _ h => h.put.put.put.put

protected theorem Evolves.rearm (h : Evolves s t) {n : Nat} : Evolves s (rearm t n) := by
  unfold rearm
  extract_lets s1
  have h1 : Evolves s s1 := h.put.put.evt
  split
  · exact h1.each fun _ _ h => h.put
  · exact h1

protected theorem Evolves.impAbort (h : Evolves s t) {n : Nat} : Evolves s (impAbort t n) :=
  .ite h ((h.impStop.put.inc.orF.on fun _ h => h.pointsClear.put).on fun _ h => h.rearm)

protected theorem Evolves.impState (h : Evolves s t) {n : Nat} : Evolves s (impState t n) := .ite h.impStop.put.inc h.impAbort

protected theorem Evolves.impLimited (h : Evolves s t) {n : Nat} : Evolves s (impLimited t n) := .ite h h.impStop.put.put.put

protected theorem Evolves.showState (h : Evolves s t) {n a st : Nat} : Evolves s (showState t n a st) :=
  h.each fun _ _ h => h.put.put.put.put

protected theorem Evolves.lastPut (h : Evolves s t) {n cause ex next : Nat} :
    Evolves s (lastPut t n cause ex next) := h.put.put.put.put

protected theorem Evolves.zeroState (h : Evolves s t) {n : Nat} : Evolves s (zeroState t n) :=
  (h.put.put.put.put.put.put.each fun _ _ h => h.put).put

protected theorem Evolves.stateEnter (h : Evolves s t) {n a st cause ex : Nat} :
    Evolves s (stateEnter t n a st cause ex) := h.impState.lastPut.showState.zeroState.put.put.evt.on fun _ h => h.rearm

protected theorem Evolves.timeoutEnter (h : Evolves s t) {n : Nat} : Evolves s (timeoutEnter t n) := by
  unfold timeoutEnter
  split
  · exact .ite h.stateEnter h
  · exact h

protected theorem Evolves.chgZero (h : Evolves s t) {n : Nat} : Evolves s (chgZero t n) := by
  unfold chgZero
  extract_lets l s1
  have h1 : Evolves s s1 := h.put
  split
  · exact h1.on fun _ h => h.rearm
  · exact h1

protected theorem Evolves.stringOpen (h : Evolves s t) {n : Nat} : Evolves s (stringOpen t n) := h.each fun _ _ h => h.chgOpen

/-! ### Machine/Zones.lean -/

protected theorem Evolves.zoneEvt (h : Evolves s t) {z i : Nat} : Evolves s (zoneEvt t z i) := h.orF

protected theorem Evolves.zoneReview (h : Evolves s t) {z : Nat} : Evolves s (zoneReview t z) :=
  .ite h.put.putB.putB.zoneEvt (.ite h.put.putB.putB.zoneEvt h.put.putB.putB)

protected theorem Evolves.dieAction (h : Evolves s t) : Evolves s (dieAction t) :=
  (h.each fun _ _ h => h.phStop).each fun _ _ h => .ite h.pdDisable h.portOff

/-! ### Machine/Faults.lean -/

protected theorem Evolves.actionEffect (h : Evolves s t) {p n i : Nat} {esc : Bool} :
    Evolves s (actionEffect t p n i esc) := by
  unfold actionEffect
  split
  · exact .ite h.combStop h
  · exact .ite ((h.on fun _ h => h.put).phStop) (.ite h.putBit.evt h)
  · extract_lets port c
    split
    · exact .ite h.putBit (.ite (.ite h.pdProtect h.pdDisable) (.ite h.pdErrorRecovery h))
    · split
      · split
        · exact h.putBit
        · split
          · exact h.put.portOff
          · exact .ite ((h.on fun _ h => h.put).portOff) (.ite h.portPullDown h.portTrip)
      · exact .ite (.ite h h.portCancel.portState) h
  · exact .ite ((h.on fun _ h => h.put).pdDisable) (.ite (.ite h.pdSinkOnly h.pdErrorRecovery) h)
  · exact .ite (h.on fun _ h => h.put.put.evt) (.ite (h.each fun _ _ h => h.combStop) h)
  · exact .ite h.convWithdraw h
  · exact .ite (h.each fun _ _ h => h.zoneReview) (.ite h.dieAction h)
  · exact .ite h.chgZero (.ite h.chgZero.stringOpen (.ite h.timeoutEnter (.ite h.put.chgZero h)))
  · exact h

protected theorem Evolves.takeAction (h : Evolves s t) {p n : Nat} : Evolves s (takeAction t p n) := by
  unfold takeAction
  extract_lets s1
  have h1 : Evolves s s1 := h.recordAction
  exact h1.on fun _ h => h.leavePlan

protected theorem Evolves.raiseFault (h : Evolves s t) {c : Cause} : Evolves s (raiseFault t c) :=
  .ite h (.ite h.recordRaise.takeAction.actionEffect h.recordRaise)

protected theorem Evolves.raiseEvent (h : Evolves s t) {p i : Nat} : Evolves s (raiseEvent t p i) := h.raiseFault

protected theorem Evolves.raiseHeld (h : Evolves s t) {p i : Nat} : Evolves s (raiseHeld t p i) := h.raiseFault

protected theorem Evolves.applyClass (h : Evolves s t) {p n : Nat} : Evolves s (applyClass t p n) :=
  h.takeAction.each fun _ _ h => h.actionEffect

protected theorem Evolves.withdrawEffect (h : Evolves s t) {p n : Nat} {acted : Bool} :
    Evolves s (withdrawEffect t p n acted) := by
  unfold withdrawEffect
  split
  · exact (h.on fun _ h => h.put).on fun _ h => h.rejoinPlan
  · exact .ite ((h.on fun _ h => h.pdStartAgain).on fun _ h => h.pdClose) (h.on fun _ h => h.put)
  · exact (h.on fun _ h => h.put.on fun _ h => h.pdUnattached).on fun _ h => h.put.pdStartAgain
  · exact h.on fun _ h => h.builtinReview
  · exact h.on fun _ h => h.each fun _ _ h => h.zoneReview
  · exact h

protected theorem Evolves.clearClass (h : Evolves s t) {p n : Nat} : Evolves s (clearClass t p n) := by
  unfold clearClass
  extract_lets gone s1 b s2 s3 s4
  have h1 : Evolves s s1 := h.each fun _ _ h => h.put.putBit.clrF
  exact h1.putBit.putBit.putBit.putBit.putBit.putBit.inc.withdrawEffect.logFault.errUpdate

protected theorem Evolves.ackClass (h : Evolves s t) {p n : Nat} : Evolves s (ackClass t p n) :=
  .ite h.putBit.putBit.putBit.logFault h

protected theorem Evolves.dutyReview (h : Evolves s t) {c : Nat} : Evolves s (dutyReview t c) := .ite h.raiseHeld h.causeEnds

protected theorem Evolves.faultAckWrite (h : Evolves s t) {k : Bool} {p w : Nat} :
    Evolves s (faultAckWrite t k p w).1 := h.specialWrite fun _ _ h => h.each fun _ _ h => h.ackClass

protected theorem Evolves.execFaultAck (h : Evolves s t) {a : Access} {page : BitVec 8} {w : BitVec 32} :
    Answers s (execFaultAck a page w t) := (h.regOp fun _ _ h => h.pageWrite fun _ h => h.faultAckWrite).next

protected theorem Evolves.timerExpires (h : Evolves s t) {p n : Nat} : Evolves s (timerExpires t p n) :=
  .ite h.putBit.applyClass h

protected theorem Evolves.execReactionTimer (h : Evolves s t) {page : BitVec 8} {cls : Fin 4} :
    Answers s (execReactionTimer page cls t) := h.timerExpires.next

protected theorem Evolves.quietEnds (h : Evolves s t) {p n : Nat} : Evolves s (quietEnds t p n) := .ite h.clearClass h

protected theorem Evolves.execLampOc (h : Evolves s t) {m : Fin 8} : Answers s (execLampOc m t) :=
  h.put.orF.evt.raiseEvent.next

protected theorem Evolves.execLampOcReleaseEnd (h : Evolves s t) {m : Fin 8} : Answers s (execLampOcReleaseEnd m t) :=
  h.put.next

/-! ### Machine/Tags.lean -/

protected theorem Evolves.tagBurst (h : Evolves s t) : Evolves s (tagBurst t) := h.inc.on fun _ h => h.raiseEvent

protected theorem Evolves.tagError (h : Evolves s t) {page tag : Nat} : Evolves s (tagError t page tag) :=
  (h.put.put.inc.on fun _ h => h.inc.evt).tagBurst

protected theorem Evolves.tagCheck (h : Evolves s t) {page : Nat} {v : Int} {tag : BitVec 16} :
    Evolves s (tagCheck t page v tag).2 :=
  .ite_snd h.snd (.ite_snd ((h.on fun _ h => h.put.evt).snd) (((h.on fun _ h => h.put.evt).tagError).snd))

protected theorem Evolves.onTagged (h : Evolves s t) {page : Nat} {x : Tagged} {g : State → State}
    (hg : ∀ u, Evolves s u → Evolves s (g u)) : Evolves s (onTagged t page x g) := by
  have ht := h.tagCheck (page := page) (v := x.val) (tag := x.tag)
  unfold onTagged
  split
  all_goals rename_i heq; rw [heq] at ht
  · exact hg _ ht
  · exact ht

protected theorem Evolves.shadowMend (h : Evolves s t) {w : Nat} : Evolves s (shadowMend t w) := h.on fun _ h => h.setDouble

protected theorem Evolves.eccRead (h : Evolves s t) {w : Nat} : Evolves s (eccRead t w) := by
  obtain ⟨⟨n, ret, a⟩, hw⟩ : ∃ x, eccAddr w = x := ⟨_, rfl⟩
  unfold eccRead
  rw [hw]
  dsimp only
  split
  · exact h
  · exact h.inc.put.put.evt.on fun _ h => h.setEcc
  · exact h.setEcc.inc.put.put.evt.raiseEvent.shadowMend

protected theorem Evolves.blockRead (h : Evolves s t) {a len : Nat} : Evolves s (blockRead t a len) :=
  h.each fun _ _ h => h.eccRead

/-! ### Machine/Tables.lean -/

protected theorem Evolves.maintEnd (h : Evolves s t) {result : Nat} : Evolves s (maintEnd t result) :=
  h.put.put.put.put.put.evt

protected theorem Evolves.restoreFails (h : Evolves s t) : Evolves s (restoreFails t) := h.maintEnd.raiseEvent

protected theorem Evolves.convMark (h : Evolves s t) {x : Nat} {out : Bool} : Evolves s (convMark t x out) := h.putBit.evt

protected theorem Evolves.fetLoad (h : Evolves s t) {n : Nat} : Evolves s (fetLoad t n) := by
  unfold fetLoad
  split
  · exact ((h.each fun _ _ h => h.put).put).causeEnds
  · exact h.put.raiseHeld

protected theorem Evolves.fetStep (h : Evolves s t) {n : Nat} : Evolves s (fetStep t n) :=
  .ite ((((h.each fun _ _ h => h.putI).put).putB).putI) ((((h.each fun _ _ h => h.putI).put).putB).putI)

/-! ### Machine/Ports.lean -/

protected theorem Evolves.sendMain (h : Evolves s t) {n start : Nat} : Evolves s (sendMain t n start) :=
  h.sendRecord.put

protected theorem Evolves.schedule (h : Evolves s t) {n : Nat} : Evolves s (schedule t n) :=
  .ite h.sendRecord.put.sendMain h.put.sendMain

protected theorem Evolves.startPre (h : Evolves s t) {n : Nat} : Evolves s (startPre t n) := h.put.put.put.portState

protected theorem Evolves.startEnhance (h : Evolves s t) {n : Nat} : Evolves s (startEnhance t n) :=
  h.put.put.put.put.portState

protected theorem Evolves.feederReview (h : Evolves s t) {n : Nat} : Evolves s (feederReview t n) := by
  unfold feederReview
  split
  · exact .ite (.ite (h.portState.schedule.on fun _ h => h.portState) h.portState) h
  · exact .ite ((Evolves.ite h h.schedule).on fun _ h => h.portState) h.portCancel
  · exact .ite h h.portCancel.portState
  · exact .ite h h.portCancel.portState
  · exact h

protected theorem Evolves.pairReview (h : Evolves s t) {n : Nat} : Evolves s (pairReview t n) := by
  unfold pairReview
  split
  · exact .ite (.ite (.ite h.portState.startPre h.portState.startEnhance) h.portState) h
  · exact .ite (.ite h.startPre h.startEnhance) h.portOff
  · exact .ite h h.portOff
  · exact h

protected theorem Evolves.portReview (h : Evolves s t) {n : Nat} : Evolves s (portReview t n) := by
  unfold portReview
  split
  · exact h
  · split
    · exact h.feederReview
    · exact h
    · exact h.pairReview

protected theorem Evolves.insRestart (h : Evolves s t) {n : Nat} : Evolves s (insRestart t n) := .ite h.put.put h

protected theorem Evolves.feederTurnOff (h : Evolves s t) {n : Nat} : Evolves s (feederTurnOff t n) :=
  .ite h.sendRecord.put.portPg.portState (.ite h h.portOff)

protected theorem Evolves.portTurnOff (h : Evolves s t) {n : Nat} : Evolves s (portTurnOff t n) :=
  .ite h.feederTurnOff h.portOff

protected theorem Evolves.latchEnd (h : Evolves s t) {n : Nat} : Evolves s (latchEnd t n) :=
  .ite h.put.insRestart.portState.portReview h

protected theorem Evolves.enableSeen (h : Evolves s t) {n : Nat} : Evolves s (enableSeen t n) :=
  .ite (.ite (.ite h.put.put.put h.put.put.put.latchEnd) h.put) h.put.insRestart.portReview

protected theorem Evolves.disableSeen (h : Evolves s t) {n : Nat} : Evolves s (disableSeen t n) := .ite h.put h.portTurnOff

protected theorem Evolves.storeKind (h : Evolves s t) {w : Nat} {l : Layout} {krw : Bool}
    (hl : l.SparesMode := by exact regLayout_sparesMode _ _) : Evolves s (storeKind t w l krw) := by
  induction l generalizing t with
  | nil => exact h
  | cons q l ih => exact ih (.ite (h.storeField (hl q (by simp))) h) (fun x hx => hl x (by simp [hx]))

protected theorem Evolves.portRegWrite (h : Evolves s t) {k : Bool} {p off w : Nat} :
    Evolves s (portRegWrite t k p off w) := by
  unfold portRegWrite
  extract_lets l n s1
  have h1 : Evolves s s1 := h.storeKind
  split
  · exact .ite (h1.requeue {}) h.storeFields
  · exact h

protected theorem Evolves.enChanged (h : Evolves s t) {n : Nat} {was : Bool} : Evolves s (enChanged t n was) :=
  .ite h (.ite h.put (.ite h.disableSeen h.enableSeen))

protected theorem Evolves.portCtlWrite (h : Evolves s t) {k : Bool} {n w : Nat} :
    Evolves s (portCtlWrite t k n w).1 := h.specialWrite fun _ _ h => .ite h.portRegWrite h.portRegWrite.enChanged

protected theorem Evolves.execPortEnable (h : Evolves s t) {a : Access} {n : Fin 48} {w : BitVec 32} :
    Answers s (execPortEnable a n w t) := (h.regOp fun _ _ h => h.portCtlWrite).next

protected theorem Evolves.execCommandedTurnOff (h : Evolves s t) {a : Access} {n : Fin 48} {w : BitVec 32} :
    Answers s (execCommandedTurnOff a n w t) := (h.regOp fun _ _ h => h.portCtlWrite).next

protected theorem Evolves.modelKeep (h : Evolves s t) {n : Nat} : Evolves s (modelKeep t n) :=
  .ite (h.fetLoad.each fun _ _ h => h.putI) h.fetLoad

protected theorem Evolves.portTmWrite (h : Evolves s t) {k : Bool} {n w : Nat} : Evolves s (portTmWrite t k n w).1 :=
  h.specialWrite fun _ _ h => h.portRegWrite.on fun _ h => h.fetLoad.portReview

protected theorem Evolves.portResume (h : Evolves s t) {n : Nat} : Evolves s (portResume t n) := by
  unfold portResume
  split
  · exact h
  · extract_lets s1 s2 s3
    have h1 : Evolves s s1 := h.put
    have h2 : Evolves s s2 := by
      unfold s2
      split
      · exact h1.disableSeen
      · exact h1.enableSeen
      · exact h1
    exact (h2.on fun _ h => h.portOff).portReview

protected theorem Evolves.setWindow (h : Evolves s t) {n : Nat} {inside : Bool} : Evolves s (setWindow t n inside) :=
  .ite h h.putB.evt

protected theorem Evolves.sourceOutside (h : Evolves s t) {n : Nat} : Evolves s (sourceOutside t n) := by
  unfold sourceOutside
  extract_lets c on s1
  have h1 : Evolves s s1 := h.setWindow.clrF
  exact h1.on fun _ h => h.sendRecord.portOff

protected theorem Evolves.execWindowOutside (h : Evolves s t) {n : Fin 48} : Answers s (execWindowOutside n t) :=
  (Evolves.ite h (.ite h.sourceOutside h.setWindow.portReview)).next

protected theorem Evolves.execWindowInside (h : Evolves s t) {n : Fin 48} : Answers s (execWindowInside n t) :=
  (Evolves.ite h h.setWindow.put.causeEnds.portReview).next

protected theorem Evolves.execOvp (h : Evolves s t) {n : Fin 48} : Answers s (execOvp n t) :=
  (Evolves.ite h (((h.on fun _ h => h.sourceOutside).put).raiseHeld)).next

protected theorem Evolves.presChange (h : Evolves s t) {n : Nat} {on : Bool} : Evolves s (presChange t n on) :=
  h.putB.inc.evt.wakeFires

protected theorem Evolves.execPresenceAsserted (h : Evolves s t) {n : Fin 48} : Answers s (execPresenceAsserted n t) :=
  (Evolves.ite h (h.presChange.on fun _ h => h.insRestart.portReview)).next

protected theorem Evolves.feederPulled (h : Evolves s t) {n : Nat} : Evolves s (feederPulled t n) :=
  .ite (h.on fun _ h => h.sendRecord) ((((h.on fun _ h => h.sendRecord).portCancel).portPullDown).portState)

protected theorem Evolves.execPresenceDeasserted (h : Evolves s t) {n : Fin 48} :
    Answers s (execPresenceDeasserted n t) := by
  unfold execPresenceDeasserted
  refine Evolves.next ?_
  split
  · exact h
  · extract_lets s1
    have h1 : Evolves s s1 := h.presChange
    split
    · exact h1
    · split
      · exact h1.sourceOutside
      · exact .ite h1 h1.feederPulled
      · exact h1

protected theorem Evolves.execInsDlyExpiry (h : Evolves s t) {n : Fin 48} : Answers s (execInsDlyExpiry n t) :=
  (Evolves.ite h h.put.portReview).next

protected theorem Evolves.execPrechargeStart (h : Evolves s t) {n : Fin 48} : Answers s (execPrechargeStart n t) :=
  (Evolves.ite h.startPre h).next

protected theorem Evolves.enhanceStart (h : Evolves s t) {n : Nat} : Evolves s (enhanceStart t n) :=
  .ite h.startEnhance (.ite (.ite h.startEnhance h.portCancel.put) h)

protected theorem Evolves.execEnhancementStart (h : Evolves s t) {n : Fin 48} : Answers s (execEnhancementStart n t) :=
  (Evolves.ite h.enhanceStart h).next

protected theorem Evolves.preEnd (h : Evolves s t) {n : Nat} : Evolves s (preEnd t n) :=
  .ite h (.ite (h.put.on fun _ h => h.startEnhance) (h.put.on fun _ h => h.put.sendMain))

protected theorem Evolves.execPrechargeEnd (h : Evolves s t) {n : Fin 48} : Answers s (execPrechargeEnd n t) :=
  (Evolves.ite h.preEnd h).next

protected theorem Evolves.execPcgFail (h : Evolves s t) {n : Fin 48} : Answers s (execPcgFail n t) :=
  (Evolves.ite h.raiseEvent h).next

protected theorem Evolves.fullGate (h : Evolves s t) {n : Nat} : Evolves s (fullGate t n) :=
  (h.put.put.inc.on fun _ h => h.put).portState

protected theorem Evolves.execFullEnhancement (h : Evolves s t) {n : Fin 48} : Answers s (execFullEnhancement n t) :=
  (Evolves.ite (.ite h.inc.pdSwitch h) (.ite h.fullGate h)).next

protected theorem Evolves.execGateRise (h : Evolves s t) {n : Fin 48} : Answers s (execGateRise n t) :=
  (Evolves.ite h.raiseEvent h).next

protected theorem Evolves.execPgAssert (h : Evolves s t) {n : Fin 48} : Answers s (execPgAssert n t) :=
  (Evolves.ite h.portPg h).next

protected theorem Evolves.execPullDownStart (h : Evolves s t) {n : Fin 48} : Answers s (execPullDownStart n t) :=
  (Evolves.ite h.portPullDown.portState.portReview h).next

protected theorem Evolves.execGateFall (h : Evolves s t) {n : Fin 48} : Answers s (execGateFall n t) :=
  (Evolves.ite h (.ite h.put.put.put.put.put.put.put.portReview.raiseEvent h.put.raiseEvent)).next

protected theorem Evolves.execLimit (h : Evolves s t) {n : Fin 48} : Answers s (execLimit n t) :=
  (Evolves.ite ((h.put.putB.evt.portPg.inc.portState.on fun _ h => h.inc).put) h).next

protected theorem Evolves.execLimitRelease (h : Evolves s t) {n : Fin 48} : Answers s (execLimitRelease n t) :=
  (Evolves.ite h (.ite (.ite h.put.put.portState h.fullGate.put) (.ite h.fullGate h))).next

protected theorem Evolves.execOcTrip (h : Evolves s t) {n : Fin 48} : Answers s (execOcTrip n t) :=
  (Evolves.ite h.raiseEvent h).next

protected theorem Evolves.execShort (h : Evolves s t) {n : Fin 48} : Answers s (execShort n t) :=
  (Evolves.ite h (.ite h.put h.raiseEvent)).next

protected theorem Evolves.execRetryDone (h : Evolves s t) {n : Fin 48} : Answers s (execRetryDone n t) :=
  (Evolves.ite (.ite h.put.put.evt.latchEnd h.put.put.evt) h).next

protected theorem Evolves.execModelInputStale (h : Evolves s t) {n : Fin 48} {which : Fin 4} :
    Answers s (execModelInputStale n which t) := (Evolves.ite h.put h).next

protected theorem Evolves.execRevHold (h : Evolves s t) {n : Fin 48} : Answers s (execRevHold n t) :=
  (Evolves.ite ((((h.put.on fun _ h => h.inc).on fun _ h => h.put).portState).evt) h).next

protected theorem Evolves.execReverse (h : Evolves s t) {n : Fin 48} : Answers s (execReverse n t) :=
  (Evolves.ite h.put.portPullDown.portState.raiseEvent h).next

/-! ### Machine/Pd.lean -/

protected theorem Evolves.pdRequest (h : Evolves s t) {c : Nat} : Evolves s (pdRequest t c) := .ite h h.put.dutyReview

protected theorem Evolves.dutyEntry (h : Evolves s t) {c : Fin 4} : Evolves s (dutyEntry t c) := by
  unfold dutyEntry
  split
  · extract_lets s1 frs hr s2
    have h2 : Evolves s s2 := h.put.put.evt.on fun _ h => .ite h.refAt h.refRamp
    exact .ite h2.pdClose h2
  · exact h

protected theorem Evolves.execDutyEntry (h : Evolves s t) {c : Fin 4} : Answers s (execDutyEntry c t) := h.dutyEntry.next

protected theorem Evolves.pdWantsDuty (h : Evolves s t) {c ref : Nat} : Evolves s (pdWantsDuty t c ref) :=
  .ite ((Evolves.ite h.refAt h.refRamp).on fun _ h => h.pdClose) h.pdRequest

protected theorem Evolves.frsReview (h : Evolves s t) {c : Nat} : Evolves s (frsReview t c) := h.on fun _ h => h.pdWantsDuty

protected theorem Evolves.pdRelease (h : Evolves s t) {c : Nat} : Evolves s (pdRelease t c) := .ite h.put.evt h

protected theorem Evolves.execPdRelease (h : Evolves s t) {c : Fin 4} : Answers s (execPdRelease c t) := h.pdRelease.next

protected theorem Evolves.pdVconn (h : Evolves s t) {c : Nat} {swap : Bool} : Evolves s (pdVconn t c swap) := h.putB

protected theorem Evolves.msgIdsClear (h : Evolves s t) {c : Nat} : Evolves s (msgIdsClear t c) := h.each fun _ _ h => h.put

protected theorem Evolves.attachDone (h : Evolves s t) {c kind : Nat} {cc2 : Bool} {rp : Nat} :
    Evolves s (attachDone t c kind cc2 rp) := by
  unfold attachDone
  extract_lets s1 s2 s3 s4
  have h1 : Evolves s s1 := h.putB.putB.putB
  have h4 : Evolves s s4 := h1.put.put.evt.putB.putB.putB.pdVconn.msgIdsClear.on fun _ h => h.pdRequest
  exact .ite h4.frsReview.wakeFires h4

protected theorem Evolves.pdAttach (h : Evolves s t) {c kind : Nat} {cc2 : Bool} {rp : Nat} :
    Evolves s (pdAttach t c kind cc2 rp) := .ite h (.ite h.put.putB (.ite h.put.putB.put h.attachDone))

protected theorem Evolves.pdWaitReview (h : Evolves s t) {c : Nat} : Evolves s (pdWaitReview t c) :=
  .ite h.attachDone (.ite h.attachDone h)

protected theorem Evolves.execAttach (h : Evolves s t) {c : Fin 4} {kind : Fin 3} {cc2 : Bool} {rp : Fin 4} :
    Answers s (execAttach c kind cc2 rp t) := (Evolves.ite h.pdAttach h).next

protected theorem Evolves.pdTimersOff (h : Evolves s t) {c : Nat} : Evolves s (pdTimersOff t c) := h.each fun _ _ h => h.put

protected theorem Evolves.pdDetach (h : Evolves s t) {c : Fin 4} : Evolves s (pdDetach t c) := by
  unfold pdDetach
  extract_lets s1 s2 st
  have h2 : Evolves s s2 := h.pdQuiet.pdTimersOff.evt.msgIdsClear.detachMiss.pdUnattached
  exact .ite h2.pdSwitch (.ite h2.pdOpen h2)

protected theorem Evolves.execDetach (h : Evolves s t) {c : Fin 4} : Answers s (execDetach c t) :=
  (Evolves.ite h (.ite h.pdDetach (h.on fun _ h => h.pdUnattached))).next

protected theorem Evolves.execRoleToggle (h : Evolves s t) {c : Fin 4} : Answers s (execRoleToggle c t) :=
  (Evolves.ite h.put.putB.putB h).next

protected theorem Evolves.pdWait (h : Evolves s t) {c : Nat} : Evolves s (pdWait t c) := h.put.put.pdAnnounce

protected theorem Evolves.pdTransition (h : Evolves s t) {c : Nat} : Evolves s (pdTransition t c) := by
  unfold pdTransition
  split
  · exact h.sendRecord.pdAnnounce.disReview
  · split
    · exact h
    · exact .ite (((h.on fun _ h => h.sendRecord).put).put) ((h.on fun _ h => h.sendRecord).pdWait)

protected theorem Evolves.vbusWrite (h : Evolves s t) {k : Bool} {c : Fin 4} {w : Nat} : Evolves s (vbusWrite t k c w).1 := by
  unfold vbusWrite
  exact h.specialRes fun _ _ h => .ite_fst ((h.storeFields.on fun _ h => h.pdTransition).fst)
      (h.ceiled fun _ _ h => h.storeFields.on fun _ h => h.pdTransition)

protected theorem Evolves.execTransition (h : Evolves s t) {a : Access} {c : Fin 4} {w : BitVec 32} :
    Answers s (execTransition a c w t) := (h.regOp fun _ _ h => h.vbusWrite).next

protected theorem Evolves.execTransitionStart (h : Evolves s t) {c : Fin 4} : Answers s (execTransitionStart c t) :=
  (Evolves.ite h.put.put.disReview h).next

protected theorem Evolves.execTransDone (h : Evolves s t) {c : Fin 4} : Answers s (execTransDone c t) :=
  (Evolves.ite h.put.put.put.put.evt h).next

protected theorem Evolves.transWrite (h : Evolves s t) {k : Bool} {c : Fin 4} {w : Nat} :
    Evolves s (transWrite t k c w).1 := h.specialWrite fun _ _ h => h.storeFields.put

protected theorem Evolves.rxShow (h : Evolves s t) {c : Fin 4} : Evolves s (rxShow t c) := h.put.put.put

/-- A message is taken where the port holds fewer than two (R295). -/
protected theorem Evolves.rxMessage (h : Evolves s t) {c : Fin 4} {sop : Nat} {bytes : List (BitVec 8)} {crcOk early : Bool} :
    Evolves s (rxMessage t c sop bytes crcOk early) := by
  unfold rxMessage
  extract_lets s0 s1 s2
  have h0 : Evolves s s0 := h.on fun _ h => h.put.evt
  have hrx : s0.rx = t.rx := by
    unfold s0
    cases early && t.get (Pd.TX c) == 1 <;> rfl
  split
  · exact h0
  · split
    · exact h0.inc
    · split
      · exact h0.put
      next hroom =>
        refine .ite h0.send (Evolves.evt (Evolves.rxShow (h0.send.put.rxSet ?_)))
        simp only [s2, s1, State.put_rx, State.send_rx, hrx, List.length_append, List.length_singleton]
        omega

protected theorem Evolves.execRxMsg (h : Evolves s t) {c : Fin 4} {sop : Fin 3} {bytes : List (BitVec 8)}
    {crcOk early : Bool} :
    Answers s (execRxMsg c sop bytes crcOk early t) := (Evolves.ite h.rxMessage h).next

protected theorem Evolves.rxNext (h : Evolves s t) {c : Fin 4} : Evolves s (rxNext t c) := by
  unfold rxNext
  split
  · exact h
  next hrx =>
    refine .ite (h.rxSet ?_).put.rxShow h.put
    rw [hrx, List.length_cons]
    omega

protected theorem Evolves.txAppend (h : Evolves s t) {c : Fin 4} {w : Nat} : Evolves s (txAppend t c w) := h.requeue {}

protected theorem Evolves.execTxData (h : Evolves s t) {a : Access} {c : Fin 4} {w : BitVec 32} :
    Answers s (execTxData a c w t) := (h.regOp fun _ _ h => h.txAppend.fst).next

protected theorem Evolves.txGo (h : Evolves s t) {c : Fin 4} : Evolves s (txGo t c) :=
  .ite h (((((h.requeue {}).put).put).put).send)

protected theorem Evolves.txWrite (h : Evolves s t) {k : Bool} {c : Fin 4} {w : Nat} : Evolves s (txWrite t k c w).1 :=
  h.specialWrite fun _ _ h => h.storeFields.on fun _ h => h.txGo

protected theorem Evolves.execGo (h : Evolves s t) {a : Access} {c : Fin 4} {w : BitVec 32} :
    Answers s (execGo a c w t) := (h.regOp fun _ _ h => h.txWrite).next

protected theorem Evolves.execTxOk (h : Evolves s t) {c : Fin 4} : Answers s (execTxOk c t) :=
  (Evolves.ite (h.put.evt.on fun _ h => h.pdWait) h).next

protected theorem Evolves.execTxRetry (h : Evolves s t) {c : Fin 4} : Answers s (execTxRetry c t) :=
  (Evolves.ite (.ite h.wrapInc.send h.put.inc.evt) h).next

protected theorem Evolves.pdHrSource (h : Evolves s t) {c : Nat} : Evolves s (pdHrSource t c) :=
  .ite h.put.put.put.pdClose h.put.put.put.pdRequest

protected theorem Evolves.pdAbandon (h : Evolves s t) {c : Nat} {received : Bool} : Evolves s (pdAbandon t c received) := by
  unfold pdAbandon
  extract_lets s1 src s2 s3
  have h2 : Evolves s s2 := h.put.put.evt.evt.putB
  have h3 : Evolves s s3 := .ite h2.put.pdHrSource h2.refRamp.put.put.put
  exact (h3.put.on fun _ h => h.put).raiseEvent

protected theorem Evolves.pdHardReset (h : Evolves s t) {c : Nat} {received : Bool} :
    Evolves s (pdHardReset t c received) := by
  unfold pdHardReset
  extract_lets s1 s2 s3
  have h2 : Evolves s s2 := h.pdCancelTransition.pdTimersOff.msgIdsClear.put.put.put.inc
  split
  · exact h2.pdAbandon
  · exact .ite (((h2.put.on fun _ h => h.evt).put).put) (h2.put.on fun _ h => h.evt)

protected theorem Evolves.pdSignal (h : Evolves s t) {c op : Nat} : Evolves s (pdSignal t c op) := by
  unfold pdSignal
  split
  · exact h
  · split
    · exact h.send.pdHardReset
    · exact h.put.put.put.send
    · exact .ite h.pdCancelTransition.refRamp.put.put h
    · exact .ite h.put.put.put.pdWantsDuty h
    · exact h

protected theorem Evolves.sigWrite (h : Evolves s t) {k : Bool} {c : Fin 4} {w : Nat} : Evolves s (sigWrite t k c w).1 :=
  h.specialWrite fun _ _ h => h.pdSignal

protected theorem Evolves.execHardReset (h : Evolves s t) {a : Access} {c : Fin 4} :
    Answers s (execHardReset a c t) := (h.regOp fun _ _ h => h.sigWrite).next

protected theorem Evolves.execCableReset (h : Evolves s t) {a : Access} {c : Fin 4} :
    Answers s (execCableReset a c t) := (h.regOp fun _ _ h => h.sigWrite).next

protected theorem Evolves.execSrcOff (h : Evolves s t) {a : Access} {c : Fin 4} :
    Answers s (execSrcOff a c t) := (h.regOp fun _ _ h => h.sigWrite).next

protected theorem Evolves.execSrcOn (h : Evolves s t) {a : Access} {c : Fin 4} : Answers s (execSrcOn a c t) :=
  (h.regOp fun _ _ h => h.sigWrite).next

protected theorem Evolves.execHardResetRx (h : Evolves s t) {c : Fin 4} : Answers s (execHardResetRx c t) :=
  (Evolves.ite h.pdHardReset h).next

protected theorem Evolves.execCableResetRx (h : Evolves s t) {c : Fin 4} : Answers s (execCableResetRx c t) :=
  (Evolves.ite h.put.evt h).next

protected theorem Evolves.execTPsHardReset (h : Evolves s t) {c : Fin 4} : Answers s (execTPsHardReset c t) :=
  (Evolves.ite h.refRamp.put.put h).next

protected theorem Evolves.execTSrcRecover (h : Evolves s t) {c : Fin 4} : Answers s (execTSrcRecover c t) :=
  (Evolves.ite h.refRamp.put.put.put h).next

protected theorem Evolves.execHardResetDone (h : Evolves s t) {c : Fin 4} : Answers s (execHardResetDone c t) :=
  (Evolves.ite h.refAt.put.evt h).next

protected theorem Evolves.execFrsSignal (h : Evolves s t) {c : Fin 4} : Answers s (execFrsSignal c t) :=
  (Evolves.ite h.put.evt h).next

protected theorem Evolves.execFrsTakeover (h : Evolves s t) {c : Fin 4} : Answers s (execFrsTakeover c t) :=
  (Evolves.ite h.put h).next

protected theorem Evolves.pdTimerWrite (h : Evolves s t) {k : Bool} {c : Fin 4} {t' : Fin 8} {w : Nat} :
    Evolves s (pdTimerWrite t k c t' w).1 :=
  h.specialWrite fun _ _ h => (h.storeFields.on fun _ h => h.put).on fun _ h => h.put

protected theorem Evolves.execHostTimerStart (h : Evolves s t) {a : Access} {c : Fin 4} {t' : Fin 8} {w : BitVec 32} :
    Answers s (execHostTimerStart a c t' w t) := (h.regOp fun _ _ h => h.pdTimerWrite).next

protected theorem Evolves.execHostTimerStop (h : Evolves s t) {a : Access} {c : Fin 4} {t' : Fin 8} {w : BitVec 32} :
    Answers s (execHostTimerStop a c t' w t) := (h.regOp fun _ _ h => h.pdTimerWrite).next

protected theorem Evolves.execHostTimerExpiry (h : Evolves s t) {c : Fin 4} {t' : Fin 8} :
    Answers s (execHostTimerExpiry c t' t) := (Evolves.ite h.put.evt h).next

protected theorem Evolves.pdOpening (h : Evolves s t) {c i : Nat} : Evolves s (pdOpening t c i) := .ite h h.raiseEvent

protected theorem Evolves.execPdShortCircuit (h : Evolves s t) {c : Fin 4} : Answers s (execPdShortCircuit c t) :=
  h.pdOpening.next

protected theorem Evolves.execPdOverCurrent (h : Evolves s t) {c : Fin 4} : Answers s (execPdOverCurrent c t) :=
  (Evolves.ite h.pdOpening h).next

protected theorem Evolves.execPdOverVoltage (h : Evolves s t) {c : Fin 4} : Answers s (execPdOverVoltage c t) :=
  h.pdOpening.next

protected theorem Evolves.execPdReverseCurrent (h : Evolves s t) {c : Fin 4} : Answers s (execPdReverseCurrent c t) :=
  (Evolves.ite h.pdOpening h).next

protected theorem Evolves.execPdGateRise (h : Evolves s t) {c : Fin 4} : Answers s (execPdGateRise c t) :=
  (Evolves.ite h.pdOpening h).next

protected theorem Evolves.pdResponse (h : Evolves s t) {c i : Nat} : Evolves s (pdResponse t c i) :=
  h.put.pdCount.raiseEvent.on fun _ h => h.pdLatch

protected theorem Evolves.execCcOvp (h : Evolves s t) {c : Fin 4} : Answers s (execCcOvp c t) :=
  (Evolves.ite h h.put.pdResponse).next

protected theorem Evolves.execVconnOc (h : Evolves s t) {c : Fin 4} : Answers s (execVconnOc c t) :=
  (Evolves.ite h.pdResponse h).next

protected theorem Evolves.recoveryOver (h : Evolves s t) {c : Nat} : Evolves s (recoveryOver t c) :=
  h.put.put.put.pdStartAgain

protected theorem Evolves.execErrorRecoveryEnd (h : Evolves s t) {c : Fin 4} : Answers s (execErrorRecoveryEnd c t) :=
  (Evolves.ite h (.ite h.put h.recoveryOver)).next

protected theorem Evolves.pdEnOff (h : Evolves s t) {c : Fin 4} : Evolves s (pdEnOff t c) :=
  ((((((h.on fun _ h => h.pdDetach).on fun _ h => h.put).put).put).put).put).put

protected theorem Evolves.pdEnOn (h : Evolves s t) {c : Fin 4} : Evolves s (pdEnOn t c) :=
  .ite h ((h.on fun _ h => h.put.pdSwitch.causeEnds).pdStartAgain)

protected theorem Evolves.pdpCtlStore (h : Evolves s t) {c : Fin 4} {w' : Nat} : Evolves s (pdpCtlStore t c w') := by
  unfold pdpCtlStore
  extract_lets s1 s2 sink s3 s4
  have h1 : Evolves s s1 := h.storeFields.on fun _ h => h.put
  have h2 : Evolves s s2 := .ite h1.pdEnOff (.ite h1.pdEnOn (h1.on fun _ h => h.pdUnattached))
  exact ((h2.on fun _ h => h.frsReview).on fun _ h => h.put.on fun _ h => h.pdSwitch).pdVconn

protected theorem Evolves.pdpCtlWrite (h : Evolves s t) {k : Bool} {c : Fin 4} {w : Nat} :
    Evolves s (pdpCtlWrite t k c w).1 := h.specialRes fun _ _ h => h.pdpCtlStore.fst

protected theorem Evolves.execPdEnable (h : Evolves s t) {a : Access} {c : Fin 4} {w : BitVec 32} :
    Answers s (execPdEnable a c w t) := (h.regOp fun _ _ h => h.pdpCtlWrite).next

protected theorem Evolves.execSwitchOpen (h : Evolves s t) {c : Fin 4} : Answers s (execSwitchOpen c t) :=
  (Evolves.ite h.pdOpen h).next

protected theorem Evolves.vsafe0 (h : Evolves s t) {c : Nat} : Evolves s (vsafe0 t c) := by
  unfold vsafe0
  extract_lets s0 s1 s2
  have h1 : Evolves s s1 := ((h.on fun _ h => h.refAt).put.on fun _ h => h.pdSwitch).causeEnds
  split
  · exact h1.on fun _ h => h.recoveryOver
  · exact (h1.pdSwitch.put.put.put.put.put.on fun _ h => h.evt).frsReview

protected theorem Evolves.execVsafe0v (h : Evolves s t) {c : Fin 4} : Answers s (execVsafe0v c t) := h.vsafe0.next

protected theorem Evolves.execDischarge (h : Evolves s t) {c : Fin 4} : Answers s (execDischarge c t) :=
  (Evolves.ite h.raiseHeld h).next

protected theorem Evolves.execVsafe5v (h : Evolves s t) {c : Fin 4} : Answers s (execVsafe5v c t) :=
  (Evolves.ite h.put.refAt.put.put.evt h).next

/-! ### Machine/Accum.lean -/

protected theorem Evolves.accBoundary (h : Evolves s t) {a : Nat} : Evolves s (accBoundary t a) := .ite h.putI.put.putI.put h

protected theorem Evolves.accEnter (h : Evolves s t) {a : Nat} {k : Int} {x : Tagged} {test : Bool} :
    Evolves s (accEnter t a k x test) := by
  unfold accEnter
  extract_lets p i s1 s2 sum sq r s0 s3
  have h2 : Evolves s s2 := (h.put64.on fun _ h => h.inc).on fun _ h => h.put
  split
  · exact h2
  · exact .ite h2.put.put.put64.put64.put.evt.raiseEvent h2.put.put.put64.put64

protected theorem Evolves.accPage (h : Evolves s t) {q : Nat → Bool} {x : Tagged} {g : State → Nat → State} {p : Nat}
    (hg : ∀ u x1, Evolves s u → Evolves s (g u x1)) :
    Evolves s (accPage t q x g p) := by
  unfold accPage
  split
  · exact h
  · exact h.onTagged fun _ h => h.each fun _ _ h => (hg _ _ h).accBoundary

protected theorem Evolves.accDeliver (h : Evolves s t) {src : Nat} {x : Tagged} {test : Bool} :
    Evolves s (accDeliver t src x test) := h.each fun _ _ h => h.accPage fun _ _ h => h.accEnter

protected theorem Evolves.accAlso (h : Evolves s t) {a src : Nat} {x : Tagged} {test : Bool} :
    Evolves s (accAlso t a src x test) := h.accPage fun _ _ h => h.accEnter

protected theorem Evolves.accPair (h : Evolves s t) {n k src : Nat} {x : Tagged} {test on : Bool} :
    Evolves s (accPair t n k src x test on) := h.each fun _ _ h => h.accPage fun _ _ h => h.put.accEnter

protected theorem Evolves.accClear (h : Evolves s t) {a : Nat} : Evolves s (accClear t a) :=
  h.put64.put64.put64.put.put.put.put.wrapInc.put.put.put.put.put

protected theorem Evolves.thresholdBlock (h : Evolves s t) {a : Nat} : Evolves s (thresholdBlock t a) :=
  .ite (h.put.onTagged fun _ h => h.on fun _ h => h.putBit) h

protected theorem Evolves.execThresholdBlock (h : Evolves s t) {acc : Fin 512} : Answers s (execThresholdBlock acc t) :=
  h.thresholdBlock.next

protected theorem Evolves.mmtLow (h : Evolves s t) {t' : Nat} {x : Tagged} {test : Bool} :
    Evolves s (mmtLow t t' x test) := .ite h (h.putI.put.putB.put.putB.on fun _ h => h.putBit)

protected theorem Evolves.mmtHigh (h : Evolves s t) {t' : Nat} {x : Tagged} {test : Bool} :
    Evolves s (mmtHigh t t' x test) := .ite h (h.putI.put.putB.put.putB.on fun _ h => h.putBit)

protected theorem Evolves.mmtDeliver (h : Evolves s t) {input : Nat} {x : Tagged} {test : Bool} :
    Evolves s (mmtDeliver t input x test) := by
  unfold mmtDeliver
  dsimp only
  split
  · exact h
  · exact h.onTagged fun _ h => h.each fun _ _ h => h.mmtLow.mmtHigh

protected theorem Evolves.mmtClear (h : Evolves s t) {t' : Nat} : Evolves s (mmtClear t t') :=
  h.put.put.put.put.put.put.put.put.put.put

protected theorem Evolves.accCfgWrite (h : Evolves s t) {k : Bool} {a w : Nat} : Evolves s (accCfgWrite t k a w).1 := by
  unfold accCfgWrite
  extract_lets p i off l changed
  split
  · exact h.refusal.fst
  · exact h.specialWrite fun _ _ h =>
      ((((h.storeFields (regLayout_sparesMode _ _).filter)).on fun _ h => h.put).on fun _ h => h.putI.put.put).on fun _ h =>
      h.accClear

protected theorem Evolves.execAccClr (h : Evolves s t) {a : Access} {acc : Fin 512} {w : BitVec 32} :
    Answers s (execAccClr a acc w t) := (h.regOp fun _ _ h => h.accCfgWrite).next

protected theorem Evolves.mmtCfgWrite (h : Evolves s t) {k : Bool} {t' w : Nat} :
    Evolves s (mmtCfgWrite t k t' w).1 :=
  h.specialWrite fun _ _ h => ((h.storeFields (regLayout_sparesMode _ _).filter)).on fun _ h => h.mmtClear

protected theorem Evolves.execMmtClr (h : Evolves s t) {a : Access} {t' : Fin 256} {w : BitVec 32} :
    Answers s (execMmtClr a t' w t) := (h.regOp fun _ _ h => h.mmtCfgWrite).next

/-! ### Machine/Phase.lean -/

protected theorem Evolves.putSlots (h : Evolves s t) {p : Fin 16} {l : List Timing}
    (hl : l.length ≤ max 2 t.slots[p].length) :
    Evolves s (putSlots t p l) := (h.slotsSet hl).put

/-- Entries of a window that change their stage. -/
protected theorem Evolves.restageWindow (h : Evolves s t) {p : Fin 16} {idx : BitVec 8} {a b : Nat} :
    Evolves s (onWindow t p (fun l => restage l idx a b)) := h.onWindow (le_max_of_le_right (List.length_map _).le)

protected theorem Evolves.foragerTick (h : Evolves s t) {c : Fin 4} : Evolves s (foragerTick t c) := by
  unfold foragerTick
  extract_lets s1 per aged
  have h1 : Evolves s s1 := h.on fun _ h => h.putI.putI
  exact (h1.antqSet (le_max_of_le_right (List.length_map _).le)).inc

protected theorem Evolves.markPeriod (h : Evolves s t) {c : Fin 4} : Evolves s (markPeriod t c) :=
  .ite h.put (h.on fun _ h => h.put.each fun _ _ h => h.evt)

protected theorem Evolves.dutyLeave (h : Evolves s t) {p : Fin 16} : Evolves s (dutyLeave t p) :=
  h.filterWindow.put.put.planAnew

protected theorem Evolves.combDuty (h : Evolves s t) {c : Fin 4} : Evolves s (combDuty t c) :=
  .ite h.dutyReview (.ite (h.dutyReview.on fun _ h => h.put) (h.dutyReview.each fun _ _ h => h.dutyLeave))

protected theorem Evolves.combMark (h : Evolves s t) {c : Fin 4} : Evolves s (combMark t c) := by
  unfold combMark
  extract_lets s1 s2 full s3
  have h1 : Evolves s s1 := h.foragerTick.markPeriod.combDuty
  have h2 : Evolves s s2 := h1.each fun _ _ h => h.putBit.clrF.evt.on fun _ h => h.rejoinPlan
  exact .ite (((h2.put.put.each fun _ _ h => h.put).put).putSat) h2.wrapInc

protected theorem Evolves.dropStale (h : Evolves s t) {p : Fin 16} {e : Timing} {rest : List Timing}
    (hl : rest.length ≤ max 2 t.slots[p].length) : Evolves s (dropStale t p e rest) := (h.putSlots hl).filterWindow.inc.evt

protected theorem Evolves.issue (h : Evolves s t) {p : Fin 16} {e : Timing} {rest : List Timing}
    (hl : rest.length ≤ max 2 t.slots[p].length) : Evolves s (issue t p e rest) := by
  unfold issue
  extract_lets per s1 s2 s3 s4
  have h2 : Evolves s s2 := (h.putSlots hl).restageWindow.requeue {}
  have h4 : Evolves s s4 := (h2.on fun _ h => h.inc.evt).on fun _ h => h.put.evt
  exact h4.put.put

protected theorem Evolves.issueDecision (h : Evolves s t) {p : Fin 16} : Evolves s (issueDecision t p) := by
  unfold issueDecision
  split
  · split
    · exact h.put
    next e rest hslots =>
      have hl : rest.length ≤ max 2 t.slots[p].length := by
        rw [hslots, List.length_cons]
        omega
      exact .ite (h.issue hl) (.ite (h.dropStale hl).put h.put)
  · exact h.put

protected theorem Evolves.execIssueDecision (h : Evolves s t) {p : Fin 16} : Answers s (execIssueDecision p t) :=
  h.issueDecision.next

protected theorem Evolves.periodTick (h : Evolves s t) {p : Fin 16} : Evolves s (periodTick t p) := by
  unfold periodTick
  exact (((((((((h.wrapInc.on fun _ h => h.putB).put).put).put).put).put).each fun _ _ h => h.put).on fun _ h =>
      h.limitEnds).put).put

protected theorem Evolves.underrun (h : Evolves s t) {p : Fin 16} : Evolves s (underrun t p) := h.inc.evt.putSat.phHold

protected theorem Evolves.beginPeriod (h : Evolves s t) {p : Fin 16} : Evolves s (beginPeriod t p) :=
  ((((h.requeue {}).put).put).put).underEnds

protected theorem Evolves.heldPeriod (h : Evolves s t) {p : Fin 16} : Evolves s (heldPeriod t p) := h.clipEnds.underEnds

protected theorem Evolves.periodStart (h : Evolves s t) {p : Fin 16} : Evolves s (periodStart t p) := by
  unfold periodStart
  split
  · exact h
  · extract_lets n s1
    have h1 : Evolves s s1 := h.periodTick.put
    split
    · exact h1.beginPeriod
    · exact .ite h1.heldPeriod.phHold (.ite h1.clipEnds.underrun h1.heldPeriod)

protected theorem Evolves.slotStale (h : Evolves s t) {p : Fin 16} {e : Timing} :
    Evolves s (slotStale t p e) := h.filterWindow.inc.evt.raiseEvent

/-- A staged entry is added to fewer than two (R123). -/
protected theorem Evolves.slotWrite (h : Evolves s t) {p : Fin 16} {e : Timing} : Evolves s (slotWrite t p e) := by
  unfold slotWrite
  split
  · exact h
  · split
    · exact h.slotStale
    next hroom =>
      refine .ite h.slotStale (Evolves.put
          (Evolves.put (Evolves.put (Evolves.on (h.putSlots ?_) fun _ h => h.restageWindow))))
      simp only [List.length_append, List.length_singleton]
      omega

protected theorem Evolves.execSlotWrite (h : Evolves s t) {p : Fin 16} {e : Timing} :
    Answers s (execSlotWrite p e t) := h.slotWrite.next

protected theorem Evolves.ilvWrite (h : Evolves s t) {k : Bool} {p : Fin 16} {w : Nat} : Evolves s (ilvWrite t k p w).1 :=
  h.specialWrite fun _ _ h => h.storeFields.on fun _ h => h.putB

protected theorem Evolves.execWalk (h : Evolves s t) {a : Access} {p : Fin 16} {w : BitVec 32} :
    Answers s (execWalk a p w t) := (h.regOp fun _ _ h => h.ilvWrite).next

protected theorem Evolves.execSquash (h : Evolves s t) {p : Fin 16} : Answers s (execSquash p t) := h.clearSlots.next

protected theorem Evolves.gateDriver (h : Evolves s t) {p : Fin 16} {i : Nat} : Evolves s (gateDriver t p i) :=
  .ite h h.putBit.phStop.raiseHeld

protected theorem Evolves.execDsat (h : Evolves s t) {p : Fin 16} : Answers s (execDsat p t) := h.gateDriver.next

protected theorem Evolves.execDuv (h : Evolves s t) {p : Fin 16} : Answers s (execDuv p t) := h.gateDriver.next

protected theorem Evolves.recause (h : Evolves s t) {p : Fin 16} : Evolves s (recause t p) := h.on fun _ h => h.put

protected theorem Evolves.execGateDriverInputHigh (h : Evolves s t) {p : Fin 16} {duv : Bool} :
    Answers s (execGateDriverInputHigh p duv t) := (Evolves.ite h h.putBit.causeEnds.recause).next

protected theorem Evolves.execFwTimeout (h : Evolves s t) {p : Fin 16} : Answers s (execFwTimeout p t) :=
  (Evolves.ite h.phHold.raiseEvent h).next

protected theorem Evolves.execDecayComplete (h : Evolves s t) {p : Fin 16} : Answers s (execDecayComplete p t) :=
  (Evolves.ite h.phRest h).next

protected theorem Evolves.clockRecause (h : Evolves s t) {p : Fin 16} : Evolves s (clockRecause t p) :=
  h.on fun _ h => h.put

protected theorem Evolves.runSet (h : Evolves s t) {p : Fin 16} : Evolves s (runSet t p) := by
  unfold runSet
  extract_lets s1 s2 s3 s4
  have h1 : Evolves s s1 := h.put.put.put.planAnew
  exact .ite (((((((h1.on fun _ h => h.put.evt).put).put).put).put).put).put) h1.recause

protected theorem Evolves.runClear (h : Evolves s t) {p : Fin 16} : Evolves s (runClear t p) := by
  unfold runClear
  extract_lets s1
  have h1 : Evolves s s1 := ((h.on fun _ h => h.setSquash).clearSlots).underEnds
  split
  · exact h1.put
  · split
    · exact h1.put
    · exact h1.put.phRest
    · exact h1.put
    · exact h1

protected theorem Evolves.phCtlWrite (h : Evolves s t) {k : Bool} {p : Fin 16} {w : Nat} :
    Evolves s (phCtlWrite t k p w).1 :=
  h.specialWrite fun _ _ h => .ite h.storeFields.runSet (.ite h.storeFields.runClear h.storeFields)

protected theorem Evolves.execRunSet (h : Evolves s t) {a : Access} {p : Fin 16} {w : BitVec 32} :
    Answers s (execRunSet a p w t) := (h.regOp fun _ _ h => h.phCtlWrite).next

protected theorem Evolves.execRunCleared (h : Evolves s t) {a : Access} {p : Fin 16} {w : BitVec 32} :
    Answers s (execRunCleared a p w t) := (h.regOp fun _ _ h => h.phCtlWrite).next

protected theorem Evolves.tbPerWrite (h : Evolves s t) {k : Bool} {p : Fin 16} {w : Nat} :
    Evolves s (tbPerWrite t k p w).1 := h.specialWrite fun _ _ h => .ite h h.put.put

protected theorem Evolves.cbcTrip (h : Evolves s t) {p : Fin 16} {neg : Bool} {t' : Nat} :
    Evolves s (cbcTrip t p neg t') :=
  .ite h (.ite ((((((h.requeue {}).putBit).inc).put).putSat).evt) ((h.requeue {}).putBit))

protected theorem Evolves.execCbc (h : Evolves s t) {p : Fin 16} {neg : Bool} {t' : Nat} :
    Answers s (execCbc p neg t' t) := h.cbcTrip.next

protected theorem Evolves.execCbcPersist (h : Evolves s t) {p : Fin 16} : Answers s (execCbcPersist p t) :=
  (Evolves.ite h.put.raiseHeld h).next

protected theorem Evolves.samplePoint (h : Evolves s t) {p : Fin 16} {sp : Fin 4} {raw : BitVec 12} :
    Evolves s (samplePoint t p sp raw) := by
  unfold samplePoint
  split
  · exact h
  · extract_lets clip v s1 s2
    have h1 : Evolves s s1 := (h.on fun _ h => h.evt).accDeliver
    exact .ite (.ite h1.putI.putB.putSat h1.putI.putB.clipEnds) h1.putI.putB

protected theorem Evolves.execSamplePoint (h : Evolves s t) {p : Fin 16} {sp : Fin 4} {raw : BitVec 12} :
    Answers s (execSamplePoint p sp raw t) := h.samplePoint.next

protected theorem Evolves.execSnsSat (h : Evolves s t) {p : Fin 16} : Answers s (execSnsSat p t) :=
  (Evolves.ite h.put.raiseHeld h).next

protected theorem Evolves.execPlanStarved (h : Evolves s t) {p : Fin 16} : Answers s (execPlanStarved p t) :=
  (Evolves.ite h.put.raiseHeld h).next

/-! ### Machine/Forager.lean -/

protected theorem Evolves.rampShares (h : Evolves s t) {c : Nat} : Evolves s (rampShares t c) :=
  h.each fun _ _ h => h.putI.on fun _ h => h.put

theorem depthOf_le (s : State) (c : Nat) : depthOf s c ≤ 16 := by
  have hmin : ∀ (l : List Nat) (d : Nat), d ≤ 16 → l.foldl (fun d m => min d (ownDepth s m)) d ≤ 16 := by
    intro l
    induction l with
    | nil => exact fun _ h => h
    | cons m l ih => exact fun d h => ih _ (le_trans (min_le_left _ _) h)
  exact hmin _ _ (le_refl 16)

/-- A plan entry is added to fewer than DEPTH, which is at most 16 (R144). -/
protected theorem Evolves.planCommit (h : Evolves s t) {p : Fin 16} {e : Timing} {close : Bool} : Evolves s
    (planCommit t p e close) := by
  unfold planCommit
  split
  · exact h
  next a ha =>
    have hd := depthOf_le t (p.val / 4)
    have hdepth : (if degraded t p then 2 else depthOf t (p.val / 4)) ≤ 16 := by
      split <;> omega
    generalize (if degraded t p then 2 else depthOf t (p.val / 4)) = depth at hdepth ⊢
    extract_lets x
    split
    · exact h
    next hroom =>
      simp only [Bool.or_eq_true, decide_eq_true_eq, not_or] at hroom
      refine h.onWindow ?_
      rw [List.length_append, List.length_singleton]
      omega

protected theorem Evolves.execPlanEntryCommit (h : Evolves s t) {p : Fin 16} {e : Timing} {close : Bool} :
    Answers s (execPlanEntryCommit p e close t) := h.planCommit.next

protected theorem Evolves.degradedStep (h : Evolves s t) {p : Fin 16} {goal : Int} : Evolves s (degradedStep t p goal) := by
  unfold degradedStep
  split
  · exact h
  · exact h.putI.putI

protected theorem Evolves.phasePeriod (h : Evolves s t) {p : Fin 16} : Evolves s (phasePeriod t p) := by
  refine h.periodStart.on fun u hu => ?_
  split
  · exact hu.degradedStep
  · exact hu

protected theorem Evolves.execPeriodStart (h : Evolves s t) {p : Fin 16} : Answers s (execPeriodStart p t) :=
  h.phasePeriod.next

protected theorem Evolves.peekCapture (h : Evolves s t) {c : Fin 4} : Evolves s (peekCapture t c) := h.put.put.put.put

protected theorem Evolves.setConsec (h : Evolves s t) {p v : Nat} : Evolves s (setConsec t p v) := h.put

protected theorem Evolves.edgeSquash (h : Evolves s t) {c : Nat} : Evolves s (edgeSquash t c) := by
  unfold edgeSquash
  split
  · exact h
  · exact (h.each fun _ _ h => h.put).missSquash

protected theorem Evolves.missed (h : Evolves s t) {p : Fin 16} {e : PlanEntry} {cause : Nat} {dev : Int} :
    Evolves s (missed t p e cause dev) := by
  unfold missed
  extract_lets c s0 advance s1
  have h1 : Evolves s s1 := h.filterWindow.on fun _ h => h.setConsec
  exact .ite h1 (h1.missRecord.on fun _ h => h.putBit)

protected theorem Evolves.setCheckpoint (h : Evolves s t) {s0 : State} {d : Fin 4} : Evolves s (setCheckpoint s0 t d) :=
  (h.each fun _ _ h => h.putI.putI.put).put.put.putI.putI.put.put

protected theorem Evolves.checkpoint (h : Evolves s t) {p : Fin 16} {e : PlanEntry} {x : Tagged} : Evolves s
    (checkpoint t p e x) :=
  h.put.put.putI.put.put.put.put.put.put.putI.putI.put.put.busCheckpoint.each fun _ _ h => h.setCheckpoint

protected theorem Evolves.releaseNext (h : Evolves s t) {p : Fin 16} : Evolves s (releaseNext t p) := by
  unfold releaseNext
  split
  · exact h.on fun _ h => h.slotWrite
  · exact h

protected theorem Evolves.confirmed (h : Evolves s t) {p : Fin 16} {e : PlanEntry} {x : Tagged} :
    Evolves s (confirmed t p e x) := by
  unfold confirmed
  extract_lets c s1 s2 due
  have h1 : Evolves s s1 := h.filterWindow.setConsec
  exact .ite h1 ((h1.put64.checkpoint.on fun _ h => h.raiseEvent).releaseNext)

protected theorem Evolves.compareResult (h : Evolves s t) {p : Fin 16} {e : PlanEntry} {x : Tagged} {cbcNow : Bool} :
    Evolves s (compareResult t p e x cbcNow) := by
  have ht := h.tagCheck (page := 0x10 + p.val / 4) (v := x.val) (tag := x.tag)
  unfold compareResult
  split
  next s1 heq =>
    have h1 : Evolves s s1 := by rwa [heq] at ht
    exact h1.missed
  next s1 heq =>
    have h1 : Evolves s s1 := by rwa [heq] at ht
    exact .ite h1.missed (.ite h1.missed (.ite h1.confirmed h1.missed))

protected theorem Evolves.decision (h : Evolves s t) {p : Fin 16} {idx : BitVec 8} {more : Bool} {g : PlanEntry → State}
    (hg : ∀ e, Evolves s (g e)) : Evolves s (decision t p idx more g) := by
  refine Evolves.on ?_ fun _ h => h.edgeSquash
  split
  · exact hg _
  · exact h

protected theorem Evolves.execConfirmation (h : Evolves s t) {p : Fin 16} {k : Compared} {x : Tagged} {cbcNow : Bool} :
    Answers s (execConfirmation p k x cbcNow t) := (h.decision fun _ => .ite h.compareResult h.filterWindow).next

protected theorem Evolves.execNosample (h : Evolves s t) {p : Fin 16} {k : Compared} : Answers s (execNosample p k t) :=
  (h.decision fun _ => h.missed).next

protected theorem Evolves.execGangSquash (h : Evolves s t) {c : Fin 4} : Answers s (execGangSquash c t) :=
  (Evolves.ite h.squashComb h).next

protected theorem Evolves.degrade (h : Evolves s t) {p : Fin 16} : Evolves s (degrade t p) :=
  .ite ((h.setConsec.putBit.on fun _ h => h.put.leavePlan.put.evt).raiseEvent) h

protected theorem Evolves.execDegrade (h : Evolves s t) {p : Fin 16} : Answers s (execDegrade p t) := h.degrade.next

protected theorem Evolves.withdrawBeyond (h : Evolves s t) {c : Nat} : Evolves s (withdrawBeyond t c) := by
  refine h.each fun u p h => h.onWindow (le_max_of_le_right ?_)
  have hdrop := List.length_filter_le (fun e => e.stage != 0) (u.window[p].drop (depthOf u c))
  rw [List.length_drop] at hdrop
  rw [List.length_append, List.length_take]
  omega

protected theorem Evolves.stormEnter (h : Evolves s t) {c : Fin 4} : Evolves s (stormEnter t c) :=
  .ite h.put.inc.evt.withdrawBeyond.raiseHeld h

protected theorem Evolves.execStormEnter (h : Evolves s t) {c : Fin 4} : Answers s (execStormEnter c t) := h.stormEnter.next

protected theorem Evolves.stormExit (h : Evolves s t) {c : Fin 4} : Evolves s (stormExit t c) := .ite h.put.evt.causeEnds h

protected theorem Evolves.execStormExit (h : Evolves s t) {c : Fin 4} : Answers s (execStormExit c t) := h.stormExit.next

protected theorem Evolves.replanFrom (h : Evolves s t) {c : Fin 4} {w u0 : Nat} {p : Fin 16} :
    Evolves s (replanFrom t c w u0 p) := h.filterWindow

/-- A record is queued where the comb queues fewer than 16 (R164). -/
protected theorem Evolves.enqueue (h : Evolves s t) {c : Fin 4} {w : Nat} : Evolves s (enqueue t c w) := by
  unfold enqueue
  extract_lets q
  split
  · exact h
  · split
    · exact h.antqSet (le_max_of_le_right (List.length_filter_le _ _))
    · split
      · exact h.inc
      · split
        · exact h.inc.evt.raiseEvent
        next hfull =>
          have hroom : ∀ (u : State) (r : Queued), (q ++ [r]).length ≤ max 16 u.antq[c].length := fun u r => by
            rw [List.length_append, List.length_singleton]
            omega
          exact ((((h.fresh.antqSet (hroom _ _)).inc).on fun _ h => h.inc.evt).each fun _ _ h => h.replanFrom).on
            fun _ h => h.put.put.put

protected theorem Evolves.postRecord (h : Evolves s t) {c : Fin 4} {w : Nat} : Evolves s (postRecord t c w) := by
  unfold postRecord
  extract_lets s'
  have h' : Evolves s s' := h.on fun _ h => h.impDisturb
  exact .ite (h'.each fun _ _ h => h.enqueue) (h'.on fun _ h => h.enqueue)

protected theorem Evolves.execFeederPre (h : Evolves s t) {c : Fin 4} {r : BitVec 64} :
    Answers s (execFeederPre c r t) := h.postRecord.next

protected theorem Evolves.execFeederMain (h : Evolves s t) {c : Fin 4} {r : BitVec 64} :
    Answers s (execFeederMain c r t) := h.postRecord.next

protected theorem Evolves.execFeederOff (h : Evolves s t) {c : Fin 4} {r : BitVec 64} :
    Answers s (execFeederOff c r t) := h.postRecord.next

protected theorem Evolves.execPdTrans (h : Evolves s t) {c : Fin 4} {r : BitVec 64} : Answers s (execPdTrans c r t) :=
  h.postRecord.next

protected theorem Evolves.execChangeover (h : Evolves s t) {c : Fin 4} {r : BitVec 64} :
    Answers s (execChangeover c r t) := h.postRecord.next

protected theorem Evolves.execBudget (h : Evolves s t) {c : Fin 4} {r : BitVec 64} : Answers s (execBudget c r t) :=
  h.postRecord.next

protected theorem Evolves.execShare (h : Evolves s t) {c : Fin 4} {r : BitVec 64} : Answers s (execShare c r t) :=
  h.postRecord.next

protected theorem Evolves.hostPost (h : Evolves s t) {c : Fin 4} {w : Nat} : Evolves s (hostPost t c w) := h.postRecord

protected theorem Evolves.execHostRecord (h : Evolves s t) {c : Fin 4} {r : BitVec 64} :
    Answers s (execHostRecord c r t) := h.hostPost.next

protected theorem Evolves.execCancel (h : Evolves s t) {c : Fin 4} {r : BitVec 64} : Answers s (execCancel c r t) :=
  h.postRecord.next

protected theorem Evolves.retire (h : Evolves s t) {c : Fin 4} {i : Nat} : Evolves s (retire t c i) := by
  unfold retire
  split
  · exact h
  next r hr =>
    have h1 := h.antqSet (c := c) (l := t.antq[c].eraseIdx i) (le_max_of_le_right (List.length_eraseIdx_le _ _))
    exact .ite (h1.putI.putI.on fun _ h => h.pdSegment) (.ite h1.putI.put h1)

protected theorem Evolves.dropPlanned (h : Evolves s t) {c : Nat} : Evolves s (dropPlanned t c) :=
  h.each fun _ _ h => h.filterWindow

protected theorem Evolves.markWrite (h : Evolves s t) {k : Bool} {c : Fin 4} {w : Nat} : Evolves s (markWrite t k c w).1 :=
  h.specialWrite fun _ _ h => .ite h (h.put.each fun _ _ h => h.dropPlanned.put)

protected theorem Evolves.execMarkPerWrite (h : Evolves s t) {a : Access} {c : Fin 4} {w : BitVec 32} :
    Answers s (execMarkPerWrite a c w t) := (h.regOp fun _ _ h => h.markWrite).next

protected theorem Evolves.modelCheck (h : Evolves s t) {c : Fin 4} : Evolves s (modelCheck t c) := by
  unfold modelCheck
  split
  · exact h.blockRead.put.causeEnds.coefRecompute
  · exact h.put.raiseHeld

protected theorem Evolves.planCtlWrite (h : Evolves s t) {k : Bool} {c : Fin 4} {w : Nat} :
    Evolves s (planCtlWrite t k c w).1 :=
  h.specialWrite fun _ _ h => h.storeFields.put.withdrawBeyond.on fun _ h => h.squashEvery.modelCheck

protected theorem Evolves.execModelWrite (h : Evolves s t) {a : Access} {c : Fin 4} {w : BitVec 32} :
    Answers s (execModelWrite a c w t) := (h.regOp fun _ _ h => h.planCtlWrite).next

protected theorem Evolves.cmbCtlWrite (h : Evolves s t) {k : Bool} {c : Fin 4} {w : Nat} :
    Evolves s (cmbCtlWrite t k c w).1 := h.specialWrite fun _ _ h => h.storeFields.on fun _ h => h.modelCheck

protected theorem Evolves.execForagerEnable (h : Evolves s t) {a : Access} {c : Fin 4} {w : BitVec 32} :
    Answers s (execForagerEnable a c w t) := (h.regOp fun _ _ h => h.cmbCtlWrite).next

protected theorem Evolves.execCoefficientRecompute (h : Evolves s t) {c : Fin 4} :
    Answers s (execCoefficientRecompute c t) := (Evolves.ite h.coefRecompute h).next

protected theorem Evolves.gangWrite (h : Evolves s t) {k : Bool} {c : Fin 4} {w : Nat} : Evolves s (gangWrite t k c w).1 := by
  unfold gangWrite
  exact h.specialWrite fun _ _ h => .ite h
      (((h.put.on fun _ h => h.put).each fun _ _ h => h.on fun _ h => h.put).each fun _ _ h => h.on fun _ h => h.put)

protected theorem Evolves.execGangReq (h : Evolves s t) {a : Access} {c : Fin 4} {w : BitVec 32} :
    Answers s (execGangReq a c w t) := (h.regOp fun _ _ h => h.gangWrite).next

protected theorem Evolves.gangBegins (h : Evolves s t) {d : Nat} : Evolves s (gangBegins t d) := h.put.putI

protected theorem Evolves.gangCheck (h : Evolves s t) {c : Fin 4} : Evolves s (gangCheck t c) := by
  unfold gangCheck
  extract_lets l s1
  split
  · exact h
  · split
    · exact (h.each fun _ _ h => h.put.put.gangBegins).each fun _ _ h => h.squashEvery
    · exact h.each fun _ _ h => h.put.raiseEvent

protected theorem Evolves.execGangCheck (h : Evolves s t) {c : Fin 4} : Answers s (execGangCheck c t) := h.gangCheck.next

protected theorem Evolves.gangDissolve (h : Evolves s t) {c : Fin 4} : Evolves s (gangDissolve t c) :=
  .ite ((h.each fun _ _ h => h.put.put).each fun _ _ h => (h.on fun _ h => h.put).squashEvery) h

protected theorem Evolves.execGangDissolve (h : Evolves s t) {c : Fin 4} : Answers s (execGangDissolve c t) :=
  h.gangDissolve.next

/-! ### Machine/PowerPath.lean -/

protected theorem Evolves.ppEvt (h : Evolves s t) {c i : Nat} : Evolves s (ppEvt t c i) := h.orF

protected theorem Evolves.budgetSegment (h : Evolves s t) {c : Nat} : Evolves s (budgetSegment t c) := h.sendRecord.put

protected theorem Evolves.rampStart (h : Evolves s t) {c new : Nat} : Evolves s (rampStart t c new) :=
  h.impDisturb.put.put.put.putI.budgetSegment

protected theorem Evolves.limitRise (h : Evolves s t) {c : Nat} : Evolves s (limitRise t c) :=
  .ite (h.put.on fun _ h => h.put.ppEvt) h

protected theorem Evolves.limitCut (h : Evolves s t) {c : Nat} : Evolves s (limitCut t c) := h.on fun _ h => h.rampStart

protected theorem Evolves.limitReview (h : Evolves s t) {c : Nat} : Evolves s (limitReview t c) := h.limitRise.limitCut

protected theorem Evolves.rampStep (h : Evolves s t) {c : Nat} : Evolves s (rampStep t c) := .ite h.put.put h

protected theorem Evolves.budgetWriteReg (h : Evolves s t) {k : Bool} {c : Fin 4} {which w : Nat} :
    Evolves s (budgetWriteReg t k c which w).1 :=
  h.specialRes fun _ _ h => h.ceiled fun _ _ h => h.storeFields.on fun _ h => h.limitCut

protected theorem Evolves.execBudgetWrite (h : Evolves s t) {a : Access} {c : Fin 4} {which : Fin 3} {w : BitVec 32} :
    Answers s (execBudgetWrite a c which w t) := (h.regOp fun _ _ h => h.budgetWriteReg).next

protected theorem Evolves.execRampDone (h : Evolves s t) {c : Fin 4} : Answers s (execRampDone c t) :=
  (Evolves.ite h.put.put.ppEvt h).next

protected theorem Evolves.execRecordRetire (h : Evolves s t) {c : Fin 4} {idx : Fin 16} :
    Answers s (execRecordRetire c idx t) := (h.retire.on fun _ h => h.budgetSegment).next

protected theorem Evolves.pdCutTo (h : Evolves s t) {c v : Nat} : Evolves s (pdCutTo t c v) :=
  .ite h.put h.put.put.ppEvt

protected theorem Evolves.pdBudgetWrite (h : Evolves s t) {k : Bool} {c : Fin 4} {w : Nat} :
    Evolves s (pdBudgetWrite t k c w).1 := by
  unfold pdBudgetWrite
  exact h.specialRes fun _ _ h => h.ceiled fun _ _ h => .ite h.storeFields.put.put
      (.ite h.storeFields.pdCutTo h.storeFields.put.put)

protected theorem Evolves.execPdCut (h : Evolves s t) {a : Access} {c : Fin 4} {w : BitVec 32} :
    Answers s (execPdCut a c w t) := (h.regOp fun _ _ h => h.pdBudgetWrite).next

protected theorem Evolves.execPdCutEnforced (h : Evolves s t) {c : Fin 4} : Answers s (execPdCutEnforced c t) :=
  (Evolves.ite h.put.put.ppEvt h).next

protected theorem Evolves.planChangeover (h : Evolves s t) {c : Nat} : Evolves s (planChangeover t c) :=
  .ite h.put h.sendRecord.put.put

protected theorem Evolves.ppCtlWrite (h : Evolves s t) {k : Bool} {c : Fin 4} {w : Nat} :
    Evolves s (ppCtlWrite t k c w).1 := h.specialWrite fun _ _ h => h.storeFields.on fun _ h => h.planChangeover

protected theorem Evolves.execPlannedChangeover (h : Evolves s t) {a : Access} {c : Fin 4} {w : BitVec 32} :
    Answers s (execPlannedChangeover a c w t) := (h.regOp fun _ _ h => h.ppCtlWrite).next

protected theorem Evolves.execRevert (h : Evolves s t) {c : Fin 4} : Answers s (execRevert c t) :=
  (Evolves.ite h.planChangeover h).next

protected theorem Evolves.pairOff (h : Evolves s t) {n : Nat} : Evolves s (pairOff t n) := .ite h.put.put h.put.put.portOff

protected theorem Evolves.execChangeoverLeadExpiry (h : Evolves s t) {c : Fin 4} :
    Answers s (execChangeoverLeadExpiry c t) := (Evolves.ite h.pairOff.put h).next

protected theorem Evolves.execOnCommand (h : Evolves s t) {c : Fin 4} : Answers s (execOnCommand c t) := by
  unfold execOnCommand
  refine Evolves.next ?_
  split
  · exact .ite h.put.put.put.portReview h
  · exact h

protected theorem Evolves.execSourceQualified (h : Evolves s t) {c : Fin 4} {m : Fin 2} :
    Answers s (execSourceQualified c m t) := (Evolves.ite (h.orF.on fun _ h => h.put) h).next

protected theorem Evolves.pairOnReport (h : Evolves s t) {n : Nat} : Evolves s (pairOnReport t n) :=
  .ite (h.orF.on fun _ h => h.pairOff.put) h

protected theorem Evolves.execPairOnReport (h : Evolves s t) {n : Fin 48} : Answers s (execPairOnReport n t) :=
  h.pairOnReport.next

protected theorem Evolves.pairOffReport (h : Evolves s t) {n : Nat} : Evolves s (pairOffReport t n) :=
  .ite h (.ite ((h.put.put.clrF.put.on fun _ h => h.put).on fun _ h => h.put) h.put.put)

protected theorem Evolves.execPairOffReport (h : Evolves s t) {n : Fin 48} : Answers s (execPairOffReport n t) :=
  h.pairOffReport.next

protected theorem Evolves.changeoverStep (h : Evolves s t) {c : Nat} : Evolves s (changeoverStep t c) := by
  unfold changeoverStep
  extract_lets m s1 s1'
  split
  · exact h.pairOff.put.put.ppEvt.impDisturb
  · split
    · exact h.put.put.ppEvt
    · exact (h.on fun _ h => h.put.impDisturb).on fun _ h => .ite h.planChangeover h.put

protected theorem Evolves.usableStep (h : Evolves s t) {c : Nat} : Evolves s (usableStep t c) :=
  .ite ((h.on fun _ h => h.put).put) h.putB

protected theorem Evolves.execBatteryUnusable (h : Evolves s t) {c : Fin 4} : Answers s (execBatteryUnusable c t) :=
  (Evolves.ite h (.ite ((h.put.put.put.each fun _ _ h => h.raiseEvent).ppEvt) h.put.put)).next

protected theorem Evolves.execBatteryUsable (h : Evolves s t) {c : Fin 4} : Answers s (execBatteryUsable c t) :=
  (Evolves.ite h.put.put h).next

protected theorem Evolves.supplementStep (h : Evolves s t) {c : Nat} : Evolves s (supplementStep t c) :=
  .ite (h.on fun _ h => h.put.put) (.ite h.put.put.ppEvt h.put)

protected theorem Evolves.setMode (h : Evolves s t) {c m : Nat} : Evolves s (setMode t c m) :=
  .ite h h.put.ppEvt.impDisturb

protected theorem Evolves.slewMove (h : Evolves s t) {c step : Nat} : Evolves s (slewMove t c step).2 := h.put.snd

protected theorem Evolves.sweepStep (h : Evolves s t) {c : Fin 4} {mode : Nat} {v : Int} :
    Evolves s (sweepStep t c mode v) := by
  unfold sweepStep
  split
  · exact h
  · extract_lets s1
    have h1 : Evolves s s1 := .ite ((h.each fun _ _ h => h.put).put) ((h.each fun _ _ h => h.putI).inc)
    exact h1.each fun _ _ h => h.putBit.on fun _ h => h.put

protected theorem Evolves.putTarget (h : Evolves s t) {c : Fin 4} {g : Nat} {v : Int} : Evolves s (putTarget t c g v) := by
  unfold putTarget
  extract_lets tgt s1 s2
  have h2 : Evolves s s2 := h.putI.put.each fun _ _ h => h.putI
  split
  · exact h2.putI
  · exact h2.put

protected theorem Evolves.shareAge (h : Evolves s t) {c : Fin 4} : Evolves s (shareAge t c) := h.putSat.on fun _ h => h.put

protected theorem Evolves.shareOutStep (h : Evolves s t) {c : Fin 4} : Evolves s (shareOutStep t c) :=
  .ite (.ite h.shareAge.putI.put h.shareAge.put.put) h.shareAge

protected theorem Evolves.gangStep (h : Evolves s t) {c : Fin 4} {own mode : Nat} :
    Evolves s (gangStep t c own mode) := .ite (h.put.putI.putI.each fun _ _ h => h.putI.put) h.put.putI.putI

protected theorem Evolves.staleStep (h : Evolves s t) {c : Fin 4} : Evolves s (staleStep t c) :=
  .ite h.slewMove.putTarget h.put

protected theorem Evolves.evalTarget (h : Evolves s t) {c : Fin 4} : Evolves s (evalTarget t c) := by
  unfold evalTarget
  extract_lets own ganged inForce x s1 mode cur v
  have h1 : Evolves s s1 := h.on fun _ h => h.gangStep
  split
  · exact h1.slewMove.putTarget.setMode
  · split
    · exact (h1.slewMove.putTarget.on fun _ h => h.put).setMode
    · exact h1.putTarget.setMode.sweepStep

protected theorem Evolves.arbEval (h : Evolves s t) {c : Fin 4} : Evolves s (arbEval t c) := by
  unfold arbEval
  extract_lets s' s1
  have h' : Evolves s s' := h.put
  split
  · exact h'
  · split
    · exact h'.usableStep.putTarget.setMode
    · have h1 : Evolves s s1 := h'.changeoverStep.limitReview.rampStep.usableStep
      exact .ite h1.staleStep h1.supplementStep.shareOutStep.evalTarget

protected theorem Evolves.execCombMark (h : Evolves s t) {c : Fin 4} : Answers s (execCombMark c t) :=
  (Evolves.ite h.combMark.rampShares.arbEval h).next

protected theorem Evolves.execStale (h : Evolves s t) {c : Fin 4} {q : Fin 48} : Answers s (execStale c q t) :=
  (Evolves.ite h (.ite h.putBit h.putBit.put.put.put.ppEvt.impDisturb)).next

protected theorem Evolves.execStaleRamp (h : Evolves s t) {c : Fin 4} : Answers s (execStaleRamp c t) :=
  (Evolves.ite h.put h).next

protected theorem Evolves.shedFeeder (h : Evolves s t) {c k : Nat} : Evolves s (shedFeeder t c k) :=
  (Evolves.ite h.orF.put h.orF.feederTurnOff).raiseEvent

protected theorem Evolves.drawWithin (h : Evolves s t) {c : Nat} : Evolves s (drawWithin t c) :=
  h.put.each fun _ _ h => h.causeEnds

protected theorem Evolves.shedCheck (h : Evolves s t) {c : Nat} : Evolves s (shedCheck t c) := by
  unfold shedCheck
  split
  · exact h
  · extract_lets s' page
    have h' : Evolves s s' := h.limitRise
    split
    · exact h'
    · split
      · exact h'.drawWithin
      · split
        · exact h'
        · split
          · exact h'.shedFeeder.put.ppEvt
          · exact .ite h' h'.raiseHeld.ppEvt

protected theorem Evolves.execShedCheck (h : Evolves s t) {c : Fin 4} : Answers s (execShedCheck c t) := h.shedCheck.next

protected theorem Evolves.shedStatWrite (h : Evolves s t) {k : Bool} {c : Fin 4} {w : Nat} :
    Evolves s (shedStatWrite t k c w).1 := h.specialWrite fun _ _ h => h.clrF.each fun _ _ h => h.portReview

protected theorem Evolves.execShedRestore (h : Evolves s t) {a : Access} {c : Fin 4} {w : BitVec 32} :
    Answers s (execShedRestore a c w t) := (h.regOp fun _ _ h => h.shedStatWrite).next

protected theorem Evolves.execSupExit (h : Evolves s t) {c : Fin 4} : Answers s (execSupExit c t) :=
  (Evolves.ite h.put.put.ppEvt h).next

protected theorem Evolves.execBatLow (h : Evolves s t) {c : Fin 4} : Answers s (execBatLow c t) :=
  (Evolves.ite ((h.ppEvt.each fun _ _ h => h.shedFeeder.ppEvt).pdCutTo) h).next

protected theorem Evolves.execShareLost (h : Evolves s t) {c : Fin 4} : Answers s (execShareLost c t) :=
  (Evolves.ite h.put.put.putB.ppEvt h).next

/-! ### Machine/Housekeeping.lean -/

protected theorem Evolves.convRefuse (h : Evolves s t) {m : Nat} : Evolves s (convRefuse t m) :=
  ((h.on fun _ h => h.inc).inc).evt

protected theorem Evolves.convStart (h : Evolves s t) {m i kind who : Nat} :
    Evolves s (convStart t m i kind who) := h.put.put.put.put.put.put

protected theorem Evolves.refSwitch (h : Evolves s t) {k r : Nat} : Evolves s (refSwitch t k r) := .ite h.put.put h

protected theorem Evolves.refReview (h : Evolves s t) : Evolves s (refReview t) := by
  unfold refReview
  extract_lets s1
  have h1 : Evolves s s1 := h.each fun _ _ h => h.refSwitch
  exact h1.on fun _ h => h.refSwitch

protected theorem Evolves.laneRefWriteReg (h : Evolves s t) {k : Bool} {w : Nat} : Evolves s (laneRefWriteReg t k w).1 :=
  h.specialWrite fun _ _ h => h.storeFields.refReview

protected theorem Evolves.execLaneRefWrite (h : Evolves s t) {a : Access} {w : BitVec 32} :
    Answers s (execLaneRefWrite a w t) := (h.regOp fun _ _ h => h.laneRefWriteReg).next

protected theorem Evolves.execSettled (h : Evolves s t) {conv : Fin 5} : Answers s (execSettled conv t) :=
  (Evolves.ite h h.put.evt.causeEnds).next

protected theorem Evolves.execRefTimeout (h : Evolves s t) {conv : Fin 5} : Answers s (execRefTimeout conv t) :=
  (Evolves.ite h (h.raiseHeld.convWithdraw.refReview.on fun _ h => h.put.restoreFails)).next

protected theorem Evolves.urgentDrop (h : Evolves s t) {who : Nat} : Evolves s (urgentDrop t who) :=
  h.inc.evt.on fun _ h => h.put

protected theorem Evolves.impPair (h : Evolves s t) {n : Nat} : Evolves s (impPair t n) :=
  .ite (h.put.each fun _ _ h => h.convStart) h

protected theorem Evolves.pairsFirst (h : Evolves s t) : Evolves s (pairsFirst t) := h.each fun _ _ h => h.impPair

protected theorem Evolves.urgentRequest (h : Evolves s t) {who i : Nat} : Evolves s (urgentRequest t who i) := by
  unfold urgentRequest
  split
  · exact h.urgentDrop
  · split
    · exact h.inc.evt.on fun _ h => h.put
    · extract_lets s'
      have h' : Evolves s s' := h.pairsFirst
      have h1 := h'.on (b := who == 0) (g := (·.put HKS_URGENT.RESULT 0)) fun _ h => h.put
      split
      · exact h1.convStart
      · split
        · split
          · exact h1.put
          · exact h1
        · exact h'.urgentDrop

protected theorem Evolves.urgentTake (h : Evolves s t) {q : Nat} : Evolves s (urgentTake t q) :=
  (h.each fun _ _ h => h.put).put

protected theorem Evolves.urgentServe (h : Evolves s t) {m : Nat} : Evolves s (urgentServe t m) := by
  unfold urgentServe
  split
  · split
    · exact h.urgentTake.convStart
    · exact h
  · exact h

protected theorem Evolves.urgentWrite (h : Evolves s t) {k : Bool} {w : Nat} : Evolves s (urgentWrite t k w).1 :=
  h.specialWrite fun _ _ h => .ite ((h.storeFields.on fun _ h => h.put).urgentRequest) h.storeFields

protected theorem Evolves.execUrgent (h : Evolves s t) {a : Access} {w : BitVec 32} :
    Answers s (execUrgent a w t) := (h.regOp fun _ _ h => h.urgentWrite).next

protected theorem Evolves.seqReview (h : Evolves s t) : Evolves s (seqReview t) := by
  unfold seqReview
  split
  · exact h.put.builtinReview.causeEnds
  · exact ((h.on fun _ h => h.put.put.evt).put).raiseHeld

protected theorem Evolves.hksCtlWrite (h : Evolves s t) {k : Bool} {w : Nat} : Evolves s (hksCtlWrite t k w).1 :=
  h.specialWrite fun _ _ h => h.storeFields.on fun _ h => h.seqReview

protected theorem Evolves.trigDrop (h : Evolves s t) : Evolves s (trigDrop t) := h.inc.evt

protected theorem Evolves.seqDue (h : Evolves s t) {q : Nat} : Evolves s (seqDue t q) :=
  .ite h.putBit (.ite h.putBit.evt h.trigDrop)

protected theorem Evolves.seqTrigger (h : Evolves s t) {q : Nat} : Evolves s (seqTrigger t q) :=
  .ite h.trigDrop (.ite h.seqDue h.inc)

protected theorem Evolves.execSeqTimer (h : Evolves s t) {t' : Fin 8} : Answers s (execSeqTimer t' t) :=
  (Evolves.ite (h.each fun _ _ h => h.seqTrigger) h).next

protected theorem Evolves.execPhaseEventTrigger (h : Evolves s t) {p : Fin 16} {ev : Fin 8} :
    Answers s (execPhaseEventTrigger p ev t) := (Evolves.ite (h.each fun _ _ h => h.seqTrigger) h).next

protected theorem Evolves.swTrigWrite (h : Evolves s t) {k : Bool} {w : Nat} : Evolves s (swTrigWrite t k w).1 :=
  h.specialWrite fun _ _ h => h.each fun _ _ h => h.seqTrigger

protected theorem Evolves.execSwTrig (h : Evolves s t) {a : Access} {w : BitVec 32} :
    Answers s (execSwTrig a w t) := (h.regOp fun _ _ h => h.swTrigWrite).next

protected theorem Evolves.execSequenceDue (h : Evolves s t) {q : Fin 32} : Answers s (execSequenceDue q t) :=
  (Evolves.ite h (.ite h.put.trigDrop h.put.seqDue)).next

protected theorem Evolves.seqEnd (h : Evolves s t) : Evolves s (seqEnd t) := h.put.put.putBit.on fun _ h => h.putBit.putBit

protected theorem Evolves.seqEndReview (h : Evolves s t) : Evolves s (seqEndReview t) :=
  (h.on fun _ h => h.seqEnd).builtinReview

protected theorem Evolves.stepStart (h : Evolves s t) {kind : Nat} {l : List (Nat × Nat)} :
    Evolves s (stepStart t kind l) := by
  refine (h.each fun _ _ h => .ite h.convStart h.convRefuse).each fun _ _ h => ?_
  split
  · exact .ite h.put h.convStart
  · exact h.convRefuse

protected theorem Evolves.runStep (h : Evolves s t) {q j : Nat} : Evolves s (runStep t q j) :=
  .ite (.ite h.put.blockRead.put.seqReview h.put.blockRead.stepStart.putB.seqEndReview) h

protected theorem Evolves.builtinStep (h : Evolves s t) : Evolves s (builtinStep t) := .ite h.stepStart.put.seqEndReview h

protected theorem Evolves.sequenceStep (h : Evolves s t) : Evolves s (sequenceStep t) := by
  unfold sequenceStep
  split
  · exact .ite h h.runStep
  · split
    · exact h.builtinStep
    · split
      · exact h.seqReview
      · split
        · exact h
        · exact .ite h.putBit (.ite h.putBit.put.put.put.runStep h)

protected theorem Evolves.execSequenceStepStart (h : Evolves s t) : Answers s (execSequenceStepStart t) :=
  (Evolves.ite h.pairsFirst.sequenceStep h).next

protected theorem Evolves.conversionEnd (h : Evolves s t) {m : Nat} {outside : Bool} :
    Evolves s (conversionEnd t m outside) := by
  unfold conversionEnd
  split
  · exact h
  · extract_lets kind s1 s2 s3 i
    have h1 : Evolves s s1 := h.put
    have h2 : Evolves s s2 := .ite h1 h1.put.put.put.put.put.put
    split
    · exact h2.convStart.inc
    · split
      · exact .ite h2.put.convStart h2.put.convRefuse.seqEndReview
      · exact h2.pairsFirst.urgentServe

protected theorem Evolves.execConversionEnd (h : Evolves s t) {lane : Fin 4} {outside : Bool} :
    Answers s (execConversionEnd lane outside t) := h.conversionEnd.next

protected theorem Evolves.staleRenew (h : Evolves s t) {c r : Nat} : Evolves s (staleRenew t c r) :=
  h.putBit.on fun _ h => h.put.put

protected theorem Evolves.combKeeps (h : Evolves s t) {c r i : Nat} {x : Tagged} :
    Evolves s (combKeeps t c r i x) := .ite h.putI (.ite h.putI.put (.ite h.putI.put h))

protected theorem Evolves.reverseReview (h : Evolves s t) {n : Nat} : Evolves s (reverseReview t n) :=
  h.on fun _ h => h.portReview

protected theorem Evolves.busKeeps (h : Evolves s t) {n : Nat} {x : Tagged} : Evolves s (busKeeps t n x) :=
  h.putI.reverseReview

protected theorem Evolves.portKeeps (h : Evolves s t) {n r i : Nat} {x : Tagged} :
    Evolves s (portKeeps t n r i x) := by
  unfold portKeeps
  split
  · exact h.putI.put
  · split
    · exact h.putI.put.reverseReview.on fun _ h => h.putB.disReview.pdWaitReview
    · exact .ite h.putI.putB.put h

protected theorem Evolves.thermalKeeps (h : Evolves s t) {t' : Nat} {x : Tagged} :
    Evolves s (thermalKeeps t t' x) := h.putI.put.putB.put

protected theorem Evolves.deliver (h : Evolves s t) {i : Nat} {x : Tagged} : Evolves s (deliver t i x) := by
  unfold deliver
  extract_lets c r s2 s1
  have h1 : Evolves s s1 := .ite
      (.ite (.ite ((Evolves.ite (h.onTagged fun _ h => h.combKeeps.staleRenew) h).onTagged fun _ h => h.portKeeps)
      (.ite ((Evolves.ite (h.onTagged fun _ h => h.combKeeps.staleRenew) h).each fun _ _ h => h.onTagged fun _ h =>
      h.busKeeps) (.ite (h.onTagged fun _ h => h.combKeeps.staleRenew) h))) h) h
  split
  · exact h1.thermalKeeps
  · exact h1

protected theorem Evolves.ovrRecord (h : Evolves s t) {i : Nat} : Evolves s (ovrRecord t i) := .ite h h.putBit.evt

protected theorem Evolves.valueGoes (h : Evolves s t) {i kind who td : Nat} {x : Tagged} :
    Evolves s (valueGoes t i kind who td x) := by
  unfold valueGoes
  extract_lets test s1 s2 s3
  have h1 : Evolves s s1 := .ite h.ovrRecord h
  split
  · exact h1.accPair
  · have h2 : Evolves s s2 := h1.accDeliver.mmtDeliver
    have h3 : Evolves s s3 := .ite h2.accAlso h2
    exact .ite h3 h3.deliver

protected theorem Evolves.valueAvailable (h : Evolves s t) {i raw : Nat} {birthOk : Bool} {upset : BitVec 16} :
    Evolves s (valueAvailable t i raw birthOk upset) := by
  unfold valueAvailable
  split
  · exact h
  · extract_lets k kind who td s0 s1 s2
    have h0 : Evolves s s0 := h.put
    have h1 : Evolves s s1 := .ite h0.tagError (.ite h0 h0.valueGoes)
    exact (h1.on fun _ h => h.put.evt).seqEndReview

protected theorem Evolves.execValueAvailable (h : Evolves s t) {input : Fin 256} {raw : BitVec 12} {birthOk : Bool}
    {upset : BitVec 16} :
    Answers s (execValueAvailable input raw birthOk upset t) := (Evolves.ite h.valueAvailable h).next

protected theorem Evolves.calConvert (h : Evolves s t) {x : Nat} : Evolves s (calConvert t x) := h.convRole.put.put

protected theorem Evolves.calLane (h : Evolves s t) {m : Nat} : Evolves s (calLane t m) := h.put.put.put.refSwitch

protected theorem Evolves.calEnd (h : Evolves s t) : Evolves s (calEnd t) := h.put.put.put.put

protected theorem Evolves.calGo (h : Evolves s t) {target : Nat} : Evolves s (calGo t target) := by
  unfold calGo
  extract_lets sp s1
  split
  · exact h
  · split
    · exact h.put.raiseEvent
    · split
      · exact h.put
      · have h1 : Evolves s s1 := h.put
        split
        · exact h1.put.put.put.calConvert
        · split
          · exact h1.put.calConvert
          · split
            · exact h1.calLane
            · exact h.put

protected theorem Evolves.hksCalWrite (h : Evolves s t) {k : Bool} {w : Nat} : Evolves s (hksCalWrite t k w).1 :=
  h.specialWrite fun _ _ h => ((h.storeFields (regLayout_sparesMode _ _).filter)).on fun _ h => h.calGo

protected theorem Evolves.execCalibration (h : Evolves s t) {a : Access} {w : BitVec 32} :
    Answers s (execCalibration a w t) := (h.regOp fun _ _ h => h.hksCalWrite).next

protected theorem Evolves.execAutoCalibration (h : Evolves s t) : Answers s (execAutoCalibration t) :=
  (Evolves.ite h.calGo h).next

protected theorem Evolves.laneHandover (h : Evolves s t) : Evolves s (laneHandover t) :=
  .ite (.ite h.setLane.put.convRole.put.convRole.calEnd.convMark.maintEnd h.setLane.put.convRole.calConvert) h

protected theorem Evolves.execLaneHandover (h : Evolves s t) : Answers s (execLaneHandover t) := h.laneHandover.next

protected theorem Evolves.calNext (h : Evolves s t) : Evolves s (calNext t) := by
  unfold calNext
  split
  · exact .ite h.put.calLane h.calEnd
  · exact h.calEnd

protected theorem Evolves.calDone (h : Evolves s t) {ofs : BitVec 12} {gain : BitVec 16} :
    Evolves s (calDone t ofs gain) := by
  unfold calDone
  extract_lets x s1 s2 s3 s1'
  split
  · exact h
  · split
    · exact h.put.put.put.inc.convRole.put.put.evt.causeEnds.calNext.on fun _ h => h.put.convMark.maintEnd
    · exact h.convRole.put.raiseHeld.calEnd.on fun _ h => h.put.restoreFails

protected theorem Evolves.execCalDone (h : Evolves s t) {ofs : BitVec 12} {gain : BitVec 16} :
    Answers s (execCalDone ofs gain t) := h.calDone.next

protected theorem Evolves.testDiscard (h : Evolves s t) {i : Nat} : Evolves s (testDiscard t i) := h.each fun _ _ h => h.put

protected theorem Evolves.tdacWriteReg (h : Evolves s t) {k : Bool} {w : Nat} : Evolves s (tdacWriteReg t k w).1 := by
  unfold tdacWriteReg
  exact h.specialWrite fun _ _ h => .ite h.storeFields
      ((h.storeFields.put.on fun _ h => h.put.put.testDiscard).on fun _ h => h.testDiscard)

protected theorem Evolves.execTdacWrite (h : Evolves s t) {a : Access} {w : BitVec 32} :
    Answers s (execTdacWrite a w t) := (h.regOp fun _ _ h => h.tdacWriteReg).next

protected theorem Evolves.execTdacReady (h : Evolves s t) : Answers s (execTdacReady t) :=
  (Evolves.ite h.put.put.evt h.put).next

protected theorem Evolves.chWrite (h : Evolves s t) {k : Bool} {off w : Nat} : Evolves s (chWrite t k off w).1 :=
  h.put.put.put.plainWrite.put.put.put.put.put.put.fst

protected theorem Evolves.accCapture (h : Evolves s t) {path : Fin 4} {a : Nat} : Evolves s (accCapture t path a) :=
  h.put.put.putI.put.putI.put.put.put

protected theorem Evolves.hksWake (h : Evolves s t) : Evolves s (hksWake t) :=
  ((h.each fun _ _ h => h.accClear).each fun _ _ h => h.mmtClear).each fun _ _ h => h.put

/-! ### Machine/Slots.lean -/

protected theorem Evolves.wdgRecord (h : Evolves s t) {cause slot : Nat} : Evolves s (wdgRecord t cause slot) :=
  h.setRetWord.setRetWord.setRetWord.setRetWord

protected theorem Evolves.wdgCauseBit (h : Evolves s t) {cause slot : Nat} : Evolves s (wdgCauseBit t cause slot) := by
  unfold wdgCauseBit
  split
  · exact h.put
  · exact h.put
  · exact h.orF
  · exact h.orF
  · exact h.put
  · exact h.put

protected theorem Evolves.wdgCycleBit (h : Evolves s t) {cause slot : Nat} : Evolves s (wdgCycleBit t cause slot) := by
  unfold wdgCycleBit
  split
  · exact h.orF
  · exact h.orF
  · exact h.orF
  · exact h.orF
  · exact h.orF
  · exact h.orF

protected theorem Evolves.wdgFail (h : Evolves s t) {cause slot : Nat} : Evolves s (wdgFail t cause slot) :=
  ((((((h.on fun _ h => h.put.put.put.put.put).wdgRecord).wdgCauseBit).wdgCycleBit).put).evt).raiseHeld

protected theorem Evolves.wdgServed (h : Evolves s t) : Evolves s (wdgServed t) := h.put.evt

protected theorem Evolves.hwServe (h : Evolves s t) : Evolves s (hwServe t) := .ite h.wdgServed h

protected theorem Evolves.checkSlot (h : Evolves s t) {n : Nat} : Evolves s (checkSlot t n) := .ite h.wdgFail h.putBit

protected theorem Evolves.internalCheckin (h : Evolves s t) {code : Nat} : Evolves s (internalCheckin t code) :=
  (h.each fun _ _ h => h.checkSlot).hwServe

/-! ### Machine/Charge.lean -/

protected theorem Evolves.chgPorts (h : Evolves s t) {n mode : Nat} : Evolves s (chgPorts t n mode) :=
  h.each fun _ _ h => .ite (.ite h.chgOpen h) (.ite (h.on fun _ h => h.portReview) (.ite h h.put.portReview))

protected theorem Evolves.enterState (h : Evolves s t) {n a st cause ex : Nat} :
    Evolves s (enterState t n a st cause ex) := h.stateEnter.chgPorts

protected theorem Evolves.enterStart (h : Evolves s t) {n a cause : Nat} :
    Evolves s (enterStart t n a cause) := h.put.put.enterState

protected theorem Evolves.restart (h : Evolves s t) {n a : Nat} : Evolves s (restart t n a) :=
  h.put.put.put.causeEnds.enterStart

protected theorem Evolves.currentStep (h : Evolves s t) {f : Nat} : Evolves s (currentStep t f) :=
  h.onTagged fun _ h => .ite h.putI.put.put h.putI.put.put.putI.put

protected theorem Evolves.feedStep (h : Evolves s t) {n j : Nat} : Evolves s (feedStep t n j) := .ite h.put.put h.inc

protected theorem Evolves.feedReview (h : Evolves s t) {n : Nat} : Evolves s (feedReview t n) :=
  h.on fun _ h => h.put.causeEnds

protected theorem Evolves.tempStep (h : Evolves s t) {n : Nat} : Evolves s (tempStep t n) := by
  unfold tempStep
  extract_lets l r
  have hr : Evolves s r.2 := by
    refine Evolves.foldl (st := Prod.snd) (fun q x hq => ?_) h
    exact hq.tagCheck.snd
  clear_value r l
  split
  · exact h
  · exact .ite hr.putI.put hr

protected theorem Evolves.chargeStep (h : Evolves s t) {n : Nat} : Evolves s (chargeStep t n) := h.putI.putI.putI.putI

protected theorem Evolves.exitCounts (h : Evolves s t) {n a : Nat} : Evolves s (exitCounts t n a) :=
  .ite h (h.each fun _ _ h => .ite h.inc h.put)

protected theorem Evolves.limitedStep (h : Evolves s t) {n : Nat} : Evolves s (limitedStep t n) :=
  h.putB.on fun _ h => h.evt.impLimited.on fun _ h => h.rearm

protected theorem Evolves.timerStep (h : Evolves s t) {n a : Nat} : Evolves s (timerStep t n a) :=
  .ite h (((h.put.on fun _ h => h.put).put).put)

protected theorem Evolves.formSetpoints (h : Evolves s t) {n a : Nat} : Evolves s (formSetpoints t n a) :=
  (h.put.put.on fun _ h => h.rearm).chgPorts

protected theorem Evolves.measures (h : Evolves s t) {n : Nat} : Evolves s (measures t n) :=
  (Evolves.foldl (st := id) (fun _ _ h => h.currentStep) h).tempStep.feedStep.feedStep.feedReview

protected theorem Evolves.quantities (h : Evolves s t) {n a : Nat} : Evolves s (quantities t n a) := by
  unfold quantities
  extract_lets s3
  have h3 : Evolves s s3 := h.measures.chargeStep.limitedStep.timerStep
  exact h3.on fun _ h => h.putI.inc

protected theorem Evolves.vcellStep (h : Evolves s t) {n a : Nat} : Evolves s (vcellStep t n a) :=
  .ite (h.put.on fun _ h => h.raiseHeld) h.put.causeEnds

protected theorem Evolves.marginStep (h : Evolves s t) {n a : Nat} : Evolves s (marginStep t n a) := by
  unfold marginStep
  split
  · exact h.on fun _ h => h.impAbort
  · exact h

protected theorem Evolves.transition (h : Evolves s t) {n a : Nat} : Evolves s (transition t n a).1 := by
  unfold transition
  extract_lets cmd arg s0
  have h0 : Evolves s s0 := h.put
  split
  · exact h0.restart.fst
  · split
    · exact h0.causeEnds.enterState.fst
    · split
      · exact h0.fst
      · split
        · exact h0.raiseEvent.timeoutEnter.fst
        · split
          · exact ((h0.on fun _ h => h.evt).enterState).fst
          · exact h0.fst

protected theorem Evolves.engineStart (h : Evolves s t) {n a : Nat} : Evolves s (engineStart t n a) :=
  h.fresh.put.put.put.enterStart

protected theorem Evolves.nullEval (h : Evolves s t) {n : Nat} : Evolves s (nullEval t n) :=
  h.put.put.each fun _ _ h => h.chgOpen

protected theorem Evolves.followEval (h : Evolves s t) {n : Nat} : Evolves s (followEval t n) :=
  .ite ((Evolves.ite h.put.chgOpen h.put).raiseHeld) h.put.put.put.put.put.causeEnds

protected theorem Evolves.profileEval (h : Evolves s t) {n a : Nat} : Evolves s (profileEval t n a).1 := by
  unfold profileEval
  extract_lets st t' s1 t''
  split
  · exact h.quantities.engineStart.formSetpoints.fst
  · split
    · exact h.measures.put.restart.formSetpoints.fst
    · split
      · exact h.measures.put.put.fst
      · split
        · exact (h.measures.transition.on fun _ h => h.formSetpoints).fst
        · exact h.quantities.exitCounts.vcellStep.marginStep.transition.formSetpoints.fst

protected theorem Evolves.evalStep (h : Evolves s t) {n : Nat} : Evolves s (evalStep t n).1 := by
  unfold evalStep
  split
  · exact h.nullEval.fst
  · split
    · exact h.followEval.fst
    · split
      · exact h.measures.fst
      · exact h.profileEval

protected theorem Evolves.evaluate (h : Evolves s t) {n : Nat} : Evolves s (evaluate t n).1 :=
  .ite_fst h.evalStep.internalCheckin.fst h.fst

protected theorem Evolves.execEvaluation (h : Evolves s t) {n : Fin 8} : Answers s (execEvaluation n t) := h.evaluate.next

protected theorem Evolves.execExitMet (h : Evolves s t) {n : Fin 8} {e : Fin 4} : Answers s (execExitMet n e t) :=
  (Evolves.ite h.evaluate h).next

protected theorem Evolves.execChargeTimeout (h : Evolves s t) {n : Fin 8} : Answers s (execChargeTimeout n t) :=
  (Evolves.ite h.evaluate h).next

protected theorem Evolves.execVcellHigh (h : Evolves s t) {n : Fin 8} : Answers s (execVcellHigh n t) :=
  (Evolves.ite h.evaluate h).next

protected theorem Evolves.execStaleInput (h : Evolves s t) {n : Fin 8} : Answers s (execStaleInput n t) :=
  (Evolves.ite h.raiseHeld.put.chgZero h).next

protected theorem Evolves.blockCurrent (h : Evolves s t) {f : Nat} : Evolves s (blockCurrent t f).2 :=
  .ite_snd h.putI.put.put.snd h.putI.put.put.snd

protected theorem Evolves.peakStep (h : Evolves s t) {n a : Nat} {i : Int} : Evolves s (peakStep t n a i) :=
  .ite h.put (.ite h.rearm (.ite h.put.putSat.put.put h.put.putSat.putSat))

protected theorem Evolves.blockClose (h : Evolves s t) {n a : Nat} : Evolves s (blockClose t n a) := by
  unfold blockClose
  extract_lets v cnt base
  have hb : ∀ u, Evolves s u → Evolves s (base u) := fun _ h => h.putI.put.put
  refine .ite (hb _ h) (.ite h (h.onTagged fun u hu => ?_))
  extract_lets dn i mean s1 s2 r
  have h2 : Evolves s s2 := (hb u hu).put.put.put.putSat
  have hr : Evolves s r.2 := by
    refine Evolves.foldl (st := Prod.snd) (fun q x hq => ?_) h2
    exact hq.blockCurrent.snd
  exact hr.peakStep.putI.put.put

protected theorem Evolves.execBlockClose (h : Evolves s t) {n : Fin 8} : Answers s (execBlockClose n t) := by
  unfold execBlockClose
  refine Evolves.next ?_
  split
  · exact .ite h.blockClose h
  · exact h

protected theorem Evolves.dtdtStep (h : Evolves s t) {n : Nat} : Evolves s (dtdtStep t n) := by
  unfold dtdtStep
  extract_lets mean s1 s2 s3
  have h3 : Evolves s s3 := (h.each fun _ _ h => h.put).putI.put.put.put
  exact .ite h3.putI.put h3

protected theorem Evolves.execDtdtUpdate (h : Evolves s t) {n : Fin 8} : Answers s (execDtdtUpdate n t) :=
  (Evolves.ite h.dtdtStep h).next

protected theorem Evolves.dtdtClear (h : Evolves s t) {n : Nat} : Evolves s (dtdtClear t n) := h.put.put.put.put

protected theorem Evolves.ckSave (h : Evolves s t) {n : Nat} : Evolves s (ckSave t n) := (h.each fun _ _ h => h.put).put

theorem liveFields_ne_mode {n : Nat} : ∀ f ∈ liveFields n, f.id ≠ HIVE_MODE.MODE.id := by
  intro f hf
  simp only [liveFields, List.mem_cons, List.not_mem_nil, or_false] at hf
  rcases hf with rfl | rfl | rfl | rfl | rfl | rfl | rfl | rfl | rfl | rfl | rfl | rfl | rfl | rfl | rfl | rfl | rfl | rfl |
      rfl | rfl | rfl | rfl | rfl | rfl | rfl | rfl | rfl | rfl <;> exact Fld.id_ne_mode rfl (by omega)

protected theorem Evolves.ckLoad (h : Evolves s t) {n : Nat} : Evolves s (ckLoad t n) :=
  h.eachMem fun _ _ hx h => h.put (liveFields_ne_mode _ (List.fst_mem_of_mem_zipIdx hx))

protected theorem Evolves.probeStart (h : Evolves s t) {n : Nat} : Evolves s (probeStart t n) :=
  .ite h (((((((Evolves.ite h h.ckSave).put).inc).put).put).putI).impAbort)

protected theorem Evolves.execProbeTrigger (h : Evolves s t) {n : Fin 8} : Answers s (execProbeTrigger n t) :=
  (Evolves.ite h.probeStart h).next

protected theorem Evolves.execPeriodicProbe (h : Evolves s t) {n : Fin 8} : Answers s (execPeriodicProbe n t) :=
  (Evolves.ite h.probeStart h).next

protected theorem Evolves.confirmAbsent (h : Evolves s t) {n : Nat} : Evolves s (confirmAbsent t n) := by
  unfold confirmAbsent
  extract_lets l s1 s2 s3 s4
  have h2 : Evolves s s2 := h.chgOpen.put.put.put.evt.inc.raiseHeld
  split
  · have h3 : Evolves s s3 := h2.impState.lastPut.put.put.put
    have h4 : Evolves s s4 := by
      unfold s4
      split
      · exact h3.showState
      · exact h3.put.put.put
    exact h4.put.put.evt
  · exact h2

protected theorem Evolves.commitReview (h : Evolves s t) {n : Nat} : Evolves s (commitReview t n) := by
  unfold commitReview
  extract_lets s1
  have h1 : Evolves s s1 := (h.each fun _ _ h => h.put).impAbort
  split
  · split
    · exact h1.raiseHeld
    · exact .ite h1.raiseHeld (h1.causeEnds.on fun _ h => h.showState.on fun _ h => h.put)
  · exact h1

protected theorem Evolves.commitAfterProbe (h : Evolves s t) {n : Nat} : Evolves s (commitAfterProbe t n) :=
  h.on fun _ h => h.put.commitReview

protected theorem Evolves.execProbeEnd (h : Evolves s t) {n : Fin 8} {below : Bool} :
    Answers s (execProbeEnd n below t) :=
  (Evolves.ite h ((Evolves.ite h.put.confirmAbsent h.put.evt).commitAfterProbe)).next

protected theorem Evolves.nickelRestart (h : Evolves s t) {n a : Nat} : Evolves s (nickelRestart t n a) :=
  .ite (h.rearm.each fun _ _ h => h.put) h

protected theorem Evolves.resumeState (h : Evolves s t) {n a : Nat} : Evolves s (resumeState t n a) :=
  .ite h.raiseHeld h.ckLoad.dtdtClear.lastPut.showState.put.put.evt.nickelRestart.chgPorts

protected theorem Evolves.batteryReturn (h : Evolves s t) {n a : Nat} : Evolves s (batteryReturn t n a) := by
  unfold batteryReturn
  extract_lets l s1
  have h1 : Evolves s s1 := h.put.evt.causeEnds.dtdtClear
  split
  · exact h1.chgPorts
  · exact .ite h1.put.restart (.ite h1.resumeState h1.raiseEvent.evt.enterStart)

protected theorem Evolves.execBatteryReturn (h : Evolves s t) {n : Fin 8} : Answers s (execBatteryReturn n t) := by
  unfold execBatteryReturn
  refine Evolves.next ?_
  split
  · exact .ite h.batteryReturn h
  · exact h

protected theorem Evolves.execLampPatternChange (h : Evolves s t) {m : Fin 8} : Answers s (execLampPatternChange m t) :=
  h.put.next

protected theorem Evolves.profileReview (h : Evolves s t) {n : Nat} : Evolves s (profileReview t n) :=
  .ite h.raiseHeld h.causeEnds

protected theorem Evolves.chgCtlWrite (h : Evolves s t) {k : Bool} {n w : Nat} : Evolves s (chgCtlWrite t k n w).1 := by
  unfold chgCtlWrite
  exact h.specialWrite fun _ _ h =>
      (((((h.storeFields.on fun _ h => h.impAbort).on fun _ h => h.put.put).putB).on fun _ h => h.profileReview).on fun _ h =>
      h.causeEnds).on fun _ h => h.impState.put.chgOpen

protected theorem Evolves.execEngineEnable (h : Evolves s t) {a : Access} {n : Fin 8} {w : BitVec 32} :
    Answers s (execEngineEnable a n w t) := (h.regOp fun _ _ h => h.chgCtlWrite).next

protected theorem Evolves.execProfileWrite (h : Evolves s t) {a : Access} {n : Fin 8} {w : BitVec 32} :
    Answers s (execProfileWrite a n w t) := (h.regOp fun _ _ h => h.chgCtlWrite).next

protected theorem Evolves.chgCmdWrite (h : Evolves s t) {k : Bool} {n w : Nat} : Evolves s (chgCmdWrite t k n w).1 := by
  refine h.specialWrite fun _ _ h => ?_
  split
  · exact h.put
  · exact h.put
  · exact h.put.put
  · exact h

protected theorem Evolves.execRestart (h : Evolves s t) {a : Access} {n : Fin 8} :
    Answers s (execRestart a n t) := (h.regOp fun _ _ h => h.chgCmdWrite).next

protected theorem Evolves.execGotoState (h : Evolves s t) {a : Access} {n : Fin 8} {arg : BitVec 8} :
    Answers s (execGotoState a n arg t) := (h.regOp fun _ _ h => h.chgCmdWrite).next

protected theorem Evolves.execClearTotal (h : Evolves s t) {a : Access} {n : Fin 8} :
    Answers s (execClearTotal a n t) := (h.regOp fun _ _ h => h.chgCmdWrite).next

protected theorem Evolves.chgAbsWrite (h : Evolves s t) {k : Bool} {n w : Nat} : Evolves s (chgAbsWrite t k n w).1 :=
  h.specialWrite fun _ _ h => h.storeFields.put

protected theorem Evolves.chgAccWrite (h : Evolves s t) {k : Bool} {n w : Nat} : Evolves s (chgAccWrite t k n w).1 := by
  unfold chgAccWrite
  exact h.specialWrite fun _ _ h => (h.storeFields.on fun _ h => h.putI.put.put.put.put).on fun _ h =>
      h.putI.put.put.putI.put.put.put.put

protected theorem Evolves.chgTrimWrite (h : Evolves s t) {k : Bool} {n w : Nat} :
    Evolves s (chgTrimWrite t k n w).1 := h.specialRes fun _ _ h => h.ceiled fun _ _ h => h.storeFields

protected theorem Evolves.chgCommit (h : Evolves s t) : Evolves s (chgCommit t) :=
  h.each fun _ _ h => .ite h.put h.commitReview

protected theorem Evolves.chgWake (h : Evolves s t) : Evolves s (chgWake t) := by
  refine h.each fun _ _ h => ?_
  extract_lets s1
  split
  · exact .ite h.dtdtClear.rearm h.dtdtClear
  · exact h.dtdtClear

/-! ### Machine/Impedance.lean -/

protected theorem Evolves.impRequest (h : Evolves s t) {n : Nat} : Evolves s (impRequest t n) :=
  .ite h (.ite h.put.orF h.put.put.put.put.put)

protected theorem Evolves.impCtlWrite (h : Evolves s t) {k : Bool} {n w : Nat} : Evolves s (impCtlWrite t k n w).1 :=
  h.specialWrite fun _ _ h => (h.storeFields.on fun _ h => h.impAbort).on fun _ h => h.impRequest

protected theorem Evolves.execSweepRequest (h : Evolves s t) {a : Access} {n : Fin 8} {w : BitVec 32} :
    Answers s (execSweepRequest a n w t) := (h.regOp fun _ _ h => h.impCtlWrite).next

protected theorem Evolves.execAutoSweep (h : Evolves s t) {n : Fin 8} : Answers s (execAutoSweep n t) := by
  unfold execAutoSweep
  refine Evolves.next ?_
  split
  · exact .ite h.impRequest h
  · exact h

protected theorem Evolves.execSweepAbort (h : Evolves s t) {n : Fin 8} : Answers s (execSweepAbort n t) := h.impAbort.next

protected theorem Evolves.pointAwait (h : Evolves s t) {n t' p : Nat} : Evolves s (pointAwait t n t' p) :=
  h.put.put.put.put.put

protected theorem Evolves.sohStore (h : Evolves s t) {n t' : Nat} : Evolves s (sohStore t n t') := by
  unfold sohStore
  extract_lets p
  split
  · exact h
  · exact .ite (h.putI.putI.put.put.on fun _ h => h.orF) h

protected theorem Evolves.pointNext (h : Evolves s t) {n t' : Nat} : Evolves s (pointNext t n t') :=
  .ite h.orF.pointAwait h.orF.impStop.sohStore.put.inc.put.put.putB.orF.rearm

protected theorem Evolves.sweepResume (h : Evolves s t) {n : Nat} : Evolves s (sweepResume t n) := by
  unfold sweepResume
  extract_lets others
  split
  · split
    · exact ((((((((h.on fun _ h => h.pointsClear).put).put).put).put).put).put).orF).pointAwait
    · exact h
  · exact h

protected theorem Evolves.execSweepResume (h : Evolves s t) {n : Fin 8} : Answers s (execSweepResume n t) :=
  h.sweepResume.next

protected theorem Evolves.pointSkip (h : Evolves s t) {n : Nat} : Evolves s (pointSkip t n) := h.put.put.put.put.put

protected theorem Evolves.pointBegin (h : Evolves s t) {n t' : Nat} : Evolves s (pointBegin t n t') := by
  unfold pointBegin
  extract_lets s1 s2
  have h2 : Evolves s s2 := (h.on fun _ h => h.put.put.put.put).put
  exact .ite h2.pointSkip.pointNext h2.put.put

protected theorem Evolves.impTurn (h : Evolves s t) {n : Nat} : Evolves s (impTurn t n) := h.put.each fun _ _ h => h.put

protected theorem Evolves.impZero (h : Evolves s t) {n t' : Nat} : Evolves s (impZero t n t') :=
  .ite h ((Evolves.ite h.pointBegin h.inc).put)

protected theorem Evolves.pairRequest (h : Evolves s t) {n : Nat} {on : Bool} : Evolves s (pairRequest t n on) :=
  h.put.each fun _ _ h => h.put.putB

protected theorem Evolves.impStepK (h : Evolves s t) {n t' : Nat} : Evolves s (impStepK t n t') :=
  ((Evolves.ite h.impTurn.impZero h.impTurn).putI).on fun _ h => h.pairRequest

protected theorem Evolves.tailStep (h : Evolves s t) {n : Nat} : Evolves s (tailStep t n) :=
  .ite h.impTurn.pairRequest.put.put.put h.impTurn.pairRequest.putI

protected theorem Evolves.execImpStep (h : Evolves s t) {n : Fin 8} : Answers s (execImpStep n t) := by
  unfold execImpStep
  refine Evolves.next ?_
  split
  · exact h
  · split
    · exact h.tailStep
    · split
      · exact .ite h.impStepK h
      · exact h

protected theorem Evolves.execImpedancePair (h : Evolves s t) {n : Fin 8} : Answers s (execImpedancePair n t) :=
  (Evolves.ite h.impPair h).next

protected theorem Evolves.impClaim (h : Evolves s t) {n : Nat} : Evolves s (impClaim t n) :=
  h.each fun _ _ h => h.each fun _ _ h => h.accClear.put.put.put

protected theorem Evolves.execSettleDone (h : Evolves s t) {n : Fin 8} : Answers s (execSettleDone n t) := by
  unfold execSettleDone
  refine Evolves.next ?_
  split
  · exact .ite (h.impClaim.put.put.each fun _ _ h => h.put) h
  · exact h

protected theorem Evolves.execIntegrationDone (h : Evolves s t) {n : Fin 8} : Answers s (execIntegrationDone n t) := by
  unfold execIntegrationDone
  refine Evolves.next ?_
  split
  · exact .ite h.impUnclaim.put h
  · exact h

protected theorem Evolves.sumsCheck (h : Evolves s t) {n : Nat} : Evolves s (sumsCheck t n).2 := by
  refine Evolves.foldl (st := Prod.snd) (fun q x hq => ?_) h
  exact hq.tagCheck.snd

protected theorem Evolves.pointResult (h : Evolves s t) {n t' : Nat} : Evolves s (pointResult t n t') :=
  h.sumsCheck.put.putI.putI.put.put.pointNext

protected theorem Evolves.execPointResult (h : Evolves s t) {n : Fin 8} : Answers s (execPointResult n t) := by
  unfold execPointResult
  refine Evolves.next ?_
  split
  · exact .ite h.pointResult h
  · exact h

/-! ### Machine/Integrity.lean -/

protected theorem Evolves.passEnd (h : Evolves s t) {n j : Nat} : Evolves s (passEnd t n j) :=
  h.inc.evt.put.on fun _ h => h.raiseEvent

protected theorem Evolves.scrubRead (h : Evolves s t) {j w : Nat} {upset : BitVec 8} : Evolves s (scrubRead t j w upset) := by
  unfold scrubRead
  extract_lets m s1 s2
  have h2 : Evolves s s2 := (Evolves.ite h h.setEcc).eccRead
  exact .ite h2.setEcc.inc h2

protected theorem Evolves.execSramScrub (h : Evolves s t) {upset : BitVec 8} : Answers s (execSramScrub upset t) :=
  (Evolves.ite (h.scrubRead.put.on fun _ h => h.passEnd) h).next

protected theorem Evolves.execRetentionScrub (h : Evolves s t) {upset : BitVec 8} :
    Answers s (execRetentionScrub upset t) := (h.scrubRead.put.on fun _ h => h.passEnd).next

protected theorem Evolves.execMramScrub (h : Evolves s t) {upset : BitVec 8} : Answers s (execMramScrub upset t) :=
  (Evolves.ite (h.scrubRead.put.on fun _ h => h.passEnd) h).next

protected theorem Evolves.execRetentionShadowCopy (h : Evolves s t) {word : Fin 512} :
    Answers s (execRetentionShadowCopy word t) := (Evolves.ite h h.setDouble).next

protected theorem Evolves.retRestore (h : Evolves s t) {w : Nat} : Evolves s (retRestore t w) := h.setRetWord.setRetWord

protected theorem Evolves.execRetentionRestore (h : Evolves s t) {word : Fin 512} :
    Answers s (execRetentionRestore word t) := (Evolves.ite h.retRestore h).next

protected theorem Evolves.retAccess (h : Evolves s t) {k : Bool} {w : Option Nat} : Evolves s (retAccess t k w).1 := by
  unfold retAccess
  extract_lets i bump
  have hb : ∀ u, Evolves s u → Evolves s (bump u) := fun _ h => h.put
  split
  · exact hb _ h.eccRead
  · extract_lets changed code
    split
    · exact hb _ h.refusal
    · split
      · exact hb _ h.setRetWord
      · exact hb _ h

protected theorem Evolves.memInjWrite (h : Evolves s t) {k : Bool} {n w : Nat} : Evolves s (memInjWrite t k n w).1 :=
  h.put.putB.refusal.fst

protected theorem Evolves.execInjectionArm (h : Evolves s t) {a : Access} {mram : Bool} {w : BitVec 32} :
    Answers s (execInjectionArm a mram w t) := (h.regOp fun _ _ h => h.memInjWrite).next

protected theorem Evolves.tagInjWrite (h : Evolves s t) {k : Bool} {w : Nat} : Evolves s (tagInjWrite t k w).1 :=
  (((h.on fun _ h => (h.storeFields (regLayout_sparesMode _ _).filter)).putB).refusal).fst

protected theorem Evolves.execTagInj (h : Evolves s t) {a : Access} {w : BitVec 32} :
    Answers s (execTagInj a w t) := (h.regOp fun _ _ h => h.tagInjWrite).next

protected theorem Evolves.tagReturn (h : Evolves s t) {path : Fin 4} {tag : Nat} : Evolves s (tagReturn t path tag).1 :=
  .ite_fst h.put.evt.fst h.fst

protected theorem Evolves.memScrubWrite (h : Evolves s t) {k : Bool} {n w : Nat} :
    Evolves s (memScrubWrite t k n w).1 := h.specialWrite fun _ _ h => h.storeFields.on fun _ h => h.put

protected theorem Evolves.testEnds (h : Evolves s t) : Evolves s (testEnds t) := h.put.put.each fun _ _ h => h.put

protected theorem Evolves.attemptsClear (h : Evolves s t) {i : Nat} : Evolves s (attemptsClear t i) := h.setRetWord

protected theorem Evolves.windowStore (h : Evolves s t) {a w : Nat} : Evolves s (windowStore t a w) :=
  .ite h.setWord.put (.ite (.ite h.setWord h.setWord.attemptsClear) h.setWord)

protected theorem Evolves.windowWrite (h : Evolves s t) {k : Bool} {a w : Nat} : Evolves s (windowWrite t k a w).1 :=
  .ite_fst h.refusal.fst h.windowStore.fst

protected theorem Evolves.windowRead (h : Evolves s t) {k : Bool} {a : Nat} : Evolves s (windowRead t k a).1.1 := by
  unfold windowRead
  extract_lets c s1
  split
  · show Evolves s (refusal _ _ _)
    exact h.refusal
  · exact h.eccRead

/-! ### Machine/Thermal.lean -/

protected theorem Evolves.curveReview (h : Evolves s t) : Evolves s (curveReview t) := .ite h.causeEnds h.raiseHeld

protected theorem Evolves.inputSample (h : Evolves s t) {k : Nat} : Evolves s (inputSample t k).2.2 := by
  have ht := h.tagCheck (page := 0x80) (v := t.get (Thm.CODE k)) (tag := BitVec.ofNat 16 (t.get (Thm.TAG k)))
  unfold inputSample
  split
  · exact h
  · dsimp only
    split
    all_goals
      rename_i s1 heq
      have h1 : Evolves s s1 := by rwa [heq] at ht
    · exact h1
    · split
      · exact h1
      · split
        · exact h1
        · split
          · exact h1
          · show Evolves s (blockRead _ _ _)
            exact h1.blockRead

protected theorem Evolves.fetSample (h : Evolves s t) {k : Nat} : Evolves s (fetSample t k).2.2 := by
  unfold fetSample
  dsimp only
  split
  · exact h
  · split <;> exact h

protected theorem Evolves.takeSample (h : Evolves s t) {k : Nat} : Evolves s (takeSample t k).2.2 := by
  have hr : Evolves s (if k < 40 then inputSample t k else fetSample t k).2.2 := by
    split
    · exact h.inputSample
    · exact h.fetSample
  unfold takeSample
  generalize (if k < 40 then inputSample t k else fetSample t k) = r at hr ⊢
  show Evolves s (State.put _ _ _)
  exact hr.put

protected theorem Evolves.countRun (h : Evolves s t) {f : Fld} {top : Nat} {b : Bool}
    (hf : f.id ≠ HIVE_MODE.MODE.id := by exact Fld.id_ne_mode rfl (by omega)) :
    Evolves s (countRun t f top b) := .ite (h.put hf) (h.put hf)

protected theorem Evolves.levelRuns (h : Evolves s t) {th : Option Int} {up dn : Fld} {t' : Int}
    (hup : up.id ≠ HIVE_MODE.MODE.id := by exact Fld.id_ne_mode rfl (by omega))
    (hdn : dn.id ≠ HIVE_MODE.MODE.id := by exact Fld.id_ne_mode rfl (by omega)) :
    Evolves s (levelRuns t th up dn t') := by
  unfold levelRuns
  split
  · exact (h.put hup).put hdn
  · exact (h.countRun hup).countRun hdn

protected theorem Evolves.intervalReview (h : Evolves s t) {k : Nat} {t' : Int} : Evolves s (intervalReview t k t') :=
  .ite h.put.put h.countRun

protected theorem Evolves.shutdownRun (h : Evolves s t) {k : Nat} {t' : Int} : Evolves s (shutdownRun t k t') := by
  unfold shutdownRun
  split
  · exact h.put
  · exact h.countRun.on fun _ h => h.put

protected theorem Evolves.coolRun (h : Evolves s t) {k : Nat} {t' : Int} : Evolves s (coolRun t k t') := by
  unfold coolRun
  split
  · exact h
  · exact .ite h.putB h.put.put

protected theorem Evolves.compareValue (h : Evolves s t) {k : Nat} {t' : Int} {subst : Bool} :
    Evolves s (compareValue t k t' subst) :=
  h.putI.put.putB.levelRuns.levelRuns.shutdownRun.coolRun.intervalReview.each fun _ _ h => h.putI.put

protected theorem Evolves.levelReview (h : Evolves s t) {k : Nat} : Evolves s (levelReview t k) := h.put.zoneReview

protected theorem Evolves.crossed (h : Evolves s t) {up dn ovr : Fld} {subst : Bool}
    (hovr : ovr.id ≠ HIVE_MODE.MODE.id := by exact Fld.id_ne_mode rfl (by omega)) : Evolves s (crossed t up dn ovr subst) :=
  .ite (h.put hovr) (.ite (h.put hovr) h)

protected theorem Evolves.throttle (h : Evolves s t) {k : Nat} : Evolves s (throttle t k) := h.crossed.crossed.levelReview

protected theorem Evolves.execThrottleLevel (h : Evolves s t) {k : Fin 88} : Answers s (execThrottleLevel k t) :=
  (Evolves.ite h.throttle h).next

protected theorem Evolves.sensorBit (h : Evolves s t) {f : Nat → Fld} {k : Nat} {b : Bool}
    (hf : (f (k / 32)).id ≠ HIVE_MODE.MODE.id := by exact Fld.id_ne_mode rfl (by omega)) : Evolves s
        (sensorBit t f k b) := h.putBit hf

protected theorem Evolves.substitute (h : Evolves s t) {k : Nat} : Evolves s (substitute t k).2 := .ite_snd h.snd h.fresh.snd

protected theorem Evolves.takeSubstitute (h : Evolves s t) {k : Nat} : Evolves s (takeSubstitute t k) :=
  h.substitute.compareValue

protected theorem Evolves.substBegin (h : Evolves s t) {k : Nat} : Evolves s (substBegin t k) :=
  h.put.put.put.put.sensorBit.zoneReview

protected theorem Evolves.substSample (h : Evolves s t) {k c : Nat} {t' : Int} : Evolves s (substSample t k c t') :=
  .ite (.ite h.putI.put.put h.putI.put.put.takeSubstitute) h.put.put.put.takeSubstitute

protected theorem Evolves.thermalSample (h : Evolves s t) {k : Nat} : Evolves s (thermalSample t k) := by
  unfold thermalSample
  exact .ite h.takeSample.substSample
      (.ite h.takeSample.substBegin.substSample (.ite h.takeSample.putI.put.put.compareValue h.takeSample.put.put))

protected theorem Evolves.execThermalSample (h : Evolves s t) {k : Fin 88} : Answers s (execThermalSample k t) :=
  (Evolves.ite h.thermalSample h).next

protected theorem Evolves.execThermalUrgentRequest (h : Evolves s t) {k : Fin 88} :
    Answers s (execThermalUrgentRequest k t) := (Evolves.ite h.urgentRequest h).next

protected theorem Evolves.thRaise (h : Evolves s t) {i : Nat} : Evolves s (thRaise t i) := h.putBit.raiseHeld

protected theorem Evolves.sensorFail (h : Evolves s t) {k : Nat} : Evolves s (sensorFail t k) :=
  h.put.put.substBegin.zoneEvt.thRaise.takeSubstitute

protected theorem Evolves.execSensorFailed (h : Evolves s t) {k : Fin 88} : Answers s (execSensorFailed k t) :=
  (Evolves.ite h.sensorFail h).next

protected theorem Evolves.execIntervalLengthen (h : Evolves s t) {k : Fin 88} : Answers s (execIntervalLengthen k t) :=
  (Evolves.ite h.put.put h).next

protected theorem Evolves.failCauses (h : Evolves s t) : Evolves s (failCauses t) :=
  (h.on fun _ h => h.causeEnds).on fun _ h => h.causeEnds

protected theorem Evolves.substEnd (h : Evolves s t) {k : Nat} : Evolves s (substEnd t k) :=
  h.put.put.put.put.put.put.put.sensorBit.zoneEvt.compareValue.failCauses.levelReview

protected theorem Evolves.execSubstitutionEnd (h : Evolves s t) {k : Fin 88} : Answers s (execSubstitutionEnd k t) :=
  (Evolves.ite h.substEnd h).next

protected theorem Evolves.execMinPower (h : Evolves s t) {k : Fin 88} : Answers s (execMinPower k t) :=
  (Evolves.ite h.put.zoneEvt.thRaise.levelReview h).next

protected theorem Evolves.eventRecord (h : Evolves s t) {lo hi : Nat} : Evolves s (eventRecord t lo hi) :=
  .ite h.setDouble.setDouble.wrapInc h

protected theorem Evolves.thermalRecord (h : Evolves s t) {type k : Nat} : Evolves s (thermalRecord t type k) :=
  h.eventRecord

protected theorem Evolves.pendShow (h : Evolves s t) {k : Nat} : Evolves s (pendShow t k) := h.putB.sensorBit

protected theorem Evolves.shutdownAction (h : Evolves s t) {k : Nat} : Evolves s (shutdownAction t k) := by
  unfold shutdownAction
  split
  · exact h.dieAction
  · exact h.runClear
  · exact h.each fun _ _ h => h.chgZero.chgOpen
  · exact h.put.raiseHeld

protected theorem Evolves.shutDown (h : Evolves s t) {k : Nat} : Evolves s (shutDown t k) := by
  unfold shutDown
  extract_lets s1 s2 s3
  have h3 : Evolves s s3 := h.put.put.put.put.put.shutdownAction.thRaise.zoneEvt
  exact .ite h3.inc.thermalRecord.pendShow h3

protected theorem Evolves.execShutdown (h : Evolves s t) {k : Fin 88} : Answers s (execShutdown k t) :=
  (Evolves.ite h.shutDown h).next

protected theorem Evolves.execModelStep (h : Evolves s t) {n : Fin 48} : Answers s (execModelStep n t) :=
  (Evolves.ite (h.fetStep.put.on fun _ h => h.shutdownRun) h).next

protected theorem Evolves.execDieComparator (h : Evolves s t) : Answers s (execDieComparator t) := h.shutDown.next

protected theorem Evolves.dieRestart (h : Evolves s t) : Evolves s (dieRestart t) :=
  (h.each fun _ _ h => .ite (h.on fun _ h => h.pdErrorRecovery) h.portReview).each fun _ _ h => h.recause

protected theorem Evolves.restartAction (h : Evolves s t) {k : Nat} : Evolves s (restartAction t k) := by
  unfold restartAction
  split
  · exact h.on fun _ h => h.dieRestart
  · exact h.on fun _ h => h.runSet
  · exact h
  · exact .ite (h.put.causeEnds.on fun _ h => h.pdErrorRecovery) h.put.causeEnds.portReview

protected theorem Evolves.shutEnd (h : Evolves s t) {k : Nat} : Evolves s (shutEnd t k) :=
  ((h.put.put.put.on fun _ h => h.causeEnds).zoneEvt).restartAction

protected theorem Evolves.execCooled (h : Evolves s t) {k : Fin 88} : Answers s (execCooled k t) :=
  (Evolves.ite (.ite h.shutEnd h.put) h).next

protected theorem Evolves.thermalAck (h : Evolves s t) {k : Nat} : Evolves s (thermalAck t k) :=
  .ite h (h.put.thermalRecord.pendShow.on fun _ h => h.shutEnd)

protected theorem Evolves.thmAckWrite (h : Evolves s t) {k : Bool} {w : Nat} : Evolves s (thmAckWrite t k w).1 :=
  .ite_fst (.ite_fst h.thermalAck.fst h.fst) h.refusal.fst

protected theorem Evolves.execThmAck (h : Evolves s t) {a : Access} {w : BitVec 32} :
    Answers s (execThmAck a w t) := (h.regOp fun _ _ h => h.thmAckWrite).next

protected theorem Evolves.sdSet (h : Evolves s t) {k v : Nat} : Evolves s (sdSet t k v) := h.put.put.put

protected theorem Evolves.thsSdWrite (h : Evolves s t) {k : Bool} {t' w : Nat} : Evolves s (thsSdWrite t k t' w).1 :=
  .ite_fst h.refusal.fst (.ite_fst h.refusal.fst h.sdSet.fst)

protected theorem Evolves.execSdWrite (h : Evolves s t) {a : Access} {k : Fin 88} {w : BitVec 32} :
    Answers s (execSdWrite a k w t) := (h.regOp fun _ _ h => h.thsSdWrite).next

protected theorem Evolves.lockLevels (h : Evolves s t) : Evolves s (lockLevels t) := h.each fun _ _ h => h.put

protected theorem Evolves.thsThWrite (h : Evolves s t) {k : Bool} {t' w : Nat} : Evolves s (thsThWrite t k t' w).1 :=
  h.specialWrite fun _ _ h => h.storeFields.put

protected theorem Evolves.thsCfgWrite (h : Evolves s t) {k : Bool} {t' w : Nat} :
    Evolves s (thsCfgWrite t k t' w).1 :=
  h.specialWrite fun _ _ h => ((h.storeFields.on fun _ h => h.put).zoneReview).zoneReview

protected theorem Evolves.thmCtlWrite (h : Evolves s t) {k : Bool} {w : Nat} : Evolves s (thmCtlWrite t k w).1 :=
  h.specialWrite fun _ _ h => h.storeFields.curveReview

protected theorem Evolves.reapplyRecords (h : Evolves s t) : Evolves s (reapplyRecords t) :=
  h.each fun _ _ h => h.put.shutdownAction.thRaise.pendShow

protected theorem Evolves.thermalWake (h : Evolves s t) : Evolves s (thermalWake t) := h.each fun _ _ h => h.put.put

/-! ### Machine/Interrupts.lean -/

protected theorem Evolves.intcReview (h : Evolves s t) : Evolves s (intcReview t) := h.put

protected theorem Evolves.registerLine (h : Evolves s t) {n : Nat} {v : Bool} : Evolves s (registerLine t n v) :=
  .ite h (.ite (h.putB.on fun _ h => h.put) (h.putB.on fun _ h => h.putB))

protected theorem Evolves.execLineChange (h : Evolves s t) {src : Fin 256} : Answers s (execLineChange src t) :=
  (Evolves.ite h.registerLine.intcReview h).next

protected theorem Evolves.pendSetWrite (h : Evolves s t) {j w : Nat} : Evolves s (pendSetWrite t j w).1 :=
  ((h.each fun _ _ h => h.put.put).intcReview).fst

protected theorem Evolves.execPendSet (h : Evolves s t) {a : Access} {j : Fin 8} {w : BitVec 32} :
    Answers s (execPendSet a j w t) := (h.regOp fun _ _ h => h.pendSetWrite).next

protected theorem Evolves.pendClrWrite (h : Evolves s t) {j w : Nat} : Evolves s (pendClrWrite t j w).1 :=
  ((h.each fun _ _ h => h.put.putB).intcReview).fst

protected theorem Evolves.execPendClr (h : Evolves s t) {a : Access} {j : Fin 8} {w : BitVec 32} :
    Answers s (execPendClr a j w t) := (h.regOp fun _ _ h => h.pendClrWrite).next

protected theorem Evolves.claimSource (h : Evolves s t) {t' n : Nat} : Evolves s (claimSource t t' n) :=
  h.put.put.put.put.put.put.put.inc

protected theorem Evolves.claimRead (h : Evolves s t) {t' : Nat} : Evolves s (claimRead t t').1 := by
  unfold claimRead
  split
  · exact h.inc.fst
  · exact h.claimSource.intcReview.fst

protected theorem Evolves.endInterrupt (h : Evolves s t) {t' n : Nat} : Evolves s (endInterrupt t t' n) :=
  .ite h.raiseEvent (.ite h.raiseEvent ((h.put.put.on fun _ h => h.putB).intcReview))

protected theorem Evolves.execEndOfInterrupt (h : Evolves s t) {a : Access} {t' : Fin 4} {w : BitVec 32} :
    Answers s (execEndOfInterrupt a t' w t) := (h.regOp fun _ _ h => h.endInterrupt.fst).next

protected theorem Evolves.execActiveLong (h : Evolves s t) {src : Fin 256} : Answers s (execActiveLong src t) :=
  (Evolves.ite h.raiseEvent h).next

protected theorem Evolves.srcCfgWrite (h : Evolves s t) {k : Bool} {n w : Nat} : Evolves s (srcCfgWrite t k n w).1 :=
  h.specialWrite fun _ _ h => ((h.storeFields.on fun _ h => h.put).on fun _ h => h.putB).intcReview

protected theorem Evolves.intcPlainWrite (h : Evolves s t) {k : Bool} {off w : Nat} :
    Evolves s (intcPlainWrite t k off w).1 := h.plainWrite.intcReview.fst

protected theorem Evolves.intcClear (h : Evolves s t) : Evolves s (intcClear t) := h.keepKeys

protected theorem Evolves.intcSample (h : Evolves s t) : Evolves s (intcSample t) :=
  (h.each fun _ _ h => h.registerLine).intcReview

protected theorem Evolves.intcWake (h : Evolves s t) {lost : Bool} : Evolves s (intcWake t lost) :=
  (h.on fun _ h => h.intcClear.raiseEvent).intcSample

/-! ### Machine/Reset.lean -/

/-- A reset leaves every queue empty. -/
protected theorem Evolves.resetClear (h : Evolves s t) {por : Bool} : Evolves s (resetClear t por) := by
  unfold resetClear
  extract_lets s1 s2
  have h2 : Evolves s s2 := h.keepKeys.clearMem.requeue
    { slots := by simp [s2, State.reset], window := by simp [s2, State.reset], antq := by simp [s2, State.reset],
      rx := by simp [s2, State.reset], canq := by simp [s2, State.reset] }
  exact .ite h2 h2.put.put.lockLevels

protected theorem Evolves.saveFaults (h : Evolves s t) : Evolves s (saveFaults t) := h.each fun _ _ h => h.setRetWord

protected theorem Evolves.resetPd (h : Evolves s t) {c : Nat} : Evolves s (resetPd t c) := h.put.put.put.put

protected theorem Evolves.resetBegin (h : Evolves s t) {code : Nat} : Evolves s (resetBegin t code) := by
  unfold resetBegin
  extract_lets por s1 s2 open4
  exact (((h.on fun _ h => h.saveFaults).resetClear).put.putB.put.on fun _ h => h.put).each fun _ _ h => h.resetPd

protected theorem Evolves.triggerReset (h : Evolves s t) {code : Nat} : Evolves s (triggerReset t code) :=
  .ite (h.orF.on fun _ h => h.resetClear.put) h.resetBegin

/-! ### Machine/Watchdog.lean -/

protected theorem Evolves.hostCheckin (h : Evolves s t) {n : Nat} : Evolves s (hostCheckin t n) := .ite h.inc h.checkSlot

protected theorem Evolves.execCheckin (h : Evolves s t) {a : Access} {w : BitVec 32} :
    Answers s (execCheckin a w t) := (h.regOp fun _ _ h => (h.each fun _ _ h => h.hostCheckin).fst).next

protected theorem Evolves.execInternalCheckin (h : Evolves s t) {code : BitVec 8} :
    Answers s (execInternalCheckin code t) := (Evolves.ite h h.internalCheckin).next

protected theorem Evolves.judgePair (h : Evolves s t) : Evolves s (judgePair t) :=
  .ite h.wdgFail (.ite h.wdgFail (.ite h.inc h.wdgServed))

protected theorem Evolves.svcWrite (h : Evolves s t) {w : Nat} : Evolves s (svcWrite t w).1 :=
  .ite_fst h.inc.fst (.ite_fst ((Evolves.ite h.put.judgePair h.put).fst) h.put.wdgFail.fst)

protected theorem Evolves.execFirstKey (h : Evolves s t) {a : Access} : Answers s (execFirstKey a t) :=
  (h.regOp fun _ _ h => h.svcWrite).next

protected theorem Evolves.execKeyPair (h : Evolves s t) {a : Access} {w : BitVec 32} :
    Answers s (execKeyPair a w t) := (h.regOp fun _ _ h => h.svcWrite).next

protected theorem Evolves.execBadKey (h : Evolves s t) {a : Access} {w : BitVec 32} :
    Answers s (execBadKey a w t) := (h.regOp fun _ _ h => h.svcWrite).next

protected theorem Evolves.hostRecordIn (h : Evolves s t) : Evolves s (hostRecordIn t) := h.put.put.put.put.put.put.put.put

protected theorem Evolves.cycleTake (h : Evolves s t) : Evolves s (cycleTake t) :=
  .ite h.put.put.put.put h.put.put.put.put.put

protected theorem Evolves.cycleStart (h : Evolves s t) : Evolves s (cycleStart t) :=
  (((((((((h.on fun _ h => h.hostRecordIn).cycleTake).wrapInc).put).put).put).put).put).put).put

protected theorem Evolves.watchdogReset (h : Evolves s t) : Evolves s (watchdogReset t) :=
  (((((((h.setRetWord.on fun _ h => h.setRetWord).put).put).put).put).put).put).triggerReset

protected theorem Evolves.stableCount (h : Evolves s t) : Evolves s (stableCount t) := .ite h.put.setRetWord h

protected theorem Evolves.windowClose (h : Evolves s t) : Evolves s (windowClose t) := by
  unfold windowClose
  extract_lets l s1
  have h1 : Evolves s s1 := .ite (.ite h h.wdgFail) (h.each fun _ _ h => h.wdgFail)
  exact .ite h1.watchdogReset h1.stableCount.cycleStart

protected theorem Evolves.execWindowClose (h : Evolves s t) : Answers s (execWindowClose t) :=
  (Evolves.ite h.windowClose h).next

protected theorem Evolves.execEarlyWarning (h : Evolves s t) : Answers s (execEarlyWarning t) :=
  (Evolves.ite h.put.evt.wakeFires h).next

protected theorem Evolves.wdgTick (h : Evolves s t) : Evolves s (wdgTick t) := .ite h h.put.hwServe

protected theorem Evolves.execClkStop (h : Evolves s t) : Answers s (execClkStop t) :=
  (Evolves.ite h h.wdgFail.watchdogReset.put.put).next

protected theorem Evolves.execClkMon (h : Evolves s t) : Answers s (execClkMon t) := (Evolves.ite h h.put.raiseHeld).next

protected theorem Evolves.execMonOtherClear (h : Evolves s t) : Answers s (execMonOtherClear t) :=
  (Evolves.ite h.put.causeEnds h).next

/-! ### Machine/Session.lean -/

protected theorem Evolves.sessionShow (h : Evolves s t) : Evolves s (sessionShow t) := h.put.put

protected theorem Evolves.pinOpen (h : Evolves s t) : Evolves s (pinOpen t) := .ite h h.put.put.sessionShow

protected theorem Evolves.execPinSessionOpen (h : Evolves s t) : Answers s (execPinSessionOpen t) :=
  (Evolves.ite h.put.pinOpen h.put).next

protected theorem Evolves.execPinSessionClose (h : Evolves s t) : Answers s (execPinSessionClose t) :=
  (Evolves.ite h.put.put.put.sessionShow h.put).next

protected theorem Evolves.codeLoWrite (h : Evolves s t) {p : Fin 4} {w : BitVec 32} : Evolves s (codeLoWrite t p w) :=
  h.requeue {}

protected theorem Evolves.execKsessCodeLo (h : Evolves s t) {a : Access} {w : BitVec 32} :
    Answers s (execKsessCodeLo a w t) := (h.regOp fun _ _ h => h.codeLoWrite.fst).next

protected theorem Evolves.attemptFails (h : Evolves s t) : Evolves s (attemptFails t) :=
  .ite h.inc.put.put h.inc.put.put.put.put.put.put.raiseEvent

protected theorem Evolves.codeOpens (h : Evolves s t) {p : Fin 4} {node : BitVec 16} : Evolves s (codeOpens t p node) :=
  (((((h.on fun _ h => h.put).put).put).put).on fun _ h => h.put).sessionShow

protected theorem Evolves.attempt (h : Evolves s t) {p : Fin 4} {node : BitVec 16} {w : BitVec 32} :
    Evolves s (attempt t p node w) := by
  unfold attempt
  extract_lets s1
  have h1 : Evolves s s1 := h.requeue {}
  split
  · exact h1
  · split
    · exact h1.attemptFails
    · exact .ite h1.codeOpens h1.attemptFails

protected theorem Evolves.execAttempt (h : Evolves s t) {a : Access} {w : BitVec 32} :
    Answers s (execAttempt a w t) := (h.regOp fun _ _ h => h.attempt.fst).next

protected theorem Evolves.execLockoutEnd (h : Evolves s t) : Answers s (execLockoutEnd t) :=
  (Evolves.ite h.put.put.put.put h).next

protected theorem Evolves.codeCloses (h : Evolves s t) {p : Nat} : Evolves s (codeCloses t p) := .ite h.put.put.sessionShow h

protected theorem Evolves.ksessCtlWrite (h : Evolves s t) {k : Bool} {p : Fin 4} {w : Nat} :
    Evolves s (ksessCtlWrite t k p w).1 := by
  unfold ksessCtlWrite
  exact h.specialWrite fun _ _ h => (h.storeFields.on fun _ h => h.codeCloses).on fun _ h => h.each fun _ _ h => h.codeCloses

protected theorem Evolves.execSessionClose (h : Evolves s t) {a : Access} {w : BitVec 32} :
    Answers s (execSessionClose a w t) := (h.regOp fun _ _ h => h.ksessCtlWrite).next

protected theorem Evolves.execSessionIdleClose (h : Evolves s t) {path : Path} :
    Answers s (execSessionIdleClose path t) := (Evolves.ite h.codeCloses h).next

/-! ### Machine/Swarm.lean -/

protected theorem Evolves.sendBytes (h : Evolves s t) {w : Nat} {bytes : List (BitVec 8)} {bad : Bool} :
    Evolves s (sendBytes t w bytes bad) := h.send

protected theorem Evolves.noRoute (h : Evolves s t) : Evolves s (noRoute t) := h.inc.raiseEvent

protected theorem Evolves.originate (h : Evolves s t) {ty : Nat} {keeper bcast : Bool} {dst : Nat}
    {payload : List (BitVec 8)} :
    Evolves s (originate t ty keeper bcast dst payload) := .ite h.noRoute (h.wrapInc.each fun _ _ h => h.sendBytes)

protected theorem Evolves.broadcast (h : Evolves s t) {ty : Nat} {payload : List (BitVec 8)} :
    Evolves s (broadcast t ty payload) := h.originate

protected theorem Evolves.announce (h : Evolves s t) : Evolves s (announce t) := h.broadcast

protected theorem Evolves.swReview (h : Evolves s t) : Evolves s (swReview t) := by
  unfold swReview
  extract_lets s1 s2
  have h1 : Evolves s s1 := .ite h h.put.evt
  have h2 : Evolves s s2 := by
    unfold s2
    split
    · exact h1.put.put
    · exact .ite h1 h1.put.put.evt
  exact .ite h2 h2.put.evt.announce

protected theorem Evolves.queenSeen (h : Evolves s t) {n : Nat} : Evolves s (queenSeen t n) :=
  .ite h h.put.put.inc.evt.causeEnds

protected theorem Evolves.becomeQueen (h : Evolves s t) : Evolves s (becomeQueen t) :=
  (h.put.put.queenSeen.on fun _ h => h.put.put.put).swReview

protected theorem Evolves.queenLost (h : Evolves s t) : Evolves s (queenLost t) := h.put.put.swReview

protected theorem Evolves.swPass (h : Evolves s t) {dt : Nat} : Evolves s (swPass t dt) := h.on fun _ h => h.put64

protected theorem Evolves.swTick (h : Evolves s t) : Evolves s (swTick t) := by
  unfold swTick
  extract_lets left d
  exact h.on fun _ h => h.put64.putI

protected theorem Evolves.forward (h : Evolves s t) {f : SwFrame} {ty : Nat} {payload : List (BitVec 8)} {bad : Bool} :
    Evolves s (forward t f ty payload bad) := .ite h (.ite h.noRoute (h.each fun _ _ h => .ite h.inc h.sendBytes))

protected theorem Evolves.crcError (h : Evolves s t) : Evolves s (crcError t) := h.inc.inc.on fun _ h => h.raiseEvent

protected theorem Evolves.receive (h : Evolves s t) {f : SwFrame} {ty : Nat} {fits : Bool} {copy deliver : State → State}
    {fwd : List (BitVec 8)} (hcopy : ∀ u, Evolves s u → Evolves s (copy u))
    (hdeliver : ∀ u, Evolves s u → Evolves s (deliver u)) :
    Evolves s (receive t f ty fits copy deliver fwd) := by
  unfold receive
  extract_lets w bytes mine s1 s1'
  split
  · exact h
  · split
    · have h1 : Evolves s s1 := h.put swLock_ne_mode
      split
      · exact h1
      · split
        · exact .ite h1 (.ite (hcopy _ h1) ((hdeliver _ h1.put).forward))
        · exact .ite (hdeliver _ h1) (.ite h1 h1.forward)
    · exact .ite h ((h.on fun _ h => h.crcError).forward)

protected theorem Evolves.swPortDown (h : Evolves s t) {w : Nat} : Evolves s (swPortDown t w) := by
  unfold swPortDown
  extract_lets s1 s2
  have h1 : Evolves s s1 := h.put.put swPartner_ne_mode
  exact .ite ((((h1.put swUp_ne_mode).evt).on fun _ h => h.put.evt).announce) h1

protected theorem Evolves.linkFrame (h : Evolves s t) {f : SwFrame} {rx : BitVec 48} :
    Evolves s (linkFrame t f rx) := by
  unfold linkFrame
  extract_lets w trip s1 s2
  split
  · exact h
  · split
    · exact h.put
    · have h1 : Evolves s s1 := ((h.put swLock_ne_mode).put swPartner_ne_mode).put swPeer_ne_mode
      have h2 : Evolves s s2 := (h1.put.putSat swDelay_ne_mode).put
      exact .ite ((h2.put swUp_ne_mode).evt) h2

protected theorem Evolves.execLink (h : Evolves s t) {f : SwFrame} {rx : BitVec 48} :
    Answers s (execLink f rx t) := h.linkFrame.next

protected theorem Evolves.execLinkSend (h : Evolves s t) {west : Bool} {tTx tHold : BitVec 48} :
    Answers s (execLinkSend west tTx tHold t) := (Evolves.ite h.wrapInc.sendBytes h).next

protected theorem Evolves.execPortDown (h : Evolves s t) {west : Bool} : Answers s (execPortDown west t) :=
  h.swPortDown.next

protected theorem Evolves.execReceiverLockLost (h : Evolves s t) {east : Bool} :
    Answers s (execReceiverLockLost east t) := ((h.put swLock_ne_mode).swPortDown).next

protected theorem Evolves.swStop (h : Evolves s t) : Evolves s (swStop t) :=
  h.each fun _ _ h => ((h.put.put swPartner_ne_mode).put swUp_ne_mode).put swLock_ne_mode

protected theorem Evolves.bondLost (h : Evolves s t) {n : Nat} : Evolves s (bondLost t n) := .ite h.codeCloses h

protected theorem Evolves.addressTake (h : Evolves s t) {n : Nat} : Evolves s (addressTake t n) :=
  h.put.put.put.evt.causeEnds.swReview

protected theorem Evolves.execAddressAssign (h : Evolves s t) : Answers s (execAddressAssign t) := by
  unfold execAddressAssign
  refine Evolves.next ?_
  split
  · split
    · exact h.addressTake
    · exact h
  · exact h

protected theorem Evolves.addressLost (h : Evolves s t) : Evolves s (addressLost t) :=
  (h.put.put.evt.on fun _ h => h.put.put.put).swReview

protected theorem Evolves.duplicate (h : Evolves s t) {uid : Nat} : Evolves s (duplicate t uid) :=
  .ite h.inc h.inc.addressLost.raiseHeld

protected theorem Evolves.announceCopy (h : Evolves s t) {f : SwFrame} : Evolves s (announceCopy t f) :=
  .ite h h.put.put.put.put.swReview

protected theorem Evolves.announceOwn (h : Evolves s t) {f : SwFrame} : Evolves s (announceOwn t f) :=
  .ite (.ite h h.put.evt) (.ite h h.duplicate)

protected theorem Evolves.execAnnounceSend (h : Evolves s t) : Answers s (execAnnounceSend t) := h.announce.next

protected theorem Evolves.nodeGone (h : Evolves s t) {w n : Nat} : Evolves s (nodeGone t w n) :=
  .ite (.ite h.put.evt h) (.ite h.put (.ite h.put.put.put.bondLost.queenLost h.put.put.put.bondLost.swReview))

protected theorem Evolves.execNodeUnreachable (h : Evolves s t) {west : Bool} {node : Fin 64} :
    Answers s (execNodeUnreachable west node t) := h.nodeGone.next

protected theorem Evolves.execElection (h : Evolves s t) : Answers s (execElection t) := (Evolves.ite h.becomeQueen h).next

protected theorem Evolves.execNoQueen (h : Evolves s t) : Answers s (execNoQueen t) := (Evolves.ite h.raiseHeld h).next

protected theorem Evolves.timeTake (h : Evolves s t) {f : SwFrame} : Evolves s (timeTake t f) :=
  .ite h (.ite h.put.put.put.putI.put64.put.evt h.put.put.put.putI.putI)

protected theorem Evolves.execTimeFrame (h : Evolves s t) {f : SwFrame} {dt : Nat} {residence : BitVec 32} :
    Answers s (execTimeFrame f dt residence t) :=
  (h.swPass.receive (fun _ h => h) fun _ h => h.timeTake).next

protected theorem Evolves.execTimeSend (h : Evolves s t) {dt : Nat} : Answers s (execTimeSend dt t) :=
  (Evolves.ite h.swPass.broadcast h.swPass).next

protected theorem Evolves.execHoldover (h : Evolves s t) : Answers s (execHoldover t) := (Evolves.ite h.put.evt h).next

protected theorem Evolves.reportEntry (h : Evolves s t) {node g : Nat} {en : Bool} {c wt deficit : Nat} :
    Evolves s (reportEntry t node g en c wt deficit) := .ite h.put (.ite (h.on fun _ h => h.raiseEvent) h.put.put.put.put)

protected theorem Evolves.reportTake (h : Evolves s t) {node : Nat} {e : List (BitVec 8)} :
    Evolves s (reportTake t node e) := h.tagCheck.reportEntry

protected theorem Evolves.execReport (h : Evolves s t) {f : SwFrame} : Answers s (execReport f t) :=
  (h.receive (fun _ h => h) fun _ h => h.each fun _ _ h => h.reportTake).next

protected theorem Evolves.reportSend (h : Evolves s t) : Evolves s (reportSend t) :=
  .ite h (h.broadcast.each fun _ _ h => h.reportEntry)

protected theorem Evolves.execReportSend (h : Evolves s t) : Answers s (execReportSend t) := h.reportSend.next

protected theorem Evolves.partSet (h : Evolves s t) {g : Nat} {b : Bool} : Evolves s (partSet t g b) := .ite h h.putB.evt

protected theorem Evolves.totalSet (h : Evolves s t) {g t' : Nat} : Evolves s (totalSet t g t') := .ite h h.put.evt

protected theorem Evolves.shareDeliver (h : Evolves s t) {g c t' tag : Nat} {wait : Int} :
    Evolves s (shareDeliver t g c t' tag wait) := .ite ((h.put.put.on fun _ h => h.inc).sendRecord) h

protected theorem Evolves.shareSend (h : Evolves s t) {g : Nat} {l : List (Nat × Nat)} {n : Nat} : Evolves s
    (shareSend t g l n) := by
  induction n generalizing t l with
  | zero => exact h
  | succ n ih =>
    unfold shareSend
    extract_lets es lead s1 s2
    have h2 : Evolves s s2 := h.broadcast.each fun _ _ h => h.on fun _ h => h.shareDeliver
    exact .ite (ih h2) h2

protected theorem Evolves.sharesSend (h : Evolves s t) : Evolves s (sharesSend t) :=
  .ite h.shareSend (h.each fun _ _ h => h.shareSend)

protected theorem Evolves.shareCompute (h : Evolves s t) : Evolves s (shareCompute t) :=
  h.each fun _ _ h => h.partSet.each fun _ _ h => h.putI.put

protected theorem Evolves.execShareCompute (h : Evolves s t) {dt : Nat} : Answers s (execShareCompute dt t) := by
  unfold execShareCompute
  extract_lets s1
  have h1 : Evolves s s1 := h.swPass.each fun _ _ h => h.inc
  exact (Evolves.ite h1.shareCompute.sharesSend h1).next

protected theorem Evolves.execHeirTakeover (h : Evolves s t) {dt : Nat} : Answers s (execHeirTakeover dt t) :=
  (Evolves.ite h.swPass.becomeQueen.sharesSend h.swPass).next

protected theorem Evolves.announceTake (h : Evolves s t) {f : SwFrame} : Evolves s (announceTake t f) := by
  unfold announceTake
  extract_lets n role s1
  have h1 : Evolves s s1 := (h.on fun _ h => h.bondLost).announceCopy
  split
  · exact .ite h1 h1.queenSeen.swReview
  · exact .ite (.ite h1.becomeQueen.sharesSend h1.queenLost) h1

protected theorem Evolves.execAnnounce (h : Evolves s t) {f : SwFrame} : Answers s (execAnnounce f t) :=
  (h.receive (fun _ h => .ite h.announceOwn h.announceCopy) fun _ h => h.announceTake).next

protected theorem Evolves.twoQueens (h : Evolves s t) {n : Nat} : Evolves s (twoQueens t n) :=
  h.put.raiseEvent.queenSeen.swReview

protected theorem Evolves.shareEntry (h : Evolves s t) {g : Nat} {e : List (BitVec 8)} {wait : Int} :
    Evolves s (shareEntry t g e wait) := .ite (.ite h.put.put.tagCheck.shareDeliver h.put.put.tagCheck) h.put.put

protected theorem Evolves.shareTake (h : Evolves s t) {f : SwFrame} : Evolves s (shareTake t f) :=
  .ite h ((((Evolves.ite h.twoQueens h.queenSeen.swReview).totalSet).partSet).each fun _ _ h => h.shareEntry)

protected theorem Evolves.execShareFrame (h : Evolves s t) {f : SwFrame} {dt : Nat} : Answers s (execShareFrame f dt t) :=
  (h.swPass.receive (fun _ h => h) fun _ h => h.shareTake).next

protected theorem Evolves.groupSet (h : Evolves s t) {b t' : Nat} : Evolves s (groupSet t b t') :=
  (h.on fun _ h => h.each fun _ _ h => h.put).on fun _ h => h.totalSet

protected theorem Evolves.execGroupSet (h : Evolves s t) {f : SwFrame} : Answers s (execGroupSet f t) :=
  (h.receive (fun _ h => h) fun _ h => h.groupSet).next

protected theorem Evolves.groupSend (h : Evolves s t) {b t' : Nat} : Evolves s (groupSend t b t') :=
  .ite h.broadcast.groupSet h

protected theorem Evolves.grpTotalWrite (h : Evolves s t) {k : Bool} {w : Nat} : Evolves s (grpTotalWrite t k w).1 :=
  (((h.put.put.specialRes fun _ _ h => .ite_fst h.put.fst h.put.put.groupSend.fst).put).put).fst

protected theorem Evolves.execGroupTotalWrite (h : Evolves s t) {a : Access} {w : BitVec 32} :
    Answers s (execGroupTotalWrite a w t) := (h.regOp fun _ _ h => h.grpTotalWrite).next

protected theorem Evolves.grpSelWrite (h : Evolves s t) {k : Bool} {w : Nat} : Evolves s (grpSelWrite t k w).1 :=
  h.specialWrite fun _ _ h => h.storeFields.on fun _ h => h.groupSend

protected theorem Evolves.execForget (h : Evolves s t) {a : Access} {w : BitVec 32} :
    Answers s (execForget a w t) := (h.regOp fun _ _ h => h.grpSelWrite).next

protected theorem Evolves.swAddrWrite (h : Evolves s t) {k : Bool} {w : Nat} : Evolves s (swAddrWrite t k w).1 :=
  h.specialWrite fun _ _ h => .ite h.storeFields.addressTake h.storeFields.swReview

protected theorem Evolves.swCtlWrite (h : Evolves s t) {k : Bool} {off w : Nat} :
    Evolves s (swCtlWrite t k off w).1 :=
  h.specialWrite fun _ _ h => (h.storeFields.each fun _ _ h => h.swPortDown).swReview

protected theorem Evolves.swCmdWrite (h : Evolves s t) {k : Bool} {w : Nat} : Evolves s (swCmdWrite t k w).1 :=
  h.specialWrite fun _ _ h => h.put.on fun _ h => h.originate

protected theorem Evolves.execResetCommand (h : Evolves s t) {a : Access} {w : BitVec 32} :
    Answers s (execResetCommand a w t) := (h.regOp fun _ _ h => h.swCmdWrite).next

protected theorem Evolves.execResetFrame (h : Evolves s t) {f : SwFrame} : Answers s (execResetFrame f t) :=
  (h.receive (fun _ h => h) fun _ h => .ite h.triggerReset h).next

/-! ### Machine/Maintenance.lean -/

protected theorem Evolves.tblRefuse (h : Evolves s t) {why : Nat} : Evolves s (tblRefuse t why) := h.put.put

protected theorem Evolves.tblStart (h : Evolves s t) {op : Nat} : Evolves s (tblStart t op) := h.put.put.put

protected theorem Evolves.tblEnd (h : Evolves s t) {result : Nat} : Evolves s (tblEnd t result) := h.put.put.put

protected theorem Evolves.tblCommand (h : Evolves s t) {op : Nat} : Evolves s (tblCommand t op) := by
  unfold tblCommand
  split
  · exact .ite h.tblRefuse h.tblStart.put
  · exact .ite h.tblRefuse h.tblStart.put.put.put.put
  · exact .ite h.tblRefuse h.tblStart.put
  · exact .ite h.tblRefuse h.tblStart.put
  · exact .ite h.tblRefuse h.tblStart
  · exact h

protected theorem Evolves.tblCmdWrite (h : Evolves s t) {k : Bool} {w : Nat} : Evolves s (tblCmdWrite t k w).1 :=
  (h.on fun _ h => h.tblRefuse).specialWrite fun _ _ h => h.on fun _ h => h.tblCommand

protected theorem Evolves.execCopy (h : Evolves s t) {a : Access} : Answers s (execCopy a t) :=
  (h.regOp fun _ _ h => h.tblCmdWrite).next

protected theorem Evolves.execErase (h : Evolves s t) {a : Access} : Answers s (execErase a t) :=
  (h.regOp fun _ _ h => h.tblCmdWrite).next

protected theorem Evolves.execVerify (h : Evolves s t) {a : Access} : Answers s (execVerify a t) :=
  (h.regOp fun _ _ h => h.tblCmdWrite).next

protected theorem Evolves.execCommit (h : Evolves s t) {a : Access} : Answers s (execCommit a t) :=
  (h.regOp fun _ _ h => h.tblCmdWrite).next

protected theorem Evolves.execImgCheck (h : Evolves s t) {a : Access} : Answers s (execImgCheck a t) :=
  (h.regOp fun _ _ h => h.tblCmdWrite).next

protected theorem Evolves.bankCopy (h : Evolves s t) : Evolves s (bankCopy t) :=
  h.blockRead.clearMem.each fun _ _ h => h.setByte

protected theorem Evolves.execCopyDone (h : Evolves s t) : Answers s (execCopyDone t) :=
  (Evolves.ite h.bankCopy.tblEnd h).next

protected theorem Evolves.execEraseDone (h : Evolves s t) : Answers s (execEraseDone t) :=
  (Evolves.ite h.clearMem.put.tblEnd h).next

protected theorem Evolves.verifyDone (h : Evolves s t) : Evolves s (verifyDone t) := by
  unfold verifyDone
  extract_lets b s0
  have h0 : Evolves s s0 := h.blockRead
  split
  · exact h0.tblEnd.put.put.evt
  · exact h0.tblEnd.put.put.put.put.evt.raiseEvent

protected theorem Evolves.execVerifyDone (h : Evolves s t) : Answers s (execVerifyDone t) :=
  (Evolves.ite h.verifyDone h).next

protected theorem Evolves.execImgCheckDone (h : Evolves s t) : Answers s (execImgCheckDone t) :=
  (Evolves.ite h.blockRead.tblEnd.put.put h).next

protected theorem Evolves.loadCtlWrite (h : Evolves s t) {k : Bool} {w : Nat} : Evolves s (loadCtlWrite t k w).1 :=
  h.specialWrite fun _ _ h => h.put.put.on fun _ h => h.put.put

protected theorem Evolves.execLoadStart (h : Evolves s t) {a : Access} {w : BitVec 32} :
    Answers s (execLoadStart a w t) := (h.regOp fun _ _ h => h.loadCtlWrite).next

protected theorem Evolves.loadRefuse (h : Evolves s t) {code : Nat} : Evolves s (loadRefuse t code) := h.put.evt.raiseEvent

protected theorem Evolves.loadWord (h : Evolves s t) {w : Nat} : Evolves s (loadWord t w) :=
  .ite h.setWord.put.put.put.evt h.setWord.put.put

protected theorem Evolves.loadHeader (h : Evolves s t) {w : Nat} : Evolves s (loadHeader t w) := by
  unfold loadHeader
  split
  · exact h.loadRefuse
  · split
    · exact h.loadRefuse
    · exact .ite h.loadRefuse (.ite h.loadRefuse (.ite h.put.evt h.put.put.loadWord))

protected theorem Evolves.loadData (h : Evolves s t) {w : Nat} : Evolves s (loadData t w) := by
  unfold loadData
  split
  · exact .ite h.loadHeader (.ite h.loadRefuse h.loadWord)
  · exact h.put
  · exact h

protected theorem Evolves.loadDataWrite (h : Evolves s t) {k : Bool} {w : Nat} : Evolves s (loadDataWrite t k w).1 :=
  .ite_fst h.refusal.fst h.loadData.fst

protected theorem Evolves.execLoadData (h : Evolves s t) {a : Access} {w : BitVec 32} :
    Answers s (execLoadData a w t) := (h.regOp fun _ _ h => h.loadDataWrite).next

protected theorem Evolves.barrier (h : Evolves s t) : Evolves s (barrier t) :=
  h.put.wrapInc.put.tblEnd.evt.chgCommit.curveReview

protected theorem Evolves.execBarrier (h : Evolves s t) : Answers s (execBarrier t) := (Evolves.ite h.barrier h).next

protected theorem Evolves.commitAbandon (h : Evolves s t) : Evolves s (commitAbandon t) := h.tblEnd.put

protected theorem Evolves.execCommitTimeout (h : Evolves s t) : Answers s (execCommitTimeout t) :=
  (Evolves.ite h.commitAbandon.raiseEvent h).next

protected theorem Evolves.foragerBarrier (h : Evolves s t) {c : Fin 4} {prepared : List (Fin 16 × Timing)} :
    Evolves s (foragerBarrier t c prepared) := by
  unfold foragerBarrier
  split
  · exact h
  · extract_lets s1 s2
    have h1 : Evolves s s1 := ((h.squashBus.each fun _ _ h => h.squashPlans).squashCount).each fun _ _ h => h.clearSlots
    exact h1.put.evt.modelCheck.each fun _ _ h => h.planCommit.slotWrite

protected theorem Evolves.islandBarrier (h : Evolves s t) {i : Nat} {prepared : List (Fin 16 × Timing)} :
    Evolves s (islandBarrier t i prepared) := .ite h (.ite h.foragerBarrier (.ite h.seqReview h.fetLoad.portReview))

protected theorem Evolves.execBarrierRegistered (h : Evolves s t) {i : Fin 53} {prepared : List (Fin 16 × Timing)} :
    Answers s (execBarrierRegistered i prepared t) := h.islandBarrier.next

protected theorem Evolves.execReleased (h : Evolves s t) : Answers s (execReleased t) :=
  (Evolves.ite h.put.evt.causeEnds h).next

protected theorem Evolves.execRetireTimeout (h : Evolves s t) : Answers s (execRetireTimeout t) :=
  (Evolves.ite h.raiseHeld h).next

protected theorem Evolves.maintRefuse (h : Evolves s t) {op arg why : Nat} :
    Evolves s (maintRefuse t op arg why) := h.put.put.put.put.evt

protected theorem Evolves.maintStart (h : Evolves s t) {op arg : Nat} : Evolves s (maintStart t op arg) :=
  h.put.put.put.put.put.put.put

protected theorem Evolves.respace (h : Evolves s t) {c : Nat} : Evolves s (respace t c) :=
  h.each fun _ _ h => h.put.on fun _ h => h.putB

protected theorem Evolves.maintShow (h : Evolves s t) {c : Nat} : Evolves s (maintShow t c) := h.putBit

protected theorem Evolves.phaseAtZero (h : Evolves s t) {p : Fin 16} : Evolves s (phaseAtZero t p) :=
  .ite ((h.put.put.on fun _ h => h.runClear).respace) h

protected theorem Evolves.execPhaseAtZero (h : Evolves s t) {p : Fin 16} : Answers s (execPhaseAtZero p t) :=
  h.phaseAtZero.next

protected theorem Evolves.combDrained (h : Evolves s t) {c : Nat} : Evolves s (combDrained t c) :=
  h.put.putBit.evt.maintShow.maintEnd

protected theorem Evolves.phaseOut (h : Evolves s t) {p : Fin 16} : Evolves s (phaseOut t p) := by
  unfold phaseOut
  extract_lets c s1 s2
  split
  · have h2 : Evolves s s2 := h.put.put.putBit.evt.maintShow
    exact .ite h2.maintEnd (.ite h2.combDrained h2)
  · exact h

protected theorem Evolves.execPhaseOutComplete (h : Evolves s t) {p : Fin 16} : Answers s (execPhaseOutComplete p t) :=
  h.phaseOut.next

protected theorem Evolves.phaseBack (h : Evolves s t) {p : Fin 16} : Evolves s (phaseBack t p) := by
  unfold phaseBack
  extract_lets c s0 s1 s2 s3
  have h0 : Evolves s s0 := h.put.on fun _ h => h.putI
  exact ((h0.put.put.put.putBit.on fun _ h => h.evt).on fun _ h => h.put.runSet).respace.maintShow

protected theorem Evolves.combDrain (h : Evolves s t) {c : Nat} : Evolves s (combDrain t c) := by
  unfold combDrain
  extract_lets s1 s2
  have h2 : Evolves s s2 := h.put.reportSend.each fun _ _ h => h.putI.put.put
  exact .ite h2.combDrained h2

protected theorem Evolves.combRestore (h : Evolves s t) {c : Nat} : Evolves s (combRestore t c) := by
  unfold combRestore
  extract_lets l s1
  split
  · exact h.restoreFails
  · exact ((((h.put.putBit.evt.each fun _ _ h => h.phaseBack).put).reportSend).maintShow).maintEnd

protected theorem Evolves.sensorMark (h : Evolves s t) {k : Nat} {out : Bool} : Evolves s (sensorMark t k out) := h.putBit.evt

protected theorem Evolves.portMark (h : Evolves s t) {n : Nat} {held : Bool} : Evolves s (portMark t n held) :=
  (h.putBit (by split <;> decide)).evt

protected theorem Evolves.portFreed (h : Evolves s t) {n : Fin 48} : Evolves s (portFreed t n) :=
  have h1 : Evolves s { (t.put (Port.HELD n) 0) with staged := t.staged.set n [] } := (h.put (f := Port.HELD n)).requeue {}
  h1.portMark.portResume

protected theorem Evolves.portRelease (h : Evolves s t) {n : Fin 48} : Evolves s (portRelease t n) :=
  (((((h.each fun _ _ h => h.storeKind).on fun _ h => h.modelKeep).put).portFreed).put).enChanged

protected theorem Evolves.convOut (h : Evolves s t) {x : Nat} : Evolves s (convOut t x) := by
  unfold convOut
  split
  · exact h.put.put.calLane.refReview
  · exact (((h.on fun _ h => h.put).convRole).convMark).maintEnd

protected theorem Evolves.maintPerform (h : Evolves s t) {op arg : Nat} : Evolves s (maintPerform t op arg) := by
  unfold maintPerform
  split
  · exact h.putI.put
  · exact .ite h.restoreFails h.phaseBack.maintEnd
  · exact h.combDrain
  · exact h.combRestore
  · exact h.put.sensorMark.maintEnd
  · exact h.put.sensorMark.maintEnd
  · exact h.put.portMark.maintEnd
  · exact h.portRelease.maintEnd
  · exact h.convOut
  · exact h.put.put.calConvert

protected theorem Evolves.maintCommand (h : Evolves s t) {op arg : Nat} : Evolves s (maintCommand t op arg) :=
  .ite h.maintRefuse h.maintStart.maintPerform

protected theorem Evolves.maintCmdWrite (h : Evolves s t) {k : Bool} {w : Nat} : Evolves s (maintCmdWrite t k w).1 :=
  (h.on fun _ h => h.maintRefuse).specialWrite fun _ _ h => h.put.put.on fun _ h => h.maintCommand

protected theorem Evolves.maintOp (h : Evolves s t) {a : Access} {op : Nat} {arg : BitVec 16} :
    Evolves s (maintOp t a op arg) := h.regOp fun _ _ h => h.maintCmdWrite

protected theorem Evolves.execPhaseOut (h : Evolves s t) {a : Access} {arg : BitVec 16} :
    Answers s (execPhaseOut a arg t) := h.maintOp.next

protected theorem Evolves.execPhaseIn (h : Evolves s t) {a : Access} {arg : BitVec 16} :
    Answers s (execPhaseIn a arg t) := h.maintOp.next

protected theorem Evolves.execCombDrain (h : Evolves s t) {a : Access} {arg : BitVec 16} :
    Answers s (execCombDrain a arg t) := h.maintOp.next

protected theorem Evolves.execCombRestore (h : Evolves s t) {a : Access} {arg : BitVec 16} :
    Answers s (execCombRestore a arg t) := h.maintOp.next

protected theorem Evolves.execSensorOut (h : Evolves s t) {a : Access} {arg : BitVec 16} :
    Answers s (execSensorOut a arg t) := h.maintOp.next

protected theorem Evolves.execSensorIn (h : Evolves s t) {a : Access} {arg : BitVec 16} :
    Answers s (execSensorIn a arg t) := h.maintOp.next

protected theorem Evolves.execPortHold (h : Evolves s t) {a : Access} {arg : BitVec 16} :
    Answers s (execPortHold a arg t) := h.maintOp.next

protected theorem Evolves.execPortRelease (h : Evolves s t) {a : Access} {arg : BitVec 16} :
    Answers s (execPortRelease a arg t) := h.maintOp.next

protected theorem Evolves.execConvOut (h : Evolves s t) {a : Access} {arg : BitVec 16} :
    Answers s (execConvOut a arg t) := h.maintOp.next

protected theorem Evolves.execConvIn (h : Evolves s t) {a : Access} {arg : BitVec 16} :
    Answers s (execConvIn a arg t) := h.maintOp.next

protected theorem Evolves.drainReturns (h : Evolves s t) : Evolves s (drainReturns t) := by
  unfold drainReturns
  split
  · exact h.phaseBack
  · exact (h.each fun _ _ h => h.phaseBack).put
  · exact h.put.calEnd
  · exact h

protected theorem Evolves.drainTimeout (h : Evolves s t) {held : Option (Fin 48)} : Evolves s (drainTimeout t held) := by
  unfold drainTimeout
  split
  · exact .ite h.portFreed h
  · exact .ite h.drainReturns.maintEnd.raiseEvent h

protected theorem Evolves.execDrainTimeout (h : Evolves s t) {held : Option (Fin 48)} :
    Answers s (execDrainTimeout held t) := h.drainTimeout.next

/-! ### Machine/Clock.lean -/

protected theorem Evolves.readyReview (h : Evolves s t) : Evolves s (readyReview t) := .ite (.ite h h.put.evt) h.put

protected theorem Evolves.refValid (h : Evolves s t) {i : Nat} {valid : Bool} : Evolves s (refValid t i valid) :=
  .ite (h.put refShown_ne_mode) (h.putB.put.put refShown_ne_mode)

protected theorem Evolves.execReferenceValidityChange (h : Evolves s t) {xtal valid : Bool} :
    Answers s (execReferenceValidityChange xtal valid t) := (Evolves.ite h h.refValid.readyReview).next

protected theorem Evolves.execRetReady (h : Evolves s t) : Answers s (execRetReady t) := by
  unfold execRetReady
  refine Evolves.next ?_
  split
  · exact h.put.readyReview
  · exact h

protected theorem Evolves.onBackup (h : Evolves s t) : Evolves s (onBackup t) := h.put.put.readyReview.swReview

protected theorem Evolves.refLost (h : Evolves s t) : Evolves s (refLost t) := .ite h.refValid.onBackup.inc.raiseHeld h

protected theorem Evolves.execRefLost (h : Evolves s t) : Answers s (execRefLost t) := h.refLost.next

protected theorem Evolves.clkCtlWrite (h : Evolves s t) {k : Bool} {w : Nat} : Evolves s (clkCtlWrite t k w).1 := by
  refine h.specialWrite fun _ _ h => ?_
  extract_lets s1
  have h1 : Evolves s s1 := h.put.readyReview
  split
  · exact h1
  · split
    · exact .ite h1.put.put.put.causeEnds.swReview h1.put
    · exact h1.put

protected theorem Evolves.execClkReturn (h : Evolves s t) {a : Access} {w : BitVec 32} :
    Answers s (execClkReturn a w t) := (h.regOp fun _ _ h => h.clkCtlWrite).next

protected theorem Evolves.execReferenceSelect (h : Evolves s t) {refinAt xtalAt : Option Nat} :
    Answers s (execReferenceSelect refinAt xtalAt t) := by
  unfold execReferenceSelect
  exact (Evolves.ite h (.ite h.put.refValid.refValid.put.readyReview.raiseHeld h.put.refValid.refValid.put.readyReview)).next

protected theorem Evolves.clockLost (h : Evolves s t) {i : ClockIsland} : Evolves s (clockLost t i) := by
  unfold clockLost
  split
  · exact h.phStop.raiseHeld
  · exact h.raiseHeld
  · exact h.raiseHeld
  · exact (h.combSquash.each fun _ _ h => h.phHold).raiseHeld
  · exact h.raiseHeld
  · exact h.put
  · exact h.swPortDown.raiseHeld
  · exact h.raiseHeld

protected theorem Evolves.execClockMonitorTrip (h : Evolves s t) {i : ClockIsland} :
    Answers s (execClockMonitorTrip i t) := (Evolves.ite h h.put.clockLost).next

protected theorem Evolves.portClockBack (h : Evolves s t) {n : Nat} : Evolves s (portClockBack t n) := by
  unfold portClockBack
  split
  · exact h
  · extract_lets s1 due s2 s3
    have h1 : Evolves s s1 := h.on fun _ h => h.put.raiseEvent
    have h2 : Evolves s s2 := h1.put.each fun _ _ h => h.each fun _ _ h => h.actionEffect
    exact (h2.on fun _ h => h.pdSwitchBack).portResume

protected theorem Evolves.clockBack (h : Evolves s t) {i : ClockIsland} : Evolves s (clockBack t i) := by
  unfold clockBack
  split
  · exact h.causeEnds.clockRecause
  · exact h.causeEnds.portClockBack
  · exact h.causeEnds
  · exact (h.causeEnds.each fun _ _ h => h.clockRecause).each fun _ _ h => h.portClockBack
  · exact h.causeEnds
  · exact h
  · exact .ite h h.causeEnds
  · exact h.causeEnds

protected theorem Evolves.execClockReturn (h : Evolves s t) {i : ClockIsland} :
    Answers s (execClockReturn i t) := (Evolves.ite h.put.clockBack h).next

/-! ### Machine/Boot.lean -/

protected theorem Evolves.execPreRegulatorStart (h : Evolves s t) : Answers s (execPreRegulatorStart t) :=
  (Evolves.ite h h.put.put).next

protected theorem Evolves.execIdealDiodeSwitch (h : Evolves s t) : Answers s (execIdealDiodeSwitch t) :=
  (Evolves.ite h.put h).next

protected theorem Evolves.execIoRailToVddio (h : Evolves s t) : Answers s (execIoRailToVddio t) := h.put.next

protected theorem Evolves.execIoRailToVioi (h : Evolves s t) : Answers s (execIoRailToVioi t) :=
  (Evolves.ite (h.put.on fun _ h => h.raiseEvent) h).next

protected theorem Evolves.execPowerOnReset (h : Evolves s t) : Answers s (execPowerOnReset t) :=
  h.triggerReset.put.put.put.next

protected theorem Evolves.execPorRelease (h : Evolves s t) : Answers s (execPorRelease t) :=
  (Evolves.ite h.put.put.put.put h).next

protected theorem Evolves.vddcLoss (h : Evolves s t) : Evolves s (vddcLoss t) :=
  .ite h (((h.each fun _ _ h => h.phHold).put).triggerReset)

protected theorem Evolves.execVddcLoss (h : Evolves s t) : Answers s (execVddcLoss t) := h.vddcLoss.next

protected theorem Evolves.pinReview (h : Evolves s t) : Evolves s (pinReview t) :=
  .ite h (.ite h.put.triggerReset (.ite h h.put.inc.raiseEvent))

protected theorem Evolves.execRstNAssert (h : Evolves s t) : Answers s (execRstNAssert t) :=
  (Evolves.ite h h.put.put.put.pinReview).next

protected theorem Evolves.execRstNQualifiedHigh (h : Evolves s t) : Answers s (execRstNQualifiedHigh t) :=
  h.put.put.put.next

protected theorem Evolves.execQuietPeriodEnd (h : Evolves s t) {page : BitVec 8} {cls : Fin 4} :
    Answers s (execQuietPeriodEnd page cls t) := by
  unfold execQuietPeriodEnd
  extract_lets s1 s2 s2'
  have h2 : Evolves s s2 := h.quietEnds.on fun _ h => h.portReview
  exact (((h2.on fun _ h => h.dieRestart).each fun _ _ h => h.recause).pinReview).next

protected theorem Evolves.execResetRelease (h : Evolves s t) : Answers s (execResetRelease t) :=
  (Evolves.ite h.put.put h).next

protected theorem Evolves.execHivePllLock (h : Evolves s t) : Answers s (execHivePllLock t) :=
  (Evolves.ite h ((h.put.put.put.on fun _ h => h.pinOpen).intcReview)).next

protected theorem Evolves.releaseComb (h : Evolves s t) {c : Fin 4} : Evolves s (releaseComb t c) :=
  ((h.each fun _ _ h => h.runSet).on fun _ h => h.modelCheck).each fun _ _ h => h.portReview

protected theorem Evolves.claimProceeds (h : Evolves s t) {kind : Nat} : Evolves s (claimProceeds t kind) := h.put.put.put.put

protected theorem Evolves.safePortsOff (h : Evolves s t) {c : Nat} : Evolves s (safePortsOff t c) :=
  h.each fun _ _ h => h.portOff

protected theorem Evolves.pdSafe (h : Evolves s t) {c : Nat} : Evolves s (pdSafe t c) :=
  .ite h.pdOpen.pdQuiet.pdUnattached (.ite h.pdUnattached h.put.put)

protected theorem Evolves.reactNow (h : Evolves s t) : Evolves s (reactNow t) :=
  h.each fun _ _ h => h.timerExpires.timerExpires

protected theorem Evolves.enterSafe (h : Evolves s t) : Evolves s (enterSafe t) := by
  unfold enterSafe
  split
  · exact h
  · extract_lets c s1 s2
    have h1 : Evolves s s1 := (((h.mode (by decide)).lockLevels).safePortsOff).each fun _ _ h => h.pdSafe
    exact h1.reactNow.releaseComb.swReview.on fun _ h => h.claimProceeds

protected theorem Evolves.firstEvaluation (h : Evolves s t) : Evolves s (firstEvaluation t) := by
  unfold firstEvaluation
  split
  · exact h
  · extract_lets s1
    have h1 : Evolves s s1 := h.put.put.errUpdate.pinReview
    exact .ite h1 (.ite h1.claimProceeds (.ite h1.enterSafe h1))

protected theorem Evolves.execFirstEvaluation (h : Evolves s t) : Answers s (execFirstEvaluation t) :=
  h.firstEvaluation.next

protected theorem Evolves.claimWindowEnd (h : Evolves s t) : Evolves s (claimWindowEnd t) :=
  .ite h (.ite h.put.enterSafe h.put)

protected theorem Evolves.execClaimWindowEnd (h : Evolves s t) : Answers s (execClaimWindowEnd t) := h.claimWindowEnd.next

protected theorem Evolves.claim (h : Evolves s t) : Evolves s (claim t) := by
  unfold claim
  split
  · exact h
  · extract_lets s1
    have h1 : Evolves s s1 := h.on fun _ h => h.put
    split
    · exact h1
    · exact .ite h1.claimProceeds (.ite h1 (.ite h1.claimProceeds h1.put))

protected theorem Evolves.execDomainTakesVddc (h : Evolves s t) : Answers s (execDomainTakesVddc t) :=
  (Evolves.ite h.put.put h).next

protected theorem Evolves.pdRestart (h : Evolves s t) : Evolves s (pdRestart t) :=
  h.each fun _ _ h => h.on fun _ h => h.pdUnattached

protected theorem Evolves.combRelease (h : Evolves s t) : Evolves s (combRelease t) := by
  unfold combRelease
  split
  · exact h
  · extract_lets dark s1 s2
    have h1 : Evolves s s1 := (((h.mode (by decide)).put).put).lockLevels
    exact ((h1.put.put.each fun _ _ h => h.releaseComb).pdRestart.each fun _ _ h => h.portReview).swReview

protected theorem Evolves.execCombRelease (h : Evolves s t) : Answers s (execCombRelease t) := h.combRelease.next

protected theorem Evolves.claimRefused (h : Evolves s t) : Evolves s (claimRefused t) :=
  .ite (.ite h.put.put.put.put.enterSafe h.put.put.put.put) h.put.put

protected theorem Evolves.coreFail (h : Evolves s t) : Evolves s (coreFail t) :=
  .ite h.put.put.raiseEvent.triggerReset (.ite h h.claimRefused.raiseEvent)

protected theorem Evolves.execCoreFail (h : Evolves s t) : Answers s (execCoreFail t) := h.coreFail.next

protected theorem Evolves.execStableService (h : Evolves s t) : Answers s (execStableService t) :=
  (Evolves.ite (h.put.on fun _ h => h.attemptsClear) h).next

protected theorem Evolves.pdSleeps (h : Evolves s t) {c : Fin 4} : Evolves s (pdSleeps t c) :=
  .ite h ((((((h.on fun _ h => h.pdDetach).on fun _ h => h.pdOpen).put).put).put).on fun _ h => h.put)

protected theorem Evolves.portSleeps (h : Evolves s t) {n : Nat} : Evolves s (portSleeps t n) :=
  .ite h (.ite h.put.putB.put h.put.putB.put.portPullDown.portState)

protected theorem Evolves.sleepEntry (h : Evolves s t) : Evolves s (sleepEntry t) := by
  unfold sleepEntry
  extract_lets s1 s2
  have h1 : Evolves s s1 := h.each fun _ _ h => h.squashEvery.each fun _ _ h => h.clearSlots
  have h2 : Evolves s s2 := h1.put.put.each fun _ _ h => h.phHold
  exact (h2.each fun _ _ h => h.impAbort).requeue { antq := by simp [State.reset] }

protected theorem Evolves.sleepStop (h : Evolves s t) : Evolves s (sleepStop t) :=
  (h.requeue { canq := by simp [State.reset] }).put.put.swStop.intcReview

protected theorem Evolves.hiveSleep (h : Evolves s t) : Evolves s (hiveSleep t) := .ite h.sleepEntry h

protected theorem Evolves.sleepLeft (h : Evolves s t) {srcs : Nat} : Evolves s (sleepLeft t srcs) := by
  unfold sleepLeft
  extract_lets s0 s1 s2 s3
  have h2 : Evolves s s2 := (h.on fun _ h => h.put).put.put.orF.put.on fun _ h => h.pinOpen
  exact ((h2.each fun _ _ h => h.recause).each fun _ _ h => h.portReview).intcReview

protected theorem Evolves.execSleepAbort (h : Evolves s t) {src : Fin 12} : Answers s (execSleepAbort src t) :=
  (Evolves.ite h.sleepLeft h).next

protected theorem Evolves.sleepGate (h : Evolves s t) : Evolves s (sleepGate t) :=
  .ite (h.put.put.put.put.put.put.put.each fun _ _ h => h.put) h

protected theorem Evolves.sleepStep (h : Evolves s t) : Evolves s (sleepStep t) := by
  unfold sleepStep
  split
  · exact h
  · split
    · exact h.sleepLeft
    · split
      · exact (h.each fun _ _ h => h.pdSleeps).put
      · exact (h.each fun _ _ h => h.portSleeps).put
      · exact h.sleepStop
      · exact h.sleepGate

protected theorem Evolves.execSleepTimerExpiry (h : Evolves s t) : Answers s (execSleepTimerExpiry t) :=
  (Evolves.ite h.wakeFires h).next

protected theorem Evolves.wake (h : Evolves s t) {src : Nat} {lost : Bool} : Evolves s (wake t src lost) :=
  h.put.put.put.hksWake.chgWake.thermalWake.sleepLeft.intcWake.errUpdate.pinReview

protected theorem Evolves.execWake (h : Evolves s t) {src : Fin 12} {lost : Bool} : Answers s (execWake src lost t) := by
  unfold execWake
  refine Evolves.next ?_
  split
  · split
    · exact h.orF
    · exact h.wake
    · exact h
  · exact h

protected theorem Evolves.hiveCmdWrite (h : Evolves s t) {k : Bool} {p : Fin 4} {w : Nat} :
    Evolves s (hiveCmdWrite t k p w).1 :=
  .ite_fst h.claim.fst (.ite_fst h.triggerReset.fst (.ite_fst h.hiveSleep.fst h.fst))

protected theorem Evolves.execClaim (h : Evolves s t) {a : Access} : Answers s (execClaim a t) :=
  (h.regOp fun _ _ h => h.hiveCmdWrite).next

protected theorem Evolves.execKeeperSoftwareReset (h : Evolves s t) {a : Access} :
    Answers s (execKeeperSoftwareReset a t) := (h.regOp fun _ _ h => h.hiveCmdWrite).next

protected theorem Evolves.execHiveSleep (h : Evolves s t) {a : Access} : Answers s (execHiveSleep a t) :=
  (h.regOp fun _ _ h => h.hiveCmdWrite).next

/-! ### Machine/Inject.lean -/

protected theorem Evolves.injectedAction (h : Evolves s t) {p i : Nat} : Evolves s (injectedAction t p i) := by
  unfold injectedAction
  split
  · exact h.onBackup
  · exact h.claimRefused
  · exact h.intcClear.intcSample
  · exact h.on fun _ h => h.commitAbandon
  · exact h.on fun _ h => h.addressLost
  · exact h.on fun _ h => h.drainReturns.maintEnd
  · exact h

protected theorem Evolves.injectEdge (h : Evolves s t) {p : Nat} {l : List Nat} : Evolves s (injectEdge t p l) :=
  h.each fun _ _ h => h.raiseFault.on fun _ h => h.injectedAction

protected theorem Evolves.faultInjectWrite (h : Evolves s t) {k : Bool} {p w : Nat} :
    Evolves s (faultInjectWrite t k p w).1 := .ite_fst h.refusal.fst (.ite_fst h.refusal.fst h.put.injectEdge.fst)

protected theorem Evolves.execFaultInject (h : Evolves s t) {a : Access} {page : BitVec 8} {w : BitVec 32} :
    Answers s (execFaultInject a page w t) := (h.regOp fun _ _ h => h.pageWrite fun _ h => h.faultInjectWrite).next

/-! ### Machine/Access.lean -/

protected theorem Evolves.captureWide (h : Evolves s t) {path : Fin 4} {key : Nat} : Evolves s (captureWide t path key) :=
  (h.requeue {}).put

protected theorem Evolves.readWide (h : Evolves s t) {path : Fin 4} {key : Nat} {high : Bool} :
    Evolves s (readWide t path key high).1 := by
  unfold readWide
  extract_lets s1
  have h1 : Evolves s s1 := .ite h h.captureWide
  split
  · exact h1.fst
  · exact h1.fst

protected theorem Evolves.captureAcc (h : Evolves s t) {path : Fin 4} {acc : Nat} : Evolves s (captureAcc t path acc) :=
  (h.requeue {}).accCapture

protected theorem Evolves.readAcc (h : Evolves s t) {path : Fin 4} {acc r : Nat} :
    Evolves s (readAcc t path acc r).1 := by
  unfold readAcc
  split
  · exact h.fst
  · extract_lets s1
    have h1 : Evolves s s1 := .ite h h.captureAcc
    split
    · exact h1.fst
    · exact h1.fst
    · exact h1.fst
    · exact h1.fst
    · exact h1.fst
    · exact h1.fst

protected theorem Evolves.holdLow (h : Evolves s t) {path : Fin 4} {key w : Nat} :
    Evolves s (holdLow t path key w) := h.requeue {}

protected theorem Evolves.commitHigh (h : Evolves s t) {path : Fin 4} {key w : Nat} :
    Evolves s (commitHigh t path key w) := by
  unfold commitHigh
  extract_lets v s1
  have h1 : Evolves s s1 := by
    unfold s1
    split
    · exact .ite (h.requeue {}) h
    · exact h
  exact .ite h1.hostPost h1

protected theorem Evolves.readEffect (h : Evolves s t) {k : Bool} {path : Fin 4} {p off : Nat} :
    Evolves s (readEffect t k path p off).1 := by
  unfold readEffect
  extract_lets plain
  split
  · exact .ite_fst h.retAccess.fst h.fst
  · exact .ite_fst h.claimRead.fst h.fst
  · split
    · exact h.peekCapture.fst
    · split
      · exact h.readWide
      · exact h.fst
  · exact .ite_fst h.rxNext.fst h.fst
  · exact .ite_fst h.readAcc h.fst
  · split
    · exact h.readWide
    · exact h.fst
  · exact h.fst

protected theorem Evolves.regRead (h : Evolves s t) {k : Bool} {path : Fin 4} {p off : Nat} :
    Evolves s (regRead t k path p off).1 := by
  unfold regRead
  split
  · exact h.refusal.fst
  · exact h.readEffect.tagReturn.fst

protected theorem Evolves.storeRead {r : State × Nat × Nat × Nat} (h : Evolves s r.1) {path : Fin 4} : Evolves s
    (storeRead r path) :=
  h.put.put.put

protected theorem Evolves.readOp (h : Evolves s t) {a : Access} {addr : Nat} : Evolves s (readOp t a addr) :=
  .ite h (.ite h.put (.storeRead h.touch.regRead))

protected theorem Evolves.pageCtlWrite (h : Evolves s t) {k : Bool} {p w : Nat} :
    Evolves s (pageCtlWrite t k p w).1 := h.specialWrite fun _ _ h => h.storeFields.on fun _ h => h.put

protected theorem Evolves.irqSetWrite (h : Evolves s t) {p w : Nat} : Evolves s (irqSetWrite t p w) := h.orF

protected theorem Evolves.lockWrite (h : Evolves s t) {k : Bool} {p w : Nat} : Evolves s (lockWrite t k p w).1 :=
  h.specialWrite fun _ _ h => h.orF.orF

protected theorem Evolves.headerWrite (h : Evolves s t) {k : Bool} {p off w : Nat} :
    Evolves s (headerWrite t k p off w).1 := by
  unfold headerWrite
  split
  · exact h.pageCtlWrite
  · exact h.irqSetWrite.fst
  · exact h.faultAckWrite
  · exact h.faultInjectWrite
  · exact h.lockWrite
  · exact h.plainWrite

protected theorem Evolves.hiveModeWrite (h : Evolves s t) {k : Bool} {w : Nat} : Evolves s (hiveModeWrite t k w).1 :=
  h.specialWrite fun _ _ h => h.storeFields.on fun _ h => h.testEnds

protected theorem Evolves.hiveWakeWrite (h : Evolves s t) {k : Bool} {w : Nat} : Evolves s (hiveWakeWrite t k w).1 :=
  h.specialWrite fun _ _ h => h.storeFields.orF

protected theorem Evolves.hiveWrite (h : Evolves s t) {k : Bool} {path : Fin 4} {node : BitVec 16} {off w : Nat} :
    Evolves s (hiveWrite t k path node off w).1 := by
  unfold hiveWrite
  split
  · exact h.hiveModeWrite
  · exact h.hiveCmdWrite
  · exact h.hiveWakeWrite
  · exact h.codeLoWrite.fst
  · exact h.attempt.fst
  · exact h.ksessCtlWrite
  · exact h.plainWrite

protected theorem Evolves.intcWrite (h : Evolves s t) {k : Bool} {off w : Nat} : Evolves s (intcWrite t k off w).1 := by
  unfold intcWrite
  split
  · exact h.pendSetWrite
  · split
    · exact h.pendClrWrite
    · exact .ite_fst h.endInterrupt.fst (.ite_fst h.srcCfgWrite h.intcPlainWrite)

protected theorem Evolves.wdgWrite (h : Evolves s t) {k : Bool} {off w : Nat} : Evolves s (wdgWrite t k off w).1 := by
  unfold wdgWrite
  split
  · exact h.svcWrite
  · exact (h.each fun _ _ h => h.hostCheckin).fst
  · exact h.plainWrite

protected theorem Evolves.combWrite (h : Evolves s t) {k : Bool} {c : Fin 4} {off w : Nat} :
    Evolves s (combWrite t k c off w).1 := by
  unfold combWrite
  split
  · exact h.cmbCtlWrite
  · exact h.markWrite
  · exact h.planCtlWrite
  · exact h.gangWrite
  · exact h.ppCtlWrite
  · exact h.budgetWriteReg
  · exact h.budgetWriteReg
  · exact h.budgetWriteReg
  · exact h.pdBudgetWrite
  · exact h.shedStatWrite
  · exact h.plainWrite

protected theorem Evolves.phaseWrite (h : Evolves s t) {k : Bool} {p : Fin 16} {off w : Nat} :
    Evolves s (phaseWrite t k p off w).1 := by
  unfold phaseWrite
  split
  · exact h.phCtlWrite
  · exact h.tbPerWrite
  · exact h.ilvWrite
  · exact h.plainWrite

protected theorem Evolves.portWrite (h : Evolves s t) {k : Bool} {n off w : Nat} :
    Evolves s (portWrite t k n off w).1 :=
  .ite_fst h.portCtlWrite (.ite_fst h.portTmWrite (h.specialWrite fun _ _ h => h.portRegWrite))

protected theorem Evolves.pdpWrite (h : Evolves s t) {k : Bool} {c : Fin 4} {off w : Nat} :
    Evolves s (pdpWrite t k c off w).1 := by
  unfold pdpWrite
  split
  · exact h.pdTimerWrite
  · split
    · exact h.pdpCtlWrite
    · exact h.vbusWrite
    · exact h.transWrite
    · exact h.txWrite
    · exact h.txAppend.fst
    · exact h.sigWrite
    · exact h.plainWrite

protected theorem Evolves.hksWrite (h : Evolves s t) {k : Bool} {off w : Nat} : Evolves s (hksWrite t k off w).1 := by
  unfold hksWrite
  split
  · exact h.hksCtlWrite
  · exact h.laneRefWriteReg
  · exact h.hksCalWrite
  · exact h.swTrigWrite
  · exact h.urgentWrite
  · exact h.tdacWriteReg
  · exact h.chWrite
  · exact h.chWrite
  · exact h.plainWrite

protected theorem Evolves.accWrite (h : Evolves s t) {k : Bool} {n off w : Nat} :
    Evolves s (accWrite t k n off w).1 := .ite_fst h.accCfgWrite h.plainWrite

protected theorem Evolves.mmtWrite (h : Evolves s t) {k : Bool} {off w : Nat} : Evolves s (mmtWrite t k off w).1 :=
  .ite_fst h.mmtCfgWrite h.plainWrite

protected theorem Evolves.thermWrite (h : Evolves s t) {k : Bool} {off w : Nat} :
    Evolves s (thermWrite t k off w).1 := by
  unfold thermWrite
  split
  · exact h.thmCtlWrite
  · split
    · exact h.thmAckWrite
    · split
      · extract_lets t'
        split
        · exact h.thsCfgWrite
        · exact h.thsThWrite
        · exact h.thsSdWrite
        · exact h.plainWrite
      · exact h.plainWrite

protected theorem Evolves.engineWrite (h : Evolves s t) {k : Bool} {n off w : Nat} :
    Evolves s (engineWrite t k n off w).1 := by
  unfold engineWrite
  split
  · exact h.chgCtlWrite
  · exact h.chgCmdWrite
  · exact h.chgTrimWrite
  · exact h.chgAccWrite
  · exact h.chgAbsWrite
  · exact h.impCtlWrite
  · exact h.plainWrite

protected theorem Evolves.tblWrite (h : Evolves s t) {k : Bool} {off w : Nat} : Evolves s (tblWrite t k off w).1 := by
  unfold tblWrite
  split
  · exact h.tblCmdWrite
  · exact h.loadCtlWrite
  · exact h.loadDataWrite
  · exact h.plainWrite

protected theorem Evolves.swarmWrite (h : Evolves s t) {k : Bool} {off w : Nat} :
    Evolves s (swarmWrite t k off w).1 := by
  unfold swarmWrite
  split
  · exact h.swCtlWrite
  · exact h.swAddrWrite
  · exact h.swCtlWrite
  · exact h.swCtlWrite
  · exact h.swCmdWrite
  · exact h.grpSelWrite
  · exact h.grpTotalWrite
  · exact h.plainWrite

protected theorem Evolves.memWrite (h : Evolves s t) {k : Bool} {n off w : Nat} :
    Evolves s (memWrite t k n off w).1 := by
  unfold memWrite
  split
  · exact h.memScrubWrite
  · exact h.memInjWrite
  · exact h.plainWrite

protected theorem Evolves.blockWrite (h : Evolves s t) {k : Bool} {path : Fin 4} {node : BitVec 16} {p off w : Nat} :
    Evolves s (blockWrite t k path node p off w).1 := by
  unfold blockWrite
  split
  · exact h.hiveWrite
  · exact .ite_fst h.clkCtlWrite h.plainWrite
  · exact .ite_fst h.retAccess h.plainWrite
  · exact h.intcWrite
  · exact h.wdgWrite
  · exact h.combWrite
  · exact h.phaseWrite
  · exact h.portWrite
  · exact h.pdpWrite
  · exact h.hksWrite
  · exact h.accWrite
  · exact h.mmtWrite
  · exact h.thermWrite
  · exact h.engineWrite
  · exact h.tblWrite
  · exact h.swarmWrite
  · exact h.memWrite
  · exact h.memWrite
  · exact .ite_fst h.tagInjWrite h.plainWrite
  · exact .ite_fst h.maintCmdWrite h.plainWrite
  · exact h.plainWrite

protected theorem Evolves.regWrite (h : Evolves s t) {k : Bool} {path : Fin 4} {node : BitVec 16} {p off w : Nat} :
    Evolves s (regWrite t k path node p off w).1 := by
  unfold regWrite
  split
  · exact h.refusal.fst
  · split
    · exact h.headerWrite
    · split
      · exact h.holdLow.fst
      · exact h.commitHigh.fst
      · exact h.blockWrite

protected theorem Evolves.writeOp (h : Evolves s t) {a : Access} {addr w : Nat} :
    Evolves s (writeOp t a addr w) := .ite h.put (h.regOp fun _ _ h => h.regWrite)

protected theorem Evolves.wordTouch (h : Evolves s t) {kf : Bool} {path : Fin 4} {addr : Nat} :
    Evolves s (wordTouch t kf path addr) := h.on fun _ h => h.put

protected theorem Evolves.wordRead (h : Evolves s t) {kf : Bool} {path : Fin 4} {addr : Nat} :
    Evolves s (wordRead t kf path addr).1 :=
  .ite_fst h.wordTouch.regRead (.ite_fst h.wordTouch.windowRead.tagReturn.fst h.wordTouch.refusal.fst)

protected theorem Evolves.wordWrite (h : Evolves s t) {kf : Bool} {path : Fin 4} {node : BitVec 16} {addr w : Nat} :
    Evolves s (wordWrite t kf path node addr w).1 :=
  .ite_fst h.wordTouch.regWrite (.ite_fst h.wordTouch.windowWrite h.wordTouch.refusal.fst)

protected theorem Evolves.execRegisterWrite (h : Evolves s t) {a : Access} {addr : BitVec 20} {w : BitVec 32} :
    Answers s (execRegisterWrite a addr w t) := h.writeOp.next

protected theorem Evolves.execPageIrqSet (h : Evolves s t) {a : Access} {page : BitVec 8} {w : BitVec 32} :
    Answers s (execPageIrqSet a page w t) := h.writeOp.next

protected theorem Evolves.execReadHolderCapture (h : Evolves s t) {a : Access} {addr : BitVec 20} :
    Answers s (execReadHolderCapture a addr t) := h.readOp.next

protected theorem Evolves.execLowWordWrite (h : Evolves s t) {a : Access} {addr : BitVec 20} {w : BitVec 32} :
    Answers s (execLowWordWrite a addr w t) := h.writeOp.next

protected theorem Evolves.execHighWordCommit (h : Evolves s t) {a : Access} {addr : BitVec 20} {w : BitVec 32} :
    Answers s (execHighWordCommit a addr w t) := h.writeOp.next

protected theorem Evolves.execIntcClaim (h : Evolves s t) {a : Access} {t' : Fin 4} :
    Answers s (execIntcClaim a t' t) := h.readOp.next

protected theorem Evolves.execPeek (h : Evolves s t) {a : Access} {c : Fin 4} : Answers s (execPeek a c t) :=
  h.readOp.next

protected theorem Evolves.execRxData (h : Evolves s t) {a : Access} {c : Fin 4} :
    Answers s (execRxData a c t) := h.readOp.next

protected theorem Evolves.execAccCapture (h : Evolves s t) {a : Access} {acc : Fin 512} :
    Answers s (execAccCapture a acc t) := h.readOp.next

protected theorem Evolves.execPwrRetData (h : Evolves s t) {a : Access} {w : Option (BitVec 32)} :
    Answers s (execPwrRetData a w t) := by
  unfold execPwrRetData
  refine Evolves.next ?_
  split
  · exact h.readOp
  · exact h.writeOp

/-! ### Machine/Frames.lean -/

protected theorem Evolves.localWord (h : Evolves s t) {path : Fin 4} {node : BitVec 16} {j : Job} :
    Evolves s (localWord t path node j).1 := .ite_fst h.fst (.ite_fst h.wordWrite.fst h.wordRead.fst)

protected theorem Evolves.remoteFail (h : Evolves s t) {reason : Nat} : Evolves s (remoteFail t reason) :=
  h.put.inc.evt.refusal

protected theorem Evolves.reqSend (h : Evolves s t) {j : Job} : Evolves s (reqSend t j).1 :=
  h.originate.wrapInc.fst

protected theorem Evolves.jobStep (h : Evolves s t) {path : Fin 4} {node : BitVec 16} {j : Job} :
    Evolves s (jobStep t path node j).1 :=
  .ite_fst (.ite_fst (((h.on fun _ h => h.put).remoteFail).fst) ((h.on fun _ h => h.put).reqSend)) h.localWord

protected theorem Evolves.runJob (h : Evolves s t) {path : Fin 4} {node : BitVec 16} {n : Nat} {j : Job} :
    Evolves s (runJob path node n t j).1 := by
  induction n generalizing t j with
  | zero => exact h
  | succ n ih =>
    unfold runJob
    split
    · exact h
    · exact ih h.jobStep

protected theorem Evolves.dropJob (h : Evolves s t) {path : Fin 4} : Evolves s (dropJob t path) := h.requeue {}

protected theorem Evolves.keepJob (h : Evolves s t) {path : Fin 4} {j : Job} :
    Evolves s (keepJob t path j) := h.requeue {}

protected theorem Evolves.hrdyUp (h : Evolves s t) : Evolves s (hrdyUp t) := h.putB

protected theorem Evolves.hostStat (h : Evolves s t) {code index : Nat} : Evolves s (hostStat t code index) := h.put.put

protected theorem Evolves.hostDone (h : Evolves s t) {j : Job} {answer : Bool} :
    Evolves s (hostDone t j answer) := (((h.on fun _ h => h.send).dropJob).hostStat).hrdyUp

protected theorem Evolves.canActive (h : Evolves s t) {n : Nat} : Evolves s (canActive t n) := h.on fun _ h => h.put

protected theorem Evolves.canSent (h : Evolves s t) {n : Nat} : Evolves s (canSent t n) := h.put.canActive

protected theorem Evolves.canAnswer (h : Evolves s t) {n : Nat} {j : Job} :
    Evolves s (canAnswer t n j) := h.on fun _ h => h.send.canSent

protected theorem Evolves.wordsDone (h : Evolves s t) {path : Fin 4} {j : Job} :
    Evolves s (wordsDone t path j) := (((h.on fun _ h => h.put.put).put).dropJob).on fun _ h => h.hrdyUp

protected theorem Evolves.settle (h : Evolves s t) {path : Fin 4} {j : Job} :
    Evolves s (settle t path j) := by
  unfold settle
  split
  · exact h
  · split
    · exact h.keepJob
    · split
      · exact h.keepJob
      · exact h.dropJob.canAnswer
      · exact h.wordsDone
      · exact h.hostDone
      · exact h

protected theorem Evolves.advance (h : Evolves s t) {path : Fin 4} {node : BitVec 16} {j : Job} :
    Evolves s (advance t path node j) := h.runJob.settle

protected theorem Evolves.hostEnd (h : Evolves s t) {j : Job} : Evolves s (hostEnd t j) :=
  h.inc.put.advance

/-! ### Machine/Can.lean -/

protected theorem Evolves.canStart (h : Evolves s t) {n : Fin 2} {w : CanWait} :
    Evolves s (canStart t n w) := h.advance

protected theorem Evolves.canDrain (h : Evolves s t) {n : Fin 2} {k : Nat} : Evolves s (canDrain n k t) := by
  induction k generalizing t with
  | zero => exact h
  | succ k ih =>
    unfold canDrain
    split
    · exact h
    · split
      · exact h
      next w rest hq => exact ih (Evolves.canStart (h.canqSet (by rw [hq, List.length_cons]; omega)))

protected theorem Evolves.canHeard (h : Evolves s t) {n : Nat} : Evolves s (canHeard t n) :=
  .ite h.put.canActive h.fresh.put.canActive

/-- A request waits where fewer than four do (R116). -/
protected theorem Evolves.canFrame (h : Evolves s t) {n : Fin 2} {id : Option (BitVec 29)} {payload : List (BitVec 8)}
    {waiting : Nat} :
    Evolves s (canFrame t n id payload waiting) := by
  unfold canFrame
  split
  · exact h
  · extract_lets s1
    have h1 : Evolves s s1 := h.canHeard
    split
    · exact h1.inc
    · split
      · exact h1
      · split
        · exact h1.inc.raiseEvent
        · rename_i hfull
          refine Evolves.canDrain (h1.canqSet ?_)
          simp only [List.length_append, List.length_singleton]
          omega

protected theorem Evolves.execCanRequest (h : Evolves s t) {n : Fin 2} {id : Option (BitVec 29)} {payload : List (BitVec 8)}
    {waiting : Fin 5} :
    Answers s (execCanRequest n id payload waiting t) := h.canFrame.next

protected theorem Evolves.execHeartbeat (h : Evolves s t) {n : Fin 2} : Answers s (execHeartbeat n t) :=
  (Evolves.ite h.wrapInc.send.canSent h).next

protected theorem Evolves.canCounters (h : Evolves s t) {n : Nat} : Evolves s (canCounters t n) := h.fresh.fresh.put.put

protected theorem Evolves.execErrPassive (h : Evolves s t) {n : Fin 2} : Answers s (execErrPassive n t) :=
  (Evolves.ite h.canCounters.put.raiseEvent h).next

protected theorem Evolves.execBusOff (h : Evolves s t) {n : Fin 2} : Answers s (execBusOff n t) :=
  (Evolves.ite h.canCounters.put.raiseHeld h).next

protected theorem Evolves.execBusOffRecovery (h : Evolves s t) {n : Fin 2} : Answers s (execBusOffRecovery n t) :=
  (Evolves.ite h.put.put.put.causeEnds h).next

/-! ### Machine/HostPort.lean -/

protected theorem Evolves.hostCrcError (h : Evolves s t) : Evolves s (hostCrcError t) :=
  h.inc.inc.on fun _ h => h.raiseEvent

protected theorem Evolves.hostClose (h : Evolves s t) : Evolves s (hostClose t) := by
  unfold hostClose
  split
  · exact h
  · exact .ite h.hostDone h.hostEnd

protected theorem Evolves.hostFrame (h : Evolves s t) {op addr len : Nat} {data : List (BitVec 32)} {rcrc : Nat} :
    Evolves s (hostFrame t op addr len data rcrc) :=
  .ite h (.ite h.hostClose (((h.hostClose.on fun _ h => h.hostCrcError).put).advance))

protected theorem Evolves.execRd (h : Evolves s t) {keeper : Bool} {addr : BitVec 24} {len : BitVec 8} {rcrc : BitVec 16} :
    Answers s (execRd keeper addr len rcrc t) := h.hostFrame.next

protected theorem Evolves.execWr (h : Evolves s t) {keeper : Bool} {addr : BitVec 24} {len : BitVec 8}
    {data : List (BitVec 32)} {rcrc : BitVec 16} :
    Answers s (execWr keeper addr len data rcrc t) := h.hostFrame.next

protected theorem Evolves.execRdn (h : Evolves s t) {keeper : Bool} {addr : BitVec 24} {len : BitVec 8} {rcrc : BitVec 16} :
    Answers s (execRdn keeper addr len rcrc t) := h.hostFrame.next

protected theorem Evolves.execWrn (h : Evolves s t) {keeper : Bool} {addr : BitVec 24} {len : BitVec 8}
    {data : List (BitVec 32)} {rcrc : BitVec 16} :
    Answers s (execWrn keeper addr len data rcrc t) := h.hostFrame.next

protected theorem Evolves.execNop (h : Evolves s t) {op : BitVec 8} {addr : BitVec 24} {len : BitVec 8} {rcrc : BitVec 16} :
    Answers s (execNop op addr len rcrc t) := h.hostFrame.next

protected theorem Evolves.chunkReady (h : Evolves s t) : Evolves s (chunkReady t) := by
  unfold chunkReady
  split
  · exact h
  · exact .ite h h.send.keepJob.hrdyUp

protected theorem Evolves.execChunkReady (h : Evolves s t) : Answers s (execChunkReady t) := h.chunkReady.next

protected theorem Evolves.chunkDrained (h : Evolves s t) : Evolves s (chunkDrained t) := by
  unfold chunkDrained
  split
  · exact h
  · exact .ite h (.ite h.dropJob.hostStat h.put.advance)

protected theorem Evolves.execChunkDrained (h : Evolves s t) : Answers s (execChunkDrained t) := h.chunkDrained.next

protected theorem Evolves.hostAbort (h : Evolves s t) : Evolves s (hostAbort t) :=
  .ite h (.ite h.hostClose.inc.hostStat h.hostClose)

protected theorem Evolves.execFrameAbort (h : Evolves s t) : Answers s (execFrameAbort t) := h.hostAbort.next

protected theorem Evolves.execFrameEndAfterCheck (h : Evolves s t) : Answers s (execFrameEndAfterCheck t) := by
  unfold execFrameEndAfterCheck
  refine Evolves.next ?_
  split
  · exact h
  · exact h.hostEnd

protected theorem Evolves.execStall (h : Evolves s t) : Answers s (execStall t) := by
  unfold execStall
  refine Evolves.next ?_
  split
  · exact h
  · split
    · exact h.hostAbort
    · exact h.hostEnd

/-! ### Machine/Image.lean -/

protected theorem Evolves.reportCause (h : Evolves s t) : Evolves s (reportCause t) :=
  h.put.put.setRetWord.setRetWord.put.on fun _ h => h.evt

protected theorem Evolves.retRestoreAll (h : Evolves s t) : Evolves s (retRestoreAll t) := h.blockRead.restoreRet

protected theorem Evolves.imageSet (h : Evolves s t) {x : Nat × Nat} : Evolves s (imageSet t x) := .ite h.regWrite h

protected theorem Evolves.portBlank (h : Evolves s t) {n : Nat} : Evolves s (portBlank t n) := by
  refine h.eachMem fun _ q hq h => h.put ?_
  obtain ⟨off, -, hq⟩ := List.mem_flatMap.mp hq
  exact (portPageLayout_highKeys n off).ne_mode (List.mem_of_mem_filter hq)

protected theorem Evolves.absentOff (h : Evolves s t) {n : Nat} : Evolves s (absentOff t n) :=
  .ite h (.ite h.put.put.put (.ite h h.portPullDown.portState))

protected theorem Evolves.portStep4 (h : Evolves s t) {ws : List (Nat × Nat)} {n : Nat} : Evolves s (portStep4 ws t n) := by
  have hl : ∀ off, Layout.SparesMode ((portPageLayout n off).filter fun q => q.2 == .krw || q.2 == .rw) :=
    fun off => (portPageLayout_highKeys n off).sparesMode.filter
  unfold portStep4
  extract_lets mine s1 s2
  have h1 : Evolves s s1 := h.portBlank.each fun _ _ h => h.storeFields (hl _)
  have h2 : Evolves s s2 := h1.fetLoad
  split
  · exact (h2.storeFields (hl _)).absentOff
  · exact h2.portCtlWrite.portClockBack.absentOff

protected theorem Evolves.loadBank (h : Evolves s t) {l : List (BitVec 8)} : Evolves s (loadBank t l) :=
  ((h.clearMem.each fun _ _ h => h.setByte).put).put

protected theorem Evolves.bootBuiltIn (h : Evolves s t) : Evolves s (bootBuiltIn t) :=
  ((h.loadBank.put.put.each fun _ _ h => h.put).each fun _ _ h => h.portStep4).raiseEvent

protected theorem Evolves.imageLocks (h : Evolves s t) {img : List (BitVec 8)} : Evolves s (imageLocks t img) :=
  h.each fun _ _ h => h.on fun _ h => h.orF.orF.put

protected theorem Evolves.bootImage (h : Evolves s t) {slot : Nat} : Evolves s (bootImage t slot) := by
  unfold bootImage
  extract_lets img ws host s1 s2 s3 s4 s5 s6 fell
  have h1 : Evolves s s1 := h.blockRead.loadBank
  have h3 : Evolves s s3 := (h1.put.put.put.each fun _ _ h => h.putB).each fun _ _ h => h.putB.putB
  have h5 : Evolves s s5 := h3.put.put.put.put.put.each fun _ _ h => h.imageSet
  exact (h5.each fun _ _ h => h.portStep4).imageLocks.on fun _ h => h.put.raiseEvent

protected theorem Evolves.watchdogReport (h : Evolves s t) : Evolves s (watchdogReport t) :=
  .ite h.eventRecord.put.put.put.putB.putB.putB.putB.put h

protected theorem Evolves.lossReport (h : Evolves s t) : Evolves s (lossReport t) :=
  ((h.put.on fun _ h => h.raiseEvent).put).on fun _ h => h.raiseEvent

protected theorem Evolves.imageSelect (h : Evolves s t) {vaux vinMax vbusMax : Nat} :
    Evolves s (imageSelect t vaux vinMax vbusMax) := by
  unfold imageSelect
  extract_lets s0 s1 s2 s3 s4 s5
  have h0 : Evolves s s0 := .ite h.retRestoreAll h
  have h1 : Evolves s s1 := h0.blockRead.reportCause
  have h2 : Evolves s s2 := by
    unfold s2
    split
    · exact h1.bootImage
    · exact h1.bootBuiltIn
  have h5 : Evolves s s5 := h2.putB.put.lossReport.watchdogReport.reapplyRecords.curveReview.seqReview.put
  exact .ite h5 h5.addressTake

protected theorem Evolves.execImageSelect (h : Evolves s t) {vaux vinMax vbusMax : Nat} :
    Answers s (execImageSelect vaux vinMax vbusMax t) := (Evolves.ite h.imageSelect h).next

/-! ### Machine/Remote.lean -/

protected theorem Evolves.clearHolders (h : Evolves s t) : Evolves s (clearHolders t) := (h.requeue {}).put

protected theorem Evolves.reqTake (h : Evolves s t) {f : SwFrame} : Evolves s (reqTake t f) :=
  .ite h (.ite h.clearHolders.runJob h.clearHolders.runJob.originate)

protected theorem Evolves.execReq (h : Evolves s t) {f : SwFrame} : Answers s (execReq f t) :=
  (h.receive (fun _ h => h) fun _ h => h.reqTake).next

protected theorem Evolves.resume (h : Evolves s t) {path : Fin 4} {j : Job} :
    Evolves s (resume t path j) := .ite h.advance.canDrain (.ite h.advance.canDrain h.advance)

protected theorem Evolves.rspTake (h : Evolves s t) {f : SwFrame} : Evolves s (rspTake t f) := by
  unfold rspTake
  split
  · exact h
  · split
    · exact h
    · exact (h.on fun _ h => h.refusal).resume

protected theorem Evolves.execRsp (h : Evolves s t) {f : SwFrame} : Answers s (execRsp f t) :=
  (h.receive (fun _ h => h) fun _ h => h.rspTake).next

protected theorem Evolves.remoteAccess (h : Evolves s t) {a : Access} {addr len : Nat} {data : Option (List (BitVec 32))} :
    Evolves s (remoteAccess t a addr len data) := by
  unfold remoteAccess
  extract_lets path s' op j n
  have h' : Evolves s s' := .ite h.hostClose h
  exact .ite h' (.ite h'.put ((h'.touch.on fun _ h => h.put).advance))

protected theorem Evolves.execRemoteAccess (h : Evolves s t) {a : Access} {addr : BitVec 20} {len : BitVec 8}
    {data : Option (List (BitVec 32))} :
    Answers s (execRemoteAccess a addr len data t) := h.remoteAccess.next

protected theorem Evolves.remoteTimeout (h : Evolves s t) {path : Fin 4} : Evolves s (remoteTimeout t path) := by
  unfold remoteTimeout
  split
  · exact h
  · exact .ite h ((h.each fun _ _ h => h.remoteFail).resume)

protected theorem Evolves.execRemoteTimeout (h : Evolves s t) {path : Path} :
    Answers s (execRemoteTimeout path t) := h.remoteTimeout.next

protected theorem Evolves.execWindowWrite (h : Evolves s t) {a : Access} {addr : BitVec 24} {w : BitVec 32} :
    Answers s (execWindowWrite a addr w t) := by
  unfold execWindowWrite
  extract_lets ad
  exact (Evolves.ite h.remoteAccess
      (.ite (.ite h.put h) (h.regOp fun _ _ h => .ite_fst h.regWrite (.ite_fst h.windowWrite h.refusal.fst)))).next

/-! ### Machine/Tick.lean -/

protected theorem Evolves.tickAlways (h : Evolves s t) : Evolves s (tickAlways t) :=
  (((h.wrapInc.on fun _ h => h.put.put).on fun _ h => h.inc).each fun _ _ h => h.inc).wdgTick

protected theorem Evolves.tickSecond (h : Evolves s t) : Evolves s (tickSecond t) :=
  ((h.each fun _ _ h => h.put).put).each fun _ _ h => h.inc

protected theorem Evolves.tickSlew (h : Evolves s t) {c : Nat} : Evolves s (tickSlew t c) :=
  ((h.on fun _ h => h.put).on fun _ h => h.put).disReview

protected theorem Evolves.tickTimers (h : Evolves s t) : Evolves s (tickTimers t) := by
  unfold tickTimers
  extract_lets s1 s2 s3 s4
  have h1 : Evolves s s1 := .ite h.put.tickSecond h.put
  have h2 : Evolves s s2 := (h1.on fun _ h => h.each fun _ _ h => h.inc).each fun _ _ h => h.put
  exact ((h2.each fun _ _ h => h.inc).each fun _ _ h => h.inc.putSat).each fun _ _ h => h.put

protected theorem Evolves.tickHive (h : Evolves s t) : Evolves s (tickHive t) :=
  ((h.each fun _ _ h => h.put.put).each fun _ _ h => h.tickSlew).swTick

protected theorem Evolves.tickMs (h : Evolves s t) : Evolves s (tickMs t) :=
  .ite h.tickAlways (.ite h.tickAlways.tickTimers h.tickAlways.tickTimers.tickHive)

protected theorem Evolves.tick (h : Evolves s t) : Evolves s (tick t) := .ite h (.ite h.sleepStep h.sleepStep.tickMs)

/-! ### Every command and every step -/

/-- Every command completes, and its next state is reached by moves. -/
theorem exec_answers (h : Evolves s t) (c : Instr) : Answers s (exec c t) := by
  cases c with
  | registerWrite => exact h.execRegisterWrite
  | clockMonitorTrip => exact h.execClockMonitorTrip
  | refLost => exact h.execRefLost
  | retReady => exact h.execRetReady
  | clkReturn => exact h.execClkReturn
  | gangReq => exact h.execGangReq
  | gangCheck => exact h.execGangCheck
  | gangDissolve => exact h.execGangDissolve
  | preRegulatorStart => exact h.execPreRegulatorStart
  | idealDiodeSwitch => exact h.execIdealDiodeSwitch
  | ioRailToVddio => exact h.execIoRailToVddio
  | ioRailToVioi => exact h.execIoRailToVioi
  | domainTakesVddc => exact h.execDomainTakesVddc
  | vddcLoss => exact h.execVddcLoss
  | referenceSelect => exact h.execReferenceSelect
  | powerOnReset => exact h.execPowerOnReset
  | porRelease => exact h.execPorRelease
  | coreFail => exact h.execCoreFail
  | rstNAssert => exact h.execRstNAssert
  | keeperSoftwareReset => exact h.execKeeperSoftwareReset
  | resetRelease => exact h.execResetRelease
  | hivePllLock => exact h.execHivePllLock
  | imageSelect => exact h.execImageSelect
  | firstEvaluation => exact h.execFirstEvaluation
  | claimWindowEnd => exact h.execClaimWindowEnd
  | claim => exact h.execClaim
  | combRelease => exact h.execCombRelease
  | stableService => exact h.execStableService
  | retentionShadowCopy => exact h.execRetentionShadowCopy
  | pwrRetData => exact h.execPwrRetData
  | hiveSleep => exact h.execHiveSleep
  | sleepAbort => exact h.execSleepAbort
  | sleepTimerExpiry => exact h.execSleepTimerExpiry
  | wake => exact h.execWake
  | pageIrqSet => exact h.execPageIrqSet
  | faultAck => exact h.execFaultAck
  | faultInject => exact h.execFaultInject
  | readHolderCapture => exact h.execReadHolderCapture
  | lowWordWrite => exact h.execLowWordWrite
  | highWordCommit => exact h.execHighWordCommit
  | pinSessionOpen => exact h.execPinSessionOpen
  | pinSessionClose => exact h.execPinSessionClose
  | ksessCodeLo => exact h.execKsessCodeLo
  | attempt => exact h.execAttempt
  | lockoutEnd => exact h.execLockoutEnd
  | sessionClose => exact h.execSessionClose
  | sessionIdleClose => exact h.execSessionIdleClose
  | rd => exact h.execRd
  | wr => exact h.execWr
  | rdn => exact h.execRdn
  | wrn => exact h.execWrn
  | nop => exact h.execNop
  | chunkReady => exact h.execChunkReady
  | chunkDrained => exact h.execChunkDrained
  | frameAbort => exact h.execFrameAbort
  | frameEndAfterCheck => exact h.execFrameEndAfterCheck
  | stall => exact h.execStall
  | canRequest => exact h.execCanRequest
  | heartbeat => exact h.execHeartbeat
  | errPassive => exact h.execErrPassive
  | busOff => exact h.execBusOff
  | busOffRecovery => exact h.execBusOffRecovery
  | combMark => exact h.execCombMark
  | issueDecision => exact h.execIssueDecision
  | periodStart => exact h.execPeriodStart
  | slotWrite => exact h.execSlotWrite
  | walk => exact h.execWalk
  | squash => exact h.execSquash
  | dsat => exact h.execDsat
  | duv => exact h.execDuv
  | fwTimeout => exact h.execFwTimeout
  | decayComplete => exact h.execDecayComplete
  | runSet => exact h.execRunSet
  | runCleared => exact h.execRunCleared
  | cbc => exact h.execCbc
  | cbcPersist => exact h.execCbcPersist
  | samplePoint => exact h.execSamplePoint
  | snsSat => exact h.execSnsSat
  | planStarved => exact h.execPlanStarved
  | confirmation => exact h.execConfirmation
  | nosample => exact h.execNosample
  | planEntryCommit => exact h.execPlanEntryCommit
  | coefficientRecompute => exact h.execCoefficientRecompute
  | gangSquash => exact h.execGangSquash
  | degrade => exact h.execDegrade
  | stormEnter => exact h.execStormEnter
  | stormExit => exact h.execStormExit
  | feederPre => exact h.execFeederPre
  | feederMain => exact h.execFeederMain
  | feederOff => exact h.execFeederOff
  | pdTrans => exact h.execPdTrans
  | changeover => exact h.execChangeover
  | budget => exact h.execBudget
  | share => exact h.execShare
  | hostRecord => exact h.execHostRecord
  | cancel => exact h.execCancel
  | recordRetire => exact h.execRecordRetire
  | markPerWrite => exact h.execMarkPerWrite
  | modelWrite => exact h.execModelWrite
  | foragerEnable => exact h.execForagerEnable
  | peek => exact h.execPeek
  | stale => exact h.execStale
  | staleRamp => exact h.execStaleRamp
  | batteryUnusable => exact h.execBatteryUnusable
  | batteryUsable => exact h.execBatteryUsable
  | sourceQualified => exact h.execSourceQualified
  | revert => exact h.execRevert
  | plannedChangeover => exact h.execPlannedChangeover
  | changeoverLeadExpiry => exact h.execChangeoverLeadExpiry
  | onCommand => exact h.execOnCommand
  | pairOnReport => exact h.execPairOnReport
  | pairOffReport => exact h.execPairOffReport
  | budgetWrite => exact h.execBudgetWrite
  | rampDone => exact h.execRampDone
  | shedCheck => exact h.execShedCheck
  | shedRestore => exact h.execShedRestore
  | pdCut => exact h.execPdCut
  | pdCutEnforced => exact h.execPdCutEnforced
  | supExit => exact h.execSupExit
  | batLow => exact h.execBatLow
  | shareLost => exact h.execShareLost
  | evaluation => exact h.execEvaluation
  | engineEnable => exact h.execEngineEnable
  | profileWrite => exact h.execProfileWrite
  | staleInput => exact h.execStaleInput
  | restart => exact h.execRestart
  | gotoState => exact h.execGotoState
  | clearTotal => exact h.execClearTotal
  | exitMet => exact h.execExitMet
  | chargeTimeout => exact h.execChargeTimeout
  | vcellHigh => exact h.execVcellHigh
  | blockClose => exact h.execBlockClose
  | dtdtUpdate => exact h.execDtdtUpdate
  | probeTrigger => exact h.execProbeTrigger
  | periodicProbe => exact h.execPeriodicProbe
  | probeEnd => exact h.execProbeEnd
  | batteryReturn => exact h.execBatteryReturn
  | lampPatternChange => exact h.execLampPatternChange
  | sweepRequest => exact h.execSweepRequest
  | autoSweep => exact h.execAutoSweep
  | sweepAbort => exact h.execSweepAbort
  | sweepResume => exact h.execSweepResume
  | impStep => exact h.execImpStep
  | impedancePair => exact h.execImpedancePair
  | settleDone => exact h.execSettleDone
  | integrationDone => exact h.execIntegrationDone
  | pointResult => exact h.execPointResult
  | windowOutside => exact h.execWindowOutside
  | windowInside => exact h.execWindowInside
  | ovp => exact h.execOvp
  | presenceAsserted => exact h.execPresenceAsserted
  | presenceDeasserted => exact h.execPresenceDeasserted
  | portEnable => exact h.execPortEnable
  | commandedTurnOff => exact h.execCommandedTurnOff
  | insDlyExpiry => exact h.execInsDlyExpiry
  | prechargeStart => exact h.execPrechargeStart
  | enhancementStart => exact h.execEnhancementStart
  | prechargeEnd => exact h.execPrechargeEnd
  | pcgFail => exact h.execPcgFail
  | fullEnhancement => exact h.execFullEnhancement
  | gateRise => exact h.execGateRise
  | pgAssert => exact h.execPgAssert
  | pullDownStart => exact h.execPullDownStart
  | gateFall => exact h.execGateFall
  | limit => exact h.execLimit
  | limitRelease => exact h.execLimitRelease
  | ocTrip => exact h.execOcTrip
  | short => exact h.execShort
  | retryDone => exact h.execRetryDone
  | modelStep => exact h.execModelStep
  | modelInputStale => exact h.execModelInputStale
  | revHold => exact h.execRevHold
  | reverse => exact h.execReverse
  | attach => exact h.execAttach
  | detach => exact h.execDetach
  | roleToggle => exact h.execRoleToggle
  | dutyEntry => exact h.execDutyEntry
  | pdRelease => exact h.execPdRelease
  | transition => exact h.execTransition
  | transitionStart => exact h.execTransitionStart
  | transDone => exact h.execTransDone
  | rxMsg => exact h.execRxMsg
  | txOk => exact h.execTxOk
  | txRetry => exact h.execTxRetry
  | go => exact h.execGo
  | txData => exact h.execTxData
  | rxData => exact h.execRxData
  | hardReset => exact h.execHardReset
  | cableReset => exact h.execCableReset
  | srcOff => exact h.execSrcOff
  | srcOn => exact h.execSrcOn
  | hardResetRx => exact h.execHardResetRx
  | cableResetRx => exact h.execCableResetRx
  | tPsHardReset => exact h.execTPsHardReset
  | tSrcRecover => exact h.execTSrcRecover
  | hardResetDone => exact h.execHardResetDone
  | frsSignal => exact h.execFrsSignal
  | frsTakeover => exact h.execFrsTakeover
  | hostTimerStart => exact h.execHostTimerStart
  | hostTimerStop => exact h.execHostTimerStop
  | hostTimerExpiry => exact h.execHostTimerExpiry
  | pdShortCircuit => exact h.execPdShortCircuit
  | pdOverCurrent => exact h.execPdOverCurrent
  | pdOverVoltage => exact h.execPdOverVoltage
  | pdReverseCurrent => exact h.execPdReverseCurrent
  | ccOvp => exact h.execCcOvp
  | vconnOc => exact h.execVconnOc
  | pdGateRise => exact h.execPdGateRise
  | errorRecoveryEnd => exact h.execErrorRecoveryEnd
  | pdEnable => exact h.execPdEnable
  | switchOpen => exact h.execSwitchOpen
  | vsafe0v => exact h.execVsafe0v
  | discharge => exact h.execDischarge
  | conversionEnd => exact h.execConversionEnd
  | valueAvailable => exact h.execValueAvailable
  | seqTimer => exact h.execSeqTimer
  | phaseEventTrigger => exact h.execPhaseEventTrigger
  | swTrig => exact h.execSwTrig
  | sequenceDue => exact h.execSequenceDue
  | sequenceStepStart => exact h.execSequenceStepStart
  | urgent => exact h.execUrgent
  | laneRefWrite => exact h.execLaneRefWrite
  | settled => exact h.execSettled
  | refTimeout => exact h.execRefTimeout
  | calibration => exact h.execCalibration
  | autoCalibration => exact h.execAutoCalibration
  | laneHandover => exact h.execLaneHandover
  | calDone => exact h.execCalDone
  | tdacWrite => exact h.execTdacWrite
  | tdacReady => exact h.execTdacReady
  | accClr => exact h.execAccClr
  | mmtClr => exact h.execMmtClr
  | accCapture => exact h.execAccCapture
  | thresholdBlock => exact h.execThresholdBlock
  | sramScrub => exact h.execSramScrub
  | retentionScrub => exact h.execRetentionScrub
  | mramScrub => exact h.execMramScrub
  | retentionRestore => exact h.execRetentionRestore
  | windowWrite => exact h.execWindowWrite
  | injectionArm => exact h.execInjectionArm
  | tagInj => exact h.execTagInj
  | thermalSample => exact h.execThermalSample
  | thermalUrgentRequest => exact h.execThermalUrgentRequest
  | throttleLevel => exact h.execThrottleLevel
  | shutdown => exact h.execShutdown
  | sensorFailed => exact h.execSensorFailed
  | intervalLengthen => exact h.execIntervalLengthen
  | substitutionEnd => exact h.execSubstitutionEnd
  | dieComparator => exact h.execDieComparator
  | cooled => exact h.execCooled
  | thmAck => exact h.execThmAck
  | minPower => exact h.execMinPower
  | sdWrite => exact h.execSdWrite
  | reactionTimer => exact h.execReactionTimer
  | quietPeriodEnd => exact h.execQuietPeriodEnd
  | lampOc => exact h.execLampOc
  | lampOcReleaseEnd => exact h.execLampOcReleaseEnd
  | lineChange => exact h.execLineChange
  | pendSet => exact h.execPendSet
  | pendClr => exact h.execPendClr
  | intcClaim => exact h.execIntcClaim
  | endOfInterrupt => exact h.execEndOfInterrupt
  | activeLong => exact h.execActiveLong
  | windowClose => exact h.execWindowClose
  | earlyWarning => exact h.execEarlyWarning
  | firstKey => exact h.execFirstKey
  | keyPair => exact h.execKeyPair
  | badKey => exact h.execBadKey
  | checkin => exact h.execCheckin
  | internalCheckin => exact h.execInternalCheckin
  | clkStop => exact h.execClkStop
  | clkMon => exact h.execClkMon
  | monOtherClear => exact h.execMonOtherClear
  | link => exact h.execLink
  | linkSend => exact h.execLinkSend
  | portDown => exact h.execPortDown
  | announce => exact h.execAnnounce
  | announceSend => exact h.execAnnounceSend
  | shareFrame => exact h.execShareFrame
  | shareCompute => exact h.execShareCompute
  | report => exact h.execReport
  | reportSend => exact h.execReportSend
  | req => exact h.execReq
  | rsp => exact h.execRsp
  | resetFrame => exact h.execResetFrame
  | groupSet => exact h.execGroupSet
  | timeFrame => exact h.execTimeFrame
  | timeSend => exact h.execTimeSend
  | addressAssign => exact h.execAddressAssign
  | election => exact h.execElection
  | heirTakeover => exact h.execHeirTakeover
  | nodeUnreachable => exact h.execNodeUnreachable
  | holdover => exact h.execHoldover
  | noQueen => exact h.execNoQueen
  | remoteAccess => exact h.execRemoteAccess
  | remoteTimeout => exact h.execRemoteTimeout
  | resetCommand => exact h.execResetCommand
  | groupTotalWrite => exact h.execGroupTotalWrite
  | forget => exact h.execForget
  | loadStart => exact h.execLoadStart
  | loadData => exact h.execLoadData
  | copy => exact h.execCopy
  | copyDone => exact h.execCopyDone
  | erase => exact h.execErase
  | eraseDone => exact h.execEraseDone
  | verify => exact h.execVerify
  | verifyDone => exact h.execVerifyDone
  | commit => exact h.execCommit
  | barrier => exact h.execBarrier
  | commitTimeout => exact h.execCommitTimeout
  | barrierRegistered => exact h.execBarrierRegistered
  | released => exact h.execReleased
  | retireTimeout => exact h.execRetireTimeout
  | imgCheck => exact h.execImgCheck
  | imgCheckDone => exact h.execImgCheckDone
  | phaseOut => exact h.execPhaseOut
  | phaseAtZero => exact h.execPhaseAtZero
  | phaseOutComplete => exact h.execPhaseOutComplete
  | phaseIn => exact h.execPhaseIn
  | combDrain => exact h.execCombDrain
  | combRestore => exact h.execCombRestore
  | sensorOut => exact h.execSensorOut
  | sensorIn => exact h.execSensorIn
  | portHold => exact h.execPortHold
  | portRelease => exact h.execPortRelease
  | convOut => exact h.execConvOut
  | convIn => exact h.execConvIn
  | drainTimeout => exact h.execDrainTimeout
  | clockReturn => exact h.execClockReturn
  | gateDriverInputHigh => exact h.execGateDriverInputHigh
  | rstNQualifiedHigh => exact h.execRstNQualifiedHigh
  | receiverLockLost => exact h.execReceiverLockLost
  | referenceValidityChange => exact h.execReferenceValidityChange
  | vsafe5v => exact h.execVsafe5v

/-- A millisecond passes, or the command at the front is run on the state with the queue's rest. -/
theorem step_answers (s : State) : ∃ l, Answers (s.withPending l) (step s) := by
  unfold step
  split
  next hp => exact ⟨[], by rw [show s.withPending [] = s by rw [State.withPending, ← hp]]; exact Evolves.refl.tick.next⟩
  next c rest hp => exact ⟨rest, exec_answers .refl c⟩

/-! ### The queues keep their sizes -/

theorem Queues.bounded_iff (s : State) : Queues.bounded s = true ↔
    (∀ p : Fin 16, s.slots[p].length ≤ 2 ∧ s.window[p].length ≤ 16) ∧ (∀ c : Fin 4, s.antq[c].length ≤ 16 ∧
        s.rx[c].length ≤ 2)
      ∧ (∀ i : Fin 2, s.canq[i].length ≤ 4) ∧ s.get HIVE_MODE.MODE ≤ 2 := by
  simp only [Queues.bounded, Bool.and_eq_true, List.all_eq_true, decide_eq_true_eq, List.mem_finRange, true_imp_iff, and_assoc]

/-- A state with the same queues and the same mode. -/
theorem Queues.bounded_congr (hs : t.slots = s.slots) (hw : t.window = s.window) (ha : t.antq = s.antq) (hr : t.rx = s.rx)
    (hc : t.canq = s.canq) (hm : t.get HIVE_MODE.MODE = s.get HIVE_MODE.MODE) (h : Queues.bounded s = true) :
    Queues.bounded t = true := by
  rw [Queues.bounded_iff] at *
  rwa [hs, hw, ha, hr, hc, hm]

/-- A field with the reset value 0 is kept, or reads 0. -/
theorem State.get_keepKeys_le {p : Nat → Bool} {f : Fld} (hf : f.rst = 0) : (s.keepKeys p).get f ≤ s.get f := by
  simp only [State.get, State.keepKeys, Sparse.look_keep, hf]
  split <;> simp

/-- Moves keep the queues within their sizes and the mode one of the three. -/
theorem Evolves.bounded (h : Evolves s t) (hs : Queues.bounded s = true) : Queues.bounded t = true := by
  induction h with
  | refl => exact hs
  | @put u _ f v hf ih =>
    exact Queues.bounded_congr (s := u) rfl rfl rfl rfl rfl (State.get_put_ne u v (Ne.symm hf)) ih
  | mode _ hv ih =>
    obtain ⟨hq, hc, hi, -⟩ := (Queues.bounded_iff _).mp ih
    refine (Queues.bounded_iff _).mpr ⟨hq, hc, hi, ?_⟩
    rw [State.get_put_same]
    exact le_trans (Nat.mod_le _ _) hv
  | setByte _ ih => exact ih
  | setRetByte _ ih => exact ih
  | setEcc _ ih => exact ih
  | keepKeys _ ih =>
    obtain ⟨hq, hc, hi, hm⟩ := (Queues.bounded_iff _).mp ih
    exact (Queues.bounded_iff _).mpr ⟨hq, hc, hi, le_trans (State.get_keepKeys_le rfl) hm⟩
  | clearMem _ ih => exact ih
  | restoreRet _ ih => exact ih
  | @requeue t u _ hu ih =>
    obtain ⟨hq, hc, hi, hm⟩ := (Queues.bounded_iff _).mp ih
    refine (Queues.bounded_iff _).mpr ⟨fun p => ?_, fun c => ?_, fun i => ?_, ?_⟩
    · obtain ⟨hslots, hwindow⟩ := hq p
      exact ⟨le_trans (hu.slots p) (max_le (le_refl 2) hslots), le_trans (hu.window p) (max_le (le_refl 16) hwindow)⟩
    · obtain ⟨hantq, hrx⟩ := hc c
      exact ⟨le_trans (hu.antq c) (max_le (le_refl 16) hantq), le_trans (hu.rx c) (max_le (le_refl 2) hrx)⟩
    · exact le_trans (hu.canq i) (max_le (le_refl 4) (hi i))
    · rwa [State.get_congr hu.regs]

/-- Settles O5: a step is made of moves, and no move lets a queue outgrow its size or leaves the three modes. -/
theorem everyStepKeepsTheQueuesBounded : Obligations.EveryStepKeepsTheQueuesBounded := by
  unfold Obligations.EveryStepKeepsTheQueuesBounded
  intro s t hs hstep
  obtain ⟨l, t', ht', h⟩ := step_answers s
  rw [hstep] at ht'
  cases ht'
  exact h.bounded hs

end Sys2Proof.Machine
end

section
/-! SUPPORT. Recovery mode as a read of HIVE_MODE shows it (R34, R391): a field placed in a word, what the start of an access
leaves unchanged, and what a register read answers. -/

namespace Sys2Proof.Machine

/-! ### A field placed in a word -/

theorem testBit_andNot (v m i : Nat) : (andNot v m).testBit i = (v.testBit i && !m.testBit i) := by
  rw [andNot, Nat.testBit_xor, Nat.testBit_and]
  cases v.testBit i <;> cases m.testBit i <;> rfl

/-- Placing a field replaces the bits of its place, and no other bit. -/
theorem testBit_withField (w v : Nat) (f : Fld) (i : Nat) : (withField w f v).testBit i
    = if f.lo ≤ i ∧ i < f.lo + f.len then v.testBit (i - f.lo) else w.testBit i := by
  simp only [withField, Nat.testBit_or, testBit_andNot, Nat.testBit_shiftLeft, Nat.testBit_two_pow_sub_one,
    Nat.testBit_mod_two_pow]
  by_cases hlo : f.lo ≤ i
  · by_cases hhi : i < f.lo + f.len
    · have hin : i - f.lo < f.len := by omega
      simp [hlo, hhi, hin]
    · have hout : ¬ i - f.lo < f.len := by omega
      simp [hhi, hout]
  · simp [hlo]

/-- The bits below a field placed in a word are as they were. -/
theorem withField_mod_two_pow (w v : Nat) {f : Fld} {n : Nat} (hn : n ≤ f.lo) : withField w f v % 2 ^ n = w % 2 ^ n := by
  refine Nat.eq_of_testBit_eq fun i => ?_
  rw [Nat.testBit_mod_two_pow, Nat.testBit_mod_two_pow, testBit_withField]
  by_cases hi : i < n
  · rw [if_neg (by omega)]
  · simp [hi]

/-! ### The start of an access and the answer of a read -/

section
variable (s : State) (a : Access)

/-- The start of an access changes no field but the idle time of its path (R94). -/
theorem get_touch {f : Fld} (hf : f.id ≠ (Ses.IDLE_T (pathNum a.path)).id) : (touch s a).get f = s.get f := by
  unfold touch
  cases keeperView s a
  · rfl
  · exact State.get_put_ne _ _ hf

/-- The start of an access changes no register. -/
theorem get_touch_of_key {f : Fld} (hf : f.id < 0x12B0000 * 32) : (touch s a).get f = s.get f :=
  get_touch s a (by simp only [Fld.id] at hf ⊢; omega)

theorem recovery_touch : recovery (touch s a) = recovery s := by
  have hacted : ∀ p ∈ allocatedPages, ∀ n, classActed (touch s a) p n = classActed s p n := fun p hp n => by
    have hp : p < 256 := List.mem_range.mp (List.mem_of_mem_filter hp)
    rw [classActed, classActed, State.bit, State.bit, get_touch_of_key s a (by simp only [Fld.id]; omega)]
  rw [Bool.eq_iff_iff, recovery, recovery, List.any_eq_true, List.any_eq_true]
  exact exists_congr fun p => and_congr_right fun hp => by rw [hacted p hp, hacted p hp]

/-- What a register read leaves in DATA of its path. -/
theorem get_storeRead_data (r : State × Nat × Nat × Nat) (path : Fin 4) :
    (storeRead r path).get (Last.DATA path) = r.2.1 % 2 ^ 32 := by
  unfold storeRead
  rw [State.get_put_ne _ _ (by simp only [Fld.id]; omega), State.get_put_ne _ _ (by simp only [Fld.id]; omega),
    State.get_put_same]

/-! ### HIVE_MODE (R34) -/

/-- What the field store holds of HIVE_MODE. -/
theorem plainRead_hiveMode (k : Bool) : plainRead s k 0x00 0x040 = s.get HIVE_MODE.RECOVERY <<< 11
    + s.get HIVE_MODE.TEST <<< 10 + s.get HIVE_MODE.MAINT <<< 4 + s.get HIVE_MODE.MODE := by
  simp [plainRead, readField, show regLayout 0x00 0x040 = hiveLayout 0x040 from rfl, hiveLayout]

/-- A read of HIVE_MODE shows RECOVERY as it is at the read. -/
theorem regView_hiveMode (k : Bool) :
    regView s k 0x00 0x040 = withFlag (plainRead s k 0x00 0x040) HIVE_MODE.RECOVERY (recovery s) := rfl

theorem testBit_regView_hiveMode (k : Bool) : (regView s k 0x00 0x040).testBit 11 = recovery s := by
  rw [regView_hiveMode, withFlag, testBit_withField, if_pos (by decide)]
  cases recovery s <;> rfl

theorem regView_hiveMode_mod (k : Bool) : regView s k 0x00 0x040 % 8 = s.get HIVE_MODE.MODE := by
  have hmode : s.get HIVE_MODE.MODE < 8 := State.get_lt s HIVE_MODE.MODE
  rw [regView_hiveMode, withFlag, show 8 = 2 ^ 3 from rfl, withField_mod_two_pow _ _ (by decide), plainRead_hiveMode]
  simp only [Nat.shiftLeft_eq]
  omega

/-- A read of HIVE_MODE on a served path leaves the register's view in DATA of the path. -/
theorem get_readOp_hiveMode (h : served s = true) : (readOp s a 0x00040).get (Last.DATA (pathNum a.path))
    = regView (touch s a) (keeperView s a) 0x00 0x040 % 2 ^ 32 := by
  unfold readOp
  rw [h]
  exact get_storeRead_data _ _

/-- RECOVERY as a read of HIVE_MODE on a served path answers it. -/
theorem readOp_recovery (h : served s = true) :
    ((readOp s a 0x00040).get (Last.DATA (pathNum a.path))).testBit 11 = recovery s := by
  rw [get_readOp_hiveMode s a h, Nat.testBit_mod_two_pow, testBit_regView_hiveMode, recovery_touch]
  rfl

/-- MODE as a read of HIVE_MODE on a served path answers it. -/
theorem readOp_mode (h : served s = true) :
    (readOp s a 0x00040).get (Last.DATA (pathNum a.path)) % 8 = s.get HIVE_MODE.MODE := by
  rw [get_readOp_hiveMode s a h, Nat.mod_mod_of_dvd _ (by norm_num), regView_hiveMode_mod]
  exact get_touch_of_key s a (by decide)

end

/-! ### Recovery mode (R391) -/

theorem recovery_of_acted {s : State} {p : Fin 256} (hp : pageKind p.val ≠ none)
    (h : (s.bit (PAGE_FLT_STAT.ACTED p) 2 || s.bit (PAGE_FLT_STAT.ACTED p) 3) = true) : recovery s = true :=
  List.any_eq_true.mpr ⟨p, List.mem_filter.mpr ⟨List.mem_range.mpr p.isLt, Option.isSome_iff_ne_none.mpr hp⟩, h⟩

theorem recovery_eq_false {s : State} (h : allocatedPages.all
    (fun q => !s.bit (PAGE_FLT_STAT.ACTED q) 2 && !s.bit (PAGE_FLT_STAT.ACTED q) 3) = true) : recovery s = false := by
  refine List.any_eq_false.mpr fun q hq => ?_
  have hclear := List.all_eq_true.mp h q hq
  simpa [classActed] using hclear

/-- Settles O14: RECOVERY is what a read of HIVE_MODE shows in bit 11, and it is set exactly while a C3 or C4 action stands. -/
theorem recoveryMode : Obligations.RecoveryMode := by
  unfold Obligations.RecoveryMode
  intro s a p
  refine ⟨fun hp hacted => ?_, fun hclear hserved => ?_⟩
  · have hrec : recovery s = true := recovery_of_acted hp hacted
    exact ⟨by rw [strict, hrec, Bool.or_true], fun hserved => ⟨_, exec_readHolderCapture a _ s,
      (readOp_recovery s a hserved).trans hrec, readOp_mode s a hserved⟩⟩
  · exact ⟨_, exec_readHolderCapture a _ s, (readOp_recovery s a hserved).trans (recovery_eq_false hclear)⟩

end Sys2Proof.Machine
end
section
/-! SUPPORT. What the class actions of pages, the start of a port and the Swarm page's review may change (R127 to R158, R253 to
R300, R385 to R390, R440 to R449), stated by footprints. -/

namespace Sys2Proof.Machine

variable {F G : Footprint} {s t u : State}

-- The side conditions' proofs are declared below: one declaration after another, or each waits for them in a thread of its own.
set_option Elab.async false

/-! ### The calculus, where a footprint is named -/

/-- What turning port `n` off changes, and withdrawing its start (R258, R261, R269). -/
def offFp (n : Nat) : Footprint :=
  .any [.fields [PORT_STAT.STATE n, PORT_STAT.GATE_FULL n, PORT_STAT.PG n, Port.TRANS n, Port.FALL n, Port.FT n, Port.PG_RUN n,
    Port.MAIN n, PAGE_IRQ_STAT.EVT (0x30 + n)], .parts [.sent]]

@[simp] theorem Footprint.fld_any_nil (i : Nat) : (Footprint.any []).fld i = false := rfl
@[simp] theorem Footprint.part_any_nil (q : Part) : (Footprint.any []).part q = false := rfl
@[simp] theorem Footprint.fld_any_cons (l : List Footprint) (i : Nat) :
    (Footprint.any (G :: l)).fld i = (G.fld i || (Footprint.any l).fld i) := rfl
@[simp] theorem Footprint.part_any_cons (l : List Footprint) (q : Part) :
    (Footprint.any (G :: l)).part q = (G.part q || (Footprint.any l).part q) := rfl
@[simp] theorem Footprint.fld_fields (l : List Fld) (i : Nat) : (Footprint.fields l).fld i = (l.map Fld.id).contains i := rfl
@[simp] theorem Footprint.part_fields (l : List Fld) (q : Part) : (Footprint.fields l).part q = false := rfl
@[simp] theorem Footprint.fld_parts (l : List Part) (i : Nat) : (Footprint.parts l).fld i = false := rfl
@[simp] theorem Footprint.part_parts (l : List Part) (q : Part) : (Footprint.parts l).part q = l.contains q := rfl

/-- Where every field of a list is allowed, the list is. -/
theorem Footprint.fields_le {l : List Fld} (h : ∀ f ∈ l, F.fld f.id = true) : (Footprint.fields l).le F := by
  refine ⟨fun i hi => ?_, by simp [Footprint.fields], by simp [Footprint.fields], by simp [Footprint.fields],
    by simp [Footprint.fields]⟩
  obtain ⟨f, hf, rfl⟩ := List.mem_map.mp (List.contains_iff_mem.mp hi)
  exact h f hf

/-- Where every part of a list is allowed, the list is. -/
theorem Footprint.parts_le {l : List Part} (h : ∀ q ∈ l, F.part q = true) : (Footprint.parts l).le F :=
  ⟨by simp [Footprint.parts], by simp [Footprint.parts], by simp [Footprint.parts], by simp [Footprint.parts],
    fun q hq => h q (List.contains_iff_mem.mp hq)⟩

/-- Where each footprint of a list is allowed, the list is. -/
theorem Footprint.any_le {l : List Footprint} (h : ∀ G ∈ l, G.le F) : (Footprint.any l).le F := by
  induction l with
  | nil => constructor <;> intro _ h <;> exact absurd h (by simp [Footprint.any])
  | cons G l ih =>
    have hG := h G (by simp)
    have hl := ih fun H hH => h H (by simp [hH])
    constructor
    · exact fun i hi => (Bool.or_eq_true_iff.mp hi).elim (hG.fld i) (hl.fld i)
    · exact fun i hi => (Bool.or_eq_true_iff.mp hi).elim (hG.mem i) (hl.mem i)
    · exact fun i hi => (Bool.or_eq_true_iff.mp hi).elim (hG.ret i) (hl.ret i)
    · exact fun i hi => (Bool.or_eq_true_iff.mp hi).elim (hG.ecc i) (hl.ecc i)
    · exact fun i hi => (Bool.or_eq_true_iff.mp hi).elim (hG.part i) (hl.part i)

theorem offFp_le_startFp (n : Nat) : (offFp n).le (startFp n) :=
  Footprint.any_le (by simp [startFp, Footprint.fields_le, Footprint.parts_le])

theorem offFp_le_portActFp (n : Nat) : (offFp n).le (portActFp n) :=
  Footprint.any_le (by simp [portActFp, Footprint.fields_le, Footprint.parts_le])

theorem startFp_le_resumeFp (n : Nat) : (startFp n).le (resumeFp n) := Footprint.le_any (by simp)

theorem offFp_le_resumeFp (n : Nat) : (offFp n).le (resumeFp n) := 
  Footprint.le_trans (offFp_le_startFp n) (startFp_le_resumeFp n)

section
variable (h : Frame F s t)
include h

/-- An operation that changes what `G` allows, in a command that may change that. -/
theorem Frame.within (hF : G.le F) (hu : Frame G t t → Frame G t u) : Frame F s u :=
  h.trans ((hu (Frame.refl G t)).mono hF)

/-- A write of a field that the command's footprint names, in whatever form. -/
theorem Frame.write {f : Fld} {v : Nat} (hf : F.fld f.id = true := by
    simp [offFp, startFp, resumeFp, portActFp, holdFp, runsFp, squashFp, missFp, pdActFp, swarmRoleFp]) :
    Frame F s (t.put f v) := h.put hf v

/-- A write of one bit of a field that the command's footprint names. -/
theorem Frame.writeBit {f : Fld} {i : Nat} {b : Bool} (hf : F.fld f.id = true := by
    simp [offFp, startFp, resumeFp, portActFp, holdFp, runsFp, squashFp, missFp, pdActFp, swarmRoleFp]) :
    Frame F s (t.putBit f i b) := h.putBit hf i b

/-- Something sent. -/
theorem Frame.emit {m : Sent} (hs : F.part .sent = true := by
    simp [offFp, startFp, resumeFp, portActFp, holdFp, runsFp, squashFp, missFp, pdActFp, swarmRoleFp]) :
    Frame F s (t.send m) := h.send hs m

end

protected theorem Frame.ite {c : Prop} [Decidable c] (ht : Frame F s t) (hu : Frame F s u) : Frame F s (if c then t else u) := by
  split
  · exact ht
  · exact hu

/-! ### Ports (R258 to R272) -/

section
variable (h : Frame F s t) {n : Nat}
include h

section
variable (hF : (offFp n).le F := by exact Footprint.le_refl _)
include hF

protected theorem Frame.portPg {on : Bool} : Frame F s (portPg t n on) :=
  h.within hF fun h => .ite h.write h.write.write.write

protected theorem Frame.portPullDown : Frame F s (portPullDown t n) :=
  h.within hF fun h => (((h.on _ fun _ h => h.write).on _ fun _ h => h.write).write.write).portPg

protected theorem Frame.portCancel : Frame F s (portCancel t n) := by
  unfold portCancel
  extract_lets st
  exact h.within hF fun h => h.on _ fun _ h => (Frame.emit h).write

protected theorem Frame.portState {st : Nat} : Frame F s (portState t n st) := h.within hF fun h => .ite h h.write.write

protected theorem Frame.portOff : Frame F s (portOff t n) :=
  h.within hF fun h => .ite h.portCancel.portPullDown h.portCancel.portPullDown.portState

protected theorem Frame.feederTurnOff : Frame F s (feederTurnOff t n) :=
  h.within hF fun h => .ite ((Frame.emit h).write.portPg.portState) (.ite h h.portOff)

protected theorem Frame.portTurnOff : Frame F s (portTurnOff t n) := .ite (h.feederTurnOff hF) (h.portOff hF)

end

section
variable (hF : (startFp n).le F := by exact Footprint.le_refl _)
include hF

protected theorem Frame.sendMain {start : Nat} : Frame F s (sendMain t n start) := h.within hF fun h => (Frame.emit h).write

protected theorem Frame.schedule : Frame F s (schedule t n) :=
  h.within hF fun h => .ite (Frame.emit h).write.sendMain h.write.sendMain

protected theorem Frame.feederReview : Frame F s (feederReview t n) := by
  have state : ∀ {u st}, Frame (startFp n) t u → Frame (startFp n) t (portState u n st) :=
    fun h => h.portState (offFp_le_startFp n)
  have cancel : ∀ {u}, Frame (startFp n) t u → Frame (startFp n) t (portCancel u n) := fun h => h.portCancel (offFp_le_startFp n)
  refine h.within hF fun h => ?_
  unfold feederReview
  split
  · exact .ite (.ite ((state h).schedule.on _ fun _ h => state h) (state h)) h
  · exact .ite ((Frame.ite h h.schedule).on _ fun _ h => state h) (cancel h)
  · exact .ite h (state (cancel h))
  · exact .ite h (state (cancel h))
  · exact h

protected theorem Frame.startPre : Frame F s (startPre t n) :=
  h.within hF fun h => h.write.write.write.portState (offFp_le_startFp n)

protected theorem Frame.startEnhance : Frame F s (startEnhance t n) :=
  h.within hF fun h => h.write.write.write.write.portState (offFp_le_startFp n)

protected theorem Frame.pairReview : Frame F s (pairReview t n) := by
  refine h.within hF fun h => ?_
  have hoff := h.portOff (offFp_le_startFp n)
  have hup := h.portState (st := 1) (offFp_le_startFp n)
  unfold pairReview
  split
  · exact .ite (.ite (.ite hup.startPre hup.startEnhance) hup) h
  · exact .ite (.ite h.startPre h.startEnhance) hoff
  · exact .ite h hoff
  · exact h

protected theorem Frame.portReview : Frame F s (portReview t n) := by
  unfold portReview
  split
  · exact h
  · split
    · exact h.feederReview hF
    · exact h
    · exact h.pairReview hF

end

section
variable (hF : (resumeFp n).le F := by exact Footprint.le_refl _)
include hF

protected theorem Frame.insRestart : Frame F s (insRestart t n) := h.within hF fun h => .ite h.write.write h

protected theorem Frame.disableSeen : Frame F s (disableSeen t n) :=
  h.within hF fun h => .ite h.write (h.portTurnOff (offFp_le_resumeFp n))

protected theorem Frame.latchEnd : Frame F s (latchEnd t n) := h.within hF fun h =>
  .ite ((h.write.insRestart.portState (offFp_le_resumeFp n)).portReview (startFp_le_resumeFp n)) h

protected theorem Frame.enableSeen : Frame F s (enableSeen t n) := h.within hF fun h =>
  .ite (.ite (.ite h.write.write.write h.write.write.write.latchEnd) h.write)
    (h.write.insRestart.portReview (startFp_le_resumeFp n))

protected theorem Frame.portResume : Frame F s (portResume t n) := by
  refine h.within hF fun h => ?_
  unfold portResume
  split
  · exact h
  · extract_lets s1 s2 s3
    have h1 : Frame (resumeFp n) t s1 := h.write
    have h2 : Frame (resumeFp n) t s2 := by
      unfold s2
      split
      · exact h1.disableSeen
      · exact h1.enableSeen
      · exact h1
    exact (h2.on _ fun _ h => h.portOff (offFp_le_resumeFp n)).portReview (startFp_le_resumeFp n)

end

section
variable (hF : (portActFp n).le F := by exact Footprint.le_refl _)
include hF

protected theorem Frame.portScale : Frame F s (portScale t n) := h.within hF fun h => .ite (h.each _ fun u i hi h => by
  have hi : i < 3 := List.mem_range.mp hi
  refine h.putI ?_ _
  interval_cases i <;> simp [portActFp]) h

protected theorem Frame.portTrip {i : Nat} : Frame F s (portTrip t n i) := by
  refine h.within hF fun h => ?_
  unfold portTrip
  extract_lets s' s1 s2 s3 s4
  have h1 : Frame (portActFp n) t s1 := (((h.on _ fun _ h => h.write).portScale.portCancel (offFp_le_portActFp n)).portPullDown
    (offFp_le_portActFp n)).portState (offFp_le_portActFp n)
  have h4 : Frame (portActFp n) t s4 := (h1.write.write.on _ fun _ h => h.write).write.write.write.write.write.write
  exact h4.on _ fun _ h => h.on _ fun _ h => h.write

end

end

/-! ### The windows, the slots and the queues -/

section
variable (h : Frame F s t) {p : Fin 16}
include h

protected theorem Frame.setWindow {l : List PlanEntry} (hp : F.part (.window p) = true) :
    Frame F s { t with window := t.window.set p l } := by
  refine ⟨h.fld, h.mem, h.ret, h.ecc, fun q hq => Part.same_trans (h.part q hq) ?_⟩
  cases q with
  | window r =>
    have hne : p ≠ r := fun e => by rw [← e, hp] at hq; exact absurd hq (by simp)
    exact Vector.getElem_set_ne p.isLt r.isLt (Fin.val_ne_of_ne hne)
  | _ => rfl

protected theorem Frame.setComing {e : Option Timing} (hp : F.part (.coming p) = true) :
    Frame F s { t with coming := t.coming.set p e } := by
  refine ⟨h.fld, h.mem, h.ret, h.ecc, fun q hq => Part.same_trans (h.part q hq) ?_⟩
  cases q with
  | coming r =>
    have hne : p ≠ r := fun e => by rw [← e, hp] at hq; exact absurd hq (by simp)
    exact Vector.getElem_set_ne p.isLt r.isLt (Fin.val_ne_of_ne hne)
  | _ => rfl

/-- The entry of phase `p` in execution is set, those of the others being as `u` has them. -/
protected theorem Frame.setExec {e : Option Timing} (hu : t.exec = u.exec) (hp : F.part (.exec p) = true) :
    Frame F s { t with exec := u.exec.set p e } := by
  refine ⟨h.fld, h.mem, h.ret, h.ecc, fun q hq => Part.same_trans (h.part q hq) ?_⟩
  cases q with
  | exec r =>
    have hne : p ≠ r := fun e => by rw [← e, hp] at hq; exact absurd hq (by simp)
    exact (Vector.getElem_set_ne p.isLt r.isLt (Fin.val_ne_of_ne hne)).trans (by rw [← hu]; rfl)
  | _ => rfl

protected theorem Frame.setAntq {d : Fin 4} {l : List Queued} (hd : F.part (.antq d) = true) :
    Frame F s { t with antq := t.antq.set d l } := by
  refine ⟨h.fld, h.mem, h.ret, h.ecc, fun q hq => Part.same_trans (h.part q hq) ?_⟩
  cases q with
  | antq r =>
    have hne : d ≠ r := fun e => by rw [← e, hd] at hq; exact absurd hq (by simp)
    exact Vector.getElem_set_ne d.isLt r.isLt (Fin.val_ne_of_ne hne)
  | _ => rfl

protected theorem Frame.onWindow {g : List PlanEntry → List PlanEntry} (hp : F.part (.window p) = true) :
    Frame F s (onWindow t p g) := h.setWindow hp

end

/-! ### Squashes (R154 to R157) -/

theorem mem_combPhases {p : Fin 16} {c : Nat} : p ∈ combPhases c ↔ p.val / 4 = c := by simp [combPhases]

/-- The members of a gang are combs. -/
theorem lt_of_mem_gangOf {c d : Nat} (hc : c < 4) (hd : d ∈ gangOf s c) : d < 4 := by
  unfold gangOf at hd
  split at hd
  · exact List.mem_range.mp (List.mem_of_mem_filter hd)
  · exact List.mem_singleton.mp hd ▸ hc

theorem fld_busFp {d : Nat} (hd : d < 4) {f : Fld} (hf : f ∈ [Comb.VC d 0, Comb.VC d 1, Comb.IRES d 0, Comb.IRES d 1, Comb.CP d 6,
    Comb.CP d 7, Comb.SINCE d]) : busFp.fld f.id = true :=
  Footprint.mem_fields (List.mem_flatMap.mpr ⟨d, List.mem_range.mpr hd, hf⟩)

theorem fld_squashFp_first {c : Nat} {p : Fin 16} (hp : p ∈ combPhases c) : (squashFp c).fld (Ph.FIRST p).id = true := by
  have hf : Ph.FIRST p ∈ (combPhases c).map fun (q : Fin 16) => Ph.FIRST q := List.mem_map.mpr ⟨p, hp, rfl⟩
  exact Footprint.le.field (Footprint.le_any (List.mem_cons_of_mem _ List.mem_cons_self)) (List.mem_append_right _ hf)

section
variable (h : Frame F s t)
include h

section
variable (hF : busFp.le F := by exact Footprint.le_refl _)
include hF

protected theorem Frame.busTake {d x : Nat} {e : Int × Int} (hd : d < 4) (hx : x < 2) : Frame F s (busTake t d x e) := by
  refine h.within hF fun h => ?_
  interval_cases x <;>
    exact ((h.putI (fld_busFp hd (by simp)) _).putI (fld_busFp hd (by simp)) _).putI (fld_busFp hd (by simp)) _

protected theorem Frame.busCheckpoint {c : Fin 4} : Frame F s (busCheckpoint t c) := h.within hF fun h =>
  h.each _ fun _ d hd h => by
    have hd : d < 4 := lt_of_mem_gangOf c.isLt (List.mem_of_mem_filter hd)
    exact ((h.busTake (hd := hd) (hx := by omega)).busTake (hd := hd) (hx := by omega)).put (fld_busFp hd (by simp)) _

protected theorem Frame.busRestore {c : Nat} (hc : c < 4) : Frame F s (busRestore t c) := h.within hF fun h =>
  h.each _ fun _ d hd h => by
    have hd : d < 4 := lt_of_mem_gangOf hc hd
    exact (h.putI (fld_busFp hd (by simp)) _).putI (fld_busFp hd (by simp)) _

protected theorem Frame.squashBus {c : Nat} (hc : c < 4) : Frame F s (squashBus t c) := h.within hF fun h =>
  h.on _ fun _ h => (h.busRestore (hc := hc)).busCheckpoint

end

section
variable {c : Nat} (hF : (squashFp c).le F := by exact Footprint.le_refl _)
include hF

protected theorem Frame.gangRelay : Frame F s (gangRelay t c) := h.within hF fun h => h.each _ fun _ _ _ h => h.emit

protected theorem Frame.squashCount : Frame F s (squashCount t c) := h.within hF fun h => h.write.write

protected theorem Frame.squashPlans {p : Fin 16} (hp : p ∈ combPhases c) : Frame F s (squashPlans t p) :=
  h.within hF fun h => ((h.setWindow (by simp [squashFp, Footprint.windows, hp])).put (fld_squashFp_first hp) _).emit

protected theorem Frame.squashOne {p : Fin 16} (hp : p ∈ combPhases c) : Frame F s (squashOne t p) := by
  refine h.within hF fun h => ?_
  have hplans := h.squashPlans (hp := hp)
  unfold squashOne
  extract_lets u l
  split
  · exact hplans.setWindow (by simp [squashFp, Footprint.windows, hp])
  · exact hplans

protected theorem Frame.squashList {l : List (Fin 16)} (hc : c < 4) (hl : ∀ p ∈ l, p ∈ combPhases c) :
    Frame F s (squashList t c l) := h.within hF fun h =>
  (((h.squashBus (Footprint.le_any (by simp)) hc).each l fun _ p hp h => h.squashOne (hp := hl p hp))).squashCount

protected theorem Frame.squashEvery (hc : c < 4) : Frame F s (squashEvery t c) := h.squashList hF hc fun _ hp => hp

protected theorem Frame.squashComb (hc : c < 4) : Frame F s (squashComb t c) :=
  h.squashList hF hc fun _ hp => List.mem_of_mem_filter hp

protected theorem Frame.combSquash (hc : c < 4) : Frame F s (combSquash t c) := h.within hF fun h =>
  h.on _ fun _ h => (h.squashEvery (hc := hc)).gangRelay

end

protected theorem Frame.setSquash {p : Fin 16} (hF : (squashFp (p / 4)).le F) : Frame F s (setSquash t p) := by
  have hc : p.val / 4 < 4 := by omega
  exact h.within hF fun h => .ite (h.squashComb (hc := hc)).gangRelay
    (h.squashList (hc := hc) (hl := by simp [mem_combPhases]))

end

theorem holdLock_exec (s : State) (p : Fin 16) : (holdLock s p).exec = s.exec := by
  unfold holdLock
  split <;> rfl

/-! ### Holds (R127 to R130, R142, R145) -/

section
variable (h : Frame F s t) {p : Fin 16}
include h

section
variable (hF : (runsFp p).le F := by exact Footprint.le_refl _)
include hF

/-- The end of the condition that a run of periods reports. -/
protected theorem Frame.runCauseEnds {i : Nat} : Frame F s (causeEnds t (0x20 + p) i) :=
  causeEnds_frame h (Footprint.le_trans (Footprint.fields_le (by simp [runsFp])) hF) i

protected theorem Frame.runsEnd : Frame F s (runsEnd t p) := h.within hF fun h =>
  ((h.write.write.runCauseEnds.write.write.runCauseEnds.write.write).runCauseEnds).write.write

end

section
variable (hF : (holdFp p).le F := by exact Footprint.le_refl _)
include hF

protected theorem Frame.planAnew : Frame F s (planAnew t p) := h.within hF fun h => h.write.write

protected theorem Frame.phRest : Frame F s (phRest t p) := h.within hF fun h =>
  .ite h.write.write (h.write.runsEnd (Footprint.le_any (by simp))).write

protected theorem Frame.holdLock : Frame F s (holdLock t p) := by
  unfold holdLock
  split
  · exact h
  · exact h.within hF fun h => h.write.write

protected theorem Frame.phHold {allOff under : Bool} : Frame F s (phHold t p allOff under) := by
  refine h.within hF fun h => ?_
  unfold phHold
  extract_lets form s0 s1 freed s2
  have h0 : Frame (holdFp p) t s0 := h.on _ fun _ h => h.write
  have h1 : Frame (holdFp p) t s1 := h0.on _ fun _ h =>
    ((h.setWindow (by simp [holdFp])).setComing (by simp [holdFp])).write.write.write.planAnew
  split
  · exact h1
  · exact h1.phRest
  · have hexec : freed.exec = s1.exec := by cases under <;> simp [freed, holdLock_exec]
    have hf : Frame (holdFp p) t freed := h1.on _ fun _ h => h.holdLock
    have h2 : Frame (holdFp p) t s2 := (hf.setExec hexec (by simp [holdFp])).write.planAnew.write
    exact .ite h2.write.write h2.phRest
  · exact .ite h1.phRest h1

end

protected theorem Frame.phStop {allOff : Bool} (hs : (squashFp (p / 4)).le F) (hh : (holdFp p).le F) :
    Frame F s (phStop t p allOff) := (h.on _ fun _ h => h.setSquash hs).phHold hh

end

theorem combStop_frame (h : Frame F s t) {c : Nat} (hF : (combStopFp c).le F) (hc : c < 4) : Frame F s (combStop t c) :=
  h.within hF fun h => (h.combSquash (Footprint.le_any (List.mem_cons_self ..)) hc).each _ fun _ _ hq h =>
    h.phHold (Footprint.le_any (List.mem_cons_of_mem _ (List.mem_map_of_mem hq)))

/-! ### Misses (R158, R160, R171, R175) -/

theorem squashFp_le_missFp (c : Nat) : (squashFp c).le (missFp c) := Footprint.le_any (by simp [setSquashFp])

section
variable (h : Frame F s t) {p : Fin 16}
include h

section
variable (hF : (missFp (p / 4)).le F := by exact Footprint.le_refl _)
include hF

protected theorem Frame.missRecord {idx cause : Nat} {dev : Int} : Frame F s (missRecord t p idx cause dev) := by
  have hm : (missFp (p / 4)).fld (missField p).id = true := by unfold missField; split <;> simp [missFp]
  have he : (missFp (p / 4)).fld (PAGE_IRQ_STAT.EVT (0x10 + p / 4)).id = true :=
    (squashFp_le_missFp _).fld _ (by simp [squashFp])
  exact h.within hF fun h => ((h.inc hm).evt he 0).write.write.write.write

protected theorem Frame.missSquash : Frame F s (missSquash t p) :=
  h.within hF fun h => (h.setSquash (squashFp_le_missFp _)).write.write

end

end

/-! ### The actions on a PD port (R279, R287, R291, R299, R300) -/

theorem missFp_le_pdActFp (c : Fin 4) : (missFp c).le (pdActFp c) := Footprint.le_any (by simp)

theorem recordFp_le_pdActFp (c : Fin 4) : (recordFp (0x60 + c)).le (pdActFp c) := Footprint.le_any (by simp)

/-- A raise that is recorded without its action's effect. -/
theorem noteRaise_frame (h : Frame F s t) {c : Cause} (hc : c.bit < 16) (hF : (recordFp c.page).le F) :
    Frame F s (noteRaise t c) := by
  have hk : (classFp c.page).le F := Footprint.le_trans (Footprint.le_any (by simp)) hF
  have hl : logFp.le F := Footprint.le_trans (Footprint.le_any (by simp)) hF
  have ha : F.fld (PAGE_FLT_STAT.ACTED c.page).id = true := Footprint.le.field hk (by simp)
  unfold noteRaise
  extract_lets n
  exact (recordRaise_frame h c hc hF).on _ fun _ h => recordAction_frame h ha hl n

section
variable (h : Frame F s t) {c : Fin 4} (hF : (pdActFp c).le F := by exact Footprint.le_refl _)
include h hF

protected theorem Frame.pdCount : Frame F s (pdCount t c) :=
  h.within hF fun h => h.write.write.write.write.write.write

protected theorem Frame.dropRecords : Frame F s (dropRecords t c) := h.within hF fun h =>
  h.each _ fun _ _ _ h => h.setAntq (by simp [pdActFp])

protected theorem Frame.detachMiss : Frame F s (detachMiss t c) := by
  refine h.within hF fun h => ?_
  unfold detachMiss
  extract_lets s1 p idx
  have hp : p.val / 4 = c := by
    have hlt : pdPhase t c < 4 := State.get_lt t (CMB_CTL.PDPH c)
    show (4 * c.val + pdPhase t c) % 16 / 4 = c
    omega
  have h1 : Frame (pdActFp c) t s1 := h.dropRecords
  have hm : (missFp (p / 4)).le (pdActFp c) := hp ▸ missFp_le_pdActFp c
  have hw : (pdActFp c).part (.window p) = true := (missFp_le_pdActFp c).part _ ((squashFp_le_missFp _).part _ (by
    simp [squashFp, Footprint.windows, mem_combPhases, hp]))
  exact .ite (((h1.onWindow hw).missRecord hm).missSquash hm) h1

protected theorem Frame.pdSwitch {st : Nat} : Frame F s (pdSwitch t c st) :=
  h.within hF fun h => .ite h.write (.ite h.write h.write.write.write)

protected theorem Frame.refAt {v : Nat} : Frame F s (refAt t c v) := h.within hF fun h => h.write.write

protected theorem Frame.pdCancelTransition : Frame F s (pdCancelTransition t c) :=
  h.within hF fun h => (h.on _ fun _ h => h.emit).write.write.write.write

protected theorem Frame.pdQuiet : Frame F s (pdQuiet t c) :=
  h.within hF fun h => h.pdCancelTransition.write.refAt.write.write.write.write.write.write.write

protected theorem Frame.pdOpen : Frame F s (pdOpen t c) :=
  h.within hF fun h => .ite h.write.write (h.pdSwitch.on _ fun _ h => h.write)

protected theorem Frame.pdDisable : Frame F s (pdDisable t c) :=
  h.within hF fun h => h.pdOpen.pdQuiet.write.write.write.write

protected theorem Frame.pdLatch : Frame F s (pdLatch t c) := h.within hF fun h =>
  noteRaise_frame h.pdDisable.pdSwitch.write (Nat.lt_of_sub_eq_succ rfl) (recordFp_le_pdActFp c)

protected theorem Frame.pdErrorRecovery : Frame F s (pdErrorRecovery t c) :=
  h.within hF fun h => h.pdOpen.pdQuiet.write.write.write.write.write.write

protected theorem Frame.pdProtect {i : Nat} : Frame F s (pdProtect t c i) := by
  refine h.within hF fun h => ?_
  have h2 := (h.detachMiss.write (f := PORT_PD_STAT.TRIP_CAUSE c) (v := i)).pdCount.evt (p := pdPage c) (by simp [pdActFp]) 2
  exact .ite h2.pdLatch h2.pdErrorRecovery

protected theorem Frame.pdUnattached : Frame F s (pdUnattached t c) :=
  h.within hF fun h => h.write.write.write.write.write

protected theorem Frame.pdSinkOnly : Frame F s (pdSinkOnly t c) := by
  refine h.within hF fun h => ?_
  unfold pdSinkOnly
  extract_lets s1 cc
  have h1 : Frame (pdActFp c) t s1 := h.write.write.write
  exact .ite h1.pdUnattached (.ite h1.pdQuiet.pdUnattached (.ite h1.write.write h1))

protected theorem Frame.pdSwitchBack : Frame F s (pdSwitchBack t c) :=
  h.within hF fun h => .ite h.write (.ite h.write.pdOpen h.write.pdSwitch)

end

/-! ### The class actions of pages (R385, R390) -/

theorem pageKind_comb {c : Nat} (hc : c < 4) : pageKind (0x10 + c) = some 0x10 := by interval_cases c <;> rfl

theorem pageKind_phase {p : Nat} (hp : p < 16) : pageKind (0x20 + p) = some 0x20 := by interval_cases p <;> rfl

theorem pageKind_port {n : Nat} (hn : n < 48) : pageKind (0x30 + n) = some 0x30 := by interval_cases n <;> rfl

theorem pageKind_pd {c : Nat} (hc : c < 4) : pageKind (0x60 + c) = some 0x60 := by interval_cases c <;> rfl

theorem pdPort_div_twelve {n : Nat} (hn : n < 48) (hk : portKind n = 4) : pdPort (fin4 (n / 12)) = n := by
  unfold portKind at hk
  show 12 * (n / 12 % 4) + 11 = n
  split_ifs at hk <;> omega

section
variable (h : Frame F s t) {k i : Nat} {esc : Bool}
include h

/-- What the class action of a comb's page changes. -/
theorem actionEffect_frame_comb {c : Nat} (hc : c < 4) (hF : (combStopFp c).le F) :
    Frame F s (actionEffect t (0x10 + c) k i esc) := by
  simp only [actionEffect, pageKind_comb hc, Nat.add_sub_cancel_left]
  exact .ite (combStop_frame h hF hc) h

/-- What the class action of a phase's page changes. -/
theorem actionEffect_frame_phase {p : Fin 16} (hF : (actionFp (0x20 + p)).le F) :
    Frame F s (actionEffect t (0x20 + p) k i esc) := by
  have hphase : phaseOf (0x20 + p) = p := by simp [phaseOf]
  simp only [actionFp, pageKind_phase p.isLt, Nat.add_sub_cancel_left, hphase] at hF
  simp only [actionEffect, pageKind_phase p.isLt, Nat.add_sub_cancel_left, hphase]
  refine h.within hF fun h => ?_
  have hs : (squashFp (p / 4)).le (Footprint.any [.fields [Ph.FWT p, CMB_STAT.DEGRADED (p / 4), PAGE_IRQ_STAT.EVT (0x10 + p / 4)],
      setSquashFp (p / 4), holdFp p]) := Footprint.le_any (by simp [setSquashFp])
  exact .ite ((h.on _ fun _ h => h.write).phStop hs (Footprint.le_any (by simp))) (.ite h.writeBit.write h)

/-- What the class action of a port's page changes. -/
theorem actionEffect_frame_port {n : Nat} (hn : n < 48) (hF : (actionFp (0x30 + n)).le F) :
    Frame F s (actionEffect t (0x30 + n) k i esc) := by
  simp only [actionFp, pageKind_port hn, Nat.add_sub_cancel_left] at hF
  simp only [actionEffect, pageKind_port hn, Nat.add_sub_cancel_left]
  split
  next hk =>
    rw [if_pos hk] at hF
    refine h.within hF fun h => ?_
    have hpend : (pdActFp (fin4 (n / 12))).fld (Port.ACT_PEND n).id = true := by
      conv in Port.ACT_PEND n => rw [← pdPort_div_twelve hn hk]
      simp [pdActFp]
    exact .ite (h.writeBit hpend) (.ite (.ite h.pdProtect h.pdDisable) (.ite h.pdErrorRecovery h))
  next hk =>
    rw [if_neg hk] at hF
    refine h.within hF fun h => ?_
    have hoff := offFp_le_portActFp n
    split
    · split
      · exact h.writeBit
      · exact .ite (h.write.portOff hoff) (.ite ((h.on _ fun _ h => h.write).portOff hoff) (.ite (h.portPullDown hoff) h.portTrip))
    · exact .ite (.ite h ((h.portCancel hoff).portState hoff)) h

/-- What the class action of a PD port's page changes. -/
theorem actionEffect_frame_pd {c : Fin 4} (hF : (pdActFp c).le F) : Frame F s (actionEffect t (0x60 + c) k i esc) := by
  simp only [actionEffect, pageKind_pd c.isLt, Nat.add_sub_cancel_left]
  exact h.within hF fun h =>
    .ite (h.on _ fun _ h => h.write).pdDisable (.ite (.ite h.pdSinkOnly h.pdErrorRecovery) h)

/-- What the class action C4 of the housekeeping page changes. -/
theorem actionEffect_frame_housekeeping (hF : (actionFp 0x68).le F) : Frame F s (actionEffect t 0x68 4 i esc) := by
  have heff : actionEffect t 0x68 4 i esc = t.each (List.finRange 4) fun s c => combStop s c := rfl
  rw [heff]
  exact h.each _ fun u c _ h => combStop_frame h (Footprint.le_trans (Footprint.le_any (l := .fields _ :: (List.range 4).map combStopFp)
    (List.mem_cons_of_mem _ (List.mem_map_of_mem (List.mem_range.mpr c.isLt)))) hF) c.isLt

end

/-! ### Raises (R384 to R390) -/

/-- The class of a cause that is C4 by itself is C4. -/
theorem raiseClass_four {c : Cause} (he : c.edge = 0) (hc : c.cls = 4) : raiseClass t c = 4 := by
  simp [raiseClass, he, hc]

theorem recordFp_le_raiseFp (p : Nat) : (recordFp p).le (raiseFp p) := Footprint.le_any (by simp)

theorem actionFp_le_raiseFp (p : Nat) : (actionFp p).le (raiseFp p) := Footprint.le_any (by simp)

theorem actionFp_comb {c : Nat} (hc : c < 4) : actionFp (0x10 + c) = combStopFp c := by
  simp only [actionFp, pageKind_comb hc, Nat.add_sub_cancel_left]

theorem actionFp_pd (c : Fin 4) : actionFp (0x60 + c) = pdActFp c := by
  simp [actionFp, pageKind_pd c.isLt, fin4]

section
variable (h : Frame F s t)
include h

/-- Taking a class action changes its record, and the plan that a degraded phase leaves. -/
theorem takeAction_frame {p n : Nat} (hacted : F.fld (PAGE_FLT_STAT.ACTED p).id = true) (hl : logFp.le F)
    (hw : pageKind p = some 0x20 → F.part (.window (phaseOf p)) = true) : Frame F s (takeAction t p n) := by
  unfold takeAction
  extract_lets s1
  have h1 : Frame F s s1 := recordAction_frame h hacted hl n
  refine h1.on _ fun hb hu => hu.on _ fun _ hu => hu.onWindow (hw ?_)
  simpa using (Bool.and_eq_true_iff.mp hb).2

/-- A raise changes what its record and the effect of the class action change. -/
theorem raiseFault_frame (c : Cause) (hc : c.bit < 16) (hF : (recordFp c.page).le F)
    (hw : pageKind c.page = some 0x20 → F.part (.window (phaseOf c.page)) = true)
    (ha : ∀ {u}, Frame F s u →
      Frame F s (actionEffect u c.page (raiseClass t c) c.bit (raiseClass t c != c.cls))) : Frame F s (raiseFault t c) := by
  have hl : logFp.le F := Footprint.le_trans (Footprint.le_any (by simp)) hF
  have hk : (classFp c.page).le F := Footprint.le_trans (Footprint.le_any (by simp)) hF
  have hacted : F.fld (PAGE_FLT_STAT.ACTED c.page).id = true := Footprint.le.field hk (by simp)
  unfold raiseFault
  extract_lets n s1
  have h1 : Frame F s s1 := recordRaise_frame h c hc hF
  exact .ite h (.ite (ha (takeAction_frame h1 hacted hl hw)) h1)

section
variable (c : Cause) (hc : c.bit < 16)
include hc

/-- A raise in a page whose class actions have no effect of their own. -/
theorem raiseFault_frame_passive (hk : pageKind c.page ≠ some 0x20) (ha : ∀ u k e, actionEffect u c.page k c.bit e = u)
    (hF : (raiseFp c.page).le F) : Frame F s (raiseFault t c) :=
  raiseFault_frame h c hc (Footprint.le_trans (recordFp_le_raiseFp _) hF) (fun hp => absurd hp hk) fun hu => (ha ..).symm ▸ hu

/-- A raise in the page of a comb. -/
theorem raiseFault_frame_comb {d : Nat} (hd : d < 4) (hp : c.page = 0x10 + d) (hF : (raiseFp c.page).le F) :
    Frame F s (raiseFault t c) := by
  have hact : (combStopFp d).le F := actionFp_comb hd ▸ hp ▸ Footprint.le_trans (actionFp_le_raiseFp _) hF
  exact raiseFault_frame h c hc (Footprint.le_trans (recordFp_le_raiseFp _) hF)
    (fun hk => absurd hk (by rw [hp, pageKind_comb hd]; decide)) fun hu => hp ▸ actionEffect_frame_comb hu hd hact

/-- A raise in the page of a phase. -/
theorem raiseFault_frame_phase {p : Fin 16} (hp : c.page = 0x20 + p) (hF : (raiseFp c.page).le F) :
    Frame F s (raiseFault t c) := by
  have hact : (actionFp (0x20 + p)).le F := hp ▸ Footprint.le_trans (actionFp_le_raiseFp _) hF
  refine raiseFault_frame h c hc (Footprint.le_trans (recordFp_le_raiseFp _) hF) (fun hk => hact.part _ ?_)
    fun hu => hp ▸ actionEffect_frame_phase hu hact
  rw [hp, actionFp, pageKind_phase p.isLt]
  simp [holdFp]

/-- A raise in the page of a port. -/
theorem raiseFault_frame_port {n : Nat} (hn : n < 48) (hp : c.page = 0x30 + n) (hF : (raiseFp c.page).le F) :
    Frame F s (raiseFault t c) := by
  have hact : (actionFp (0x30 + n)).le F := hp ▸ Footprint.le_trans (actionFp_le_raiseFp _) hF
  exact raiseFault_frame h c hc (Footprint.le_trans (recordFp_le_raiseFp _) hF)
    (fun hk => absurd hk (by rw [hp, pageKind_port hn]; decide)) fun hu => hp ▸ actionEffect_frame_port hu hn hact

/-- A raise in the page of a PD port. -/
theorem raiseFault_frame_pd {d : Fin 4} (hp : c.page = 0x60 + d) (hF : (raiseFp c.page).le F) :
    Frame F s (raiseFault t c) := by
  have hact : (pdActFp d).le F := actionFp_pd d ▸ hp ▸ Footprint.le_trans (actionFp_le_raiseFp _) hF
  exact raiseFault_frame h c hc (Footprint.le_trans (recordFp_le_raiseFp _) hF)
    (fun hk => absurd hk (by rw [hp, pageKind_pd d.isLt]; decide)) fun hu => hp ▸ actionEffect_frame_pd hu hact

/-- A raise of a C4 cause in the housekeeping page. -/
theorem raiseFault_frame_housekeeping (hp : c.page = 0x68) (he : c.edge = 0) (hcls : c.cls = 4) (hF : (raiseFp c.page).le F) :
    Frame F s (raiseFault t c) := by
  have hact : (actionFp 0x68).le F := hp ▸ Footprint.le_trans (actionFp_le_raiseFp _) hF
  refine raiseFault_frame h c hc (Footprint.le_trans (recordFp_le_raiseFp _) hF)
    (fun hk => absurd hk (by rw [hp]; decide)) fun hu => ?_
  rw [raiseClass_four he hcls, hp]
  exact actionEffect_frame_housekeeping hu hact

end

end

end Sys2Proof.Machine
end

section
/-! SUPPORT. What the loss and the return of an island's clock may change (R27), with the Swarm page's review (R440 to R447). -/

namespace Sys2Proof.Machine

variable {F : Footprint} {s t : State}

set_option Elab.async false

/-! ### The Swarm page (R440, R443, R446, R447) -/

section
variable (h : Frame F s t)
include h

section
variable (hF : swarmRoleFp.le F := by exact Footprint.le_refl _)
include hF

protected theorem Frame.broadcast {ty : Nat} {payload : List (BitVec 8)} : Frame F s (broadcast t ty payload) :=
  h.within hF fun h => h.write.each _ fun _ _ _ h => h.emit

protected theorem Frame.announce : Frame F s (announce t) := h.broadcast hF

protected theorem Frame.swReview : Frame F s (swReview t) := by
  refine h.within hF fun h => ?_
  unfold swReview
  extract_lets s1 s2
  have h1 : Frame swarmRoleFp t s1 := .ite h h.write.write
  have h2 : Frame swarmRoleFp t s2 := by
    unfold s2
    split
    · exact h1.write.write
    · exact .ite h1 h1.write.write.write
  exact .ite h2 h2.write.write.announce

end

protected theorem Frame.swPortDown {w : Nat} (hw : w < 2) (hF : (clockFp (.swarmPort true)).le F) : Frame F s (swPortDown t w) := by
  refine h.within hF fun h => ?_
  unfold swPortDown
  extract_lets s1 s2
  have hrole : swarmRoleFp.le (clockFp (.swarmPort true)) := Footprint.le_any (by simp)
  have he : (clockFp (.swarmPort true)).fld (PAGE_IRQ_STAT.EVT 0x98).id = true := hrole.fld _ (by simp [swarmRoleFp])
  have hrun : (clockFp (.swarmPort true)).fld (Sw.RUN w).id = true := by interval_cases w <;> simp [clockFp]
  have hpartner : (clockFp (.swarmPort true)).fld (swPartner w).id = true := by interval_cases w <;> simp [clockFp]
  have hup : (clockFp (.swarmPort true)).fld (swUp w).id = true := by interval_cases w <;> simp [clockFp]
  have hring : (clockFp (.swarmPort true)).fld SW_TOPO.RING.id = true := by simp [clockFp]
  have h1 : Frame (clockFp (.swarmPort true)) t s1 := (h.put hrun 0).put hpartner 0
  have h2 : Frame (clockFp (.swarmPort true)) t s2 := (h1.put hup 0).evt he w
  exact .ite ((h2.on _ fun _ h => (h.put hring 0).evt he 2).announce hrole) h1

/-! ### Island clocks (R27) -/

protected theorem Frame.clockRecause {p : Fin 16} (hF : (holdFp p).le F) : Frame F s (clockRecause t p) :=
  h.within hF fun h => h.on _ fun _ h => h.write

protected theorem Frame.portClockBack {n : Nat} (hn : n < 48) (hF : (portClockFp n).le F) : Frame F s (portClockBack t n) := by
  refine h.within hF fun h => ?_
  have hraise : (raiseFp (0x30 + n)).le (portClockFp n) := Footprint.le_any (by simp)
  have hresume : (resumeFp n).le (portClockFp n) := Footprint.le_any (by simp)
  have hact : (actionFp (0x30 + n)).le (portClockFp n) := Footprint.le_trans (actionFp_le_raiseFp _) hraise
  unfold portClockBack
  split
  · exact h
  · extract_lets s1 due s2 s3
    have h1 : Frame (portClockFp n) t s1 := h.on _ fun _ h =>
      raiseFault_frame_port (h.put (by simp [portClockFp]) 0) _ (show 0 < 16 by decide) hn rfl hraise
    have h2 : Frame (portClockFp n) t s2 := (h1.put (by simp [portClockFp]) 0).each _ fun _ _ _ h => h.each _ fun _ _ _ h =>
      actionEffect_frame_port h hn hact
    have h3 : Frame (portClockFp n) t s3 := h2.on _ fun hk h => by
      have hc : (fin4 (n / 12)).val = n / 12 := Nat.mod_eq_of_lt (by omega)
      rw [actionFp, pageKind_port hn, Nat.add_sub_cancel_left] at hact
      have hpd : (pdActFp (fin4 (n / 12))).le (portClockFp n) := by simpa [beq_iff_eq.mp hk] using hact
      exact hc ▸ h.pdSwitchBack hpd
    exact h3.portResume hresume

/-- The loss of an island's clock changes what its report and its own block's reaction change. -/
theorem clockLost_frame {i : ClockIsland} (hr : (raiseFp (clockPage i)).le F) (hF : (clockFp i).le F) :
    Frame F s (clockLost t i) := by
  have h0 : 0 < 16 := by decide
  have h1 : 1 < 16 := by decide
  have h2 : 2 < 16 := by decide
  have h6 : 6 < 16 := by decide
  cases i with
  | phase p =>
    have hs : (squashFp (p / 4)).le F := Footprint.le_trans (Footprint.le_any (List.mem_cons_self)) hF
    have hh : (holdFp p).le F := Footprint.le_trans (Footprint.le_any (List.mem_cons_of_mem _ List.mem_cons_self)) hF
    exact raiseFault_frame_phase (h.phStop hs hh) _ h2 rfl hr
  | port n => exact raiseFault_frame_port h _ h6 n.isLt rfl hr
  | forager c => exact raiseFault_frame_comb h _ h0 c.isLt rfl hr
  | combPll c =>
    have hstop : (combStopFp c).le F := Footprint.le_trans (Footprint.le_any List.mem_cons_self) hF
    have hsquash : (squashFp c).le F := Footprint.le_trans (Footprint.le_any List.mem_cons_self) hstop
    exact raiseFault_frame_comb ((h.combSquash hsquash c.isLt).each _ fun _ _ hq h => h.phHold
      (Footprint.le_trans (Footprint.le_any (List.mem_cons_of_mem _ (List.mem_map_of_mem hq))) hstop)) _ h1 c.isLt rfl hr
  | housekeeping => exact raiseFault_frame_housekeeping h _ h0 rfl rfl rfl hr
  | hive => exact h.put (Footprint.le.field hF (by simp)) 1
  | swarmPort e => exact raiseFault_frame_passive (h.swPortDown (by cases e <;> decide) hF) _ h0 (by decide) (fun _ _ _ => rfl) hr
  | pdPhy c => exact raiseFault_frame_pd h _ h2 rfl hr

/-- The return of an island's clock changes what the end of its report and what waited for it change. -/
theorem clockBack_frame {i : ClockIsland} (he : (endFp (clockPage i)).le F) (hF : (clockFp i).le F) :
    Frame F s (clockBack t i) := by
  cases i with
  | phase p =>
    exact (causeEnds_frame h he 2).clockRecause
      (Footprint.le_trans (Footprint.le_any (List.mem_cons_of_mem _ List.mem_cons_self)) hF)
  | port n => exact (causeEnds_frame h he 6).portClockBack n.isLt hF
  | forager c => exact causeEnds_frame h he 0
  | combPll c =>
    have hstop : (combStopFp c).le F := Footprint.le_trans (Footprint.le_any List.mem_cons_self) hF
    have hcause : Frame F s ((causeEnds t (0x10 + c.val) 1).each (combPhases c) clockRecause) :=
      (causeEnds_frame h he 1).each _ fun _ _ hq h => h.clockRecause
        (Footprint.le_trans (Footprint.le_any (List.mem_cons_of_mem _ (List.mem_map_of_mem hq))) hstop)
    exact hcause.each _ fun _ m hm h => h.portClockBack (by have := List.mem_range.mp hm; omega)
      (Footprint.le_trans (Footprint.le_any (List.mem_cons_of_mem _ (List.mem_map.mpr ⟨m, hm, rfl⟩))) hF)
  | housekeeping => exact causeEnds_frame h he 0
  | hive => exact h
  | swarmPort e => exact .ite h (causeEnds_frame h he 0)
  | pdPhy c => exact causeEnds_frame h he 2

end
end Sys2Proof.Machine
end

section
/-! SUPPORT. The supplies, the reference and the island clocks (R27 to R30, R42, R44 to R48): what each command answers, by its own
lemma. -/

namespace Sys2Proof.Machine

variable {F : Footprint} {s t : State}

/-! ### Register writes with the Keeper view on an unlocked page (R87, R90) -/

theorem State.flag_of_get {f : Fld} {n : Nat} (h : s.get f = n + 1) : s.flag f = true := by simp [State.flag, h]

theorem State.flag_of_get_zero {f : Fld} (h : s.get f = 0) : s.flag f = false := by simp [State.flag, h]

/-- A field of one bit holds its flag. -/
theorem State.get_eq_bitOf_flag {f : Fld} (hf : f.len = 1) : s.get f = bitOf (s.flag f) := by
  have hlt : s.get f < 2 ^ f.len := State.get_lt s f
  rw [hf] at hlt
  unfold State.flag bitOf
  split <;> simp_all
  omega

/-- With the Keeper view on an unlocked page no field is refused. -/
theorem judge_keeper {p : Nat} (hl : s.get (PAGE_LOCK.CFG p) = 0) (exempt : Bool) (l : Layout) (w : Nat) :
    judge s true exempt p l w = (w, 0) := by
  have hcode : ∀ ty, fieldCode s true exempt p ty = 0 := fun ty => by cases ty <;> simp [fieldCode, State.flag, hl]
  induction l with
  | nil => rfl
  | cons q l ih => simp [judge, ih, hcode]

/-- A write with an effect, by the Keeper view on an unlocked page: the effect, and status code 0. -/
theorem regOp_specialWrite {a : Access} {p off w : Nat} {exempt : Bool} (g : State → Nat → State) (hs : served s = true)
    (hk : keeperView s a = true) (hp : p < 256) (hl : s.get (PAGE_LOCK.CFG p) = 0) :
    regOp s a (fun s k => specialWrite s k p off w exempt g) = (g (touch s a) w).put (Last.CODE (pathNum a.path)) 0 := by
  have hlock : (touch s a).get (PAGE_LOCK.CFG p) = 0 :=
    (get_touch_of_key s a (by simp only [Fld.id]; omega)).trans hl
  simp only [regOp, hs, hk, specialWrite, specialRes, judge_keeper hlock, if_true]
  rfl

/-- The start of an access and its status code (R94, R111). -/
theorem touch_frame (a : Access) (p : Nat) : Frame (accessFp a p) s (touch s a) :=
  (Frame.refl _ s).on _ fun _ h => h.put (by simp [accessFp]) 0

/-! ### Supplies (R44, R45, R47) -/

/-- A raise in the page of the supplies. -/
theorem raiseEvent_frame_supplies (h : Frame F s t) (hF : (raiseFp 0x02).le F) : Frame F s (raiseEvent t 0x02 2) :=
  raiseFault_frame_passive h _ (show 2 < 16 by decide) (by decide) (fun _ _ _ => rfl) hF

section
variable (s : State)

theorem execPreRegulatorStart_next (h : s.get Pwr.PREREG = 0) : ∃ t, exec .preRegulatorStart s = .next t
    ∧ t.get Pwr.PREREG = 1 ∧ t.get Pwr.IDEAL = 0 ∧ Frame (.fields [Pwr.PREREG, Pwr.IDEAL]) s t := by
  have hexec : exec .preRegulatorStart s = .next ((s.put Pwr.PREREG 1).put Pwr.IDEAL 0) := by
    show execPreRegulatorStart s = _
    rw [execPreRegulatorStart, State.flag_of_get_zero h]
    rfl
  exact ⟨_, hexec, (State.get_put_ne _ _ (by decide)).trans (State.get_put_same ..), State.get_put_same ..,
    ((Frame.refl _ s).put (by decide) 1).put (by decide) 0⟩

theorem execIdealDiodeSwitch_next (h : s.get Pwr.PREREG = 1) : ∃ t, exec .idealDiodeSwitch s = .next t
    ∧ t.get Pwr.IDEAL = 1 ∧ Frame (.fields [Pwr.IDEAL]) s t := by
  have hexec : exec .idealDiodeSwitch s = .next (s.put Pwr.IDEAL 1) := by
    show execIdealDiodeSwitch s = _
    rw [execIdealDiodeSwitch, State.flag_of_get h]
    rfl
  exact ⟨_, hexec, State.get_put_same .., (Frame.refl _ s).put (by decide) 1⟩

theorem execIoRailToVddio_next : ∃ t, exec .ioRailToVddio s = .next t
    ∧ t.get Pwr.IO_VDDIO = 1 ∧ Frame (.fields [Pwr.IO_VDDIO]) s t :=
  ⟨_, rfl, State.get_put_same .., (Frame.refl _ s).put (by decide) 1⟩

theorem execIoRailToVioi_next : ∃ t, exec .ioRailToVioi s = .next t ∧ t.get Pwr.IO_VDDIO = 0
    ∧ Frame (.or (.fields [Pwr.IO_VDDIO]) (raiseFp 0x02)) s t
    ∧ (s.get Pin.CORE_EN = 0 → Frame (.fields [Pwr.IO_VDDIO]) s t) := by
  have hput : Frame (.fields [Pwr.IO_VDDIO]) s (s.put Pwr.IO_VDDIO 0) := (Frame.refl _ s).put (by decide) 0
  cases hio : s.flag Pwr.IO_VDDIO
  · refine ⟨s, ?_, by simpa [State.flag] using hio, .refl _ s, fun _ => .refl _ s⟩
    show execIoRailToVioi s = _
    rw [execIoRailToVioi, hio]
    rfl
  · refine ⟨(s.put Pwr.IO_VDDIO 0).on (s.flag Pin.CORE_EN) fun s => raiseEvent s 0x02 2, ?_, ?_, ?_, fun hcore => ?_⟩
    · show execIoRailToVioi s = _
      rw [execIoRailToVioi, hio]
      rfl
    · have hraise : Frame (raiseFp 0x02) (s.put Pwr.IO_VDDIO 0)
          ((s.put Pwr.IO_VDDIO 0).on (s.flag Pin.CORE_EN) fun s => raiseEvent s 0x02 2) :=
        (Frame.refl _ _).on _ fun _ h => raiseEvent_frame_supplies h (Footprint.le_refl _)
      exact (hraise.fld _ (by decide)).trans (State.get_put_same ..)
    · exact hput.left.on _ fun _ h => raiseEvent_frame_supplies h (Footprint.le_or_right _ _)
    · rw [State.flag_of_get_zero hcore]
      exact hput

theorem execDomainTakesVddc_next (hcore : s.get Pin.CORE_EN = 1) (hok : s.get Pwr.VDDC_OK = 0) :
    ∃ t, exec .domainTakesVddc s = .next t ∧ t.get Pwr.VDDC_OK = 1 ∧ t.get Pwr.VDDC_DOM = 31
      ∧ Frame (.fields [Pwr.VDDC_OK, Pwr.VDDC_DOM]) s t := by
  have hexec : exec .domainTakesVddc s = .next ((s.put Pwr.VDDC_OK 1).put Pwr.VDDC_DOM 31) := by
    show execDomainTakesVddc s = _
    rw [execDomainTakesVddc, State.flag_of_get hcore, State.flag_of_get_zero hok]
    rfl
  exact ⟨_, hexec, (State.get_put_ne _ _ (by decide)).trans (State.get_put_same ..), State.get_put_same ..,
    ((Frame.refl _ s).put (by decide) 1).put (by decide) 31⟩

end

/-! ### The reference (R28 to R30, R42) -/

/-- A raise in the page of the clocks. -/
theorem raiseHeld_frame_clocks (h : Frame F s t) (hF : (raiseFp 0x01).le F) : Frame F s (raiseHeld t 0x01 0) :=
  raiseFault_frame_passive h _ (show 0 < 16 by decide) (by decide) (fun _ _ _ => rfl) hF

/-- The source of a return depends on PREF and on the references judged valid. -/
theorem refPick_congr (hp : t.get CLK_CTL.PREF = s.get CLK_CTL.PREF)
    (hv : ∀ i : Fin 2, t.get (Clk.REF_VALID i) = s.get (Clk.REF_VALID i)) : refPick t = refPick s := by
  have h0 : t.flag (Clk.REF_VALID 0) = s.flag (Clk.REF_VALID 0) := congrArg (· != 0) (hv 0)
  have h1 : t.flag (Clk.REF_VALID 1) = s.flag (Clk.REF_VALID 1) := congrArg (· != 0) (hv 1)
  unfold refPick
  rw [hp]
  split <;> simp [List.find?, h0, h1]

/-- The source of a return is one of the two references. -/
theorem refPick_lt {i : Nat} (h : refPick s = some i) : i < 2 := by
  unfold refPick at h
  have hmem := List.mem_of_find?_eq_some h
  split at hmem <;> simp at hmem <;> omega

theorem refReady_congr (hp : t.get CLK_CTL.PREF = s.get CLK_CTL.PREF)
    (hv : ∀ i : Fin 2, t.get (Clk.REF_VALID i) = s.get (Clk.REF_VALID i))
    (hr : ∀ i : Fin 2, t.get (Clk.READY_T i) = s.get (Clk.READY_T i)) : refReady t = refReady s := by
  unfold refReady
  rw [refPick_congr hp hv]
  cases hi : refPick s with
  | none => rfl
  | some i => exact congrArg (· == 100) (hr ⟨i, refPick_lt hi⟩)

/-- The review of RET_READY changes it, and the event of its rise. -/
theorem readyReview_frame (h : Frame F s t) (hF : (Footprint.fields [CLK_STAT.RET_READY, PAGE_IRQ_STAT.EVT 0x01]).le F) :
    Frame F s (readyReview t) := by
  have hr : F.fld CLK_STAT.RET_READY.id = true := hF.field (by simp)
  have he : F.fld (PAGE_IRQ_STAT.EVT 0x01).id = true := hF.field (by simp)
  exact .ite (.ite h ((h.put hr 1).evt he 0)) (h.put hr 0)

/-- RET_READY follows its condition (R29). -/
theorem get_readyReview (s : State) : (readyReview s).get CLK_STAT.RET_READY = bitOf (refReady s) := by
  unfold readyReview
  cases hr : refReady s
  · exact State.get_put_same ..
  · rw [if_pos rfl]
    split
    next hf => rw [State.get_eq_bitOf_flag rfl, hf]
    next => exact (State.get_put_ne _ _ (by decide)).trans (State.get_put_same ..)

/-- A reference judged shows it, and starts its 100 ms anew where the judgement is new (R29). -/
theorem refValid_frame (h : Frame F s t) {i : Nat} (v : Bool)
    (hF : (Footprint.fields [refShown i, Clk.REF_VALID i, Clk.READY_T i]).le F) : Frame F s (refValid t i v) := by
  have hs : F.fld (refShown i).id = true := hF.field (by simp)
  have hv : F.fld (Clk.REF_VALID i).id = true := hF.field (by simp)
  have hr : F.fld (Clk.READY_T i).id = true := hF.field (by simp)
  exact .ite (h.put hs _) (((h.putB hv v).put hr 0).put hs _)

section
variable (s : State) (i : Fin 2) (v : Bool)

theorem refShown_id_ne (j : Nat) : (Clk.REF_VALID j).id ≠ (refShown i).id ∧ (Clk.READY_T j).id ≠ (refShown i).id := by
  revert i
  simp only [Fin.forall_fin_two, Fld.id]
  refine ⟨⟨?_, ?_⟩, ?_, ?_⟩ <;> simp [refShown] <;> omega

theorem get_refValid_valid : (refValid s i v).get (Clk.REF_VALID i) = bitOf v := by
  unfold refValid
  split
  next hv => rw [State.get_put_ne _ _ (refShown_id_ne i i).1, State.get_eq_bitOf_flag rfl, hv]
  next =>
    rw [State.get_put_ne _ _ (refShown_id_ne i i).1, State.get_put_ne _ _ (by simp only [Fld.id]; omega)]
    exact (State.get_put_same ..).trans (by cases v <;> rfl)

theorem get_refValid_shown : (refValid s i v).get (refShown i) = bitOf v := by
  have hmod : bitOf v % 2 ^ (refShown i).len = bitOf v := by revert i v; decide
  unfold refValid
  split
  · exact (State.get_put_same ..).trans hmod
  · exact (State.get_put_same ..).trans hmod

theorem get_refValid_ready (h : s.get (Clk.REF_VALID i) ≠ bitOf v) : (refValid s i v).get (Clk.READY_T i) = 0 := by
  unfold refValid
  split
  next hv => exact absurd (hv ▸ State.get_eq_bitOf_flag rfl) h
  next => rw [State.get_put_ne _ _ (refShown_id_ne i i).2, State.get_put_same]; rfl

end

/-- The review of RET_READY leaves what is kept and shown of the references. -/
theorem get_readyReview_ref (s : State) (i : Fin 2) {f : Fld} (hf : f ∈ [Clk.REF_VALID i, Clk.READY_T i, refShown i]) :
    (readyReview s).get f = s.get f := by
  refine (readyReview_frame (Frame.refl _ s) (Footprint.le_refl _)).fld f ?_
  revert hf f
  revert i
  decide

/-- An event that the page has is set in its EVT field (R386). -/
theorem testBit_get_evt {p i : Nat} (hi : i < 16) (he : (evtAssigned p).testBit i = true) :
    ((s.evt p i).get (PAGE_IRQ_STAT.EVT p)).testBit i = true := by
  rw [State.evt, State.orF, State.get_put_same, Nat.testBit_mod_two_pow]
  simp [he, hi]

section
variable (s : State)

theorem execReferenceValidityChange_next (xtal valid : Bool) (h : s.get CLK_STAT.SRC ≠ bitOf xtal) :
    ∃ t, exec (.referenceValidityChange xtal valid) s = .next t
      ∧ t.get (Clk.REF_VALID (bitOf xtal)) = bitOf valid ∧ t.get (refShown (bitOf xtal)) = bitOf valid
      ∧ (s.get (Clk.REF_VALID (bitOf xtal)) ≠ bitOf valid → t.get (Clk.READY_T (bitOf xtal)) = 0)
      ∧ Frame (.fields [Clk.REF_VALID (bitOf xtal), Clk.READY_T (bitOf xtal), refShown (bitOf xtal), CLK_STAT.RET_READY,
          PAGE_IRQ_STAT.EVT 0x01]) s t := by
  have hexec : exec (.referenceValidityChange xtal valid) s = .next (readyReview (refValid s (bitOf xtal) valid)) := by
    show execReferenceValidityChange xtal valid s = _
    rw [execReferenceValidityChange, if_neg h]
  obtain ⟨i, hi⟩ : ∃ i : Fin 2, i.val = bitOf xtal := ⟨⟨bitOf xtal, by cases xtal <;> decide⟩, rfl⟩
  rw [← hi] at hexec ⊢
  refine ⟨_, hexec, (get_readyReview_ref _ i (by simp)).trans (get_refValid_valid s i valid),
    (get_readyReview_ref _ i (by simp)).trans (get_refValid_shown s i valid),
    fun hne => (get_readyReview_ref _ i (by simp)).trans (get_refValid_ready s i valid hne), ?_⟩
  exact readyReview_frame (refValid_frame (Frame.refl _ s) valid (Footprint.fields_le (by simp)))
    (Footprint.fields_le (by simp))

/-- The review finds the source of a return ready once it has been valid for 100 ms (R29). -/
theorem execRetReady_next (j : Fin 2) (h : refPick s = some j.val) :
    ∃ t, exec .retReady s = .next t ∧ t.get CLK_STAT.RET_READY = 1 ∧ t.get (Clk.READY_T j) = 100
      ∧ (s.get CLK_STAT.RET_READY = 0 → (t.get (PAGE_IRQ_STAT.EVT 0x01)).testBit 0 = true)
      ∧ Frame (.fields [CLK_STAT.RET_READY, Clk.READY_T j, PAGE_IRQ_STAT.EVT 0x01]) s t := by
  have hexec : exec .retReady s = .next (readyReview (s.put (Clk.READY_T j) 100)) := by
    show execRetReady s = _
    rw [execRetReady, h]
  have hready : refReady (s.put (Clk.READY_T j) 100) = true := by
    have hpick : refPick (s.put (Clk.READY_T j) 100) = refPick s :=
      refPick_congr (State.get_put_ne _ _ (by simp only [Fld.id]; omega)) fun i => State.get_put_ne _ _ (by simp only [Fld.id]; omega)
    simp [refReady, hpick, h]
  refine ⟨_, hexec, by rw [get_readyReview, hready]; rfl,
    (get_readyReview_ref _ j (by simp)).trans (State.get_put_same ..), fun hnot => ?_, ?_⟩
  · have hflag : (s.put (Clk.READY_T j) 100).flag CLK_STAT.RET_READY = false :=
      State.flag_of_get_zero ((State.get_put_ne _ _ (by simp only [Fld.id]; omega)).trans hnot)
    rw [readyReview, hready, hflag]
    exact testBit_get_evt (by decide) (by decide)
  · exact readyReview_frame ((Frame.refl _ s).put (by simp) 100) (Footprint.fields_le (by simp))

end

/-- What the judgement of both references changes (R29). -/
def judgedFp : Footprint := .fields [CLK_STAT.REFIN_VALID, CLK_STAT.XTAL_VALID, Clk.REF_VALID 0, Clk.REF_VALID 1, Clk.READY_T 0,
  Clk.READY_T 1]

/-- Both references are judged. -/
theorem refValid_refValid_frame (h : Frame F s t) (hF : judgedFp.le F) (v v' : Bool) :
    Frame F s (refValid (refValid t 0 v) 1 v') :=
  refValid_frame (refValid_frame h _ (Footprint.le_trans (Footprint.fields_le (by decide)) hF)) _
    (Footprint.le_trans (Footprint.fields_le (by decide)) hF)

/-- The review of RET_READY, and REF_LOST of a boot that finds no reference (R42, R68). -/
theorem selectReview_frame (h : Frame F s t) {c : Prop} [Decidable c]
    (hF : (Footprint.fields [CLK_STAT.RET_READY, PAGE_IRQ_STAT.EVT 0x01]).le F) (hr : (raiseFp 0x01).le F) :
    Frame F s (if c then raiseHeld (readyReview t) 0x01 0 else readyReview t) :=
  .ite (raiseHeld_frame_clocks (readyReview_frame h hF) hr) (readyReview_frame h hF)

theorem refChoice_le (r x : Option Nat) : refChoice r x ≤ 2 := by
  unfold refChoice
  split
  · split_ifs <;> omega
  · split_ifs <;> omega
  · split_ifs <;> omega
  · exact le_refl 2

/-- A count stops at the field's largest value. -/
theorem State.get_inc (s : State) (f : Fld) : (s.inc f).get f = min (2 ^ f.len - 1) (s.get f + 1) := by
  have hpos : 0 < 2 ^ f.len := Nat.two_pow_pos _
  rw [State.inc, State.putSat, State.get_put_same, Nat.min_comm]
  exact Nat.mod_eq_of_lt (by omega)

/-- What the reviews after a move of the PLLs change (R29, R445). -/
def moveFp : Footprint := .any [.fields [CLK_STAT.RET_READY, PAGE_IRQ_STAT.EVT 0x01], swarmRoleFp]

section
variable (s : State)

theorem execRefLost_next (h : s.get CLK_STAT.SRC < 2) :
    ∃ t, exec .refLost s = .next t ∧ t.get CLK_STAT.SRC = 2 ∧ t.get CLK_STAT.HOLDOVER = 0
      ∧ t.get CLK_STAT.LOSSES = min 255 (s.get CLK_STAT.LOSSES + 1)
      ∧ t.get (Clk.REF_VALID (s.get CLK_STAT.SRC)) = 0
      ∧ Frame (.any [.fields [CLK_STAT.SRC, CLK_STAT.HOLDOVER, CLK_STAT.LOSSES, CLK_STAT.RET_READY,
          refShown (s.get CLK_STAT.SRC), Clk.REF_VALID (s.get CLK_STAT.SRC), Clk.READY_T (s.get CLK_STAT.SRC),
          PAGE_IRQ_STAT.EVT 0x01], raiseFp 0x01, swarmRoleFp]) s t := by
  obtain ⟨i, hi⟩ : ∃ i : Fin 2, i.val = s.get CLK_STAT.SRC := ⟨⟨_, h⟩, rfl⟩
  rw [← hi]
  let u := ((refValid s i false).put CLK_STAT.SRC 2).put CLK_STAT.HOLDOVER 0
  let v := swReview (readyReview u)
  have hexec : exec .refLost s = .next (raiseHeld (v.inc CLK_STAT.LOSSES) 0x01 0) := by
    show Host.Outcome.next (refLost s) = _
    rw [refLost, if_pos h, ← hi]
    rfl
  have hv : Frame moveFp u v := (readyReview_frame (Frame.refl _ u) (Footprint.le_any (by simp))).swReview
    (Footprint.le_any (by simp))
  have hraise : Frame (raiseFp 0x01) (v.inc CLK_STAT.LOSSES) (raiseHeld (v.inc CLK_STAT.LOSSES) 0x01 0) :=
    raiseHeld_frame_clocks (Frame.refl _ _) (Footprint.le_refl _)
  have hkept : ∀ f ∈ [CLK_STAT.SRC, CLK_STAT.HOLDOVER, Clk.REF_VALID 0, Clk.REF_VALID 1],
      (raiseHeld (v.inc CLK_STAT.LOSSES) 0x01 0).get f = u.get f := by
    have hspare : ∀ f ∈ [CLK_STAT.SRC, CLK_STAT.HOLDOVER, Clk.REF_VALID 0, Clk.REF_VALID 1], (raiseFp 0x01).fld f.id = false
        ∧ f.id ≠ CLK_STAT.LOSSES.id ∧ moveFp.fld f.id = false := by decide
    intro f hf
    obtain ⟨hr, hl, hm⟩ := hspare f hf
    exact (hraise.fld f hr).trans ((State.get_put_ne _ _ hl).trans (hv.fld f hm))
  refine ⟨_, hexec, ?_, ?_, ?_, ?_, ?_⟩
  · exact (hkept _ (by simp)).trans ((State.get_put_ne _ _ (by decide)).trans (State.get_put_same ..))
  · exact (hkept _ (by simp)).trans (State.get_put_same ..)
  · have hs : u.get CLK_STAT.LOSSES = s.get CLK_STAT.LOSSES := by
      rw [State.get_put_ne _ _ (by decide), State.get_put_ne _ _ (by decide)]
      have hspare : ∀ j : Fin 2, (Footprint.fields [refShown j, Clk.REF_VALID j, Clk.READY_T j]).fld CLK_STAT.LOSSES.id = false := by
        decide
      exact (refValid_frame (Frame.refl _ s) false (Footprint.le_refl _)).fld _ (hspare i)
    rw [hraise.fld _ (by decide), State.get_inc, hv.fld _ (by decide), hs]
    rfl
  · have hmem : ∀ j : Fin 2, Clk.REF_VALID j ∈ [CLK_STAT.SRC, CLK_STAT.HOLDOVER, Clk.REF_VALID 0, Clk.REF_VALID 1] := by decide
    rw [hkept _ (hmem i), State.get_put_ne _ _ (by simp only [Fld.id]; omega), State.get_put_ne _ _ (by simp only [Fld.id]; omega)]
    exact get_refValid_valid s i false
  · refine raiseHeld_frame_clocks (Frame.inc ?_ (by simp)) (Footprint.le_any (by simp))
    refine (readyReview_frame ?_ (Footprint.fields_le (by simp))).swReview (Footprint.le_any (by simp))
    exact ((refValid_frame (Frame.refl _ s) false (Footprint.fields_le (by simp))).put (by simp) 2).put (by simp) 0

/-- CLK_CTL as a write that leaves PREF finds the references: their fields, and RET_READY as its condition (R29, R30). -/
structure ReturnJudged (s u : State) : Prop where
  pick : refPick u = refPick s
  ready : u.flag CLK_STAT.RET_READY = refReady s
  src : u.get CLK_STAT.SRC = s.get CLK_STAT.SRC

section
variable {a : Access} {w : BitVec 32} (hs : served s = true) (hk : keeperView s a = true)
  (hl : s.get (PAGE_LOCK.CFG 0x01) = 0) (hw : w.getLsbD 8 = true) (hpref : w.toNat % 4 = s.get CLK_CTL.PREF)

/-- What a write of CLK_CTL with RETURN changes, taken or refused (R29, R30). -/
def returnFp (a : Access) : Footprint :=
  .any [.fields [CLK_STAT.SRC, CLK_STAT.HOLDOVER, CLK_STAT.RET_RESULT, CLK_STAT.RET_READY, CLK_CTL.PREF,
    PAGE_IRQ_STAT.EVT 0x01, Flt.PRESENT 0x01, Flt.QUIET 0x01], accessFp a 0x01, swarmRoleFp]

/-- The state of which a write of CLK_CTL with RETURN judges the return. -/
def returnState (s : State) (a : Access) (w : BitVec 32) : State :=
  readyReview ((touch s a).put CLK_CTL.PREF (fieldOf w.toNat CLK_CTL.PREF))

include hpref in
theorem returnState_judged : ReturnJudged s (returnState s a w) := by
  let v := (touch s a).put CLK_CTL.PREF (fieldOf w.toNat CLK_CTL.PREF)
  have hother : ∀ f : Fld, f.id ≠ CLK_CTL.PREF.id → f.id ≠ (Ses.IDLE_T (pathNum a.path)).id → v.get f = s.get f :=
    fun f hf hi => (State.get_put_ne _ _ hf).trans (get_touch s a hi)
  have hv : v.get CLK_CTL.PREF = s.get CLK_CTL.PREF := by
    rw [State.get_put_same, fieldOf, slice]
    simpa using hpref
  have hvalid : ∀ i : Fin 2, v.get (Clk.REF_VALID i) = s.get (Clk.REF_VALID i) := fun i =>
    hother _ (by simp only [Fld.id]; omega) (by simp only [Fld.id]; omega)
  have hready : ∀ i : Fin 2, v.get (Clk.READY_T i) = s.get (Clk.READY_T i) := fun i =>
    hother _ (by simp only [Fld.id]; omega) (by simp only [Fld.id]; omega)
  have hreview := readyReview_frame (Frame.refl _ v) (Footprint.le_refl _)
  refine ⟨?_, ?_, ?_⟩
  · rw [← refPick_congr hv hvalid]
    exact refPick_congr (hreview.fld _ (by decide)) fun i => get_readyReview_ref v i (by simp)
  · rw [← refReady_congr hv hvalid hready, State.flag, returnState, get_readyReview]
    cases refReady v <;> rfl
  · exact (hreview.fld _ (by decide)).trans (hother _ (by decide) (by simp only [Fld.id]; omega))

theorem returnState_frame : Frame (returnFp a) s (returnState s a w) :=
  readyReview_frame (((touch_frame a 0x01).mono (Footprint.le_any (by simp))).put (by simp) _)
    (Footprint.fields_le (by simp [returnFp]))

include hs hk hl hw

/-- A write of CLK_CTL by the Keeper view with RETURN set moves the PLLs to the source of the return, where it is ready and the
backup oscillator is in use, and is refused otherwise (R29, R30). -/
theorem execClkReturn_eq : exec (.clkReturn a w) s = .next ((match refPick (returnState s a w) with
      | some i => if (returnState s a w).flag CLK_STAT.RET_READY && (returnState s a w).get CLK_STAT.SRC == 2 then
          swReview (causeEnds ((((returnState s a w).put CLK_STAT.SRC i).put CLK_STAT.HOLDOVER 0).put CLK_STAT.RET_RESULT 1) 0x01 0)
        else (returnState s a w).put CLK_STAT.RET_RESULT 2
      | none => (returnState s a w).put CLK_STAT.RET_RESULT 2).put (Last.CODE (pathNum a.path)) 0) := by
  have hret : fieldOf w.toNat CLK_CTL.RETURN = 1 := by
    have hbit : w.toNat.testBit 8 = true := hw
    rw [Nat.testBit_eq_decide_div_mod_eq, decide_eq_true_eq] at hbit
    rw [fieldOf, slice, Nat.shiftRight_eq_div_pow]
    exact hbit
  refine congrArg Host.Outcome.next ((regOp_specialWrite _ hs hk (by decide) hl).trans ?_)
  simp only [hret]
  rfl

include hpref

theorem execClkReturn_taken (hready : refReady s = true) (hsrc : s.get CLK_STAT.SRC = 2) :
    ∃ t, exec (.clkReturn a w) s = .next t ∧ t.get CLK_STAT.RET_RESULT = 1 ∧ refPick s = some (t.get CLK_STAT.SRC)
      ∧ Frame (returnFp a) s t := by
  obtain ⟨hpick, hflag, hkept⟩ := returnState_judged s (a := a) hpref
  obtain ⟨i, hi⟩ : ∃ i, refPick s = some i := by
    unfold refReady at hready
    cases h : refPick s
    · simp [h] at hready
    · exact ⟨_, rfl⟩
  let v := ((((returnState s a w).put CLK_STAT.SRC i).put CLK_STAT.HOLDOVER 0).put CLK_STAT.RET_RESULT 1)
  have hexec : exec (.clkReturn a w) s = .next ((swReview (causeEnds v 0x01 0)).put (Last.CODE (pathNum a.path)) 0) := by
    rw [execClkReturn_eq s hs hk hl hw, hpick, hi, hflag, hready, hkept, hsrc]
    rfl
  have hafter : Frame (.or (endFp 0x01) swarmRoleFp) v (swReview (causeEnds v 0x01 0)) :=
    (causeEnds_frame (Frame.refl _ v) (Footprint.le_or_left _ _) 0).swReview (Footprint.le_or_right _ _)
  have hget : ∀ f ∈ [CLK_STAT.SRC, CLK_STAT.RET_RESULT],
      ((swReview (causeEnds v 0x01 0)).put (Last.CODE (pathNum a.path)) 0).get f = v.get f := by
    have hspare : ∀ f ∈ [CLK_STAT.SRC, CLK_STAT.RET_RESULT], (Footprint.or (endFp 0x01) swarmRoleFp).fld f.id = false
        ∧ f.id < 0x2330000 * 32 := by decide
    intro f hf
    obtain ⟨hr, hc⟩ := hspare f hf
    exact (State.get_put_ne _ _ (by simp only [Fld.id] at hc ⊢; omega)).trans (hafter.fld f hr)
  refine ⟨_, hexec, ?_, ?_, ?_⟩
  · exact (hget _ (by simp)).trans (State.get_put_same ..)
  · have hlt : i < 2 := refPick_lt hi
    rw [hget _ (by simp), State.get_put_ne _ _ (by decide), State.get_put_ne _ _ (by decide), State.get_put_same, hi,
      Nat.mod_eq_of_lt (Nat.lt_of_lt_of_le hlt (by decide))]
  · have hv : Frame (returnFp a) s v := (((returnState_frame s).put (by simp [returnFp]) i).put (by simp [returnFp]) 0).put
      (by simp [returnFp]) 1
    exact ((causeEnds_frame hv (Footprint.fields_le (by simp [returnFp])) 0).swReview (Footprint.le_any (by simp))).put
      (by simp [returnFp, accessFp]) 0

theorem execClkReturn_refused (hnot : refReady s = false ∨ s.get CLK_STAT.SRC ≠ 2) :
    ∃ t, exec (.clkReturn a w) s = .next t ∧ t.get CLK_STAT.RET_RESULT = 2 ∧ t.get CLK_STAT.SRC = s.get CLK_STAT.SRC
      ∧ Frame (returnFp a) s t := by
  obtain ⟨-, hflag, hkept⟩ := returnState_judged s (a := a) hpref
  have hexec : exec (.clkReturn a w) s
      = .next (((returnState s a w).put CLK_STAT.RET_RESULT 2).put (Last.CODE (pathNum a.path)) 0) := by
    have hcond : (refReady s && s.get CLK_STAT.SRC == 2) = false := by
      rcases hnot with h | h
      · rw [h, Bool.false_and]
      · rw [beq_false_of_ne h, Bool.and_false]
    rw [execClkReturn_eq s hs hk hl hw, hflag, hkept, hcond]
    cases refPick (returnState s a w) <;> rfl
  refine ⟨_, hexec, ?_, ?_, ?_⟩
  · exact (State.get_put_ne _ _ (by simp only [Fld.id]; omega)).trans (State.get_put_same ..)
  · exact (State.get_put_ne _ _ (by simp only [Fld.id]; omega)).trans ((State.get_put_ne _ _ (by decide)).trans hkept)
  · exact ((returnState_frame s).put (by simp [returnFp]) 2).put (by simp [returnFp, accessFp]) 0

end

theorem execReferenceSelect_next (refinAt xtalAt : Option Nat) (hheld : s.get Boot.HELD = 0) (hstep : s.get Boot.STEP = 0) :
    ∃ t, exec (.referenceSelect refinAt xtalAt) s = .next t ∧ t.get Boot.STEP = 1
      ∧ t.get CLK_STAT.SRC = refChoice refinAt xtalAt ∧ t.get CLK_STAT.LOSSES = s.get CLK_STAT.LOSSES
      ∧ Frame (.any [.fields [Boot.STEP, CLK_STAT.SRC, CLK_STAT.RET_READY, CLK_STAT.REFIN_VALID, CLK_STAT.XTAL_VALID,
          Clk.REF_VALID 0, Clk.REF_VALID 1, Clk.READY_T 0, Clk.READY_T 1, PAGE_IRQ_STAT.EVT 0x01], raiseFp 0x01]) s t := by
  let early := fun (t : Option Nat) => t.any (fun t => decide (t < 5000))
  let u := s.put Boot.STEP 1
  let v := refValid (refValid u 0 (early refinAt)) 1 (early xtalAt)
  let x := v.put CLK_STAT.SRC (refChoice refinAt xtalAt)
  have hexec : exec (.referenceSelect refinAt xtalAt) s
      = .next (if refChoice refinAt xtalAt = 2 then raiseHeld (readyReview x) 0x01 0 else readyReview x) := by
    show execReferenceSelect refinAt xtalAt s = _
    rw [execReferenceSelect, State.flag_of_get_zero hheld, hstep]
    rfl
  have hjudge : Frame judgedFp u v := refValid_refValid_frame (Frame.refl _ u) (Footprint.le_refl _) _ _
  have hafter : Frame (.or (.fields [CLK_STAT.RET_READY, PAGE_IRQ_STAT.EVT 0x01]) (raiseFp 0x01)) x
      (if refChoice refinAt xtalAt = 2 then raiseHeld (readyReview x) 0x01 0 else readyReview x) :=
    selectReview_frame (Frame.refl _ x) (Footprint.le_or_left _ _) (Footprint.le_or_right _ _)
  have hx : ∀ f, f.id ≠ CLK_STAT.SRC.id → judgedFp.fld f.id = false → x.get f = u.get f :=
    fun f hf hj => (State.get_put_ne _ _ hf).trans (hjudge.fld f hj)
  refine ⟨_, hexec, ?_, ?_, ?_, ?_⟩
  · exact (hafter.fld _ (by decide)).trans ((hx _ (by decide) (by decide)).trans (State.get_put_same ..))
  · exact (hafter.fld _ (by decide)).trans ((State.get_put_same ..).trans
      (Nat.mod_eq_of_lt (Nat.lt_of_le_of_lt (refChoice_le ..) (by decide))))
  · exact (hafter.fld _ (by decide)).trans ((hx _ (by decide) (by decide)).trans (State.get_put_ne _ _ (by decide)))
  · refine selectReview_frame (Frame.put ?_ (by simp) _) (Footprint.fields_le (by simp)) (Footprint.le_any (by simp))
    exact refValid_refValid_frame ((Frame.refl _ s).put (by simp) 1) (Footprint.fields_le (by simp)) _ _

end

/-! ### Island clocks (R26, R27) -/

/-- Neither the report of a lost clock nor its block's reaction changes the mark of the loss. -/
theorem raiseClockFp_spares (i : ClockIsland) :
    (Footprint.any [raiseFp (clockPage i), clockFp i]).fld (Clk.LOST (clockIdx i)).id = false := by
  cases i with
  | phase p => revert p; decide
  | port n => revert n; decide
  | forager c => revert c; decide
  | combPll c => revert c; decide
  | housekeeping => decide
  | hive => decide
  | swarmPort e => revert e; decide
  | pdPhy c => revert c; decide

/-- Nor does the end of the report. -/
theorem endClockFp_spares (i : ClockIsland) :
    (Footprint.any [endFp (clockPage i), clockFp i]).fld (Clk.LOST (clockIdx i)).id = false := by
  have hrest := raiseClockFp_spares i
  simp only [Footprint.fld_any_cons, Bool.or_eq_false_iff] at hrest ⊢
  refine ⟨?_, hrest.2⟩
  have hpage : clockPage i < 0x100 := by cases i <;> simp [clockPage] <;> omega
  have hidx : clockIdx i < 80 := by
    cases i with
    | swarmPort e => cases e <;> decide
    | _ => simp [clockIdx] <;> omega
  simp [endFp, Fld.id]
  omega

section
variable (s : State) (i : ClockIsland)

theorem execClockMonitorTrip_next : ∃ t, exec (.clockMonitorTrip i) s = .next t ∧ t.get (Clk.LOST (clockIdx i)) = 1
    ∧ Frame (.any [.fields [Clk.LOST (clockIdx i)], raiseFp (clockPage i), clockFp i]) s t := by
  cases hlost : s.flag (Clk.LOST (clockIdx i))
  · have hexec : exec (.clockMonitorTrip i) s = .next (clockLost (s.put (Clk.LOST (clockIdx i)) 1) i) := by
      show execClockMonitorTrip i s = _
      rw [execClockMonitorTrip, hlost]
      rfl
    have hafter : Frame (.any [raiseFp (clockPage i), clockFp i]) (s.put (Clk.LOST (clockIdx i)) 1) _ :=
      clockLost_frame (i := i) (Frame.refl _ _) (Footprint.le_any (by simp)) (Footprint.le_any (by simp))
    exact ⟨_, hexec, (hafter.fld _ (raiseClockFp_spares i)).trans (State.get_put_same ..),
      clockLost_frame ((Frame.refl _ s).put (by simp) 1) (Footprint.le_any (by simp)) (Footprint.le_any (by simp))⟩
  · have hexec : exec (.clockMonitorTrip i) s = .next s := by
      show execClockMonitorTrip i s = _
      rw [execClockMonitorTrip, hlost]
      rfl
    exact ⟨_, hexec, (State.get_eq_bitOf_flag rfl).trans (by rw [hlost]; rfl), Frame.refl _ s⟩

theorem execClockReturn_next : ∃ t, exec (.clockReturn i) s = .next t ∧ t.get (Clk.LOST (clockIdx i)) = 0
    ∧ Frame (.any [.fields [Clk.LOST (clockIdx i)], endFp (clockPage i), clockFp i]) s t := by
  cases hlost : s.flag (Clk.LOST (clockIdx i))
  · have hexec : exec (.clockReturn i) s = .next s := by
      show execClockReturn i s = _
      rw [execClockReturn, hlost]
      rfl
    exact ⟨_, hexec, (State.get_eq_bitOf_flag rfl).trans (by rw [hlost]; rfl), Frame.refl _ s⟩
  · have hexec : exec (.clockReturn i) s = .next (clockBack (s.put (Clk.LOST (clockIdx i)) 0) i) := by
      show execClockReturn i s = _
      rw [execClockReturn, hlost]
      rfl
    have hafter : Frame (.any [endFp (clockPage i), clockFp i]) (s.put (Clk.LOST (clockIdx i)) 0) _ :=
      clockBack_frame (i := i) (Frame.refl _ _) (Footprint.le_any (by simp)) (Footprint.le_any (by simp))
    exact ⟨_, hexec, (hafter.fld _ (endClockFp_spares i)).trans (State.get_put_same ..),
      clockBack_frame ((Frame.refl _ s).put (by simp) 0) (Footprint.le_any (by simp)) (Footprint.le_any (by simp))⟩

end

/-- Settles O15: the commands of the supplies, of the reference and of the island clocks, one lemma each. -/
theorem suppliesAndClockReference : Obligations.SuppliesAndClockReference := by
  unfold Obligations.SuppliesAndClockReference
  refine ⟨fun s xtal valid => ⟨execPreRegulatorStart_next s, execIdealDiodeSwitch_next s, execIoRailToVddio_next s,
    execIoRailToVioi_next s, execDomainTakesVddc_next s, execReferenceValidityChange_next s xtal valid⟩,
    fun s a w refinAt xtalAt i => ⟨execRefLost_next s, execRetReady_next s, execClkReturn_taken s, execClkReturn_refused s,
      execReferenceSelect_next s refinAt xtalAt, execClockMonitorTrip_next s i, execClockReturn_next s i⟩⟩

end Sys2Proof.Machine
end

section
/-! SUPPORT. The Forager's registers, its model and the gangs of combs (R148, R149, R158, R169, R170, R358): what the operations may
change, and what each command answers, by its own lemma. -/

namespace Sys2Proof.Machine

variable {F : Footprint} {s t : State}

/-! ### A block read from memory (R358) -/

/-- A raise in the page of a memory. -/
theorem raiseEvent_frame_memory (h : Frame F s t) {n i : Nat} (hn : n < 2) (hi : i < 16) (hF : eccReadFp.le F) :
    Frame F s (raiseEvent t (0xA0 + n) i) := by
  have h0 : (raiseFp 0xA0).le F := Footprint.le_trans (Footprint.le_any (by simp)) hF
  have h1 : (raiseFp 0xA1).le F := Footprint.le_trans (Footprint.le_any (by simp)) hF
  interval_cases n
  · exact raiseFault_frame_passive h _ hi (show pageKind 0xA0 ≠ _ by decide) (fun _ _ _ => rfl) h0
  · exact raiseFault_frame_passive h _ hi (show pageKind 0xA1 ≠ _ by decide) (fun _ _ _ => rfl) h1

theorem fld_eccReadFp {n : Nat} (hn : n < 2) {f : Fld} (hf : f ∈ [MEM_CNT.CE n, MEM_CNT.UE n, MEM_CE_ADDR.RET n, MEM_CE_ADDR.ADDR n,
    MEM_UE_ADDR.RET n, MEM_UE_ADDR.ADDR n, MEM_INJ.ARM n, PAGE_IRQ_STAT.EVT (0xA0 + n)]) : eccReadFp.fld f.id = true :=
  (Footprint.le_any List.mem_cons_self : Footprint.le _ eccReadFp).fld _
    (Footprint.mem_fields (List.mem_flatMap.mpr ⟨n, List.mem_range.mpr hn, hf⟩))

theorem memOf_lt (a : Nat) : memOf a < 2 := by
  unfold memOf
  split <;> decide

theorem eccAddr_lt (w : Nat) : (eccAddr w).1 < 2 := by
  unfold eccAddr
  split
  · exact Nat.zero_lt_two
  · exact memOf_lt _

/-- A word that cannot be corrected is a cause of a memory's page. -/
theorem exists_eccCause (w : Nat) : ∃ n < 2, ∃ i < 16, eccCause w = (0xA0 + n, i) := by
  unfold eccCause
  split_ifs
  · exact ⟨0, by decide, 2, by decide, rfl⟩
  · exact ⟨0, by decide, 1, by decide, rfl⟩
  · exact ⟨1, by decide, 1, by decide, rfl⟩
  · exact ⟨1, by decide, 2, by decide, rfl⟩
  · exact ⟨1, by decide, 3, by decide, rfl⟩

section
variable (h : Frame F s t) (hF : eccReadFp.le F)
include h hF

protected theorem Frame.shadowMend {w : Nat} : Frame F s (shadowMend t w) := by
  refine h.on _ fun hw h => ?_
  simp only [Bool.and_eq_true, decide_eq_true_eq] at hw
  have hn := memOf_lt (8 * (8 * w / 8))
  have hmem : ({ mem := fun a => decide (0x6F1000 ≤ a) && decide (a < 0x6F2000) } : Footprint).le F :=
    Footprint.le_trans (Footprint.le_any (by simp)) hF
  have hecc : Footprint.everyEcc.le F := Footprint.le_trans (Footprint.le_any (by simp)) hF
  refine Frame.eccStore (h.setLe _ _ _ fun b hlo hhi => hmem.mem b ?_) (hecc.ecc _ rfl)
    (fun _ => hF.fld _ (fld_eccReadFp hn (by simp))) (fun _ => hF.fld _ (fld_eccReadFp hn (by simp)))
  simp only [Bool.and_eq_true, decide_eq_true_eq]
  omega

protected theorem Frame.eccRead {w : Nat} : Frame F s (eccRead t w) := by
  have hecc : Footprint.everyEcc.le F := Footprint.le_trans (Footprint.le_any (by simp)) hF
  have hn := eccAddr_lt w
  unfold eccRead
  generalize eccAddr w = addr at hn ⊢
  obtain ⟨n, ret, a⟩ := addr
  have hf : ∀ {f}, f ∈ [MEM_CNT.CE n, MEM_CNT.UE n, MEM_CE_ADDR.RET n, MEM_CE_ADDR.ADDR n, MEM_UE_ADDR.RET n, MEM_UE_ADDR.ADDR n,
      MEM_INJ.ARM n, PAGE_IRQ_STAT.EVT (0xA0 + n)] → F.fld f.id = true := fun hm => hF.fld _ (fld_eccReadFp hn hm)
  dsimp only
  split
  · exact h
  · exact ((((h.inc (hf (by simp))).put (hf (by simp)) _).put (hf (by simp)) _).evt (hf (by simp)) 0).on _ fun _ h =>
      h.setEcc (hecc.ecc _ rfl) 0
  · obtain ⟨m, hm, i, hi, he⟩ := exists_eccCause w
    rw [he]
    exact (raiseEvent_frame_memory (((((h.setEcc (hecc.ecc _ rfl) _).inc (hf (by simp))).put (hf (by simp)) _).put
      (hf (by simp)) _).evt (hf (by simp)) 1) hm hi hF).shadowMend hF

protected theorem Frame.blockRead {a len : Nat} : Frame F s (blockRead t a len) := h.each _ fun _ _ _ h => h.eccRead hF

end

/-! ### The working coefficients and the check of the model (R148, R149) -/

section
variable (h : Frame F s t) {c : Nat}
include h

protected theorem Frame.coefRecompute (hc : c < 4) (hF : (coefFp c).le F) : Frame F s (coefRecompute t c) := by
  have hphase : ∀ {k i}, k < 4 → i < 3 → F.fld (Ph.COEF (4 * c + k) i).id = true := fun {k i} hk hi => by
    have hp : (⟨4 * c + k, by omega⟩ : Fin 16) ∈ combPhases c := mem_combPhases.mpr (by show (4 * c + k) / 4 = c; omega)
    refine hF.field (List.mem_append_right _ (List.mem_flatMap.mpr ⟨_, hp, ?_⟩))
    interval_cases i <;> simp
  unfold coefRecompute
  split
  · exact h
  · refine (((h.each _ fun u k hk h => ?_).put (hF.field (by simp)) _).put (hF.field (by simp)) _).wrapInc (hF.field (by simp))
    have hk : k < 4 := List.mem_range.mp (List.mem_of_mem_filter hk)
    exact ((h.put (hphase hk (by decide)) _).put (hphase hk (by decide)) _).put (hphase hk (by decide)) _

end

theorem modelCheck_frame (h : Frame F s t) {c : Fin 4} (hF : (modelFp c).le F) : Frame F s (modelCheck t c) := by
  have hok : F.fld (Comb.MODEL_OK c).id = true := hF.fld _ (by simp [modelFp])
  have hecc : eccReadFp.le F := Footprint.le_trans (Footprint.le_any (by simp)) hF
  have hcoef : (coefFp c).le F := Footprint.le_trans (Footprint.le_any (by simp)) hF
  have hraise : (raiseFp (0x10 + c)).le F := Footprint.le_trans (Footprint.le_any (by simp)) hF
  have hend : (endFp (0x10 + c)).le F := Footprint.le_trans (Footprint.le_any (by simp)) hF
  unfold modelCheck
  split
  · exact (causeEnds_frame ((h.blockRead hecc).put hok 1) hend 2).coefRecompute c.isLt hcoef
  · exact raiseFault_frame_comb (h.put hok 0) _ (show 2 < 16 by decide) c.isLt rfl hraise

/-! ### Effects for each member of a list -/

section
variable {β : Type} {g : State → β → State} {l : List β}

/-- What each member's effect keeps, all of them keep. -/
theorem State.each_keeps {I : State → Prop} (h : I s) (hI : ∀ u x, x ∈ l → I u → I (g u x)) : I (s.each l g) := by
  induction l generalizing s with
  | nil => exact h
  | cons x l ih => exact ih (hI s x (by simp) h) fun u y hy => hI u y (by simp [hy])

/-- What one member's effect brings about, and the others' keep, holds after all of them. -/
theorem State.each_of_mem {I P : State → Prop} {d : β} (hd : d ∈ l) (h : I s) (hI : ∀ u x, x ∈ l → I u → I (g u x))
    (hset : ∀ u, I u → P (g u d)) (hkeep : ∀ u x, x ∈ l → I u → P u → P (g u x)) : P (s.each l g) := by
  induction l generalizing s with
  | nil => exact absurd hd (by simp)
  | cons x l ih =>
    have hIx := hI s x (by simp) h
    rcases List.mem_cons.mp hd with rfl | hd
    · exact (State.each_keeps (I := fun u => I u ∧ P u) ⟨hIx, hset s h⟩ fun u y hy hu =>
        ⟨hI u y (by simp [hy]) hu.1, hkeep u y (by simp [hy]) hu.1 hu.2⟩).2
    · exact ih hd hIx (fun u y hy => hI u y (by simp [hy])) fun u y hy => hkeep u y (by simp [hy])

end

/-! ### The coefficients' recomputation (R149) -/

theorem execCoefficientRecompute_next {c : Fin 4} {m : Nat} (hm : modelTable s c = some m) (hen : s.get (CMB_CTL.EN c) = 1)
    (hok : s.get (Comb.MODEL_OK c) = 1) :
    ∃ t, exec (.coefficientRecompute c) s = .next t ∧ t.get (Comb.EPOCH c) = (s.get (Comb.EPOCH c) + 1) % 65536
      ∧ t.get (Comb.COEF c 0) = workValue (s.leNat (m + 0x140) 4) (s.leInt (((modelTable s (gangLow s c)).getD m) + 0x150) 2)
          (s.int (THS_VAL.T (s.leNat (m + 0x152) 2)) - s.leInt (m + 8) 2) % 2 ^ 32
      ∧ Frame (coefFp c) s t := by
  have hexec : exec (.coefficientRecompute c) s = .next (coefRecompute s c) := by
    show execCoefficientRecompute c s = _
    rw [execCoefficientRecompute, if_pos ⟨State.flag_of_get hen, State.flag_of_get hok⟩]
  refine ⟨_, hexec, ?_, ?_, (Frame.refl _ s).coefRecompute c.isLt (Footprint.le_refl _)⟩
  · rw [coefRecompute, hm]
    dsimp only
    rw [State.wrapInc, State.get_put_same, State.get_put_ne _ _ (by simp only [Fld.id]; omega),
      State.get_put_ne _ _ (by simp only [Fld.id]; omega)]
    refine congrArg (fun n => (n + 1) % 65536) (State.each_keeps (I := fun u => u.get (Comb.EPOCH c) = s.get (Comb.EPOCH c)) rfl
      fun u k hk hu => ?_)
    have hk : k < 4 := List.mem_range.mp (List.mem_of_mem_filter hk)
    rw [State.get_put_ne _ _ (by simp only [Fld.id]; omega), State.get_put_ne _ _ (by simp only [Fld.id]; omega),
      State.get_put_ne _ _ (by simp only [Fld.id]; omega), hu]
  · rw [coefRecompute, hm]
    dsimp only
    rw [State.wrapInc, State.get_put_ne _ _ (by simp only [Fld.id]; omega), State.get_put_ne _ _ (by simp only [Fld.id]; omega),
      State.get_put_same]

theorem execCoefficientRecompute_idle {c : Fin 4} (h : s.get (CMB_CTL.EN c) = 0 ∨ s.get (Comb.MODEL_OK c) = 0) :
    ∃ t, exec (.coefficientRecompute c) s = .next t ∧ t = s := by
  refine ⟨s, ?_, rfl⟩
  show execCoefficientRecompute c s = _
  rw [execCoefficientRecompute, if_neg]
  rintro ⟨hen, hok⟩
  rcases h with h | h
  · rw [State.flag_of_get_zero h] at hen
    exact absurd hen (by decide)
  · rw [State.flag_of_get_zero h] at hok
    exact absurd hok (by decide)

/-! ### Peeking into a window (R175) -/

section
variable (s : State) (a : Access) (c : Fin 4)

/-- A value without a tag returns as it is (R360). -/
theorem tagReturn_zero (path : Fin 4) : tagReturn s path 0 = (s, 0) := by simp [tagReturn]

theorem regView_peek (k : Bool) : regView s k (0x10 + c) 0x084 = s.get (CMB_PEEK0.ENTRY c) := by
  have hkind := pageKind_comb c.isLt
  have hlayout : regLayout (0x10 + c) 0x084 = [(CMB_PEEK0.ENTRY c, .ro)] := by
    simp only [regLayout, hkind, Nat.add_sub_cancel_left]
    rfl
  simp [regView, blockView, hkind, plainRead, readField, hlayout]

/-- A peek captures the entry of the window that PEEK_SEL names, and answers its low word (R175). -/
theorem readOp_peek (hs : served s = true) : readOp s a (0x10084 + 0x1000 * c)
    = storeRead (peekCapture (touch s a) c, (peekCapture (touch s a) c).get (CMB_PEEK0.ENTRY c), 0, 0) (pathNum a.path) := by
  have hpage : (0x10084 + 0x1000 * c.val) / 0x1000 % 256 = 0x10 + c := by omega
  have hoff : (0x10084 + 0x1000 * c.val) % 0x1000 = 0x084 := by omega
  have hword : ¬ (0x10084 + 0x1000 * c.val) % 4 ≠ 0 := by omega
  have hc : fin4 (0x10 + c - 0x10) = c := by simp [fin4]
  simp only [readOp, hs, hpage, hoff, if_neg hword, regRead, pageKind_comb c.isLt, readEffect, hc, regView_peek, tagReturn_zero,
    Bool.not_true, Bool.false_eq_true, if_false, if_true]

/-- The low 128 bits of a number, as four words. -/
theorem mod_two_pow_128 (v : Nat) : v % 2 ^ 128
    = v % 2 ^ 32 + 2 ^ 32 * (v / 2 ^ 32 % 2 ^ 32) + 2 ^ 64 * (v / 2 ^ 64 % 2 ^ 32) + 2 ^ 96 * (v / 2 ^ 96 % 2 ^ 32) := by
  rw [pow_add 2 96 32, Nat.mod_mul, pow_add 2 64 32, Nat.mod_mul, pow_add 2 32 32, Nat.mod_mul]

/-- The entry that a peek captures: that of PEEK_SEL, zero where the window holds none there (R175). -/
def peekWord (s : State) (c : Fin 4) : Nat :=
  (((s.window[Fin.ofNat 16 (4 * c.val + s.get (CMB_PEEK_SEL.PHASE c))])[s.get (CMB_PEEK_SEL.POS c)]?).map
    (entryWord (4 * c.val + s.get (CMB_PEEK_SEL.PHASE c)))).getD 0

theorem ofNat_val_of_lt {n : Nat} (h : n < 16) : (Fin.ofNat 16 n).val = n := Nat.mod_eq_of_lt h

/-- An entry laid out in the four words of PEEK (R175). -/
def peekLaid (s : State) (c : Fin 4) (v : Nat) : State :=
  (((s.put (CMB_PEEK0.ENTRY c) v).put (CMB_PEEK1.ENTRY c) (v / 2 ^ 32)).put (CMB_PEEK2.ENTRY c) (v / 2 ^ 64)).put
    (CMB_PEEK3.ENTRY c) (v / 2 ^ 96)

theorem getD_map_eq_match (g : PlanEntry → Nat) (o : Option PlanEntry) :
    (match o with | some x => g x | none => 0) = (o.map g).getD 0 := by
  cases o <;> rfl

theorem peekCapture_eq : peekCapture s c = peekLaid s c (peekWord s c) := by
  have hphase : s.get (CMB_PEEK_SEL.PHASE c) < 4 := State.get_lt s (CMB_PEEK_SEL.PHASE c)
  have hword : entryWord (Fin.ofNat 16 (4 * c.val + s.get (CMB_PEEK_SEL.PHASE c))).val
      = entryWord (4 * c.val + s.get (CMB_PEEK_SEL.PHASE c)) := congrArg entryWord (ofNat_val_of_lt (by omega))
  have hcapture : peekCapture s c
      = peekLaid s c (match (s.window[Fin.ofNat 16 (4 * c.val + s.get (CMB_PEEK_SEL.PHASE c))])[s.get (CMB_PEEK_SEL.POS c)]? with
        | some e => entryWord (Fin.ofNat 16 (4 * c.val + s.get (CMB_PEEK_SEL.PHASE c))) e
        | none => 0) := by
    unfold peekCapture peekLaid
    rfl
  rw [hcapture, peekWord, ← hword, ← getD_map_eq_match]

theorem peekCapture_entry : (peekCapture s c).get (CMB_PEEK0.ENTRY c) + 2 ^ 32 * (peekCapture s c).get (CMB_PEEK1.ENTRY c)
      + 2 ^ 64 * (peekCapture s c).get (CMB_PEEK2.ENTRY c) + 2 ^ 96 * (peekCapture s c).get (CMB_PEEK3.ENTRY c)
    = peekWord s c % 2 ^ 128 := by
  rw [peekCapture_eq, peekLaid]
  generalize peekWord s c = v
  have h0 := State.get_put_same s (CMB_PEEK0.ENTRY c) v
  have h1 := State.get_put_same (s.put (CMB_PEEK0.ENTRY c) v) (CMB_PEEK1.ENTRY c) (v / 2 ^ 32)
  generalize hu1 : (s.put (CMB_PEEK0.ENTRY c) v).put (CMB_PEEK1.ENTRY c) (v / 2 ^ 32) = u1 at h1 ⊢
  have h2 := State.get_put_same u1 (CMB_PEEK2.ENTRY c) (v / 2 ^ 64)
  have h3 := State.get_put_same (u1.put (CMB_PEEK2.ENTRY c) (v / 2 ^ 64)) (CMB_PEEK3.ENTRY c) (v / 2 ^ 96)
  rw [h3, State.get_put_ne _ _ (by simp only [Fld.id]; omega), State.get_put_ne _ _ (by simp only [Fld.id]; omega),
    State.get_put_ne _ _ (by simp only [Fld.id]; omega), State.get_put_ne _ _ (by simp only [Fld.id]; omega),
    State.get_put_ne _ _ (by simp only [Fld.id]; omega), h2, h1, ← hu1, State.get_put_ne _ _ (by simp only [Fld.id]; omega), h0,
    mod_two_pow_128]

/-- What a peek changes beside its access (R110, R175). -/
def peekFp (a : Access) (c : Fin 4) : Footprint :=
  .any [.fields [CMB_PEEK0.ENTRY c, CMB_PEEK1.ENTRY c, CMB_PEEK2.ENTRY c, CMB_PEEK3.ENTRY c, Last.DATA (pathNum a.path),
    Last.TAG (pathNum a.path)], accessFp a (0x10 + c)]

theorem peekCapture_frame {a : Access} (h : Frame (peekFp a c) s t) : Frame (peekFp a c) s (peekCapture t c) :=
  (((h.put (by simp [peekFp]) _).put (by simp [peekFp]) _).put (by simp [peekFp]) _).put (by simp [peekFp]) _

theorem execPeek_next (hs : served s = true) : ∃ t, exec (.peek a c) s = .next t
    ∧ t.get (CMB_PEEK0.ENTRY c) + 2 ^ 32 * t.get (CMB_PEEK1.ENTRY c) + 2 ^ 64 * t.get (CMB_PEEK2.ENTRY c)
        + 2 ^ 96 * t.get (CMB_PEEK3.ENTRY c)
      = peekWord s c % 2 ^ 128
    ∧ t.get (Last.DATA (pathNum a.path)) = t.get (CMB_PEEK0.ENTRY c)
    ∧ Frame (peekFp a c) s t := by
  let u := peekCapture (touch s a) c
  have hexec : exec (.peek a c) s = .next (storeRead (u, u.get (CMB_PEEK0.ENTRY c), 0, 0) (pathNum a.path)) :=
    congrArg Host.Outcome.next (readOp_peek s a c hs)
  have hpath := (pathNum a.path).isLt
  have hget : ∀ {f : Fld}, f.id < 0x2310000 * 32 →
      (storeRead (u, u.get (CMB_PEEK0.ENTRY c), 0, 0) (pathNum a.path)).get f = u.get f := fun hf => by
      simp only [Fld.id] at hf
      rw [storeRead, State.get_put_ne _ _ (by simp only [Fld.id]; omega), State.get_put_ne _ _ (by simp only [Fld.id]; omega),
        State.get_put_ne _ _ (by simp only [Fld.id]; omega)]
  have hwindow : (touch s a).window = s.window := by unfold touch; cases keeperView s a <;> rfl
  have hentry := peekCapture_entry (touch s a) c
  simp only [peekWord, get_touch_of_key s a (f := CMB_PEEK_SEL.PHASE c) (by simp only [Fld.id]; omega),
    get_touch_of_key s a (f := CMB_PEEK_SEL.POS c) (by simp only [Fld.id]; omega), hwindow] at hentry
  refine ⟨_, hexec, ?_, ?_, ?_⟩
  · rw [hget (by simp only [Fld.id]; omega), hget (by simp only [Fld.id]; omega), hget (by simp only [Fld.id]; omega),
      hget (by simp only [Fld.id]; omega)]
    exact hentry
  · rw [get_storeRead_data, hget (by simp only [Fld.id]; omega)]
    exact Nat.mod_eq_of_lt (State.get_lt u (CMB_PEEK0.ENTRY c))
  · have htouch : Frame (peekFp a c) s (touch s a) := (touch_frame a (0x10 + c)).mono (Footprint.le_any (by simp))
    exact (((peekCapture_frame s c htouch).put (by simp [peekFp]) _).put (by simp [peekFp]) 0).put (by simp [peekFp, accessFp]) 0

end

/-! ### The record of a raise in a comb's page (R384 to R386) -/

/-- What the record of a raise changes beside CAUSE. -/
def besideCauseFp (p : Nat) : Footprint :=
  .any [.fields ([PAGE_FLT_STAT.ACTIVE p, PAGE_FLT_STAT.ACKED p, PAGE_FLT_CNT.FAULTS p, PAGE_IRQ_STAT.EVT p, Flt.PRESENT p,
    Flt.UNACK p, Flt.TIMER p, Flt.QUIET p, Flt.INJ p] ++ (List.range 16).map (Flt.STAND p)), logFp, errFp]

theorem recordRaise_frame_besideCause (c : Cause) (hc : c.bit < 16) :
    Frame (besideCauseFp c.page) (s.orF (PAGE_FLT_STAT.CAUSE c.page) (1 <<< c.bit)) (recordRaise s c) := by
  have hl : logFp.le (besideCauseFp c.page) := Footprint.le_any (by simp)
  have hr : errFp.le (besideCauseFp c.page) := Footprint.le_any (by simp)
  have hstand : (besideCauseFp c.page).fld (Flt.STAND c.page c.bit).id = true :=
    (Footprint.le_any List.mem_cons_self : Footprint.le _ (besideCauseFp c.page)).field
      (List.mem_append_right _ (List.mem_map.mpr ⟨c.bit, List.mem_range.mpr hc, rfl⟩))
  have hb : ∀ {f : Fld}, f ∈ [PAGE_FLT_STAT.ACTIVE c.page, PAGE_FLT_STAT.ACKED c.page, PAGE_FLT_CNT.FAULTS c.page,
      PAGE_IRQ_STAT.EVT c.page, Flt.PRESENT c.page, Flt.UNACK c.page, Flt.TIMER c.page, Flt.QUIET c.page, Flt.INJ c.page] →
      (besideCauseFp c.page).fld f.id = true := fun hf =>
    (Footprint.le_any List.mem_cons_self : Footprint.le _ (besideCauseFp c.page)).field (List.mem_append_left _ hf)
  unfold recordRaise
  extract_lets n s1 s2 s3 s4 s5
  have h1 : Frame (besideCauseFp c.page) (s.orF (PAGE_FLT_STAT.CAUSE c.page) (1 <<< c.bit)) s1 :=
    ((Frame.refl _ _).on _ fun _ h => h.inc (hb (by simp))).evt (hb (by simp)) 15
  have h3 : Frame (besideCauseFp c.page) (s.orF (PAGE_FLT_STAT.CAUSE c.page) (1 <<< c.bit)) s3 :=
    (((h1.put hstand _).putBit (hb (by simp)) _ _).putBit (hb (by simp)) _ _).putBit (hb (by simp)) _ _
  have h4 : Frame (besideCauseFp c.page) (s.orF (PAGE_FLT_STAT.CAUSE c.page) (1 <<< c.bit)) s4 :=
    .ite h3 ((h3.putBit (hb (by simp)) _ _).putBit (hb (by simp)) _ _)
  exact errUpdate_frame (logFault_frame (quietUpdate_frame (quietUpdate_frame (h4.on _ fun _ h => h.putBit (hb (by simp)) _ _)
    (hb (by simp)) _) (hb (by simp)) _) hl _ _ _ _) hr _

/-- The record of a raise sets its bit of CAUSE (R386). -/
theorem testBit_cause_recordRaise (c : Cause) (hc : c.bit < 16)
    (hp : (besideCauseFp c.page).fld (PAGE_FLT_STAT.CAUSE c.page).id = false) :
    ((recordRaise s c).get (PAGE_FLT_STAT.CAUSE c.page)).testBit c.bit = true := by
  rw [(recordRaise_frame_besideCause c hc).fld _ hp, State.orF, State.get_put_same, Nat.testBit_mod_two_pow]
  simp [hc]

/-- Nothing that follows the record of a raise in a comb's page clears its CAUSE. -/
theorem combFp_spares_cause (d : Fin 4) : (besideCauseFp (0x10 + d)).fld (PAGE_FLT_STAT.CAUSE (0x10 + d)).id = false
    ∧ (Footprint.or (.fields [PAGE_FLT_STAT.ACTED (0x10 + d)]) logFp).fld (PAGE_FLT_STAT.CAUSE (0x10 + d)).id = false
    ∧ (combStopFp d).fld (PAGE_FLT_STAT.CAUSE (0x10 + d)).id = false := by
  revert d
  decide

/-- A raise in the page of a comb that is not muted sets its bit of CAUSE (R384, R386). -/
theorem testBit_cause_raiseEvent_comb (d : Fin 4) {i : Nat} (hi : i < 16) (hm : muted s (0x10 + d) = false) :
    ((raiseEvent s (0x10 + d) i).get (PAGE_FLT_STAT.CAUSE (0x10 + d))).testBit i = true := by
  obtain ⟨hbeside, hacted, hstop⟩ := combFp_spares_cause d
  let c : Cause := { page := 0x10 + d, bit := i, cls := (causeClass (0x10 + d) i).getD 1 }
  have hrec : ((recordRaise s c).get (PAGE_FLT_STAT.CAUSE (0x10 + d))).testBit i = true := testBit_cause_recordRaise c hi hbeside
  have hraise : raiseEvent s (0x10 + d) i = if raiseActs s c (raiseClass s c) then
      actionEffect (takeAction (recordRaise s c) (0x10 + d) (raiseClass s c)) (0x10 + d) (raiseClass s c) i (raiseClass s c != c.cls)
      else recordRaise s c := by
    rw [raiseEvent, raiseFault, hm]
    rfl
  have htake := takeAction_frame (Frame.refl (.or (.fields [PAGE_FLT_STAT.ACTED (0x10 + d)]) logFp) (recordRaise s c))
    (p := 0x10 + d) (n := raiseClass s c) ((Footprint.le_or_left _ _).field (by simp)) (Footprint.le_or_right _ _)
    (fun hk => absurd hk (by rw [pageKind_comb d.isLt]; decide))
  rw [hraise]
  split
  · have heffect := actionEffect_frame_comb (k := raiseClass s c) (i := i) (esc := raiseClass s c != c.cls)
      (Frame.refl (combStopFp d) (takeAction (recordRaise s c) (0x10 + d) (raiseClass s c))) d.isLt (Footprint.le_refl _)
    rw [heffect.fld _ hstop, htake.fld _ hacted]
    exact hrec
  · exact hrec

/-! ### Gangs asked for (R169, R170) -/

section
variable {c d : Nat}

theorem lt_of_mem_gangAsked (hd : d ∈ gangAsked s c) : d < 4 := by
  unfold gangAsked at hd
  dsimp only at hd
  split at hd
  · exact List.mem_range.mp (List.mem_of_mem_filter hd)
  · exact absurd hd (by simp)

end

/-- What a comb that joins a gang keeps of itself (R169). -/
def gangJoinsFp (d : Nat) : Footprint :=
  .fields [CMB_GANG.STATE d, CMB_GANG.MEMBERS d, Arb.GANG_MODE d, Arb.GANG_PER d]

/-- What forming a gang of the combs `l`, or refusing it, changes (R169). -/
def gangFp (l : List Nat) : Footprint :=
  .any (l.flatMap (fun d => [.fields [CMB_GANG.STATE d, CMB_GANG.MEMBERS d, Arb.GANG_MODE d, Arb.GANG_PER d], squashFp d,
    raiseFp (0x10 + d)]))

section
variable {l : List Nat} {d : Nat} (hd : d ∈ l)
include hd

theorem gangJoinsFp_le_gangFp : (gangJoinsFp d).le (gangFp l) :=
  Footprint.le_any (List.mem_flatMap.mpr ⟨d, hd, by simp [gangJoinsFp]⟩)

theorem squashFp_le_gangFp : (squashFp d).le (gangFp l) := Footprint.le_any (List.mem_flatMap.mpr ⟨d, hd, by simp⟩)

theorem raiseFp_le_gangFp : (raiseFp (0x10 + d)).le (gangFp l) := Footprint.le_any (List.mem_flatMap.mpr ⟨d, hd, by simp⟩)

end

/-- Squashing a comb leaves what its gang is. -/
theorem squashFp_spares_gang {d c : Nat} (hd : d < 4) (hc : c < 4) : (squashFp d).fld (CMB_GANG.STATE c).id = false
    ∧ (squashFp d).fld (CMB_GANG.MEMBERS c).id = false := by
  have hall : ∀ d c : Fin 4, (squashFp d).fld (CMB_GANG.STATE c).id = false
      ∧ (squashFp d).fld (CMB_GANG.MEMBERS c).id = false := by decide
  exact hall ⟨d, hd⟩ ⟨c, hc⟩

/-- Comb `d` joins the gang that comb `c` asks for (R169). -/
def gangJoins (c : Nat) (s : State) (d : Nat) : State :=
  gangBegins ((s.put (CMB_GANG.STATE d) 2).put (CMB_GANG.MEMBERS d) (s.get (CMB_GANG.REQ c))) d

/-- Comb `d` is refused a gang (R170). -/
def gangRefuses (s : State) (d : Nat) : State := raiseEvent (s.put (CMB_GANG.STATE d) 3) (0x10 + d) 5

theorem gangJoins_frame (h : Frame F s t) {c d : Nat} (hF : (gangJoinsFp d).le F) : Frame F s (gangJoins c t d) :=
  (((h.put (hF.field (by simp)) _).put (hF.field (by simp)) _).put (hF.field (by simp)) _).putI (hF.field (by simp)) _

/-- A comb that joins a gang changes no request, and no other comb's gang. -/
theorem gangJoinsFp_spares : ∀ x d : Fin 4, (gangJoinsFp x).fld (CMB_GANG.REQ d).id = false
    ∧ (x ≠ d → (gangJoinsFp x).fld (CMB_GANG.STATE d).id = false ∧ (gangJoinsFp x).fld (CMB_GANG.MEMBERS d).id = false) := by
  decide

theorem get_gangJoins (s : State) (c d : Nat) : (gangJoins c s d).get (CMB_GANG.STATE d) = 2
    ∧ (gangJoins c s d).get (CMB_GANG.MEMBERS d) = s.get (CMB_GANG.REQ c) := by
  have hlen : s.get (CMB_GANG.REQ c) < 2 ^ (CMB_GANG.MEMBERS d).len := State.get_lt s (CMB_GANG.REQ c)
  unfold gangJoins gangBegins State.putI
  constructor
  · rw [State.get_put_ne _ _ (by simp only [Fld.id]; omega), State.get_put_ne _ _ (by simp only [Fld.id]; omega),
      State.get_put_ne _ _ (by simp only [Fld.id]; omega), State.get_put_same]
    rfl
  · rw [State.get_put_ne _ _ (by simp only [Fld.id]; omega), State.get_put_ne _ _ (by simp only [Fld.id]; omega),
      State.get_put_same, Nat.mod_eq_of_lt hlen]

section
variable {c : Fin 4}

/-- All who ask join: each is a member of the gang, and then squashes. -/
theorem gangJoins_each_get {d : Fin 4} (hd : d.val ∈ gangAsked s c) :
    ((s.each (gangAsked s c) (gangJoins c)).each (gangAsked s c) squashEvery).get (CMB_GANG.STATE d) = 2
      ∧ ((s.each (gangAsked s c) (gangJoins c)).each (gangAsked s c) squashEvery).get (CMB_GANG.MEMBERS d)
        = s.get (CMB_GANG.REQ c) := by
  have hframe : ∀ (u : State) (x : Nat), Frame (gangJoinsFp x) u (gangJoins c u x) := fun u x =>
    gangJoins_frame (Frame.refl _ u) (Footprint.le_refl _)
  refine State.each_keeps (I := fun u => u.get (CMB_GANG.STATE d) = 2 ∧ u.get (CMB_GANG.MEMBERS d) = s.get (CMB_GANG.REQ c)) ?_ ?_
  · refine State.each_of_mem (I := fun u => u.get (CMB_GANG.REQ c) = s.get (CMB_GANG.REQ c))
      (P := fun u => u.get (CMB_GANG.STATE d) = 2 ∧ u.get (CMB_GANG.MEMBERS d) = s.get (CMB_GANG.REQ c)) hd rfl ?_ ?_ ?_
    · intro u x hx hu
      exact ((hframe u x).fld _ (gangJoinsFp_spares ⟨x, lt_of_mem_gangAsked hx⟩ c).1).trans hu
    · exact fun u hu => hu ▸ get_gangJoins u c d
    · intro u x hx hu hgang
      by_cases hxd : x = d
      · subst hxd
        exact hu ▸ get_gangJoins u c d
      · obtain ⟨hstate, hmembers⟩ :=
          (gangJoinsFp_spares ⟨x, lt_of_mem_gangAsked hx⟩ d).2 fun e => hxd (congrArg Fin.val e)
        exact ⟨((hframe u x).fld _ hstate).trans hgang.1, ((hframe u x).fld _ hmembers).trans hgang.2⟩
  · intro u x hx hgang
    have hx4 := lt_of_mem_gangAsked hx
    have hsq : Frame (squashFp x) u (squashEvery u x) := (Frame.refl _ u).squashEvery (hc := hx4)
    obtain ⟨hstate, hmembers⟩ := squashFp_spares_gang hx4 d.isLt
    exact ⟨(hsq.fld _ hstate).trans hgang.1, (hsq.fld _ hmembers).trans hgang.2⟩

end

section
variable {c : Fin 4} (hne : gangAsked s c ≠ []) (hlow : (gangAsked s c)[0]? = some c.val) (hsafe : inSafeBoot s = false)
  (hasked : (gangAsked s c).all (fun d => s.get (CMB_GANG.STATE d) == 1) = true)
include hne hlow hsafe hasked

theorem gangCheck_eq : gangCheck s c = if (gangAsked s c).all (withinMean s (gangAsked s c)) then
      (s.each (gangAsked s c) (gangJoins c)).each (gangAsked s c) squashEvery
    else s.each (gangAsked s c) gangRefuses := by
  rw [gangCheck]
  dsimp only
  rw [if_neg]
  · rfl
  rintro (h | h | h | h)
  · exact absurd h (by simp [hsafe])
  · exact hne h
  · exact absurd h (by simp [hasked])
  · exact h hlow

/-- The lowest comb that asks finds every voltage within its bounds: the gang forms (R169). -/
theorem execGangCheck_formed (hmean : (gangAsked s c).all (withinMean s (gangAsked s c)) = true) :
    ∃ t, exec (.gangCheck c) s = .next t
      ∧ t.get (CMB_GANG.STATE c) = 2 ∧ t.get (CMB_GANG.MEMBERS c) = s.get (CMB_GANG.REQ c)
      ∧ (∀ d : Fin 4, d.val ∈ gangAsked s c → t.get (CMB_GANG.STATE d) = 2
          ∧ t.get (CMB_GANG.MEMBERS d) = s.get (CMB_GANG.REQ c))
      ∧ Frame (gangFp (gangAsked s c)) s t := by
  have hexec : exec (.gangCheck c) s = .next ((s.each (gangAsked s c) (gangJoins c)).each (gangAsked s c) squashEvery) := by
    show Host.Outcome.next (gangCheck s c) = _
    rw [gangCheck_eq hne hlow hsafe hasked, if_pos hmean]
  obtain ⟨hstate, hmembers⟩ := gangJoins_each_get (List.mem_of_getElem? hlow)
  refine ⟨_, hexec, hstate, hmembers, fun d hd => gangJoins_each_get hd, ?_⟩
  exact ((Frame.refl _ s).each _ fun u d hd h => gangJoins_frame h (gangJoinsFp_le_gangFp hd)).each _ fun u d hd h =>
    h.squashEvery (hF := squashFp_le_gangFp hd) (hc := lt_of_mem_gangAsked hd)

end

/-- A refusal raised in a comb's page leaves what gangs are, and the causes and the muting of the others' pages. -/
theorem raiseFp_comb_spares : ∀ x d : Fin 4, (raiseFp (0x10 + x)).fld (CMB_GANG.STATE d).id = false
    ∧ (raiseFp (0x10 + x)).fld (PAGE_STAT.ABSENT (0x10 + d)).id = false
    ∧ (raiseFp (0x10 + x)).fld Sleep.STATE.id = false
    ∧ (x ≠ d → (raiseFp (0x10 + x)).fld (PAGE_FLT_STAT.CAUSE (0x10 + d)).id = false) := by
  decide

/-- Muting depends on the page's ABSENT and on the sleep (R72, R384). -/
theorem muted_congr {p : Nat} (ha : t.get (PAGE_STAT.ABSENT p) = s.get (PAGE_STAT.ABSENT p))
    (hs : t.get Sleep.STATE = s.get Sleep.STATE) : muted t p = muted s p := by
  simp only [muted, absent, State.flag, ha, hs]

theorem gangRefuses_frame_raise (u : State) {x : Nat} (hx : x < 4) :
    Frame (raiseFp (0x10 + x)) (u.put (CMB_GANG.STATE x) 3) (gangRefuses u x) :=
  raiseFault_frame_comb (Frame.refl _ _) _ (show 5 < 16 by decide) hx rfl (Footprint.le_refl _)

/-- A comb refused a gang: its STATE, and its page's cause. -/
theorem gangRefuses_get (u : State) (d : Fin 4) : (gangRefuses u d).get (CMB_GANG.STATE d) = 3
    ∧ (muted u (0x10 + d) = false → ((gangRefuses u d).get (PAGE_FLT_STAT.CAUSE (0x10 + d))).testBit 5 = true) := by
  constructor
  · rw [(gangRefuses_frame_raise u d.isLt).fld _ (raiseFp_comb_spares d d).1, State.get_put_same]
    rfl
  · intro hm
    refine testBit_cause_raiseEvent_comb d (by decide) (Eq.trans (muted_congr ?_ ?_) hm)
    · exact State.get_put_ne _ _ (by simp only [Fld.id]; omega)
    · exact State.get_put_ne _ _ (by simp only [Fld.id]; omega)

/-- The refusal of another comb, or of the same again, leaves that of comb `d`. -/
theorem gangRefuses_spares (u : State) (x d : Fin 4) :
    muted (gangRefuses u x) (0x10 + d) = muted u (0x10 + d)
    ∧ (x ≠ d → (gangRefuses u x).get (CMB_GANG.STATE d) = u.get (CMB_GANG.STATE d)
      ∧ (gangRefuses u x).get (PAGE_FLT_STAT.CAUSE (0x10 + d)) = u.get (PAGE_FLT_STAT.CAUSE (0x10 + d))) := by
  obtain ⟨hstate, habsent, hsleep, hcause⟩ := raiseFp_comb_spares x d
  have hraise := gangRefuses_frame_raise u x.isLt
  refine ⟨muted_congr ?_ ?_, fun hne => ⟨?_, ?_⟩⟩
  · exact (hraise.fld _ habsent).trans (State.get_put_ne _ _ (by simp only [Fld.id]; omega))
  · exact (hraise.fld _ hsleep).trans (State.get_put_ne _ _ (by simp only [Fld.id]; omega))
  · have hval : x.val ≠ d.val := fun e => hne (Fin.ext e)
    exact (hraise.fld _ hstate).trans (State.get_put_ne _ _ (by simp only [Fld.id]; omega))
  · exact (hraise.fld _ (hcause hne)).trans (State.get_put_ne _ _ (by simp only [Fld.id]; omega))

section
variable {c : Fin 4}

theorem gangRefuses_each_get {d : Fin 4} (hd : d.val ∈ gangAsked s c) :
    (s.each (gangAsked s c) gangRefuses).get (CMB_GANG.STATE d) = 3
      ∧ (muted s (0x10 + d) = false →
        ((s.each (gangAsked s c) gangRefuses).get (PAGE_FLT_STAT.CAUSE (0x10 + d))).testBit 5 = true) := by
  refine State.each_of_mem (I := fun u => muted u (0x10 + d) = muted s (0x10 + d))
    (P := fun u => u.get (CMB_GANG.STATE d) = 3
      ∧ (muted s (0x10 + d) = false → (u.get (PAGE_FLT_STAT.CAUSE (0x10 + d))).testBit 5 = true)) hd rfl ?_ ?_ ?_
  · exact fun u x hx hu => (gangRefuses_spares u ⟨x, lt_of_mem_gangAsked hx⟩ d).1.trans hu
  · exact fun u hu => hu ▸ gangRefuses_get u d
  · intro u x hx hu hgang
    by_cases hxd : x = d
    · subst hxd
      exact hu ▸ gangRefuses_get u d
    · obtain ⟨hstate, hcause⟩ :=
        (gangRefuses_spares u ⟨x, lt_of_mem_gangAsked hx⟩ d).2 fun e => hxd (congrArg Fin.val e)
      exact ⟨hstate.trans hgang.1, fun hm => hcause ▸ hgang.2 hm⟩

/-- A voltage outside its bounds: every comb that asks is refused (R170). -/
theorem execGangCheck_refused (hne : gangAsked s c ≠ []) (hlow : (gangAsked s c)[0]? = some c.val) (hsafe : inSafeBoot s = false)
    (hasked : (gangAsked s c).all (fun d => s.get (CMB_GANG.STATE d) == 1) = true)
    (hmean : (gangAsked s c).all (withinMean s (gangAsked s c)) = false) :
    ∃ t, exec (.gangCheck c) s = .next t
      ∧ t.get (CMB_GANG.STATE c) = 3
      ∧ (∀ d : Fin 4, d.val ∈ gangAsked s c → t.get (CMB_GANG.STATE d) = 3
            ∧ (muted s (0x10 + d) = false → (t.get (PAGE_FLT_STAT.CAUSE (0x10 + d))).testBit 5 = true))
      ∧ Frame (gangFp (gangAsked s c)) s t := by
  have hexec : exec (.gangCheck c) s = .next (s.each (gangAsked s c) gangRefuses) := by
    show Host.Outcome.next (gangCheck s c) = _
    rw [gangCheck_eq hne hlow hsafe hasked, hmean]
    rfl
  refine ⟨_, hexec, (gangRefuses_each_get (List.mem_of_getElem? hlow)).1, fun d hd => gangRefuses_each_get hd, ?_⟩
  exact (Frame.refl _ s).each _ fun u d hd h =>
    raiseFault_frame_comb (h.put ((gangJoinsFp_le_gangFp hd).field (by simp)) 3) _ (show 5 < 16 by decide) (lt_of_mem_gangAsked hd) rfl
      (raiseFp_le_gangFp hd)

end

/-! ### Gangs that dissolve (R170) -/

/-- Comb `d` leaves its gang. -/
def gangLeaves (s : State) (d : Nat) : State := (s.put (CMB_GANG.STATE d) 0).put (CMB_GANG.MEMBERS d) 0

/-- Comb `d`, out of its gang, squashes, and asks for the next one where its request is met. -/
def gangAsksAnew (s : State) (d : Nat) : State :=
  squashEvery (s.on (gangAsked s d != []) (·.put (CMB_GANG.STATE d) 1)) d

/-- What dissolving the gang of the combs `l` changes. -/
def dissolveFp (l : List Nat) : Footprint :=
  .any (l.flatMap fun d => [.fields [CMB_GANG.STATE d, CMB_GANG.MEMBERS d], squashFp d])

theorem fields_le_dissolveFp {l : List Nat} {d : Nat} (hd : d ∈ l) :
    (Footprint.fields [CMB_GANG.STATE d, CMB_GANG.MEMBERS d]).le (dissolveFp l) :=
  Footprint.le_any (List.mem_flatMap.mpr ⟨d, hd, by simp⟩)

theorem squashFp_le_dissolveFp {l : List Nat} {d : Nat} (hd : d ∈ l) : (squashFp d).le (dissolveFp l) :=
  Footprint.le_any (List.mem_flatMap.mpr ⟨d, hd, by simp⟩)

theorem gangLeaves_get (u : State) (d : Nat) :
    (gangLeaves u d).get (CMB_GANG.STATE d) = 0 ∧ (gangLeaves u d).get (CMB_GANG.MEMBERS d) = 0 :=
  ⟨(State.get_put_ne _ _ (by simp only [Fld.id]; omega)).trans (State.get_put_same ..), State.get_put_same ..⟩

theorem gangLeaves_spares (u : State) {x d : Nat} (hxd : x ≠ d) :
    (gangLeaves u x).get (CMB_GANG.STATE d) = u.get (CMB_GANG.STATE d)
      ∧ (gangLeaves u x).get (CMB_GANG.MEMBERS d) = u.get (CMB_GANG.MEMBERS d) := by
  constructor <;>
    exact (State.get_put_ne _ _ (by simp only [Fld.id]; omega)).trans (State.get_put_ne _ _ (by simp only [Fld.id]; omega))

theorem gangAsksAnew_get (u : State) {x d : Nat} (hx : x < 4) (hd : d < 4)
    (hu : u.get (CMB_GANG.STATE d) ≠ 2 ∧ u.get (CMB_GANG.MEMBERS d) = 0) :
    (gangAsksAnew u x).get (CMB_GANG.STATE d) ≠ 2 ∧ (gangAsksAnew u x).get (CMB_GANG.MEMBERS d) = 0 := by
  obtain ⟨hstate, hmembers⟩ := squashFp_spares_gang hx hd
  have hsq : Frame (squashFp x) (u.on (gangAsked u x != []) (·.put (CMB_GANG.STATE x) 1)) (gangAsksAnew u x) :=
    (Frame.refl _ _).squashEvery (hc := hx)
  rw [hsq.fld _ hstate, hsq.fld _ hmembers]
  cases gangAsked u x != [] with
  | false => exact hu
  | true =>
    refine ⟨?_, (State.get_put_ne _ _ (by simp only [Fld.id]; omega)).trans hu.2⟩
    by_cases hxd : x = d
    · subst hxd
      exact (State.get_put_same ..).trans_ne (show 1 ≠ 2 by decide)
    · exact (State.get_put_ne _ _ (by simp only [Fld.id]; omega)).trans_ne hu.1

section
variable {c : Fin 4}

theorem gangLeaves_each_get {d : Nat} (hd : d ∈ gangOf s c) :
    ((s.each (gangOf s c) gangLeaves).each (gangOf s c) gangAsksAnew).get (CMB_GANG.STATE d) ≠ 2
      ∧ ((s.each (gangOf s c) gangLeaves).each (gangOf s c) gangAsksAnew).get (CMB_GANG.MEMBERS d) = 0 := by
  have hleft : ∀ u : State, (gangLeaves u d).get (CMB_GANG.STATE d) ≠ 2
      ∧ (gangLeaves u d).get (CMB_GANG.MEMBERS d) = 0 := fun u =>
    ⟨(gangLeaves_get u d).1.trans_ne (by decide), (gangLeaves_get u d).2⟩
  refine State.each_keeps (I := fun u => u.get (CMB_GANG.STATE d) ≠ 2 ∧ u.get (CMB_GANG.MEMBERS d) = 0) ?_ fun u x hx =>
    gangAsksAnew_get u (lt_of_mem_gangOf c.isLt hx) (lt_of_mem_gangOf c.isLt hd)
  refine State.each_of_mem (I := fun _ => True) (P := fun u => u.get (CMB_GANG.STATE d) ≠ 2 ∧ u.get (CMB_GANG.MEMBERS d) = 0)
    hd trivial (fun _ _ _ _ => trivial) (fun u _ => hleft u) fun u x hx _ hu => ?_
  by_cases hxd : x = d
  · subst hxd
    exact hleft u
  · obtain ⟨hstate, hmembers⟩ := gangLeaves_spares u hxd
    exact ⟨hstate.trans_ne hu.1, hmembers.trans hu.2⟩

theorem mem_gangOf_self (h : s.get (CMB_GANG.STATE c) = 2) : c.val ∈ gangOf s c := by
  rw [gangOf, if_pos h, bitsOf, List.mem_filter, List.mem_range, Nat.testBit_or]
  exact ⟨c.isLt, by simp⟩

/-- A gang of which a comb asks otherwise, or is disabled, dissolves (R170). -/
theorem execGangDissolve_next (hgang : s.get (CMB_GANG.STATE c) = 2)
    (hany : (gangOf s c).any (fun d => s.get (CMB_GANG.REQ d) != s.get (CMB_GANG.MEMBERS d) || !s.flag (CMB_CTL.EN d)) = true) :
    ∃ t, exec (.gangDissolve c) s = .next t
      ∧ t.get (CMB_GANG.STATE c) ≠ 2 ∧ t.get (CMB_GANG.MEMBERS c) = 0
      ∧ (∀ d : Fin 4, d.val ∈ gangOf s c → t.get (CMB_GANG.STATE d) ≠ 2 ∧ t.get (CMB_GANG.MEMBERS d) = 0)
      ∧ Frame (dissolveFp (gangOf s c)) s t := by
  have hexec : exec (.gangDissolve c) s = .next ((s.each (gangOf s c) gangLeaves).each (gangOf s c) gangAsksAnew) := by
    show Host.Outcome.next (gangDissolve s c) = _
    rw [gangDissolve]
    dsimp only
    rw [if_pos ⟨hgang, hany⟩]
    rfl
  obtain ⟨hstate, hmembers⟩ := gangLeaves_each_get (mem_gangOf_self hgang)
  refine ⟨_, hexec, hstate, hmembers, fun d hd => gangLeaves_each_get hd, ?_⟩
  have hput : ∀ {d}, d ∈ gangOf s c → ∀ f ∈ [CMB_GANG.STATE d, CMB_GANG.MEMBERS d],
      (dissolveFp (gangOf s c)).fld f.id = true := fun hd f hf =>
    (fields_le_dissolveFp hd).field hf
  exact ((Frame.refl _ s).each _ fun u d hd h => (h.put (hput hd _ (by simp)) 0).put (hput hd _ (by simp)) 0).each _
    fun u d hd h => (h.on _ fun _ h => h.put (hput hd _ (by simp)) 1).squashEvery (hF := squashFp_le_dissolveFp hd)
      (hc := lt_of_mem_gangOf c.isLt hd)

end

/-! ### Writes of the Forager's registers with the Keeper view (R90, R148, R158, R169) -/

theorem combLive_touch (s : State) (a : Access) (c : Fin 4) : combLive (touch s a) c = combLive s c := by
  have hkept : ∀ f ∈ [Sleep.STATE, Boot.HELD, HIVE_MODE.MODE, HIVE_BOOT_STAT.SAFE_COMB], (touch s a).get f = s.get f := by
    have hids : ∀ p : Fin 4, ∀ f ∈ [Sleep.STATE, Boot.HELD, HIVE_MODE.MODE, HIVE_BOOT_STAT.SAFE_COMB],
        f.id ≠ (Ses.IDLE_T p).id := by decide
    exact fun f hf => get_touch s a (hids _ f hf)
  simp only [combLive, inFull, inSafeBoot, State.flag, hkept _ (by simp : Sleep.STATE ∈ _), hkept Boot.HELD (by simp),
    hkept HIVE_MODE.MODE (by simp), hkept HIVE_BOOT_STAT.SAFE_COMB (by simp)]

/-- A write of the Forager's page begins with the access, and ends with its status code. -/
theorem frame_of_regWrite {a : Access} {c : Fin 4} {u : State} (hacc : (accessFp a (0x10 + c)).le F)
    (h : Frame F s (touch s a) → Frame F s u) : Frame F s (u.put (Last.CODE (pathNum a.path)) 0) :=
  (h ((touch_frame a (0x10 + c)).mono hacc)).put (hacc.fld _ (by simp [accessFp])) 0

section
variable {a : Access} {c : Fin 4} {w : BitVec 32}

theorem page_lt (c : Fin 4) : 0x10 + c.val < 256 := by omega

/-- The status code's write leaves every field of a lower key. -/
theorem get_put_code {u : State} {f : Fld} (hf : f.id < 0x2330000 * 32) : (u.put (Last.CODE (pathNum a.path)) 0).get f = u.get f :=
  State.get_put_ne _ _ (by simp only [Fld.id] at hf ⊢; omega)

/-! #### The mark's period (R158) -/

protected theorem Frame.dropPlanned (h : Frame F s t) {d : Nat} (hF : (Footprint.windows (List.finRange 16)).le F) :
    Frame F s (dropPlanned t d) :=
  h.each _ fun _ _ _ h => h.onWindow (hF.part _ (by simp [Footprint.windows]))

theorem le_foldl_max {β : Type} (f : β → Nat) (l : List β) (n : Nat) :
    n ≤ l.foldl (fun m x => max m (f x)) n ∧ ∀ x ∈ l, f x ≤ l.foldl (fun m x => max m (f x)) n := by
  induction l generalizing n with
  | nil => simp
  | cons y l ih =>
    obtain ⟨hn, hl⟩ := ih (max n (f y))
    rw [List.foldl_cons, List.forall_mem_cons]
    exact ⟨le_trans (le_max_left ..) hn, le_trans (le_max_right ..) hn, hl⟩

/-- The periods for which the combs of mark `c` wait: as many as are staged, two at most (R158). -/
def markWait (s : State) (c : Nat) : Nat :=
  min 2 (((List.range 4).filter (fun d => markComb s d == c)).foldl (fun m d => max m (stagedPeriods s d)) 0)

/-- Each comb of the mark drops what is planned for it and waits. -/
def markDrops (s : State) (c : Nat) (u : State) : State :=
  u.each ((List.range 4).filter (fun d => markComb s d == c)) fun u d => (dropPlanned u d).put (Comb.PERWAIT d) (markWait s c)

theorem mem_markCombs {d : Fin 4} (hd : markComb s d = c) : d.val ∈ (List.range 4).filter (fun d => markComb s d == c.val) :=
  List.mem_filter.mpr ⟨List.mem_range.mpr d.isLt, beq_iff_eq.mpr hd⟩

/-- The wait of a mark covers what each of its combs has staged. -/
theorem le_markWait {d : Fin 4} (hd : markComb s d = c) {q : Fin 16} (hq : q.val / 4 = d.val) :
    min 2 (s.slots[q]).length ≤ markWait s c := by
  have hcomb : stagedPeriods s d ≤ _ := (le_foldl_max (stagedPeriods s) _ 0).2 _ (mem_markCombs hd)
  have hphase := (le_foldl_max (fun p : Fin 16 => (s.slots[p]).length + bitOf (s.get (Ph.NEXT p) == 1)) (combPhases d) 0).2 q
    (mem_combPhases.mpr hq)
  refine min_le_min_left 2 (le_trans (le_trans (Nat.le_add_right _ _) hphase) hcomb)

theorem markDrops_frame {u : State} (h : Frame F s u) (hF : (Footprint.windows (List.finRange 16)).le F)
    (hf : (Footprint.fields ((List.range 4).map Comb.PERWAIT)).le F) {v : State} {n : Nat} : Frame F s (markDrops v n u) :=
  h.each _ fun _ _ hd h => (h.dropPlanned hF).put (hf.field (List.mem_map_of_mem (List.mem_of_mem_filter hd))) _

theorem get_markDrops {u : State} {d : Fin 4} (hd : markComb s d = c) :
    (markDrops s c u).get (Comb.PERWAIT d) = markWait s c := by
  have hlt : markWait s c < 4 := lt_of_le_of_lt (min_le_left 2 _) (by decide)
  have hdrop : ∀ (u : State) (x : Nat), Frame (.windows (List.finRange 16)) u (dropPlanned u x) := fun u x =>
    (Frame.refl _ u).dropPlanned (Footprint.le_refl _)
  have hset : ∀ u : State, ((dropPlanned u d).put (Comb.PERWAIT d) (markWait s c)).get (Comb.PERWAIT d) = markWait s c :=
    fun u => (State.get_put_same ..).trans (Nat.mod_eq_of_lt hlt)
  refine State.each_of_mem (I := fun _ => True) (P := fun u => u.get (Comb.PERWAIT d) = markWait s c) (mem_markCombs hd) trivial
    (fun _ _ _ _ => trivial) (fun u _ => hset u) fun u x hx _ hu => ?_
  by_cases hxd : x = d
  · subst hxd
    exact hset u
  · exact (State.get_put_ne _ _ (by simp only [Fld.id]; omega)).trans (((hdrop u x).fld _ rfl).trans hu)

theorem markComb_touch (s : State) (a : Access) (d : Fin 4) : markComb (touch s a) d = markComb s d := by
  have hstate : (touch s a).get (CMB_GANG.STATE d) = s.get (CMB_GANG.STATE d) := get_touch_of_key s a (by simp only [Fld.id]; omega)
  have hmembers : (touch s a).get (CMB_GANG.MEMBERS d) = s.get (CMB_GANG.MEMBERS d) :=
    get_touch_of_key s a (by simp only [Fld.id]; omega)
  simp only [markComb, State.bit, hstate, hmembers]

theorem slots_touch (s : State) (a : Access) : (touch s a).slots = s.slots := by
  unfold touch
  cases keeperView s a <;> rfl

/-- Dropping what is planned changes neither period. -/
theorem mark_spares : ∀ c : Fin 4, (Footprint.or (.windows (List.finRange 16))
      (.fields ((List.range 4).map Comb.PERWAIT))).fld (CMB_MARK.PER c).id = false
    ∧ (Footprint.or (.windows (List.finRange 16)) (.fields ((List.range 4).map Comb.PERWAIT))).fld (Comb.PER c).id = false := by
  decide

/-- What a write of MARK_PER changes. -/
def markPerFp (a : Access) (c : Fin 4) : Footprint :=
  .any [.fields (CMB_MARK.PER c :: (List.range 4).map Comb.PERWAIT), .windows (List.finRange 16), accessFp a (0x10 + c)]

theorem execMarkPerWrite_next (hs : served s = true) (hk : keeperView s a = true) (hl : s.get (PAGE_LOCK.CFG (0x10 + c)) = 0) :
    ∃ t, exec (.markPerWrite a c w) s = .next t
      ∧ t.get (CMB_MARK.PER c) = (if w.toNat % 131072 = s.get (CMB_MARK.PER c) then s.get (CMB_MARK.PER c)
          else max 6400 (min 128000 (w.toNat % 131072)))
      ∧ t.get (Comb.PER c) = s.get (Comb.PER c)
      ∧ (w.toNat % 131072 ≠ s.get (CMB_MARK.PER c) → ∀ d : Fin 4, markComb s d = c.val → t.get (Comb.PERWAIT d) ≤ 2
          ∧ ∀ q : Fin 16, q.val / 4 = d.val → min 2 (s.slots[q]).length ≤ t.get (Comb.PERWAIT d))
      ∧ Frame (markPerFp a c) s t := by
  let u := touch s a
  let v := if w.toNat % 131072 = s.get (CMB_MARK.PER c) then u
    else markDrops u c (u.put (CMB_MARK.PER c) (max 6400 (min 128000 (w.toNat % 131072))))
  have hper : u.get (CMB_MARK.PER c) = s.get (CMB_MARK.PER c) := get_touch_of_key s a (by simp only [Fld.id]; omega)
  have hexec : exec (.markPerWrite a c w) s = .next (v.put (Last.CODE (pathNum a.path)) 0) := by
    refine congrArg Host.Outcome.next ((regOp_specialWrite _ hs hk (page_lt c) hl).trans ?_)
    show State.put (if fieldOf w.toNat (CMB_MARK.PER c) = u.get (CMB_MARK.PER c) then u else _) _ _ = _
    rw [hper]
    rfl
  have hdrops : ∀ u' : State, Frame (.or (.windows (List.finRange 16)) (.fields ((List.range 4).map Comb.PERWAIT))) u'
      (markDrops u c u') := fun u' =>
    markDrops_frame (Frame.refl _ u') (Footprint.le_or_left _ _) (Footprint.le_or_right _ _)
  refine ⟨_, hexec, ?_, ?_, fun hne d hd => ?_, ?_⟩
  · rw [get_put_code (by simp only [Fld.id]; omega)]
    unfold v
    split
    · exact hper
    · have hmax : max 6400 (min 128000 (w.toNat % 131072)) < 131072 := by omega
      exact ((hdrops _).fld _ (mark_spares c).1).trans ((State.get_put_same ..).trans (Nat.mod_eq_of_lt hmax))
  · rw [get_put_code (by simp only [Fld.id]; omega)]
    have hcomb : u.get (Comb.PER c) = s.get (Comb.PER c) := get_touch s a (by simp only [Fld.id]; omega)
    unfold v
    split
    · exact hcomb
    · exact ((hdrops _).fld _ (mark_spares c).2).trans ((State.get_put_ne _ _ (by simp only [Fld.id]; omega)).trans hcomb)
  · have hd' : markComb u d = c := (markComb_touch s a d).trans hd
    have hwait : (v.put (Last.CODE (pathNum a.path)) 0).get (Comb.PERWAIT d) = markWait u c := by
      rw [get_put_code (by simp only [Fld.id]; omega)]
      unfold v
      rw [if_neg hne]
      exact get_markDrops hd'
    rw [hwait]
    exact ⟨min_le_left 2 _, fun q hq => slots_touch s a ▸ le_markWait hd' hq⟩
  · refine frame_of_regWrite (c := c) (Footprint.le_any (by simp)) fun h => .ite h (markDrops_frame (h.put ?_ _) ?_ ?_)
    · simp [markPerFp]
    · exact Footprint.le_any (by simp)
    · exact Footprint.le_trans (Footprint.fields_le fun f hf => Footprint.mem_fields (List.mem_cons_of_mem _ hf))
        (Footprint.le_any List.mem_cons_self)

/-! #### The model, the depth and the lead (R148, R150) -/

theorem fieldOf_eq (w : Nat) (f : Fld) : fieldOf w f = w / 2 ^ f.lo % 2 ^ f.len := by
  rw [fieldOf, slice, Nat.shiftRight_eq_div_pow]

/-- What a write of PLAN_CTL stores, the depth within its bounds. -/
def planStored (s : State) (c : Fin 4) (w : Nat) : State :=
  (storeFields s w (regLayout (0x10 + c) 0x048)).put (CMB_PLAN_CTL.DEPTH c) (max 4 (min 16 (fieldOf w (CMB_PLAN_CTL.DEPTH c))))

theorem planStored_eq (s : State) (c : Fin 4) (w : Nat) : planStored s c w
    = (((s.put (CMB_PLAN_CTL.MODEL c) (fieldOf w (CMB_PLAN_CTL.MODEL c))).put (CMB_PLAN_CTL.TUPD c)
        (fieldOf w (CMB_PLAN_CTL.TUPD c))).put (CMB_PLAN_CTL.DEPTH c) (fieldOf w (CMB_PLAN_CTL.DEPTH c))).put (CMB_PLAN_CTL.DEPTH c)
        (max 4 (min 16 (fieldOf w (CMB_PLAN_CTL.DEPTH c)))) := by
  have hlayout : regLayout (0x10 + c) 0x048 = [(CMB_PLAN_CTL.MODEL c, .krw), (CMB_PLAN_CTL.TUPD c, .krw),
      (CMB_PLAN_CTL.DEPTH c, .krw)] := by
    simp only [regLayout, pageKind_comb c.isLt, Nat.add_sub_cancel_left]
    rfl
  rw [planStored, hlayout]
  rfl

theorem planStored_frame (h : Frame F s t) {c : Fin 4} {w : Nat}
    (hF : (Footprint.fields [CMB_PLAN_CTL.MODEL c, CMB_PLAN_CTL.DEPTH c, CMB_PLAN_CTL.TUPD c]).le F) :
    Frame F s (planStored t c w) :=
  planStored_eq t c w ▸ (((h.put (hF.field (by simp)) _).put (hF.field (by simp)) _).put (hF.field (by simp)) _).put
    (hF.field (by simp)) _

theorem get_planStored (s : State) (c : Fin 4) (w : Nat) :
    (planStored s c w).get (CMB_PLAN_CTL.MODEL c) = w / 65536 % 256
    ∧ (planStored s c w).get (CMB_PLAN_CTL.DEPTH c) = max 4 (min 16 (w % 32))
    ∧ (planStored s c w).get (CMB_PLAN_CTL.TUPD c) = w / 256 % 256 := by
  have hmodel : fieldOf w (CMB_PLAN_CTL.MODEL c) = w / 65536 % 256 := fieldOf_eq w _
  have htupd : fieldOf w (CMB_PLAN_CTL.TUPD c) = w / 256 % 256 := fieldOf_eq w _
  have hdepth : fieldOf w (CMB_PLAN_CTL.DEPTH c) = w % 32 := rfl
  have hlt : max 4 (min 16 (w % 32)) < 32 := by omega
  rw [planStored_eq, hmodel, htupd, hdepth]
  refine ⟨?_, ?_, ?_⟩
  · rw [State.get_put_ne _ _ (by simp only [Fld.id]; omega), State.get_put_ne _ _ (by simp only [Fld.id]; omega),
      State.get_put_ne _ _ (by simp only [Fld.id]; omega), State.get_put_same]
    exact Nat.mod_mod _ _
  · exact (State.get_put_same ..).trans (Nat.mod_eq_of_lt hlt)
  · rw [State.get_put_ne _ _ (by simp only [Fld.id]; omega), State.get_put_ne _ _ (by simp only [Fld.id]; omega), State.get_put_same]
    exact Nat.mod_mod _ _

theorem gangOf_congr {c : Nat} (hs : t.get (CMB_GANG.STATE c) = s.get (CMB_GANG.STATE c))
    (hm : t.get (CMB_GANG.MEMBERS c) = s.get (CMB_GANG.MEMBERS c)) : gangOf t c = gangOf s c := by
  rw [gangOf, gangOf, hs, hm]

protected theorem Frame.withdrawBeyond (h : Frame F s t) {c : Nat}
    (hF : (Footprint.windows ((gangOf t c).flatMap combPhases)).le F) : Frame F s (withdrawBeyond t c) :=
  h.each _ fun _ _ hp h => h.onWindow (hF.part _ (List.contains_iff_mem.mpr (List.mem_map_of_mem hp)))

/-- The fields of PLAN_CTL and of CTL (R148). -/
def controlFields (c : Nat) : List Fld :=
  [CMB_PLAN_CTL.MODEL c, CMB_PLAN_CTL.DEPTH c, CMB_PLAN_CTL.TUPD c, CMB_CTL.EN c, CMB_CTL.ANT_EN c, CMB_CTL.PDPH c]

/-- Neither a squash nor the check of the model changes what PLAN_CTL and CTL hold, nor does the status code's write. -/
theorem modelFp_spares : ∀ c : Fin 4, ∀ f ∈ controlFields c, f.id < 0x2330000 * 32
    ∧ (Footprint.or (squashFp c) (modelFp c)).fld f.id = false := by
  decide

/-- What PLAN_CTL and CTL hold after the check of a model and the status code's write is what was stored. -/
theorem get_control {u v : State} (h : Frame (.or (squashFp c) (modelFp c)) u v) {f : Fld} (hf : f ∈ controlFields c) :
    (v.put (Last.CODE (pathNum a.path)) 0).get f = u.get f :=
  (get_put_code (modelFp_spares c f hf).1).trans (h.fld f (modelFp_spares c f hf).2)

/-- What a write of PLAN_CTL changes where no check of the model follows. -/
def planCtlFp (s : State) (a : Access) (c : Fin 4) : Footprint :=
  .any [.fields [CMB_PLAN_CTL.MODEL c, CMB_PLAN_CTL.DEPTH c, CMB_PLAN_CTL.TUPD c], .windows ((gangOf s c).flatMap combPhases),
    accessFp a (0x10 + c)]

/-- What a write of PLAN_CTL changes where the check of another model follows. -/
def planModelFp (s : State) (a : Access) (c : Fin 4) : Footprint :=
  .any [.fields [CMB_PLAN_CTL.MODEL c, CMB_PLAN_CTL.DEPTH c, CMB_PLAN_CTL.TUPD c], squashFp c, modelFp c,
    .windows ((gangOf s c).flatMap combPhases), accessFp a (0x10 + c)]

/-- PLAN_CTL stored, and what lies beyond the depth withdrawn. -/
theorem planWithdrawn_frame (h : Frame F s (touch s a))
    (hF : (Footprint.fields [CMB_PLAN_CTL.MODEL c, CMB_PLAN_CTL.DEPTH c, CMB_PLAN_CTL.TUPD c]).le F)
    (hw : (Footprint.windows ((gangOf s c).flatMap combPhases)).le F) {n : Nat} :
    Frame F s (withdrawBeyond (planStored (touch s a) c n) c) := by
  have hgang : gangOf (planStored (touch s a) c n) c = gangOf s c := by
    rw [planStored_eq]
    refine gangOf_congr ?_ ?_
    all_goals
      rw [State.get_put_ne _ _ (by simp only [Fld.id]; omega), State.get_put_ne _ _ (by simp only [Fld.id]; omega),
        State.get_put_ne _ _ (by simp only [Fld.id]; omega), State.get_put_ne _ _ (by simp only [Fld.id]; omega)]
      exact get_touch_of_key s a (by simp only [Fld.id]; omega)
  exact (planStored_frame h hF).withdrawBeyond (hgang ▸ hw)

theorem execModelWrite_next (hs : served s = true) (hk : keeperView s a = true) (hl : s.get (PAGE_LOCK.CFG (0x10 + c)) = 0) :
    ∃ t, exec (.modelWrite a c w) s = .next t ∧ t.get (CMB_PLAN_CTL.MODEL c) = w.toNat / 65536 % 256
      ∧ t.get (CMB_PLAN_CTL.DEPTH c) = max 4 (min 16 (w.toNat % 32)) ∧ t.get (CMB_PLAN_CTL.TUPD c) = w.toNat / 256 % 256
      ∧ ((combLive s c = false ∨ w.toNat / 65536 % 256 = s.get (CMB_PLAN_CTL.MODEL c)) → Frame (planCtlFp s a c) s t)
      ∧ Frame (planModelFp s a c) s t := by
  let stored := planStored (touch s a) c w.toNat
  let checks := combLive s c && w.toNat / 65536 % 256 != s.get (CMB_PLAN_CTL.MODEL c)
  let v := (withdrawBeyond stored c).on checks fun s => modelCheck (squashEvery s c) c
  obtain ⟨hmodel, hdepth, htupd⟩ := get_planStored (touch s a) c w.toNat
  have hexec : exec (.modelWrite a c w) s = .next (v.put (Last.CODE (pathNum a.path)) 0) := by
    refine congrArg Host.Outcome.next ((regOp_specialWrite _ hs hk (page_lt c) hl).trans ?_)
    show State.put ((withdrawBeyond stored c).on (combLive (touch s a) c && stored.get (CMB_PLAN_CTL.MODEL c)
      != (touch s a).get (CMB_PLAN_CTL.MODEL c)) _) _ _ = _
    rw [hmodel, combLive_touch, get_touch_of_key s a (by simp only [Fld.id]; omega)]
  have hcheck : Frame (.or (squashFp c) (modelFp c)) (withdrawBeyond stored c) v := (Frame.refl _ _).on _ fun _ h =>
    modelCheck_frame (h.squashEvery (hF := Footprint.le_or_left _ _) (hc := c.isLt)) (Footprint.le_or_right _ _)
  have hwithdrawn : Frame (.windows ((gangOf stored c).flatMap combPhases)) stored (withdrawBeyond stored c) :=
    (Frame.refl _ stored).withdrawBeyond (Footprint.le_refl _)
  have hkept : ∀ {f}, f ∈ controlFields c → (v.put (Last.CODE (pathNum a.path)) 0).get f = stored.get f := fun {f} hf =>
    (get_control hcheck hf).trans (hwithdrawn.fld f rfl)
  refine ⟨_, hexec, (hkept (by simp [controlFields])).trans hmodel, (hkept (by simp [controlFields])).trans hdepth,
    (hkept (by simp [controlFields])).trans htupd, ?_, ?_⟩
  · intro hidle
    have hno : checks = false := by
      rcases hidle with h | h
      · exact Bool.and_eq_false_iff.mpr (.inl h)
      · exact Bool.and_eq_false_iff.mpr (.inr (by simp [h]))
    refine frame_of_regWrite (c := c) (Footprint.le_any (by simp)) fun h => ?_
    exact (planWithdrawn_frame h (Footprint.le_any (by simp)) (Footprint.le_any (by simp))).on _ fun hyes =>
      absurd hyes (by simp [hno])
  · refine frame_of_regWrite (c := c) (Footprint.le_any (by simp)) fun h => ?_
    have hcheckFp : (modelFp c).le (planModelFp s a c) := Footprint.le_any (by simp)
    have hsquash : (squashFp c).le (planModelFp s a c) := Footprint.le_any (by simp)
    exact (planWithdrawn_frame h (Footprint.le_any (by simp)) (Footprint.le_any (by simp))).on _ fun _ h =>
      modelCheck_frame (h.squashEvery (hF := hsquash) (hc := c.isLt)) hcheckFp

/-! #### The Forager's enable (R149) -/

/-- What a write of CTL stores. -/
def ctlStored (s : State) (c : Fin 4) (w : Nat) : State := storeFields s w (regLayout (0x10 + c) 0x040)

theorem ctlStored_eq (s : State) (c : Fin 4) (w : Nat) : ctlStored s c w = ((s.put (CMB_CTL.PDPH c) (fieldOf w (CMB_CTL.PDPH c))).put
    (CMB_CTL.ANT_EN c) (fieldOf w (CMB_CTL.ANT_EN c))).put (CMB_CTL.EN c) (fieldOf w (CMB_CTL.EN c)) := by
  have hlayout : regLayout (0x10 + c) 0x040 = [(CMB_CTL.PDPH c, .krw), (CMB_CTL.ANT_EN c, .krw), (CMB_CTL.EN c, .krw)] := by
    simp only [regLayout, pageKind_comb c.isLt, Nat.add_sub_cancel_left]
    rfl
  rw [ctlStored, hlayout]
  rfl

theorem ctlStored_frame (h : Frame F s t) {c : Fin 4} {w : Nat}
    (hF : (Footprint.fields [CMB_CTL.EN c, CMB_CTL.ANT_EN c, CMB_CTL.PDPH c]).le F) : Frame F s (ctlStored t c w) :=
  ctlStored_eq t c w ▸ ((h.put (hF.field (by simp)) _).put (hF.field (by simp)) _).put (hF.field (by simp)) _

theorem get_ctlStored (s : State) (c : Fin 4) (w : Nat) : (ctlStored s c w).get (CMB_CTL.EN c) = w % 2
    ∧ (ctlStored s c w).get (CMB_CTL.ANT_EN c) = w / 2 % 2 ∧ (ctlStored s c w).get (CMB_CTL.PDPH c) = w / 1024 % 4 := by
  have hen : fieldOf w (CMB_CTL.EN c) = w % 2 := rfl
  have hant : fieldOf w (CMB_CTL.ANT_EN c) = w / 2 % 2 := fieldOf_eq w _
  have hpdph : fieldOf w (CMB_CTL.PDPH c) = w / 1024 % 4 := fieldOf_eq w _
  rw [ctlStored_eq, hen, hant, hpdph]
  refine ⟨(State.get_put_same ..).trans (Nat.mod_mod _ _), ?_, ?_⟩
  · rw [State.get_put_ne _ _ (by simp only [Fld.id]; omega), State.get_put_same]
    exact Nat.mod_mod _ _
  · rw [State.get_put_ne _ _ (by simp only [Fld.id]; omega), State.get_put_ne _ _ (by simp only [Fld.id]; omega), State.get_put_same]
    exact Nat.mod_mod _ _

/-- What a write of CTL changes where no check of the model follows. -/
def ctlFp (a : Access) (c : Fin 4) : Footprint :=
  .any [.fields [CMB_CTL.EN c, CMB_CTL.ANT_EN c, CMB_CTL.PDPH c], accessFp a (0x10 + c)]

/-- What a write of CTL changes where the check of the model follows. -/
def ctlModelFp (a : Access) (c : Fin 4) : Footprint :=
  .any [.fields [CMB_CTL.EN c, CMB_CTL.ANT_EN c, CMB_CTL.PDPH c], modelFp c, accessFp a (0x10 + c)]

theorem execForagerEnable_next (hs : served s = true) (hk : keeperView s a = true) (hl : s.get (PAGE_LOCK.CFG (0x10 + c)) = 0) :
    ∃ t, exec (.foragerEnable a c w) s = .next t ∧ t.get (CMB_CTL.EN c) = w.toNat % 2
      ∧ t.get (CMB_CTL.ANT_EN c) = w.toNat / 2 % 2 ∧ t.get (CMB_CTL.PDPH c) = w.toNat / 1024 % 4
      ∧ ((combLive s c = false ∨ s.get (CMB_CTL.EN c) = 1) → Frame (ctlFp a c) s t)
      ∧ Frame (ctlModelFp a c) s t := by
  let stored := ctlStored (touch s a) c w.toNat
  let checks := combLive s c && !s.flag (CMB_CTL.EN c) && stored.flag (CMB_CTL.EN c)
  let v := stored.on checks fun s => modelCheck s c
  obtain ⟨hen, hant, hpdph⟩ := get_ctlStored (touch s a) c w.toNat
  have hexec : exec (.foragerEnable a c w) s = .next (v.put (Last.CODE (pathNum a.path)) 0) := by
    refine congrArg Host.Outcome.next ((regOp_specialWrite _ hs hk (page_lt c) hl).trans ?_)
    show State.put (stored.on (combLive (touch s a) c && !(touch s a).flag (CMB_CTL.EN c) && stored.flag (CMB_CTL.EN c)) _) _ _ = _
    rw [combLive_touch, State.flag, get_touch_of_key s a (by simp only [Fld.id]; omega)]
    rfl
  have hcheck : Frame (.or (squashFp c) (modelFp c)) stored v := (Frame.refl _ _).on _ fun _ h =>
    modelCheck_frame h (Footprint.le_or_right _ _)
  have hkept : ∀ {f}, f ∈ controlFields c → (v.put (Last.CODE (pathNum a.path)) 0).get f = stored.get f := get_control hcheck
  refine ⟨_, hexec, (hkept (by simp [controlFields])).trans hen, (hkept (by simp [controlFields])).trans hant,
    (hkept (by simp [controlFields])).trans hpdph, ?_, ?_⟩
  · intro hidle
    have hno : checks = false := by
      rcases hidle with h | h
      · simp [checks, h]
      · simp [checks, State.flag_of_get h]
    exact frame_of_regWrite (c := c) (Footprint.le_any (by simp)) fun h =>
      (ctlStored_frame h (Footprint.le_any (by simp))).on _ fun hyes => absurd hyes (by simp [hno])
  · have hcheckFp : (modelFp c).le (ctlModelFp a c) := Footprint.le_any (by simp)
    exact frame_of_regWrite (c := c) (Footprint.le_any (by simp)) fun h =>
      (ctlStored_frame h (Footprint.le_any (by simp))).on _ fun _ h => modelCheck_frame h hcheckFp

/-! #### A gang asked for (R169) -/

/-- The STATE of every comb's gang. -/
def gangStatesFp : Footprint := .any ((List.range 4).map fun d => .fields [CMB_GANG.STATE d])

theorem gangStatesFp_allows : ∀ d : Fin 4, gangStatesFp.fld (CMB_GANG.STATE d).id = true := by decide

theorem gangStatesFp_spares : ∀ d : Fin 4, gangStatesFp.fld (CMB_GANG.REQ d).id = false := by decide

/-- Where the condition holds, comb `x` goes to state `n`. -/
theorem gangState_frame (h : Frame F s t) {x n : Nat} {b : Bool} (hx : x < 4) (hF : gangStatesFp.le F) :
    Frame F s (t.on b (·.put (CMB_GANG.STATE x) n)) :=
  h.on _ fun _ h => h.put (hF.fld _ (gangStatesFp_allows ⟨x, hx⟩)) n

/-- A comb outside a gang is put in none. -/
theorem gangState_ne_two {u : State} {x d n : Nat} {b : Bool} (hn : n < 2) (h : u.get (CMB_GANG.STATE d) ≠ 2) :
    (u.on b (·.put (CMB_GANG.STATE x) n)).get (CMB_GANG.STATE d) ≠ 2 := by
  cases b with
  | false => exact h
  | true =>
    by_cases hxd : x = d
    · subst hxd
      have hmod : n % 2 ^ (CMB_GANG.STATE x).len = n := Nat.mod_eq_of_lt (Nat.lt_trans hn (show 2 < 4 by decide))
      exact (State.get_put_same ..).trans_ne (hmod.trans_ne (by omega))
    · exact (State.get_put_ne _ _ (by simp only [Fld.id]; omega)).trans_ne h

theorem gangAsked_congr {c : Nat} (hc : c < 4) (h : ∀ d < 4, t.get (CMB_GANG.REQ d) = s.get (CMB_GANG.REQ d)) :
    gangAsked t c = gangAsked s c := by
  have hall : (bitsOf 4 (s.get (CMB_GANG.REQ c))).all (fun d => decide (t.get (CMB_GANG.REQ d) = s.get (CMB_GANG.REQ c)))
      = (bitsOf 4 (s.get (CMB_GANG.REQ c))).all (fun d => decide (s.get (CMB_GANG.REQ d) = s.get (CMB_GANG.REQ c))) := by
    refine Bool.eq_iff_iff.mpr ?_
    simp only [List.all_eq_true, decide_eq_true_eq]
    have hlt : ∀ d ∈ bitsOf 4 (s.get (CMB_GANG.REQ c)), d < 4 := fun d hd => List.mem_range.mp (List.mem_of_mem_filter hd)
    exact ⟨fun ht d hd => (h d (hlt d hd)).symm.trans (ht d hd), fun hs d hd => (h d (hlt d hd)).trans (hs d hd)⟩
  unfold gangAsked
  dsimp only
  rw [h c hc, hall]

/-- Comb `d` asks no more where its request is met no longer. -/
def gangReview (s : State) (d : Nat) : State :=
  s.on (s.get (CMB_GANG.STATE d) == 1 && gangAsked s d == []) (·.put (CMB_GANG.STATE d) 0)

/-- Comb `d`, in no gang, asks for one. -/
def gangAsks (s : State) (d : Nat) : State := s.on (s.get (CMB_GANG.STATE d) != 2) (·.put (CMB_GANG.STATE d) 1)

/-- What a new request leaves of the states of gangs, before those that ask for it do (R169). -/
def gangReviewed (s : State) (c : Nat) : State :=
  (s.on (s.get (CMB_GANG.STATE c) != 2) (·.put (CMB_GANG.STATE c) 0)).each (List.range 4) gangReview

/-- What a new request of comb `c` makes of the states of gangs (R169). -/
def gangRequested (s : State) (c : Nat) : State := (gangReviewed s c).each (gangAsked (gangReviewed s c) c) gangAsks

theorem gangReviewed_frame (h : Frame F s t) (hF : gangStatesFp.le F) : Frame F s (gangReviewed t c) :=
  (gangState_frame h c.isLt hF).each _ fun _ _ hd h => gangState_frame h (List.mem_range.mp hd) hF

theorem gangRequested_frame (h : Frame F s t) (hF : gangStatesFp.le F) : Frame F s (gangRequested t c) :=
  (gangReviewed_frame h hF).each _ fun _ _ hd h => gangState_frame h (lt_of_mem_gangAsked hd) hF

theorem gangAsked_gangRequested (u : State) : gangAsked (gangRequested u c) c = gangAsked (gangReviewed u c) c := by
  have hasks : Frame gangStatesFp (gangReviewed u c) (gangRequested u c) :=
    (Frame.refl _ _).each _ fun _ _ hd h => gangState_frame h (lt_of_mem_gangAsked hd) (Footprint.le_refl _)
  exact gangAsked_congr c.isLt fun d hd => hasks.fld _ (gangStatesFp_spares ⟨d, hd⟩)

/-- Every comb in no gang that asks as comb `c` does is shown to ask. -/
theorem get_gangRequested {u : State} {d : Nat} (hd : d ∈ gangAsked (gangRequested u c) c)
    (hu : u.get (CMB_GANG.STATE d) ≠ 2) : (gangRequested u c).get (CMB_GANG.STATE d) = 1 := by
  rw [gangAsked_gangRequested] at hd
  have hreviewed : (gangReviewed u c).get (CMB_GANG.STATE d) ≠ 2 :=
    State.each_keeps (I := fun u => u.get (CMB_GANG.STATE d) ≠ 2) (gangState_ne_two (by decide) hu) fun u x _ hu =>
      gangState_ne_two (by decide) hu
  have hset : ∀ u : State, u.get (CMB_GANG.STATE d) ≠ 2 → (gangAsks u d).get (CMB_GANG.STATE d) = 1 := fun u hu => by
    rw [gangAsks, bne_iff_ne.mpr hu]
    exact State.get_put_same ..
  refine State.each_of_mem (I := fun u => u.get (CMB_GANG.STATE d) ≠ 2) (P := fun u => u.get (CMB_GANG.STATE d) = 1) hd hreviewed
    (fun u x _ hu => gangState_ne_two (by decide) hu) hset fun u x _ hne hu => ?_
  by_cases hxd : x = d
  · subst hxd
    exact hset u hne
  · have hx : Frame (.fields [CMB_GANG.STATE x]) u (gangAsks u x) := (Frame.refl _ u).on _ fun _ h => h.put (by simp) 1
    exact (hx.fld _ (by simp [Fld.id]; omega)).trans hu

/-- What a write of GANG changes. -/
def gangReqFp (a : Access) (c : Fin 4) : Footprint :=
  .any (.fields [CMB_GANG.REQ c] :: accessFp a (0x10 + c) :: (List.range 4).map fun d => .fields [CMB_GANG.STATE d])

theorem execGangReq_next (hs : served s = true) (hk : keeperView s a = true) (hl : s.get (PAGE_LOCK.CFG (0x10 + c)) = 0) :
    ∃ t, exec (.gangReq a c w) s = .next t ∧ t.get (CMB_GANG.REQ c) = w.toNat % 16
      ∧ (s.get (CMB_GANG.REQ c) ≠ w.toNat % 16 → ∀ d : Fin 4, d.val ∈ gangAsked t c → s.get (CMB_GANG.STATE d) ≠ 2 →
          t.get (CMB_GANG.STATE d) = 1)
      ∧ Frame (gangReqFp a c) s t := by
  let u := touch s a
  let asked := u.put (CMB_GANG.REQ c) (w.toNat % 16)
  let v := if w.toNat % 16 = s.get (CMB_GANG.REQ c) then u else gangRequested asked c
  have hreq : asked.get (CMB_GANG.REQ c) = w.toNat % 16 := (State.get_put_same ..).trans (Nat.mod_mod _ _)
  have hasked : u.get (CMB_GANG.STATE c) = asked.get (CMB_GANG.STATE c) :=
    (State.get_put_ne _ _ (by simp only [Fld.id]; omega)).symm
  have htouch : ∀ {f : Fld}, f.id < 0x12B0000 * 32 → u.get f = s.get f := get_touch_of_key s a
  have hexec : exec (.gangReq a c w) s = .next (v.put (Last.CODE (pathNum a.path)) 0) := by
    refine congrArg Host.Outcome.next ((regOp_specialWrite _ hs hk (page_lt c) hl).trans ?_)
    rw [hasked]
    show State.put (if asked.get (CMB_GANG.REQ c) = u.get (CMB_GANG.REQ c) then u else gangRequested asked c) _ _ = _
    rw [hreq, htouch (by simp only [Fld.id]; omega)]
  have hstates : Frame gangStatesFp asked (gangRequested asked c) := gangRequested_frame (Frame.refl _ _) (Footprint.le_refl _)
  refine ⟨_, hexec, ?_, fun hne d hd hstate => ?_, ?_⟩
  · rw [get_put_code (by simp only [Fld.id]; omega)]
    unfold v
    split
    next heq => rw [htouch (by simp only [Fld.id]; omega), heq]
    next => exact (hstates.fld _ (gangStatesFp_spares c)).trans hreq
  · have hv : v = gangRequested asked c := if_neg fun e => hne e.symm
    have hcode : gangAsked (v.put (Last.CODE (pathNum a.path)) 0) c = gangAsked v c :=
      gangAsked_congr c.isLt fun d hd => get_put_code (by simp only [Fld.id]; omega)
    rw [hcode, hv] at hd
    rw [get_put_code (by simp only [Fld.id]; omega), hv]
    refine get_gangRequested hd (Eq.trans_ne ?_ hstate)
    exact (State.get_put_ne _ _ (by simp only [Fld.id]; omega)).trans (htouch (by simp only [Fld.id]; omega))
  · refine frame_of_regWrite (c := c) (Footprint.le_any (by simp)) fun h => .ite h (gangRequested_frame (h.put ?_ _) ?_)
    · simp [gangReqFp]
    · exact Footprint.any_le fun G hG => Footprint.le_any (List.mem_cons_of_mem _ (List.mem_cons_of_mem _ hG))

end

/-- Settles O25: the commands of the Forager's registers and of the gangs, one lemma each. -/
theorem foragerRegistersAndGangs : Obligations.ForagerRegistersAndGangs := by
  unfold Obligations.ForagerRegistersAndGangs
  exact fun s a c w => ⟨fun _ => execCoefficientRecompute_next, execCoefficientRecompute_idle, execGangCheck_formed,
    execGangCheck_refused, execGangDissolve_next, execPeek_next s a c, fun hs hk hl =>
    ⟨execMarkPerWrite_next hs hk hl, execModelWrite_next hs hk hl, execForagerEnable_next hs hk hl, execGangReq_next hs hk hl⟩⟩

end Sys2Proof.Machine
end

section
/-! SUPPORT. The resets (R59 to R63): the place of PORT_PD_STAT after a warm reset, under each of the two field names that stand
there. -/

namespace Sys2Proof.Machine

/-! ### A place that two fields name (R283, R310) -/

/-- The page of a PD port holds `PORT_PD_STAT` where the page of another port holds `PORT_WIN_CFG`, so that STATE of the one
and HYST of the other are one number of the field store. -/
theorem windowHysteresis_id_eq_pdState (c : Nat) : (PORT_WIN_CFG.HYST (pdPort c)).id = (PORT_PD_STAT.STATE c).id := by
  simp only [Fld.id, pdPort]
  omega

/-- HYST at a PD port's number: `resetSets` does not list it, and no warm reset keeps its key. -/
theorem windowHysteresis_notMem_resetSets_notKept (c : Fin 4) :
    PORT_WIN_CFG.HYST (pdPort c) ∉ resetSets ∧ keptKey false (PORT_WIN_CFG.HYST (pdPort c)).key = false := by
  revert c
  decide

/-! ### The PD ports at a warm reset (R62) -/

variable {s : State}

/-- STATE 4 reads through the reset value 0x32 of HYST as 0x36. -/
theorem get_resetPd_windowHysteresis (c : Fin 4) : (resetPd s c).get (PORT_WIN_CFG.HYST (pdPort c)) = 0x36 := by
  unfold resetPd
  rw [State.get_put_ne _ _ (by simp only [Fld.id, pdPort]; omega), State.get_put, if_pos (windowHysteresis_id_eq_pdState c)]
  show (4 % 2 ^ 3 ^^^ 0 ^^^ 0x32) % 2 ^ 8 = 0x36
  decide

theorem get_resetPd_windowHysteresis_of_ne {c d : Fin 4} (hdc : d ≠ c) :
    (resetPd s d).get (PORT_WIN_CFG.HYST (pdPort c)) = s.get (PORT_WIN_CFG.HYST (pdPort c)) := by
  have hne : d.val ≠ c.val := Fin.val_ne_of_ne hdc
  unfold resetPd
  repeat rw [State.get_put_ne _ _ (by simp only [Fld.id, pdPort]; omega)]

/-- A warm reset puts every PD port that is not absent into its safe state (R53, R62). -/
theorem get_resetBegin_windowHysteresis {code : Nat} (hwarm : code ≠ 1) {c : Fin 4} (hport : absent s (pdPage c) = false)
    (hpd : absent s (0x60 + c) = false) : (resetBegin s code).get (PORT_WIN_CFG.HYST (pdPort c)) = 0x36 := by
  unfold resetBegin
  refine State.each_of_mem (d := c.val) (I := fun _ => True) (P := fun u => u.get (PORT_WIN_CFG.HYST (pdPort c)) = 0x36)
    ?_ trivial (fun _ _ _ _ => trivial) (fun _ _ => get_resetPd_windowHysteresis c) fun u x hx _ hu => ?_
  · simp [hwarm, hport, hpd]
  · have hlt : x < 4 := List.mem_range.mp (List.mem_of_mem_filter hx)
    by_cases hxc : x = c.val
    · rw [hxc]
      exact get_resetPd_windowHysteresis c
    · exact (get_resetPd_windowHysteresis_of_ne (d := ⟨x, hlt⟩) fun e => hxc (congrArg Fin.val e)).trans hu

/-- No warm reset of a device that has a PD port leaves a `WarmReset`: its clause `cleared` speaks of every `Fld`, hence also of
HYST at the PD port's number, and names only STATE as set there. -/
theorem not_warmReset_resetBegin {u : State} {code code' : Nat} (hwarm : code ≠ 1) {c : Fin 4}
    (hport : absent s (pdPage c) = false) (hpd : absent s (0x60 + c) = false) : ¬ WarmReset u (resetBegin s code) code' := by
  intro h
  obtain ⟨hnotSet, hnotKept⟩ := windowHysteresis_notMem_resetSets_notKept c
  have hcleared := h.cleared (PORT_WIN_CFG.HYST (pdPort c)) (by simp) hnotSet hnotKept
  rw [get_resetBegin_windowHysteresis hwarm hport hpd] at hcleared
  exact absurd hcleared (show ¬ 0x36 = 0x32 % 2 ^ 8 by decide)

/-! ### The assertion of RST_N (R59, R61) -/

/-- What an assertion of RST_N itself writes. -/
def rstNFp : Footprint := .fields [Pin.RST_LOW, Pin.RST_USED, Pin.RST_COUNTED]

/-- RST_N is qualified low, and the assertion has caused nothing yet. -/
def rstNLow (s : State) : State := ((s.put Pin.RST_LOW 1).put Pin.RST_USED 0).put Pin.RST_COUNTED 0

theorem rstNLow_frame (s : State) : Frame rstNFp s (rstNLow s) :=
  (((Frame.refl _ s).put (by decide) 1).put (by decide) 0).put (by decide) 0

/-- The state in which the assertion's reset is triggered. -/
def rstNUsed (s : State) : State := (rstNLow s).put Pin.RST_USED 1

theorem rstNUsed_frame (s : State) : Frame rstNFp s (rstNUsed s) := (rstNLow_frame s).put (by decide) 1

theorem absent_rstNUsed (p : Nat) : absent (rstNUsed s) p = absent s p :=
  congrArg (· != 0) ((rstNUsed_frame s).fld (PAGE_STAT.ABSENT p) (by simp [rstNFp, Footprint.fields, Fld.id]; omega))

theorem triggerReset_eq_resetBegin (h : s.get Boot.HELD = 0) (code : Nat) : triggerReset s code = resetBegin s code := by
  rw [triggerReset, State.flag_of_get_zero h]
  rfl

/-- While ERR_N is released, a qualified assertion that has caused nothing triggers the pin reset. -/
theorem pinReview_rstNLow (hdrive : s.get PINS_ERR.DRIVE = 0) : pinReview (rstNLow s) = triggerReset (rstNUsed s) 3 := by
  have hlow : (rstNLow s).get Pin.RST_LOW = 0 + 1 := by
    rw [rstNLow, State.get_put_ne _ _ (by decide), State.get_put_ne _ _ (by decide), State.get_put_same]
    rfl
  have hused : (rstNLow s).get Pin.RST_USED = 0 := (State.get_put_ne _ _ (by decide)).trans (State.get_put_same ..)
  have hreleased : (rstNLow s).get PINS_ERR.DRIVE = 0 := ((rstNLow_frame s).fld _ (by decide)).trans hdrive
  rw [pinReview, State.flag_of_get hlow, State.flag_of_get_zero hused, State.flag_of_get_zero hreleased]
  rfl

/-- With no reset held and ERR_N released, an assertion of RST_N is the first trigger of a pin reset. -/
theorem execRstNAssert_next (hpor : s.get Boot.POR = 0) (hlow : s.get Pin.RST_LOW = 0) (hdrive : s.get PINS_ERR.DRIVE = 0)
    (hheld : s.get Boot.HELD = 0) : exec .rstNAssert s = .next (resetBegin (rstNUsed s) 3) := by
  have hfree : (rstNUsed s).get Boot.HELD = 0 := ((rstNUsed_frame s).fld _ (by decide)).trans hheld
  have hexec : exec .rstNAssert s = .next (pinReview (rstNLow s)) := by
    show execRstNAssert s = _
    rw [execRstNAssert, State.flag_of_get_zero hpor, State.flag_of_get_zero hlow]
    rfl
  rw [hexec, pinReview_rstNLow hdrive, triggerReset_eq_resetBegin hfree]

/-- Refutes O16: `WarmReset.cleared`, in the clause of RST_N_ASSERT as in those of the other warm resets, claims the reset value
for every `Fld` outside `resetSets`, not for the register's fields alone. The reset state with ERR_N released answers
RST_N_ASSERT with STATE of `PORT_PD_STAT` at 4 on the PD port of comb 0 (R62), and HYST of `PORT_WIN_CFG` at port 11, another
name for that place, then reads 0x36 where its reset value is 0x32. -/
theorem not_resetsClearAndKeep : ¬ Obligations.ResetsClearAndKeep := by
  unfold Obligations.ResetsClearAndKeep
  intro h
  let s := State.reset.put PINS_ERR.DRIVE 0
  obtain ⟨-, -, -, hpin⟩ := h.1 s ⟨.host, false, 0⟩ (by decide)
  obtain ⟨t, hnext, -, -, hwarm⟩ := hpin (by decide) (by decide) (by decide)
  rw [execRstNAssert_next (by decide) (by decide) (by decide) (by decide)] at hnext
  obtain rfl : resetBegin (rstNUsed s) 3 = t := Host.Outcome.next.inj hnext
  exact not_warmReset_resetBegin (c := 0) (by decide) ((absent_rstNUsed _).trans (by decide))
    ((absent_rstNUsed _).trans (by decide)) hwarm

end Sys2Proof.Machine
end

section
/-! SUPPORT. The canonical form of the stores through every move of a command (R74, R81, R82, R357). -/

namespace Sys2Proof.Machine

variable {s t : State}

/-- Numbers of a canonical store moved down by an offset that none of them is below rise strictly still. -/
theorem Sparse.wfFrom_map_sub {α : Type} [DecidableEq α] {d : α} {l : List (Nat × α)} {m k : Nat}
    (hl : ∀ e ∈ l, k ≤ e.1) (h : Sparse.wfFrom d m l = true) :
    Sparse.wfFrom d (m - k) (l.map fun e => (e.1 - k, e.2)) = true := by
  induction l generalizing m with
  | nil => rfl
  | cons e l ih =>
    have he : k ≤ e.1 := hl e (by simp)
    simp only [Sparse.wfFrom, Bool.and_eq_true, decide_eq_true_eq] at h
    obtain ⟨⟨hm, hv⟩, hrest⟩ := h
    have htail := ih (fun x hx => hl x (by simp [hx])) hrest
    rw [Nat.sub_add_comm he] at htail
    simp only [List.map_cons, Sparse.wfFrom, Bool.and_eq_true, decide_eq_true_eq]
    exact ⟨⟨Nat.sub_le_sub_right hm k, hv⟩, htail⟩

/-- A range of a canonical store, its numbers counted from the range's start, is a canonical store. -/
theorem Sparse.wf_range {α : Type} [DecidableEq α] {d : α} {l : List (Nat × α)} (lo hi : Nat) (h : Sparse.wf d l = true) :
    Sparse.wf d ((l.filter fun c => lo ≤ c.1 && c.1 < hi).map fun c => (c.1 - lo, c.2)) = true := by
  have hrange : Sparse.wfFrom d 0 (l.filter fun c => lo ≤ c.1 && c.1 < hi) = true :=
    Sparse.wf_keep (fun a => lo ≤ a && a < hi) l h
  have hlo : ∀ e ∈ l.filter fun c => lo ≤ c.1 && c.1 < hi, lo ≤ e.1 := fun e he => by
    have hin := (List.mem_filter.mp he).2
    simp only [Bool.and_eq_true, decide_eq_true_eq] at hin
    exact hin.1
  have hwf := Sparse.wfFrom_map_sub hlo hrange
  rwa [Nat.zero_sub] at hwf

/-- The retention SRAM restored from its shadow is in canonical form, as the windows are (R74). -/
theorem Memory.wf_restoreRet (h : Memory.wf s = true) (p : Nat → Bool) : Memory.wf { s with
    ret := (s.mem.filter (fun c => 0x6F1000 ≤ c.1 && c.1 < 0x6F2000)).map (fun c => (c.1 - 0x6F1000, c.2)),
    ecc := Sparse.keep p s.ecc } = true := by
  rw [Memory.wf_iff] at *
  obtain ⟨hregs, hmem, -, hecc⟩ := h
  exact ⟨hregs, hmem, Sparse.wf_range 0x6F1000 0x6F2000 hmem, Sparse.wf_keep p s.ecc hecc⟩

/-- Moves keep the canonical form. -/
theorem Evolves.wf (h : Evolves s t) (hs : Memory.wf s = true) : Memory.wf t = true := by
  induction h with
  | refl => exact hs
  | put _ _ ih => exact Memory.wf_put ih _ _
  | mode _ _ ih => exact Memory.wf_put ih _ _
  | setByte _ ih => exact Memory.wf_setByte ih _ _
  | setRetByte _ ih => exact Memory.wf_setRetByte ih _ _
  | setEcc _ ih => exact Memory.wf_setEcc ih _ _
  | keepKeys _ ih => exact Memory.wf_keepKeys ih _
  | clearMem _ ih => exact Memory.wf_clearMem ih _ _
  | restoreRet _ ih => exact Memory.wf_restoreRet ih _
  | requeue _ hu ih => exact Memory.wf_congr hu.regs hu.mem hu.ret hu.ecc ih

/-- Settles O4: a step is made of moves, and every move keeps the canonical form. -/
theorem everyStepKeepsTheCanonicalForm : Obligations.EveryStepKeepsTheCanonicalForm := by
  unfold Obligations.EveryStepKeepsTheCanonicalForm
  intro s t hs hstep
  obtain ⟨l, t', ht', h⟩ := step_answers s
  rw [hstep] at ht'
  cases ht'
  exact h.wf (Memory.wf_withPending hs l)

end Sys2Proof.Machine
end

section
/-! SUPPORT. One idle millisecond (log entry 2): which counters of time move in the always-on domain, which in the timers of 1 ms
and longer, and which in the hive besides (R13, R94, R422). -/

namespace Sys2Proof.Machine

variable {F : Footprint} {s t : State}

/-! ### What moves, by the part of the millisecond -/

/-- The service by the hive sequencer (R425, R432). -/
def serviceFields : List Fld := [WDG_STAT.SERVED, PAGE_IRQ_STAT.EVT 0x09]

/-- The always-on domain's counters beside the time since power-on and the tick of the watchdog (R78, R93, R272). -/
def lockoutFields : List Fld := [Ses.LOCK_T, HIVE_KSESS_STAT.LOCK_REM, Sleep.TIMER] ++ (List.range 48).map PORT_RETRY_STAT.ELAPSED

/-- Everything that moves in the always-on domain beside the time since power-on. -/
def alwaysFields : List Fld := WDG_TICK.TICK :: serviceFields ++ lockoutFields

/-- The seconds of the hive (R344, R356, R398). -/
def secondFields : List Fld := [Dev.MS, Tag.SEC] ++ allocatedPages.map Flt.BURST ++ (List.range 5).map HKC_AGE.AGE

/-- References, insertion delays, absences and responses of PD ports (R29, R226, R264, R300). -/
def delayFields : List Fld := (List.range 2).map Clk.READY_T ++ (List.range 48).map Port.INS_T
  ++ (List.range 8).map Chg.ABSMS ++ (List.range 8).map CHG_RET.ABS_ELAPSED ++ (List.range 4).map PORT_PD_STAT.TRIPS10

/-- The idle time of each path (R94). -/
def idleFields : List Fld := (List.range 4).map Ses.IDLE_T

/-- Substitutions, the transitions of VBUS and the swarm time (R293, R377, R449). -/
def hiveFields : List Fld := [Sw.SLEW, SW_TIME_LO.TIME, SW_TIME_HI.TIME]
  ++ (List.range 4).map Pd.REF ++ (List.range 4).map Pd.RAMP ++ (List.range 4).map Pd.DIS
  ++ (List.range 88).map Ths.SANEMS ++ (List.range 88).map THS_STAT.SANE

/-- A part of a list of fields allows no more than the list. -/
theorem fields_le_of_subset {l m : List Fld} (h : l ⊆ m) (hF : (Footprint.fields m).le F) : (Footprint.fields l).le F :=
  Footprint.fields_le fun _ hf => hF.field (h hf)

section
variable (h : Frame F s t)
include h

protected theorem Frame.hwServe (hF : (Footprint.fields serviceFields).le F) : Frame F s (hwServe t) :=
  .ite ((h.put (hF.field (by simp [serviceFields])) 1).evt (hF.field (by simp [serviceFields])) 2) h

protected theorem Frame.wdgTick (hF : (Footprint.fields (WDG_TICK.TICK :: serviceFields)).le F) : Frame F s (wdgTick t) :=
  .ite h ((h.put (hF.field (by simp)) _).hwServe (fields_le_of_subset (by simp) hF))

protected theorem Frame.tickSecond (hF : (Footprint.fields secondFields).le F) : Frame F s (tickSecond t) :=
  ((h.each _ fun _ p hp h => h.put (hF.field (by simp [secondFields, hp])) 0).put (hF.field (by simp [secondFields])) 0).each _
    fun _ x hx h => h.inc (hF.field (by simp [secondFields, List.mem_range.mp hx]))

end

/-! ### The timers of 1 ms and longer -/

/-- A millisecond in the count of the second (R344, R356). -/
def tickMillisecond (s : State) : State :=
  if s.get Dev.MS = 999 then tickSecond (s.put Dev.MS 0) else s.put Dev.MS (s.get Dev.MS + 1)

/-- A millisecond in the idle times of the sessions (R94). -/
def tickIdle (s : State) : State :=
  s.on (s.flag HIVE_KSESS_CTL.IDLE) (·.each (List.range 4) fun s i => s.inc (Ses.IDLE_T i))

/-- A millisecond in the delays of a state `u`, what they count for being as state `s` shows it (R29, R226, R264, R300). -/
def tickDelays (s u : State) : State :=
  let s2 := u.each ((List.range 2).filter fun i => s.flag (Clk.REF_VALID i))
    (fun s i => s.put (Clk.READY_T i) (min 100 (s.get (Clk.READY_T i) + 1)))
  let s3 := s2.each ((List.range 48).filter (fun n => portKind n == 3 && s.get (PORT_STAT.STATE n) == 1
    && !s.flag (PORT_STAT.INS_DONE n))) (fun s n => s.inc (Port.INS_T n))
  let s4 := s3.each ((List.range 8).filter (fun n => s.flag (Chg.ABS n))) (fun s n =>
    let s' := s.inc (Chg.ABSMS n)
    s'.putSat (CHG_RET.ABS_ELAPSED n) (s'.get (Chg.ABSMS n) / 100))
  s4.each (List.range 4) (fun s c => s.put (PORT_PD_STAT.TRIPS10 c) (pdRecent s c))

theorem tickTimers_eq (s : State) : tickTimers s = tickDelays s (tickIdle (tickMillisecond s)) := rfl

section
variable (h : Frame F s t)
include h

protected theorem Frame.tickMillisecond (hF : (Footprint.fields secondFields).le F) : Frame F s (tickMillisecond t) := by
  have hms : F.fld Dev.MS.id = true := hF.field (by simp [secondFields])
  exact .ite ((h.put hms 0).tickSecond hF) (h.put hms _)

protected theorem Frame.tickIdle (hF : (Footprint.fields idleFields).le F) : Frame F s (tickIdle t) :=
  h.on _ fun _ h => h.each _ fun _ _ hi h => h.inc (hF.field (List.mem_map_of_mem hi))

protected theorem Frame.tickDelays {u : State} (hF : (Footprint.fields delayFields).le F) : Frame F s (tickDelays u t) := by
  unfold tickDelays
  extract_lets s2 s3 s4
  have h2 : Frame F s s2 := h.each _ fun _ _ hi h =>
    h.put (hF.field (by have := List.mem_range.mp (List.mem_of_mem_filter hi); simp [delayFields]; omega)) _
  have h3 : Frame F s s3 := h2.each _ fun _ n hn h =>
    h.inc (hF.field (by simp [delayFields, List.mem_range.mp (List.mem_of_mem_filter hn)]))
  have h4 : Frame F s s4 := h3.each _ fun _ n hn h => by
    have hn : n < 8 := List.mem_range.mp (List.mem_of_mem_filter hn)
    exact (h.inc (hF.field (by simp [delayFields, hn]))).putSat (hF.field (by simp [delayFields, hn])) _
  exact h4.each _ fun _ c hc h => h.put (hF.field (by simp [delayFields, List.mem_range.mp hc])) _

/-! ### The hive and the always-on domain -/

protected theorem Frame.tickSlew {c : Nat} (hc : c < 4) (hF : (Footprint.fields hiveFields).le F) : Frame F s (tickSlew t c) := by
  unfold tickSlew
  extract_lets goal cur d s1
  have h1 : Frame F s s1 := h.on _ fun _ h => h.put (hF.field (by simp [hiveFields, hc])) _
  exact (h1.on _ fun _ h => h.put (hF.field (by simp [hiveFields, hc])) _).on _ fun _ h =>
    h.putB (hF.field (by simp [hiveFields, hc])) _

protected theorem Frame.swTick (hF : (Footprint.fields hiveFields).le F) : Frame F s (swTick t) := by
  unfold swTick
  extract_lets left d
  exact h.on _ fun _ h => ((h.put (hF.field (by simp [hiveFields])) _).put (hF.field (by simp [hiveFields])) _).putI
    (hF.field (by simp [hiveFields])) _

protected theorem Frame.tickHive (hF : (Footprint.fields hiveFields).le F) : Frame F s (tickHive t) := by
  unfold tickHive
  extract_lets s1
  have h1 : Frame F s s1 := h.each _ fun _ k hk h => by
    have hk : k < 88 := List.mem_range.mp (List.mem_of_mem_filter hk)
    exact (h.put (hF.field (by simp [hiveFields, hk])) _).put (hF.field (by simp [hiveFields, hk])) _
  exact (h1.each _ fun _ c hc h => h.tickSlew (List.mem_range.mp hc) hF).swTick hF

protected theorem Frame.tickTimers (hs : (Footprint.fields secondFields).le F) (hi : (Footprint.fields idleFields).le F)
    (hd : (Footprint.fields delayFields).le F) : Frame F s (tickTimers t) :=
  ((h.tickMillisecond hs).tickIdle hi).tickDelays hd

end

/-- The always-on domain before the watchdog's tick: a lockout, the time in hive-sleep and the retry times (R78, R93, R272). -/
def tickLockout (s u : State) : State :=
  let left := s.get Ses.LOCK_T - 1
  let s2 := u.on (s.flag HIVE_KSESS_STAT.LOCKOUT) (fun s =>
    (s.put Ses.LOCK_T left).put HIVE_KSESS_STAT.LOCK_REM (max 1 ((left + 999) / 1000)))
  let s3 := s2.on (s.get Sleep.STATE == 2) (·.inc Sleep.TIMER)
  s3.each ((List.range 48).filter (fun n => s.flag (PORT_RETRY_STAT.RUN n))) (fun s n => s.inc (PORT_RETRY_STAT.ELAPSED n))

theorem tickAlways_eq (s : State) : tickAlways s = wdgTick (tickLockout s (s.wrapInc Dev.TIME)) := rfl

protected theorem Frame.tickLockout (h : Frame F s t) {u : State} (hF : (Footprint.fields lockoutFields).le F) :
    Frame F s (tickLockout u t) := by
  unfold tickLockout
  extract_lets left s2 s3
  have h2 : Frame F s s2 := h.on _ fun _ h =>
    (h.put (hF.field (by simp [lockoutFields])) _).put (hF.field (by simp [lockoutFields])) _
  exact (h2.on _ fun _ h => h.inc (hF.field (by simp [lockoutFields]))).each _ fun _ n hn h =>
    h.inc (hF.field (by simp [lockoutFields, List.mem_range.mp (List.mem_of_mem_filter hn)]))

/-! ### The millisecond -/

/-- Everything that moves in a millisecond after the time since power-on and the tick of the watchdog. -/
def timerFields : List Fld := secondFields ++ idleFields ++ delayFields ++ hiveFields

/-- What follows the always-on domain in a millisecond: nothing while a reset is held or the hive's clock is lost, in hive-sleep the
timers of 1 ms and longer, else those of the hive too (R13, R27, R76). -/
theorem tickMs_eq (s : State) : tickMs s = if (tickAlways s).flag Boot.HELD || (tickAlways s).flag (Clk.LOST 73) then tickAlways s
    else if (tickAlways s).get Sleep.STATE == 2 then tickTimers (tickAlways s) else tickHive (tickTimers (tickAlways s)) := rfl

theorem tickMs_frame_timers (s : State) : Frame (.fields timerFields) (tickAlways s) (tickMs s) := by
  have ht : Frame (.fields timerFields) (tickAlways s) (tickTimers (tickAlways s)) :=
    (Frame.refl _ _).tickTimers (fields_le_of_subset (fun _ hf => by simp [timerFields, hf]) (Footprint.le_refl _))
      (fields_le_of_subset (fun _ hf => by simp [timerFields, hf]) (Footprint.le_refl _))
      (fields_le_of_subset (fun _ hf => by simp [timerFields, hf]) (Footprint.le_refl _))
  rw [tickMs_eq]
  exact .ite (Frame.refl _ _) (.ite ht (ht.tickHive (fields_le_of_subset (fun _ hf => by simp [timerFields, hf]) (Footprint.le_refl _))))

/-- Every counter of a millisecond is one that log entry 2 names. -/
theorem timerFields_le_tickFp : (Footprint.fields timerFields).le tickFp := by
  refine fields_le_of_subset (fun f hf => ?_) (Footprint.le_refl tickFp)
  simp only [timerFields, secondFields, idleFields, delayFields, hiveFields, List.mem_append, List.mem_map, List.mem_flatMap,
    List.mem_cons, List.not_mem_nil, or_false, and_or_left, exists_or] at hf ⊢
  simp only [eq_comm (b := f)] at hf ⊢
  rcases hf with (((((h | h) | h) | h) | h) | ((((h | h) | h) | h) | h)) | (((((h | h | h) | h) | h) | h) | h) | h
  all_goals simp only [h, true_or, or_true]

theorem alwaysFields_le_tickFp : (Footprint.fields alwaysFields).le tickFp := by
  refine fields_le_of_subset (fun f hf => ?_) (Footprint.le_refl tickFp)
  simp only [alwaysFields, serviceFields, lockoutFields, List.mem_append, List.mem_map, List.mem_flatMap, List.mem_cons,
    List.not_mem_nil, or_false, and_or_left, exists_or] at hf ⊢
  simp only [eq_comm (b := f)] at hf ⊢
  rcases hf with (h | h | h) | (h | h | h) | h
  all_goals simp only [h, true_or, or_true]

theorem tickAlways_frame_time (s : State) : Frame (.fields alwaysFields) (s.wrapInc Dev.TIME) (tickAlways s) := by
  rw [tickAlways_eq]
  refine ((Frame.refl _ _).tickLockout (fields_le_of_subset (fun _ hf => by simp [alwaysFields, hf]) (Footprint.le_refl _))).wdgTick
    (fields_le_of_subset (fun _ hf => ?_) (Footprint.le_refl _))
  rcases List.mem_cons.mp hf with rfl | hf <;> simp [alwaysFields, *]

theorem tickAlways_frame (s : State) : Frame tickFp s (tickAlways s) :=
  ((Frame.refl tickFp s).wrapInc (by decide)).trans ((tickAlways_frame_time s).mono alwaysFields_le_tickFp)

theorem tickMs_frame (s : State) : Frame tickFp s (tickMs s) :=
  (tickAlways_frame s).trans ((tickMs_frame_timers s).mono timerFields_le_tickFp)

/-! ### What the counters hold after it -/

/-- An effect for each member of a list without repetition leaves a field as the effect of the one member that writes it does. -/
theorem State.get_each_of_nodup {β : Type} {g : State → β → State} {f : Fld} {d : β} {l : List β} (hl : l.Nodup) (hd : d ∈ l)
    (hother : ∀ u x, x ≠ d → (g u x).get f = u.get f) (hown : ∀ u v : State, u.get f = v.get f → (g u d).get f = (g v d).get f) :
    (s.each l g).get f = (g s d).get f := by
  induction l generalizing s with
  | nil => exact absurd hd (by simp)
  | cons x l ih =>
    obtain ⟨hx, hl⟩ := List.nodup_cons.mp hl
    rw [State.each_cons]
    rcases List.mem_cons.mp hd with rfl | hd
    · exact State.each_keeps (I := fun u => u.get f = (g s d).get f) rfl fun u y hy hu =>
        (hother u y fun e => hx (e ▸ hy)).trans hu
    · exact (ih hl hd).trans (hown _ _ (hother s x fun e => hx (e ▸ hd)))

/-- Every path's idle time counts one, up to its greatest value, while IDLE is not 0 (R94). -/
theorem get_tickIdle (s : State) (i : Fin 4) : (tickIdle s).get (Ses.IDLE_T i) =
    if s.get HIVE_KSESS_CTL.IDLE = 0 then s.get (Ses.IDLE_T i) else min (2 ^ (Ses.IDLE_T i).len - 1) (s.get (Ses.IDLE_T i) + 1) := by
  unfold tickIdle
  split
  next hidle => rw [State.flag_of_get_zero hidle]; rfl
  next hidle =>
    rw [show s.flag HIVE_KSESS_CTL.IDLE = true by simpa [State.flag] using hidle, State.on_true,
      State.get_each_of_nodup List.nodup_range (List.mem_range.mpr i.isLt), State.get_inc]
    · exact fun u x hx => State.get_put_ne _ _ (by simp only [Fld.id]; omega)
    · exact fun u v huv => by rw [State.get_inc, State.get_inc, huv]

theorem get_tickTimers_idle (s : State) (i : Fin 4) :
    (tickTimers s).get (Ses.IDLE_T i) = (tickIdle s).get (Ses.IDLE_T i) := by
  have hsecond : Frame (.fields secondFields) s (tickMillisecond s) := (Frame.refl _ s).tickMillisecond (Footprint.le_refl _)
  have hdelay : Frame (.fields delayFields) (tickIdle (tickMillisecond s)) (tickTimers s) :=
    (Frame.refl _ _).tickDelays (Footprint.le_refl _)
  have hspare : ∀ i : Fin 4, (Footprint.fields delayFields).fld (Ses.IDLE_T i).id = false
      ∧ (Footprint.fields secondFields).fld (Ses.IDLE_T i).id = false := by decide
  rw [hdelay.fld _ (hspare i).1, get_tickIdle, get_tickIdle, hsecond.fld _ (hspare i).2, hsecond.fld _ (by decide)]

/-- The always-on domain leaves every other field. -/
theorem get_tickAlways {f : Fld} (hf : (Footprint.fields alwaysFields).fld f.id = false) (ht : f.id ≠ (Dev.TIME).id) (s : State) :
    (tickAlways s).get f = s.get f :=
  ((tickAlways_frame_time s).fld f hf).trans (State.get_put_ne _ _ ht)

theorem get_tickAlways_idle (s : State) (i : Fin 4) : (tickAlways s).get (Ses.IDLE_T i) = s.get (Ses.IDLE_T i) := by
  have hspare : ∀ i : Fin 4, (Footprint.fields alwaysFields).fld (Ses.IDLE_T i).id = false := by decide
  exact get_tickAlways (hspare i) (by simp only [Fld.id]; omega) s

/-- IDLE is as before the always-on domain's part, and so is what it stops. -/
theorem get_tickIdle_tickAlways (s : State) (i : Fin 4) :
    (tickIdle (tickAlways s)).get (Ses.IDLE_T i) = (tickIdle s).get (Ses.IDLE_T i) := by
  rw [get_tickIdle, get_tickIdle, get_tickAlways_idle, get_tickAlways (by decide) (by decide)]

/-- The idle times after a millisecond: those of the sessions' count where the hive's timers run, else as before (R13, R27, R94). -/
theorem get_tickMs_idle (s : State) (i : Fin 4) : (tickMs s).get (Ses.IDLE_T i) =
    if s.flag Boot.HELD || s.flag (Clk.LOST 73) then s.get (Ses.IDLE_T i) else (tickIdle s).get (Ses.IDLE_T i) := by
  have hspare : ∀ i : Fin 4, (Footprint.fields hiveFields).fld (Ses.IDLE_T i).id = false := by decide
  have hhive : Frame (.fields hiveFields) (tickTimers (tickAlways s)) (tickHive (tickTimers (tickAlways s))) :=
    (Frame.refl _ _).tickHive (Footprint.le_refl _)
  have hheld : (tickAlways s).flag Boot.HELD = s.flag Boot.HELD := congrArg (· != 0) (get_tickAlways (by decide) (by decide) s)
  have hlost : (tickAlways s).flag (Clk.LOST 73) = s.flag (Clk.LOST 73) :=
    congrArg (· != 0) (get_tickAlways (by decide) (by decide) s)
  rw [tickMs_eq, hheld, hlost]
  split
  · exact get_tickAlways_idle s i
  · split
    · rw [get_tickTimers_idle, get_tickIdle_tickAlways]
    · rw [hhive.fld _ (hspare i), get_tickTimers_idle, get_tickIdle_tickAlways]

theorem get_tickMs_time (s : State) : (tickMs s).get Dev.TIME = (s.get Dev.TIME + 1) % 2 ^ (Dev.TIME).len := by
  rw [(tickMs_frame_timers s).fld _ (by decide), (tickAlways_frame_time s).fld _ (by decide), State.wrapInc, State.get_put_same]

/-- Outside a held reset the watchdog's tick counts one, up to CLOSE (R422). -/
theorem get_tickMs_tick (s : State) (hheld : s.get Boot.HELD = 0) :
    (tickMs s).get WDG_TICK.TICK = min (s.get WDG_TICK.TICK + 1) (s.get Wdg.CLOSE) := by
  let u := tickLockout s (s.wrapInc Dev.TIME)
  have hu : Frame (.fields (Dev.TIME :: lockoutFields)) s u := ((Frame.refl _ s).wrapInc (by decide)).tickLockout
    (fields_le_of_subset (by simp) (Footprint.le_refl _))
  have hclose : s.get Wdg.CLOSE < 2 ^ 16 := State.get_lt s Wdg.CLOSE
  have hserved : Frame (.fields serviceFields) (u.put WDG_TICK.TICK (min (u.get WDG_TICK.TICK + 1) (u.get Wdg.CLOSE))) (wdgTick u) := by
    rw [wdgTick, State.flag_of_get_zero ((hu.fld _ (by decide)).trans hheld)]
    exact (Frame.refl _ _).hwServe (Footprint.le_refl _)
  rw [(tickMs_frame_timers s).fld _ (by decide), tickAlways_eq, hserved.fld _ (by decide), State.get_put_same,
    hu.fld _ (by decide), hu.fld _ (by decide)]
  exact Nat.mod_eq_of_lt (lt_of_le_of_lt (min_le_right _ _) hclose)

/-! ### The step -/

/-- Under power-on reset an idle millisecond does nothing (log entry 2). -/
theorem tick_of_por (h : s.get Boot.POR = 1) : tick s = s := by
  rw [tick, State.flag_of_get h]
  rfl

/-- Outside hive-sleep entry an idle step is the millisecond alone (log entries 2 and 15). -/
theorem tick_of_awake (hpor : s.get Boot.POR = 0) (hsleep : s.get Sleep.STATE ≠ 1) : tick s = tickMs s := by
  have hstep : sleepStep s = s := by simp [sleepStep, hsleep]
  simp [tick, State.flag_of_get_zero hpor, hsleep, hstep]

/-- Settles O7: the step is the millisecond's tick, whose counters one lemma each gives. -/
theorem idleMillisecond : Obligations.IdleMillisecond := by
  unfold Obligations.IdleMillisecond
  intro s hempty hsleep
  refine ⟨tick s, step_empty hempty, ?_⟩
  by_cases hpor : s.get Boot.POR = 0
  · rw [tick_of_awake hpor hsleep]
    refine ⟨tickMs_frame s, fun h => absurd (hpor.symm.trans h) (by decide), fun _ => ⟨get_tickMs_time s, get_tickMs_tick s⟩,
      fun _ hheld hclock hidle i => ?_, fun hidle i => ?_⟩
    · rw [get_tickMs_idle, State.flag_of_get_zero hheld, State.flag_of_get_zero hclock, get_tickIdle, if_neg hidle]
      rfl
    · rw [get_tickMs_idle, get_tickIdle, if_pos hidle, ite_self]
  · have hone : s.get Boot.POR = 1 := by
      have hlt : s.get Boot.POR < 2 := State.get_lt s Boot.POR
      omega
    rw [tick_of_por hone]
    exact ⟨Frame.refl _ s, fun _ => Frame.refl _ s, fun h => absurd h hpor, fun h => absurd h hpor, fun _ _ => rfl⟩

end Sys2Proof.Machine
end


section
/-! SUPPORT. O39 refuted: an injection that is armed for window writes (MEM_INJ at 0) is taken by the fault-log record of
CE_BURST, which the end of a scrubber pass raises (R359, R360, R384). -/

open Sys2Proof Sys2Proof.Machine

namespace Sys2Proof.Machine

/-- The state after a command is the next state that it answers. -/
theorem after_of_next {c : Instr} {s t : State} (h : exec c s = .next t) : Tests.after c s = t := by
  rw [Tests.after, h]

/-- The SRAM scrubber runs and stands before the last word of its pass with 16 corrections counted, and the injection of the
window writes is armed for the first word of the fault log. -/
def burstPassEnd : State :=
  Tests.fieldsAt [(Boot.STEP, 3), (Boot.PLL, 1), (MEM_SCRUB_POS.POS 0, 524287), (Mem.PASS_CE 0, 16), (MEM_INJ.ARM 0, 1),
    (MEM_INJ.MASK 0, 1), (MEM_INJ_ADDR.ADDR 0, 0x580000)]

/-- The last word of the pass is corrected as the seventeenth, so the pass ends in CE_BURST; the word of its fault-log record
takes the injection. -/
theorem ecc_after_sramScrub_burstPassEnd : (Tests.after (.sramScrub 1) burstPassEnd).ecc = [(0x580000 / 8, 1)] := by
  decide +kernel

/-- Refutes O39: with every word in order, SRAM_SCRUB with one wrong bit is claimed to leave every word in order, but only the
injection at 1 is taken to be disarmed. `burstPassEnd` has the one at 0 armed, and the record of CE_BURST takes it. -/
theorem not_memoryIntegrity : ¬ Obligations.MemoryIntegrity := by
  unfold Obligations.MemoryIntegrity
  intro h
  obtain ⟨-, hscrub, -⟩ := h burstPassEnd ⟨.host, true, 0⟩ 1 0 0 0 (by decide +kernel) (by decide +kernel) (by decide +kernel)
  obtain ⟨t, hnext, -, ⟨-, hcorrected, -⟩, -⟩ := hscrub (by decide +kernel)
  obtain ⟨-, -, hecc⟩ := hcorrected (by decide +kernel) (by decide)
  rw [← after_of_next hnext, ecc_after_sramScrub_burstPassEnd] at hecc
  exact absurd hecc (by decide)

end Sys2Proof.Machine
end


section
/-! SUPPORT. O18 refuted: the claim that CORE_FAIL refuses in START-UP gives way to a claim made after the window, which acts
as a hand-over at the entry to SAFE-BOOT and drives CORE_EN high again (R58, R69, R70; log entry 14). -/

open Sys2Proof Sys2Proof.Machine

namespace Sys2Proof.Machine

/-- A claim of START-UP waits for VDDC past the end of its window, and a second claim has been noted as late since. -/
def lateClaimWaits : State :=
  Tests.fieldsAt [(Boot.CLAIM, 1), (Boot.RELEASE, 1), (Boot.WINDOW, 1), (HIVE_BOOT_STAT.LATE_CLAIM, 1)]

/-- The refused claim ends in SAFE-BOOT, where the late one is the hand-over: CORE_EN is high. -/
theorem coreEn_after_coreFail_lateClaimWaits : (Tests.after .coreFail lateClaimWaits).get Pin.CORE_EN = 1 := by
  decide +kernel

/-- Refutes O18: CORE_FAIL is claimed to leave CORE_EN low in every mode; from `lateClaimWaits` the late claim of the entry to
SAFE-BOOT leaves it high. -/
theorem not_claimSleepAndWake : ¬ Obligations.ClaimSleepAndWake := by
  unfold Obligations.ClaimSleepAndWake
  intro h
  obtain ⟨-, -, -, hfail⟩ := h.1 lateClaimWaits ⟨.host, true, 0⟩
  obtain ⟨t, hnext, hlow, -⟩ := hfail (by decide) (by decide) (by decide)
  rw [← after_of_next hnext, coreEn_after_coreFail_lateClaimWaits] at hlow
  exact absurd hlow (by decide)

end Sys2Proof.Machine
end


section
/-! SUPPORT. O17 refuted: in SAFE-BOOT a reaction timer that runs has expired, and the withdrawal of a converter that it puts
in force gives the lane to whatever number SPARE holds, also to one that no converter has (R335, R386). -/

open Sys2Proof Sys2Proof.Machine

namespace Sys2Proof.Machine

/-- Step 5 of START-UP with no claim, the reaction timer of a class 3 fault of converter 0 running, and 5 in SPARE: a value
that the field can hold, though there are five converters, 0 to 4. -/
def withdrawalPends : State :=
  Tests.fieldsAt [(Boot.STEP, 5), (HKS_STAT.SPARE, 5), (Flt.TIMER 0x69, 4), (Flt.STAND 0x69 0, 3)]

theorem role_withdrawalPends : withdrawalPends.get (HKC_STAT.ROLE 5) = 5 := by decide

/-- The entry to SAFE-BOOT withdraws converter 0, and "converter 5" takes lane 0. -/
theorem role_after_claimWindowEnd_withdrawalPends :
    (Tests.after .claimWindowEnd withdrawalPends).get (HKC_STAT.ROLE 5) = 0 := by
  decide +kernel

/-- The footprint of CLAIM_WINDOW_END names the roles of the five converters only. -/
theorem claimWindowEndFp_role_five :
    (Footprint.any [.fields [Boot.WINDOW], enterSafeFp]).fld (HKC_STAT.ROLE 5).id = false := by
  decide +kernel

/-- Refutes O17: the frame of CLAIM_WINDOW_END holds the roles of converters 0 to 4 against the entry to SAFE-BOOT, and the
place after them is written from `withdrawalPends`. -/
theorem not_startUpSteps : ¬ Obligations.StartUpSteps := by
  unfold Obligations.StartUpSteps
  intro h
  obtain ⟨-, -, -, -, hend, -⟩ := h withdrawalPends 0 0 0 (by decide)
  obtain ⟨t, hnext, -, -, -, hframe⟩ := hend (by decide)
  have hrole := hframe.fld (HKC_STAT.ROLE 5) claimWindowEndFp_role_five
  rw [← after_of_next hnext, role_after_claimWindowEnd_withdrawalPends, role_withdrawalPends] at hrole
  exact absurd hrole (by decide)

end Sys2Proof.Machine
end


section
/-! SUPPORT. O56 refuted: a RESET frame that is performed (R59, R456) triggers the reset of `not_warmReset_resetBegin`. -/

open Sys2Proof Sys2Proof.Machine

namespace Sys2Proof.Machine

variable {s : State} {f : SwFrame}

/-- A RESET frame for this device, whole and of its length, that comes from the node bound in an open Keeper session with the
payload of R59, triggers the reset. -/
theorem execResetFrame_next (hon : swOn s (bitOf f.west) = true) (hbcast : f.bcast = false) (hown : isOwn s f.dst = true)
    (hcrc : f.crc.toNat
      = crc32 (frameBytes 6 f.keeper f.bcast f.dst.toNat f.src.toNat f.ttl.toNat f.seq.toNat f.payload))
    (hlength : f.payload.length = 4) (hkeeper : f.keeper = true) (hpayload : field f.payload 0 2 = 0x5E7A)
    (hopen : sessionOpen (s.put (swLock (bitOf f.west)) 1) .swarm f.src = true) :
    exec (.resetFrame f) s = .next (triggerReset (s.put (swLock (bitOf f.west)) 1) 6) := by
  show execResetFrame f s = _
  unfold execResetFrame receive
  rw [if_neg (by simp [hon]), if_pos hcrc, if_neg (by simp [hlength]), if_neg (by simp [hbcast]),
    if_pos (by simp [hbcast, hown])]
  exact congrArg Host.Outcome.next (if_pos (by simp [hkeeper, hpayload, hopen]))

/-- The Swarm is served at address 0 of segment 0, and node 3 holds the Keeper session of the Swarm path. -/
def nodeThreeBound : State :=
  Tests.fieldsAt [(SW_ADDR.VALID, 1), (Boot.PLL, 1), (Ses.CODE 3, 1), (Ses.NODE, 3)]

/-- The head of a frame of node 3 in the Keeper view; the statement supplies the rest of it. -/
def fromNodeThree : SwFrame := ⟨false, true, false, 0, 3, 0, 0, [], 0, false⟩

/-- Refutes O56: its clause of the RESET frame concludes `WarmReset`, which no warm reset meets while a PD port is present
(`not_warmReset_resetBegin`), and `nodeThreeBound` performs the RESET frame of node 3. -/
theorem not_remoteAccess : ¬ Obligations.RemoteAccess := by
  unfold Obligations.RemoteAccess
  intro h
  obtain ⟨hserved, -⟩ := h.1 nodeThreeBound ⟨.host, true, 0⟩ fromNodeThree 0 0 0
  obtain ⟨-, -, -, hreset, -⟩ := hserved (by decide +kernel) (by decide)
  obtain ⟨t, hnext, hwarm⟩ := hreset rfl (by decide +kernel)
  rw [execResetFrame_next (by decide +kernel) rfl (by decide +kernel) (by decide +kernel) rfl rfl (by decide +kernel)
    (by decide +kernel), triggerReset_eq_resetBegin (by decide +kernel)] at hnext
  obtain rfl := Host.Outcome.next.inj hnext
  exact not_warmReset_resetBegin (c := 0) (by decide) (by decide +kernel) (by decide +kernel) hwarm

end Sys2Proof.Machine
end

section
/-! SUPPORT. What every register access on a served path leaves (R88, R94, R111), and what a raise in a page without class
actions of its own leaves (R384 to R390). -/

namespace Sys2Proof.Machine

variable {F : Footprint} {s t : State}

/-! ### Flags and counters -/

theorem State.get_eq_one_of_flag {f : Fld} (hf : f.len = 1) (h : s.flag f = true) : s.get f = 1 := by
  rw [State.get_eq_bitOf_flag hf, h]
  rfl

theorem State.get_eq_zero_of_flag {f : Fld} (h : s.flag f = false) : s.get f = 0 := by simpa [State.flag] using h

theorem State.flag_congr {f : Fld} (h : t.get f = s.get f) : t.flag f = s.flag f := by rw [State.flag, State.flag, h]

/-! ### The access itself (R88, R94, R111) -/

/-- A register access on a served path is its effect, judged at the view of its start, and its status code. -/
theorem regOp_served {a : Access} {g : State → Bool → Res} (hs : served s = true) : regOp s a g
    = (g (touch s a) (keeperView s a)).1.put (Last.CODE (pathNum a.path)) (g (touch s a) (keeperView s a)).2 := by
  rw [regOp, if_pos hs]

/-- The status code that an access earned. -/
theorem get_put_code_same (u : State) (i : Fin 4) {n : Nat} (hn : n < 16) : (u.put (Last.CODE i) n).get (Last.CODE i) = n :=
  (State.get_put_same ..).trans (Nat.mod_eq_of_lt hn)

/-- The status code leaves every field of a lower key. -/
theorem get_put_code_ne (u : State) (i : Fin 4) (n : Nat) {f : Fld} (hf : f.id < 0x2330000 * 32) :
    (u.put (Last.CODE i) n).get f = u.get f :=
  State.get_put_ne _ _ (by simp only [Fld.id] at hf ⊢; omega)

/-- The start of an access, in a command that may change what an access leaves. -/
theorem touch_frame_le {a : Access} {p : Nat} (hF : (accessFp a p).le F) : Frame F s (touch s a) := (touch_frame a p).mono hF

/-- The status code, in a command that may change what an access leaves. -/
theorem Frame.putCode (h : Frame F s t) {a : Access} {p : Nat} (hF : (accessFp a p).le F) (n : Nat) :
    Frame F s (t.put (Last.CODE (pathNum a.path)) n) := h.put (hF.field (by simp)) n

/-- The report of a refusal, in a command that may change what an access leaves. -/
protected theorem Frame.refusal (h : Frame F s t) {a : Access} {p : Nat} (hF : (accessFp a p).le F) (code : Nat) :
    Frame F s (refusal t p code) := by
  unfold Machine.refusal
  exact .ite h ((h.put (hF.field (by simp)) _).put (hF.field (by simp)) _)

/-! ### Raises in a page without class actions of its own (R384 to R390) -/

/-- Nothing that follows the record of a raise clears its bit of CAUSE, where the page has no class action of its own. -/
theorem testBit_cause_raiseEvent_passive {p i : Nat} (hi : i < 16) (hm : muted s p = false) (hk : pageKind p ≠ some 0x20)
    (ha : ∀ u k e, actionEffect u p k i e = u) (hb : (besideCauseFp p).fld (PAGE_FLT_STAT.CAUSE p).id = false)
    (ht : (Footprint.or (.fields [PAGE_FLT_STAT.ACTED p]) logFp).fld (PAGE_FLT_STAT.CAUSE p).id = false) :
    ((raiseEvent s p i).get (PAGE_FLT_STAT.CAUSE p)).testBit i = true := by
  let c : Cause := { page := p, bit := i, cls := (causeClass p i).getD 1 }
  have hrec : ((recordRaise s c).get (PAGE_FLT_STAT.CAUSE p)).testBit i = true := testBit_cause_recordRaise c hi hb
  have hraise : raiseEvent s p i = if raiseActs s c (raiseClass s c) then takeAction (recordRaise s c) p (raiseClass s c)
      else recordRaise s c := by
    simp only [raiseEvent, raiseFault, hm, ha]
    rfl
  have htake := takeAction_frame (Frame.refl (.or (.fields [PAGE_FLT_STAT.ACTED p]) logFp) (recordRaise s c))
    (p := p) (n := raiseClass s c) ((Footprint.le_or_left _ _).field (by simp)) (Footprint.le_or_right _ _)
    (fun hp => absurd hp hk)
  rw [hraise]
  split
  · rw [htake.fld _ ht]
    exact hrec
  · exact hrec

/-! ### The word of a register as an access may write it (R9, R87, R90) -/

theorem testBit_fieldOf (w : Nat) (f : Fld) (i : Nat) : (fieldOf w f).testBit i = (decide (i < f.len) && w.testBit (f.lo + i)) := by
  rw [fieldOf, slice, Nat.testBit_mod_two_pow, Nat.testBit_shiftRight]

/-- A field placed in a word is read there. -/
theorem fieldOf_withField_same (w v : Nat) (f : Fld) : fieldOf (withField w f v) f = v % 2 ^ f.len := by
  refine Nat.eq_of_testBit_eq fun i => ?_
  rw [testBit_fieldOf, testBit_withField, Nat.testBit_mod_two_pow]
  by_cases hi : i < f.len
  · rw [if_pos ⟨by omega, by omega⟩, Nat.add_sub_cancel_left]
  · simp [hi]

/-- A field placed in a word leaves every field beside it. -/
theorem fieldOf_withField_ne (w v : Nat) {f g : Fld} (h : g.lo + g.len ≤ f.lo ∨ f.lo + f.len ≤ g.lo) :
    fieldOf (withField w f v) g = fieldOf w g := by
  refine Nat.eq_of_testBit_eq fun i => ?_
  rw [testBit_fieldOf, testBit_fieldOf, testBit_withField]
  by_cases hi : i < g.len
  · rw [if_neg (by omega)]
  · simp [hi]

/-- Why an access may not change a KRW field of page `p`; 0 where it may. -/
def keeperCode (s : State) (k : Bool) (p : Nat) : Nat := fieldCode s k false p .krw

theorem keeperCode_of_keeper {p : Nat} (hl : s.get (PAGE_LOCK.CFG p) = 0) : keeperCode s true p = 0 := by
  simp [keeperCode, fieldCode, State.flag_of_get_zero hl]

theorem keeperCode_of_refused {k : Bool} {p : Nat} (h : k = false ∨ s.get (PAGE_LOCK.CFG p) = 1) :
    keeperCode s k p = if k then 2 else 1 := by
  cases k with
  | false => rfl
  | true => simp [keeperCode, fieldCode, State.flag_of_get (h.resolve_left (by decide))]

theorem codeOf_zero (n : Nat) : codeOf n 0 = n := by
  unfold codeOf
  split
  next h => exact h.symm
  next => exact if_pos rfl

/-- The access would change the KRW field `f` and may not. -/
def refusesWord (s : State) (k : Bool) (p : Nat) (f : Fld) (w : Nat) : Bool := keeperCode s k p != 0 && fieldOf w f != s.get f

/-- The word that takes effect in a register whose only KRW field is `f`. -/
def wordKept (s : State) (k : Bool) (p : Nat) (f : Fld) (w : Nat) : Nat :=
  if refusesWord s k p f w then withField w f (s.get f) else w

/-- The status code of a write of that register. -/
def codeKept (s : State) (k : Bool) (p : Nat) (f : Fld) (w : Nat) : Nat :=
  if refusesWord s k p f w then keeperCode s k p else 0

section
variable {k : Bool} {p w : Nat} {f g : Fld}

/-- Of a register with one KRW field and one that any access may write, the first alone can be refused. -/
theorem judge_krw_head {ty : Ty} (hty : ty = .rw ∨ ty = .wo) :
    judge s k false p [(f, .krw), (g, ty)] w = (wordKept s k p f w, codeKept s k p f w) := by
  have hfree : fieldCode s k false p ty = 0 := by rcases hty with rfl | rfl <;> rfl
  have htail : judge s k false p [(g, ty)] w = (w, 0) := by simp [judge, hfree]
  have hcode : codeOf (keeperCode s k p) 0 = keeperCode s k p := codeOf_zero _
  rw [judge, htail]
  show (if keeperCode s k p ≠ 0 ∧ fieldOf w f ≠ s.get f then (withField w f (s.get f), codeOf (keeperCode s k p) 0) else (w, 0)) = _
  rw [wordKept, codeKept, refusesWord, hcode]
  by_cases hc : keeperCode s k p = 0
  · simp [hc]
  · by_cases hw : fieldOf w f = s.get f <;> simp [hc, hw]

theorem fieldOf_wordKept_head : fieldOf (wordKept s k p f w) f = if keeperCode s k p = 0 then fieldOf w f else s.get f := by
  unfold wordKept refusesWord
  by_cases hc : keeperCode s k p = 0
  · simp [hc]
  · by_cases hw : fieldOf w f = s.get f
    · simp [hc, hw]
    · simp only [bne_iff_ne.mpr hc, bne_iff_ne.mpr hw, Bool.and_self, if_true, fieldOf_withField_same, if_neg hc]
      exact Nat.mod_eq_of_lt (State.get_lt s f)

theorem fieldOf_wordKept_ne (h : g.lo + g.len ≤ f.lo ∨ f.lo + f.len ≤ g.lo) :
    fieldOf (wordKept s k p f w) g = fieldOf w g := by
  unfold wordKept
  split
  · exact fieldOf_withField_ne w _ h
  · rfl

/-- A write of that register: its effect with the word that takes effect, and the report of a refusal. -/
theorem specialRes_krw_head {off : Nat} {ty : Ty} {e : State → Nat → Res} (hlayout : regLayout p off = [(f, .krw), (g, ty)])
    (hty : ty = .rw ∨ ty = .wo) : specialRes s k p off w false e
      = (refusal (e s (wordKept s k p f w)).1 p (codeOf (codeKept s k p f w) (e s (wordKept s k p f w)).2),
         codeOf (codeKept s k p f w) (e s (wordKept s k p f w)).2) := by
  unfold specialRes
  rw [hlayout, judge_krw_head hty]

theorem specialWrite_krw_head {off : Nat} {ty : Ty} {e : State → Nat → State} (hlayout : regLayout p off = [(f, .krw), (g, ty)])
    (hty : ty = .rw ∨ ty = .wo) : specialWrite s k p off w false e
      = (refusal (e s (wordKept s k p f w)) p (codeKept s k p f w), codeKept s k p f w) := by
  rw [specialWrite, specialRes_krw_head hlayout hty, codeOf_zero]

end

/-- The report of a refusal changes REFUSED and REFUSE_WHY of its page alone. -/
theorem get_refusal {p code : Nat} {f : Fld} (hr : f.id ≠ (PAGE_STAT.REFUSED p).id) (hw : f.id ≠ (PAGE_STAT.REFUSE_WHY p).id) :
    (refusal s p code).get f = s.get f := by
  unfold refusal
  split
  · rfl
  · exact (State.get_put_ne _ _ hw).trans (State.get_put_ne _ _ hr)

theorem get_refusal_internal {p code : Nat} (hp : p < 256) {f : Fld} (hf : 0x1000000 * 32 ≤ f.id) :
    (refusal s p code).get f = s.get f :=
  get_refusal (by simp only [Fld.id] at hf ⊢; omega) (by simp only [Fld.id] at hf ⊢; omega)

/-- A refusal is reported in its page (R90); one for an unmapped page as PRIVILEGE (R111). -/
theorem get_refusal_same (s : State) (p : Nat) {code : Nat} (h : code ≠ 0) :
    (refusal s p code).get (PAGE_STAT.REFUSED p) = 1
    ∧ (refusal s p code).get (PAGE_STAT.REFUSE_WHY p) = (if code = 4 then 1 else code) % 4 := by
  rw [refusal, if_neg h]
  exact ⟨(State.get_put_ne _ _ (by simp only [Fld.id]; omega)).trans (State.get_put_same ..), State.get_put_same ..⟩

end Sys2Proof.Machine
end

section
/-! SUPPORT. Keeper sessions by pin and by code, failed attempts and the lockout (R92 to R95): what each command answers, by its
own lemma. -/

namespace Sys2Proof.Machine

variable {F : Footprint} {s t : State}

/-! ### The sessions shown (R92, R95) -/

/-- What the HIVE page shows of the sessions. -/
def shownFp : Footprint := .fields [HIVE_KSESS_STAT.OPEN, HIVE_KSESS_STAT.PIN]

theorem sessionShow_frame (h : Frame F s t) (hF : shownFp.le F) : Frame F s (sessionShow t) :=
  (h.put (hF.field (by simp)) _).put (hF.field (by simp)) _

/-- The fields that show the sessions are the only ones that follow them. -/
theorem get_sessionShow {f : Fld} (hf : shownFp.fld f.id = false) : (sessionShow s).get f = s.get f :=
  (sessionShow_frame (Frame.refl _ s) (Footprint.le_refl _)).fld f hf

theorem get_pin_sessionShow (s : State) : (sessionShow s).get HIVE_KSESS_STAT.PIN = s.get Ses.PIN :=
  (State.get_put_same ..).trans (Nat.mod_eq_of_lt (State.get_lt s Ses.PIN))

/-- Four bits, each in its place. -/
theorem testBit_four (b0 b1 b2 b3 : Bool) (i : Fin 4) :
    ((bitOf b0 <<< 0 + bitOf b1 <<< 1 + bitOf b2 <<< 2 + bitOf b3 <<< 3) % 2 ^ 4).testBit i = [b0, b1, b2, b3][i] := by
  revert b0 b1 b2 b3 i
  decide

/-- OPEN shows the code session of each path, and the pin session as the host port's. -/
theorem testBit_open_sessionShow (s : State) (i : Fin 4) : ((sessionShow s).get HIVE_KSESS_STAT.OPEN).testBit i
    = (s.flag (Ses.CODE i) || (i == 0 && s.flag Ses.PIN)) := by
  rw [sessionShow, State.get_put_ne _ _ (by decide), State.get_put_same, testBit_four]
  fin_cases i <;> simp

/-! ### Pin sessions (R92) -/

theorem pinOpen_frame (h : Frame F s t)
    (hF : (Footprint.fields [Ses.PIN, HIVE_KSESS_STAT.PIN, HIVE_KSESS_STAT.OPEN, HIVE_KSESS_EVT.OPENED]).le F) :
    Frame F s (pinOpen t) := by
  unfold pinOpen
  exact .ite h (sessionShow_frame ((h.put (hF.field (by simp)) 1).put (hF.field (by simp)) 1)
    (Footprint.fields_le fun f hf => hF.field (by simp at hf ⊢; tauto)))

theorem get_pin_pinOpen (s : State) : (pinOpen s).get Ses.PIN = 1 := by
  unfold pinOpen
  split
  next h => exact State.get_eq_one_of_flag rfl h
  next => rw [get_sessionShow (by decide), State.get_put_ne _ _ (by decide), State.get_put_same]; rfl

/-- A pin session that was closed is shown, and its event set. -/
theorem pinOpen_of_closed (h : s.get Ses.PIN = 0) :
    (pinOpen s).get HIVE_KSESS_STAT.PIN = 1 ∧ (pinOpen s).get HIVE_KSESS_EVT.OPENED = 1 := by
  rw [pinOpen, State.flag_of_get_zero h]
  refine ⟨?_, ?_⟩
  · exact (get_pin_sessionShow _).trans ((State.get_put_ne _ _ (by decide)).trans (State.get_put_same ..))
  · exact (get_sessionShow (by decide)).trans (State.get_put_same ..)

theorem execPinSessionOpen_next (s : State) : ∃ t, exec .pinSessionOpen s = .next t ∧ t.get Pin.KEEPER_EN = 1
    ∧ (served s = true → t.get Ses.PIN = 1
      ∧ (s.get Ses.PIN = 0 → t.get HIVE_KSESS_STAT.PIN = 1 ∧ t.get HIVE_KSESS_EVT.OPENED = 1))
    ∧ Frame (.fields [Pin.KEEPER_EN, Ses.PIN, HIVE_KSESS_STAT.PIN, HIVE_KSESS_STAT.OPEN, HIVE_KSESS_EVT.OPENED]) s t := by
  have hput : Frame (.fields [Pin.KEEPER_EN, Ses.PIN, HIVE_KSESS_STAT.PIN, HIVE_KSESS_STAT.OPEN, HIVE_KSESS_EVT.OPENED]) s
      (s.put Pin.KEEPER_EN 1) := (Frame.refl _ s).put (by decide) 1
  have hopen : Frame (.fields [Ses.PIN, HIVE_KSESS_STAT.PIN, HIVE_KSESS_STAT.OPEN, HIVE_KSESS_EVT.OPENED]) (s.put Pin.KEEPER_EN 1)
      (pinOpen (s.put Pin.KEEPER_EN 1)) := pinOpen_frame (Frame.refl _ _) (Footprint.le_refl _)
  refine ⟨if served s then pinOpen (s.put Pin.KEEPER_EN 1) else s.put Pin.KEEPER_EN 1, rfl, ?_, fun hs => ?_, ?_⟩
  · split
    · exact (hopen.fld _ (by decide)).trans (State.get_put_same ..)
    · exact State.get_put_same ..
  · rw [if_pos hs]
    exact ⟨get_pin_pinOpen _, fun h => pinOpen_of_closed ((State.get_put_ne _ _ (by decide)).trans h)⟩
  · exact .ite (pinOpen_frame hput (fields_le_of_subset (by simp) (Footprint.le_refl _))) hput

theorem execPinSessionClose_next (s : State) : ∃ t, exec .pinSessionClose s = .next t ∧ t.get Pin.KEEPER_EN = 0
    ∧ t.get Ses.PIN = 0 ∧ (s.get Ses.PIN = 1 → t.get HIVE_KSESS_STAT.PIN = 0 ∧ t.get HIVE_KSESS_EVT.CLOSED = 1)
    ∧ Frame (.fields [Pin.KEEPER_EN, Ses.PIN, HIVE_KSESS_STAT.PIN, HIVE_KSESS_STAT.OPEN, HIVE_KSESS_EVT.CLOSED]) s t := by
  let u := ((s.put Pin.KEEPER_EN 0).put Ses.PIN 0).put HIVE_KSESS_EVT.CLOSED 1
  have hexec : exec .pinSessionClose s = .next (if s.flag Ses.PIN then sessionShow u else s.put Pin.KEEPER_EN 0) := rfl
  have hput : Frame (.fields [Pin.KEEPER_EN, Ses.PIN, HIVE_KSESS_STAT.PIN, HIVE_KSESS_STAT.OPEN, HIVE_KSESS_EVT.CLOSED]) s
      (s.put Pin.KEEPER_EN 0) := (Frame.refl _ s).put (by decide) 0
  cases hpin : s.flag Ses.PIN
  · rw [hpin] at hexec
    exact ⟨_, hexec, State.get_put_same .., (State.get_put_ne _ _ (by decide)).trans (State.get_eq_zero_of_flag hpin),
      fun h => absurd (State.get_eq_zero_of_flag hpin) (by rw [h]; decide), hput⟩
  · rw [hpin] at hexec
    have hu : u.get Ses.PIN = 0 := (State.get_put_ne _ _ (by decide)).trans (State.get_put_same ..)
    refine ⟨_, hexec, ?_, (get_sessionShow (by decide)).trans hu, fun _ => ⟨(get_pin_sessionShow u).trans hu,
      (get_sessionShow (by decide)).trans (State.get_put_same ..)⟩,
      sessionShow_frame ((hput.put (by decide) 0).put (by decide) 1) (fields_le_of_subset (by simp) (Footprint.le_refl _))⟩
    rw [if_pos rfl, get_sessionShow (by decide), State.get_put_ne _ _ (by decide), State.get_put_ne _ _ (by decide)]
    exact State.get_put_same ..

/-! ### The code's holder (R92) -/

/-- The holder of path `p` is set, or empty. -/
protected theorem Frame.setCodeHold (h : Frame F s t) {p : Fin 4} {w : Option (BitVec 32)} (hp : F.part (.codeHold p) = true) :
    Frame F s { t with codeHold := t.codeHold.set p w } := by
  refine ⟨h.fld, h.mem, h.ret, h.ecc, fun q hq => Part.same_trans (h.part q hq) ?_⟩
  cases q with
  | codeHold r =>
    have hne : p ≠ r := fun e => by rw [← e, hp] at hq; exact absurd hq (by simp)
    exact Vector.getElem_set_ne p.isLt r.isLt (Fin.val_ne_of_ne hne)
  | _ => rfl

theorem codeHold_touch (s : State) (a : Access) : (touch s a).codeHold = s.codeHold := by
  unfold touch
  cases keeperView s a <;> rfl

theorem execKsessCodeLo_next {a : Access} (w : BitVec 32) (hs : served s = true) : ∃ t, exec (.ksessCodeLo a w) s = .next t
    ∧ t.codeHold[pathNum a.path] = some w
    ∧ Frame (.any [accessFp a 0x00, .parts [.codeHold (pathNum a.path)]]) s t := by
  have hF : (accessFp a 0x00).le (.any [accessFp a 0x00, .parts [.codeHold (pathNum a.path)]]) := Footprint.le_any (by simp)
  refine ⟨_, congrArg Host.Outcome.next (regOp_served hs), ?_, ?_⟩
  · simp [codeLoWrite]
  · exact Frame.putCode ((touch_frame_le hF).setCodeHold (by simp)) hF 0

/-! ### Attempts (R92, R93, R95) -/

/-- The attempt has used the holder of path `p`. -/
def codeTaken (s : State) (p : Fin 4) : State := { s with codeHold := s.codeHold.set p none }

/-- The holder of path `p` and the word written spell the session code of the image. -/
def codeMatches (s : State) (p : Fin 4) (w : BitVec 32) : Prop :=
  s.get Ses.IMGCODE ≠ 0 ∧ (s.codeHold[p]).map (fun l => l.toNat + 4294967296 * w.toNat) = some (s.get Ses.IMGCODE)

section
variable {p : Fin 4} {node : BitVec 16} {w : BitVec 32}

theorem attempt_of_lockout (hl : s.get HIVE_KSESS_STAT.LOCKOUT = 1) : attempt s p node w = codeTaken s p := by
  rw [attempt, if_pos (State.flag_of_get hl)]
  rfl

theorem attempt_of_codeMatches (hl : s.get HIVE_KSESS_STAT.LOCKOUT = 0) (hc : codeMatches s p w) :
    attempt s p node w = codeOpens (codeTaken s p) p node := by
  obtain ⟨himg, hcode⟩ := hc
  obtain ⟨lo, hlo, heq⟩ := Option.map_eq_some_iff.mp hcode
  unfold attempt
  rw [State.flag_of_get_zero hl, hlo]
  show (if s.get Ses.IMGCODE ≠ 0 ∧ lo.toNat + w.toNat * 4294967296 = s.get Ses.IMGCODE then _ else _) = _
  rw [if_pos ⟨himg, by omega⟩]
  rfl

theorem attempt_of_not_codeMatches (hl : s.get HIVE_KSESS_STAT.LOCKOUT = 0) (hc : ¬ codeMatches s p w) :
    attempt s p node w = attemptFails (codeTaken s p) := by
  unfold attempt
  rw [State.flag_of_get_zero hl]
  cases hlo : s.codeHold[p] with
  | none => rfl
  | some lo =>
    show (if s.get Ses.IMGCODE ≠ 0 ∧ lo.toNat + w.toNat * 4294967296 = s.get Ses.IMGCODE then _ else _) = _
    rw [if_neg fun h => hc ⟨h.1, by rw [hlo, Option.map_some, ← h.2, Nat.mul_comm]⟩]
    rfl

end

theorem codeHold_codeTaken (s : State) (p : Fin 4) : (codeTaken s p).codeHold[p] = none := by simp [codeTaken]

theorem codeTaken_frame (h : Frame F s t) {p : Fin 4} (hp : F.part (.codeHold p) = true) : Frame F s (codeTaken t p) :=
  h.setCodeHold hp

theorem codeMatches_touch {a : Access} {w : BitVec 32} :
    codeMatches (touch s a) (pathNum a.path) w ↔ codeMatches s (pathNum a.path) w := by
  rw [codeMatches, codeMatches, codeHold_touch, get_touch s a (by simp only [Fld.id]; omega)]

/-- An attempt on a served path. -/
theorem exec_attempt {a : Access} (w : BitVec 32) (hs : served s = true) : exec (.attempt a w) s
    = .next ((attempt (touch s a) (pathNum a.path) a.node w).put (Last.CODE (pathNum a.path)) 0) :=
  congrArg Host.Outcome.next (regOp_served hs)

/-! #### An attempt that succeeds (R92, R93) -/

theorem State.get_on_put_ne {f g : Fld} (b : Bool) (v : Nat) (h : g.id ≠ f.id) : (s.on b (·.put f v)).get g = s.get g := by
  cases b
  · rfl
  · exact State.get_put_ne _ _ h

/-- The code session of path `p` is open, and nothing shows it yet. -/
def codeBegun (s : State) (p : Fin 4) (node : BitVec 16) : State :=
  ((((s.on (!s.flag (Ses.CODE p)) (·.put HIVE_KSESS_EVT.OPENED 1)).put (Ses.CODE p) 1).put (Ses.IDLE_T p) 0).put
    HIVE_KSESS_STAT.FAILS 0).on (p.val == 3) (·.put Ses.NODE node.toNat)

theorem codeOpens_eq (s : State) (p : Fin 4) (node : BitVec 16) : codeOpens s p node = sessionShow (codeBegun s p node) := rfl

section
variable (s : State) (p : Fin 4) (node : BitVec 16)

theorem get_codeBegun : (codeBegun s p node).get (Ses.CODE p) = 1 ∧ (codeBegun s p node).get (Ses.IDLE_T p) = 0
    ∧ (codeBegun s p node).get HIVE_KSESS_STAT.FAILS = 0 := by
  simp only [codeBegun]
  refine ⟨?_, ?_, ?_⟩
  · rw [State.get_on_put_ne _ _ (by simp only [Fld.id]; omega), State.get_put_ne _ _ (by simp only [Fld.id]; omega),
      State.get_put_ne _ _ (by simp only [Fld.id]; omega)]
    exact State.get_put_same ..
  · rw [State.get_on_put_ne _ _ (by simp only [Fld.id]; omega), State.get_put_ne _ _ (by simp only [Fld.id]; omega)]
    exact State.get_put_same ..
  · rw [State.get_on_put_ne _ _ (by decide)]
    exact State.get_put_same ..

theorem get_node_codeBegun (hp : p.val = 3) : (codeBegun s p node).get Ses.NODE = node.toNat := by
  simp only [codeBegun, hp, beq_self_eq_true, State.on_true]
  exact (State.get_put_same ..).trans (Nat.mod_eq_of_lt node.isLt)

theorem get_opened_codeBegun (hc : s.get (Ses.CODE p) = 0) : (codeBegun s p node).get HIVE_KSESS_EVT.OPENED = 1 := by
  simp only [codeBegun, State.flag_of_get_zero hc]
  rw [State.get_on_put_ne _ _ (by decide), State.get_put_ne _ _ (by decide), State.get_put_ne _ _ (by simp only [Fld.id]; omega),
    State.get_put_ne _ _ (by simp only [Fld.id]; omega)]
  exact State.get_put_same ..

end

theorem codeOpens_frame (h : Frame F s t) {p : Fin 4} {node : BitVec 16} (hF : (sessionFp p).le F)
    (hN : (Footprint.fields [Ses.NODE, HIVE_KSESS_STAT.FAILS]).le F) : Frame F s (codeOpens t p node) := by
  rw [codeOpens_eq]
  refine sessionShow_frame (Frame.on (((Frame.on h _ fun _ h => h.put (hF.field (by simp)) 1).put (hF.field (by simp)) 1).put
    (hF.field (by simp)) 0 |>.put (hN.field (by simp)) 0) _ fun _ h => h.put (hN.field (by simp)) _) ?_
  exact Footprint.fields_le fun f hf => hF.field (by simp at hf ⊢; tauto)

/-- A session that opens leaves the holders. -/
theorem codeHold_codeOpens_codeTaken (s : State) (p : Fin 4) (node : BitVec 16) :
    (codeOpens (codeTaken s p) p node).codeHold[p] = none := by
  have hframe : Frame (.or (sessionFp p) (.fields [Ses.NODE, HIVE_KSESS_STAT.FAILS])) (codeTaken s p)
      (codeOpens (codeTaken s p) p node) :=
    codeOpens_frame (Frame.refl _ _) (Footprint.le_or_left _ _) (Footprint.le_or_right _ _)
  exact (hframe.part (.codeHold p) rfl).trans (codeHold_codeTaken s p)

theorem execAttempt_opens {a : Access} {w : BitVec 32} (hs : served s = true) (hl : s.get HIVE_KSESS_STAT.LOCKOUT = 0)
    (hc : codeMatches s (pathNum a.path) w) : ∃ t, exec (.attempt a w) s = .next t
      ∧ t.get (Ses.CODE (pathNum a.path)) = 1 ∧ t.get HIVE_KSESS_STAT.FAILS = 0 ∧ t.get (Ses.IDLE_T (pathNum a.path)) = 0
      ∧ (t.get HIVE_KSESS_STAT.OPEN).testBit (pathNum a.path) = true ∧ t.codeHold[pathNum a.path] = none
      ∧ (a.path = .swarm → t.get Ses.NODE = a.node.toNat)
      ∧ (s.get (Ses.CODE (pathNum a.path)) = 0 → t.get HIVE_KSESS_EVT.OPENED = 1)
      ∧ Frame (.any [accessFp a 0x00, sessionFp (pathNum a.path), .fields [Ses.NODE, HIVE_KSESS_STAT.FAILS],
          .parts [.codeHold (pathNum a.path)]]) s t := by
  have hpath := (pathNum a.path).isLt
  have hlock : (touch s a).get HIVE_KSESS_STAT.LOCKOUT = 0 := (get_touch_of_key s a (by decide)).trans hl
  have hF : (accessFp a 0x00).le (.any [accessFp a 0x00, sessionFp (pathNum a.path), .fields [Ses.NODE, HIVE_KSESS_STAT.FAILS],
      .parts [.codeHold (pathNum a.path)]]) := Footprint.le_any (by simp)
  obtain ⟨hcode, hidle, hfails⟩ := get_codeBegun (codeTaken (touch s a) (pathNum a.path)) (pathNum a.path) a.node
  refine ⟨_, (exec_attempt w hs).trans (congrArg (fun u => Host.Outcome.next (State.put u _ 0))
    (attempt_of_codeMatches hlock (codeMatches_touch.mpr hc))), ?_, ?_, ?_, ?_, ?_, fun hp => ?_, fun hclosed => ?_, ?_⟩
  · rw [get_put_code_ne _ _ _ (by simp only [Fld.id]; omega), codeOpens_eq, get_sessionShow (by simp [shownFp, Fld.id]; omega)]
    exact hcode
  · rw [get_put_code_ne _ _ _ (by decide), codeOpens_eq, get_sessionShow (by decide)]
    exact hfails
  · rw [get_put_code_ne _ _ _ (by simp only [Fld.id]; omega), codeOpens_eq, get_sessionShow (by simp [shownFp, Fld.id]; omega)]
    exact hidle
  · rw [get_put_code_ne _ _ _ (by decide), codeOpens_eq, testBit_open_sessionShow, State.flag_of_get hcode, Bool.true_or]
  · exact codeHold_codeOpens_codeTaken ..
  · rw [get_put_code_ne _ _ _ (by decide), codeOpens_eq, get_sessionShow (by decide)]
    exact get_node_codeBegun _ _ _ (by rw [hp]; rfl)
  · rw [get_put_code_ne _ _ _ (by decide), codeOpens_eq, get_sessionShow (by decide)]
    exact get_opened_codeBegun _ _ _ ((get_touch s a (by simp only [Fld.id]; omega)).trans hclosed)
  · exact Frame.putCode (codeOpens_frame (codeTaken_frame (touch_frame_le hF) (by simp)) (Footprint.le_any (by simp))
      (Footprint.le_any (by simp))) hF 0

/-! #### An attempt that fails (R93, R95) -/

/-- A raise in the HIVE page. -/
theorem raiseEvent_frame_hive (h : Frame F s t) {i : Nat} (hi : i < 16) (hF : (raiseFp 0x00).le F) :
    Frame F s (raiseEvent t 0x00 i) :=
  raiseFault_frame_passive h _ hi (show pageKind 0x00 ≠ some 0x20 by decide) (fun _ _ _ => rfl) hF

/-- A failed attempt is counted in TOTAL_FAILS, with its event. -/
def failCounted (s : State) : State := (s.inc HIVE_KSESS_STAT.TOTAL_FAILS).put HIVE_KSESS_EVT.FAILED 1

/-- The lockout begins with its 60 s, before its cause is raised. -/
def lockoutBegun (s : State) : State :=
  (((((failCounted s).put HIVE_KSESS_STAT.FAILS 0).put HIVE_KSESS_STAT.LOCKOUT 1).put HIVE_KSESS_EVT.LOCKOUT 1).put Ses.LOCK_T
    60000).put HIVE_KSESS_STAT.LOCK_REM 60

/-- The beginning of the lockout leaves what the failed attempt counted. -/
theorem get_lockoutBegun (s : State) : (lockoutBegun s).get HIVE_KSESS_EVT.FAILED = (failCounted s).get HIVE_KSESS_EVT.FAILED
    ∧ (lockoutBegun s).get HIVE_KSESS_STAT.TOTAL_FAILS = (failCounted s).get HIVE_KSESS_STAT.TOTAL_FAILS := by
  have hframe : Frame (.fields [HIVE_KSESS_STAT.FAILS, HIVE_KSESS_STAT.LOCKOUT, HIVE_KSESS_EVT.LOCKOUT, Ses.LOCK_T,
      HIVE_KSESS_STAT.LOCK_REM]) (failCounted s) (lockoutBegun s) :=
    (((((Frame.refl _ _).put (by decide) 0).put (by decide) 1).put (by decide) 1).put (by decide) 60000).put (by decide) 60
  exact ⟨hframe.fld _ (by decide), hframe.fld _ (by decide)⟩

theorem attemptFails_of_lt (h : s.get HIVE_KSESS_STAT.FAILS < 2) :
    attemptFails s = (failCounted s).put HIVE_KSESS_STAT.FAILS (s.get HIVE_KSESS_STAT.FAILS + 1) := if_pos h

theorem attemptFails_of_le (h : 2 ≤ s.get HIVE_KSESS_STAT.FAILS) : attemptFails s = raiseEvent (lockoutBegun s) 0x00 1 :=
  if_neg (Nat.not_lt.mpr h)

/-- What a failed attempt changes, up to the raise of its cause. -/
def failFields : List Fld := [HIVE_KSESS_STAT.FAILS, HIVE_KSESS_STAT.TOTAL_FAILS, HIVE_KSESS_STAT.LOCKOUT,
  HIVE_KSESS_STAT.LOCK_REM, HIVE_KSESS_EVT.FAILED, HIVE_KSESS_EVT.LOCKOUT, Ses.LOCK_T]

/-- A raise in the HIVE page leaves the sessions and the count of failed attempts. -/
theorem raiseFp_hive_spares : (∀ f ∈ failFields, (raiseFp 0x00).fld f.id = false)
    ∧ ∀ p : Fin 4, (raiseFp 0x00).fld (Ses.CODE p).id = false := by decide

theorem failFields_spare_code : ∀ p : Fin 4, (Footprint.fields failFields).fld (Ses.CODE p).id = false := by decide

section
variable (hF : (Footprint.fields failFields).le F)
include hF

theorem failCounted_frame (h : Frame F s t) : Frame F s (failCounted t) :=
  (h.inc (hF.field (by simp [failFields]))).put (hF.field (by simp [failFields])) 1

theorem lockoutBegun_frame (h : Frame F s t) : Frame F s (lockoutBegun t) :=
  (((((failCounted_frame hF h).put (hF.field (by simp [failFields])) 0).put (hF.field (by simp [failFields])) 1).put
    (hF.field (by simp [failFields])) 1).put (hF.field (by simp [failFields])) 60000).put (hF.field (by simp [failFields])) 60

theorem attemptFails_frame (h : Frame F s t) (hR : (raiseFp 0x00).le F) : Frame F s (attemptFails t) := by
  rcases Nat.lt_or_ge (t.get HIVE_KSESS_STAT.FAILS) 2 with hlt | hge
  · rw [attemptFails_of_lt hlt]
    exact (failCounted_frame hF h).put (hF.field (by simp [failFields])) _
  · rw [attemptFails_of_le hge]
    exact raiseEvent_frame_hive (lockoutBegun_frame hF h) (by decide) hR

end

/-- A failed attempt is counted, and the code sessions stay as they are. -/
theorem get_attemptFails (s : State) (p : Fin 4) : (attemptFails s).get (Ses.CODE p) = s.get (Ses.CODE p)
    ∧ (attemptFails s).get HIVE_KSESS_EVT.FAILED = 1
    ∧ (attemptFails s).get HIVE_KSESS_STAT.TOTAL_FAILS = min 255 (s.get HIVE_KSESS_STAT.TOTAL_FAILS + 1) := by
  have hkept : (attemptFails s).get HIVE_KSESS_EVT.FAILED = (failCounted s).get HIVE_KSESS_EVT.FAILED
      ∧ (attemptFails s).get HIVE_KSESS_STAT.TOTAL_FAILS = (failCounted s).get HIVE_KSESS_STAT.TOTAL_FAILS := by
    rcases Nat.lt_or_ge (s.get HIVE_KSESS_STAT.FAILS) 2 with hlt | hge
    · rw [attemptFails_of_lt hlt]
      exact ⟨State.get_put_ne _ _ (by decide), State.get_put_ne _ _ (by decide)⟩
    · have hraise := raiseEvent_frame_hive (i := 1) (Frame.refl _ (lockoutBegun s)) (by decide) (Footprint.le_refl _)
      rw [attemptFails_of_le hge, hraise.fld _ (raiseFp_hive_spares.1 _ (by simp [failFields])),
        hraise.fld _ (raiseFp_hive_spares.1 _ (by simp [failFields]))]
      exact get_lockoutBegun s
  refine ⟨?_, ?_, ?_⟩
  · have hframe : Frame (.or (.fields failFields) (raiseFp 0x00)) s (attemptFails s) :=
      attemptFails_frame (Footprint.le_or_left _ _) (Frame.refl _ s) (Footprint.le_or_right _ _)
    exact hframe.fld _ (Bool.or_eq_false_iff.mpr ⟨failFields_spare_code p, raiseFp_hive_spares.2 p⟩)
  · exact hkept.1.trans (State.get_put_same ..)
  · exact hkept.2.trans ((State.get_put_ne _ _ (by decide)).trans (State.get_inc s HIVE_KSESS_STAT.TOTAL_FAILS))

/-- The first failed attempts are counted, and no lockout begins. -/
theorem get_attemptFails_of_lt (h : s.get HIVE_KSESS_STAT.FAILS < 2) :
    (attemptFails s).get HIVE_KSESS_STAT.FAILS = s.get HIVE_KSESS_STAT.FAILS + 1
    ∧ (attemptFails s).get HIVE_KSESS_STAT.LOCKOUT = s.get HIVE_KSESS_STAT.LOCKOUT := by
  rw [attemptFails_of_lt h]
  refine ⟨(State.get_put_same ..).trans (Nat.mod_eq_of_lt ?_), ?_⟩
  · show s.get HIVE_KSESS_STAT.FAILS + 1 < 4
    omega
  · exact (State.get_put_ne _ _ (by decide)).trans ((State.get_put_ne _ _ (by decide)).trans (State.get_put_ne _ _ (by decide)))

/-- The third failed attempt in a row starts the lockout. -/
theorem get_attemptFails_of_two (h : s.get HIVE_KSESS_STAT.FAILS = 2) :
    (attemptFails s).get HIVE_KSESS_STAT.FAILS = 0 ∧ (attemptFails s).get HIVE_KSESS_STAT.LOCKOUT = 1
    ∧ (attemptFails s).get HIVE_KSESS_STAT.LOCK_REM = 60 ∧ (attemptFails s).get HIVE_KSESS_EVT.LOCKOUT = 1
    ∧ (muted s 0x00 = false → ((attemptFails s).get (PAGE_FLT_STAT.CAUSE 0x00)).testBit 1 = true) := by
  have hraise := raiseEvent_frame_hive (i := 1) (Frame.refl _ (lockoutBegun s)) (by decide) (Footprint.le_refl _)
  have hkept : ∀ {f}, f ∈ failFields → (raiseEvent (lockoutBegun s) 0x00 1).get f = (lockoutBegun s).get f :=
    fun hf => hraise.fld _ (raiseFp_hive_spares.1 _ hf)
  have hbegun := lockoutBegun_frame (Footprint.le_refl _) (Frame.refl (.fields failFields) s)
  rw [attemptFails_of_le (by omega), hkept (by simp [failFields]), hkept (by simp [failFields]), hkept (by simp [failFields]),
    hkept (by simp [failFields])]
  refine ⟨?_, ?_, State.get_put_same .., ?_, fun hm => ?_⟩
  · rw [lockoutBegun, State.get_put_ne _ _ (by decide), State.get_put_ne _ _ (by decide), State.get_put_ne _ _ (by decide),
      State.get_put_ne _ _ (by decide)]
    exact State.get_put_same ..
  · rw [lockoutBegun, State.get_put_ne _ _ (by decide), State.get_put_ne _ _ (by decide), State.get_put_ne _ _ (by decide)]
    exact State.get_put_same ..
  · rw [lockoutBegun, State.get_put_ne _ _ (by decide), State.get_put_ne _ _ (by decide)]
    exact State.get_put_same ..
  · exact testBit_cause_raiseEvent_passive (by decide)
      ((muted_congr (hbegun.fld _ (by decide)) (hbegun.fld _ (by decide))).trans hm) (by decide) (fun _ _ _ => rfl) (by decide)
      (by decide)

/-- What a failed attempt changes. -/
def failFp (a : Access) : Footprint :=
  .any [accessFp a 0x00, .fields failFields, .parts [.codeHold (pathNum a.path)], raiseFp 0x00]

/-- What an attempt leaves, once it has used the holder of its path. -/
theorem codeHold_put_attemptFails (s : State) (p : Fin 4) : (attemptFails (codeTaken s p)).codeHold[p] = none := by
  have hframe : Frame (.or (.fields failFields) (raiseFp 0x00)) (codeTaken s p) (attemptFails (codeTaken s p)) :=
    attemptFails_frame (Footprint.le_or_left _ _) (Frame.refl _ _) (Footprint.le_or_right _ _)
  have hspare : ∀ p : Fin 4, (Footprint.or (.fields failFields) (raiseFp 0x00)).part (.codeHold p) = false := by decide
  exact (hframe.part (.codeHold p) (hspare p)).trans (codeHold_codeTaken s p)

theorem execAttempt_fails {a : Access} {w : BitVec 32} (hs : served s = true) (hl : s.get HIVE_KSESS_STAT.LOCKOUT = 0)
    (hc : ¬ codeMatches s (pathNum a.path) w) : ∃ t, exec (.attempt a w) s = .next t
      ∧ t.get (Ses.CODE (pathNum a.path)) = s.get (Ses.CODE (pathNum a.path)) ∧ t.get HIVE_KSESS_EVT.FAILED = 1
      ∧ t.get HIVE_KSESS_STAT.TOTAL_FAILS = min 255 (s.get HIVE_KSESS_STAT.TOTAL_FAILS + 1) ∧ t.codeHold[pathNum a.path] = none
      ∧ (s.get HIVE_KSESS_STAT.FAILS < 2 → t.get HIVE_KSESS_STAT.FAILS = s.get HIVE_KSESS_STAT.FAILS + 1
          ∧ t.get HIVE_KSESS_STAT.LOCKOUT = 0)
      ∧ (s.get HIVE_KSESS_STAT.FAILS = 2 → t.get HIVE_KSESS_STAT.FAILS = 0 ∧ t.get HIVE_KSESS_STAT.LOCKOUT = 1
          ∧ t.get HIVE_KSESS_STAT.LOCK_REM = 60 ∧ t.get HIVE_KSESS_EVT.LOCKOUT = 1
          ∧ (muted s 0x00 = false → (t.get (PAGE_FLT_STAT.CAUSE 0x00)).testBit 1 = true))
      ∧ Frame (failFp a) s t := by
  have hpath := (pathNum a.path).isLt
  have hkey : ∀ {f : Fld}, f.id < 0x12B0000 * 32 → (codeTaken (touch s a) (pathNum a.path)).get f = s.get f :=
    fun hf => get_touch_of_key s a hf
  have hlock : (touch s a).get HIVE_KSESS_STAT.LOCKOUT = 0 := (get_touch_of_key s a (by decide)).trans hl
  have hF : (accessFp a 0x00).le (failFp a) := Footprint.le_any (by simp)
  obtain ⟨hcode, hfailed, htotal⟩ := get_attemptFails (codeTaken (touch s a) (pathNum a.path)) (pathNum a.path)
  refine ⟨_, (exec_attempt w hs).trans (congrArg (fun u => Host.Outcome.next (State.put u _ 0))
    (attempt_of_not_codeMatches hlock (mt codeMatches_touch.mp hc))), ?_, ?_, ?_, codeHold_put_attemptFails _ _, fun hlt => ?_,
    fun htwo => ?_, ?_⟩
  · rw [get_put_code_ne _ _ _ (by simp only [Fld.id]; omega), hcode, hkey (by simp only [Fld.id]; omega)]
  · rw [get_put_code_ne _ _ _ (by decide), hfailed]
  · rw [get_put_code_ne _ _ _ (by decide), htotal, hkey (by decide)]
  · obtain ⟨hfails, hlockout⟩ := get_attemptFails_of_lt (s := codeTaken (touch s a) (pathNum a.path)) (by rwa [hkey (by decide)])
    rw [get_put_code_ne _ _ _ (by decide), get_put_code_ne _ _ _ (by decide), hfails, hlockout, hkey (by decide), hkey (by decide)]
    exact ⟨rfl, hl⟩
  · obtain ⟨hfails, hlockout, hrem, hevt, hcause⟩ :=
      get_attemptFails_of_two (s := codeTaken (touch s a) (pathNum a.path)) (by rwa [hkey (by decide)])
    rw [get_put_code_ne _ _ _ (by decide), get_put_code_ne _ _ _ (by decide), get_put_code_ne _ _ _ (by decide),
      get_put_code_ne _ _ _ (by decide), get_put_code_ne _ _ _ (by decide)]
    exact ⟨hfails, hlockout, hrem, hevt, fun hm => hcause ((muted_congr (hkey (by decide)) (hkey (by decide))).trans hm)⟩
  · exact Frame.putCode (attemptFails_frame (Footprint.le_any (by simp)) (codeTaken_frame (touch_frame_le hF) (by simp [failFp]))
      (Footprint.le_any (by simp))) hF 0

/-- During the lockout an attempt uses the holder of its path, and has no other effect (R93). -/
theorem execAttempt_locked {a : Access} {w : BitVec 32} (hs : served s = true) (hl : s.get HIVE_KSESS_STAT.LOCKOUT = 1) :
    ∃ t, exec (.attempt a w) s = .next t ∧ t.codeHold[pathNum a.path] = none
      ∧ Frame (.any [accessFp a 0x00, .parts [.codeHold (pathNum a.path)]]) s t := by
  have hF : (accessFp a 0x00).le (.any [accessFp a 0x00, .parts [.codeHold (pathNum a.path)]]) := Footprint.le_any (by simp)
  exact ⟨_, (exec_attempt w hs).trans (congrArg (fun u => Host.Outcome.next (State.put u _ 0))
    (attempt_of_lockout ((get_touch_of_key s a (by decide)).trans hl))), codeHold_codeTaken _ _,
    Frame.putCode (codeTaken_frame (touch_frame_le hF) (by simp)) hF 0⟩

theorem execLockoutEnd_next (h : s.get HIVE_KSESS_STAT.LOCKOUT = 1) : ∃ t, exec .lockoutEnd s = .next t
    ∧ t.get HIVE_KSESS_STAT.LOCKOUT = 0 ∧ t.get HIVE_KSESS_STAT.LOCK_REM = 0 ∧ t.get HIVE_KSESS_STAT.FAILS = 0
    ∧ Frame (.fields [HIVE_KSESS_STAT.LOCKOUT, HIVE_KSESS_STAT.LOCK_REM, HIVE_KSESS_STAT.FAILS, Ses.LOCK_T]) s t := by
  refine ⟨_, congrArg Host.Outcome.next (if_pos (State.flag_of_get h)), ?_, ?_, ?_,
    ((((Frame.refl _ s).put (by decide) 0).put (by decide) 0).put (by decide) 0).put (by decide) 0⟩
  · rw [State.get_put_ne _ _ (by decide), State.get_put_ne _ _ (by decide), State.get_put_ne _ _ (by decide)]
    exact State.get_put_same ..
  · rw [State.get_put_ne _ _ (by decide), State.get_put_ne _ _ (by decide)]
    exact State.get_put_same ..
  · rw [State.get_put_ne _ _ (by decide)]
    exact State.get_put_same ..

/-! ### Sessions that close (R94, R95) -/

/-- What the end of the code session of path `p` changes. -/
def closeFp (p : Nat) : Footprint :=
  .fields [Ses.CODE p, HIVE_KSESS_STAT.OPEN, HIVE_KSESS_STAT.PIN, HIVE_KSESS_EVT.CLOSED]

theorem codeCloses_frame (h : Frame F s t) {p : Nat} (hF : (closeFp p).le F) : Frame F s (codeCloses t p) := by
  unfold codeCloses
  exact .ite (sessionShow_frame ((h.put (hF.field (by simp)) 0).put (hF.field (by simp)) 1)
    (Footprint.fields_le fun f hf => hF.field (by simp at hf ⊢; tauto))) h

section
variable (s : State) (p : Nat)

theorem get_code_codeCloses : (codeCloses s p).get (Ses.CODE p) = 0 := by
  unfold codeCloses
  split
  next => 
    rw [get_sessionShow (by simp [shownFp, Fld.id]; omega), State.get_put_ne _ _ (by simp only [Fld.id]; omega)]
    exact State.get_put_same ..
  next h => exact State.get_eq_zero_of_flag (by simpa using h)

/-- The end of one session leaves the others. -/
theorem get_code_codeCloses_ne {q : Nat} (hq : q ≠ p) : (codeCloses s p).get (Ses.CODE q) = s.get (Ses.CODE q) :=
  (codeCloses_frame (Frame.refl _ s) (Footprint.le_refl _)).fld _ (by simp [closeFp, Fld.id]; omega)

/-- A session that is closed stays so. -/
theorem codeCloses_keeps_closed {q : Nat} (hq : s.get (Ses.CODE q) = 0) : (codeCloses s p).get (Ses.CODE q) = 0 := by
  by_cases hqp : q = p
  · rw [hqp]
    exact get_code_codeCloses s p
  · rw [get_code_codeCloses_ne s p hqp, hq]

/-- The end of a session that was open is an event. -/
theorem get_closed_codeCloses (h : s.get (Ses.CODE p) = 1) : (codeCloses s p).get HIVE_KSESS_EVT.CLOSED = 1 := by
  rw [codeCloses, if_pos (State.flag_of_get h), get_sessionShow (by decide)]
  exact State.get_put_same ..

theorem codeCloses_keeps_event (h : s.get HIVE_KSESS_EVT.CLOSED = 1) : (codeCloses s p).get HIVE_KSESS_EVT.CLOSED = 1 := by
  cases hc : s.flag (Ses.CODE p)
  · rwa [codeCloses, hc]
  · exact get_closed_codeCloses s p (State.get_eq_one_of_flag rfl hc)

end

theorem execSessionIdleClose_off {p : Path} (h : s.get HIVE_KSESS_CTL.IDLE = 0) : exec (.sessionIdleClose p) s = .next s :=
  congrArg Host.Outcome.next (if_neg (by simp [h]))

theorem execSessionIdleClose_next {p : Path} (h : s.get HIVE_KSESS_CTL.IDLE ≠ 0) : ∃ t, exec (.sessionIdleClose p) s = .next t
    ∧ t.get (Ses.CODE (pathNum p)) = 0
    ∧ (s.get (Ses.CODE (pathNum p)) = 1 → t.get HIVE_KSESS_EVT.CLOSED = 1
        ∧ (t.get HIVE_KSESS_STAT.OPEN).testBit (pathNum p) = (s.get Ses.PIN == 1 && pathNum p == 0))
    ∧ Frame (closeFp (pathNum p)) s t := by
  refine ⟨_, congrArg Host.Outcome.next (if_pos (by simp [h])), get_code_codeCloses s _, fun hopen =>
    ⟨get_closed_codeCloses s _ hopen, ?_⟩, codeCloses_frame (Frame.refl _ s) (Footprint.le_refl _)⟩
  have hcode : ((s.put (Ses.CODE (pathNum p)) 0).put HIVE_KSESS_EVT.CLOSED 1).get (Ses.CODE (pathNum p)) = 0 :=
    (State.get_put_ne _ _ (by simp only [Fld.id]; omega)).trans (State.get_put_same ..)
  have hpin : ((s.put (Ses.CODE (pathNum p)) 0).put HIVE_KSESS_EVT.CLOSED 1).get Ses.PIN = s.get Ses.PIN :=
    (State.get_put_ne _ _ (by decide)).trans (State.get_put_ne _ _ (by simp only [Fld.id]; omega))
  rw [codeCloses, if_pos (State.flag_of_get hopen), testBit_open_sessionShow, State.flag_of_get_zero hcode, Bool.false_or,
    State.flag_congr hpin, Bool.and_comm, State.get_eq_bitOf_flag (f := Ses.PIN) rfl]
  cases s.flag Ses.PIN <;> rfl

/-! #### The write of HIVE_KSESS_CTL (R94) -/

/-- IDLE is stored, and CLOSE closes the session of path `p`. -/
def closeAsked (s : State) (p w : Nat) : State :=
  (s.put HIVE_KSESS_CTL.IDLE (fieldOf w HIVE_KSESS_CTL.IDLE)).on (fieldOf w HIVE_KSESS_CTL.CLOSE == 1) (fun s => codeCloses s p)

/-- The paths whose sessions a new IDLE ends at once: those that have been idle for as long. -/
def idlePaths (s : State) : List Nat := (List.range 4).filter (fun q => 1000 * s.get HIVE_KSESS_CTL.IDLE ≤ s.get (Ses.IDLE_T q))

/-- A new IDLE, where it is one, applies to every code session at once. -/
def idleApplied (idle : Nat) (s : State) : State :=
  s.on (s.get HIVE_KSESS_CTL.IDLE != 0 && s.get HIVE_KSESS_CTL.IDLE != idle) (fun u => u.each (idlePaths s) codeCloses)

/-- What a write of HIVE_KSESS_CTL leaves, with the word `w` that takes effect. -/
def ctlWritten (s : State) (p w : Nat) : State := idleApplied (s.get HIVE_KSESS_CTL.IDLE) (closeAsked s p w)

theorem ksessCtlWrite_eq (s : State) (k : Bool) (p : Fin 4) (w : Nat) : ksessCtlWrite s k p w
    = (refusal (ctlWritten s p (wordKept s k 0x00 HIVE_KSESS_CTL.IDLE w)) 0x00 (codeKept s k 0x00 HIVE_KSESS_CTL.IDLE w),
       codeKept s k 0x00 HIVE_KSESS_CTL.IDLE w) :=
  specialWrite_krw_head (g := HIVE_KSESS_CTL.CLOSE) (ty := .wo) rfl (.inr rfl)

/-- What a write of HIVE_KSESS_CTL may change of the sessions. -/
def ctlFields : List Fld := [HIVE_KSESS_CTL.IDLE, HIVE_KSESS_STAT.OPEN, HIVE_KSESS_STAT.PIN, HIVE_KSESS_EVT.CLOSED, Ses.CODE 0,
  Ses.CODE 1, Ses.CODE 2, Ses.CODE 3]

theorem closeFp_le_ctlFields : ∀ p < 4, (closeFp p).le (.fields ctlFields) := by
  intro p hp
  interval_cases p <;> exact fields_le_of_subset (by simp [ctlFields]) (Footprint.le_refl _)

theorem lt_of_mem_idlePaths {q : Nat} (hq : q ∈ idlePaths s) : q < 4 := List.mem_range.mp (List.mem_of_mem_filter hq)

theorem ctlWritten_frame (h : Frame F s t) {p w : Nat} (hp : p < 4) (hF : (Footprint.fields ctlFields).le F) :
    Frame F s (ctlWritten t p w) := by
  have hclose : ∀ q < 4, (closeFp q).le F := fun q hq => Footprint.le_trans (closeFp_le_ctlFields q hq) hF
  have hidle : F.fld HIVE_KSESS_CTL.IDLE.id = true := hF.field (by simp [ctlFields])
  have hasked : Frame F s (closeAsked t p w) := (h.put hidle _).on _ fun _ h => codeCloses_frame h (hclose p hp)
  unfold ctlWritten idleApplied
  exact hasked.on _ fun _ h => h.each _ fun _ _ hq h => codeCloses_frame h (hclose _ (lt_of_mem_idlePaths hq))

section
variable (s : State) (p w : Nat)

theorem get_idle_closeAsked : (closeAsked s p w).get HIVE_KSESS_CTL.IDLE = fieldOf w HIVE_KSESS_CTL.IDLE := by
  have hput : (s.put HIVE_KSESS_CTL.IDLE (fieldOf w HIVE_KSESS_CTL.IDLE)).get HIVE_KSESS_CTL.IDLE
      = fieldOf w HIVE_KSESS_CTL.IDLE :=
    (State.get_put_same ..).trans (Nat.mod_eq_of_lt (Nat.mod_lt _ (Nat.two_pow_pos _)))
  have hclose : Frame (closeFp p) (s.put HIVE_KSESS_CTL.IDLE (fieldOf w HIVE_KSESS_CTL.IDLE)) (closeAsked s p w) :=
    (Frame.refl _ _).on _ fun _ h => codeCloses_frame h (Footprint.le_refl _)
  exact (hclose.fld _ (by simp [closeFp, Fld.id]; omega)).trans hput

theorem get_idle_ctlWritten : (ctlWritten s p w).get HIVE_KSESS_CTL.IDLE = fieldOf w HIVE_KSESS_CTL.IDLE := by
  refine Eq.trans ?_ (get_idle_closeAsked s p w)
  unfold ctlWritten idleApplied
  cases _ : (closeAsked s p w).get HIVE_KSESS_CTL.IDLE != 0
      && (closeAsked s p w).get HIVE_KSESS_CTL.IDLE != s.get HIVE_KSESS_CTL.IDLE
  · rfl
  · exact State.each_keeps (I := fun u => u.get HIVE_KSESS_CTL.IDLE = (closeAsked s p w).get HIVE_KSESS_CTL.IDLE) rfl
      fun u q _ hu => ((codeCloses_frame (Frame.refl _ u) (Footprint.le_refl _)).fld _ (by simp [closeFp, Fld.id]; omega)).trans hu

/-- What the asked close brings about, a new IDLE leaves. -/
theorem idleApplied_keeps {I : State → Prop} (h : I s) (hI : ∀ u q, I u → I (codeCloses u q)) (idle : Nat) :
    I (idleApplied idle s) := by
  unfold idleApplied
  cases _ : s.get HIVE_KSESS_CTL.IDLE != 0 && s.get HIVE_KSESS_CTL.IDLE != idle
  · exact h
  · exact State.each_keeps h fun u q _ hu => hI u q hu

end

/-- CLOSE closes the session of the writing path (R94). -/
theorem ctlWritten_closes {p w : Nat} (hw : fieldOf w HIVE_KSESS_CTL.CLOSE = 1) : (ctlWritten s p w).get (Ses.CODE p) = 0
    ∧ (s.get (Ses.CODE p) = 1 → (ctlWritten s p w).get HIVE_KSESS_EVT.CLOSED = 1) := by
  let u := s.put HIVE_KSESS_CTL.IDLE (fieldOf w HIVE_KSESS_CTL.IDLE)
  have hasked : closeAsked s p w = codeCloses u p := by
    rw [closeAsked, hw]
    rfl
  refine ⟨idleApplied_keeps (I := fun v => v.get (Ses.CODE p) = 0) _ ?_ (fun v q hv => codeCloses_keeps_closed v q hv) _,
    fun hopen => idleApplied_keeps (I := fun v => v.get HIVE_KSESS_EVT.CLOSED = 1) _ ?_
      (fun v q hv => codeCloses_keeps_event v q hv) _⟩
  · rw [hasked]
    exact get_code_codeCloses u p
  · rw [hasked]
    exact get_closed_codeCloses u p ((State.get_put_ne _ _ (by simp only [Fld.id]; omega)).trans hopen)

/-- A word that asks for no close and brings no new IDLE leaves the sessions. -/
theorem ctlWritten_idle {p w : Nat} (hw : fieldOf w HIVE_KSESS_CTL.CLOSE = 0)
    (hidle : fieldOf w HIVE_KSESS_CTL.IDLE = s.get HIVE_KSESS_CTL.IDLE) (q : Nat) :
    (ctlWritten s p w).get (Ses.CODE q) = s.get (Ses.CODE q) := by
  have hasked : closeAsked s p w = s.put HIVE_KSESS_CTL.IDLE (fieldOf w HIVE_KSESS_CTL.IDLE) := by
    rw [closeAsked, hw]
    rfl
  have hsame : (closeAsked s p w).get HIVE_KSESS_CTL.IDLE = s.get HIVE_KSESS_CTL.IDLE := (get_idle_closeAsked s p w).trans hidle
  rw [ctlWritten, idleApplied, hsame, bne_self_eq_false, Bool.and_false, State.on_false, hasked]
  exact State.get_put_ne _ _ (by simp only [Fld.id]; omega)

/-- A new IDLE closes the session of every path that has been idle for as long (R94). -/
theorem ctlWritten_ends {p w q : Nat} (hp : p < 4) (hq : q < 4) (hzero : fieldOf w HIVE_KSESS_CTL.IDLE ≠ 0)
    (hnew : fieldOf w HIVE_KSESS_CTL.IDLE ≠ s.get HIVE_KSESS_CTL.IDLE)
    (hidle : 1000 * fieldOf w HIVE_KSESS_CTL.IDLE ≤ s.get (Ses.IDLE_T q)) : (ctlWritten s p w).get (Ses.CODE q) = 0 := by
  have hget := get_idle_closeAsked s p w
  have hclose : Frame (.or (.fields [HIVE_KSESS_CTL.IDLE]) (closeFp p)) s (closeAsked s p w) :=
    Frame.on ((Frame.refl _ s).put (by simp [Footprint.or]) _) _ fun _ h => codeCloses_frame h (Footprint.le_or_right _ _)
  have htime : (closeAsked s p w).get (Ses.IDLE_T q) = s.get (Ses.IDLE_T q) :=
    hclose.fld _ (by simp [Footprint.or, closeFp, Fld.id]; omega)
  have hmem : q ∈ idlePaths (closeAsked s p w) := by
    rw [idlePaths, List.mem_filter, hget, htime]
    exact ⟨List.mem_range.mpr hq, decide_eq_true hidle⟩
  rw [ctlWritten, idleApplied, hget, bne_iff_ne.mpr hzero, bne_iff_ne.mpr hnew, Bool.and_self, State.on_true]
  exact State.each_of_mem (I := fun _ => True) hmem trivial (fun _ _ _ _ => trivial) (fun u _ => get_code_codeCloses u q)
    fun u x _ _ hu => codeCloses_keeps_closed u x hu

section
variable {a : Access} {w : BitVec 32} (hs : served s = true)
include hs

/-- A write of HIVE_KSESS_CTL on a served path, with the word that takes effect and its code. -/
theorem exec_sessionClose : exec (.sessionClose a w) s = .next ((refusal (ctlWritten (touch s a) (pathNum a.path)
      (wordKept (touch s a) (keeperView s a) 0x00 HIVE_KSESS_CTL.IDLE w.toNat)) 0x00
      (codeKept (touch s a) (keeperView s a) 0x00 HIVE_KSESS_CTL.IDLE w.toNat)).put (Last.CODE (pathNum a.path))
      (codeKept (touch s a) (keeperView s a) 0x00 HIVE_KSESS_CTL.IDLE w.toNat)) := by
  refine congrArg Host.Outcome.next ((regOp_served hs).trans ?_)
  rw [ksessCtlWrite_eq]

/-- What a write of HIVE_KSESS_CTL leaves of the sessions. -/
theorem execSessionClose_next : ∃ t, exec (.sessionClose a w) s = .next t
    ∧ (∀ f : Fld, f.id < 0x2330000 * 32 → f.id ≠ (PAGE_STAT.REFUSED 0x00).id → f.id ≠ (PAGE_STAT.REFUSE_WHY 0x00).id → t.get f
        = (ctlWritten (touch s a) (pathNum a.path) (wordKept (touch s a) (keeperView s a) 0x00 HIVE_KSESS_CTL.IDLE w.toNat)).get f)
    ∧ Frame (.any [accessFp a 0x00, .fields ctlFields]) s t := by
  have hF : (accessFp a 0x00).le (.any [accessFp a 0x00, .fields ctlFields]) := Footprint.le_any (by simp)
  refine ⟨_, exec_sessionClose hs, fun f hf hr hw => ?_, ?_⟩
  · rw [get_put_code_ne _ _ _ hf, get_refusal hr hw]
  · exact Frame.putCode (Frame.refusal (ctlWritten_frame (touch_frame_le hF) (pathNum a.path).isLt (Footprint.le_any (by simp))) hF _)
      hF _

theorem execSessionClose_closes (hw : w.toNat.testBit 0 = true) : ∃ t, exec (.sessionClose a w) s = .next t
    ∧ t.get (Ses.CODE (pathNum a.path)) = 0 ∧ (s.get (Ses.CODE (pathNum a.path)) = 1 → t.get HIVE_KSESS_EVT.CLOSED = 1)
    ∧ Frame (.any [accessFp a 0x00, .fields ctlFields]) s t := by
  obtain ⟨t, hexec, hget, hframe⟩ := execSessionClose_next (a := a) (w := w) hs
  have hpath := (pathNum a.path).isLt
  have hclose : fieldOf (wordKept (touch s a) (keeperView s a) 0x00 HIVE_KSESS_CTL.IDLE w.toNat) HIVE_KSESS_CTL.CLOSE = 1 := by
    rw [fieldOf_wordKept_ne (by decide), fieldOf_eq]
    simpa [Nat.testBit_zero] using hw
  obtain ⟨hcode, hevent⟩ := ctlWritten_closes (s := touch s a) (p := pathNum a.path) hclose
  refine ⟨t, hexec, ?_, fun hopen => ?_, hframe⟩
  · rw [hget _ (by simp only [Fld.id]; omega) (by simp only [Fld.id]; omega) (by simp only [Fld.id]; omega)]
    exact hcode
  · rw [hget _ (by decide) (by decide) (by decide)]
    exact hevent ((get_touch_of_key s a (by simp only [Fld.id]; omega)).trans hopen)

theorem execSessionClose_worker (hw : w.toNat.testBit 0 = false) (hk : keeperView s a = false) :
    ∃ t, exec (.sessionClose a w) s = .next t ∧ (∀ q : Fin 4, t.get (Ses.CODE q) = s.get (Ses.CODE q))
      ∧ Frame (.any [accessFp a 0x00, .fields ctlFields]) s t := by
  obtain ⟨t, hexec, hget, hframe⟩ := execSessionClose_next (a := a) (w := w) hs
  rw [hk] at hget
  have hclose : fieldOf (wordKept (touch s a) false 0x00 HIVE_KSESS_CTL.IDLE w.toNat) HIVE_KSESS_CTL.CLOSE = 0 := by
    rw [fieldOf_wordKept_ne (by decide), fieldOf_eq]
    simpa [Nat.testBit_zero] using hw
  have hidle : fieldOf (wordKept (touch s a) false 0x00 HIVE_KSESS_CTL.IDLE w.toNat) HIVE_KSESS_CTL.IDLE
      = (touch s a).get HIVE_KSESS_CTL.IDLE := by
    rw [fieldOf_wordKept_head, keeperCode_of_refused (.inl rfl)]
    rfl
  refine ⟨t, hexec, fun q => ?_, hframe⟩
  rw [hget _ (by simp only [Fld.id]; omega) (by simp only [Fld.id]; omega) (by simp only [Fld.id]; omega),
    ctlWritten_idle hclose hidle q]
  exact get_touch_of_key s a (by simp only [Fld.id]; omega)

theorem execSessionClose_keeper (hk : keeperView s a = true) (hl : s.get (PAGE_LOCK.CFG 0x00) = 0) :
    ∃ t, exec (.sessionClose a w) s = .next t ∧ t.get HIVE_KSESS_CTL.IDLE = w.toNat / 256 % 256
      ∧ (w.toNat / 256 % 256 ≠ 0 → w.toNat / 256 % 256 ≠ s.get HIVE_KSESS_CTL.IDLE → ∀ q : Fin 4, q ≠ pathNum a.path →
          1000 * (w.toNat / 256 % 256) ≤ s.get (Ses.IDLE_T q) → t.get (Ses.CODE q) = 0)
      ∧ Frame (.any [accessFp a 0x00, .fields ctlFields]) s t := by
  obtain ⟨t, hexec, hget, hframe⟩ := execSessionClose_next (a := a) (w := w) hs
  rw [hk] at hget
  have hword : fieldOf (wordKept (touch s a) true 0x00 HIVE_KSESS_CTL.IDLE w.toNat) HIVE_KSESS_CTL.IDLE
      = w.toNat / 256 % 256 := by
    rw [fieldOf_wordKept_head, if_pos (keeperCode_of_keeper ((get_touch_of_key s a (by decide)).trans hl)), fieldOf_eq]
    rfl
  refine ⟨t, hexec, ?_, fun hzero hnew q hq hidle => ?_, hframe⟩
  · rw [hget _ (by decide) (by decide) (by decide), get_idle_ctlWritten, hword]
  · rw [hget _ (by simp only [Fld.id]; omega) (by simp only [Fld.id]; omega) (by simp only [Fld.id]; omega)]
    have htime : (touch s a).get (Ses.IDLE_T q) = s.get (Ses.IDLE_T q) :=
      get_touch s a (by have := Fin.val_ne_of_ne hq; simp only [Fld.id]; omega)
    exact ctlWritten_ends (pathNum a.path).isLt q.isLt (by rwa [hword]) (by rwa [hword, get_touch_of_key s a (by decide)])
      (by rwa [hword, htime])

end

/-- Settles O50: the commands of the pin session, of the session code and of the ends of sessions, one lemma each. -/
theorem keeperSessions : Obligations.KeeperSessions := by
  unfold Obligations.KeeperSessions
  intro s a w p
  refine ⟨execPinSessionOpen_next s, execPinSessionClose_next s, execKsessCodeLo_next w, fun hs hl himg hc =>
    execAttempt_opens hs hl ⟨himg, hc⟩, fun hs hl hc => execAttempt_fails hs hl fun hm => ?_, execAttempt_locked,
    execLockoutEnd_next, execSessionClose_closes, execSessionClose_worker, execSessionClose_keeper, execSessionIdleClose_off,
    execSessionIdleClose_next⟩
  exact hc.elim hm.1 fun hne => hne hm.2

end Sys2Proof.Machine
end

section
/-! SUPPORT. Register accesses (R75, R87, R90): a write of `PWR_RET_DATA` that repeats the word stored. -/

namespace Sys2Proof.Machine

/-- An access of the host path with the Keeper bit. -/
def hostKeeper : Access := ⟨.host, true, 0#16⟩

/-- A page locked by its CFG lock, with a Keeper session by code on the host path, and `PWR_RET_ADDR` at the first word of the
host's area; the check bits of that word show one error. -/
def retLocked : State :=
  { (((State.reset.put PWR_RET_ADDR.WORD 512).put Boot.PLL 1).put (Ses.CODE 0) 1).put (PAGE_LOCK.CFG 0x02) 1 with
    ecc := Sparse.set 0 [] (retKey 256) 1 }

/-- Refutes O49: a write of `PWR_RET_DATA` in the Keeper view that repeats the word stored is refused by no lock (R90), so in
the host's area of the locked page it stores the word with new check bits, which the last clause's frame leaves out. -/
theorem not_registerAccesses : ¬ Obligations.RegisterAccesses := by
  unfold Obligations.RegisterAccesses
  intro h
  obtain ⟨-, -, -, -, -, -, -, -, hret⟩ := h retLocked hostKeeper 0#20 0#32 0#8 0
  obtain ⟨-, -, hlocked⟩ := hret (by decide)
  obtain ⟨t, hexec, -, hframe⟩ := hlocked (.inr (.inl (by decide)))
  have ht : writeOp retLocked hostKeeper 0x02044 0 = t := Host.Outcome.next.inj hexec
  have hecc : Sparse.look 0 t.ecc (retKey 256) = 1 := hframe.ecc (retKey 256) (by decide)
  rw [← ht] at hecc
  exact absurd hecc (by decide)

end Sys2Proof.Machine
end

section
/-! SUPPORT. What the arrival of a broadcast may change, what goes on of it, and the check of a tagged value that it brings (R352,
R439, R441). -/

namespace Sys2Proof.Machine

variable {F : Footprint} {s t : State}

/-! ### The CRC of a frame (R439) -/

theorem crc32Bit_lt {c : Nat} (h : c < 2 ^ 32) : crc32Bit c < 2 ^ 32 := by
  unfold crc32Bit
  split
  · exact Nat.xor_lt_two_pow (by omega) (by decide)
  · omega

theorem crc32Byte_lt {c : Nat} (h : c < 2 ^ 32) (b : BitVec 8) : crc32Byte c b < 2 ^ 32 := by
  have hx : c ^^^ b.toNat < 2 ^ 32 := Nat.xor_lt_two_pow h (by have := b.isLt; omega)
  exact crc32Bit_lt (crc32Bit_lt (crc32Bit_lt (crc32Bit_lt (crc32Bit_lt (crc32Bit_lt (crc32Bit_lt (crc32Bit_lt hx)))))))

theorem crc32_lt (l : List (BitVec 8)) : crc32 l < 2 ^ 32 := by
  have hfold : ∀ {c}, c < 2 ^ 32 → l.foldl crc32Byte c < 2 ^ 32 := by
    induction l with
    | nil => exact id
    | cons b l ih => exact fun hc => ih (crc32Byte_lt hc b)
  exact Nat.xor_lt_two_pow (hfold (by decide)) (by decide)

/-- A broadcast with a payload of its own, whose CRC matches its bytes. -/
abbrev broadcastOf (f : SwFrame) (ty : Nat) (payload : List (BitVec 8)) : SwFrame :=
  sealed { f with bcast := true, payload := payload } ty

theorem crc_broadcastOf (f : SwFrame) (ty : Nat) (payload : List (BitVec 8)) : (broadcastOf f ty payload).crc.toNat
    = crc32 (frameBytes ty f.keeper true f.dst.toNat f.src.toNat f.ttl.toNat f.seq.toNat payload) :=
  (BitVec.toNat_ofNat ..).trans (Nat.mod_eq_of_lt (crc32_lt _))

/-! ### A broadcast arrives (R441) -/

/-- A broadcast of another node arrives at a port of the segment that runs, and nothing has been seen from its sender. -/
structure Heard (s : State) (f : SwFrame) : Prop where
  on : swOn s (bitOf f.west) = true
  segment : s.get (swMode (bitOf f.west)) = 0
  other : isOwn s f.src = false
  fresh : s.get (Sw.SEQN (f.src.toNat % 64)) = 0

/-- The state in which the frame is delivered: its port is locked, and the SEQ of its sender kept. -/
def arrived (s : State) (f : SwFrame) : State :=
  (s.put (swLock (bitOf f.west)) 1).put (Sw.SEQN (f.src.toNat % 64)) (f.seq.toNat + 1)

/-- A broadcast that is whole, fits its type and is new is delivered and goes on. -/
theorem receive_of_whole {f : SwFrame} {ty : Nat} {fits : Bool} (copy deliver : State → State) (fwd : List (BitVec 8))
    (hon : swOn s (bitOf f.west) = true) (hbcast : f.bcast = true) (hcrc : f.crc.toNat
      = crc32 (frameBytes ty f.keeper f.bcast f.dst.toNat f.src.toNat f.ttl.toNat f.seq.toNat f.payload)) (hfits : fits = true)
    (hsegment : s.get (swMode (bitOf f.west)) = 0) (hnew : (ownFrame s f ty || !seqNewer s f) = false) :
    receive s f ty fits copy deliver fwd = forward (deliver (arrived s f)) f ty fwd false := by
  unfold receive
  rw [if_neg (by simp [hon]), if_pos hcrc, if_neg (by simp [hfits]), if_pos hbcast, if_neg (by rw [hsegment]; decide),
    if_neg (by simp [hnew])]
  rfl

theorem receive_broadcastOf {f : SwFrame} (h : Heard s f) {ty : Nat} (hty : ty ≠ 1) {payload fwd : List (BitVec 8)} {fits : Bool}
    (hfits : fits = true) (copy deliver : State → State) : receive s (broadcastOf f ty payload) ty fits copy deliver fwd
      = forward (deliver (arrived s f)) (broadcastOf f ty payload) ty fwd false := by
  have hnewer : seqNewer s (broadcastOf f ty payload) = true := by
    show (s.get (Sw.SEQN (f.src.toNat % 64)) == 0 || _) = true
    rw [h.fresh]
    rfl
  have hown : ownFrame s (broadcastOf f ty payload) ty = false := by
    rw [ownFrame, show (ty == 1) = false from beq_eq_false_iff_ne.mpr hty, Bool.false_and, Bool.or_false]
    exact h.other
  exact receive_of_whole copy deliver fwd h.on rfl (crc_broadcastOf f ty payload) hfits h.segment (by rw [hown, hnewer]; rfl)

/-- What goes on of a broadcast. -/
def forwardFp : Footprint := .any [.fields [SW_CNT0.FWD_DROP], .parts [.sent]]

section
variable {f : SwFrame} {ty : Nat} {payload : List (BitVec 8)} {bad : Bool}

/-- A broadcast goes on or is dropped; nothing is raised. -/
theorem forward_frame (hb : f.bcast = true) : Frame forwardFp s (forward s f ty payload bad) := by
  unfold forward
  refine .ite (Frame.refl _ s) ?_
  rw [hb]
  exact (Frame.refl _ s).each _ fun u w _ h => .ite (h.inc (by decide)) (h.send (by decide) _)

/-- What was sent before a broadcast went on stays sent. -/
theorem mem_sent_forward (hb : f.bcast = true) {m : Sent} (hm : m ∈ s.sent) : m ∈ (forward s f ty payload bad).sent := by
  unfold forward
  split
  · exact hm
  · rw [hb]
    refine State.each_keeps (I := fun u => m ∈ u.sent) hm fun u w _ hu => ?_
    split
    · exact hu
    · exact List.mem_append_left _ hu

end

section
variable {f : SwFrame}

theorem arriveFp_fields : (Footprint.fields [swLock (bitOf f.west), Sw.SEQN (f.src.toNat % 64), SW_CNT0.FWD_DROP, SW_CNT0.CRC_ERR,
    SW_CNT1.NO_ROUTE, Flt.BURST 0x98]).le (arriveFp f) := Footprint.le_any (by simp)

theorem forwardFp_le_arriveFp : forwardFp.le (arriveFp f) := by
  refine Footprint.any_le ?_
  simp only [List.mem_cons, List.not_mem_nil, or_false, forall_eq_or_imp, forall_eq]
  exact ⟨Footprint.fields_le (by simp [arriveFp]), Footprint.le_any (by simp)⟩

theorem raiseFp_le_arriveFp : (raiseFp 0x98).le (arriveFp f) := Footprint.le_any (by simp)

theorem arrived_frame : Frame (arriveFp f) s (arrived s f) :=
  ((Frame.refl _ s).put (arriveFp_fields.field (by simp)) 1).put (arriveFp_fields.field (by simp)) _

theorem id_swLock (w : Nat) : (swLock w).id < 0x99000 * 32 := by
  unfold swLock
  split <;> decide

/-- The arrival itself changes no more than the lock of its port and the SEQ of its sender. -/
theorem get_arrived {g : Fld} (hlock : g.id ≠ (swLock (bitOf f.west)).id) (hseq : g.id ≠ (Sw.SEQN (f.src.toNat % 64)).id) :
    (arrived s f).get g = s.get g := (State.get_put_ne _ _ hseq).trans (State.get_put_ne _ _ hlock)

/-- The rosters, the totals and what the device holds of them are as before. -/
theorem get_arrived_inner {g : Fld} (hg : 0x2510000 * 32 ≤ g.id) : (arrived s f).get g = s.get g := by
  have hlock := id_swLock (bitOf f.west)
  exact get_arrived (by omega) (by simp only [Fld.id] at hg ⊢; omega)

/-- A register other than those of the ports is as before. -/
theorem get_arrived_register {g : Fld} (hg : g.id < 0x1000000 * 32) (hlock : ∀ w, g.id ≠ (swLock w).id) :
    (arrived s f).get g = s.get g := get_arrived (hlock _) (by simp only [Fld.id] at hg ⊢; omega)

end

/-! ### Raises in the Swarm page and in the TAG page -/

theorem raiseEvent_frame_swarm (h : Frame F s t) {i : Nat} (hi : i < 16) (hF : (raiseFp 0x98).le F) :
    Frame F s (raiseEvent t 0x98 i) :=
  raiseFault_frame_passive h _ hi (show pageKind 0x98 ≠ some 0x20 by decide) (fun _ _ _ => rfl) hF

theorem raiseEvent_frame_tag (h : Frame F s t) {i : Nat} (hi : i < 16) (hF : (raiseFp 0xA2).le F) :
    Frame F s (raiseEvent t 0xA2 i) :=
  raiseFault_frame_passive h _ hi (show pageKind 0xA2 ≠ some 0x20 by decide) (fun _ _ _ => rfl) hF

/-! ### The check of a tag (R346, R352, R356) -/

theorem tagFp_fields (p : Nat) : (Footprint.fields [PAGE_TAG_ERR.FLAG p, PAGE_TAG_ERR.ORIGIN p, PAGE_TAG_ERR.COUNT p,
    TAG_TOTAL.TOTAL, TAG_INJ.ARM, Tag.SEC]).le (tagFp p) := Footprint.le_any (by simp)

theorem raiseFp_le_tagFp (p : Nat) : (raiseFp 0xA2).le (tagFp p) := Footprint.le_any (by simp)

theorem fld_tagFp_evt (p : Nat) : (tagFp p).fld (PAGE_IRQ_STAT.EVT 0xA2).id = true := (raiseFp_le_tagFp p).fld _ (by decide)

theorem tagBurst_frame (h : Frame F s t) {p : Nat} (hF : (tagFp p).le F) : Frame F s (tagBurst t) := by
  have hsec : F.fld Tag.SEC.id = true := (Footprint.le_trans (tagFp_fields p) hF).field (by simp)
  unfold tagBurst
  exact (h.inc hsec).on _ fun _ h => raiseEvent_frame_tag h (by decide) (Footprint.le_trans (raiseFp_le_tagFp p) hF)

theorem tagError_frame (h : Frame F s t) {p : Nat} (hF : (tagFp p).le F) (tag : Nat) : Frame F s (tagError t p tag) := by
  refine h.within hF fun h => ?_
  have hfields := tagFp_fields p
  unfold tagError
  extract_lets rise s1
  have h1 : Frame (tagFp p) t s1 :=
    ((h.put (hfields.field (by simp)) 1).put (hfields.field (by simp)) _).inc (hfields.field (by simp))
  have hrise : Frame (tagFp p) t (s1.on rise (fun s => (s.inc TAG_TOTAL.TOTAL).evt 0xA2 0)) :=
    h1.on _ fun _ h => (h.inc (hfields.field (by simp))).evt (fld_tagFp_evt p) 0
  exact tagBurst_frame hrise (Footprint.le_refl _)

theorem tagCheck_frame (h : Frame F s t) {p : Nat} (hF : (tagFp p).le F) (v : Int) (tag : BitVec 16) :
    Frame F s (tagCheck t p v tag).2 := by
  refine h.within hF fun h => ?_
  unfold tagCheck
  split
  · exact h
  · extract_lets fires x s1
    have h1 : Frame (tagFp p) t s1 := h.on _ fun _ h => (h.put ((tagFp_fields p).field (by simp)) 0).evt (fld_tagFp_evt p) 1
    split
    · exact h1
    · exact tagError_frame h1 (Footprint.le_refl _) _

theorem residue_lt (v : Int) : residue v < 8191 := by
  unfold residue
  omega

theorem tagOf_six_lt (v : Int) : tagOf 6 v < 2 ^ 16 := by
  have := residue_lt v
  unfold tagOf
  omega

/-- A value with the tag of its birth passes where no injection is armed, and leaves nothing. -/
theorem tagCheck_tagOf {p : Nat} (harm : s.get TAG_INJ.ARM = 0) (v : Int) :
    tagCheck s p v (BitVec.ofNat 16 (tagOf 6 v)) = (true, s) := by
  have hlt := residue_lt v
  have htag : tagOf 6 v % 0x2000 = residue v := by
    rw [tagOf]
    omega
  simp [tagCheck, State.flag_of_get_zero harm, htag]

/-! ### What the raises of these pages leave -/

theorem Footprint.fld_fields_eq_false {l : List Fld} {i : Nat} (h : ∀ f ∈ l, i ≠ f.id) : (Footprint.fields l).fld i = false := by
  rw [fld_fields, List.contains_eq_mem, decide_eq_false_iff_not]
  intro hi
  obtain ⟨f, hf, rfl⟩ := List.mem_map.mp hi
  exact h f hf rfl

/-- A list of fields none of which is the Swarm's own beside the registers. -/
theorem fields_spare_inner {l : List Fld} (hl : ∀ f ∈ l, f.id < 0x2510000 * 32 ∨ 0x2600000 * 32 ≤ f.id) {i : Nat}
    (hi : 0x2510000 * 32 ≤ i ∧ i < 0x2600000 * 32) : (Footprint.fields l).fld i = false := by
  refine Footprint.fld_fields_eq_false fun f hf => ?_
  have := hl f hf
  omega

section
variable {i : Nat} (hi : 0x2510000 * 32 ≤ i ∧ i < 0x2600000 * 32)
include hi

theorem logFp_spares_inner : logFp.fld i = false :=
  fields_spare_inner (l := [HIVE_FLT_LOG.NEXT, HIVE_FLT_SEQ.SEQ, PAGE_IRQ_STAT.EVT 0x00, MEM_INJ.ARM 0, PAGE_IRQ_STAT.EVT 0xA0])
    (by decide) hi

theorem recordFp_spares_inner {p : Nat} (hp : p = 0x98 ∨ p = 0xA2) : (recordFp p).fld i = false := by
  have hclass : (classFp p).fld i = false := by
    rcases hp with rfl | rfl <;> exact fields_spare_inner (by decide) hi
  have herr : errFp.fld i = false := fields_spare_inner (by decide) hi
  simp only [recordFp, Footprint.fld_any_cons, Footprint.fld_any_nil, hclass, herr, logFp_spares_inner hi, Bool.or_self]

theorem raiseFp_spares_inner {p : Nat} (hp : p = 0x98 ∨ p = 0xA2) : (raiseFp p).fld i = false := by
  have haction : (actionFp p).fld i = false := by rcases hp with rfl | rfl <;> rfl
  simp only [raiseFp, Footprint.fld_any_cons, Footprint.fld_any_nil, recordFp_spares_inner hi hp, haction, Bool.or_self]

theorem tagFp_spares_inner : (tagFp 0x98).fld i = false := by
  have hfields : (Footprint.fields [PAGE_TAG_ERR.FLAG 0x98, PAGE_TAG_ERR.ORIGIN 0x98, PAGE_TAG_ERR.COUNT 0x98,
    TAG_TOTAL.TOTAL, TAG_INJ.ARM, Tag.SEC]).fld i = false := fields_spare_inner (by decide) hi
  rw [tagFp, Footprint.fld_any_cons, Footprint.fld_any_cons, Footprint.fld_any_nil, hfields, raiseFp_spares_inner hi (.inr rfl)]
  rfl

end

end Sys2Proof.Machine
end

section
/-! SUPPORT. Rosters and reports (R450): what a REPORT frame brings, and what the device sends and keeps of its own combs. -/

namespace Sys2Proof.Machine

variable {F : Footprint} {s t : State}

/-! ### Numbers in a payload -/

theorem toSigned_toNat (v : BitVec 16) : toSigned 16 v.toNat = v.toInt := by
  rw [BitVec.toInt_eq_toNat_cond, toSigned]
  have := v.isLt
  split <;> split <;> omega

/-! ### An entry of a report (R450) -/

/-- How many members the rosters hold. -/
def memberCount (s : State) : Nat := ((List.range 256).filter (fun k => s.get (Sw.MEM k) != 0)).length

/-- What an entry of a report may change of its member. -/
def memberFp (m : Nat) : Footprint := .fields [Sw.MEM m, Sw.WT m, Sw.DEF m, Sw.AGE m]

section
variable {node g c wt deficit : Nat}

theorem reportEntry_leaves : reportEntry s node g false c wt deficit = s.put (Sw.MEM (4 * node + c)) 0 := rfl

theorem reportEntry_full (hmem : s.get (Sw.MEM (4 * node + c)) = 0) (hfull : 64 ≤ memberCount s) :
    reportEntry s node g true c wt deficit = s.on (s.flag Sw.ISQ) (fun s => raiseEvent s 0x98 3) := by
  unfold reportEntry
  rw [if_neg (by decide), if_pos ⟨hmem, hfull⟩]

theorem reportEntry_joins (h : s.get (Sw.MEM (4 * node + c)) ≠ 0 ∨ memberCount s < 64) :
    reportEntry s node g true c wt deficit = (((s.put (Sw.MEM (4 * node + c)) (g + 1)).put (Sw.WT (4 * node + c)) wt).put
      (Sw.DEF (4 * node + c)) deficit).put (Sw.AGE (4 * node + c)) 0 := by
  unfold reportEntry
  rw [if_neg (by decide), if_neg (by unfold memberCount at h; omega)]

/-- What the entry of a member that joins holds of it. -/
theorem get_reportEntry_joins (hg : g < 16) (h : s.get (Sw.MEM (4 * node + c)) ≠ 0 ∨ memberCount s < 64) :
    (reportEntry s node g true c wt deficit).get (Sw.MEM (4 * node + c)) = g + 1
    ∧ (reportEntry s node g true c wt deficit).get (Sw.WT (4 * node + c)) = wt % 256
    ∧ (reportEntry s node g true c wt deficit).get (Sw.DEF (4 * node + c)) = deficit % 65536
    ∧ (reportEntry s node g true c wt deficit).get (Sw.AGE (4 * node + c)) = 0 := by
  rw [reportEntry_joins h]
  refine ⟨?_, ?_, ?_, State.get_put_same ..⟩
  · rw [State.get_put_ne _ _ (by simp only [Fld.id]; omega), State.get_put_ne _ _ (by simp only [Fld.id]; omega),
      State.get_put_ne _ _ (by simp only [Fld.id]; omega), State.get_put_same]
    exact Nat.mod_eq_of_lt (show g + 1 < 2 ^ 5 by omega)
  · rw [State.get_put_ne _ _ (by simp only [Fld.id]; omega), State.get_put_ne _ _ (by simp only [Fld.id]; omega),
      State.get_put_same]
    rfl
  · rw [State.get_put_ne _ _ (by simp only [Fld.id]; omega), State.get_put_same]
    rfl

/-- An entry of a report changes its member, or raises the report of full rosters. -/
theorem reportEntry_frame (h : Frame F s t) (en : Bool) (hm : (memberFp (4 * node + c)).le F) (hr : (raiseFp 0x98).le F) :
    Frame F s (reportEntry t node g en c wt deficit) := by
  unfold reportEntry
  refine .ite (h.put (hm.field (by simp)) 0) (.ite ?_ ?_)
  · exact h.on _ fun _ h => raiseEvent_frame_swarm h (by decide) hr
  · exact (((h.put (hm.field (by simp)) _).put (hm.field (by simp)) _).put (hm.field (by simp)) _).put (hm.field (by simp)) 0

end

/-! ### A REPORT frame (R450) -/

/-- The payload of a REPORT with the one entry of comb `c`. -/
abbrev reportPayload (g : Fin 16) (c : Fin 4) (en : Bool) (wt : BitVec 8) (d : BitVec 16) : List (BitVec 8) :=
  beBytes 1 1 ++ beBytes 1 (16 * g + 8 * bitOf en + c) ++ [wt] ++ beBytes 2 d.toNat ++ beBytes 2 (tagOf 6 d.toInt)

section
variable {f : SwFrame} {g : Fin 16} {c : Fin 4} {wt : BitVec 8} {d : BitVec 16}

/-- The state in which the entry is judged: its tag has been checked. -/
def reportChecked (s : State) (f : SwFrame) (d : BitVec 16) : State :=
  (tagCheck (arrived s f) 0x98 d.toInt (BitVec.ofNat 16 (tagOf 6 d.toInt))).2

/-- The deficit that the entry brings: a mismatch of its tag leaves the former one. -/
def reportDeficit (s : State) (f : SwFrame) (c : Fin 4) (d : BitVec 16) : Nat :=
  if (tagCheck (arrived s f) 0x98 d.toInt (BitVec.ofNat 16 (tagOf 6 d.toInt))).1 then d.toNat
  else (arrived s f).get (Sw.DEF (4 * (f.src.toNat % 64) + c))

theorem reportTake_payload (en : Bool) (node : Nat) :
    reportTake s node ((reportPayload g c en wt d).drop 1)
      = reportEntry (tagCheck s 0x98 d.toInt (BitVec.ofNat 16 (tagOf 6 d.toInt))).2 node g en c wt.toNat
          (if (tagCheck s 0x98 d.toInt (BitVec.ofNat 16 (tagOf 6 d.toInt))).1 then d.toNat else s.get (Sw.DEF (4 * node + c))) := by
  have hhead : field ((reportPayload g c en wt d).drop 1) 0 1 = 16 * g + 8 * bitOf en + c := by
    simp [field, beBytes, beNat]
    cases en <;> simp [bitOf] <;> omega
  have hweight : field ((reportPayload g c en wt d).drop 1) 1 1 = wt.toNat := by simp [field, beBytes, beNat]
  have hdeficit : field ((reportPayload g c en wt d).drop 1) 2 2 = d.toNat := by
    simp [field, beBytes, beNat]
    omega
  have htag : field ((reportPayload g c en wt d).drop 1) 4 2 = tagOf 6 d.toInt := by
    have := tagOf_six_lt d.toInt
    simp [field, beBytes, beNat]
    omega
  have hgroup : (16 * g.val + 8 * bitOf en + c) / 16 = g := by cases en <;> simp [bitOf] <;> omega
  have hcomb : (16 * g.val + 8 * bitOf en + c) % 4 = c := by cases en <;> simp [bitOf] <;> omega
  have hen : (16 * g.val + 8 * bitOf en + c).testBit 3 = en := by
    rw [Nat.testBit_eq_decide_div_mod_eq]
    cases en <;> simp [bitOf] <;> omega
  simp only [reportTake, hhead, hweight, hdeficit, htag, hgroup, hcomb, hen, toSigned_toNat]

/-- A REPORT frame with one entry is that entry, and goes on. -/
theorem exec_report (h : Heard s f) (en : Bool) : exec (.report (broadcastOf f 3 (reportPayload g c en wt d))) s
    = .next (forward (reportEntry (reportChecked s f d) (f.src.toNat % 64) g en c wt.toNat (reportDeficit s f c d))
        (broadcastOf f 3 (reportPayload g c en wt d)) 3 (reportPayload g c en wt d) false) := by
  have hcount : field (reportPayload g c en wt d) 0 1 = 1 := by simp [field, beBytes, beNat]
  have hlength : (reportPayload g c en wt d).length = 7 := by simp [beBytes]
  refine congrArg Host.Outcome.next ((receive_broadcastOf h (by decide) ?_ _ _).trans ?_)
  · show ((reportPayload g c en wt d).length == max 4 (1 + 6 * field (reportPayload g c en wt d) 0 1)
      && decide (field (reportPayload g c en wt d) 0 1 ≤ 4)) = true
    rw [hcount, hlength]
    decide
  · show forward ((arrived s f).each (List.range (field (reportPayload g c en wt d) 0 1)) _) _ _ _ _ = _
    rw [hcount]
    show forward (reportTake (arrived s f) (f.src.toNat % 64) ((reportPayload g c en wt d).drop 1)) _ _ _ _ = _
    rw [reportTake_payload]
    rfl

/-! #### The state in which the entry is judged -/

/-- What a REPORT with an entry of comb `c` may change. -/
def reportFp (f : SwFrame) (c : Fin 4) : Footprint :=
  .any [arriveFp f, tagFp 0x98, memberFp (4 * (f.src.toNat % 64) + c)]

theorem arriveFp_le_reportFp : (arriveFp f).le (reportFp f c) := Footprint.le_any (by simp)

theorem reportChecked_frame : Frame (reportFp f c) s (reportChecked s f d) :=
  tagCheck_frame (arrived_frame.mono arriveFp_le_reportFp) (Footprint.le_any (by simp)) _ _

/-- The rosters are as before, and what the device is in the segment. -/
theorem get_reportChecked_inner {q : Fld} (hq : 0x2510000 * 32 ≤ q.id ∧ q.id < 0x2600000 * 32) :
    (reportChecked s f d).get q = s.get q :=
  ((tagCheck_frame (Frame.refl _ _) (Footprint.le_refl _) _ _).fld q (tagFp_spares_inner hq)).trans (get_arrived_inner hq.1)

/-- How many members there are follows from the rosters. -/
theorem memberCount_congr (h : ∀ m < 256, t.get (Sw.MEM m) = s.get (Sw.MEM m)) : memberCount t = memberCount s := by
  unfold memberCount
  rw [List.filter_congr fun m hm => by rw [h m (List.mem_range.mp hm)]]

theorem get_mem_reportChecked {m : Nat} (hm : m < 256) : (reportChecked s f d).get (Sw.MEM m) = s.get (Sw.MEM m) :=
  get_reportChecked_inner (by simp only [Fld.id]; omega)

theorem muted_reportChecked : muted (reportChecked s f d) 0x98 = muted s 0x98 := by
  have hcheck : Frame (tagFp 0x98) (arrived s f) (reportChecked s f d) := tagCheck_frame (Frame.refl _ _) (Footprint.le_refl _) _ _
  refine muted_congr ((hcheck.fld _ (by decide)).trans ?_) ((hcheck.fld _ (by decide)).trans ?_)
  · refine get_arrived_register (by decide) fun w => ?_
    unfold swLock
    split <;> decide
  · have hlock := id_swLock (bitOf f.west)
    exact get_arrived (by simp only [Fld.id] at hlock ⊢; omega) (by simp only [Fld.id]; omega)

/-- What the frame leaves, from what the entry does: going on changes nothing of a member, and no cause. -/
theorem forward_reportFp {u : State} (h : Frame (reportFp f c) s u) {ty : Nat} {payload fwd : List (BitVec 8)} :
    Frame (reportFp f c) s (forward u (broadcastOf f ty payload) ty fwd false) :=
  h.trans ((forward_frame rfl).mono (Footprint.le_trans forwardFp_le_arriveFp arriveFp_le_reportFp))

/-- Going on leaves what the Swarm keeps beside the registers. -/
theorem get_forward_inner {q : Fld} (hq : 0x2510000 * 32 ≤ q.id) {ty : Nat} {payload fwd : List (BitVec 8)} {bad : Bool} :
    (forward s (broadcastOf f ty payload) ty fwd bad).get q = s.get q := by
  have hne : q.id ≠ SW_CNT0.FWD_DROP.id := by
    simp only [Fld.id] at hq ⊢
    omega
  exact (forward_frame rfl).fld q (by simp [forwardFp, hne])

theorem reportEntry_reportFp (en : Bool) (n : Nat) : Frame (reportFp f c) s
    (reportEntry (reportChecked s f d) (f.src.toNat % 64) g en c wt.toNat n) :=
  reportEntry_frame reportChecked_frame en (Footprint.le_any (by simp))
    (Footprint.le_trans raiseFp_le_arriveFp arriveFp_le_reportFp)

/-! #### The three entries -/

/-- A comb without EN leaves its roster. -/
theorem execReport_leaves (h : Heard s f) : ∃ t, exec (.report (broadcastOf f 3 (reportPayload g c false wt d))) s = .next t
    ∧ t.get (Sw.MEM (4 * (f.src.toNat % 64) + c)) = 0 ∧ Frame (reportFp f c) s t := by
  refine ⟨_, exec_report h false, ?_, forward_reportFp (reportEntry_reportFp false _)⟩
  rw [get_forward_inner (by simp only [Fld.id]; omega), reportEntry_leaves, State.get_put_same]
  rfl

/-- A comb with EN joins the roster of its group, while the rosters have room. -/
theorem execReport_joins (h : Heard s f)
    (hroom : s.get (Sw.MEM (4 * (f.src.toNat % 64) + c)) ≠ 0 ∨ memberCount s < 64) :
    ∃ t, exec (.report (broadcastOf f 3 (reportPayload g c true wt d))) s = .next t
      ∧ t.get (Sw.MEM (4 * (f.src.toNat % 64) + c)) = g + 1 ∧ t.get (Sw.WT (4 * (f.src.toNat % 64) + c)) = wt.toNat
      ∧ t.get (Sw.AGE (4 * (f.src.toNat % 64) + c)) = 0
      ∧ (s.get TAG_INJ.ARM = 0 → t.get (Sw.DEF (4 * (f.src.toNat % 64) + c)) = d.toNat) ∧ Frame (reportFp f c) s t := by
  have hm : 4 * (f.src.toNat % 64) + c.val < 256 := by omega
  have hchecked : (reportChecked s f d).get (Sw.MEM (4 * (f.src.toNat % 64) + c)) ≠ 0 ∨ memberCount (reportChecked s f d) < 64 := by
    rw [get_mem_reportChecked hm, memberCount_congr fun m hm => get_mem_reportChecked hm]
    exact hroom
  obtain ⟨hmem, hwt, hdef, hage⟩ := get_reportEntry_joins (wt := wt.toNat) (deficit := reportDeficit s f c d) g.isLt hchecked
  refine ⟨_, exec_report h true, ?_, ?_, ?_, fun harm => ?_, forward_reportFp (reportEntry_reportFp true _)⟩
  · exact (get_forward_inner (by simp only [Fld.id]; omega)).trans hmem
  · exact ((get_forward_inner (by simp only [Fld.id]; omega)).trans hwt).trans (Nat.mod_eq_of_lt wt.isLt)
  · exact (get_forward_inner (by simp only [Fld.id]; omega)).trans hage
  · have harm' : (arrived s f).get TAG_INJ.ARM = 0 := by
      refine (get_arrived_register (by decide) fun w => ?_).trans harm
      unfold swLock
      split <;> decide
    have hbrings : reportDeficit s f c d = d.toNat := by rw [reportDeficit, tagCheck_tagOf harm']; rfl
    rw [get_forward_inner (by simp only [Fld.id]; omega), hdef, hbrings]
    exact Nat.mod_eq_of_lt d.isLt

/-- A member beyond the 64 is not taken, and the queen says so. -/
theorem execReport_full (h : Heard s f) (hmem : s.get (Sw.MEM (4 * (f.src.toNat % 64) + c)) = 0) (hfull : 64 ≤ memberCount s) :
    ∃ t, exec (.report (broadcastOf f 3 (reportPayload g c true wt d))) s = .next t
      ∧ t.get (Sw.MEM (4 * (f.src.toNat % 64) + c)) = 0
      ∧ (s.get Sw.ISQ = 1 → muted s 0x98 = false → (t.get (PAGE_FLT_STAT.CAUSE 0x98)).testBit 3 = true)
      ∧ Frame (reportFp f c) s t := by
  have hm : 4 * (f.src.toNat % 64) + c.val < 256 := by omega
  have hentry := reportEntry_full (g := g) (wt := wt.toNat) (deficit := reportDeficit s f c d)
    ((get_mem_reportChecked (f := f) (d := d) hm).trans hmem)
    (by rw [memberCount_congr fun m hm => get_mem_reportChecked hm]; exact hfull)
  have hraised : Frame (raiseFp 0x98) (reportChecked s f d)
      (reportEntry (reportChecked s f d) (f.src.toNat % 64) g true c wt.toNat (reportDeficit s f c d)) := by
    rw [hentry]
    exact (Frame.refl _ _).on _ fun _ h => raiseEvent_frame_swarm h (by decide) (Footprint.le_refl _)
  refine ⟨_, exec_report h true, ?_, fun hq hmuted => ?_, forward_reportFp (reportEntry_reportFp true _)⟩
  · rw [get_forward_inner (by simp only [Fld.id]; omega),
      hraised.fld _ (raiseFp_spares_inner (by simp only [Fld.id]; omega) (.inl rfl)), get_mem_reportChecked hm, hmem]
  · have hqueen : (reportChecked s f d).flag Sw.ISQ = true := State.flag_of_get ((get_reportChecked_inner (by decide)).trans hq)
    rw [(forward_frame rfl).fld _ (by decide), hentry, hqueen, State.on_true]
    exact testBit_cause_raiseEvent_passive (by decide) (muted_reportChecked.trans hmuted) (by decide) (fun _ _ _ => rfl) (by decide)
      (by decide)

end

end Sys2Proof.Machine
end

section
/-! SUPPORT. GROUP_SET (R450, R451): what it takes from the rosters and sets of the totals, where it arrives and where the device
sends it. -/

namespace Sys2Proof.Machine

variable {F : Footprint} {s t : State}

/-! ### Members that are forgotten (R450) -/

/-- The rosters. -/
def rosterFp : Footprint := .fields ((List.range 256).map Sw.MEM)

/-- The members of group `g` that are not reachable leave the roster, where `b` asks for it. -/
def forgotten (s : State) (b : Bool) (g : Nat) : State :=
  s.on b (fun s => s.each ((roster s g).filter (fun m => !memReach s m)) (fun s m => s.put (Sw.MEM m) 0))

theorem mem_roster {g m : Nat} : m ∈ roster s g ↔ m < 256 ∧ s.get (Sw.MEM m) = g + 1 := by simp [roster]

theorem get_mem_each_put (l : List Nat) (m : Nat) :
    (s.each l (fun s m => s.put (Sw.MEM m) 0)).get (Sw.MEM m) = if m ∈ l then 0 else s.get (Sw.MEM m) := by
  induction l generalizing s with
  | nil => rfl
  | cons x l ih =>
    rw [State.each_cons, ih]
    by_cases hx : m = x
    · subst hx
      rw [State.get_put_same]
      simp
    · rw [State.get_put_ne _ _ (by simp only [Fld.id]; omega)]
      simp [hx]

theorem get_mem_forgotten (b : Bool) (g : Nat) {m : Nat} (hm : m < 256) : (forgotten s b g).get (Sw.MEM m)
    = if b = true ∧ s.get (Sw.MEM m) = g + 1 ∧ memReach s m = false then 0 else s.get (Sw.MEM m) := by
  cases b with
  | false => simp [forgotten]
  | true =>
    rw [forgotten, State.on_true, get_mem_each_put]
    simp [mem_roster, hm]

theorem forgotten_frame (h : Frame F s t) (hF : rosterFp.le F) (b : Bool) (g : Nat) : Frame F s (forgotten t b g) :=
  h.on b fun _ h => h.each _ fun _ m hm h => h.put (hF.field (List.mem_map.mpr
    ⟨m, List.mem_range.mpr (mem_roster.mp (List.mem_of_mem_filter hm)).1, rfl⟩)) 0

theorem rosterFp_spares {i : Nat} (hi : i < 0x2550000 * 32 ∨ 0x2560000 * 32 ≤ i) : rosterFp.fld i = false := by
  refine Footprint.fld_fields_eq_false fun f hf => ?_
  obtain ⟨m, hm, rfl⟩ := List.mem_map.mp hf
  have := List.mem_range.mp hm
  simp only [Fld.id]
  omega

/-! ### A total in force (R451, R460) -/

/-- What a total that changes may change. -/
def totalFp (g : Nat) : Footprint := .fields [Sw.TOTAL g, PAGE_IRQ_STAT.EVT 0x98]

theorem totalSet_frame (h : Frame F s t) {g : Nat} (hF : (totalFp g).le F) (v : Nat) : Frame F s (totalSet t g v) := by
  unfold totalSet
  exact .ite h ((h.put (hF.field (by simp)) v).evt (hF.field (by simp)) 10)

theorem get_totalSet (s : State) (g v : Nat) : (totalSet s g v).get (Sw.TOTAL g) = v % 65536 := by
  unfold totalSet
  split
  next h => exact h
  next => exact (State.get_put_ne _ _ (by simp only [Fld.id]; omega)).trans (State.get_put_same ..)

/-- A total that changes sets its event. -/
theorem testBit_evt_totalSet {g v : Nat} (h : s.get (Sw.TOTAL g) ≠ v % 65536) :
    ((totalSet s g v).get (PAGE_IRQ_STAT.EVT 0x98)).testBit 10 = true := by
  rw [totalSet, if_neg h]
  exact testBit_get_evt (by decide) (by decide)

/-! ### What a GROUP_SET does (R450, R451) -/

section
variable {b v : Nat}

theorem groupSet_eq (s : State) (b v : Nat) : groupSet s b v
    = (forgotten s (b.testBit 7) (b % 16)).on (s.flag Sw.ISQ) (fun s => totalSet s (b % 16) v) := by
  have hqueen : (forgotten s (b.testBit 7) (b % 16)).flag Sw.ISQ = s.flag Sw.ISQ :=
    State.flag_congr ((forgotten_frame (Frame.refl _ s) (Footprint.le_refl _) _ _).fld _ (rosterFp_spares (by decide)))
  rw [← hqueen]
  rfl

theorem groupSet_frame (h : Frame F s t) (hr : rosterFp.le F) (ht : (totalFp (b % 16)).le F) : Frame F s (groupSet t b v) := by
  rw [groupSet_eq]
  exact (forgotten_frame h hr _ _).on _ fun _ h => totalSet_frame h ht v

theorem get_mem_groupSet {m : Nat} (hm : m < 256) : (groupSet s b v).get (Sw.MEM m)
    = if b.testBit 7 = true ∧ s.get (Sw.MEM m) = b % 16 + 1 ∧ memReach s m = false then 0 else s.get (Sw.MEM m) := by
  have htotal : ∀ u : State, Frame (totalFp (b % 16)) u (u.on (s.flag Sw.ISQ) (fun u => totalSet u (b % 16) v)) := fun u =>
    (Frame.refl _ u).on _ fun _ h => totalSet_frame h (Footprint.le_refl _) v
  rw [groupSet_eq, (htotal _).fld _ (by simp [totalFp, Fld.id]; omega), get_mem_forgotten _ _ hm]

/-- A GROUP_SET reaches the total of the queen alone. -/
theorem get_total_groupSet : (groupSet s b v).get (Sw.TOTAL (b % 16)) = if s.get Sw.ISQ = 1 then v % 65536 else s.get (Sw.TOTAL (b % 16)) := by
  have hlt : s.get Sw.ISQ < 2 := State.get_lt s _
  rw [groupSet_eq]
  by_cases hq : s.get Sw.ISQ = 1
  · rw [State.flag_of_get hq, State.on_true, get_totalSet, if_pos hq]
  · rw [State.flag_of_get_zero (by omega), State.on_false, if_neg hq]
    exact (forgotten_frame (Frame.refl _ s) (Footprint.le_refl _) _ _).fld _ (rosterFp_spares (by simp only [Fld.id]; omega))

theorem testBit_evt_groupSet (hq : s.get Sw.ISQ = 1) (h : s.get (Sw.TOTAL (b % 16)) ≠ v % 65536) :
    ((groupSet s b v).get (PAGE_IRQ_STAT.EVT 0x98)).testBit 10 = true := by
  rw [groupSet_eq, State.flag_of_get hq, State.on_true]
  refine testBit_evt_totalSet ?_
  rw [(forgotten_frame (Frame.refl _ s) (Footprint.le_refl _) _ _).fld _ (rosterFp_spares (by simp only [Fld.id]; omega))]
  exact h

end

/-! ### A GROUP_SET frame -/

section
variable {f : SwFrame} {g : Fin 16} {forget : Bool} {total : BitVec 16}

/-- The payload of a GROUP_SET. -/
abbrev groupPayload (g : Fin 16) (forget : Bool) (total : BitVec 16) : List (BitVec 8) :=
  beBytes 1 (128 * bitOf forget + g) ++ beBytes 2 total.toNat ++ [0]

theorem groupHead (g : Fin 16) (forget : Bool) : (128 * bitOf forget + g.val) % 16 = g
    ∧ (128 * bitOf forget + g.val).testBit 7 = forget ∧ 128 * bitOf forget + g.val < 256 := by
  revert g forget
  decide

theorem exec_groupSet (h : Heard s f) : exec (.groupSet (broadcastOf f 7 (groupPayload g forget total))) s
    = .next (forward (groupSet (arrived s f) (128 * bitOf forget + g) total.toNat) (broadcastOf f 7 (groupPayload g forget total)) 7
        (groupPayload g forget total) false) := by
  have hhead : field (groupPayload g forget total) 0 1 = 128 * bitOf forget + g := by
    have := (groupHead g forget).2.2
    simp [field, beBytes, beNat]
    omega
  have htotal : field (groupPayload g forget total) 1 2 = total.toNat := by
    simp [field, beBytes, beNat]
    omega
  refine congrArg Host.Outcome.next ((receive_broadcastOf h (by decide) rfl _ _).trans ?_)
  show forward (groupSet (arrived s f) (field (groupPayload g forget total) 0 1) (field (groupPayload g forget total) 1 2)) _ _ _ _ = _
  rw [hhead, htotal]
  rfl

/-- The register of a share's configuration is as before the arrival. -/
theorem memReach_arrived {m : Nat} : memReach (arrived s f) m = memReach s m := by
  have hrep : (arrived s f).get SW_SHARE_CFG.REP = s.get SW_SHARE_CFG.REP := by
    refine get_arrived_register (by decide) fun w => ?_
    unfold swLock
    split <;> decide
  rw [memReach, memReach, hrep, get_arrived_inner (by simp only [Fld.id]; omega)]

/-- What a GROUP_SET frame for group `g` may change. -/
def groupFp (f : SwFrame) (g : Fin 16) : Footprint := .any [arriveFp f, .fields (Sw.TOTAL g :: (List.range 256).map Sw.MEM)]

theorem arriveFp_le_groupFp : (arriveFp f).le (groupFp f g) := Footprint.le_any (by simp)

theorem groupSet_arrived_frame {b v : Nat} (hb : b % 16 = g) : Frame (groupFp f g) s (groupSet (arrived s f) b v) := by
  have hfields : (Footprint.fields (Sw.TOTAL g :: (List.range 256).map Sw.MEM)).le (groupFp f g) := Footprint.le_any (by simp)
  have harrive : (arriveFp f).le (groupFp f g) := arriveFp_le_groupFp
  refine groupSet_frame (arrived_frame.mono harrive) (Footprint.fields_le fun q hq => hfields.field (List.mem_cons_of_mem _ hq)) ?_
  refine Footprint.fields_le fun q hq => ?_
  rw [hb] at hq
  rcases List.mem_cons.mp hq with rfl | hq
  · exact hfields.field List.mem_cons_self
  · rw [List.mem_singleton.mp hq]
    exact harrive.fld _ (raiseFp_le_arriveFp.fld _ (by decide))

/-- What every GROUP_SET frame answers. -/
theorem execGroupSet_next (h : Heard s f) : ∃ t, exec (.groupSet (broadcastOf f 7 (groupPayload g forget total))) s = .next t
    ∧ t.get (Sw.TOTAL g) = (if s.get Sw.ISQ = 1 then total.toNat else s.get (Sw.TOTAL g))
    ∧ (s.get Sw.ISQ = 1 → total.toNat ≠ s.get (Sw.TOTAL g) → (t.get (PAGE_IRQ_STAT.EVT 0x98)).testBit 10 = true)
    ∧ (∀ m : Fin 256, t.get (Sw.MEM m)
        = (if forget = true ∧ s.get (Sw.MEM m) = g + 1 ∧ memReach s m = false then 0 else s.get (Sw.MEM m)))
    ∧ Frame (groupFp f g) s t := by
  obtain ⟨hg, hforget, -⟩ := groupHead g forget
  have hqueen : (arrived s f).get Sw.ISQ = s.get Sw.ISQ := get_arrived_inner (by decide)
  have htotal : (arrived s f).get (Sw.TOTAL g) = s.get (Sw.TOTAL g) := get_arrived_inner (by simp only [Fld.id]; omega)
  have hmod : total.toNat % 65536 = total.toNat := Nat.mod_eq_of_lt total.isLt
  refine ⟨_, exec_groupSet h, ?_, fun hq hne => ?_, fun m => ?_, ?_⟩
  · have hset := get_total_groupSet (s := arrived s f) (b := 128 * bitOf forget + g) (v := total.toNat)
    rw [hg, hqueen, htotal, hmod] at hset
    rw [get_forward_inner (by simp only [Fld.id]; omega), hset]
  · rw [(forward_frame rfl).fld _ (by decide)]
    refine testBit_evt_groupSet (hqueen.trans hq) ?_
    rw [hg, htotal, hmod]
    exact hne.symm
  · rw [get_forward_inner (by simp only [Fld.id]; omega), get_mem_groupSet m.isLt, hg, hforget, memReach_arrived,
      get_arrived_inner (by simp only [Fld.id]; omega)]
  · exact (groupSet_arrived_frame hg).trans ((forward_frame rfl).mono (Footprint.le_trans forwardFp_le_arriveFp arriveFp_le_groupFp))

/-- The queen adopts the total. -/
theorem execGroupSet_queen (h : Heard s f) (hq : s.get Sw.ISQ = 1) :
    ∃ t, exec (.groupSet (broadcastOf f 7 (groupPayload g forget total))) s = .next t ∧ t.get (Sw.TOTAL g) = total.toNat
      ∧ (total.toNat ≠ s.get (Sw.TOTAL g) → (t.get (PAGE_IRQ_STAT.EVT 0x98)).testBit 10 = true)
      ∧ (∀ m : Fin 256, t.get (Sw.MEM m)
          = (if forget = true ∧ s.get (Sw.MEM m) = g + 1 ∧ memReach s m = false then 0 else s.get (Sw.MEM m)))
      ∧ Frame (groupFp f g) s t := by
  obtain ⟨t, ht, htotal, hevt, hmem, hframe⟩ := execGroupSet_next (g := g) (forget := forget) (total := total) h
  exact ⟨t, ht, htotal.trans (if_pos hq), hevt hq, hmem, hframe⟩

/-- Any other device keeps its total. -/
theorem execGroupSet_other (h : Heard s f) (hq : s.get Sw.ISQ = 0) :
    ∃ t, exec (.groupSet (broadcastOf f 7 (groupPayload g forget total))) s = .next t ∧ t.get (Sw.TOTAL g) = s.get (Sw.TOTAL g)
      ∧ (∀ m : Fin 256, t.get (Sw.MEM m)
          = (if forget = true ∧ s.get (Sw.MEM m) = g + 1 ∧ memReach s m = false then 0 else s.get (Sw.MEM m)))
      ∧ Frame (groupFp f g) s t := by
  obtain ⟨t, ht, htotal, -, hmem, hframe⟩ := execGroupSet_next (g := g) (forget := forget) (total := total) h
  exact ⟨t, ht, htotal.trans (if_neg (by rw [hq]; decide)), hmem, hframe⟩

end

end Sys2Proof.Machine
end

section
/-! SUPPORT. What the device broadcasts (R439 to R441), and the registers that send GROUP_SET (R89, R450, R451, R461). -/

namespace Sys2Proof.Machine

variable {F : Footprint} {s t : State}

/-! ### A broadcast of the device (R439, R441) -/

/-- What a broadcast of the device may change. -/
def castFp : Footprint := .any [.fields [Sw.SEQ], .parts [.sent]]

/-- The fields by which a port carries frames of the segment, and the address and SEQ of a frame. -/
def castFields : List Fld :=
  [Boot.PLL, Boot.HELD, Clk.LOST 73, Clk.LOST 74, Clk.LOST 75, Sleep.STATE, Sleep.STEP, SW_CTL.EN, PAGE_STAT.ABSENT 0x98,
    SW_PORT_E.MODE, SW_PORT_W.MODE, SW_PORT_E.UP, SW_PORT_W.UP, SW_ADDR.SEG, SW_ADDR.NODE_ACT, SW_ADDR.VALID, Sw.SEQ]

/-- The frames of a broadcast, one on each port of the segment. -/
def castSent (s : State) (ty : Nat) (payload : List (BitVec 8)) : List Sent :=
  ([0, 1].filter (swLocal s)).map (fun p =>
    frameOn p (frameBytes ty false true (s.get SW_ADDR.SEG * 64) (ownAddr s) 255 (s.get Sw.SEQ) payload))

theorem sent_each_sendBytes (s : State) (l : List Nat) (bytes : List (BitVec 8)) :
    (s.each l (fun s w => sendBytes s w bytes false)).sent = s.sent ++ l.map (fun w => frameOn w bytes) := by
  induction l generalizing s with
  | nil => simp
  | cons w l ih =>
    rw [State.each_cons, ih]
    simp [sendBytes, State.send, frameOn]

theorem sent_broadcast (s : State) (ty : Nat) (payload : List (BitVec 8)) :
    (broadcast s ty payload).sent = s.sent ++ castSent s ty payload := sent_each_sendBytes ..

theorem broadcast_frame (h : Frame F s t) (hF : castFp.le F) (ty : Nat) (payload : List (BitVec 8)) :
    Frame F s (broadcast t ty payload) := by
  refine h.within hF fun h => ?_
  have hseq : Frame castFp t (t.wrapInc Sw.SEQ) := h.wrapInc (by decide)
  exact hseq.each _ fun _ _ _ h => h.send (by decide) _

theorem get_seq_broadcast (s : State) (ty : Nat) (payload : List (BitVec 8)) :
    (broadcast s ty payload).get Sw.SEQ = (s.get Sw.SEQ + 1) % 256 := by
  have hsent : ∀ u : State, ∀ l : List Nat, ∀ bytes, (u.each l (fun s w => sendBytes s w bytes false)).get Sw.SEQ = u.get Sw.SEQ :=
    fun u l bytes => State.each_keeps (I := fun v => v.get Sw.SEQ = u.get Sw.SEQ) rfl fun _ _ _ hv => hv
  exact (hsent ..).trans (State.get_put_same ..)

section
variable (h : ∀ f ∈ castFields, t.get f = s.get f)
include h

/-- Whether a port runs follows from `castFields`. -/
theorem swOn_congr {w : Nat} (hw : w < 2) : swOn t w = swOn s w := by
  have hmode : t.get (swMode w) = s.get (swMode w) := by interval_cases w <;> exact h _ (by decide)
  have hclock : t.get (Clk.LOST (74 + w)) = s.get (Clk.LOST (74 + w)) := by interval_cases w <;> exact h _ (by decide)
  have hserved : served t = served s := by
    simp only [served, State.flag, h Boot.PLL (by decide), h Boot.HELD (by decide), h (Clk.LOST 73) (by decide),
      h Sleep.STATE (by decide), h Sleep.STEP (by decide)]
  have habsent : absent t 0x98 = absent s 0x98 := State.flag_congr (h _ (by decide))
  simp only [swOn, State.flag, hmode, hclock, hserved, habsent, h SW_CTL.EN (by decide)]

/-- Whether it carries frames of the segment does too. -/
theorem swLocal_congr {w : Nat} (hw : w < 2) : swLocal t w = swLocal s w := by
  have hmode : t.get (swMode w) = s.get (swMode w) := by interval_cases w <;> exact h _ (by decide)
  have hup : t.get (swUp w) = s.get (swUp w) := by interval_cases w <;> exact h _ (by decide)
  simp only [swLocal, swOn_congr h hw, State.flag, hmode, hup]

theorem filter_swLocal_congr : [0, 1].filter (swLocal t) = [0, 1].filter (swLocal s) :=
  List.filter_congr fun w hw => swLocal_congr h (by simp at hw; omega)

theorem castSent_congr (ty : Nat) (payload : List (BitVec 8)) : castSent t ty payload = castSent s ty payload := by
  simp only [castSent, filter_swLocal_congr h, ownAddr, ownNode, h SW_ADDR.SEG (by decide), h SW_ADDR.NODE_ACT (by decide),
    h Sw.SEQ (by decide)]

end

/-! ### GROUP_SET of the device (R451) -/

/-- Without FORGET the rosters stay. -/
theorem groupSet_of_kept {b v : Nat} (hb : b.testBit 7 = false) :
    groupSet s b v = s.on (s.flag Sw.ISQ) (fun s => totalSet s (b % 16) v) := by
  rw [groupSet_eq, hb]
  rfl

/-- With the total in force only the rosters follow. -/
theorem groupSet_of_total {b v : Nat} (hv : s.get (Sw.TOTAL (b % 16)) = v) : groupSet s b v = forgotten s (b.testBit 7) (b % 16) := by
  have hlt : v < 65536 := hv ▸ State.get_lt s _
  have htotal : (forgotten s (b.testBit 7) (b % 16)).get (Sw.TOTAL (b % 16)) = v % 65536 := by
    rw [(forgotten_frame (Frame.refl _ s) (Footprint.le_refl _) _ _).fld _ (rosterFp_spares (by simp only [Fld.id]; omega)), hv,
      Nat.mod_eq_of_lt hlt]
  rw [groupSet_eq]
  cases s.flag Sw.ISQ with
  | false => rfl
  | true => rw [State.on_true, totalSet, if_pos htotal]

theorem sent_groupSet (s : State) (b v : Nat) : (groupSet s b v).sent = s.sent :=
  (groupSet_frame (F := .any [rosterFp, totalFp (b % 16)]) (Frame.refl _ s) (Footprint.le_any (by simp))
    (Footprint.le_any (by simp))).part .sent rfl

theorem groupSend_of_valid (hv : s.get SW_ADDR.VALID = 1) (b v : Nat) :
    groupSend s b v = groupSet (broadcast s 7 (beBytes 1 b ++ beBytes 2 v)) b v := by
  rw [groupSend, State.flag_of_get hv, if_pos rfl]

theorem groupSend_of_not_valid (hv : s.get SW_ADDR.VALID = 0) (b v : Nat) : groupSend s b v = s := by
  rw [groupSend, State.flag_of_get_zero hv]
  rfl

theorem sent_groupSend (b v : Nat) : (groupSend s b v).sent
    = if s.get SW_ADDR.VALID = 1 then s.sent ++ castSent s 7 (beBytes 1 b ++ beBytes 2 v) else s.sent := by
  have hlt : s.get SW_ADDR.VALID < 2 := State.get_lt s _
  by_cases hv : s.get SW_ADDR.VALID = 1
  · rw [groupSend_of_valid hv, sent_groupSet, sent_broadcast, if_pos hv]
  · rw [groupSend_of_not_valid (by omega), if_neg hv]

/-! ### The write of `SW_GRP_TOTAL` (R89, R451, R461) -/

section
variable {k : Bool} {w : Nat}

/-- The ceiling of the selected group after the write: the word's, where the access may change it. -/
def ceilKept (s : State) (k : Bool) (w : Nat) : Nat := if keeperCode s k 0x98 = 0 then w / 65536 else s.get (Sw.CEIL (grpSel s))

/-- The register shows the selected group. -/
def totalShown (s : State) : State :=
  (s.put SW_GRP_TOTAL.CEIL (s.get (Sw.CEIL (grpSel s)))).put SW_GRP_TOTAL.TOTAL (s.get (Sw.REQT (grpSel s)))

/-- The ceiling has been written. -/
def ceilWritten (s : State) (k : Bool) (w : Nat) : State := (totalShown s).put (Sw.CEIL (grpSel s)) (ceilKept s k w)

/-- The total has been written too. -/
def totalAsked (s : State) (k : Bool) (w : Nat) : State := (ceilWritten s k w).put (Sw.REQT (grpSel s)) (w % 65536)

/-- The register shows nothing again, and the refusal is reported. -/
def totalClosed (s : State) (code : Nat) : State :=
  ((refusal s 0x98 code).put SW_GRP_TOTAL.CEIL 0xFFFF).put SW_GRP_TOTAL.TOTAL 0

theorem regLayout_grpTotal : regLayout 0x98 0x07C = [(SW_GRP_TOTAL.CEIL, .krw), (SW_GRP_TOTAL.TOTAL, .rw)] := rfl

theorem ceilKept_lt (hw : w < 2 ^ 32) : ceilKept s k w < 65536 := by
  unfold ceilKept
  split
  · omega
  · exact State.get_lt s _

theorem keeperCode_totalShown : keeperCode (totalShown s) k 0x98 = keeperCode s k 0x98 := by
  have hlock : (totalShown s).get (PAGE_LOCK.CFG 0x98) = s.get (PAGE_LOCK.CFG 0x98) :=
    (State.get_put_ne _ _ (by decide)).trans (State.get_put_ne _ _ (by decide))
  simp only [keeperCode, fieldCode, State.flag_congr hlock]

/-- What the two fields of the register bring. -/
theorem fieldOf_grpTotal (hw : w < 2 ^ 32) :
    fieldOf (wordKept (totalShown s) k 0x98 SW_GRP_TOTAL.CEIL w) SW_GRP_TOTAL.CEIL = ceilKept s k w
    ∧ fieldOf (wordKept (totalShown s) k 0x98 SW_GRP_TOTAL.CEIL w) SW_GRP_TOTAL.TOTAL = w % 65536 := by
  have hceil : (totalShown s).get SW_GRP_TOTAL.CEIL = s.get (Sw.CEIL (grpSel s)) := by
    rw [totalShown, State.get_put_ne _ _ (by decide), State.get_put_same]
    exact Nat.mod_eq_of_lt (State.get_lt s (Sw.CEIL (grpSel s)))
  constructor
  · rw [fieldOf_wordKept_head, keeperCode_totalShown, hceil, ceilKept, fieldOf_eq]
    exact if_congr Iff.rfl (Nat.mod_eq_of_lt (show w / 2 ^ 16 < 2 ^ 16 by omega)) rfl
  · rw [fieldOf_wordKept_ne (by decide), fieldOf_eq]
    show w / 2 ^ 0 % 2 ^ 16 = w % 65536
    omega

/-- What the write does with the word that takes effect, for the group selected. -/
def totalPerform (g : Nat) (s : State) (w : Nat) : Res :=
  if fieldOf w SW_GRP_TOTAL.TOTAL ≠ s.get (Sw.REQT g)
      ∧ fieldOf w SW_GRP_TOTAL.CEIL < (toSigned 16 (fieldOf w SW_GRP_TOTAL.TOTAL)).natAbs then
    (s.put (Sw.CEIL g) (fieldOf w SW_GRP_TOTAL.CEIL), 3)
  else (groupSend ((s.put (Sw.CEIL g) (fieldOf w SW_GRP_TOTAL.CEIL)).put (Sw.REQT g) (fieldOf w SW_GRP_TOTAL.TOTAL)) g
    (ofSigned 16 (clampInt (-(fieldOf w SW_GRP_TOTAL.CEIL : Int)) (fieldOf w SW_GRP_TOTAL.CEIL)
      (toSigned 16 (fieldOf w SW_GRP_TOTAL.TOTAL)))), 0)

/-- The same, by the halves of the word written. -/
def grpTotalEffect (s : State) (k : Bool) (w : Nat) : Res :=
  if w % 65536 ≠ s.get (Sw.REQT (grpSel s)) ∧ ceilKept s k w < (toSigned 16 (w % 65536)).natAbs then (ceilWritten s k w, 3)
  else (groupSend (totalAsked s k w) (grpSel s) (ofSigned 16 (clampInt (-(ceilKept s k w : Int)) (ceilKept s k w)
    (toSigned 16 (w % 65536)))), 0)

/-- The status code of the write. -/
def grpTotalCode (s : State) (k : Bool) (w : Nat) : Nat :=
  codeOf (codeKept (totalShown s) k 0x98 SW_GRP_TOTAL.CEIL w) (grpTotalEffect s k w).2

theorem grpTotalWrite_eq (hw : w < 2 ^ 32) : grpTotalWrite s k w
    = (totalClosed (grpTotalEffect s k w).1 (grpTotalCode s k w), grpTotalCode s k w) := by
  obtain ⟨hceil, htotal⟩ := fieldOf_grpTotal (s := s) (k := k) hw
  have hreq : (totalShown s).get (Sw.REQT (grpSel s)) = s.get (Sw.REQT (grpSel s)) := by
    have hlt := State.get_lt s SW_GRP_SEL.GROUP
    rw [totalShown, State.get_put_ne _ _ (by simp only [Fld.id]; omega), State.get_put_ne _ _ (by simp only [Fld.id]; omega)]
  have heffect : totalPerform (grpSel s) (totalShown s) (wordKept (totalShown s) k 0x98 SW_GRP_TOTAL.CEIL w)
      = grpTotalEffect s k w := by
    rw [totalPerform, hceil, htotal, hreq]
    rfl
  have hspecial : specialRes (totalShown s) k 0x98 0x07C w false (totalPerform (grpSel s))
      = (refusal (grpTotalEffect s k w).1 0x98 (grpTotalCode s k w), grpTotalCode s k w) := by
    rw [specialRes_krw_head regLayout_grpTotal (.inl rfl), heffect]
    rfl
  calc grpTotalWrite s k w
    _ = (((specialRes (totalShown s) k 0x98 0x07C w false (totalPerform (grpSel s))).1.put SW_GRP_TOTAL.CEIL 0xFFFF).put
          SW_GRP_TOTAL.TOTAL 0, (specialRes (totalShown s) k 0x98 0x07C w false (totalPerform (grpSel s))).2) := rfl
    _ = _ := by rw [hspecial]; rfl

theorem toSigned_ofNat (n : Nat) : toSigned 16 (n % 65536) = (BitVec.ofNat 16 n).toInt := by
  rw [← toSigned_toNat, BitVec.toNat_ofNat]

/-- A number of 16 bits within its ceiling is what a clamp to the ceiling leaves. -/
theorem ofSigned_clampInt {x c : Nat} (hx : x < 65536) (h : (toSigned 16 x).natAbs ≤ c) :
    ofSigned 16 (clampInt (-(c : Int)) c (toSigned 16 x)) = x := by
  have hclamp : clampInt (-(c : Int)) c (toSigned 16 x) = toSigned 16 x := by
    unfold clampInt
    omega
  rw [hclamp, ofSigned, toSigned]
  split <;> omega

/-- A total within the ceiling is written and sent. -/
theorem grpTotalEffect_within (h : (toSigned 16 (w % 65536)).natAbs ≤ ceilKept s k w) :
    grpTotalEffect s k w = (groupSend (totalAsked s k w) (grpSel s) (w % 65536), 0) := by
  rw [grpTotalEffect, if_neg (by omega), ofSigned_clampInt (Nat.mod_lt _ (by decide)) h]

/-- A total above the ceiling that would change is refused. -/
theorem grpTotalEffect_above (h : ceilKept s k w < (toSigned 16 (w % 65536)).natAbs) (hne : w % 65536 ≠ s.get (Sw.REQT (grpSel s))) :
    grpTotalEffect s k w = (ceilWritten s k w, 3) := by
  rw [grpTotalEffect, if_pos ⟨hne, h⟩]

/-! #### What the write leaves of the access -/

theorem grpSel_lt (s : State) : grpSel s < 16 := State.get_lt s _

/-- The end of the write leaves what the Swarm keeps beside the registers. -/
theorem get_totalClosed_inner {code n : Nat} {i : Fin 4} {q : Fld} (hq : 0x2510000 * 32 ≤ q.id) :
    ((totalClosed s code).put (Last.CODE i) n).get q = s.get q := by
  simp only [Fld.id] at hq
  rw [State.get_put_ne _ _ (by simp only [Fld.id]; omega), totalClosed, State.get_put_ne _ _ (by simp only [Fld.id]; omega),
    State.get_put_ne _ _ (by simp only [Fld.id]; omega)]
  exact get_refusal_internal (by decide) (by simp only [Fld.id]; omega)

theorem sent_totalClosed (s : State) (code n : Nat) (i : Fin 4) : ((totalClosed s code).put (Last.CODE i) n).sent = s.sent := by
  show (refusal s 0x98 code).sent = s.sent
  unfold refusal
  split <;> rfl

section
variable (a : Access)

theorem grpSel_touch : grpSel (touch s a) = grpSel s := get_touch_of_key s a (by decide)

theorem keeperCode_touch : keeperCode (touch s a) k 0x98 = keeperCode s k 0x98 := by
  have hlock : (touch s a).get (PAGE_LOCK.CFG 0x98) = s.get (PAGE_LOCK.CFG 0x98) := get_touch_of_key s a (by decide)
  simp only [keeperCode, fieldCode, State.flag_congr hlock]

theorem ceilKept_touch : ceilKept (touch s a) k w = ceilKept s k w := by
  have hceil : (touch s a).get (Sw.CEIL (grpSel s)) = s.get (Sw.CEIL (grpSel s)) :=
    get_touch s a (by have := grpSel_lt s; simp only [Fld.id]; omega)
  rw [ceilKept, ceilKept, keeperCode_touch, grpSel_touch, hceil]

/-- What a write of `SW_GRP_TOTAL` may change, for the group selected. -/
def grpTotalFp (s : State) (a : Access) : Footprint :=
  .any [accessFp a 0x98, .fields [Sw.CEIL (s.get SW_GRP_SEL.GROUP), Sw.REQT (s.get SW_GRP_SEL.GROUP), Sw.TOTAL (s.get SW_GRP_SEL.GROUP),
    SW_GRP_TOTAL.CEIL, SW_GRP_TOTAL.TOTAL, Sw.SEQ, PAGE_IRQ_STAT.EVT 0x98], .parts [.sent]]

theorem accessFp_le_grpTotalFp : (accessFp a 0x98).le (grpTotalFp s a) := Footprint.le_any (by simp)

theorem grpTotalFp_fields : (Footprint.fields [Sw.CEIL (s.get SW_GRP_SEL.GROUP), Sw.REQT (s.get SW_GRP_SEL.GROUP),
    Sw.TOTAL (s.get SW_GRP_SEL.GROUP), SW_GRP_TOTAL.CEIL, SW_GRP_TOTAL.TOTAL, Sw.SEQ, PAGE_IRQ_STAT.EVT 0x98]).le (grpTotalFp s a) :=
  Footprint.le_any (by simp)

/-- The write of the ceiling changes the selected group alone. -/
theorem ceilWritten_frame : Frame (grpTotalFp s a) s (ceilWritten (touch s a) k w) := by
  have hfields := grpTotalFp_fields (s := s) a
  have htouch : Frame (grpTotalFp s a) s (touch s a) := touch_frame_le (accessFp_le_grpTotalFp a)
  rw [ceilWritten, totalShown, grpSel_touch]
  exact ((htouch.put (hfields.field (by simp)) _).put (hfields.field (by simp)) _).put (hfields.field (by simp [grpSel])) _

theorem totalAsked_frame : Frame (grpTotalFp s a) s (totalAsked (touch s a) k w) := by
  rw [totalAsked, grpSel_touch]
  exact (ceilWritten_frame a).put ((grpTotalFp_fields a).field (by simp [grpSel])) _

theorem totalClosed_frame (h : Frame (grpTotalFp s a) s t) (code : Nat) :
    Frame (grpTotalFp s a) s ((totalClosed t code).put (Last.CODE (pathNum a.path)) code) :=
  have hfields := grpTotalFp_fields (s := s) a
  ((((h.refusal (accessFp_le_grpTotalFp a) code).put (hfields.field (by simp)) _).put (hfields.field (by simp)) _).putCode
    (accessFp_le_grpTotalFp a) code)

/-- The numbers of fields that a write of the groups' registers leaves until it sends. -/
abbrev WriteSpares (i : Nat) : Prop := ¬ (0x12B0000 * 32 ≤ i ∧ i < 0x12B0004 * 32) ∧ ¬ (0x2550000 * 32 ≤ i ∧ i < 0x2600000 * 32)
  ∧ i ≠ SW_GRP_TOTAL.CEIL.id ∧ i ≠ SW_GRP_TOTAL.TOTAL.id ∧ i ≠ SW_GRP_SEL.GROUP.id

/-- The fields of a broadcast are such. -/
theorem writeSpares_castFields : ∀ f ∈ castFields, WriteSpares f.id := by decide

theorem get_touch_of_spares {f : Fld} (hf : WriteSpares f.id) : (touch s a).get f = s.get f := by
  obtain ⟨htime, -⟩ := hf
  exact get_touch s a (by simp only [Fld.id] at htime ⊢; omega)

theorem get_totalAsked_of_spares {f : Fld} (hf : WriteSpares f.id) : (totalAsked (touch s a) k w).get f = s.get f := by
  obtain ⟨-, hinner, hceil, htotal, -⟩ := id hf
  have hg := grpSel_lt (touch s a)
  simp only [Fld.id] at hinner
  rw [totalAsked, State.get_put_ne _ _ (by simp only [Fld.id]; omega), ceilWritten, State.get_put_ne _ _ (by simp only [Fld.id]; omega),
    totalShown, State.get_put_ne _ _ htotal, State.get_put_ne _ _ hceil, get_touch_of_spares a hf]

/-- The ceiling and the total asked for of the selected group, once written. -/
theorem get_totalAsked (hw : w < 2 ^ 32) : (totalAsked (touch s a) k w).get (Sw.CEIL (s.get SW_GRP_SEL.GROUP)) = ceilKept s k w
    ∧ (totalAsked (touch s a) k w).get (Sw.REQT (s.get SW_GRP_SEL.GROUP)) = w % 65536 := by
  have hg := grpSel_lt s
  have hlt : ceilKept s k w < 2 ^ 16 := ceilKept_lt hw
  rw [totalAsked, grpSel_touch]
  constructor
  · rw [State.get_put_ne _ _ (by unfold grpSel at *; simp only [Fld.id]; omega), ceilWritten, grpSel_touch, ceilKept_touch]
    exact (State.get_put_same ..).trans (Nat.mod_eq_of_lt hlt)
  · exact (State.get_put_same ..).trans (Nat.mod_mod _ _)

theorem sent_touch : (touch s a).sent = s.sent := by
  unfold touch
  cases keeperView s a <;> rfl

end

theorem exec_groupTotalWrite {a : Access} (hs : served s = true) (w : BitVec 32) : exec (.groupTotalWrite a w) s
    = .next ((totalClosed (grpTotalEffect (touch s a) (keeperView s a) w.toNat).1
        (grpTotalCode (touch s a) (keeperView s a) w.toNat)).put (Last.CODE (pathNum a.path))
          (grpTotalCode (touch s a) (keeperView s a) w.toNat)) := by
  refine congrArg Host.Outcome.next ?_
  rw [regOp_served hs, grpTotalWrite_eq w.isLt]

/-! #### A total within the ceiling (R89, R451) -/

theorem testBit_seven_group {g : Nat} (hg : g < 16) : g.testBit 7 = false := Nat.testBit_lt_two_pow (by omega)

/-- A GROUP_SET of the device without FORGET changes the total of its group, and what a broadcast changes. -/
theorem groupSend_frame_kept (h : Frame F s t) {g : Nat} (hg : g < 16) (hc : castFp.le F) (ht : (totalFp g).le F) (v : Nat) :
    Frame F s (groupSend t g v) := by
  unfold groupSend
  refine .ite ?_ h
  rw [groupSet_of_kept (testBit_seven_group hg), Nat.mod_eq_of_lt hg]
  exact (broadcast_frame h hc _ _).on _ fun _ h => totalSet_frame h ht v

/-- What a GROUP_SET of the device without FORGET leaves of the groups' registers. -/
theorem get_groupSend_kept {g : Nat} (hg : g < 16) (v : Nat) {q : Fld} (hq : 0x25D0000 * 32 ≤ q.id) :
    (groupSend s g v).get q = s.get q := by
  simp only [Fld.id] at hq
  have hseq : q.id ≠ Sw.SEQ.id := by simp only [Fld.id]; omega
  have htotal : q.id ≠ (Sw.TOTAL g).id := by simp only [Fld.id]; omega
  have hevt : q.id ≠ (PAGE_IRQ_STAT.EVT 0x98).id := by simp only [Fld.id]; omega
  exact (groupSend_frame_kept (F := .any [castFp, totalFp g]) (Frame.refl _ s) hg (Footprint.le_any (by simp))
    (Footprint.le_any (by simp)) v).fld q (by simp [castFp, totalFp, hseq, htotal, hevt])

/-- The queen with an address adopts the total that it sends. -/
theorem get_total_groupSend {g : Nat} (hg : g < 16) (hv : s.get SW_ADDR.VALID = 1) (hq : s.get Sw.ISQ = 1) (v : Nat) :
    (groupSend s g v).get (Sw.TOTAL g) = v % 65536 := by
  have hqueen : (broadcast s 7 (beBytes 1 g ++ beBytes 2 v)).get Sw.ISQ = 1 :=
    ((broadcast_frame (Frame.refl _ s) (Footprint.le_refl _) _ _).fld _ (by decide)).trans hq
  have hset := get_total_groupSet (s := broadcast s 7 (beBytes 1 g ++ beBytes 2 v)) (b := g) (v := v)
  rw [Nat.mod_eq_of_lt hg, if_pos hqueen] at hset
  rw [groupSend_of_valid hv, hset]

theorem castFp_le_grpTotalFp (a : Access) : castFp.le (grpTotalFp s a) := by
  refine Footprint.any_le ?_
  simp only [List.mem_cons, List.not_mem_nil, or_false, forall_eq_or_imp, forall_eq]
  exact ⟨fields_le_of_subset (by simp) (grpTotalFp_fields a), Footprint.le_any (by simp)⟩

/-- A total within the ceiling is written and sent; the ceiling takes the word where the access may change it. -/
theorem execGroupTotalWrite_within {a : Access} (hs : served s = true) (w : BitVec 32)
    (h : (BitVec.ofNat 16 w.toNat).toInt.natAbs ≤ ceilKept s (keeperView s a) w.toNat) :
    ∃ t, exec (.groupTotalWrite a w) s = .next t
      ∧ t.get (Sw.CEIL (s.get SW_GRP_SEL.GROUP)) = ceilKept s (keeperView s a) w.toNat
      ∧ t.get (Sw.REQT (s.get SW_GRP_SEL.GROUP)) = w.toNat % 65536
      ∧ (s.get SW_ADDR.VALID = 1 → s.get Sw.ISQ = 1 → t.get (Sw.TOTAL (s.get SW_GRP_SEL.GROUP)) = w.toNat % 65536)
      ∧ (s.get SW_ADDR.VALID = 1 → t.sent = s.sent ++ castSent s 7 (beBytes 1 (s.get SW_GRP_SEL.GROUP) ++ beBytes 2 (w.toNat % 65536)))
      ∧ (s.get SW_ADDR.VALID = 0 → t.sent = s.sent) ∧ Frame (grpTotalFp s a) s t := by
  let k := keeperView s a
  let u := totalAsked (touch s a) k w.toNat
  have hg : s.get SW_GRP_SEL.GROUP < 16 := grpSel_lt s
  have hint : (toSigned 16 (w.toNat % 65536)).natAbs ≤ ceilKept (touch s a) k w.toNat := by
    rw [ceilKept_touch, toSigned_ofNat]
    exact h
  have heffect : (grpTotalEffect (touch s a) k w.toNat).1 = groupSend u (s.get SW_GRP_SEL.GROUP) (w.toNat % 65536) := by
    rw [grpTotalEffect_within hint, grpSel_touch]
    rfl
  have hvalid : u.get SW_ADDR.VALID = s.get SW_ADDR.VALID := get_totalAsked_of_spares a (by decide)
  have hsent : (groupSend u (s.get SW_GRP_SEL.GROUP) (w.toNat % 65536)).sent = if s.get SW_ADDR.VALID = 1 then
      s.sent ++ castSent s 7 (beBytes 1 (s.get SW_GRP_SEL.GROUP) ++ beBytes 2 (w.toNat % 65536)) else s.sent := by
    rw [sent_groupSend, hvalid, castSent_congr (fun f hf => get_totalAsked_of_spares a (writeSpares_castFields f hf))]
    exact if_congr Iff.rfl (congrArg (· ++ _) (sent_touch a)) (sent_touch a)
  refine ⟨_, exec_groupTotalWrite hs w, ?_, ?_, fun hv hq => ?_, fun hv => ?_, fun hv => ?_, ?_⟩
  · rw [get_totalClosed_inner (by simp only [Fld.id]; omega), heffect, get_groupSend_kept hg _ (by simp only [Fld.id]; omega)]
    exact (get_totalAsked a w.isLt).1
  · rw [get_totalClosed_inner (by simp only [Fld.id]; omega), heffect, get_groupSend_kept hg _ (by simp only [Fld.id]; omega)]
    exact (get_totalAsked a w.isLt).2
  · have hqueen : u.get Sw.ISQ = 1 := (get_totalAsked_of_spares a (by decide)).trans hq
    rw [get_totalClosed_inner (by simp only [Fld.id]; omega), heffect, get_total_groupSend hg (hvalid.trans hv) hqueen]
    exact Nat.mod_mod _ _
  · rw [sent_totalClosed, heffect, hsent, if_pos hv]
  · rw [sent_totalClosed, heffect, hsent, if_neg (by rw [hv]; decide)]
  · rw [heffect]
    exact totalClosed_frame a (groupSend_frame_kept (totalAsked_frame a) hg (castFp_le_grpTotalFp a)
      (fields_le_of_subset (by simp) (grpTotalFp_fields a)) _) _

/-! #### A total above the ceiling -/

/-- A total above the ceiling that would change is refused, and nothing is sent. -/
theorem execGroupTotalWrite_above {a : Access} (hs : served s = true) (w : BitVec 32)
    (h : ceilKept s (keeperView s a) w.toNat < (BitVec.ofNat 16 w.toNat).toInt.natAbs)
    (hne : w.toNat % 65536 ≠ s.get (Sw.REQT (s.get SW_GRP_SEL.GROUP))) :
    ∃ t, exec (.groupTotalWrite a w) s = .next t
      ∧ (keeperCode s (keeperView s a) 0x98 = 0 → t.get (Last.CODE (pathNum a.path)) = 3 ∧ t.get (PAGE_STAT.REFUSE_WHY 0x98) = 3)
      ∧ t.get (Sw.REQT (s.get SW_GRP_SEL.GROUP)) = s.get (Sw.REQT (s.get SW_GRP_SEL.GROUP)) ∧ t.sent = s.sent
      ∧ t.get (Sw.CEIL (s.get SW_GRP_SEL.GROUP)) = ceilKept s (keeperView s a) w.toNat ∧ Frame (grpTotalFp s a) s t := by
  let k := keeperView s a
  have hg : s.get SW_GRP_SEL.GROUP < 16 := grpSel_lt s
  have hreq : (touch s a).get (Sw.REQT (s.get SW_GRP_SEL.GROUP)) = s.get (Sw.REQT (s.get SW_GRP_SEL.GROUP)) :=
    get_touch s a (by simp only [Fld.id]; omega)
  have heffect : grpTotalEffect (touch s a) k w.toNat = (ceilWritten (touch s a) k w.toNat, 3) := by
    refine grpTotalEffect_above ?_ ?_
    · rw [ceilKept_touch, toSigned_ofNat]
      exact h
    · rw [grpSel_touch]
      exact hreq ▸ hne
  have hlt : ceilKept s k w.toNat < 2 ^ 16 := ceilKept_lt w.isLt
  refine ⟨_, exec_groupTotalWrite hs w, fun hk => ?_, ?_, ?_, ?_, ?_⟩
  · have hkeeper : keeperCode (totalShown (touch s a)) k 0x98 = 0 :=
      keeperCode_totalShown.trans ((keeperCode_touch a).trans hk)
    have hcode : grpTotalCode (touch s a) k w.toNat = 3 := by
      simp [grpTotalCode, heffect, codeKept, refusesWord, hkeeper, codeOf]
    rw [hcode]
    refine ⟨get_put_code_same _ _ (by decide), ?_⟩
    rw [get_put_code_ne _ _ _ (by decide), totalClosed, State.get_put_ne _ _ (by decide), State.get_put_ne _ _ (by decide)]
    exact (get_refusal_same _ 0x98 (by decide)).2
  · rw [get_totalClosed_inner (by simp only [Fld.id]; omega), heffect, ceilWritten, grpSel_touch,
      State.get_put_ne _ _ (by unfold grpSel; simp only [Fld.id]; omega), totalShown, State.get_put_ne _ _ (by simp only [Fld.id]; omega),
      State.get_put_ne _ _ (by simp only [Fld.id]; omega), hreq]
  · rw [sent_totalClosed, heffect]
    exact sent_touch a
  · rw [get_totalClosed_inner (by simp only [Fld.id]; omega), heffect, ceilWritten, grpSel_touch, ceilKept_touch]
    exact (State.get_put_same ..).trans (Nat.mod_eq_of_lt hlt)
  · rw [heffect]
    exact totalClosed_frame a (ceilWritten_frame a) _

/-- In the Keeper view of the unlocked page the ceiling takes the word; otherwise it stays. -/
theorem ceilKept_of_keeper {a : Access} (hk : keeperView s a = true) (hl : s.get (PAGE_LOCK.CFG 0x98) = 0) :
    keeperCode s (keeperView s a) 0x98 = 0 ∧ ceilKept s (keeperView s a) w = w / 65536 := by
  have hcode : keeperCode s (keeperView s a) 0x98 = 0 := hk ▸ keeperCode_of_keeper hl
  exact ⟨hcode, if_pos hcode⟩

theorem ceilKept_of_refused {a : Access} (h : keeperView s a = false ∨ s.get (PAGE_LOCK.CFG 0x98) = 1) :
    ceilKept s (keeperView s a) w = s.get (Sw.CEIL (s.get SW_GRP_SEL.GROUP)) := by
  have hcode : keeperCode s (keeperView s a) 0x98 ≠ 0 := by
    rw [keeperCode_of_refused h]
    split <;> decide
  exact if_neg hcode

end

/-! ### The write of `SW_GRP_SEL` (R450, R461) -/

section
variable {k : Bool} {w : Nat} {a : Access}

/-- Another group is selected. -/
def groupSelected (s : State) (w : Nat) : State := s.put SW_GRP_SEL.GROUP (fieldOf w SW_GRP_SEL.GROUP)

/-- What a write of `SW_GRP_SEL` does: with FORGET a GROUP_SET for the group that it selects. -/
def grpSelEffect (s : State) (w : Nat) : State :=
  (groupSelected s w).on (fieldOf w SW_GRP_SEL.FORGET == 1)
    (fun s => groupSend s (128 + grpSel s) (s.get (Sw.TOTAL (grpSel s))))

theorem regLayout_grpSel : regLayout 0x98 0x078 = [(SW_GRP_SEL.FORGET, .wo), (SW_GRP_SEL.GROUP, .rw)] := rfl

/-- No write of `SW_GRP_SEL` is refused. -/
theorem grpSelWrite_eq (s : State) (k : Bool) (w : Nat) : grpSelWrite s k w = (grpSelEffect s w, 0) := by
  have hjudge : judge s k false 0x98 (regLayout 0x98 0x078) w = (w, 0) := by
    rw [regLayout_grpSel]
    simp [judge, fieldCode]
  unfold grpSelWrite specialWrite specialRes
  rw [hjudge]
  rfl

theorem fieldOf_grpSel (w : Nat) : fieldOf w SW_GRP_SEL.GROUP = w % 16 ∧ (fieldOf w SW_GRP_SEL.FORGET == 1) = w.testBit 8 := by
  rw [fieldOf_eq, fieldOf_eq, Nat.testBit_eq_decide_div_mod_eq]
  refine ⟨?_, ?_⟩
  · show w / 2 ^ 0 % 2 ^ 4 = w % 16
    omega
  · show (w / 2 ^ 8 % 2 ^ 1 == 1) = decide (w / 2 ^ 8 % 2 = 1)
    rw [pow_one]
    rfl

theorem exec_forget (hs : served s = true) (w : BitVec 32) : exec (.forget a w) s
    = .next ((grpSelEffect (touch s a) w.toNat).put (Last.CODE (pathNum a.path)) 0) := by
  refine congrArg Host.Outcome.next ?_
  rw [regOp_served hs, grpSelWrite_eq]

theorem get_groupSelected_self (s : State) (w : Nat) : (groupSelected s w).get SW_GRP_SEL.GROUP = w % 16 := by
  rw [groupSelected, State.get_put_same, (fieldOf_grpSel w).1]
  exact Nat.mod_mod _ _

/-- Without FORGET the write selects a group, and no more. -/
theorem execForget_selects (hs : served s = true) {w : BitVec 32} (hw : w.toNat.testBit 8 = false) :
    ∃ t, exec (.forget a w) s = .next t ∧ t.get SW_GRP_SEL.GROUP = w.toNat % 16
      ∧ Frame (.any [accessFp a 0x98, .fields [SW_GRP_SEL.GROUP]]) s t := by
  have hF : (accessFp a 0x98).le (.any [accessFp a 0x98, .fields [SW_GRP_SEL.GROUP]]) := Footprint.le_any (by simp)
  have heffect : grpSelEffect (touch s a) w.toNat = groupSelected (touch s a) w.toNat := by
    rw [grpSelEffect, (fieldOf_grpSel _).2, hw, State.on_false]
  refine ⟨_, exec_forget hs w, ?_, ?_⟩ <;> rw [heffect]
  · rw [get_put_code_ne _ _ _ (by decide), get_groupSelected_self]
  · exact ((touch_frame_le hF).put (by simp) _).putCode hF 0

/-- What a write of `SW_GRP_SEL` may change. -/
def grpSelFp (a : Access) : Footprint :=
  .any [accessFp a 0x98, .fields (SW_GRP_SEL.GROUP :: Sw.SEQ :: (List.range 256).map Sw.MEM), .parts [.sent]]

theorem accessFp_le_grpSelFp : (accessFp a 0x98).le (grpSelFp a) := Footprint.le_any (by simp)

theorem grpSelFp_fields : (Footprint.fields (SW_GRP_SEL.GROUP :: Sw.SEQ :: (List.range 256).map Sw.MEM)).le (grpSelFp a) :=
  Footprint.le_any (by simp)

theorem castFp_le_grpSelFp : castFp.le (grpSelFp a) := by
  refine Footprint.any_le ?_
  simp only [List.mem_cons, List.not_mem_nil, or_false, forall_eq_or_imp, forall_eq]
  exact ⟨Footprint.fields_le fun f hf => grpSelFp_fields.field (by simp at hf; simp [hf]), Footprint.le_any (by simp)⟩

theorem rosterFp_le_grpSelFp : rosterFp.le (grpSelFp a) :=
  Footprint.fields_le fun _ hf => grpSelFp_fields.field (List.mem_cons_of_mem _ (List.mem_cons_of_mem _ hf))

theorem groupSelected_frame : Frame (grpSelFp a) s (groupSelected (touch s a) w) :=
  (touch_frame_le accessFp_le_grpSelFp).put (grpSelFp_fields.field (by simp)) _

/-- A GROUP_SET with FORGET and the total in force changes the rosters alone. -/
theorem groupSend_of_total {b v : Nat} (hv : s.get SW_ADDR.VALID = 1) (ht : s.get (Sw.TOTAL (b % 16)) = v) :
    groupSend s b v = forgotten (broadcast s 7 (beBytes 1 b ++ beBytes 2 v)) (b.testBit 7) (b % 16) := by
  rw [groupSend_of_valid hv, groupSet_of_total]
  refine Eq.trans ?_ ht
  exact (broadcast_frame (Frame.refl _ s) (Footprint.le_refl _) _ _).fld _ (by simp [castFp, Fld.id]; omega)

theorem groupSend_frame_total (h : Frame F s t) (hc : castFp.le F) (hr : rosterFp.le F) {b v : Nat}
    (ht : t.get (Sw.TOTAL (b % 16)) = v) : Frame F s (groupSend t b v) := by
  have hlt : t.get SW_ADDR.VALID < 2 := State.get_lt t _
  by_cases hv : t.get SW_ADDR.VALID = 1
  · rw [groupSend_of_total hv ht]
    exact forgotten_frame (broadcast_frame h hc _ _) hr _ _
  · rw [groupSend_of_not_valid (by omega)]
    exact h

theorem grpSel_add (s : State) : (128 + grpSel s) % 16 = grpSel s := by
  have := grpSel_lt s
  omega

theorem grpSelEffect_frame : Frame (grpSelFp a) s (grpSelEffect (touch s a) w) :=
  groupSelected_frame.on _ fun _ h => groupSend_frame_total h castFp_le_grpSelFp rosterFp_le_grpSelFp (by rw [grpSel_add])

theorem grpSel_groupSelected (s : State) (w : Nat) : grpSel (groupSelected s w) = w % 16 := get_groupSelected_self s w

/-- The selection leaves every other field. -/
theorem get_groupSelected_of_spares {f : Fld} (hf : WriteSpares f.id) : (groupSelected (touch s a) w).get f = s.get f := by
  obtain ⟨-, -, -, -, hgroup⟩ := id hf
  rw [groupSelected, State.get_put_ne _ _ hgroup, get_touch_of_spares a hf]

theorem get_groupSelected_inner {f : Fld} (hf : 0x2510000 * 32 ≤ f.id) : (groupSelected (touch s a) w).get f = s.get f := by
  simp only [Fld.id] at hf
  rw [groupSelected, State.get_put_ne _ _ (by simp only [Fld.id]; omega), get_touch s a (by simp only [Fld.id]; omega)]

/-- Every write selects its group, and changes no more than the rosters and what a broadcast changes. -/
theorem execForget_next (hs : served s = true) (w : BitVec 32) : ∃ t, exec (.forget a w) s = .next t
    ∧ t.get SW_GRP_SEL.GROUP = w.toNat % 16 ∧ Frame (grpSelFp a) s t := by
  refine ⟨_, exec_forget hs w, ?_, grpSelEffect_frame.putCode accessFp_le_grpSelFp 0⟩
  have hsend : Frame (.any [castFp, rosterFp]) (groupSelected (touch s a) w.toNat) (grpSelEffect (touch s a) w.toNat) :=
    (Frame.refl _ _).on _ fun _ h => groupSend_frame_total h (Footprint.le_any (by simp)) (Footprint.le_any (by simp))
      (by rw [grpSel_add])
  have hspares : (Footprint.any [castFp, rosterFp]).fld SW_GRP_SEL.GROUP.id = false := by
    rw [Footprint.fld_any_cons, Footprint.fld_any_cons, rosterFp_spares (by decide)]
    rfl
  rw [get_put_code_ne _ _ _ (by decide), hsend.fld _ hspares, get_groupSelected_self]

/-- A member's reachability follows from the age of its report. -/
theorem memReach_congr {m : Nat} (hage : t.get (Sw.AGE m) = s.get (Sw.AGE m))
    (hrep : t.get SW_SHARE_CFG.REP = s.get SW_SHARE_CFG.REP) : memReach t m = memReach s m := by
  rw [memReach, memReach, hage, hrep]

/-- With FORGET the device sends GROUP_SET, and its own roster forgets as well. -/
theorem execForget_forgets (hs : served s = true) {w : BitVec 32} (hw : w.toNat.testBit 8 = true) (hv : s.get SW_ADDR.VALID = 1) :
    ∃ t, exec (.forget a w) s = .next t ∧ t.get SW_GRP_SEL.GROUP = w.toNat % 16
      ∧ t.sent = s.sent ++ castSent s 7 (beBytes 1 (128 + w.toNat % 16) ++ beBytes 2 (s.get (Sw.TOTAL (w.toNat % 16))))
      ∧ (∀ m : Fin 256, t.get (Sw.MEM m)
          = (if s.get (Sw.MEM m) = w.toNat % 16 + 1 ∧ memReach s m = false then 0 else s.get (Sw.MEM m)))
      ∧ Frame (grpSelFp a) s t := by
  let u := groupSelected (touch s a) w.toNat
  let payload := beBytes 1 (128 + w.toNat % 16) ++ beBytes 2 (s.get (Sw.TOTAL (w.toNat % 16)))
  have hinner : ∀ {f : Fld}, 0x2510000 * 32 ≤ f.id → u.get f = s.get f := get_groupSelected_inner
  have hmod : (128 + w.toNat % 16) % 16 = w.toNat % 16 := by omega
  have htotal : u.get (Sw.TOTAL (w.toNat % 16)) = s.get (Sw.TOTAL (w.toNat % 16)) := hinner (by simp only [Fld.id]; omega)
  have hforget : (128 + w.toNat % 16).testBit 7 = true := by
    rw [Nat.testBit_eq_decide_div_mod_eq]
    exact decide_eq_true (by omega)
  have heffect : grpSelEffect (touch s a) w.toNat = forgotten (broadcast u 7 payload) true (w.toNat % 16) := by
    have hsend := groupSend_of_total (s := u) (b := 128 + w.toNat % 16) (v := s.get (Sw.TOTAL (w.toNat % 16)))
      ((get_groupSelected_of_spares (by decide)).trans hv) (by rw [hmod]; exact htotal)
    rw [hmod, hforget] at hsend
    rw [grpSelEffect, (fieldOf_grpSel _).2, hw, State.on_true, grpSel_groupSelected, htotal, hsend]
  obtain ⟨t, ht, hgroup, hframe⟩ := execForget_next (a := a) hs w
  have ht' : t = (forgotten (broadcast u 7 payload) true (w.toNat % 16)).put (Last.CODE (pathNum a.path)) 0 := by
    rw [exec_forget hs w, heffect] at ht
    exact (Host.Outcome.next.inj ht).symm
  have hcast : ∀ {f : Fld}, castFp.fld f.id = false → (broadcast u 7 payload).get f = u.get f :=
    fun hf => (broadcast_frame (Frame.refl _ u) (Footprint.le_refl _) 7 payload).fld _ hf
  refine ⟨t, ht, hgroup, ?_, fun m => ?_, hframe⟩
  · have hkept : (forgotten (broadcast u 7 payload) true (w.toNat % 16)).sent = (broadcast u 7 payload).sent :=
      (forgotten_frame (Frame.refl _ _) (Footprint.le_refl _) _ _).part .sent rfl
    rw [ht']
    show (forgotten (broadcast u 7 payload) true (w.toNat % 16)).sent = _
    rw [hkept, sent_broadcast, castSent_congr fun f hf => get_groupSelected_of_spares (writeSpares_castFields f hf)]
    exact congrArg (· ++ _) (sent_touch a)
  · have hreach : memReach (broadcast u 7 payload) m = memReach s m :=
      memReach_congr ((hcast (by simp [castFp, Fld.id]; omega)).trans (hinner (by simp only [Fld.id]; omega)))
        ((hcast (by decide)).trans (get_groupSelected_of_spares (by decide)))
    have hmem : (broadcast u 7 payload).get (Sw.MEM m) = s.get (Sw.MEM m) :=
      (hcast (by simp [castFp, Fld.id]; omega)).trans (hinner (by simp only [Fld.id]; omega))
    rw [ht', State.get_put_ne _ _ (by simp only [Fld.id]; omega), get_mem_forgotten _ _ m.isLt, hreach, hmem]
    simp

end

end Sys2Proof.Machine
end

section
/-! SUPPORT. The report of the device's own combs (R450): which combs are members, and what the rosters keep of them. -/

namespace Sys2Proof.Machine

variable {F : Footprint} {s t : State}

/-! ### The members among the device's combs (R450, R478) -/

/-- The fields by which the device's combs are members of share groups. -/
def shareFields : List Fld :=
  [SW_ADDR.NODE_ACT, SW_ADDR.VALID, HIVE_MODE.MODE, SW_SHARE_CFG.RAMP]
    ++ (List.finRange 4).flatMap (fun (c : Fin 4) => [SW_MEMB.EN c, SW_MEMB.GROUP c, SW_MEMB.WEIGHT c, CMB_SHARE.DEFICIT c,
      CMB_PP_CTL.SHARE_EN c, CMB_GANG.STATE c, CMB_GANG.MEMBERS c, Mnt.DRAIN c])

theorem mem_shareFields {c : Nat} (hc : c < 4) {f : Fld} (hf : f ∈ [SW_MEMB.EN c, SW_MEMB.GROUP c, SW_MEMB.WEIGHT c,
    CMB_SHARE.DEFICIT c, CMB_PP_CTL.SHARE_EN c, CMB_GANG.STATE c, CMB_GANG.MEMBERS c, Mnt.DRAIN c]) : f ∈ shareFields :=
  List.mem_append_right _ (List.mem_flatMap.mpr ⟨⟨c, hc⟩, List.mem_finRange _, hf⟩)

/-- None of them is what the Swarm keeps of rosters and totals. -/
theorem id_shareFields : ∀ f ∈ shareFields, f.id < 0x2500000 * 32 ∨ 0x2600000 * 32 ≤ f.id := by decide

/-- A raise in the Swarm page or in the TAG page, and a broadcast, leave them. -/
theorem shareFields_spared : ∀ f ∈ shareFields, (raiseFp 0x98).fld f.id = false ∧ (tagFp 0x98).fld f.id = false
    ∧ castFp.fld f.id = false := by decide +kernel

section
variable (h : ∀ f ∈ shareFields, t.get f = s.get f)
include h

theorem isMember_congr {c : Nat} (hc : c < 4) : isMember t c = isMember s c := by
  have hfield : ∀ {d}, d < 4 → ∀ {f}, f ∈ [SW_MEMB.EN d, SW_MEMB.GROUP d, SW_MEMB.WEIGHT d, CMB_SHARE.DEFICIT d,
      CMB_PP_CTL.SHARE_EN d, CMB_GANG.STATE d, CMB_GANG.MEMBERS d, Mnt.DRAIN d] → t.get f = s.get f :=
    fun hd _ hf => h _ (mem_shareFields hd hf)
  have hgang : gangOf t c = gangOf s c := gangOf_congr (hfield hc (by simp)) (hfield hc (by simp))
  have hlead : gangLead t c = gangLead s c := by
    rw [gangLead, gangLead, hgang, List.filter_congr fun d hd => by
      rw [State.flag_congr (hfield (f := Mnt.DRAIN d) (lt_of_mem_gangOf hc hd) (by simp))]]
  simp only [isMember, hlead, State.flag, hfield hc (f := SW_MEMB.EN c) (by simp), hfield hc (f := CMB_PP_CTL.SHARE_EN c) (by simp),
    hfield hc (f := Mnt.DRAIN c) (by simp)]

theorem inSafeBoot_congr : inSafeBoot t = inSafeBoot s := by rw [inSafeBoot, inSafeBoot, h HIVE_MODE.MODE (by decide)]

end

/-! ### The report (R450) -/

/-- The combs that the device reports. -/
def reported (s : State) : List Nat := (List.range 4).filter (fun c => s.flag (SW_MEMB.EN c))

/-- The device's own roster takes the entry of comb `c`. -/
def reportOwn (s : State) (c : Nat) : State :=
  reportEntry s (ownNode s) (s.get (SW_MEMB.GROUP c)) (isMember s c) c (s.get (SW_MEMB.WEIGHT c)) (s.get (CMB_SHARE.DEFICIT c))

/-- The entry of comb `c` as the report carries it. -/
def reportBytes (s : State) (c : Nat) : List (BitVec 8) :=
  beBytes 1 (s.get (SW_MEMB.GROUP c) * 16 + 8 * bitOf (isMember s c) + c) ++ beBytes 1 (s.get (SW_MEMB.WEIGHT c))
    ++ beBytes 2 (s.get (CMB_SHARE.DEFICIT c)) ++ beBytes 2 (tagOf 6 (s.int (CMB_SHARE.DEFICIT c)))

/-- The report has been broadcast. -/
def reportCast (s : State) : State := broadcast s 3 (BitVec.ofNat 8 (reported s).length :: (reported s).flatMap (reportBytes s))

theorem mem_reported {c : Nat} : c ∈ reported s ↔ c < 4 ∧ s.get (SW_MEMB.EN c) ≠ 0 := by simp [reported, State.flag]

/-- Without an address, in SAFE-BOOT, or with no comb enabled, nothing is reported. -/
theorem execReportSend_idle (h : s.get SW_ADDR.VALID = 0 ∨ inSafeBoot s = true ∨ ∀ k : Fin 4, s.get (SW_MEMB.EN k) = 0) :
    exec .reportSend s = .next s := by
  have hcond : (!s.flag SW_ADDR.VALID || inSafeBoot s || (reported s).isEmpty) = true := by
    rcases h with hv | hsafe | hen
    · simp [State.flag_of_get_zero hv]
    · simp [hsafe]
    · have hnone : reported s = [] := List.eq_nil_iff_forall_not_mem.mpr fun c hc =>
        (mem_reported.mp hc).2 (hen ⟨c, (mem_reported.mp hc).1⟩)
      simp [hnone]
  exact congrArg Host.Outcome.next (if_pos hcond)

theorem exec_reportSend (hv : s.get SW_ADDR.VALID = 1) (hsafe : inSafeBoot s = false) {k : Fin 4} (hk : s.get (SW_MEMB.EN k) = 1) :
    exec .reportSend s = .next ((reportCast s).each (reported s) reportOwn) := by
  have hmem : k.val ∈ reported s := mem_reported.mpr ⟨k.isLt, by rw [hk]; decide⟩
  have hcond : (!s.flag SW_ADDR.VALID || inSafeBoot s || (reported s).isEmpty) = false := by
    have hne : (reported s).isEmpty = false := by
      cases hl : reported s with
      | nil => rw [hl] at hmem; exact absurd hmem (by simp)
      | cons x l => rfl
    simp [State.flag_of_get hv, hsafe, hne]
  exact congrArg Host.Outcome.next (if_neg (Bool.eq_false_iff.mp hcond))

/-! ### What the report leaves -/

/-- The fields of the roster for the device's own combs. -/
def ownRosterFp (s : State) : Footprint :=
  .fields ((List.range 4).flatMap (fun k => [Sw.MEM (4 * s.get SW_ADDR.NODE_ACT + k), Sw.WT (4 * s.get SW_ADDR.NODE_ACT + k),
    Sw.DEF (4 * s.get SW_ADDR.NODE_ACT + k), Sw.AGE (4 * s.get SW_ADDR.NODE_ACT + k)]))

/-- What the own entries may change. -/
def ownEntriesFp (s : State) : Footprint := .any [ownRosterFp s, raiseFp 0x98]

theorem memberFp_le_ownRosterFp {k : Nat} (hk : k < 4) : (memberFp (4 * s.get SW_ADDR.NODE_ACT + k)).le (ownRosterFp s) :=
  Footprint.fields_le fun _ hf => Footprint.mem_fields (List.mem_flatMap.mpr ⟨k, List.mem_range.mpr hk, hf⟩)

/-- The own entries leave what makes a comb a member. -/
theorem ownEntriesFp_spares_share {f : Fld} (hf : f ∈ shareFields) : (ownEntriesFp s).fld f.id = false := by
  have hnode : s.get SW_ADDR.NODE_ACT < 64 := State.get_lt s _
  have hid := id_shareFields f hf
  have hroster : (ownRosterFp s).fld f.id = false := Footprint.fld_fields_eq_false fun q hq => by
    obtain ⟨k, hk, hq⟩ := List.mem_flatMap.mp hq
    have hk := List.mem_range.mp hk
    simp only [List.mem_cons, List.not_mem_nil, or_false] at hq
    rcases hq with rfl | rfl | rfl | rfl <;> simp only [Fld.id] at hid ⊢ <;> omega
  simp [ownEntriesFp, hroster, (shareFields_spared f hf).1]

theorem get_shareFields_reportCast {f : Fld} (hf : f ∈ shareFields) : (reportCast s).get f = s.get f :=
  (broadcast_frame (Frame.refl _ s) (Footprint.le_refl _) _ _).fld f (shareFields_spared f hf).2.2

section
variable {u : State} (hu : Frame (ownEntriesFp s) (reportCast s) u)
include hu

theorem get_shareFields_ownEntries {f : Fld} (hf : f ∈ shareFields) : u.get f = s.get f :=
  (hu.fld f (ownEntriesFp_spares_share hf)).trans (get_shareFields_reportCast hf)

/-- An own entry is that of the comb as the report carries it. -/
theorem reportOwn_eq {c : Nat} (hc : c < 4) : reportOwn u c = reportEntry u (s.get SW_ADDR.NODE_ACT) (s.get (SW_MEMB.GROUP c))
    (isMember s c) c (s.get (SW_MEMB.WEIGHT c)) (s.get (CMB_SHARE.DEFICIT c)) := by
  have hget : ∀ {f}, f ∈ shareFields → u.get f = s.get f := get_shareFields_ownEntries hu
  rw [reportOwn, ownNode, hget (by decide : SW_ADDR.NODE_ACT ∈ shareFields), isMember_congr (fun f hf => hget hf) hc,
    hget (mem_shareFields hc (by simp : SW_MEMB.GROUP c ∈ _)), hget (mem_shareFields hc (by simp : SW_MEMB.WEIGHT c ∈ _)),
    hget (mem_shareFields hc (by simp : CMB_SHARE.DEFICIT c ∈ _))]

theorem reportOwn_frame {c : Nat} (hc : c < 4) : Frame (ownEntriesFp s) (reportCast s) (reportOwn u c) := by
  rw [reportOwn_eq hu hc]
  exact reportEntry_frame hu _ (Footprint.le_trans (memberFp_le_ownRosterFp hc) (Footprint.le_any (by simp))) (Footprint.le_any (by simp))

/-- The entry of another comb leaves what the roster holds of this one. -/
theorem get_reportOwn_ne {c k : Nat} (hc : c < 4) (hk : k < 4) (hne : c ≠ k) {f : Fld}
    (hf : f ∈ [Sw.MEM (4 * s.get SW_ADDR.NODE_ACT + k), Sw.DEF (4 * s.get SW_ADDR.NODE_ACT + k)]) :
    (reportOwn u c).get f = u.get f := by
  have hnode : s.get SW_ADDR.NODE_ACT < 64 := State.get_lt s _
  have hid : 0x2550000 * 32 ≤ f.id ∧ f.id < 0x2580000 * 32 := by
    simp only [List.mem_cons, List.not_mem_nil, or_false] at hf
    rcases hf with rfl | rfl <;> simp only [Fld.id] <;> omega
  have hmember : (memberFp (4 * s.get SW_ADDR.NODE_ACT + c)).fld f.id = false := Footprint.fld_fields_eq_false fun q hq => by
    simp only [List.mem_cons, List.not_mem_nil, or_false] at hf hq
    rcases hf with rfl | rfl <;> rcases hq with rfl | rfl | rfl | rfl <;> simp only [Fld.id] <;> omega
  rw [reportOwn_eq hu hc]
  refine (reportEntry_frame (F := .any [memberFp (4 * s.get SW_ADDR.NODE_ACT + c), raiseFp 0x98]) (Frame.refl _ u) _
    (Footprint.le_any (by simp)) (Footprint.le_any (by simp))).fld f ?_
  simp only [Footprint.fld_any_cons, Footprint.fld_any_nil, hmember, raiseFp_spares_inner (i := f.id) (p := 0x98) (by omega) (.inl rfl), Bool.or_self]

end

section
variable {J P : State → Prop} {k : Nat}

/-- What one comb's own entry brings about, and the others' keep, holds after the report; `J` is what all of them keep. -/
theorem reportSend_settles (hk : k ∈ reported s) (hJ : J (reportCast s))
    (hstay : ∀ u c, Frame (ownEntriesFp s) (reportCast s) u → c < 4 → J u → J (reportOwn u c))
    (hset : ∀ u, Frame (ownEntriesFp s) (reportCast s) u → J u → P (reportOwn u k))
    (hkeep : ∀ u c, Frame (ownEntriesFp s) (reportCast s) u → c < 4 → c ≠ k → P u → P (reportOwn u c)) :
    P ((reportCast s).each (reported s) reportOwn) := by
  refine State.each_of_mem (I := fun u => Frame (ownEntriesFp s) (reportCast s) u ∧ J u) hk ⟨Frame.refl _ _, hJ⟩ ?_ ?_ ?_
  · rintro u c hc ⟨hu, hJu⟩
    exact ⟨reportOwn_frame hu (mem_reported.mp hc).1, hstay u c hu (mem_reported.mp hc).1 hJu⟩
  · rintro u ⟨hu, hJu⟩
    exact hset u hu hJu
  · rintro u c hc ⟨hu, hJu⟩ hP
    by_cases hck : c = k
    · exact hck ▸ hset u hu hJu
    · exact hkeep u c hu (mem_reported.mp hc).1 hck hP

end

/-- The own entries of the report. -/
theorem reportSend_frame_own : Frame (ownEntriesFp s) (reportCast s) ((reportCast s).each (reported s) reportOwn) :=
  State.each_keeps (I := Frame (ownEntriesFp s) (reportCast s)) (Frame.refl _ _) fun _ _ hc hu =>
    reportOwn_frame hu (mem_reported.mp hc).1

theorem ownEntriesFp_spares_seq : (ownEntriesFp s).fld Sw.SEQ.id = false := by
  have hroster : (ownRosterFp s).fld Sw.SEQ.id = false := Footprint.fld_fields_eq_false fun q hq => by
    obtain ⟨k, -, hq⟩ := List.mem_flatMap.mp hq
    simp only [List.mem_cons, List.not_mem_nil, or_false] at hq
    rcases hq with rfl | rfl | rfl | rfl <;> simp only [Fld.id] <;> omega
  simp [ownEntriesFp, hroster, raiseFp_spares_inner (i := Sw.SEQ.id) (p := 0x98) (by decide) (.inl rfl)]

/-- A comb that is no member leaves the roster. -/
theorem mem_reportSend_leaves {k : Fin 4} (hen : s.get (SW_MEMB.EN k) ≠ 0) (hno : isMember s k = false) :
    ((reportCast s).each (reported s) reportOwn).get (Sw.MEM (4 * s.get SW_ADDR.NODE_ACT + k)) = 0 := by
  refine reportSend_settles (J := fun _ => True) (P := fun u => u.get (Sw.MEM (4 * s.get SW_ADDR.NODE_ACT + k)) = 0)
    (mem_reported.mpr ⟨k.isLt, hen⟩) trivial (fun _ _ _ _ _ => trivial) (fun u hu _ => ?_) fun u c hu hc hck hP => ?_
  · rw [reportOwn_eq hu k.isLt, hno, reportEntry_leaves, State.get_put_same]
    rfl
  · exact (get_reportOwn_ne hu hc k.isLt hck (by simp)).trans hP

/-- A member that its roster holds is held with its group and deficit. -/
theorem mem_reportSend_stays {k : Fin 4} (hen : s.get (SW_MEMB.EN k) ≠ 0) (hyes : isMember s k = true)
    (hmem : s.get (Sw.MEM (4 * s.get SW_ADDR.NODE_ACT + k)) ≠ 0) :
    ((reportCast s).each (reported s) reportOwn).get (Sw.MEM (4 * s.get SW_ADDR.NODE_ACT + k)) = s.get (SW_MEMB.GROUP k) + 1
    ∧ ((reportCast s).each (reported s) reportOwn).get (Sw.DEF (4 * s.get SW_ADDR.NODE_ACT + k)) = s.get (CMB_SHARE.DEFICIT k) := by
  have hjoins : ∀ u, Frame (ownEntriesFp s) (reportCast s) u → u.get (Sw.MEM (4 * s.get SW_ADDR.NODE_ACT + k)) ≠ 0 →
      (reportOwn u k).get (Sw.MEM (4 * s.get SW_ADDR.NODE_ACT + k)) = s.get (SW_MEMB.GROUP k) + 1
      ∧ (reportOwn u k).get (Sw.DEF (4 * s.get SW_ADDR.NODE_ACT + k)) = s.get (CMB_SHARE.DEFICIT k) := fun u hu hin => by
    obtain ⟨hm, -, hd, -⟩ := get_reportEntry_joins (wt := s.get (SW_MEMB.WEIGHT k)) (deficit := s.get (CMB_SHARE.DEFICIT k))
      (State.get_lt s (SW_MEMB.GROUP k)) (.inl hin)
    rw [reportOwn_eq hu k.isLt, hyes]
    exact ⟨hm, hd.trans (Nat.mod_eq_of_lt (State.get_lt s (CMB_SHARE.DEFICIT k)))⟩
  have hcast : (reportCast s).get (Sw.MEM (4 * s.get SW_ADDR.NODE_ACT + k)) = s.get (Sw.MEM (4 * s.get SW_ADDR.NODE_ACT + k)) :=
    (broadcast_frame (Frame.refl _ s) (Footprint.le_refl _) _ _).fld _ (by simp [castFp, Fld.id]; omega)
  refine reportSend_settles (J := fun u => u.get (Sw.MEM (4 * s.get SW_ADDR.NODE_ACT + k)) ≠ 0)
    (P := fun u => u.get (Sw.MEM (4 * s.get SW_ADDR.NODE_ACT + k)) = s.get (SW_MEMB.GROUP k) + 1
      ∧ u.get (Sw.DEF (4 * s.get SW_ADDR.NODE_ACT + k)) = s.get (CMB_SHARE.DEFICIT k))
    (mem_reported.mpr ⟨k.isLt, hen⟩) (by rw [hcast]; exact hmem) (fun u c hu hc hin => ?_) hjoins fun u c hu hc hck hP => ?_
  · by_cases hck : c = k
    · rw [hck, (hjoins u hu hin).1]
      exact Nat.succ_ne_zero _
    · rw [get_reportOwn_ne hu hc k.isLt hck (by simp)]
      exact hin
  · rw [get_reportOwn_ne hu hc k.isLt hck (by simp), get_reportOwn_ne hu hc k.isLt hck (by simp)]
    exact hP

/-- What a report of the device may change. -/
def reportSendFp (s : State) : Footprint :=
  .any [.fields (Sw.SEQ :: (List.range 4).flatMap (fun k => [Sw.MEM (4 * s.get SW_ADDR.NODE_ACT + k),
    Sw.WT (4 * s.get SW_ADDR.NODE_ACT + k), Sw.DEF (4 * s.get SW_ADDR.NODE_ACT + k), Sw.AGE (4 * s.get SW_ADDR.NODE_ACT + k)])),
    .parts [.sent], raiseFp 0x98]

theorem reportSend_frame : Frame (reportSendFp s) s ((reportCast s).each (reported s) reportOwn) := by
  have hfields : ∀ f ∈ Sw.SEQ :: (List.range 4).flatMap (fun k => [Sw.MEM (4 * s.get SW_ADDR.NODE_ACT + k),
      Sw.WT (4 * s.get SW_ADDR.NODE_ACT + k), Sw.DEF (4 * s.get SW_ADDR.NODE_ACT + k), Sw.AGE (4 * s.get SW_ADDR.NODE_ACT + k)]),
      (reportSendFp s).fld f.id = true := fun f hf => by
    rw [reportSendFp, Footprint.fld_any_cons, Footprint.mem_fields hf, Bool.true_or]
  have hcast : castFp.le (reportSendFp s) := by
    refine Footprint.any_le ?_
    simp only [List.mem_cons, List.not_mem_nil, or_false, forall_eq_or_imp, forall_eq]
    exact ⟨Footprint.fields_le fun f hf => hfields f (List.mem_singleton.mp hf ▸ List.mem_cons_self), Footprint.le_any (by simp)⟩
  have hown : (ownEntriesFp s).le (reportSendFp s) := by
    refine Footprint.any_le ?_
    simp only [List.mem_cons, List.not_mem_nil, or_false, forall_eq_or_imp, forall_eq]
    exact ⟨Footprint.fields_le fun f hf => hfields f (List.mem_cons_of_mem _ hf), Footprint.le_any (by simp)⟩
  exact (broadcast_frame (Frame.refl _ s) hcast _ _).trans (reportSend_frame_own.mono hown)

/-- The report is broadcast, and the own roster takes its entries. -/
theorem execReportSend_next (hv : s.get SW_ADDR.VALID = 1) (hsafe : inSafeBoot s = false) (hen : ∃ k : Fin 4, s.get (SW_MEMB.EN k) = 1) :
    ∃ t, exec .reportSend s = .next t
      ∧ t.sent.length = s.sent.length + ([0, 1].filter (swLocal s)).length ∧ t.get Sw.SEQ = (s.get Sw.SEQ + 1) % 256
      ∧ (∀ k : Fin 4, (s.get (SW_MEMB.EN k) ≠ 0 ∧ isMember s k = false) → t.get (Sw.MEM (4 * s.get SW_ADDR.NODE_ACT + k)) = 0)
      ∧ (∀ k : Fin 4, (s.get (SW_MEMB.EN k) ≠ 0 ∧ isMember s k = true ∧ s.get (Sw.MEM (4 * s.get SW_ADDR.NODE_ACT + k)) ≠ 0) →
          t.get (Sw.MEM (4 * s.get SW_ADDR.NODE_ACT + k)) = s.get (SW_MEMB.GROUP k) + 1
          ∧ t.get (Sw.DEF (4 * s.get SW_ADDR.NODE_ACT + k)) = s.get (CMB_SHARE.DEFICIT k))
      ∧ Frame (reportSendFp s) s t := by
  obtain ⟨k, hk⟩ := hen
  refine ⟨_, exec_reportSend hv hsafe hk, ?_, ?_, fun c ⟨hen, hno⟩ => mem_reportSend_leaves hen hno,
    fun c ⟨hen, hyes, hmem⟩ => mem_reportSend_stays hen hyes hmem, reportSend_frame⟩
  · have hsent : ((reportCast s).each (reported s) reportOwn).sent = (reportCast s).sent := reportSend_frame_own.part .sent rfl
    rw [hsent, reportCast, sent_broadcast, List.length_append, castSent, List.length_map]
  · exact (reportSend_frame_own.fld _ ownEntriesFp_spares_seq).trans (get_seq_broadcast ..)

end Sys2Proof.Machine
end

section
/-! SUPPORT. A SHARE frame (R447, R452): the queen that it shows, the total and the target that the device keeps, and the record
for a comb of the device. -/

namespace Sys2Proof.Machine

variable {F : Footprint} {s t : State}

/-! ### A target is delivered to a comb of the device (R452) -/

/-- The comb `c` takes a target of group `g`. -/
def takesShare (s : State) (g c : Nat) : Bool := isMember s c && s.get (SW_MEMB.GROUP c) == g && !inSafeBoot s

theorem shareInFp_fields : (Footprint.fields (SW_CNT1.SHARE_LATE :: (List.range 4).flatMap (fun c => [SW_MEMB.TARGET c, Sw.MTAG c]))).le
    shareInFp := Footprint.le_any (by simp)

theorem fld_shareInFp {c : Nat} (hc : c < 4) {f : Fld} (hf : f ∈ [SW_MEMB.TARGET c, Sw.MTAG c]) : shareInFp.fld f.id = true :=
  shareInFp_fields.field (List.mem_cons_of_mem _ (List.mem_flatMap.mpr ⟨c, List.mem_range.mpr hc, hf⟩))

theorem tagFp_le_shareInFp : (tagFp 0x98).le shareInFp := Footprint.le_any (by simp)

theorem castFp_le_shareInFp : castFp.le shareInFp := by
  refine Footprint.any_le ?_
  simp only [List.mem_cons, List.not_mem_nil, or_false, forall_eq_or_imp, forall_eq]
  exact ⟨Footprint.le_any (by simp), Footprint.le_any (by simp)⟩

section
variable {g c x tag : Nat} {wait : Int}

/-- The target and its tag have been taken, and an effective time that has passed is counted. -/
def shareTaken (s : State) (c x tag : Nat) (wait : Int) : State :=
  ((s.put (SW_MEMB.TARGET c) x).put (Sw.MTAG c) tag).on (decide (wait < 0)) (·.inc SW_CNT1.SHARE_LATE)

/-- The record of a share for a Forager, with the time until it takes effect. -/
def shareRecord (s : State) (x : Nat) (wait : Int) : Nat :=
  recordWord 7 49 1 1 0 (toSigned 16 x) (s.get SW_SHARE_CFG.RAMP) (wait.toNat / 1000)

theorem shareDeliver_taken (h : takesShare s g c = true) : shareDeliver s g c x tag wait
    = (shareTaken s c x tag wait).send (.record c (shareRecord s x wait)) := by
  have hcond : (isMember s c && s.get (SW_MEMB.GROUP c) == g && !inSafeBoot s) = true := h
  simp only [shareDeliver, hcond, if_true, sendRecord, shareRecord, shareTaken]

theorem shareDeliver_of_not (h : takesShare s g c = false) : shareDeliver s g c x tag wait = s := by
  have hcond : (isMember s c && s.get (SW_MEMB.GROUP c) == g && !inSafeBoot s) = false := h
  rw [shareDeliver, hcond, if_neg Bool.false_ne_true]

theorem shareTaken_frame (h : Frame F s t) (hc : c < 4) (hF : shareInFp.le F) : Frame F s (shareTaken t c x tag wait) :=
  ((h.put (hF.fld _ (fld_shareInFp hc (by simp))) _).put (hF.fld _ (fld_shareInFp hc (by simp))) _).on _ fun _ h =>
    h.inc (hF.fld _ (by decide))

theorem shareDeliver_frame (h : Frame F s t) (hc : c < 4) (hF : shareInFp.le F) : Frame F s (shareDeliver t g c x tag wait) := by
  cases htake : takesShare t g c with
  | true =>
    rw [shareDeliver_taken htake]
    exact (shareTaken_frame h hc hF).send (hF.part _ rfl) _
  | false =>
    rw [shareDeliver_of_not htake]
    exact h

/-- What a comb holds of the target that it has taken. -/
theorem get_shareTaken (hc : c < 4) (hx : x < 65536) (htag : tag < 65536) :
    (shareTaken s c x tag wait).get (SW_MEMB.TARGET c) = x ∧ (shareTaken s c x tag wait).get (Sw.MTAG c) = tag
    ∧ (shareTaken s c x tag wait).get SW_CNT1.SHARE_LATE
        = (if wait < 0 then min 65535 (s.get SW_CNT1.SHARE_LATE + 1) else s.get SW_CNT1.SHARE_LATE) := by
  let u := (s.put (SW_MEMB.TARGET c) x).put (Sw.MTAG c) tag
  have hlate : u.get SW_CNT1.SHARE_LATE = s.get SW_CNT1.SHARE_LATE := by
    rw [State.get_put_ne _ _ (by simp only [Fld.id]; omega), State.get_put_ne _ _ (by simp only [Fld.id]; omega)]
  have hon : ∀ {f : Fld}, f.id ≠ SW_CNT1.SHARE_LATE.id → (shareTaken s c x tag wait).get f = u.get f := fun {f} hf =>
    State.get_on_put_ne (s := u) (decide (wait < 0)) _ hf
  refine ⟨?_, ?_, ?_⟩
  · rw [hon (by simp only [Fld.id]; omega), State.get_put_ne _ _ (by simp only [Fld.id]; omega), State.get_put_same]
    exact Nat.mod_eq_of_lt hx
  · rw [hon (by simp only [Fld.id]; omega), State.get_put_same]
    exact Nat.mod_eq_of_lt htag
  · rw [shareTaken]
    by_cases hw : wait < 0
    · rw [decide_eq_true hw, State.on_true, State.get_inc, if_pos hw]
      exact congrArg (fun n => min 65535 (n + 1)) hlate
    · rw [decide_eq_false hw, State.on_false, if_neg hw]
      exact hlate

end

/-- The word of a share's record. -/
theorem shareRecord_eq (s : State) {x : Nat} (hx : x < 65536) (wait : Int) : shareRecord s x wait
    = 7 + 49 * 2 ^ 4 + 1 * 2 ^ 10 + 1 * 2 ^ 12 + x * 2 ^ 16 + s.get SW_SHARE_CFG.RAMP * 2 ^ 32
      + (wait.toNat / 1000 % 2 ^ 24) * 2 ^ 40 := by
  have hsigned : ofSigned 16 (toSigned 16 x) = x := by
    rw [ofSigned, toSigned]
    split <;> omega
  have hramp : s.get SW_SHARE_CFG.RAMP % 2 ^ 8 = s.get SW_SHARE_CFG.RAMP := Nat.mod_eq_of_lt (State.get_lt s SW_SHARE_CFG.RAMP)
  rw [shareRecord, recordWord, hsigned, hramp]
  omega

/-- The time until an effective time of 46 bits, by the 48 bits that the device keeps. -/
theorem toSigned_wait {e n : Nat} (he : e < 2 ^ 46) (hn : n < 2 ^ 46) :
    toSigned 48 ((e + 2 ^ 48 - n % 2 ^ 48) % 2 ^ 48) = (e : Int) - n := by
  rw [toSigned]
  split <;> omega

/-! ### What the frame shows of the queen (R446, R447) -/

/-- What a queen seen may change. -/
def seenFp : Footprint :=
  .any [.fields [SW_TOPO.QVALID, SW_TOPO.QUEEN, SW_CNT2.QUEEN_CHG, PAGE_IRQ_STAT.EVT 0x98], endFp 0x98, swarmRoleFp]

/-- The queen has been seen, and the roles reviewed. -/
def queenShown (s : State) (n : Nat) : State := swReview (queenSeen s n)

theorem queenSeen_frame (h : Frame F s t) (hF : seenFp.le F) (n : Nat) : Frame F s (queenSeen t n) := by
  have hfields : (Footprint.fields [SW_TOPO.QVALID, SW_TOPO.QUEEN, SW_CNT2.QUEEN_CHG, PAGE_IRQ_STAT.EVT 0x98]).le F :=
    Footprint.le_trans (Footprint.le_any (by simp)) hF
  have hend : (endFp 0x98).le F := Footprint.le_trans (Footprint.le_any (by simp)) hF
  unfold queenSeen
  exact .ite h (causeEnds_frame ((((h.put (hfields.field (by simp)) 1).put (hfields.field (by simp)) n).inc
    (hfields.field (by simp))).evt (hfields.field (by simp)) 3) hend 2)

theorem queenShown_frame (h : Frame F s t) (hF : seenFp.le F) (n : Nat) : Frame F s (queenShown t n) :=
  (queenSeen_frame h hF n).swReview (Footprint.le_trans (Footprint.le_any (by simp)) hF)

theorem get_queenShown (s : State) {n : Nat} (hn : n < 64) :
    (queenShown s n).get SW_TOPO.QVALID = 1 ∧ (queenShown s n).get SW_TOPO.QUEEN = n := by
  have hreview : Frame swarmRoleFp (queenSeen s n) (queenShown s n) := (Frame.refl _ _).swReview
  rw [hreview.fld _ (by decide), hreview.fld _ (by decide)]
  unfold queenSeen
  split
  next h =>
    obtain ⟨hvalid, hqueen⟩ := Bool.and_eq_true_iff.mp h
    exact ⟨State.get_eq_one_of_flag rfl hvalid, beq_iff_eq.mp hqueen⟩
  next =>
    have hends : ∀ u : State, Frame (endFp 0x98) u (causeEnds u 0x98 2) := fun u => causeEnds_frame (Frame.refl _ u) (Footprint.le_refl _) 2
    rw [(hends _).fld _ (by decide), (hends _).fld _ (by decide)]
    refine ⟨?_, ?_⟩
    · exact (State.get_put_ne _ _ (by decide)).trans ((State.get_put_ne _ _ (by decide)).trans ((State.get_put_ne _ _ (by decide)).trans
        (State.get_put_same ..)))
    · exact (State.get_put_ne _ _ (by decide)).trans ((State.get_put_ne _ _ (by decide)).trans ((State.get_put_same ..).trans
        (Nat.mod_eq_of_lt hn)))

/-! ### What the device keeps of the frame (R447, R451, R452) -/

/-- The total and PART of the group are kept. -/
def shareStored (s : State) (g total : Nat) (part : Bool) : State := partSet (totalSet s g total) g part

/-- The entry of member `m` is kept. -/
def entryKept (s : State) (m x tag : Nat) : State := (s.put (Sw.TGT m) x).put (Sw.TGTTAG m) tag

/-- An entry for a comb of the device is checked, and delivered where it passes. -/
def sharePut (s : State) (g c x : Nat) (wait : Int) : State :=
  if (tagCheck s 0x98 (toSigned 16 x) (BitVec.ofNat 16 (tagOf 6 (toSigned 16 x)))).1 then
    shareDeliver (tagCheck s 0x98 (toSigned 16 x) (BitVec.ofNat 16 (tagOf 6 (toSigned 16 x)))).2 g c x (tagOf 6 (toSigned 16 x)) wait
  else (tagCheck s 0x98 (toSigned 16 x) (BitVec.ofNat 16 (tagOf 6 (toSigned 16 x)))).2

/-- What a group keeps of a SHARE frame. -/
def storedFp (g : Nat) : Footprint := .fields [Sw.TOTAL g, Sw.PART g, PAGE_IRQ_STAT.EVT 0x98]

theorem partSet_frame (h : Frame F s t) {g : Nat} (hp : F.fld (Sw.PART g).id = true) (he : F.fld (PAGE_IRQ_STAT.EVT 0x98).id = true)
    (b : Bool) : Frame F s (partSet t g b) := by
  unfold partSet
  exact .ite h ((h.putB hp b).evt he 7)

theorem get_partSet (s : State) (g : Nat) (b : Bool) : (partSet s g b).get (Sw.PART g) = bitOf b := by
  unfold partSet
  split
  next h => rw [State.get_eq_bitOf_flag rfl, h]
  next =>
    refine (State.get_put_ne _ _ (by simp only [Fld.id]; omega)).trans ((State.get_put_same ..).trans ?_)
    cases b <;> rfl

theorem shareStored_frame (h : Frame F s t) {g : Nat} (hF : (storedFp g).le F) (total : Nat) (part : Bool) :
    Frame F s (shareStored t g total part) :=
  partSet_frame (totalSet_frame h (Footprint.le_trans (fields_le_of_subset (by simp) (Footprint.le_refl _)) hF) total)
    (hF.field (by simp)) (hF.field (by simp)) part

theorem get_shareStored (s : State) (g total : Nat) (part : Bool) : (shareStored s g total part).get (Sw.TOTAL g) = total % 65536
    ∧ (shareStored s g total part).get (Sw.PART g) = bitOf part := by
  refine ⟨?_, get_partSet ..⟩
  have hpart : Frame (.fields [Sw.PART g, PAGE_IRQ_STAT.EVT 0x98]) (totalSet s g total) (shareStored s g total part) :=
    partSet_frame (Frame.refl _ _) (Footprint.mem_fields (by simp)) (Footprint.mem_fields (by simp)) part
  rw [hpart.fld _ (by simp [Fld.id]; omega), get_totalSet]

section
variable {g c x : Nat} {wait : Int}

theorem sharePut_frame (h : Frame F s t) (hc : c < 4) (hF : shareInFp.le F) : Frame F s (sharePut t g c x wait) := by
  have hcheck : Frame F s (tagCheck t 0x98 (toSigned 16 x) (BitVec.ofNat 16 (tagOf 6 (toSigned 16 x)))).2 :=
    tagCheck_frame h (Footprint.le_trans tagFp_le_shareInFp hF) _ _
  exact .ite (shareDeliver_frame hcheck hc hF) hcheck

/-- Where no injection is armed the entry is delivered. -/
theorem sharePut_of_disarmed (h : s.get TAG_INJ.ARM = 0) :
    sharePut s g c x wait = shareDeliver s g c x (tagOf 6 (toSigned 16 x)) wait := by
  rw [sharePut, tagCheck_tagOf h]
  rfl

theorem takesShare_congr (h : ∀ f ∈ shareFields, t.get f = s.get f) (hc : c < 4) : takesShare t g c = takesShare s g c := by
  rw [takesShare, takesShare, isMember_congr h hc, inSafeBoot_congr h, h _ (mem_shareFields hc (by simp : SW_MEMB.GROUP c ∈ _))]

/-- A comb that takes no share of the group keeps its target. -/
theorem get_target_sharePut_of_not (hc : c < 4) (h : takesShare s g c = false) :
    (sharePut s g c x wait).get (SW_MEMB.TARGET c) = s.get (SW_MEMB.TARGET c) := by
  have hcheck : Frame (tagFp 0x98) s (tagCheck s 0x98 (toSigned 16 x) (BitVec.ofNat 16 (tagOf 6 (toSigned 16 x)))).2 :=
    tagCheck_frame (Frame.refl _ s) (Footprint.le_refl _) _ _
  have htarget : ∀ d : Fin 4, (tagFp 0x98).fld (SW_MEMB.TARGET d).id = false := by decide +kernel
  have hno : takesShare (tagCheck s 0x98 (toSigned 16 x) (BitVec.ofNat 16 (tagOf 6 (toSigned 16 x)))).2 g c = false :=
    (takesShare_congr (fun f hf => hcheck.fld f (shareFields_spared f hf).2.1) hc).trans h
  rw [sharePut, shareDeliver_of_not hno, ite_self]
  exact hcheck.fld _ (htarget ⟨c, hc⟩)

end

/-- Neither the check of an entry nor its delivery changes what the Swarm keeps of totals and targets. -/
theorem shareInFp_spares_inner {i : Nat} (hi : 0x2520000 * 32 ≤ i ∧ i < 0x25F0000 * 32) : shareInFp.fld i = false := by
  have hfields : ∀ f ∈ SW_CNT1.SHARE_LATE :: (List.range 4).flatMap (fun c => [SW_MEMB.TARGET c, Sw.MTAG c]),
      f.id < 0x2520000 * 32 ∨ 0x25F0000 * 32 ≤ f.id := by decide
  have hown : (Footprint.fields (SW_CNT1.SHARE_LATE :: (List.range 4).flatMap (fun c => [SW_MEMB.TARGET c, Sw.MTAG c]))).fld i = false :=
    Footprint.fld_fields_eq_false fun f hf => by have := hfields f hf; omega
  have hseq : (Footprint.fields [Sw.SEQ]).fld i = false := Footprint.fld_fields_eq_false fun f hf => by
    rw [List.mem_singleton.mp hf]
    simp only [Fld.id]
    omega
  rw [shareInFp, Footprint.fld_any_cons, Footprint.fld_any_cons, Footprint.fld_any_cons, Footprint.fld_any_cons, Footprint.fld_any_nil,
    Footprint.fld_parts, hown, hseq, tagFp_spares_inner (by omega)]
  rfl

/-! ### The frame's payload (R440) -/

section
variable {f : SwFrame} {c : Fin 4} {g : Fin 16} {total tgt : BitVec 16} {eff : BitVec 46} {part : Bool} {node : Nat}

/-- The payload of a SHARE frame with the one entry of comb `c` of node `node`. -/
abbrev sharePayload (g : Fin 16) (part : Bool) (eff : BitVec 46) (total : BitVec 16) (node : Nat) (c : Fin 4) (tgt : BitVec 16) :
    List (BitVec 8) :=
  beBytes 1 (16 + g) ++ beBytes 1 (bitOf part) ++ beBytes 6 eff.toNat ++ beBytes 2 total.toNat ++ beBytes 1 (4 * node + c)
    ++ beBytes 2 tgt.toNat ++ beBytes 2 (tagOf 6 tgt.toInt)

theorem field_sharePayload_head : field (sharePayload g part eff total node c tgt) 0 1 = 16 + g
    ∧ field (sharePayload g part eff total node c tgt) 1 1 = bitOf part
    ∧ field (sharePayload g part eff total node c tgt) 2 6 = eff.toNat
    ∧ field (sharePayload g part eff total node c tgt) 8 2 = total.toNat := by
  have heff := eff.isLt
  have htotal := total.isLt
  refine ⟨?_, ?_, ?_, ?_⟩
  · simp [field, beBytes, beNat]
    omega
  · cases part <;> rfl
  · simp [field, beBytes, beNat]
    omega
  · simp [field, beBytes, beNat]
    omega

theorem field_sharePayload_entry (hnode : node < 64) : field ((sharePayload g part eff total node c tgt).drop 10) 0 1 = 4 * node + c
    ∧ field ((sharePayload g part eff total node c tgt).drop 10) 1 2 = tgt.toNat
    ∧ field ((sharePayload g part eff total node c tgt).drop 10) 3 2 = tagOf 6 tgt.toInt := by
  have htgt := tgt.isLt
  have htag := tagOf_six_lt tgt.toInt
  refine ⟨?_, ?_, ?_⟩ <;> simp [field, beBytes, beNat] <;> omega

/-- The time until the share takes effect, by the swarm time when the frame is taken. -/
def shareWait (s : State) (eff : BitVec 46) : Int := toSigned 48 ((eff.toNat + 2 ^ 48 - swTime s % 2 ^ 48) % 2 ^ 48)

/-- The state in which the entry is checked. -/
def entryJudged (s : State) (n g total : Nat) (part : Bool) (m x : Nat) : State :=
  entryKept (shareStored (queenShown s n) g total part) m x (tagOf 6 (toSigned 16 x))

/-- The entry of a comb of the device. -/
theorem shareEntry_own (hnode : node < 64) (hv : s.get SW_ADDR.VALID = 1) (hown : s.get SW_ADDR.NODE_ACT = node) (wait : Int) :
    shareEntry s g ((sharePayload g part eff total node c tgt).drop 10) wait
      = sharePut (entryKept s (4 * node + c) tgt.toNat (tagOf 6 (toSigned 16 tgt.toNat))) g c tgt.toNat wait := by
  obtain ⟨hm, hx, htag⟩ := field_sharePayload_entry (g := g) (part := part) (eff := eff) (total := total) (c := c) (tgt := tgt) hnode
  have hdevice : (s.flag SW_ADDR.VALID && (4 * node + c.val) / 4 == ownNode s) = true := by
    rw [State.flag_of_get hv, ownNode, hown, Bool.true_and, beq_iff_eq]
    omega
  have hcomb : (4 * node + c.val) % 4 = c := by omega
  simp only [shareEntry, hm, hx, htag, hdevice, if_true, hcomb, sharePut, entryKept, toSigned_toNat]

/-- A SHARE frame with an entry for a comb of the device, where the device is no queen. -/
theorem shareTake_payload (hnode : node < 64) (hq : s.get Sw.ISQ = 0) (hv : s.get SW_ADDR.VALID = 1)
    (hown : s.get SW_ADDR.NODE_ACT = node) :
    shareTake s (broadcastOf f 2 (sharePayload g part eff total node c tgt))
      = sharePut (entryJudged s (f.src.toNat % 64) g total.toNat part (4 * node + c) tgt.toNat) g c tgt.toNat
          (shareWait (queenShown s (f.src.toNat % 64)) eff) := by
  obtain ⟨hhead, hpart, heff, htotal⟩ :=
    field_sharePayload_head (g := g) (part := part) (eff := eff) (total := total) (node := node) (c := c) (tgt := tgt)
  have hgroup : (16 + g.val) % 16 = g := by omega
  have hcount : (16 + g.val) / 16 = 1 := by omega
  have hbit : (bitOf part).testBit 0 = part := by cases part <;> rfl
  have hkept : ∀ {q : Fld}, seenFp.fld q.id = false → (storedFp g).fld q.id = false →
      (shareStored (queenShown s (f.src.toNat % 64)) g total.toNat part).get q = s.get q := fun h1 h2 =>
    ((shareStored_frame (Frame.refl _ _) (Footprint.le_refl _) _ _).fld _ h2).trans
      ((queenShown_frame (Frame.refl _ s) (Footprint.le_refl _) _).fld _ h1)
  have hentry := shareEntry_own (s := shareStored (queenShown s (f.src.toNat % 64)) g total.toNat part) (g := g) (part := part)
    (eff := eff) (total := total) (c := c) (tgt := tgt) hnode
    ((hkept (by decide) (by simp [storedFp, Fld.id]; omega)).trans hv) ((hkept (by decide) (by simp [storedFp, Fld.id]; omega)).trans hown)
    (shareWait (queenShown s (f.src.toNat % 64)) eff)
  have hpayload : (broadcastOf f 2 (sharePayload g part eff total node c tgt)).payload = sharePayload g part eff total node c tgt := rfl
  simp only [shareTake, State.flag_of_get_zero hq, Bool.false_and, Bool.false_eq_true, if_false, hpayload, hhead, hpart, heff, htotal,
    hgroup, hcount, hbit]
  exact hentry

/-! ### The arrival of the frame (R441, R449, R452) -/

theorem swPass_frame (h : Frame F s t) (hF : (Footprint.fields [SW_TIME_LO.TIME, SW_TIME_HI.TIME]).le F) (dt : Nat) :
    Frame F s (swPass t dt) :=
  h.on _ fun _ h => (h.put (hF.field (by simp)) _).put (hF.field (by simp)) _

/-- The passing of time changes the swarm time alone. -/
theorem get_swPass {q : Fld} (hq : (Footprint.fields [SW_TIME_LO.TIME, SW_TIME_HI.TIME]).fld q.id = false) (dt : Nat) :
    (swPass s dt).get q = s.get q := (swPass_frame (Frame.refl _ s) (Footprint.le_refl _) dt).fld q hq

theorem spares_time {q : Fld} (hq : 0x1000000 * 32 ≤ q.id) :
    (Footprint.fields [SW_TIME_LO.TIME, SW_TIME_HI.TIME]).fld q.id = false := by
  simp only [Fld.id] at hq
  refine Footprint.fld_fields_eq_false fun r hr => ?_
  simp only [List.mem_cons, List.not_mem_nil, or_false] at hr
  rcases hr with rfl | rfl <;> simp only [Fld.id] <;> omega

/-- A frame is heard as well after time has passed. -/
theorem heard_swPass (h : Heard s f) (dt : Nat) : Heard (swPass s dt) f := by
  obtain ⟨hon, hsegment, hother, hfresh⟩ := h
  have hw : bitOf f.west < 2 := by cases f.west <;> decide
  have hcast : ∀ q ∈ castFields, (swPass s dt).get q = s.get q := fun q hq =>
    get_swPass ((by decide : ∀ q ∈ castFields, (Footprint.fields [SW_TIME_LO.TIME, SW_TIME_HI.TIME]).fld q.id = false) q hq) dt
  refine ⟨(swOn_congr hcast hw).trans hon, Eq.trans ?_ hsegment, Eq.trans ?_ hother, Eq.trans ?_ hfresh⟩
  · generalize bitOf f.west = w at hw
    interval_cases w <;> exact hcast _ (by decide)
  · simp only [isOwn, ownAddr, ownNode, State.flag, hcast SW_ADDR.VALID (by decide), hcast SW_ADDR.SEG (by decide),
      hcast SW_ADDR.NODE_ACT (by decide)]
  · exact get_swPass (spares_time (by simp only [Fld.id]; omega)) dt

/-- The state in which the frame is taken. -/
def shareHeard (s : State) (f : SwFrame) (dt : Nat) : State := arrived (swPass s dt) f

theorem get_shareHeard_inner {dt : Nat} {q : Fld} (hq : 0x2510000 * 32 ≤ q.id) : (shareHeard s f dt).get q = s.get q :=
  (get_arrived_inner hq).trans (get_swPass (spares_time (by simp only [Fld.id] at hq ⊢; omega)) dt)

/-- A register that is neither the time nor a port's is as before. -/
theorem get_shareHeard_register {dt : Nat} {q : Fld} (hq : q.id < 0x2500000 * 32)
    (htime : (Footprint.fields [SW_TIME_LO.TIME, SW_TIME_HI.TIME]).fld q.id = false) (he : q.id ≠ (swLock 0).id)
    (hw : q.id ≠ (swLock 1).id) : (shareHeard s f dt).get q = s.get q := by
  have hlock : q.id ≠ (swLock (bitOf f.west)).id := by cases f.west <;> assumption
  exact (get_arrived hlock (by simp only [Fld.id] at hq ⊢; omega)).trans (get_swPass htime dt)

/-- What makes a comb a member is as before. -/
theorem get_shareHeard_share {dt : Nat} {q : Fld} (hq : q ∈ shareFields) : (shareHeard s f dt).get q = s.get q := by
  have hregs : ∀ q ∈ shareFields, (Footprint.fields [SW_TIME_LO.TIME, SW_TIME_HI.TIME]).fld q.id = false ∧ q.id ≠ (swLock 0).id
    ∧ q.id ≠ (swLock 1).id := by decide +kernel
  obtain ⟨htime, he, hw⟩ := hregs q hq
  rcases id_shareFields q hq with hlt | hge
  · exact get_shareHeard_register hlt htime he hw
  · exact get_shareHeard_inner (by simp only [Fld.id] at hge ⊢; omega)

/-- A SHARE frame is that entry, and goes on. -/
theorem exec_shareFrame (h : Heard s f) (hnode : s.get SW_ADDR.NODE_ACT = node) (hq : s.get Sw.ISQ = 0) (hv : s.get SW_ADDR.VALID = 1)
    (dt : Nat) : exec (.shareFrame (broadcastOf f 2 (sharePayload g part eff total node c tgt)) dt) s
      = .next (forward (sharePut (entryJudged (shareHeard s f dt) (f.src.toNat % 64) g total.toNat part (4 * node + c) tgt.toNat) g c
          tgt.toNat (shareWait (queenShown (shareHeard s f dt) (f.src.toNat % 64)) eff))
          (broadcastOf f 2 (sharePayload g part eff total node c tgt)) 2 (sharePayload g part eff total node c tgt) false) := by
  obtain ⟨hhead, -⟩ :=
    field_sharePayload_head (g := g) (part := part) (eff := eff) (total := total) (node := node) (c := c) (tgt := tgt)
  have hlength : (sharePayload g part eff total node c tgt).length = 15 := by simp [beBytes]
  have hfits : ((sharePayload g part eff total node c tgt).length
      == 10 + 5 * (field (sharePayload g part eff total node c tgt) 0 1 / 16)
      && decide (field (sharePayload g part eff total node c tgt) 0 1 / 16 ≤ 11)) = true := by
    rw [hhead, hlength, show (16 + g.val) / 16 = 1 by omega]
    rfl
  have hlt : node < 64 := hnode ▸ State.get_lt s _
  refine congrArg Host.Outcome.next ((receive_broadcastOf (heard_swPass h dt) (by decide) hfits _ _).trans ?_)
  show forward (shareTake (shareHeard s f dt) _) _ _ _ _ = _
  rw [shareTake_payload hlt ((get_shareHeard_inner (by decide)).trans hq) ((get_shareHeard_share (by decide)).trans hv)
    ((get_shareHeard_share (by decide)).trans hnode)]
  rfl

/-! ### What the device holds after the frame -/

/-- What is changed before the entry is checked. -/
def entryJudgedFp (g m : Nat) : Footprint := .any [seenFp, storedFp g, .fields [Sw.TGT m, Sw.TGTTAG m]]

theorem entryJudged_frame (h : Frame F s t) {n g m : Nat} (hF : (entryJudgedFp g m).le F) (total x : Nat) (part : Bool) :
    Frame F s (entryJudged t n g total part m x) := by
  have hfields : (Footprint.fields [Sw.TGT m, Sw.TGTTAG m]).le F := Footprint.le_trans (Footprint.le_any (by simp)) hF
  have hstored := shareStored_frame (queenShown_frame h (Footprint.le_trans (Footprint.le_any (by simp)) hF) n)
    (g := g) (Footprint.le_trans (Footprint.le_any (by simp)) hF) total part
  exact (hstored.put (hfields.field (by simp)) _).put (hfields.field (by simp)) _

/-- The frame leaves what makes a comb a member. -/
theorem entryJudgedFp_spares_share {g m : Nat} (hg : g < 16) (hm : m < 256) {q : Fld} (hq : q ∈ shareFields) :
    (entryJudgedFp g m).fld q.id = false := by
  have hid := id_shareFields q hq
  have hregs : ∀ q ∈ shareFields, seenFp.fld q.id = false ∧ q.id ≠ (PAGE_IRQ_STAT.EVT 0x98).id := by decide +kernel
  obtain ⟨hseen, hevt⟩ := hregs q hq
  have htotal : q.id ≠ (Sw.TOTAL g).id := by simp only [Fld.id] at hid ⊢; omega
  have hpart : q.id ≠ (Sw.PART g).id := by simp only [Fld.id] at hid ⊢; omega
  have htgt : q.id ≠ (Sw.TGT m).id := by simp only [Fld.id] at hid ⊢; omega
  have htag : q.id ≠ (Sw.TGTTAG m).id := by simp only [Fld.id] at hid ⊢; omega
  simp [entryJudgedFp, storedFp, hseen, hevt, htotal, hpart, htgt, htag]

/-- What the state in which the entry is checked holds of the frame. -/
theorem get_entryJudged (s : State) {n g total m x : Nat} (part : Bool) (hn : n < 64) (hg : g < 16) (hm : m < 256)
    (htotal : total < 65536) (hx : x < 65536) : (entryJudged s n g total part m x).get (Sw.TOTAL g) = total
    ∧ (entryJudged s n g total part m x).get (Sw.PART g) = bitOf part ∧ (entryJudged s n g total part m x).get (Sw.TGT m) = x
    ∧ (entryJudged s n g total part m x).get SW_TOPO.QVALID = 1 ∧ (entryJudged s n g total part m x).get SW_TOPO.QUEEN = n := by
  obtain ⟨ht, hp⟩ := get_shareStored (queenShown s n) g total part
  obtain ⟨hvalid, hqueen⟩ := get_queenShown s hn
  have hstored : Frame (storedFp g) (queenShown s n) (shareStored (queenShown s n) g total part) :=
    shareStored_frame (Frame.refl _ _) (Footprint.le_refl _) _ _
  have hkept : ∀ {q : Fld}, q.id ≠ (Sw.TGT m).id → q.id ≠ (Sw.TGTTAG m).id →
      (entryJudged s n g total part m x).get q = (shareStored (queenShown s n) g total part).get q :=
    fun h1 h2 => (State.get_put_ne _ _ h2).trans (State.get_put_ne _ _ h1)
  refine ⟨?_, ?_, ?_, ?_, ?_⟩
  · rw [hkept (by simp only [Fld.id]; omega) (by simp only [Fld.id]; omega), ht]
    exact Nat.mod_eq_of_lt htotal
  · rw [hkept (by simp only [Fld.id]; omega) (by simp only [Fld.id]; omega), hp]
  · rw [entryJudged, entryKept, State.get_put_ne _ _ (by simp only [Fld.id]; omega), State.get_put_same]
    exact Nat.mod_eq_of_lt hx
  · rw [hkept (by simp only [Fld.id]; omega) (by simp only [Fld.id]; omega), hstored.fld _ (by simp [storedFp, Fld.id]; omega), hvalid]
  · rw [hkept (by simp only [Fld.id]; omega) (by simp only [Fld.id]; omega), hstored.fld _ (by simp [storedFp, Fld.id]; omega), hqueen]

/-- What a SHARE frame with an entry of member `m` may change. -/
def shareFrameFp (f : SwFrame) (g : Fin 16) (m : Nat) : Footprint :=
  .any [arriveFp f, .fields [SW_TIME_LO.TIME, SW_TIME_HI.TIME, Sw.TOTAL g, Sw.PART g, Sw.TGT m, Sw.TGTTAG m, SW_TOPO.QVALID,
    SW_TOPO.QUEEN, SW_CNT2.QUEEN_CHG], swarmRoleFp, endFp 0x98, shareInFp]

/-- The state in which the entry of the frame is checked. -/
def shareChecked (s : State) (f : SwFrame) (dt : Nat) (g : Fin 16) (total : BitVec 16) (part : Bool) (m : Nat) (tgt : BitVec 16) : State :=
  entryJudged (shareHeard s f dt) (f.src.toNat % 64) g total.toNat part m tgt.toNat

/-- Registers that the entry is judged by, or that its delivery changes. -/
def entryRegisters : List Fld := [TAG_INJ.ARM, SW_CNT1.SHARE_LATE] ++ (List.finRange 4).map (fun (d : Fin 4) => SW_MEMB.TARGET d)

section
variable {dt m : Nat}

theorem entryJudgedFp_spares_register {q : Fld} (hq : q ∈ entryRegisters) (hm : m < 256) : (entryJudgedFp g m).fld q.id = false := by
  have hregs : ∀ q ∈ entryRegisters, q.id < 0x2500000 * 32 ∧ seenFp.fld q.id = false ∧ q.id ≠ (PAGE_IRQ_STAT.EVT 0x98).id := by
    decide +kernel
  obtain ⟨hid, hseen, hevt⟩ := hregs q hq
  have htotal : q.id ≠ (Sw.TOTAL g).id := by simp only [Fld.id] at hid ⊢; omega
  have hpart : q.id ≠ (Sw.PART g).id := by simp only [Fld.id] at hid ⊢; omega
  have htgt : q.id ≠ (Sw.TGT m).id := by simp only [Fld.id] at hid ⊢; omega
  have htag : q.id ≠ (Sw.TGTTAG m).id := by simp only [Fld.id] at hid ⊢; omega
  simp [entryJudgedFp, storedFp, hseen, hevt, htotal, hpart, htgt, htag]

theorem get_shareChecked_register {q : Fld} (hq : q ∈ entryRegisters) (hm : m < 256) :
    (shareChecked s f dt g total part m tgt).get q = s.get q := by
  have hregs : ∀ q ∈ entryRegisters, q.id < 0x2500000 * 32 ∧ (Footprint.fields [SW_TIME_LO.TIME, SW_TIME_HI.TIME]).fld q.id = false
    ∧ q.id ≠ (swLock 0).id ∧ q.id ≠ (swLock 1).id := by decide +kernel
  obtain ⟨hid, htime, he, hw⟩ := hregs q hq
  exact ((entryJudged_frame (Frame.refl _ _) (Footprint.le_refl _) _ _ _).fld _ (entryJudgedFp_spares_register hq hm)).trans
    (get_shareHeard_register hid htime he hw)

theorem get_shareChecked_share {q : Fld} (hq : q ∈ shareFields) (hm : m < 256) :
    (shareChecked s f dt g total part m tgt).get q = s.get q :=
  ((entryJudged_frame (Frame.refl _ _) (Footprint.le_refl _) _ _ _).fld _ (entryJudgedFp_spares_share g.isLt hm hq)).trans
    (get_shareHeard_share hq)

/-- The swarm time by which the entry is delivered is that at which the frame came. -/
theorem swTime_queenShown (s : State) (f : SwFrame) (dt n : Nat) : swTime (queenShown (shareHeard s f dt) n) = swTime (swPass s dt) := by
  have htime : ∀ q ∈ [SW_TIME_LO.TIME, SW_TIME_HI.TIME], seenFp.fld q.id = false ∧ q.id < 0x1000000 * 32 ∧ q.id ≠ (swLock 0).id
    ∧ q.id ≠ (swLock 1).id := by decide +kernel
  have hget : ∀ q ∈ [SW_TIME_LO.TIME, SW_TIME_HI.TIME], (queenShown (shareHeard s f dt) n).get q = (swPass s dt).get q := fun q hq => by
    obtain ⟨hseen, hid, he, hw⟩ := htime q hq
    refine ((queenShown_frame (Frame.refl _ _) (Footprint.le_refl _) n).fld _ hseen).trans (get_arrived ?_ ?_)
    · cases f.west <;> assumption
    · simp only [Fld.id] at hid ⊢
      omega
  rw [swTime, swTime, State.get64, State.get64, hget _ (by simp), hget _ (by simp)]

theorem shareWait_queenShown (s : State) (f : SwFrame) (dt n : Nat) (heff : swTime (swPass s dt) < 2 ^ 46) :
    shareWait (queenShown (shareHeard s f dt) n) eff = (eff.toNat : Int) - swTime (swPass s dt) := by
  rw [shareWait, swTime_queenShown]
  exact toSigned_wait eff.isLt heff

/-- What the check of the entry leaves at the combs of the device. -/
theorem get_shareTaken_checked (hm : m < 256) (wait : Int) {u : State} (hu : u = shareTaken (shareChecked s f dt g total part m tgt) c
      tgt.toNat (tagOf 6 tgt.toInt) wait) :
    u.get (SW_MEMB.TARGET c) = tgt.toNat ∧ u.get (Sw.MTAG c) = tagOf 6 tgt.toInt
    ∧ u.get SW_CNT1.SHARE_LATE = (if wait < 0 then min 65535 (s.get SW_CNT1.SHARE_LATE + 1) else s.get SW_CNT1.SHARE_LATE) := by
  obtain ⟨htarget, htag, hlate⟩ := get_shareTaken (s := shareChecked s f dt g total part m tgt) (wait := wait) c.isLt tgt.isLt
    (tagOf_six_lt tgt.toInt)
  rw [get_shareChecked_register (by decide) hm] at hlate
  rw [hu]
  exact ⟨htarget, htag, hlate⟩

/-- A comb that takes shares of the group takes the entry. -/
theorem sharePut_checked (hm : m < 256) (harm : s.get TAG_INJ.ARM = 0) (htake : takesShare s g c = true) (wait : Int) :
    sharePut (shareChecked s f dt g total part m tgt) g c tgt.toNat wait
      = (shareTaken (shareChecked s f dt g total part m tgt) c tgt.toNat (tagOf 6 tgt.toInt) wait).send
          (.record c (shareRecord s tgt.toNat wait)) := by
  have htakes : takesShare (shareChecked s f dt g total part m tgt) g c = true :=
    (takesShare_congr (fun q hq => get_shareChecked_share hq hm) c.isLt).trans htake
  rw [sharePut_of_disarmed ((get_shareChecked_register (by decide) hm).trans harm), shareDeliver_taken htakes, toSigned_toNat, shareRecord,
    shareRecord, get_shareChecked_share (by decide) hm]

/-- What a comb that takes shares of the group holds after the entry, by the time `n` at which the frame came. -/
theorem get_sharePut_taken (hm : m < 256) (harm : s.get TAG_INJ.ARM = 0) (htake : takesShare s g c = true) {wait : Int} {u : State}
    (hu : u = sharePut (shareChecked s f dt g total part m tgt) g c tgt.toNat wait) :
    u.get (SW_MEMB.TARGET c) = tgt.toNat ∧ u.get (Sw.MTAG c) = tagOf 6 tgt.toInt
    ∧ ∀ {e n : Nat}, wait = (e : Int) - n →
      u.get SW_CNT1.SHARE_LATE = (if e < n then min 65535 (s.get SW_CNT1.SHARE_LATE + 1) else s.get SW_CNT1.SHARE_LATE)
      ∧ Sent.record c (7 + 49 * 2 ^ 4 + 1 * 2 ^ 10 + 1 * 2 ^ 12 + tgt.toNat * 2 ^ 16 + s.get SW_SHARE_CFG.RAMP * 2 ^ 32
        + ((e - n) / 1000 % 2 ^ 24) * 2 ^ 40) ∈ u.sent := by
  obtain ⟨htarget, htag, hlate⟩ := get_shareTaken_checked (s := s) (f := f) (dt := dt) (g := g) (total := total) (part := part) (c := c)
    (tgt := tgt) hm wait rfl
  have hrecord := shareRecord_eq s tgt.isLt wait
  rw [sharePut_checked hm harm htake wait] at hu
  rw [hu]
  refine ⟨htarget, htag, fun hwait => ⟨hlate.trans (if_congr ?_ rfl rfl), ?_⟩⟩
  · clear hlate hrecord
    omega
  · rw [← show wait.toNat = _ - _ by clear hlate hrecord; omega, ← hrecord]
    exact List.mem_append_right _ (List.mem_singleton_self _)

theorem entryJudgedFp_le_shareFrameFp : (entryJudgedFp g m).le (shareFrameFp f g m) := by
  have hfields : (Footprint.fields [SW_TIME_LO.TIME, SW_TIME_HI.TIME, Sw.TOTAL g, Sw.PART g, Sw.TGT m, Sw.TGTTAG m, SW_TOPO.QVALID,
    SW_TOPO.QUEEN, SW_CNT2.QUEEN_CHG]).le (shareFrameFp f g m) := Footprint.le_any (by simp)
  have hroles : swarmRoleFp.le (shareFrameFp f g m) := Footprint.le_any (by simp)
  have hend : (endFp 0x98).le (shareFrameFp f g m) := Footprint.le_any (by simp)
  have hevt : (shareFrameFp f g m).fld (PAGE_IRQ_STAT.EVT 0x98).id = true := hroles.fld _ (by decide)
  refine Footprint.any_le ?_
  simp only [List.mem_cons, List.not_mem_nil, or_false, forall_eq_or_imp, forall_eq]
  refine ⟨Footprint.any_le ?_, Footprint.fields_le ?_, Footprint.fields_le ?_⟩ <;>
    simp only [List.mem_cons, List.not_mem_nil, or_false, forall_eq_or_imp, forall_eq]
  · refine ⟨Footprint.fields_le ?_, hend, hroles⟩
    simp only [List.mem_cons, List.not_mem_nil, or_false, forall_eq_or_imp, forall_eq]
    exact ⟨hfields.field (by simp), hfields.field (by simp), hfields.field (by simp), hevt⟩
  · exact ⟨hfields.field (by simp), hfields.field (by simp), hevt⟩
  · exact ⟨hfields.field (by simp), hfields.field (by simp)⟩

/-- The frame comes, is kept and judged. -/
theorem shareChecked_frame : Frame (shareFrameFp f g m) s (shareChecked s f dt g total part m tgt) := by
  have htime : (Footprint.fields [SW_TIME_LO.TIME, SW_TIME_HI.TIME]).le (shareFrameFp f g m) :=
    Footprint.le_trans (fields_le_of_subset (by simp) (Footprint.le_refl _)) (Footprint.le_any
      (G := .fields [SW_TIME_LO.TIME, SW_TIME_HI.TIME, Sw.TOTAL g, Sw.PART g, Sw.TGT m, Sw.TGTTAG m, SW_TOPO.QVALID, SW_TOPO.QUEEN,
        SW_CNT2.QUEEN_CHG]) (by simp))
  have harrive : (arriveFp f).le (shareFrameFp f g m) := Footprint.le_any (by simp)
  exact entryJudged_frame ((swPass_frame (Frame.refl _ s) htime dt).trans (arrived_frame.mono harrive)) entryJudgedFp_le_shareFrameFp _ _ _

/-- A SHARE frame with an entry for a comb of the device (R447, R451, R452). -/
theorem execShareFrame_next (h : Heard s f) (hq : s.get Sw.ISQ = 0) (hv : s.get SW_ADDR.VALID = 1) (hnode : s.get SW_ADDR.NODE_ACT = node)
    (dt : Nat) : ∃ t, exec (.shareFrame (broadcastOf f 2 (sharePayload g part eff total node c tgt)) dt) s = .next t
      ∧ t.get (Sw.TOTAL g) = total.toNat ∧ t.get (Sw.PART g) = bitOf part ∧ t.get (Sw.TGT (4 * node + c)) = tgt.toNat
      ∧ t.get SW_TOPO.QVALID = 1 ∧ t.get SW_TOPO.QUEEN = f.src.toNat % 64
      ∧ (s.get TAG_INJ.ARM = 0 → takesShare s g c = true →
          t.get (SW_MEMB.TARGET c) = tgt.toNat ∧ t.get (Sw.MTAG c) = tagOf 6 tgt.toInt
          ∧ (swTime (swPass s dt) < 2 ^ 46 →
              t.get SW_CNT1.SHARE_LATE
                = (if eff.toNat < swTime (swPass s dt) then min 65535 (s.get SW_CNT1.SHARE_LATE + 1) else s.get SW_CNT1.SHARE_LATE)
              ∧ t.sent.contains (Sent.record c (7 + 49 * 2 ^ 4 + 1 * 2 ^ 10 + 1 * 2 ^ 12 + tgt.toNat * 2 ^ 16
                + s.get SW_SHARE_CFG.RAMP * 2 ^ 32 + ((eff.toNat - swTime (swPass s dt)) / 1000 % 2 ^ 24) * 2 ^ 40)) = true))
      ∧ (takesShare s g c = false → t.get (SW_MEMB.TARGET c) = s.get (SW_MEMB.TARGET c))
      ∧ Frame (shareFrameFp f g (4 * node + c)) s t := by
  have hm : 4 * node + c < 256 := by
    have hlt : node < 64 := hnode ▸ State.get_lt s _
    omega
  let wait := shareWait (queenShown (shareHeard s f dt) (f.src.toNat % 64)) eff
  let u := sharePut (shareChecked s f dt g total part (4 * node + c) tgt) g c tgt.toNat wait
  have hput : Frame shareInFp (shareChecked s f dt g total part (4 * node + c) tgt) u :=
    sharePut_frame (Frame.refl _ _) c.isLt (Footprint.le_refl _)
  obtain ⟨htotal, hpart, htgt, hvalid, hqueen⟩ := get_entryJudged (shareHeard s f dt) part (Nat.mod_lt f.src.toNat (by decide : 0 < 64))
    g.isLt hm total.isLt tgt.isLt
  refine ⟨_, exec_shareFrame h hnode hq hv dt, ?_, ?_, ?_, ?_, ?_, fun harm htake => ?_, fun hno => ?_, ?_⟩
  · exact ((get_forward_inner (by simp only [Fld.id]; omega)).trans
      (hput.fld _ (shareInFp_spares_inner (by simp only [Fld.id]; omega)))).trans htotal
  · exact ((get_forward_inner (by simp only [Fld.id]; omega)).trans
      (hput.fld _ (shareInFp_spares_inner (by simp only [Fld.id]; omega)))).trans hpart
  · exact ((get_forward_inner (by simp only [Fld.id]; omega)).trans
      (hput.fld _ (shareInFp_spares_inner (by simp only [Fld.id]; omega)))).trans htgt
  · exact (((forward_frame rfl).fld _ (by decide)).trans (hput.fld _ (by decide +kernel))).trans hvalid
  · exact (((forward_frame rfl).fld _ (by decide)).trans (hput.fld _ (by decide +kernel))).trans hqueen
  · have hforward : ∀ q ∈ SW_CNT1.SHARE_LATE :: (List.finRange 4).flatMap (fun (d : Fin 4) => [SW_MEMB.TARGET d, Sw.MTAG d]),
        forwardFp.fld q.id = false := by decide
    have hin : ∀ q ∈ [SW_MEMB.TARGET c, Sw.MTAG c],
        q ∈ SW_CNT1.SHARE_LATE :: (List.finRange 4).flatMap (fun (d : Fin 4) => [SW_MEMB.TARGET d, Sw.MTAG d]) :=
      fun q hq => List.mem_cons_of_mem _ (List.mem_flatMap.mpr ⟨c, List.mem_finRange c, hq⟩)
    obtain ⟨htarget, htag, htimed⟩ := get_sharePut_taken (f := f) (dt := dt) (total := total) (part := part) (tgt := tgt) (wait := wait) hm
      harm htake rfl
    refine ⟨?_, ?_, fun hsmall => ?_⟩
    · exact ((forward_frame rfl).fld _ (hforward _ (hin _ (by simp)))).trans htarget
    · exact ((forward_frame rfl).fld _ (hforward _ (hin _ (by simp)))).trans htag
    · obtain ⟨hlate, hrecord⟩ := htimed (shareWait_queenShown s f dt _ hsmall)
      refine ⟨((forward_frame rfl).fld _ (by decide)).trans hlate, ?_⟩
      rw [List.contains_eq_mem, decide_eq_true_iff]
      exact mem_sent_forward rfl hrecord
  · have hforward : ∀ d : Fin 4, forwardFp.fld (SW_MEMB.TARGET d).id = false := by decide
    have hnot : takesShare (shareChecked s f dt g total part (4 * node + c) tgt) g c = false :=
      (takesShare_congr (fun q hq => get_shareChecked_share hq hm) c.isLt).trans hno
    exact ((forward_frame rfl).fld _ (hforward c)).trans ((get_target_sharePut_of_not c.isLt hnot).trans
      (get_shareChecked_register (List.mem_append_right _ (List.mem_map.mpr ⟨c, List.mem_finRange c, rfl⟩)) hm))
  · have hin : shareInFp.le (shareFrameFp f g (4 * node + c)) := Footprint.le_any (by simp)
    have harrive : (arriveFp f).le (shareFrameFp f g (4 * node + c)) := Footprint.le_any (by simp)
    exact (sharePut_frame shareChecked_frame c.isLt hin).trans ((forward_frame rfl).mono
      (Footprint.le_trans forwardFp_le_arriveFp harrive))

end

end

end Sys2Proof.Machine
end

section
/-! SUPPORT. The computation of the queen (R450, R451): reports grow older, the targets of every group follow from its roster, and
the queen sends what it holds. -/

namespace Sys2Proof.Machine

variable {F : Footprint} {s t u : State} {g m dt : Nat}

/-! ### Reports grow older (R450) -/

/-- Time has passed, and every report that is held has grown older. -/
def aged (s : State) (dt : Nat) : State :=
  (swPass s dt).each ((List.range 256).filter (fun m => s.get (Sw.MEM m) != 0)) (fun s m => s.inc (Sw.AGE m))

/-- What the passing of time changes. -/
def agedFp : Footprint := .fields (SW_TIME_LO.TIME :: SW_TIME_HI.TIME :: (List.range 256).map Sw.AGE)

theorem aged_frame (s : State) (dt : Nat) : Frame agedFp s (aged s dt) := by
  refine (swPass_frame (Frame.refl _ s) (fields_le_of_subset (by simp) (Footprint.le_refl _)) dt).each _ fun u m hm h => h.inc ?_
  exact Footprint.mem_fields (List.mem_cons_of_mem _ (List.mem_cons_of_mem _ (List.mem_map.mpr ⟨m, List.mem_of_mem_filter hm, rfl⟩)))

/-- Of what the Swarm keeps beside the registers, the ages alone change. -/
theorem agedFp_spares_inner {i : Nat} (hi : 0x2510000 * 32 ≤ i) (hage : i < 0x2580000 * 32 ∨ 0x2590000 * 32 ≤ i) : agedFp.fld i = false := by
  refine Footprint.fld_fields_eq_false fun f hf => ?_
  simp only [List.mem_cons, List.mem_map, List.mem_range] at hf
  rcases hf with rfl | rfl | ⟨m, hm, rfl⟩ <;> simp only [Fld.id] <;> omega

theorem get_age_aged (s : State) (dt : Nat) (hm : m < 256) : (aged s dt).get (Sw.AGE m)
    = (if s.get (Sw.MEM m) = 0 then s.get (Sw.AGE m) else min 65535 (s.get (Sw.AGE m) + 1)) := by
  have hpass : (swPass s dt).get (Sw.AGE m) = s.get (Sw.AGE m) := get_swPass (spares_time (by simp only [Fld.id]; omega)) dt
  have hother : ∀ (u : State) x, x ≠ m → (u.inc (Sw.AGE x)).get (Sw.AGE m) = u.get (Sw.AGE m) := fun u x hx =>
    State.get_put_ne _ _ (by simp only [Fld.id]; omega)
  split
  next hmem =>
    refine State.each_keeps (I := fun u => u.get (Sw.AGE m) = s.get (Sw.AGE m)) hpass fun u x hx hu => (hother u x fun e => ?_).trans hu
    rw [e, List.mem_filter, hmem] at hx
    exact absurd hx.2 (by decide)
  next hmem =>
    rw [aged, State.get_each_of_nodup (d := m) (List.nodup_range.filter _) (by simp [hm, hmem]) hother
      (fun u v huv => by rw [State.get_inc, State.get_inc, huv]), State.get_inc, hpass]
    rfl

/-! ### What the targets are computed of (R450, R451) -/

/-- The two states hold the same rosters and totals. -/
structure SameRosters (s t : State) : Prop where
  mem : ∀ {m}, m < 256 → t.get (Sw.MEM m) = s.get (Sw.MEM m)
  weight : ∀ {m}, m < 256 → t.get (Sw.WT m) = s.get (Sw.WT m)
  deficit : ∀ {m}, m < 256 → t.get (Sw.DEF m) = s.get (Sw.DEF m)
  age : ∀ {m}, m < 256 → t.get (Sw.AGE m) = s.get (Sw.AGE m)
  total : ∀ {g}, g < 16 → t.get (Sw.TOTAL g) = s.get (Sw.TOTAL g)
  rep : t.get SW_SHARE_CFG.REP = s.get SW_SHARE_CFG.REP
  deadband : t.get SW_SHARE_CFG.DEADBAND = s.get SW_SHARE_CFG.DEADBAND

theorem SameRosters.refl (s : State) : SameRosters s s :=
  ⟨fun _ => rfl, fun _ => rfl, fun _ => rfl, fun _ => rfl, fun _ => rfl, rfl, rfl⟩

theorem SameRosters.trans (h : SameRosters s t) (h' : SameRosters t u) : SameRosters s u :=
  ⟨fun hm => (h'.mem hm).trans (h.mem hm), fun hm => (h'.weight hm).trans (h.weight hm), fun hm => (h'.deficit hm).trans (h.deficit hm),
    fun hm => (h'.age hm).trans (h.age hm), fun hg => (h'.total hg).trans (h.total hg), h'.rep.trans h.rep, h'.deadband.trans h.deadband⟩

/-- What spares the rosters, the totals and the configuration leaves them the same. -/
theorem SameRosters.of_frame (h : Frame F s t) (hroster : ∀ i, 0x2550000 * 32 ≤ i → i < 0x2590000 * 32 → F.fld i = false)
    (htotal : ∀ g < 16, F.fld (Sw.TOTAL g).id = false) (hrep : F.fld SW_SHARE_CFG.REP.id = false)
    (hdead : F.fld SW_SHARE_CFG.DEADBAND.id = false) : SameRosters s t where
  mem _ := h.fld _ (hroster _ (by simp only [Fld.id]; omega) (by simp only [Fld.id]; omega))
  weight _ := h.fld _ (hroster _ (by simp only [Fld.id]; omega) (by simp only [Fld.id]; omega))
  deficit _ := h.fld _ (hroster _ (by simp only [Fld.id]; omega) (by simp only [Fld.id]; omega))
  age _ := h.fld _ (hroster _ (by simp only [Fld.id]; omega) (by simp only [Fld.id]; omega))
  total hg := h.fld _ (htotal _ hg)
  rep := h.fld _ hrep
  deadband := h.fld _ hdead

theorem lt_of_mem_roster (hm : m ∈ roster s g) : m < 256 := (mem_roster.mp hm).1

/-- The members that are reachable. -/
def reachable (s : State) (g : Nat) : List Nat := (roster s g).filter (memReach s)

theorem lt_of_mem_reachable (hm : m ∈ reachable s g) : m < 256 := lt_of_mem_roster (List.mem_of_mem_filter hm)

/-- The part of the total that the reachable members carry. -/
def carried (s : State) (g : Nat) : Int := (s.int (Sw.TOTAL g) * weightSum s (reachable s g)).tdiv (weightSum s (roster s g))

/-- The share of a member in proportion to its weight. -/
def proportion (s : State) (g m : Nat) : Int := (carried s g * memWeight s m).tdiv (weightSum s (reachable s g))

/-- What a member falls short of its share. -/
def shortOf (s : State) (g m : Nat) : Int :=
  if (s.get SW_SHARE_CFG.DEADBAND : Int) < s.int (Sw.DEF m) * signOf (carried s g) then
    min (s.int (Sw.DEF m) * signOf (carried s g)) (proportion s g m).natAbs
  else 0

/-- What the reachable members together fall short of. -/
def shortage (s : State) (g : Nat) : Int := (reachable s g).foldl (fun a m => a + shortOf s g m) 0

/-- The weight of the members that are not short. -/
def fullWeight (s : State) (g : Nat) : Nat := weightSum s ((reachable s g).filter (fun m => shortOf s g m == 0))

/-- The target of a member. -/
def memberTarget (s : State) (g m : Nat) : Int :=
  proportion s g m + (if shortOf s g m = 0 then (signOf (carried s g) * shortage s g * memWeight s m).tdiv (fullWeight s g) else 0)

theorem shareTargets_eq (s : State) (g : Nat) : shareTargets s g = (reachable s g).map (fun m => (m, memberTarget s g m)) := rfl

theorem map_fst_shareTargets (s : State) (g : Nat) : (shareTargets s g).map Prod.fst = reachable s g := by
  rw [shareTargets_eq, List.map_map]
  exact List.map_id _

section
variable (h : SameRosters s t)
include h

theorem SameRosters.memReach (hm : m < 256) : memReach t m = memReach s m := memReach_congr (h.age hm) h.rep

theorem SameRosters.memWeight (hm : m < 256) : memWeight t m = memWeight s m := by rw [Machine.memWeight, Machine.memWeight, h.weight hm]

theorem SameRosters.roster (g : Nat) : roster t g = roster s g :=
  List.filter_congr fun m hm => by rw [h.mem (List.mem_range.mp hm)]

theorem SameRosters.reachable (g : Nat) : reachable t g = reachable s g := by
  rw [Machine.reachable, Machine.reachable, h.roster]
  exact List.filter_congr fun m hm => h.memReach (lt_of_mem_roster hm)

theorem SameRosters.all_memReach (g : Nat) :
    (Machine.roster s g).all (Machine.memReach t) = (Machine.roster s g).all (Machine.memReach s) := by
  rw [Bool.eq_iff_iff, List.all_eq_true, List.all_eq_true]
  exact forall₂_congr fun m hm => by rw [h.memReach (lt_of_mem_roster hm)]

theorem SameRosters.weightSum {l : List Nat} (hl : ∀ m ∈ l, m < 256) : weightSum t l = weightSum s l :=
  List.foldl_ext _ _ _ fun _ m hm => by rw [h.memWeight (hl m hm)]

theorem SameRosters.carried (hg : g < 16) : carried t g = carried s g := by
  rw [Machine.carried, Machine.carried, h.reachable, h.roster, h.weightSum fun _ => lt_of_mem_reachable, h.weightSum fun _ => lt_of_mem_roster,
    State.int, State.int, h.total hg]

theorem SameRosters.proportion (hg : g < 16) (hm : m < 256) : proportion t g m = proportion s g m := by
  rw [Machine.proportion, Machine.proportion, h.carried hg, h.memWeight hm, h.reachable, h.weightSum fun _ => lt_of_mem_reachable]

theorem SameRosters.shortOf (hg : g < 16) (hm : m < 256) : shortOf t g m = shortOf s g m := by
  rw [Machine.shortOf, Machine.shortOf, State.int, State.int, h.carried hg, h.proportion hg hm, h.deficit hm, h.deadband]

theorem SameRosters.shareTargets (hg : g < 16) : shareTargets t g = shareTargets s g := by
  have hshortage : shortage t g = shortage s g := by
    rw [shortage, shortage, h.reachable]
    exact List.foldl_ext _ _ _ fun _ m hm => by rw [h.shortOf hg (lt_of_mem_reachable hm)]
  have hfull : fullWeight t g = fullWeight s g := by
    rw [fullWeight, fullWeight, h.reachable, List.filter_congr fun m hm => by rw [h.shortOf hg (lt_of_mem_reachable hm)]]
    exact h.weightSum fun m hm => lt_of_mem_reachable (List.mem_of_mem_filter hm)
  rw [shareTargets_eq, shareTargets_eq, h.reachable]
  refine List.map_congr_left fun m hm => ?_
  have hlt := lt_of_mem_reachable hm
  rw [memberTarget, memberTarget, h.proportion hg hlt, h.shortOf hg hlt, h.carried hg, h.memWeight hlt, hshortage, hfull]

end

/-! ### Weights (R451, R461) -/

theorem weightSum_cons (s : State) (m : Nat) (l : List Nat) : weightSum s (m :: l) = memWeight s m + weightSum s l := by
  have hsum : ∀ l : List Nat, weightSum s l = (l.map (memWeight s)).sum := fun l => by
    rw [weightSum, List.sum_eq_foldl, List.foldl_map]
  rw [hsum, hsum, List.map_cons, List.sum_cons]

theorem weightSum_filter_le (s : State) (p : Nat → Bool) (l : List Nat) : weightSum s (l.filter p) ≤ weightSum s l := by
  induction l with
  | nil => exact Nat.le_refl _
  | cons m l ih =>
    rw [List.filter_cons, weightSum_cons]
    split
    · rw [weightSum_cons]
      omega
    · omega

/-- Every weight counts, so a member left out is weight left out. -/
theorem weightSum_filter_lt (s : State) (p : Nat → Bool) (l : List Nat) :
    decide (weightSum s (l.filter p) < weightSum s l) = !l.all p := by
  induction l with
  | nil => rfl
  | cons m l ih =>
    have hle := weightSum_filter_le s p l
    have hpos : 1 ≤ memWeight s m := Nat.le_max_left ..
    rw [List.filter_cons, List.all_cons]
    cases hp : p m with
    | true =>
      rw [if_pos rfl, weightSum_cons, weightSum_cons, Bool.true_and, ← ih]
      exact decide_eq_decide.mpr (by omega)
    | false =>
      rw [if_neg Bool.false_ne_true, weightSum_cons, Bool.false_and]
      exact decide_eq_true (by omega)

/-- Where no member is short, a target is the share in proportion. -/
theorem memberTarget_of_none_short (hnone : (roster s g).all (fun m => s.get (Sw.DEF m) == 0) = true) (hm : m ∈ reachable s g) :
    memberTarget s g m = proportion s g m := by
  have hshort : ∀ k ∈ reachable s g, shortOf s g k = 0 := fun k hk => by
    have hdef : s.get (Sw.DEF k) = 0 := beq_iff_eq.mp (List.all_eq_true.mp hnone k (List.mem_of_mem_filter hk))
    have hint : s.int (Sw.DEF k) = 0 := by rw [State.int, hdef]; rfl
    rw [shortOf, hint, Int.zero_mul, if_neg (by omega)]
  have hshortage : shortage s g = 0 := by
    rw [shortage, List.foldl_ext _ (fun a _ => a) _ fun a k hk => by rw [hshort k hk, Int.add_zero], List.foldl_fixed]
  rw [memberTarget, hshort m hm, hshortage, if_pos rfl, Int.mul_zero, Int.zero_mul, Int.zero_tdiv, Int.add_zero]

/-! ### The targets of a group are kept (R346, R451) -/

/-- A target is kept with the tag of its birth. -/
def targetPut (s : State) (e : Nat × Int) : State := (s.putI (Sw.TGT e.1) e.2).put (Sw.TGTTAG e.1) (tagOf 6 e.2)

/-- PART of a group and the targets of its members are kept. -/
def groupTargets (s : State) (g : Nat) : State :=
  (partSet s g (weightSum s ((shareTargets s g).map (·.1)) < weightSum s (roster s g))).each (shareTargets s g) targetPut

/-- The state keeps a target, and the tag of its birth. -/
def HoldsTarget (e : Nat × Int) (s : State) : Prop := s.get (Sw.TGT e.1) = ofSigned 16 e.2 ∧ s.get (Sw.TGTTAG e.1) = tagOf 6 e.2

theorem ofSigned_lt (z : Int) : ofSigned 16 z < 65536 := by
  rw [ofSigned]
  omega

theorem holdsTarget_targetPut (s : State) (e : Nat × Int) : HoldsTarget e (targetPut s e) := by
  refine ⟨?_, ?_⟩
  · rw [targetPut, State.get_put_ne _ _ (by simp only [Fld.id]; omega), State.putI, State.get_put_same]
    exact Nat.mod_eq_of_lt (ofSigned_lt e.2)
  · rw [targetPut, State.get_put_same]
    exact Nat.mod_eq_of_lt (tagOf_six_lt e.2)

theorem HoldsTarget.keep {e x : Nat × Int} (h : HoldsTarget e s) (he : e.1 < 256) (hx : x.1 < 256) (hne : x.1 ≠ e.1) :
    HoldsTarget e (targetPut s x) := by
  obtain ⟨htgt, htag⟩ := h
  refine ⟨Eq.trans ?_ htgt, Eq.trans ?_ htag⟩
  · exact (State.get_put_ne _ _ (by simp only [Fld.id]; omega)).trans (State.get_put_ne _ _ (by simp only [Fld.id]; omega))
  · exact (State.get_put_ne _ _ (by simp only [Fld.id]; omega)).trans (State.get_put_ne _ _ (by simp only [Fld.id]; omega))

theorem fst_mem_roster {e : Nat × Int} (he : e ∈ shareTargets s g) : e.1 ∈ roster s g := by
  have hmem : e.1 ∈ reachable s g := map_fst_shareTargets s g ▸ List.mem_map_of_mem he
  exact List.mem_of_mem_filter hmem

theorem fst_lt_of_mem_shareTargets {e : Nat × Int} (he : e ∈ shareTargets s g) : e.1 < 256 := lt_of_mem_roster (fst_mem_roster he)

theorem nodup_shareTargets (s : State) (g : Nat) : ((shareTargets s g).map Prod.fst).Nodup := by
  rw [map_fst_shareTargets]
  exact (List.nodup_range.filter _).filter _

theorem holdsTarget_groupTargets {e : Nat × Int} (he : e ∈ shareTargets s g) : HoldsTarget e (groupTargets s g) :=
  State.each_of_mem (I := fun _ => True) he trivial (fun _ _ _ _ => trivial)
    (fun u _ => holdsTarget_targetPut u e) fun u x hx _ hu => by
      by_cases hfst : x.1 = e.1
      · rw [List.inj_on_of_nodup_map (nodup_shareTargets s g) hx he hfst]
        exact holdsTarget_targetPut u e
      · exact hu.keep (fst_lt_of_mem_shareTargets he) (fst_lt_of_mem_shareTargets hx) hfst

/-- What PART may change is no target. -/
theorem partSet_spares {b : Bool} {q : Fld} (hq : 0x2590000 * 32 ≤ q.id) (hlt : q.id < 0x25B0000 * 32) :
    (partSet s g b).get q = s.get q :=
  (partSet_frame (F := .fields [Sw.PART g, PAGE_IRQ_STAT.EVT 0x98]) (Frame.refl _ s) (Footprint.mem_fields (by simp))
    (Footprint.mem_fields (by simp)) b).fld q (Footprint.fld_fields_eq_false fun f hf => by
      simp only [Fld.id] at hq hlt
      simp only [List.mem_cons, List.not_mem_nil, or_false] at hf
      rcases hf with rfl | rfl <;> simp only [Fld.id] <;> omega)

/-- Another group's targets leave it: the rosters have no member in common. -/
theorem HoldsTarget.keep_group {e : Nat × Int} {x : Nat} (h : HoldsTarget e s) (he : e.1 ∈ roster s g) (hx : x ≠ g) :
    HoldsTarget e (groupTargets s x) := by
  obtain ⟨hlt, hmem⟩ := mem_roster.mp he
  have hpart : HoldsTarget e (partSet s x (weightSum s ((shareTargets s x).map (·.1)) < weightSum s (roster s x))) :=
    ⟨(partSet_spares (by simp only [Fld.id]; omega) (by simp only [Fld.id]; omega)).trans h.1,
      (partSet_spares (by simp only [Fld.id]; omega) (by simp only [Fld.id]; omega)).trans h.2⟩
  refine State.each_keeps hpart fun u y hy hu => hu.keep hlt (fst_lt_of_mem_shareTargets hy) fun hfst => hx ?_
  have hother := (mem_roster.mp (fst_mem_roster hy)).2
  rw [hfst, hmem] at hother
  omega

/-! ### The targets of all groups -/

/-- What the computation may change. -/
def targetsFp : Footprint :=
  .fields (PAGE_IRQ_STAT.EVT 0x98 :: (List.range 256).flatMap (fun m => [Sw.TGT m, Sw.TGTTAG m]) ++ (List.range 16).map Sw.PART)

theorem mem_targetsFp (hm : m < 256) {f : Fld} (hf : f ∈ [Sw.TGT m, Sw.TGTTAG m]) : targetsFp.fld f.id = true :=
  Footprint.mem_fields (List.mem_append_left _ (List.mem_cons_of_mem _ (List.mem_flatMap.mpr ⟨m, List.mem_range.mpr hm, hf⟩)))

theorem targetsFp_spares {i : Nat} (hevt : i ≠ (PAGE_IRQ_STAT.EVT 0x98).id) (htgt : i < 0x2590000 * 32 ∨ 0x25B0000 * 32 ≤ i)
    (hpart : i < 0x25C0000 * 32 ∨ 0x25D0000 * 32 ≤ i) : targetsFp.fld i = false := by
  refine Footprint.fld_fields_eq_false fun f hf => ?_
  simp only [List.cons_append, List.mem_cons, List.mem_append, List.mem_flatMap, List.mem_map, List.mem_range, List.not_mem_nil,
    or_false] at hf
  rcases hf with rfl | ⟨m, hm, rfl | rfl⟩ | ⟨g, hg, rfl⟩
  · exact hevt
  all_goals
    simp only [Fld.id]
    omega

theorem groupTargets_frame (h : Frame F s t) (hF : targetsFp.le F) (hg : g < 16) : Frame F s (groupTargets t g) := by
  refine h.within hF fun h => (partSet_frame h ?_ ?_ _).each _ fun u e he h => ?_
  · exact Footprint.mem_fields (List.mem_append_right _ (List.mem_map.mpr ⟨g, List.mem_range.mpr hg, rfl⟩))
  · exact Footprint.mem_fields (by simp)
  · have hlt := fst_lt_of_mem_shareTargets he
    exact (h.putI (mem_targetsFp hlt (by simp)) _).put (mem_targetsFp hlt (by simp)) _

theorem shareCompute_frame (h : Frame F s t) (hF : targetsFp.le F) : Frame F s (shareCompute t) :=
  h.each _ fun _ _ hg h => groupTargets_frame h hF (List.mem_range.mp hg)

theorem sameRosters_of_targets (h : Frame targetsFp s t) : SameRosters s t :=
  .of_frame h (fun i h1 h2 => targetsFp_spares (by simp only [Fld.id]; omega) (by omega) (by omega))
    (fun g hg => targetsFp_spares (by simp only [Fld.id]; omega) (by simp only [Fld.id]; omega) (by simp only [Fld.id]; omega))
    (targetsFp_spares (by decide) (by decide) (by decide)) (targetsFp_spares (by decide) (by decide) (by decide))

theorem sameRosters_groupTargets (h : SameRosters s u) (hg : g < 16) : SameRosters s (groupTargets u g) :=
  h.trans (sameRosters_of_targets (groupTargets_frame (Frame.refl _ u) (Footprint.le_refl _) hg))

/-- The computation keeps the target of every reachable member. -/
theorem holdsTarget_shareCompute (hg : g < 16) {e : Nat × Int} (he : e ∈ shareTargets s g) : HoldsTarget e (shareCompute s) := by
  have hset : ∀ u, SameRosters s u → HoldsTarget e (groupTargets u g) := fun u hu =>
    holdsTarget_groupTargets (by rw [hu.shareTargets hg]; exact he)
  refine State.each_of_mem (I := SameRosters s) (List.mem_range.mpr hg) (SameRosters.refl s)
    (fun u x hx hu => sameRosters_groupTargets hu (List.mem_range.mp hx)) hset fun u x _ hu hheld => ?_
  by_cases hx : x = g
  · rw [hx]
    exact hset u hu
  · exact hheld.keep_group (by rw [hu.roster]; exact fst_mem_roster he) hx

theorem get_part_groupTargets (s : State) (g : Nat) : (groupTargets s g).get (Sw.PART g) = bitOf (!(roster s g).all (memReach s)) := by
  have hkeep : ∀ (u : State), ∀ e ∈ shareTargets s g, (targetPut u e).get (Sw.PART g) = u.get (Sw.PART g) := fun u e he => by
    have hlt := fst_lt_of_mem_shareTargets he
    exact (State.get_put_ne _ _ (by simp only [Fld.id]; omega)).trans (State.get_put_ne _ _ (by simp only [Fld.id]; omega))
  refine (State.each_keeps (I := fun u => u.get (Sw.PART g) = _) rfl fun u e he hu => (hkeep u e he).trans hu).trans
    ((get_partSet ..).trans (congrArg bitOf ?_))
  rw [map_fst_shareTargets]
  exact weightSum_filter_lt s (memReach s) (roster s g)

theorem get_part_groupTargets_ne {x : Nat} (hx : x ≠ g) : (groupTargets s x).get (Sw.PART g) = s.get (Sw.PART g) := by
  refine State.each_keeps (I := fun u => u.get (Sw.PART g) = s.get (Sw.PART g)) ?_ fun u e he hu => Eq.trans ?_ hu
  · exact (partSet_frame (F := .fields [Sw.PART x, PAGE_IRQ_STAT.EVT 0x98]) (Frame.refl _ s) (Footprint.mem_fields (by simp))
      (Footprint.mem_fields (by simp)) _).fld _ (by simp [Fld.id]; omega)
  · have hlt := fst_lt_of_mem_shareTargets he
    exact (State.get_put_ne _ _ (by simp only [Fld.id]; omega)).trans (State.get_put_ne _ _ (by simp only [Fld.id]; omega))

/-- PART shows that a member of the group is not reachable. -/
theorem get_part_shareCompute (s : State) (hg : g < 16) : (shareCompute s).get (Sw.PART g) = bitOf (!(roster s g).all (memReach s)) := by
  have hset : ∀ u, SameRosters s u → (groupTargets u g).get (Sw.PART g) = bitOf (!(roster s g).all (memReach s)) := fun u hu => by
    rw [get_part_groupTargets, hu.roster, hu.all_memReach]
  refine State.each_of_mem (I := SameRosters s) (P := fun u => u.get (Sw.PART g) = bitOf (!(roster s g).all (memReach s))) (List.mem_range.mpr hg) (SameRosters.refl s)
    (fun u x hx hu => sameRosters_groupTargets hu (List.mem_range.mp hx)) hset fun u x _ hu hheld => ?_
  by_cases hx : x = g
  · rw [hx]
    exact hset u hu
  · exact (get_part_groupTargets_ne hx).trans hheld

/-! ### The queen sends what it holds (R440, R451, R452) -/

theorem shareSend_frame (h : Frame F s t) (hF : shareInFp.le F) (g : Nat) (l : List (Nat × Nat)) (n : Nat) :
    Frame F s (shareSend t g l n) := by
  induction n generalizing t l with
  | zero => exact h
  | succ n ih =>
    have hcast := broadcast_frame h (Footprint.le_trans castFp_le_shareInFp hF)
    have hown := fun payload => (hcast 2 payload).each (l.take 11) (g := fun s e => s.on (e.1 / 4 == ownNode s)
      (fun s => shareDeliver s g (e.1 % 4) e.2 (s.get (Sw.TGTTAG e.1)) (1000 * t.get SW_SHARE_CFG.LEAD : Nat)))
      fun u e _ h => h.on _ fun _ h => shareDeliver_frame h (by omega) hF
    exact .ite (ih (hown _) _) (hown _)

theorem sharesSend_frame (h : Frame F s t) (hF : shareInFp.le F) : Frame F s (sharesSend t) :=
  .ite (shareSend_frame h hF _ _ _) (h.each _ fun _ _ _ h => shareSend_frame h hF _ _ _)

theorem sameRosters_sharesSend (s : State) : SameRosters s (sharesSend s) :=
  .of_frame (sharesSend_frame (Frame.refl _ s) (Footprint.le_refl _)) (fun i _ _ => shareInFp_spares_inner (by omega))
    (fun g hg => shareInFp_spares_inner (by simp only [Fld.id]; omega)) (by decide +kernel) (by decide +kernel)

/-! ### The command -/

/-- What the queen's computation may change. -/
def shareComputeFp : Footprint :=
  .any [.fields (PAGE_IRQ_STAT.EVT 0x98 :: SW_TIME_LO.TIME :: SW_TIME_HI.TIME
    :: (List.range 256).flatMap (fun m => [Sw.AGE m, Sw.TGT m, Sw.TGTTAG m]) ++ (List.range 16).map Sw.PART), shareInFp]

theorem fields_le_shareComputeFp {l : List Fld} (hl : ∀ f ∈ l, f ∈ PAGE_IRQ_STAT.EVT 0x98 :: SW_TIME_LO.TIME :: SW_TIME_HI.TIME
    :: (List.range 256).flatMap (fun m => [Sw.AGE m, Sw.TGT m, Sw.TGTTAG m]) ++ (List.range 16).map Sw.PART) :
    (Footprint.fields l).le shareComputeFp :=
  Footprint.le_trans (fields_le_of_subset hl (Footprint.le_refl _)) (Footprint.le_any (by simp))

theorem agedFp_le_shareComputeFp : agedFp.le shareComputeFp := fields_le_shareComputeFp fun f hf => by
  simp only [List.cons_append, List.mem_cons, List.mem_append, List.mem_flatMap, List.mem_map] at hf ⊢
  rcases hf with rfl | rfl | ⟨m, hm, rfl⟩
  · exact .inr (.inl rfl)
  · exact .inr (.inr (.inl rfl))
  · exact .inr (.inr (.inr (.inl ⟨m, hm, .inl rfl⟩)))

theorem targetsFp_le_shareComputeFp : targetsFp.le shareComputeFp := fields_le_shareComputeFp fun f hf => by
  simp only [List.cons_append, List.mem_cons, List.mem_append, List.mem_flatMap, List.not_mem_nil, or_false] at hf ⊢
  rcases hf with rfl | ⟨m, hm, hf⟩ | hf
  · exact .inl rfl
  · exact .inr (.inr (.inr (.inl ⟨m, hm, .inr hf⟩)))
  · exact .inr (.inr (.inr (.inr hf)))

/-- A device that is no queen lets the reports grow older. -/
theorem execShareCompute_other (hq : s.get Sw.ISQ = 0) (dt : Nat) : ∃ t, exec (.shareCompute dt) s = .next t ∧ t.sent = s.sent
    ∧ (∀ m : Fin 256, t.get (Sw.TGT m) = s.get (Sw.TGT m))
    ∧ (∀ m : Fin 256, t.get (Sw.AGE m) = (if s.get (Sw.MEM m) = 0 then s.get (Sw.AGE m) else min 65535 (s.get (Sw.AGE m) + 1)))
    ∧ Frame shareComputeFp s t := by
  have hframe := aged_frame s dt
  have hflag : (aged s dt).flag Sw.ISQ = false :=
    State.flag_of_get_zero ((hframe.fld _ (agedFp_spares_inner (by decide) (by decide))).trans hq)
  refine ⟨aged s dt, congrArg Host.Outcome.next (if_neg (Bool.eq_false_iff.mp hflag)), hframe.part .sent rfl, fun m => ?_, fun m => ?_, ?_⟩
  · exact hframe.fld _ (agedFp_spares_inner (by simp only [Fld.id]; omega) (by simp only [Fld.id]; omega))
  · exact get_age_aged s dt m.isLt
  · exact hframe.mono agedFp_le_shareComputeFp

/-- The queen computes the targets and sends them. -/
theorem execShareCompute_queen (hq : s.get Sw.ISQ = 1) (dt : Nat) : ∃ t, exec (.shareCompute dt) s = .next t
    ∧ (∀ g : Fin 16, (∀ e ∈ shareTargets t g, HoldsTarget e t) ∧ t.get (Sw.PART g) = bitOf (!(roster t g).all (memReach t))
      ∧ t.get (Sw.TOTAL g) = s.get (Sw.TOTAL g))
    ∧ (∀ m : Fin 256, t.get (Sw.AGE m) = (if s.get (Sw.MEM m) = 0 then s.get (Sw.AGE m) else min 65535 (s.get (Sw.AGE m) + 1)))
    ∧ (∀ m : Fin 256, t.get (Sw.MEM m) = s.get (Sw.MEM m)) ∧ Frame shareComputeFp s t := by
  have hframe := aged_frame s dt
  have hflag : (aged s dt).flag Sw.ISQ = true :=
    State.flag_of_get ((hframe.fld _ (agedFp_spares_inner (by decide) (by decide))).trans hq)
  have hsend : Frame shareInFp (shareCompute (aged s dt)) (sharesSend (shareCompute (aged s dt))) :=
    sharesSend_frame (Frame.refl _ _) (Footprint.le_refl _)
  have hsame : SameRosters (aged s dt) (sharesSend (shareCompute (aged s dt))) :=
    (sameRosters_of_targets (shareCompute_frame (Frame.refl _ _) (Footprint.le_refl _))).trans (sameRosters_sharesSend _)
  refine ⟨sharesSend (shareCompute (aged s dt)), congrArg Host.Outcome.next (if_pos hflag), fun g => ⟨fun e he => ?_, ?_, ?_⟩, fun m => ?_,
    fun m => ?_, ?_⟩
  · rw [hsame.shareTargets g.isLt] at he
    have hlt := fst_lt_of_mem_shareTargets he
    obtain ⟨htgt, htag⟩ := holdsTarget_shareCompute g.isLt he
    exact ⟨(hsend.fld _ (shareInFp_spares_inner (by simp only [Fld.id]; omega))).trans htgt,
      (hsend.fld _ (shareInFp_spares_inner (by simp only [Fld.id]; omega))).trans htag⟩
  · rw [hsame.roster, hsame.all_memReach, hsend.fld _ (shareInFp_spares_inner (by simp only [Fld.id]; omega))]
    exact get_part_shareCompute _ g.isLt
  · exact (hsame.total g.isLt).trans (hframe.fld _ (agedFp_spares_inner (by simp only [Fld.id]; omega) (by simp only [Fld.id]; omega)))
  · exact (hsame.age m.isLt).trans (get_age_aged s dt m.isLt)
  · exact (hsame.mem m.isLt).trans (hframe.fld _ (agedFp_spares_inner (by simp only [Fld.id]; omega) (by simp only [Fld.id]; omega)))
  · exact sharesSend_frame (shareCompute_frame (hframe.mono agedFp_le_shareComputeFp) targetsFp_le_shareComputeFp)
      (Footprint.le_any (by simp))

/-- Where no member is short, the target that is held is the share in proportion. -/
theorem get_tgt_of_none_short (hheld : ∀ e ∈ shareTargets t g, HoldsTarget e t)
    (hnone : (roster t g).all (fun m => t.get (Sw.DEF m) == 0) = true) (hm : m ∈ reachable t g) :
    t.get (Sw.TGT m) = ofSigned 16 (proportion t g m) := by
  have hmem : (m, memberTarget t g m) ∈ shareTargets t g := by
    rw [shareTargets_eq]
    exact List.mem_map_of_mem hm
  exact memberTarget_of_none_short hnone hm ▸ (hheld _ hmem).1

end Sys2Proof.Machine
end

section
/-! SUPPORT. Share targets, rosters, reports and totals (R89, R198, R440, R450 to R452). -/

namespace Sys2Proof.Machine

/-- Settles O55: the computation of the queen and a SHARE frame, then the frames that build rosters and totals, the report of the device's own
combs, and the registers that send a total or forget members, clause by clause from the lemma on each command. -/
theorem sharesRostersAndTotals : Obligations.SharesRostersAndTotals := by
  unfold Obligations.SharesRostersAndTotals
  refine ⟨fun s f c g total tgt eff part dt => ⟨fun hq => execShareCompute_other hq _, fun hq => ?_,
      fun hon hsegment hother hfresh hq hv => ?_⟩,
    fun s a f c g forget wt d total w => ⟨fun hon hsegment hother hfresh => ?_, execReportSend_idle, execReportSend_next,
      fun hs hk hl h => ?_, fun hs hr h => ?_, fun hs hk hl h hne => ?_, fun hs hr h hne => ?_, fun hs hw => execForget_selects hs hw,
      fun hs hw hv => execForget_forgets hs hw hv, fun hs => execForget_next hs w⟩⟩
  case refine_1 =>
    obtain ⟨t, ht, hgroups, hage, hmem, hframe⟩ := execShareCompute_queen hq dt.toNat
    obtain ⟨hheld, hpart, htotal⟩ := hgroups g
    exact ⟨t, ht, hheld, hpart, fun hnone m hm => get_tgt_of_none_short hheld hnone hm, htotal, hage, hmem, hframe⟩
  case refine_2 =>
    obtain ⟨t, ht, htotal, hpart, htgt, hvalid, hqueen, htaken, hnot, hframe⟩ := execShareFrame_next (g := g) (c := c) (total := total)
      (tgt := tgt) (eff := eff) (part := part) ⟨hon, hsegment, hother, hfresh⟩ hq hv rfl dt.toNat
    refine ⟨t, ht, htotal, hpart, htgt, hvalid, hqueen, fun harm hm hgroup hsafe => htaken harm ?_, fun h => hnot ?_, hframe⟩
    · rw [takesShare, hm, hgroup, hsafe, beq_self_eq_true]
      rfl
    · rw [takesShare]
      rcases h with hm | hgroup | hsafe
      · rw [hm, Bool.false_and, Bool.false_and]
      · rw [beq_eq_false_iff_ne.mpr hgroup, Bool.and_false, Bool.false_and]
      · rw [hsafe, Bool.not_true, Bool.and_false]
  case refine_3 =>
    have h : Heard s f := ⟨hon, hsegment, hother, hfresh⟩
    exact ⟨execReport_leaves h, execReport_joins h, execReport_full h, execGroupSet_queen h, execGroupSet_other h⟩
  case refine_4 =>
    obtain ⟨-, hceil⟩ := ceilKept_of_keeper (w := w.toNat) hk hl
    rw [← hceil] at h ⊢
    exact execGroupTotalWrite_within hs w h
  case refine_5 =>
    have hceil := ceilKept_of_refused (w := w.toNat) hr
    rw [← hceil] at h ⊢
    obtain ⟨t, ht, hkept, hreq, hrest⟩ := execGroupTotalWrite_within hs w h
    exact ⟨t, ht, hreq, hkept, hrest⟩
  case refine_6 =>
    obtain ⟨hcode, hceil⟩ := ceilKept_of_keeper (w := w.toNat) hk hl
    rw [← hceil] at h ⊢
    obtain ⟨t, ht, hrefused, hreq, hsent, hkept, hframe⟩ := execGroupTotalWrite_above hs w h hne
    obtain ⟨hlast, hwhy⟩ := hrefused hcode
    exact ⟨t, ht, hlast, hwhy, hreq, hsent, hkept, hframe⟩
  case refine_7 =>
    have hceil := ceilKept_of_refused (w := w.toNat) hr
    rw [← hceil] at h ⊢
    obtain ⟨t, ht, -, hreq, hsent, hkept, hframe⟩ := execGroupTotalWrite_above hs w h hne
    exact ⟨t, ht, hreq, hsent, hkept, hframe⟩

end Sys2Proof.Machine
end

section
/-! SUPPORT. What the words of a frame leave alone: whatever word of the register pages or of the windows is read, and whatever word
of the windows is written, no frame of a path, no request that waits, nothing sent and no field of the host port's and the
controllers' own pages is touched, and no reset begins (R108, R115). -/

namespace Sys2Proof.Machine

variable {F : Footprint} {s t : State}

/-! ### The footprint of a word -/

/-- The field belongs to the pages of the host port and of the CAN FD controllers, or is the held reset or HRDY. -/
def frameOwn (id : Nat) : Bool :=
  (decide (0x4000 * 32 ≤ id) && decide (id < 0x7000 * 32)) || id == Boot.HELD.id || id == Pin.HRDY.id

/-- What a word may change: not the fields that a frame itself is governed by, nor the frames, the requests that wait or what
has been sent. -/
def wordFp : Footprint where
  fld id := !frameOwn id
  mem _ := true
  ret _ := true
  ecc _ := true
  part q := match q with
    | .jobs _ => false
    | .canq _ => false
    | .sent => false
    | _ => true

/-- A field written out is no frame's own where its number is another. -/
theorem Fld.in_wordFp {f : Fld} {k l n r : Nat} (hf : f = ⟨k, l, n, r⟩) (h : (k * 32 + l < 0x4000 * 32 ∨ 0x7000 * 32 ≤ k * 32 + l)
    ∧ k * 32 + l ≠ 0x10D0000 * 32 ∧ k * 32 + l ≠ 0x1050000 * 32) : wordFp.fld f.id = true := by
  obtain ⟨hpage, hheld, hhrdy⟩ := h
  have hown : frameOwn (k * 32 + l) = false := by
    simp only [frameOwn, Fld.id, Bool.or_eq_false_iff, Bool.and_eq_false_iff, decide_eq_false_iff_not, beq_eq_false_iff_ne]
    omega
  rw [hf]
  exact congrArg not hown

section
variable (h : Frame wordFp s t)
include h

protected theorem Frame.wordPut {f : Fld} {v : Nat} (hf : wordFp.fld f.id = true := by exact Fld.in_wordFp rfl (by omega)) :
    Frame wordFp s (t.put f v) := h.put hf v

/-- Stores, check bits and holders are a word's to change. -/
protected theorem Frame.wordStore {u : State} (hregs : u.regs = t.regs) (hjobs : u.jobs = t.jobs) (hcanq : u.canq = t.canq)
    (hsent : u.sent = t.sent) : Frame wordFp s u := by
  refine ⟨fun f hf => (State.get_congr hregs f).trans (h.fld f hf), fun _ hm => absurd hm (by simp [wordFp]),
    fun _ hm => absurd hm (by simp [wordFp]), fun _ hm => absurd hm (by simp [wordFp]), fun q hq => Part.same_trans (h.part q hq) ?_⟩
  cases q with
  | jobs i => exact congrArg (·[i]) hjobs
  | canq i => exact congrArg (·[i]) hcanq
  | sent => exact hsent
  | _ => exact absurd hq (by simp [wordFp])

end

/-- The record of a raise in a page other than the host port's and the controllers' is a word's to change. -/
theorem recordFp_le_wordFp {p : Nat} (hp : p < 4 ∨ 7 ≤ p) (hlt : p < 256) : (recordFp p).le wordFp := by
  refine Footprint.any_le fun G hG => ?_
  simp only [List.mem_cons, List.not_mem_nil, or_false] at hG
  rcases hG with rfl | rfl | rfl
  · refine Footprint.fields_le fun f hf => ?_
    simp only [List.mem_append, List.mem_cons, List.not_mem_nil, or_false, List.mem_map, List.mem_range] at hf
    rcases hf with (rfl | rfl | rfl | rfl | rfl | rfl | rfl | rfl | rfl | rfl | rfl | rfl) | ⟨i, hi, rfl⟩
    all_goals exact Fld.in_wordFp rfl (by omega)
  · refine ⟨fun i hi => ?_, fun _ _ => rfl, by simp [logFp], fun _ _ => rfl, by simp [logFp]⟩
    obtain ⟨f, hf, rfl⟩ := List.mem_map.mp (List.contains_iff_mem.mp hi)
    simp only [List.mem_cons, List.not_mem_nil, or_false] at hf
    rcases hf with rfl | rfl | rfl | rfl | rfl <;> exact Fld.in_wordFp rfl (by omega)
  · refine Footprint.fields_le fun f hf => ?_
    simp only [List.mem_cons, List.not_mem_nil, or_false] at hf
    rcases hf with rfl | rfl | rfl | rfl <;> exact Fld.in_wordFp rfl (by omega)

/-- The check of a memory's word is a word's to make. -/
theorem eccReadFp_le_wordFp : eccReadFp.le wordFp := by
  have hraise : ∀ p, p = 0xA0 ∨ p = 0xA1 → (raiseFp p).le wordFp := fun p hp => by
    have hact : actionFp p = {} := by rcases hp with rfl | rfl <;> rfl
    refine Footprint.any_le fun G hG => ?_
    simp only [List.mem_cons, List.not_mem_nil, or_false] at hG
    rcases hG with rfl | rfl
    · exact recordFp_le_wordFp (by omega) (by omega)
    · rw [hact]
      constructor <;> exact fun _ h => absurd h (by simp)
  refine Footprint.any_le fun G hG => ?_
  simp only [List.mem_cons, List.not_mem_nil, or_false] at hG
  rcases hG with rfl | rfl | rfl | rfl | rfl
  · refine Footprint.fields_le fun f hf => ?_
    simp only [List.mem_flatMap, List.mem_range, List.mem_cons, List.not_mem_nil, or_false] at hf
    obtain ⟨n, hn, rfl | rfl | rfl | rfl | rfl | rfl | rfl | rfl⟩ := hf <;> exact Fld.in_wordFp rfl (by omega)
  · exact ⟨by simp [Footprint.everyEcc], fun _ _ => rfl, fun _ _ => rfl, fun _ _ => rfl, by simp [Footprint.everyEcc]⟩
  · exact ⟨by simp, fun _ _ => rfl, fun _ _ => rfl, fun _ _ => rfl, by simp⟩
  · exact hraise _ (.inl rfl)
  · exact hraise _ (.inr rfl)

/-! ### Reads (R97, R110, R358) -/

section
variable (h : Frame wordFp s t)
include h

protected theorem Frame.wordRefusal {p code : Nat} (hp : p < 4 ∨ 7 ≤ p) (hlt : p < 256) : Frame wordFp s (refusal t p code) :=
  .ite h h.wordPut.wordPut

protected theorem Frame.wordTouch {kf : Bool} {path : Fin 4} {addr : Nat} : Frame wordFp s (wordTouch t kf path addr) :=
  h.on _ fun _ h => h.wordPut

protected theorem Frame.wordTagReturn {path : Fin 4} {tag : Nat} : Frame wordFp s (tagReturn t path tag).1 := by
  unfold tagReturn
  split
  · exact Frame.evt h.wordPut (Fld.in_wordFp rfl (by omega)) 1
  · exact h

protected theorem Frame.wordRetRead {k : Bool} : Frame wordFp s (retAccess t k none).1 :=
  (h.eccRead eccReadFp_le_wordFp).wordPut

protected theorem Frame.intcReview : Frame wordFp s (intcReview t) := h.wordPut

end

theorem memPage_apart (a : Nat) : 7 ≤ 0xA0 + memOf a ∧ 0xA0 + memOf a < 256 := by
  have := memOf_lt a
  omega

/-- A candidate is one of the 256 sources (R407). -/
theorem candidate_lt {i n : Nat} (h : candidate s i = some n) : n < 256 := by
  have hfold : ∀ (l : List Nat) (m : Option Nat), (∀ k ∈ l, k < 256) → (∀ k, m = some k → k < 256) →
      ∀ k, l.foldl (fun m n => match m with
        | none => some n
        | some k => if s.get (INTC_SRC_CFG.PRIO k) < s.get (INTC_SRC_CFG.PRIO n) then some n else some k) m = some k → k < 256 := by
    intro l
    induction l with
    | nil => exact fun m _ hm => hm
    | cons x l ih =>
      intro m hl hm
      refine ih _ (fun k hk => hl k (List.mem_cons_of_mem _ hk)) fun k hk => ?_
      have hx := hl x List.mem_cons_self
      cases m with
      | none => exact Option.some.inj hk ▸ hx
      | some y =>
        have hy := hm y rfl
        simp only at hk
        split at hk <;> exact Option.some.inj hk ▸ by assumption
  exact hfold _ none (fun k hk => List.mem_range.mp (List.mem_of_mem_filter hk)) (fun _ hk => absurd hk (by simp)) n h

section
variable (h : Frame wordFp s t)
include h

protected theorem Frame.wordClaim {i : Nat} (hi : i < 4) : Frame wordFp s (claimRead t i).1 := by
  unfold claimRead
  split
  · exact h.wordPut
  next n hn =>
    have hlt := candidate_lt hn
    have hsource : Frame wordFp s (claimSource t i n) := by
      unfold claimSource
      exact Frame.wordPut (h.wordPut.wordPut.wordPut.wordPut.wordPut.wordPut.wordPut)
    exact hsource.intcReview

protected theorem Frame.wordPeek {c : Fin 4} : Frame wordFp s (peekCapture t c) := h.wordPut.wordPut.wordPut.wordPut

protected theorem Frame.wordRxNext {c : Fin 4} : Frame wordFp s (rxNext t c) := by
  unfold rxNext
  split
  · exact h
  · refine .ite ?_ h.wordPut
    have hpop : ∀ l, Frame wordFp s { t with rx := t.rx.set c l } := fun _ => h.wordStore rfl rfl rfl rfl
    exact (hpop _).wordPut.wordPut.wordPut.wordPut

protected theorem Frame.wordReadWide {path : Fin 4} {key : Nat} {high : Bool} : Frame wordFp s (readWide t path key high).1 := by
  have hcapture : Frame wordFp s (captureWide t path key) := by
    refine Frame.wordPut ?_
    exact h.wordStore rfl rfl rfl rfl
  unfold readWide
  extract_lets s1
  have hstate : Frame wordFp s s1 := .ite h hcapture
  split <;> exact hstate

protected theorem Frame.wordReadAcc {path : Fin 4} {acc r : Nat} : Frame wordFp s (readAcc t path acc r).1 := by
  have hcapture : Frame wordFp s (captureAcc t path acc) := by
    refine Frame.wordPut (Frame.wordPut (Frame.wordPut (Frame.wordPut (Frame.wordPut (Frame.wordPut (Frame.wordPut
      (Frame.wordPut ?_)))))))
    exact h.wordStore rfl rfl rfl rfl
  unfold readAcc
  extract_lets s1
  have hstate : Frame wordFp s s1 := .ite h hcapture
  split
  · exact h
  · split <;> exact hstate

protected theorem Frame.wordReadEffect {k : Bool} {path : Fin 4} {p off : Nat} : Frame wordFp s (readEffect t k path p off).1 := by
  unfold readEffect
  extract_lets plain
  split
  · split
    · exact h.wordRetRead (k := k)
    · exact h
  · split
    · exact h.wordClaim (by omega)
    · exact h
  · split
    · exact h.wordPeek
    · split
      · exact h.wordReadWide
      · exact h
  · split
    · exact h.wordRxNext
    · exact h
  · split
    · exact h.wordReadAcc
    · exact h
  · split
    · exact h.wordReadWide
    · exact h
  · exact h

protected theorem Frame.wordRegRead {k : Bool} {path : Fin 4} {p off : Nat} : Frame wordFp s (regRead t k path p off).1 := by
  unfold regRead
  split
  · exact h.wordRefusal (p := 0x00) (code := 4) (by decide) (by decide)
  · exact (h.wordReadEffect).wordTagReturn

protected theorem Frame.wordWindowRead {k : Bool} {a : Nat} : Frame wordFp s (windowRead t k a).1.1 := by
  obtain ⟨hp, hlt⟩ := memPage_apart a
  unfold windowRead
  extract_lets c s1
  split
  · exact h.wordRefusal (.inr hp) hlt
  · exact h.eccRead eccReadFp_le_wordFp

protected theorem Frame.wordRead {kf : Bool} {path : Fin 4} {addr : Nat} : Frame wordFp s (wordRead t kf path addr).1 := by
  unfold wordRead
  extract_lets s1 k r tag
  have h1 : Frame wordFp s s1 := h.wordTouch
  split
  · exact h1.wordRegRead
  · split
    · exact h1.wordWindowRead.wordTagReturn
    · exact h1.wordRefusal (p := 0x00) (code := 4) (by decide) (by decide)

/-! ### Writes through the windows (R81, R82, R357, R466) -/

protected theorem Frame.wordEccStore {w : Nat} : Frame wordFp s (t.eccStore w) := by
  have hn := memOf_lt (8 * w)
  exact h.eccStore rfl (fun _ => Fld.in_wordFp rfl (by omega)) fun _ => Fld.in_wordFp rfl (by omega)

protected theorem Frame.wordEccHalf {w i : Nat} : Frame wordFp s (t.eccHalf w i) :=
  .ite h.wordEccStore (.ite h.wordEccStore (h.setEcc rfl _))

protected theorem Frame.wordSetWord {a v : Nat} : Frame wordFp s (t.setWord a v) :=
  (h.setLe a v 4 fun _ _ _ => rfl).wordEccHalf

protected theorem Frame.wordSetRetWord {a v : Nat} : Frame wordFp s (t.setRetWord a v) :=
  ((((h.setRetByte rfl _).setRetByte rfl _).setRetByte rfl _).setRetByte rfl _).wordEccHalf

protected theorem Frame.wordWindowStore {a w : Nat} : Frame wordFp s (windowStore t a w) := by
  have hset := h.wordSetWord (a := a) (v := w)
  exact .ite hset.wordPut (.ite (.ite hset hset.wordSetRetWord) hset)

protected theorem Frame.wordWindowWrite {k : Bool} {a w : Nat} : Frame wordFp s (windowWrite t k a w).1 := by
  obtain ⟨hp, hlt⟩ := memPage_apart a
  unfold windowWrite
  extract_lets c
  split
  · exact h.wordRefusal (.inr hp) hlt
  · exact h.wordWindowStore

/-- A write of a word of the windows. -/
protected theorem Frame.wordWrite_window {kf : Bool} {path : Fin 4} {node : BitVec 16} {addr w : Nat} (hlo : 0x200000 ≤ addr)
    (hhi : addr < 0x700000) : Frame wordFp s (wordWrite t kf path node addr w).1 := by
  rw [wordWrite, if_neg (by omega), if_pos hhi]
  exact h.wordTouch.wordWindowWrite

end

end Sys2Proof.Machine
end

section
/-! SUPPORT. The frames of every path: their bytes and check (R101, R103), and the words that they perform, a frame that a check has
refused among them (R108, R111, R112). -/

namespace Sys2Proof.Machine

variable {s t : State}

/-! ### Bytes and their check (R100, R101, R103) -/

theorem crc16Bit_lt {c : Nat} (h : c < 2 ^ 16) : crc16Bit c < 2 ^ 16 := by
  unfold crc16Bit
  split
  · exact Nat.xor_lt_two_pow (Nat.mod_lt _ (by decide)) (by decide)
  · omega

theorem crc16Byte_lt {c : Nat} (h : c < 2 ^ 16) (b : BitVec 8) : crc16Byte c b < 2 ^ 16 := by
  have hx : c ^^^ (b.toNat * 256) < 2 ^ 16 := Nat.xor_lt_two_pow h (by have := b.isLt; omega)
  unfold crc16Byte
  iterate 8 apply crc16Bit_lt
  exact hx

theorem crc16_lt {c : Nat} (h : c < 2 ^ 16) (l : List (BitVec 8)) : crc16 c l < 2 ^ 16 := by
  unfold crc16
  induction l generalizing c with
  | nil => exact h
  | cons b l ih =>
    rw [List.foldl_cons]
    exact ih (crc16Byte_lt h b)

/-- The CRC of a request as its RCRC carries it. -/
theorem toNat_ofNat_crc16 (l : List (BitVec 8)) : (BitVec.ofNat 16 (crc16 0xFFFF l)).toNat = crc16 0xFFFF l :=
  (BitVec.toNat_ofNat ..).trans (Nat.mod_eq_of_lt (crc16_lt (by decide) l))

@[simp] theorem length_beBytes (n v : Nat) : (beBytes n v).length = n := by
  induction n with
  | zero => rfl
  | succ n ih => exact congrArg (· + 1) ih

/-- The number that the bytes of a number spell is the number, cut to its bytes. -/
theorem beNat_beBytes (n v : Nat) : beNat (beBytes n v) = v % 256 ^ n := by
  have hfold : ∀ a, (beBytes n v).foldl (fun a b => a * 256 + b.toNat) a = a * 256 ^ n + v % 256 ^ n := by
    induction n with
    | zero => simp [beBytes, Nat.mod_one]
    | succ n ih =>
      intro a
      have hmod : v % 256 ^ (n + 1) = v % 256 ^ n + 256 ^ n * (v / 256 ^ n % 256) := by rw [Nat.pow_succ, Nat.mod_mul]
      rw [beBytes, List.foldl_cons, ih, BitVec.toNat_ofNat, hmod]
      ring
  exact (hfold 0).trans (by simp)

/-- A number is read where its bytes stand in a payload. -/
theorem field_beBytes {l : List (BitVec 8)} (a b : List (BitVec 8)) {i n v : Nat} (hl : l = a ++ beBytes n v ++ b)
    (hi : a.length = i) : field l i n = v % 256 ^ n := by
  rw [field, hl, ← hi, List.append_assoc, List.drop_left, List.take_left' (length_beBytes n v), beNat_beBytes]

/-! ### A word of a frame -/

/-- A word of a frame that a check has refused: it reads zero and nothing is performed (R111). -/
def blankWord (j : Job) : Job := jobWords j 1 (wordBytes 0 0) 0 0

theorem jobStep_refused {path : Fin 4} {node : BitVec 16} {j : Job} (hc : 5 ≤ j.code) : jobStep s path node j = (s, blankWord j) := by
  have hremote : isRemote j = false := by simp [isRemote]; omega
  rw [jobStep, if_neg (by simp [hremote]), localWord, if_pos hc]
  rfl

section
variable (j : Job) (n : Nat)

/-- What `n` blank words leave of a frame. -/
structure Blanked (i : Job) : Prop where
  kind : i.kind = j.kind
  write : i.write = j.write
  wait : i.wait = j.wait
  code : i.code = j.code
  index : i.index = j.index
  left : i.left = j.left - n
  quota : i.quota = j.quota - n
  done : i.done = j.done + n
  out : ∀ b ∈ i.out, b ∈ j.out ∨ b = 0

theorem blankWord_blanked : Blanked j 1 (blankWord j) where
  kind := rfl
  write := rfl
  wait := rfl
  code := by simp [blankWord, jobWords]
  index := by simp [blankWord, jobWords]
  left := rfl
  quota := rfl
  done := rfl
  out b hb := by
    have hzero : wordBytes 0 0 = List.replicate 6 0 := rfl
    simp only [blankWord, jobWords, hzero] at hb
    split at hb
    · exact .inl hb
    · exact (List.mem_append.mp hb).imp_right List.eq_of_mem_replicate

theorem blanked_iterate : Blanked j n (blankWord^[n] j) := by
  induction n generalizing j with
  | zero => exact ⟨rfl, rfl, rfl, rfl, rfl, rfl, rfl, rfl, fun _ h => .inl h⟩
  | succ n ih =>
    have h1 := blankWord_blanked j
    have hn := ih (blankWord j)
    exact ⟨hn.kind.trans h1.kind, hn.write.trans h1.write, hn.wait.trans h1.wait, hn.code.trans h1.code, hn.index.trans h1.index,
      by rw [Function.iterate_succ_apply, hn.left, h1.left]; omega, by rw [Function.iterate_succ_apply, hn.quota, h1.quota]; omega,
      by rw [Function.iterate_succ_apply, hn.done, h1.done]; omega, fun b hb => (hn.out b hb).elim (h1.out b) .inr⟩

end

/-- The words of a refused frame are all blank. -/
theorem runJob_refused {path : Fin 4} {node : BitVec 16} {j : Job} {n : Nat} (hq : j.quota = n) (hc : 5 ≤ j.code) (hw : j.wait = 0)
    (hh : s.flag Boot.HELD = false) : runJob path node n s j = (s, blankWord^[n] j) := by
  induction n generalizing j with
  | zero => rfl
  | succ n ih =>
    have h1 := blankWord_blanked j
    rw [runJob, if_neg (by simp [hq, hw, hh]), jobStep_refused hc]
    exact ih (by rw [h1.quota, hq]; rfl) (h1.code ▸ hc) (h1.wait ▸ hw)

/-! ### How a frame goes on -/

theorem advance_complete {path : Fin 4} {node : BitVec 16} {j : Job} (hq : j.quota = 0) :
    advance s path node j = settle s path j := by
  rw [advance, hq]
  rfl

theorem advance_refused {path : Fin 4} {node : BitVec 16} {j : Job} (hc : 5 ≤ j.code) (hw : j.wait = 0)
    (hh : s.flag Boot.HELD = false) : advance s path node j = settle s path (blankWord^[j.quota] j) := by
  rw [advance, runJob_refused rfl hc hw hh]

/-- A frame of one word outside the remote window. -/
theorem advance_one {path : Fin 4} {node : BitVec 16} {j : Job} (hq : j.quota = 1) (hw : j.wait = 0) (ha : j.addr < 0x700000)
    (hh : s.flag Boot.HELD = false) :
    advance s path node j = settle (localWord s path node j).1 path (localWord s path node j).2 := by
  have hremote : isRemote j = false := by simp [isRemote]; omega
  rw [advance, hq, runJob, if_neg (by simp [hq, hw, hh]), jobStep, if_neg (by simp [hremote])]
  rfl

theorem localWord_read {path : Fin 4} {node : BitVec 16} {j : Job} (hc : j.code < 5) (hw : j.write = false) :
    localWord s path node j = ((wordRead s j.keeper path j.addr).1, jobWords j 1
      (wordBytes (wordRead s j.keeper path j.addr).2.1 (wordRead s j.keeper path j.addr).2.2.1)
      (wordRead s j.keeper path j.addr).2.2.2 0) := by
  rw [localWord, if_neg (by omega), if_neg (by simp [hw])]

theorem localWord_write {path : Fin 4} {node : BitVec 16} {j : Job} (hc : j.code < 5) (hw : j.write = true) :
    localWord s path node j = ((wordWrite s j.keeper path node j.addr (j.data.head?.getD 0).toNat).1, jobWords j 1 []
      (wordWrite s j.keeper path node j.addr (j.data.head?.getD 0).toNat).2 0) := by
  rw [localWord, if_neg (by omega), if_pos hw]

/-- A frame whose words have all been performed, as its kind completes. -/
theorem settle_host {path : Fin 4} {j : Job} (hh : s.flag Boot.HELD = false) (hk : j.kind = 0) : settle s path j = keepJob s path j := by
  rw [settle, if_neg (by simp [hh]), hk]
  exact ite_self _

theorem settle_can {path : Fin 4} {j : Job} (hh : s.flag Boot.HELD = false) (hk : j.kind = 1) (hw : j.wait = 0) (hq : j.quota = 0) :
    settle s path j = canAnswer (dropJob s path) (path - 1) j := by
  rw [settle, if_neg (by simp [hh]), if_neg (by simp [hw, hq]), hk]
  rfl

theorem settle_ended {path : Fin 4} {j : Job} (hh : s.flag Boot.HELD = false) (hk : j.kind = 3) (hw : j.wait = 0) (hq : j.quota = 0) :
    settle s path j = hostDone s j false := by
  rw [settle, if_neg (by simp [hh]), if_neg (by simp [hw, hq]), hk]
  rfl

/-- A path that performs no frame is left as it is. -/
theorem dropJob_none {path : Fin 4} (h : s.jobs[path] = none) : dropJob s path = s := by
  have hset : s.jobs.set path none = s.jobs := by
    rw [← h]
    exact Vector.set_getElem_self path.isLt
  rw [dropJob, hset]

end Sys2Proof.Machine
end

section
/-! SUPPORT. The CAN FD controllers (R113 to R118): what a frame on the bus counts, and how a request is taken and answered. -/

namespace Sys2Proof.Machine

variable {F : Footprint} {s t : State} {n : Fin 2}

/-! ### What a frame on the bus counts (R113) -/

protected theorem Frame.canActive (h : Frame F s t) (hF : (canFp n).le F) : Frame F s (canActive t n) :=
  h.on _ fun _ h => h.put (hF.field (by simp)) _

protected theorem Frame.canHeard (h : Frame F s t) (hF : (canFp n).le F) : Frame F s (canHeard t n) := by
  have hrec : ∀ {u v}, Frame F s u → Frame F s (canActive (u.put (CAN_STAT.REC n) v) n) :=
    fun hu => (hu.put (hF.field (by simp)) _).canActive hF
  exact .ite (hrec h) (hrec (h.wrapInc (hF.field (by simp))))

protected theorem Frame.canSent (h : Frame F s t) (hF : (canFp n).le F) : Frame F s (canSent t n) :=
  (h.put (hF.field (by simp)) _).canActive hF

theorem canHeard_frame (s : State) (n : Fin 2) : Frame (canFp n) s (canHeard s n) := (Frame.refl _ s).canHeard (Footprint.le_refl _)

/-- A field of another number is no controller's to count. -/
theorem fld_canFp {f : Fld} {k l m r : Nat} (hf : f = ⟨k, l, m, r⟩) (h : k * 32 + l ≠ (0x504C + n * 0x1000) * 32 + 16
    ∧ k * 32 + l ≠ (0x504C + n * 0x1000) * 32 + 24 ∧ k * 32 + l ≠ (0x504C + n * 0x1000) * 32 ∧ k * 32 + l ≠ 0x11D0000 * 32) :
    (canFp n).fld f.id = false := by
  rw [hf]
  simp [canFp, Footprint.fields, Fld.id]
  omega

theorem get_canHeard (s : State) (n : Fin 2) {f : Fld} (hf : (canFp n).fld f.id = false) : (canHeard s n).get f = s.get f :=
  (canHeard_frame s n).fld f hf

/-- The state that clears, beside the counters that clear it. -/
theorem get_canActive {f : Fld} (hf : f.id ≠ (CAN_STAT.STATE n).id) : (canActive s n).get f = s.get f := by
  unfold canActive State.on
  split
  · exact State.get_put_ne _ _ hf
  · rfl

theorem state_canActive (s : State) (n : Fin 2) :
    (canActive s n).get (CAN_STAT.STATE n) = s.get (CAN_STAT.STATE n) ∨ (canActive s n).get (CAN_STAT.STATE n) = 0 := by
  unfold canActive State.on
  split
  · exact .inr (State.get_put_same ..)
  · exact .inl rfl

/-- Frames received and sent put no controller off the bus. -/
theorem state_canActive_ne (h : s.get (CAN_STAT.STATE n) ≠ 2) : (canActive s n).get (CAN_STAT.STATE n) ≠ 2 := by
  rcases state_canActive s n with hs | hs <;> rw [hs]
  · exact h
  · decide

/-- What a received frame makes of REC (R113, log entry 22). -/
theorem rec_canHeard (s : State) (n : Fin 2) :
    (s.get (CAN_STAT.REC n) < 128 → (canHeard s n).get (CAN_STAT.REC n) = s.get (CAN_STAT.REC n) - 1)
    ∧ (128 ≤ s.get (CAN_STAT.REC n) → 119 ≤ (canHeard s n).get (CAN_STAT.REC n) ∧ (canHeard s n).get (CAN_STAT.REC n) ≤ 127) := by
  have hne : (CAN_STAT.REC n).id ≠ (CAN_STAT.STATE n).id := by simp only [Fld.id]; omega
  refine ⟨fun h => ?_, fun h => ?_⟩
  · rw [canHeard, if_pos h, get_canActive hne, State.get_put_same, Nat.mod_eq_of_lt (by change _ < 256; omega)]
  · have hfree : Config.freeNat s.fresh.1 % 9 < 9 := Nat.mod_lt _ (by decide)
    rw [canHeard, if_neg (by omega)]
    dsimp only
    rw [get_canActive hne, State.get_put_same, Nat.mod_eq_of_lt (by change _ < 256; omega)]
    omega

theorem state_canHeard_ne (h : s.get (CAN_STAT.STATE n) ≠ 2) : (canHeard s n).get (CAN_STAT.STATE n) ≠ 2 := by
  have hne : (CAN_STAT.STATE n).id ≠ (CAN_STAT.REC n).id := by simp only [Fld.id]; omega
  unfold canHeard
  split
  · exact state_canActive_ne (by rwa [State.get_put_ne _ _ hne])
  · refine state_canActive_ne ?_
    have hfresh : s.fresh.2.get (CAN_STAT.STATE n) = s.get (CAN_STAT.STATE n) := State.get_put_ne _ _ (by simp only [Fld.id]; omega)
    rw [State.get_put_ne _ _ hne]
    exact fun he => h (hfresh.symm.trans he)

/-- A controller that takes part in the bus still does where only frames have been counted. -/
theorem canOn_congr (hs : s.get (CAN_STAT.STATE n) ≠ 2 → t.get (CAN_STAT.STATE n) ≠ 2) (he : t.get (CAN_CFG.EN n) = s.get (CAN_CFG.EN n))
    (hl : t.get (CAN_CFG.LISTEN n) = s.get (CAN_CFG.LISTEN n)) (h : canOn s n = true) : canOn t n = true := by
  simp only [canOn, State.flag, he, hl, Bool.and_eq_true, bne_iff_ne] at h ⊢
  exact ⟨h.1, hs h.2⟩

theorem canOn_canHeard (h : canOn s n = true) : canOn (canHeard s n) n = true :=
  canOn_congr state_canHeard_ne (get_canHeard s n (fld_canFp rfl (by omega))) (get_canHeard s n (fld_canFp rfl (by omega))) h

theorem canHears_of_canOn (h : canOn s n = true) : canHears s n = true := by
  simp only [canOn, canHears, Bool.and_eq_true] at h ⊢
  exact ⟨h.1.1, h.2⟩

/-! ### What arrives (R113 to R116) -/

/-- The identifier of a request from `src` to the controller's node (R114). -/
def requestId (s : State) (n : Fin 2) (seq src : BitVec 8) : BitVec 29 :=
  BitVec.ofNat 29 (2 ^ 28 + seq.toNat * 65536 + src.toNat * 256 + s.get (CAN_CFG.NODE n))

section
variable {seq src : BitVec 8}

theorem toNat_requestId : (requestId s n seq src).toNat = 2 ^ 28 + seq.toNat * 65536 + src.toNat * 256 + s.get (CAN_CFG.NODE n) := by
  have hnode : s.get (CAN_CFG.NODE n) < 2 ^ 8 := State.get_lt s (CAN_CFG.NODE n)
  have hseq := seq.isLt
  have hsrc := src.isLt
  rw [requestId, BitVec.toNat_ofNat]
  omega

/-- The fields of such an identifier. -/
theorem slice_requestId : slice (requestId s n seq src).toNat 27 2 = 2 ∧ slice (requestId s n seq src).toNat 24 3 = 0
    ∧ slice (requestId s n seq src).toNat 16 8 = seq.toNat ∧ slice (requestId s n seq src).toNat 8 8 = src.toNat
    ∧ slice (requestId s n seq src).toNat 0 8 = s.get (CAN_CFG.NODE n) := by
  have hnode : s.get (CAN_CFG.NODE n) < 2 ^ 8 := State.get_lt s (CAN_CFG.NODE n)
  have hseq := seq.isLt
  have hsrc := src.isLt
  rw [toNat_requestId]
  simp only [slice, Nat.shiftRight_eq_div_pow]
  omega

theorem canMine_requestId (ht : t.get (CAN_CFG.NODE n) = s.get (CAN_CFG.NODE n)) (h0 : s.get (CAN_CFG.NODE n) ≠ 0)
    (h255 : s.get (CAN_CFG.NODE n) ≠ 255) : canMine t n (requestId s n seq src).toNat = true := by
  obtain ⟨htype, hzero, -, -, hdst⟩ := slice_requestId (s := s) (n := n) (seq := seq) (src := src)
  simp [canMine, htype, hzero, hdst, ht, h0, h255]

end

section
variable {id : BitVec 29} {payload : List (BitVec 8)} {waiting : Nat}

theorem canFrame_unheard {id : Option (BitVec 29)} (h : served s = false ∨ canHears s n = false) :
    canFrame s n id payload waiting = s := by
  rw [canFrame, if_pos (by rcases h with h | h <;> simp [h])]

/-- A frame that is none of the register protocol's is counted (R113). -/
theorem canFrame_none (hs : served s = true) (hh : canHears s n = true) :
    canFrame s n none payload waiting = (canHeard s n).inc (CAN_STAT.DROPPED n) := by
  rw [canFrame, if_neg (by simp [hs, hh])]

theorem canFrame_some (hs : served s = true) (hh : canHears s n = true) : canFrame s n (some id) payload waiting
    = if (canHeard s n).flag (CAN_CFG.LISTEN n) || !canMine (canHeard s n) n id.toNat then canHeard s n
      else if 4 ≤ waiting ∨ 4 ≤ ((canHeard s n).canq[n]).length then
        raiseEvent ((canHeard s n).inc (CAN_STAT.DROPPED n)) (0x05 + n) 2
      else canDrain n 5 { canHeard s n with canq := (canHeard s n).canq.set n ((canHeard s n).canq[n]
        ++ [{ reply := slice id.toNat 16 8 * 256 + slice id.toNat 8 8, payload := payload }]) } := by
  rw [canFrame, if_neg (by simp [hs, hh])]

/-- A frame that is no request to the controller's node is heard and no more (R114, R115). -/
theorem canFrame_other (hs : served s = true) (hh : canHears s n = true)
    (h : s.get (CAN_CFG.LISTEN n) = 1 ∨ id.toNat / 2 ^ 27 ≠ 2 ∨ id.toNat % 256 ≠ s.get (CAN_CFG.NODE n) ∨ s.get (CAN_CFG.NODE n) = 0
      ∨ s.get (CAN_CFG.NODE n) = 255) : canFrame s n (some id) payload waiting = canHeard s n := by
  have hlisten : (canHeard s n).get (CAN_CFG.LISTEN n) = s.get (CAN_CFG.LISTEN n) := get_canHeard s n (fld_canFp rfl (by omega))
  have hnode : (canHeard s n).get (CAN_CFG.NODE n) = s.get (CAN_CFG.NODE n) := get_canHeard s n (fld_canFp rfl (by omega))
  have hid := id.isLt
  have htype : slice id.toNat 27 2 = id.toNat / 2 ^ 27 := by
    simp only [slice, Nat.shiftRight_eq_div_pow]
    omega
  have hdst : slice id.toNat 0 8 = id.toNat % 256 := rfl
  rw [canFrame_some hs hh, if_pos]
  rw [Bool.or_eq_true, Bool.not_eq_true']
  rcases h with h | h
  · exact .inl (State.flag_of_get (hlisten.trans h))
  · refine .inr ?_
    simp only [canMine, htype, hdst, hnode, Bool.and_eq_false_iff, bne_eq_false_iff_eq, beq_eq_false_iff_ne]
    tauto

/-- A request to the controller's node is heard as one (R114, R115). -/
structure Requested (s : State) (n : Fin 2) : Prop where
  served : served s = true
  on : canOn s n = true
  node : s.get (CAN_CFG.NODE n) ≠ 0
  broadcast : s.get (CAN_CFG.NODE n) ≠ 255

section
variable {seq src : BitVec 8} (h : Requested s n)
include h

theorem canFrame_requestId : canFrame s n (some (requestId s n seq src)) payload waiting
    = if 4 ≤ waiting ∨ 4 ≤ ((canHeard s n).canq[n]).length then
        raiseEvent ((canHeard s n).inc (CAN_STAT.DROPPED n)) (0x05 + n) 2
      else canDrain n 5 { canHeard s n with canq := (canHeard s n).canq.set n ((canHeard s n).canq[n]
        ++ [{ reply := seq.toNat * 256 + src.toNat, payload := payload }]) } := by
  obtain ⟨-, -, hseq, hsrc, -⟩ := slice_requestId (s := s) (n := n) (seq := seq) (src := src)
  have hmine : canMine (canHeard s n) n (requestId s n seq src).toNat = true :=
    canMine_requestId (get_canHeard s n (fld_canFp rfl (by omega))) h.node h.broadcast
  have hlisten : (canHeard s n).flag (CAN_CFG.LISTEN n) = false := by
    have hon := canOn_canHeard h.on
    simp only [canOn, Bool.and_eq_true, Bool.not_eq_true'] at hon
    exact hon.1.2
  rw [canFrame_some h.served (canHears_of_canOn h.on), if_neg (by simp [hlisten, hmine]), hseq, hsrc]

end

end

end Sys2Proof.Machine
end

section
/-! SUPPORT. A CAN FD request that is taken: its bytes, its words and its one response frame (R114 to R116). -/

namespace Sys2Proof.Machine

variable {s t : State} {n : Fin 2}

/-! ### A request that waits (R116) -/

theorem canDrain_idle (h : s.canq[n] = []) (k : Nat) : canDrain n k s = s := by
  cases k with
  | zero => rfl
  | succ k => simp [canDrain, h]

theorem canDrain_busy (h : (s.jobs[canPath n]).isSome = true) (k : Nat) : canDrain n k s = s := by
  cases k with
  | zero => rfl
  | succ k => rw [canDrain, if_pos h]

/-- A request that finds its controller free is taken at once. -/
theorem canDrain_one (hj : s.jobs[canPath n] = none) (hq : s.canq[n] = []) (w : CanWait) (k : Nat) :
    canDrain n (k + 1) { s with canq := s.canq.set n (s.canq[n] ++ [w]) } = canDrain n k (canStart s n w) := by
  have hset : (s.canq.set n (s.canq[n] ++ [w])).set n [] = s.canq := by
    rw [Vector.set_set, ← hq]
    exact Vector.set_getElem_self n.isLt
  have hhead : (s.canq.set n (s.canq[n] ++ [w]))[n] = [w] := by simp [hq]
  rw [canDrain, if_neg (by simp [hj])]
  simp only [hhead, hset]

/-! ### The bytes of a request (R101, R115) -/

theorem length_flatMap_word (data : List (BitVec 32)) : (data.flatMap fun w => beBytes 4 w.toNat).length = 4 * data.length := by
  simp [List.length_flatMap]
  omega

/-- The words are read back from their bytes. -/
theorem wordsOf_flatMap (data : List (BitVec 32)) : wordsOf (data.flatMap fun w => beBytes 4 w.toNat) data.length = data := by
  induction data with
  | nil => rfl
  | cons w ws ih =>
    rw [List.flatMap_cons, List.length_cons, wordsOf, List.take_left' (length_beBytes 4 w.toNat),
      List.drop_left' (length_beBytes 4 w.toNat), ih, beNat_beBytes,
      show w.toNat % 256 ^ 4 = w.toNat from Nat.mod_eq_of_lt w.isLt, BitVec.ofNat_toNat, BitVec.setWidth_eq]

section
variable (op : BitVec 8) (addr : BitVec 24) (len : BitVec 8) (data : List (BitVec 32))

theorem length_requestBytes {op addr len : Nat} : (requestBytes op addr len data).length = 5 + 4 * data.length := by
  simp only [requestBytes, List.length_append, length_beBytes, length_flatMap_word]

/-- A request as it arrives: its bytes, its RCRC and the padding of its frame. -/
def requestPayload (rcrc : Nat) (rest : List (BitVec 8)) : List (BitVec 8) :=
  requestBytes op.toNat addr.toNat len.toNat data ++ beBytes 2 rcrc ++ rest

/-- A request as the words that it has its path perform: a read above the limit of LEN performs none (R115). -/
def requestJob (s : State) (n : Fin 2) (op addr len : Nat) (words : List (BitVec 32)) (code reply : Nat) : Job :=
  let j := newJob 1 op addr len words (op.testBit 7 && sessionOpen s (canSession n) 0) code
  let m := if opReads op && decide (9 < len) then 0 else j.left
  { j with reply := reply, left := m, quota := m, fifo := m }

variable {op addr len data} {rcrc reply : Nat} {rest : List (BitVec 8)}

theorem field_op : field (requestPayload op addr len data rcrc rest) 0 1 = op.toNat :=
  (field_beBytes [] (beBytes 3 addr.toNat ++ beBytes 1 len.toNat ++ data.flatMap (fun w => beBytes 4 w.toNat) ++ beBytes 2 rcrc ++ rest)
    (by simp [requestPayload, requestBytes]) rfl).trans (Nat.mod_eq_of_lt op.isLt)

theorem field_addr : field (requestPayload op addr len data rcrc rest) 1 3 = addr.toNat :=
  (field_beBytes (beBytes 1 op.toNat) (beBytes 1 len.toNat ++ data.flatMap (fun w => beBytes 4 w.toNat) ++ beBytes 2 rcrc ++ rest)
    (by simp [requestPayload, requestBytes]) (length_beBytes ..)).trans (Nat.mod_eq_of_lt addr.isLt)

theorem field_len : field (requestPayload op addr len data rcrc rest) 4 1 = len.toNat :=
  (field_beBytes (beBytes 1 op.toNat ++ beBytes 3 addr.toNat) (data.flatMap (fun w => beBytes 4 w.toNat) ++ beBytes 2 rcrc ++ rest)
    (by simp [requestPayload, requestBytes]) rfl).trans (Nat.mod_eq_of_lt len.isLt)

/-- How many words stand in a request of the opcode: those that it writes, at most 14. -/
structure Announced (op len : BitVec 8) (data : List (BitVec 32)) : Prop where
  count : data.length = if opWrites op.toNat then len.toNat + 1 else 0
  fits : opWrites op.toNat = true → len.toNat ≤ 13

variable (h : Announced op len data)
include h

theorem canData_requestPayload :
    canData op.toNat len.toNat (requestPayload op addr len data rcrc rest) = data.flatMap fun w => beBytes 4 w.toNat := by
  have hcount := h.count
  unfold canData
  split at hcount
  next hw =>
    have hhead : (beBytes 1 op.toNat ++ beBytes 3 addr.toNat ++ beBytes 1 len.toNat).length = 5 := by simp
    have hpayload : requestPayload op addr len data rcrc rest = (beBytes 1 op.toNat ++ beBytes 3 addr.toNat ++ beBytes 1 len.toNat)
        ++ ((data.flatMap fun w => beBytes 4 w.toNat) ++ (beBytes 2 rcrc ++ rest)) := by simp [requestPayload, requestBytes]
    rw [if_neg (by simp [hw]), if_pos (h.fits hw), hpayload, List.drop_left' hhead,
      List.take_left' ((length_flatMap_word data).trans (congrArg (4 * ·) hcount))]
  next hw =>
    rw [if_pos (by simpa using hw), List.length_eq_zero_iff.mp hcount, List.flatMap_nil]

theorem wordsOf_announced : opWrites op.toNat = true → wordsOf (data.flatMap fun w => beBytes 4 w.toNat) (len.toNat + 1) = data := by
  intro hw
  have hcount := h.count
  rw [if_pos hw] at hcount
  exact hcount ▸ wordsOf_flatMap data

/-- What a request's bytes and their check make of it. -/
theorem canStart_request (hrcrc : rcrc < 2 ^ 16) : canStart s n ⟨reply, requestPayload op addr len data rcrc rest⟩
    = advance s (canPath n) 0 (requestJob s n op.toNat addr.toNat len.toNat
        (wordsOf (data.flatMap fun w => beBytes 4 w.toNat) (len.toNat + 1))
        (if crc16 0xFFFF (requestBytes op.toNat addr.toNat len.toNat data) = rcrc
          then frameCode op.toNat addr.toNat len.toNat (canTop op.toNat) 0xFFFFFC else 5) reply) := by
  have hcovered : (requestPayload op addr len data rcrc rest).take 5 ++ (data.flatMap fun w => beBytes 4 w.toNat)
      = requestBytes op.toNat addr.toNat len.toNat data := by
    rw [requestPayload, requestBytes, List.append_assoc, List.append_assoc, List.take_left' (by simp)]
  have hlen : (requestBytes op.toNat addr.toNat len.toNat data).length + 2 ≤ (requestPayload op addr len data rcrc rest).length := by
    simp [requestPayload]
  have hwords : (len.toNat > 13 || !opWrites op.toNat || (data.flatMap fun w => beBytes 4 w.toNat).length == 4 * (len.toNat + 1)) = true := by
    rw [length_flatMap_word, h.count]
    by_cases hw : opWrites op.toNat = true <;> simp [hw]
  have hcrc : field (requestPayload op addr len data rcrc rest) (requestBytes op.toNat addr.toNat len.toNat data).length 2 = rcrc :=
    (field_beBytes (requestBytes op.toNat addr.toNat len.toNat data) rest rfl rfl).trans (Nat.mod_eq_of_lt hrcrc)
  unfold canStart
  simp only [field_op, field_addr, field_len, canData_requestPayload h, hcovered, hcrc, hwords, decide_eq_true hlen,
    Bool.true_and, beq_iff_eq]
  rfl

end

end Sys2Proof.Machine
end

section
/-! SUPPORT. The one response frame of a CAN FD request, and what each request is answered with (R112, R114 to R116). -/

namespace Sys2Proof.Machine

variable {s t u : State} {n : Fin 2} {j : Job} {seq src : BitVec 8}

/-! ### The response frame (R114, R115) -/

/-- One response frame with `body` has been sent to `src`, and the controller has counted it. -/
structure Answered (u t : State) (n : Fin 2) (seq src : BitVec 8) (body : List (BitVec 8)) : Prop where
  sent : t.sent = u.sent ++ [.can n (2 ^ 27 + seq.toNat * 65536 + u.get (CAN_CFG.NODE n) * 256 + src.toNat)
    (canPad (body ++ beBytes 2 (crc16 0xFFFF body)))]
  tec : t.get (CAN_STAT.TEC n) = u.get (CAN_STAT.TEC n) - 1
  frame : Frame (.any [canFp n, .parts [.sent]]) u t

theorem sent_canActive (s : State) (n : Fin 2) : (canActive s n).sent = s.sent := by
  unfold canActive State.on
  split <;> rfl

/-- A frame heard costs it none. -/
theorem tec_canHeard (s : State) (n : Fin 2) : (canHeard s n).get (CAN_STAT.TEC n) = s.get (CAN_STAT.TEC n) := by
  have hstate : (CAN_STAT.TEC n).id ≠ (CAN_STAT.STATE n).id := by simp only [Fld.id]; omega
  have hrec : (CAN_STAT.TEC n).id ≠ (CAN_STAT.REC n).id := by simp only [Fld.id]; omega
  have hfree : (CAN_STAT.TEC n).id ≠ Dev.FREE.id := by simp only [Fld.id]; omega
  unfold canHeard
  split
  · rw [get_canActive hstate, State.get_put_ne _ _ hrec]
  · exact (get_canActive hstate).trans ((State.get_put_ne _ _ hrec).trans (State.get_put_ne _ _ hfree))

/-- A frame sent costs the controller one of TEC. -/
theorem tec_canSent (s : State) (n : Fin 2) : (canSent s n).get (CAN_STAT.TEC n) = s.get (CAN_STAT.TEC n) - 1 := by
  have htec : s.get (CAN_STAT.TEC n) < 2 ^ 8 := State.get_lt s (CAN_STAT.TEC n)
  rw [canSent, get_canActive (by simp only [Fld.id]; omega), State.get_put_same, Nat.mod_eq_of_lt (by change _ < 2 ^ 8; omega)]

theorem canAnswer_answered (hon : canOn u n = true) (hreply : j.reply = seq.toNat * 256 + src.toNat) :
    Answered u (canAnswer u n j) n seq src (beBytes 2 (statusWord j) ++ j.out) := by
  have hseq : (seq.toNat * 256 + src.toNat) / 256 = seq.toNat := by have := src.isLt; omega
  have hsrc : (seq.toNat * 256 + src.toNat) % 256 = src.toNat := by have := src.isLt; omega
  unfold canAnswer
  rw [hon, State.on_true, hreply, hseq, hsrc]
  refine ⟨sent_canActive .., tec_canSent .., ?_⟩
  exact ((Frame.refl _ u).send rfl _).canSent (Footprint.le_any (by simp))

/-! ### A request that is taken -/

/-- The frame that a word's answer is sent from still belongs to the controller that took the request. -/
theorem canOn_of_word (h : Frame wordFp s t) (hon : canOn s n = true) : canOn t n = true := by
  have hown : ∀ {f : Fld} {k l m r : Nat}, f = ⟨k, l, m, r⟩ → (k = 0x5040 + n * 0x1000 ∨ k = 0x504C + n * 0x1000) ∧ l < 32 →
      t.get f = s.get f := fun hf hk => h.fld _ <| by
    rw [hf]
    simp [wordFp, frameOwn, Fld.id]
    omega
  exact canOn_congr (fun hne => (hown (f := CAN_STAT.STATE n) rfl (by omega)).symm ▸ hne)
    (hown (f := CAN_CFG.EN n) rfl (by omega)) (hown (f := CAN_CFG.LISTEN n) rfl (by omega)) hon

/-- A request to the node of a controller whose path is free. -/
structure Taken (s : State) (n : Fin 2) : Prop extends Requested s n where
  free : s.jobs[canPath n] = none
  first : s.canq[n] = []

variable (h : Taken s n)
include h

theorem Taken.held : (canHeard s n).flag Boot.HELD = false := by
  have hserved := h.served
  simp only [served, Bool.and_eq_true, Bool.not_eq_true'] at hserved
  obtain ⟨⟨⟨-, hheld⟩, -⟩, -⟩ := hserved
  rw [State.flag, get_canHeard s n (fld_canFp rfl (by omega))]
  exact hheld

theorem Taken.free_canHeard : (canHeard s n).jobs[canPath n] = none := ((canHeard_frame s n).part (.jobs (canPath n)) rfl).trans h.free

theorem Taken.first_canHeard : (canHeard s n).canq[n] = [] := ((canHeard_frame s n).part (.canq n) rfl).trans h.first

theorem Taken.sessionOpen : sessionOpen (canHeard s n) (canSession n) 0 = sessionOpen s (canSession n) 0 := by
  have hcode : ∀ q : Fin 4, (canHeard s n).get (Ses.CODE q) = s.get (Ses.CODE q) := fun q =>
    get_canHeard s n (fld_canFp rfl (by have := q.isLt; omega))
  fin_cases n
  · exact State.flag_congr (hcode 1)
  · exact State.flag_congr (hcode 2)

section
variable {op len : BitVec 8} {addr : BitVec 24} {data : List (BitVec 32)} {rcrc code : Nat} {rest : List (BitVec 8)}

/-- A request whose words have been performed is answered from the state that they have left. -/
theorem canRequest_answered (ha : Announced op len data) (hrcrc : rcrc < 2 ^ 16)
    (hcode : (if crc16 0xFFFF (requestBytes op.toNat addr.toNat len.toNat data) = rcrc
        then frameCode op.toNat addr.toNat len.toNat (canTop op.toNat) 0xFFFFFC else 5) = code)
    (hperf : advance (canHeard s n) (canPath n) 0 (requestJob (canHeard s n) n op.toNat addr.toNat len.toNat
        (wordsOf (data.flatMap fun w => beBytes 4 w.toNat) (len.toNat + 1))
        code (seq.toNat * 256 + src.toNat))
      = settle u (canPath n) j)
    (hu : Frame wordFp (canHeard s n) u) (hkind : j.kind = 1) (hwait : j.wait = 0) (hquota : j.quota = 0)
    (hreply : j.reply = seq.toNat * 256 + src.toNat) :
    ∃ t, exec (.canRequest n (some (requestId s n seq src)) (requestPayload op addr len data rcrc rest) 0) s = .next t
      ∧ Answered u t n seq src (beBytes 2 (statusWord j) ++ j.out) := by
  have hheld : u.flag Boot.HELD = false := (State.flag_congr (hu.fld Boot.HELD (by decide))).trans h.held
  have hjobs : u.jobs[canPath n] = none := (hu.part (.jobs (canPath n)) rfl).trans h.free_canHeard
  have hcanq : u.canq[n] = [] := (hu.part (.canq n) rfl).trans h.first_canHeard
  have hpath : ((canPath n : Fin 4) : Nat) - 1 = n := by fin_cases n <;> rfl
  have hans := canAnswer_answered (canOn_of_word hu (canOn_canHeard h.on)) hreply
  have hstart : canStart (canHeard s n) n ⟨seq.toNat * 256 + src.toNat, requestPayload op addr len data rcrc rest⟩ = canAnswer u n j := by
    rw [canStart_request ha hrcrc, hcode, hperf, settle_can hheld hkind hwait hquota, dropJob_none hjobs, hpath]
  refine ⟨canAnswer u n j, congrArg Host.Outcome.next ?_, hans⟩
  have hidle : (canAnswer u n j).canq[n] = [] := (hans.frame.part (.canq n) (by rfl)).trans hcanq
  rw [show ((0 : Fin 5) : Nat) = 0 from rfl, canFrame_requestId h.toRequested, if_neg (by simp [h.first_canHeard]),
    canDrain_one h.free_canHeard h.first_canHeard, hstart, canDrain_idle hidle]

/-- A request that performs no word. -/
theorem canRequest_answered_blank (ha : Announced op len data) (hrcrc : rcrc < 2 ^ 16)
    (hcode : (if crc16 0xFFFF (requestBytes op.toNat addr.toNat len.toNat data) = rcrc
        then frameCode op.toNat addr.toNat len.toNat (canTop op.toNat) 0xFFFFFC else 5) = code)
    (hperf : advance (canHeard s n) (canPath n) 0 (requestJob (canHeard s n) n op.toNat addr.toNat len.toNat
        (wordsOf (data.flatMap fun w => beBytes 4 w.toNat) (len.toNat + 1))
        code (seq.toNat * 256 + src.toNat))
      = settle (canHeard s n) (canPath n) j)
    (hkind : j.kind = 1) (hwait : j.wait = 0) (hquota : j.quota = 0) (hreply : j.reply = seq.toNat * 256 + src.toNat) :
    ∃ t, exec (.canRequest n (some (requestId s n seq src)) (requestPayload op addr len data rcrc rest) 0) s = .next t
      ∧ Answered s t n seq src (beBytes 2 (statusWord j) ++ j.out) := by
  obtain ⟨t, hexec, hsent, htec, hframe⟩ :=
    canRequest_answered (rest := rest) h ha hrcrc hcode hperf (Frame.refl _ _) hkind hwait hquota hreply
  have hnode : (canHeard s n).get (CAN_CFG.NODE n) = s.get (CAN_CFG.NODE n) := get_canHeard s n (fld_canFp rfl (by omega))
  have hkept : (canHeard s n).get (CAN_STAT.TEC n) = s.get (CAN_STAT.TEC n) := tec_canHeard s n
  have hsame : (canHeard s n).sent = s.sent := (canHeard_frame s n).part .sent rfl
  refine ⟨t, hexec, ?_, htec.trans (by rw [hkept]), ((canHeard_frame s n).mono (Footprint.le_any (by simp))).trans hframe⟩
  rw [hsent, hsame, hnode]

end

end Sys2Proof.Machine
end

section
/-! SUPPORT. The requests that a controller counts, queues, refuses and performs, heartbeats and the error states (R112 to R118). -/

namespace Sys2Proof.Machine

variable {F : Footprint} {s t u : State} {n : Fin 2} {seq src : BitVec 8}

/-! ### A request that is not taken at once (R116) -/

/-- The requests that wait at a controller change. -/
protected theorem Frame.setCanq (h : Frame F s t) {l : List CanWait} (hn : F.part (.canq n) = true) :
    Frame F s { t with canq := t.canq.set n l } := by
  refine ⟨h.fld, h.mem, h.ret, h.ecc, fun q hq => Part.same_trans (h.part q hq) ?_⟩
  cases q with
  | canq m =>
    have hne : n ≠ m := fun hnm => by simp [← hnm, hn] at hq
    exact Vector.getElem_set_ne n.isLt m.isLt (Fin.val_ne_of_ne hne)
  | _ => rfl

/-- A raise in the page of a controller. -/
theorem raiseFault_frame_can (h : Frame F s t) (c : Cause) (hc : c.bit < 16) (hp : c.page = 0x05 + n)
    (hF : (raiseFp (0x05 + n)).le F) : Frame F s (raiseFault t c) := by
  have hkind : pageKind (0x05 + n) ≠ some 0x20 := by fin_cases n <;> decide
  have hact : ∀ u k e, actionEffect u (0x05 + n) k c.bit e = u := by fin_cases n <;> exact fun _ _ _ => rfl
  exact raiseFault_frame_passive h c hc (hp ▸ hkind) (hp ▸ hact) (hp ▸ hF)

/-- A raise in its page leaves a controller's counters and its state. -/
theorem raiseFp_can_spares (n : Fin 2) : (raiseFp (0x05 + n)).fld (CAN_STAT.DROPPED n).id = false
    ∧ (raiseFp (0x05 + n)).fld (CAN_STAT.STATE n).id = false := by
  fin_cases n <;> decide

theorem canDropped_get (s : State) (n : Fin 2) : ((canHeard s n).inc (CAN_STAT.DROPPED n)).get (CAN_STAT.DROPPED n)
    = min 255 (s.get (CAN_STAT.DROPPED n) + 1) := by
  exact (State.get_inc ..).trans (congrArg (fun v => min 255 (v + 1)) (get_canHeard s n (fld_canFp rfl (by omega))))

theorem canDropped_frame (s : State) (n : Fin 2) :
    Frame (.any [.fields [CAN_STAT.DROPPED n], canFp n]) s ((canHeard s n).inc (CAN_STAT.DROPPED n)) :=
  ((canHeard_frame s n).mono (Footprint.le_any (by simp))).inc ((Footprint.le_any (by simp)).fld _ (Footprint.mem_fields (l := [CAN_STAT.DROPPED n]) (by simp)))

theorem canRequest_none {payload : List (BitVec 8)} {waiting : Fin 5} (hs : served s = true) (hh : canHears s n = true) :
    ∃ t, exec (.canRequest n none payload waiting) s = .next t
      ∧ t.get (CAN_STAT.DROPPED n) = min 255 (s.get (CAN_STAT.DROPPED n) + 1)
      ∧ (s.get (CAN_STAT.REC n) < 128 → t.get (CAN_STAT.REC n) = s.get (CAN_STAT.REC n) - 1)
      ∧ (128 ≤ s.get (CAN_STAT.REC n) → 119 ≤ t.get (CAN_STAT.REC n) ∧ t.get (CAN_STAT.REC n) ≤ 127)
      ∧ Frame (.any [.fields [CAN_STAT.DROPPED n], canFp n]) s t := by
  have hrec : ((canHeard s n).inc (CAN_STAT.DROPPED n)).get (CAN_STAT.REC n) = (canHeard s n).get (CAN_STAT.REC n) :=
    State.get_put_ne _ _ (by simp only [Fld.id]; omega)
  refine ⟨_, congrArg Host.Outcome.next (canFrame_none hs hh), canDropped_get s n, ?_, ?_, canDropped_frame s n⟩
  · exact fun h => hrec.trans ((rec_canHeard s n).1 h)
  · exact fun h => hrec.symm ▸ (rec_canHeard s n).2 h

theorem canRequest_full {payload : List (BitVec 8)} (h : Requested s n) :
    ∃ t, exec (.canRequest n (some (requestId s n seq src)) payload 4) s = .next t
      ∧ t.get (CAN_STAT.DROPPED n) = min 255 (s.get (CAN_STAT.DROPPED n) + 1)
      ∧ Frame (.any [.fields [CAN_STAT.DROPPED n], canFp n, raiseFp (0x05 + n)]) s t := by
  have hle : (raiseFp (0x05 + n)).le (.any [.fields [CAN_STAT.DROPPED n], canFp n, raiseFp (0x05 + n)]) := Footprint.le_any (by simp)
  have hfull : canFrame s n (some (requestId s n seq src)) payload 4
      = raiseEvent ((canHeard s n).inc (CAN_STAT.DROPPED n)) (0x05 + n) 2 := by
    rw [canFrame_requestId h, if_pos (.inl (by decide))]
  refine ⟨_, congrArg Host.Outcome.next hfull, ?_, ?_⟩
  · exact ((raiseFault_frame_can (Frame.refl _ _) _ (show 2 < 16 by decide) rfl (Footprint.le_refl _)).fld _
      (raiseFp_can_spares n).1).trans (canDropped_get s n)
  · have hdropped : Frame (.any [.fields [CAN_STAT.DROPPED n], canFp n, raiseFp (0x05 + n)]) s ((canHeard s n).inc (CAN_STAT.DROPPED n)) :=
      ((canHeard_frame s n).mono (Footprint.le_any (by simp))).inc
        ((Footprint.le_any (by simp)).fld _ (Footprint.mem_fields (l := [CAN_STAT.DROPPED n]) (by simp)))
    exact raiseFault_frame_can hdropped _ (show 2 < 16 by decide) rfl hle

theorem canRequest_queued {payload : List (BitVec 8)} {j : Job} (h : Requested s n) (hj : s.jobs[canPath n] = some j)
    (hq : (s.canq[n]).length < 4) :
    ∃ t, exec (.canRequest n (some (requestId s n seq src)) payload 0) s = .next t
      ∧ t.canq[n] = s.canq[n] ++ [⟨seq.toNat * 256 + src.toNat, payload⟩] ∧ Frame (.any [canFp n, .parts [.canq n]]) s t := by
  have hcanq : (canHeard s n).canq[n] = s.canq[n] := (canHeard_frame s n).part (.canq n) rfl
  have hjobs : (canHeard s n).jobs[canPath n] = some j := ((canHeard_frame s n).part (.jobs (canPath n)) rfl).trans hj
  have hwaits : canFrame s n (some (requestId s n seq src)) payload 0 = { canHeard s n with
      canq := (canHeard s n).canq.set n ((canHeard s n).canq[n] ++ [⟨seq.toNat * 256 + src.toNat, payload⟩]) } := by
    rw [canFrame_requestId h, if_neg (by rw [hcanq]; omega)]
    exact canDrain_busy (by exact congrArg Option.isSome hjobs) 5
  refine ⟨_, congrArg Host.Outcome.next hwaits, ?_, ?_⟩
  · simp [hcanq]
  · exact ((canHeard_frame s n).mono (Footprint.le_any (by simp))).setCanq (by simp)

end Sys2Proof.Machine
end

section
/-! SUPPORT. The requests that are answered at once, heartbeats, and the controllers' error states (R112 to R118). -/

namespace Sys2Proof.Machine

variable {s t u : State} {n : Fin 2} {seq src : BitVec 8}

/-! ### The requests that are answered (R112, R114, R115) -/

section
variable {op len : BitVec 8} {addr : BitVec 24} {w : BitVec 32} {rest : List (BitVec 8)} {kb : Bool}

/-- A response without RDATA needs no padding. -/
theorem canPad_status (v c : Nat) : canPad (beBytes 2 v ++ [] ++ beBytes 2 c) = beBytes 2 v ++ beBytes 2 c := rfl

theorem announced_none (hw : opWrites op.toNat = false) : Announced op len [] :=
  ⟨(if_neg (by simp [hw])).symm, fun h => absurd h (by simp [hw])⟩

/-- RD and RDN. -/
theorem opReads_of (hop : op.toNat % 128 = 1 ∨ op.toNat % 128 = 3) :
    opReads op.toNat = true ∧ opWrites op.toNat = false ∧ canTop op.toNat = 9 ∧ op.toNat % 128 ≠ 5 := by
  rcases hop with hop | hop <;> simp [opReads, opWrites, canTop, hop]

/-- The opcode of a write of the CAN FD statements, with its Keeper bit. -/
def wrnOp (kb : Bool) : BitVec 8 := BitVec.ofNat 8 (4 + 128 * bitOf kb)

theorem toNat_wrnOp : (wrnOp kb).toNat = 4 + 128 * bitOf kb := by cases kb <;> rfl

theorem opWrites_wrnOp : opWrites (wrnOp kb).toNat = true := by cases kb <;> rfl

theorem announced_wrnOp : Announced (wrnOp kb) 0 [w] := ⟨(if_pos opWrites_wrnOp).symm, fun _ => by decide⟩

/-- The status of a word that is the first of its frame. -/
theorem statusWord_first {j : Job} {k c : Nat} {out : List (BitVec 8)} (hcode : j.code = 0) (hindex : j.index = 0) (hdone : j.done = 0) :
    statusWord (jobWords j k out c 0) = c * 4096 := by
  by_cases hc : c = 0 <;> simp [statusWord, jobWords, hcode, hindex, hdone, hc]

variable (h : Taken s n)
include h

/-- A request without words is answered by its STATUS alone. -/
theorem canRequest_status {data : List (BitVec 32)} {rcrc : Nat} (code : Nat) (ha : Announced op len data) (hrcrc : rcrc < 2 ^ 16)
    (hcode : (if crc16 0xFFFF (requestBytes op.toNat addr.toNat len.toNat data) = rcrc
        then frameCode op.toNat addr.toNat len.toNat (canTop op.toNat) 0xFFFFFC else 5) = code)
    (hempty : (opReads op.toNat = true → 9 < len.toNat) ∧ (opWrites op.toNat = true → code ≠ 0)) :
    ∃ t, exec (.canRequest n (some (requestId s n seq src)) (requestPayload op addr len data rcrc rest) 0) s = .next t
      ∧ t.sent = s.sent ++ [.can n (2 ^ 27 + seq.toNat * 65536 + s.get (CAN_CFG.NODE n) * 256 + src.toNat)
          (beBytes 2 (code * 4096) ++ beBytes 2 (crc16 0xFFFF (beBytes 2 (code * 4096))))]
      ∧ t.get (CAN_STAT.TEC n) = s.get (CAN_STAT.TEC n) - 1 ∧ Frame (.any [canFp n, .parts [.sent]]) s t := by
  have hquota : ∀ words, (requestJob (canHeard s n) n op.toNat addr.toNat len.toNat words code (seq.toNat * 256 + src.toNat)).quota = 0 := by
    intro words
    by_cases hr : opReads op.toNat = true
    · simp [requestJob, hr, hempty.1 hr]
    · by_cases hw : opWrites op.toNat = true
      · simp [requestJob, newJob, hr, hw, hempty.2 hw]
      · simp [requestJob, newJob, hr, hw]
  obtain ⟨t, hexec, hsent, htec, hframe⟩ := canRequest_answered_blank (rest := rest) (seq := seq) (src := src) (addr := addr) h ha hrcrc
    hcode (advance_complete (hquota _)) rfl rfl (hquota _) rfl
  refine ⟨t, hexec, hsent.trans ?_, htec, hframe⟩
  have hbody : ∀ words, beBytes 2 (statusWord (requestJob (canHeard s n) n op.toNat addr.toNat len.toNat words code
      (seq.toNat * 256 + src.toNat))) ++ (requestJob (canHeard s n) n op.toNat addr.toNat len.toNat words code
      (seq.toNat * 256 + src.toNat)).out = beBytes 2 (code * 4096) := fun _ => by
    simp [requestJob, newJob, statusWord]
  rw [hbody]
  rfl

theorem canRequest_nop (hop : op.toNat % 128 = 0 ∨ 5 ≤ op.toNat % 128) :
    ∃ t, exec (.canRequest n (some (requestId s n seq src))
        (requestPayload op addr len [] (crc16 0xFFFF (requestBytes op.toNat addr.toNat len.toNat [])) rest) 0) s = .next t
      ∧ t.sent = s.sent ++ [.can n (2 ^ 27 + seq.toNat * 65536 + s.get (CAN_CFG.NODE n) * 256 + src.toNat)
          (beBytes 2 (if op.toNat % 128 = 5 then 0 else 0x6000)
            ++ beBytes 2 (crc16 0xFFFF (beBytes 2 (if op.toNat % 128 = 5 then 0 else 0x6000))))]
      ∧ t.get (CAN_STAT.TEC n) = s.get (CAN_STAT.TEC n) - 1 ∧ Frame (.any [canFp n, .parts [.sent]]) s t := by
  have hreads : opReads op.toNat = false := by simp [opReads]; omega
  have hwrites : opWrites op.toNat = false := by simp [opWrites]; omega
  have hcode : frameCode op.toNat addr.toNat len.toNat (canTop op.toNat) 0xFFFFFC = if op.toNat % 128 = 5 then 0 else 6 := by
    by_cases h5 : op.toNat % 128 = 5 <;> simp [frameCode, hreads, hwrites, h5]
  have hmul : (if op.toNat % 128 = 5 then 0 else 0x6000) = (if op.toNat % 128 = 5 then 0 else 6) * 4096 := by split <;> rfl
  rw [hmul]
  exact canRequest_status h _ (announced_none hwrites) (crc16_lt (by decide) _) ((if_pos rfl).trans hcode)
    ⟨fun hr => absurd hr (by simp [hreads]), fun hw => absurd hw (by simp [hwrites])⟩

theorem canRequest_long (hop : op.toNat % 128 = 1 ∨ op.toNat % 128 = 3) (hlen : 9 < len.toNat) :
    ∃ t, exec (.canRequest n (some (requestId s n seq src))
        (requestPayload op addr len [] (crc16 0xFFFF (requestBytes op.toNat addr.toNat len.toNat [])) rest) 0) s = .next t
      ∧ t.sent = s.sent ++ [.can n (2 ^ 27 + seq.toNat * 65536 + s.get (CAN_CFG.NODE n) * 256 + src.toNat)
          (beBytes 2 0x7000 ++ beBytes 2 (crc16 0xFFFF (beBytes 2 0x7000)))] ∧ Frame (.any [canFp n, .parts [.sent]]) s t := by
  obtain ⟨hreads, hwrites, htop, h5⟩ := opReads_of hop
  have hcode : frameCode op.toNat addr.toNat len.toNat (canTop op.toNat) 0xFFFFFC = 7 := by simp [frameCode, hreads, htop, h5, hlen]
  obtain ⟨t, hexec, hsent, -, hframe⟩ := canRequest_status (rest := rest) (seq := seq) (src := src) (addr := addr) h 7
    (announced_none hwrites) (crc16_lt (by decide) _) ((if_pos rfl).trans hcode) ⟨fun _ => hlen, fun hw => absurd hw (by simp [hwrites])⟩
  exact ⟨t, hexec, hsent, hframe⟩

theorem canRequest_crc {other : BitVec 8} :
    ∃ t, exec (.canRequest n (some (requestId s n seq src)) (requestPayload (wrnOp kb) addr 0 [w]
        (crc16 0xFFFF (requestBytes (wrnOp kb).toNat addr.toNat 0 [w]) ^^^ (1 + other.toNat)) rest) 0) s = .next t
      ∧ t.sent = s.sent ++ [.can n (2 ^ 27 + seq.toNat * 65536 + s.get (CAN_CFG.NODE n) * 256 + src.toNat)
          (beBytes 2 0x5000 ++ beBytes 2 (crc16 0xFFFF (beBytes 2 0x5000)))] ∧ Frame (.any [canFp n, .parts [.sent]]) s t := by
  have hother := other.isLt
  have hne : ∀ c : Nat, c ≠ c ^^^ (1 + other.toNat) := fun c hc => by
    have hzero : c ^^^ (c ^^^ (1 + other.toNat)) = 0 := by rw [← hc, Nat.xor_self]
    rw [← Nat.xor_assoc, Nat.xor_self, Nat.zero_xor] at hzero
    omega
  obtain ⟨t, hexec, hsent, -, hframe⟩ := canRequest_status (rest := rest) (seq := seq) (src := src) (addr := addr) h 5
    (announced_wrnOp (kb := kb) (w := w)) (Nat.xor_lt_two_pow (crc16_lt (by decide) _) (by omega)) (if_neg (hne _))
    ⟨fun hr => absurd hr (by cases kb <;> decide), fun _ => by decide⟩
  exact ⟨t, hexec, hsent, hframe⟩

theorem canRequest_misaligned (hop : op.toNat % 128 = 1 ∨ op.toNat % 128 = 3) (hlen : len.toNat = 0) (haddr : addr.toNat % 4 ≠ 0) :
    ∃ t, exec (.canRequest n (some (requestId s n seq src))
        (requestPayload op addr len [] (crc16 0xFFFF (requestBytes op.toNat addr.toNat len.toNat [])) rest) 0) s = .next t
      ∧ t.sent = s.sent ++ [.can n (2 ^ 27 + seq.toNat * 65536 + s.get (CAN_CFG.NODE n) * 256 + src.toNat)
          (canPad (beBytes 2 0x8000 ++ List.replicate 6 0 ++ beBytes 2 (crc16 0xFFFF (beBytes 2 0x8000 ++ List.replicate 6 0))))]
      ∧ Frame (.any [canFp n, .parts [.sent]]) s t := by
  obtain ⟨hreads, hwrites, htop, h5⟩ := opReads_of hop
  have hcode : frameCode op.toNat addr.toNat len.toNat (canTop op.toNat) 0xFFFFFC = 8 := by
    simp [frameCode, hreads, htop, h5, hlen, haddr]
  have hquota : ∀ words, (requestJob (canHeard s n) n op.toNat addr.toNat len.toNat words 8 (seq.toNat * 256 + src.toNat)).quota = 1 := by
    intro words
    simp [requestJob, newJob, hreads, hlen]
  have hperf : ∀ words, advance (canHeard s n) (canPath n) 0
      (requestJob (canHeard s n) n op.toNat addr.toNat len.toNat words 8 (seq.toNat * 256 + src.toNat))
      = settle (canHeard s n) (canPath n) (blankWord (requestJob (canHeard s n) n op.toNat addr.toNat len.toNat words 8
          (seq.toNat * 256 + src.toNat))) := by
    intro words
    rw [advance_refused (show 5 ≤ 8 by decide) rfl h.held, hquota]
    rfl
  obtain ⟨t, hexec, hsent, -, hframe⟩ := canRequest_answered_blank (rest := rest) (seq := seq) (src := src) (addr := addr) h
    (announced_none hwrites) (crc16_lt (by decide) (requestBytes op.toNat addr.toNat len.toNat [])) ((if_pos rfl).trans hcode) (hperf _)
    rfl rfl (congrArg (· - 1) (hquota _)) rfl
  refine ⟨t, hexec, hsent.trans ?_, hframe⟩
  have hbody : ∀ words, beBytes 2 (statusWord (blankWord (requestJob (canHeard s n) n op.toNat addr.toNat len.toNat words 8
      (seq.toNat * 256 + src.toNat)))) ++ (blankWord (requestJob (canHeard s n) n op.toNat addr.toNat len.toNat words 8
      (seq.toNat * 256 + src.toNat))).out = beBytes 2 0x8000 ++ List.replicate 6 0 := by
    intro words
    simp [blankWord, jobWords, requestJob, newJob, hwrites, wordBytes, beBytes, statusWord]
  rw [hbody]

/-- One word of a request that is read. -/
theorem canRequest_read (hop : op.toNat % 128 = 3) (hlen : len.toNat = 0) (halign : addr.toNat % 4 = 0) (haddr : addr.toNat < 0x700000) :
    ∃ t, exec (.canRequest n (some (requestId s n seq src))
        (requestPayload op addr len [] (crc16 0xFFFF (requestBytes op.toNat addr.toNat len.toNat [])) rest) 0) s = .next t
      ∧ (let r := wordRead (canHeard s n) (op.toNat.testBit 7 && sessionOpen s (canSession n) 0) (canPath n) addr.toNat
         let body := beBytes 2 (r.2.2.2 * 4096) ++ beBytes 4 r.2.1 ++ beBytes 2 r.2.2.1
         t.sent = r.1.sent ++ [.can n (2 ^ 27 + seq.toNat * 65536 + s.get (CAN_CFG.NODE n) * 256 + src.toNat)
              (canPad (body ++ beBytes 2 (crc16 0xFFFF body)))]
         ∧ Frame (.any [canFp n, .parts [.sent]]) r.1 t) := by
  obtain ⟨hreads, hwrites, htop, h5⟩ := opReads_of (.inr hop)
  have hadv : opAdvances op.toNat = false := by simp [opAdvances, hop]
  have hcode : frameCode op.toNat addr.toNat len.toNat (canTop op.toNat) 0xFFFFFC = 0 := by
    simp [frameCode, hreads, htop, h5, hlen, halign, hadv]
  have hquota : ∀ words, (requestJob (canHeard s n) n op.toNat addr.toNat len.toNat words 0 (seq.toNat * 256 + src.toNat)).quota = 1 := by
    intro words
    simp [requestJob, newJob, hreads, hlen]
  set r := wordRead (canHeard s n) (op.toNat.testBit 7 && sessionOpen s (canSession n) 0) (canPath n) addr.toNat with hr
  have hperf : ∀ words, advance (canHeard s n) (canPath n) 0
      (requestJob (canHeard s n) n op.toNat addr.toNat len.toNat words 0 (seq.toNat * 256 + src.toNat))
      = settle r.1 (canPath n) (jobWords (requestJob (canHeard s n) n op.toNat addr.toNat len.toNat words 0
          (seq.toNat * 256 + src.toNat)) 1 (wordBytes r.2.1 r.2.2.1) r.2.2.2 0) := by
    intro words
    have hkeeper : (requestJob (canHeard s n) n op.toNat addr.toNat len.toNat words 0 (seq.toNat * 256 + src.toNat)).keeper
        = (op.toNat.testBit 7 && sessionOpen s (canSession n) 0) := congrArg (op.toNat.testBit 7 && ·) h.sessionOpen
    rw [advance_one (hquota words) rfl haddr h.held, localWord_read (show 0 < 5 by decide) hwrites, hkeeper]
    rfl
  have hnode : r.1.get (CAN_CFG.NODE n) = s.get (CAN_CFG.NODE n) := by
    rw [(Frame.refl wordFp (canHeard s n)).wordRead.fld _ (by simp [wordFp, frameOwn, Fld.id]; omega)]
    exact get_canHeard s n (fld_canFp rfl (by omega))
  obtain ⟨t, hexec, hsent, -, hframe⟩ := canRequest_answered (rest := rest) (seq := seq) (src := src) (addr := addr) h
    (announced_none hwrites) (crc16_lt (by decide) (requestBytes op.toNat addr.toNat len.toNat [])) ((if_pos rfl).trans hcode) (hperf _)
    (Frame.refl _ _).wordRead rfl rfl (congrArg (· - 1) (hquota _)) rfl
  refine ⟨t, hexec, hsent.trans ?_, hframe⟩
  rw [statusWord_first rfl rfl rfl, hnode]
  simp [jobWords, requestJob, newJob, hwrites, wordBytes]

/-- One word of a window that a request writes. -/
theorem canRequest_write (halign : addr.toNat % 4 = 0) (hlow : 0x200000 ≤ addr.toNat) (haddr : addr.toNat < 0x700000) :
    ∃ t, exec (.canRequest n (some (requestId s n seq src)) (requestPayload (wrnOp kb) addr 0 [w]
        (crc16 0xFFFF (requestBytes (wrnOp kb).toNat addr.toNat 0 [w])) rest) 0) s = .next t
      ∧ (let r := wordWrite (canHeard s n) (kb && sessionOpen s (canSession n) 0) (canPath n) 0 addr.toNat w.toNat
         t.sent = r.1.sent ++ [.can n (2 ^ 27 + seq.toNat * 65536 + s.get (CAN_CFG.NODE n) * 256 + src.toNat)
              (beBytes 2 (r.2 * 4096) ++ beBytes 2 (crc16 0xFFFF (beBytes 2 (r.2 * 4096))))]
         ∧ Frame (.any [canFp n, .parts [.sent]]) r.1 t) := by
  have hcode : frameCode (wrnOp kb).toNat addr.toNat 0 (canTop (wrnOp kb).toNat) 0xFFFFFC = 0 := by
    cases kb <;> simp [frameCode, wrnOp, canTop, opReads, opWrites, opAdvances, bitOf, halign]
  set r := wordWrite (canHeard s n) (kb && sessionOpen s (canSession n) 0) (canPath n) 0 addr.toNat w.toNat with hr
  have hperf : advance (canHeard s n) (canPath n) 0
      (requestJob (canHeard s n) n (wrnOp kb).toNat addr.toNat 0 [w] 0 (seq.toNat * 256 + src.toNat))
      = settle r.1 (canPath n) (jobWords (requestJob (canHeard s n) n (wrnOp kb).toNat addr.toNat 0 [w] 0
          (seq.toNat * 256 + src.toNat)) 1 [] r.2 0) := by
    have hkeeper : (requestJob (canHeard s n) n (wrnOp kb).toNat addr.toNat 0 [w] 0 (seq.toNat * 256 + src.toNat)).keeper
        = (kb && sessionOpen s (canSession n) 0) := by
      rw [← h.sessionOpen]
      cases kb <;> rfl
    rw [advance_one (by cases kb <;> rfl) rfl haddr h.held, localWord_write (show 0 < 5 by decide) opWrites_wrnOp, hkeeper]
    rfl
  have hframed : Frame wordFp (canHeard s n) r.1 := (Frame.refl _ _).wordWrite_window hlow haddr
  have hnode : r.1.get (CAN_CFG.NODE n) = s.get (CAN_CFG.NODE n) := by
    rw [hframed.fld _ (by simp [wordFp, frameOwn, Fld.id]; omega)]
    exact get_canHeard s n (fld_canFp rfl (by omega))
  have hwords : wordsOf ([w].flatMap fun w => beBytes 4 w.toNat) ((0 : BitVec 8).toNat + 1) = [w] :=
    wordsOf_announced (announced_wrnOp (kb := kb)) opWrites_wrnOp
  obtain ⟨t, hexec, hsent, -, hframe⟩ := canRequest_answered (rest := rest) (seq := seq) (src := src) (addr := addr) h
    (announced_wrnOp (kb := kb) (w := w)) (crc16_lt (by decide) (requestBytes (wrnOp kb).toNat addr.toNat 0 [w])) ((if_pos rfl).trans hcode)
    (by rw [hwords]; exact hperf) hframed rfl rfl (by cases kb <;> rfl) rfl
  refine ⟨t, hexec, hsent.trans ?_, hframe⟩
  have hout : (jobWords (requestJob (canHeard s n) n (wrnOp kb).toNat addr.toNat 0 [w] 0 (seq.toNat * 256 + src.toNat)) 1 [] r.2 0).out
      = [] := by cases kb <;> rfl
  rw [hout, statusWord_first rfl rfl rfl, hnode, canPad_status, List.append_nil]

end

/-! ### Heartbeats (R114, R117) -/

theorem bitOf_or {a b : Nat} (ha : a < 2) (hb : b < 2) : bitOf (a != 0 || b != 0) = max a b := by
  interval_cases a <;> interval_cases b <;> rfl

/-- What a heartbeat says of the device before its CRC. -/
theorem heartbeatBody_eq (s : State) : heartbeatBody s = beBytes 2 (regView s false 0x00 0x040 % 4096)
    ++ beBytes 1 (max (s.get PINS_ERR.DRIVE) (s.get Err.EXT)) ++ beBytes 1 (min 255 (activePages s)) ++ beBytes 4 (s.retWord 0) := by
  have herr : bitOf (errLow s) = max (s.get PINS_ERR.DRIVE) (s.get Err.EXT) :=
    bitOf_or (State.get_lt s PINS_ERR.DRIVE) (State.get_lt s Err.EXT)
  rw [heartbeatBody, herr]

/-- A heartbeat's eight bytes and their CRC are padded to twelve. -/
theorem canPad_heartbeat (s : State) (c : Nat) : canPad (heartbeatBody s ++ beBytes 2 c) = heartbeatBody s ++ beBytes 2 c ++ [0, 0] := by
  rfl

theorem heartbeat_idle (h : served s = false ∨ s.get Boot.STEP < 3 ∨ canOn s n = false ∨ s.get (CAN_CFG.HB n) = 0) :
    exec (.heartbeat n) s = .next s := by
  refine congrArg Host.Outcome.next (if_neg ?_)
  simp only [Bool.and_eq_true, decide_eq_true_eq, bne_iff_ne]
  rintro ⟨⟨⟨hs, hstep⟩, hon⟩, hhb⟩
  rcases h with h | h | h | h
  · simp [hs] at h
  · omega
  · simp [hon] at h
  · exact hhb h

theorem heartbeat_sent (hs : served s = true) (hstep : 3 ≤ s.get Boot.STEP) (hon : canOn s n = true) (hhb : s.get (CAN_CFG.HB n) ≠ 0) :
    ∃ t, exec (.heartbeat n) s = .next t
      ∧ t.get (Can.HBSEQ n) = (s.get (Can.HBSEQ n) + 1) % 256
      ∧ t.get (CAN_STAT.TEC n) = s.get (CAN_STAT.TEC n) - 1
      ∧ (let body := beBytes 2 (regView s false 0x00 0x040 % 4096) ++ beBytes 1 (max (s.get PINS_ERR.DRIVE) (s.get Err.EXT))
            ++ beBytes 1 (min 255 (activePages s)) ++ beBytes 4 (s.retWord 0)
         t.sent = s.sent ++ [.can n (s.get (Can.HBSEQ n) * 65536 + s.get (CAN_CFG.NODE n) * 256 + 0xFF)
            (body ++ beBytes 2 (crc16 0xFFFF body) ++ [0, 0])])
      ∧ Frame (.any [.fields [Can.HBSEQ n], canFp n, .parts [.sent]]) s t := by
  refine ⟨_, congrArg Host.Outcome.next (if_pos (by simp [hs, hstep, hon, hhb])), ?_, (tec_canSent ..).trans ?_, ?_, ?_⟩
  · refine ((Frame.refl (canFp n) _).canSent (Footprint.le_refl _)).fld _ (fld_canFp rfl (by omega)) |>.trans ?_
    exact State.get_put_same ..
  · exact congrArg (· - 1) (State.get_put_ne _ _ (by simp only [Fld.id]; omega))
  · dsimp only
    rw [← heartbeatBody_eq, ← canPad_heartbeat]
    exact sent_canActive ..
  · exact ((((Frame.refl _ s).wrapInc ((Footprint.le_any (by simp)).fld _ (Footprint.mem_fields (l := [Can.HBSEQ n]) (by simp)))).send
      (by simp) _).canSent (Footprint.le_any (by simp)))

/-! ### Error states (R113, R398) -/

theorem canCounters_frame (s : State) (n : Fin 2) : Frame (canFp n) s (canCounters s n) := by
  have hfield : ∀ {f : Fld}, f ∈ [CAN_STAT.REC n, CAN_STAT.TEC n, CAN_STAT.STATE n, Dev.FREE] → (canFp n).fld f.id = true :=
    fun hf => Footprint.mem_fields hf
  exact ((((Frame.refl _ s).wrapInc (hfield (by simp))).wrapInc (hfield (by simp))).put (hfield (by simp)) _).put (hfield (by simp)) _

/-- A controller enters a state and raises its cause. -/
theorem canState_raised (s : State) (n : Fin 2) {v : Nat} (hv : v < 4) (c : Cause) (hc : c.bit < 16) (hp : c.page = 0x05 + n) :
    (raiseFault ((canCounters s n).put (CAN_STAT.STATE n) v) c).get (CAN_STAT.STATE n) = v
      ∧ Frame (.any [canFp n, raiseFp (0x05 + n)]) s (raiseFault ((canCounters s n).put (CAN_STAT.STATE n) v) c) := by
  refine ⟨?_, ?_⟩
  · rw [(raiseFault_frame_can (Frame.refl _ _) c hc hp (Footprint.le_refl _)).fld _ (raiseFp_can_spares n).2, State.get_put_same]
    exact Nat.mod_eq_of_lt hv
  · have hstate : (canFp n).fld (CAN_STAT.STATE n).id = true := Footprint.mem_fields (by simp)
    exact raiseFault_frame_can (((canCounters_frame s n).put hstate v).mono (Footprint.le_any (by simp))) c hc hp (Footprint.le_any (by simp))

theorem errPassive_enters (hs : served s = true) (hen : s.get (CAN_CFG.EN n) = 1) (hstate : s.get (CAN_STAT.STATE n) = 0) :
    ∃ t, exec (.errPassive n) s = .next t ∧ t.get (CAN_STAT.STATE n) = 1 ∧ Frame (.any [canFp n, raiseFp (0x05 + n)]) s t :=
  ⟨_, congrArg Host.Outcome.next (if_pos (by simp [hs, State.flag, hen, hstate])),
    canState_raised s n (v := 1) (by decide) _ (show 0 < 16 by decide) rfl⟩

theorem busOff_enters (hs : served s = true) (hon : canOn s n = true) :
    ∃ t, exec (.busOff n) s = .next t ∧ t.get (CAN_STAT.STATE n) = 2 ∧ Frame (.any [canFp n, raiseFp (0x05 + n)]) s t :=
  ⟨_, congrArg Host.Outcome.next (if_pos (by simp [hs, hon])), canState_raised s n (v := 2) (by decide) _ (show 1 < 16 by decide) rfl⟩

theorem busOffRecovery_recovers (hstate : s.get (CAN_STAT.STATE n) = 2) :
    ∃ t, exec (.busOffRecovery n) s = .next t ∧ t.get (CAN_STAT.STATE n) = 0 ∧ t.get (CAN_STAT.TEC n) = 0 ∧ t.get (CAN_STAT.REC n) = 0
      ∧ Frame (.any [.fields [CAN_STAT.STATE n, CAN_STAT.TEC n, CAN_STAT.REC n], endFp (0x05 + n)]) s t := by
  have hend : ∀ f ∈ [CAN_STAT.STATE n, CAN_STAT.TEC n, CAN_STAT.REC n], (endFp (0x05 + n)).fld f.id = false := by
    fin_cases n <;> decide
  have hfield : ∀ {f}, f ∈ [CAN_STAT.STATE n, CAN_STAT.TEC n, CAN_STAT.REC n] →
      (Footprint.any [.fields [CAN_STAT.STATE n, CAN_STAT.TEC n, CAN_STAT.REC n], endFp (0x05 + n)]).fld f.id = true :=
    fun hf => (Footprint.le_any (by simp)).fld _ (Footprint.mem_fields hf)
  have hne : (CAN_STAT.STATE n).id ≠ (CAN_STAT.TEC n).id ∧ (CAN_STAT.STATE n).id ≠ (CAN_STAT.REC n).id
      ∧ (CAN_STAT.TEC n).id ≠ (CAN_STAT.REC n).id := by
    simp only [Fld.id]
    omega
  have hkept : ∀ f ∈ [CAN_STAT.STATE n, CAN_STAT.TEC n, CAN_STAT.REC n],
      (causeEnds (((s.put (CAN_STAT.STATE n) 0).put (CAN_STAT.TEC n) 0).put (CAN_STAT.REC n) 0) (0x05 + n) 1).get f
        = (((s.put (CAN_STAT.STATE n) 0).put (CAN_STAT.TEC n) 0).put (CAN_STAT.REC n) 0).get f := fun f hf =>
    (causeEnds_frame (Frame.refl _ _) (Footprint.le_refl _) 1).fld _ (hend f hf)
  refine ⟨_, congrArg Host.Outcome.next (if_pos hstate), ?_, ?_, ?_, ?_⟩
  · rw [hkept _ (by simp), State.get_put_ne _ _ hne.2.1, State.get_put_ne _ _ hne.1, State.get_put_same]
    rfl
  · rw [hkept _ (by simp), State.get_put_ne _ _ hne.2.2, State.get_put_same]
    rfl
  · rw [hkept _ (by simp), State.get_put_same]
    rfl
  · exact causeEnds_frame ((((Frame.refl _ s).put (hfield (by simp)) _).put (hfield (by simp)) _).put (hfield (by simp)) _)
      (Footprint.le_any (by simp)) 1

/-! ### The statement -/

/-- Settles O52: a controller counts and queues what it does not take; a request that it takes is one frame of its path, whose words
are those of every path, answered from the state that they leave. -/
theorem canAccess : Obligations.CanAccess := by
  unfold Obligations.CanAccess
  intro s n j seq src other id kb addr len op w payload waiting pad
  refine ⟨fun h => congrArg Host.Outcome.next (canFrame_unheard h), fun hs hh => ⟨canRequest_none hs hh, fun hother => ?_⟩,
    fun hs hon hnode hall => ?_, heartbeat_idle, heartbeat_sent, errPassive_enters, busOff_enters, busOffRecovery_recovers⟩
  · exact ⟨_, congrArg Host.Outcome.next (canFrame_other hs hh hother), canHeard_frame s n⟩
  · have hreq : Requested s n := ⟨hs, hon, hnode, hall⟩
    refine ⟨canRequest_full hreq, canRequest_queued hreq, fun hfree hfirst => ?_⟩
    have htaken : Taken s n := ⟨hreq, hfree, hfirst⟩
    refine ⟨canRequest_nop htaken, canRequest_long htaken, canRequest_misaligned htaken, canRequest_read htaken, fun halign hlow hhigh => ?_, ?_⟩
    · rw [← toNat_wrnOp]
      exact canRequest_write htaken halign hlow hhigh
    · obtain ⟨t, hexec, hanswered⟩ := canRequest_crc (seq := seq) (src := src) (addr := addr) (w := w) (kb := kb) (rest := [])
        (other := other) htaken
      rw [requestPayload, List.append_nil, toNat_wrnOp] at hexec
      exact ⟨t, hexec, hanswered⟩

end Sys2Proof.Machine
end

section
/-! SUPPORT. What the words of a frame do not see: HRDY and, for a read, the count of early ends. A state with these fields veiled
reads as they had never been written; each operation of the register pages and of the windows is then shown to go on alike
under the veil (R104, R108). -/

namespace Sys2Proof.Machine

/-! ### A store without some of its entries -/

section
variable {α : Type} [DecidableEq α] {d : α} {p : Nat → Bool}

/-- The store in canonical form, without the numbers that satisfy `p`. -/
def Sparse.hide (d : α) (p : Nat → Bool) (l : List (Nat × α)) : List (Nat × α) :=
  (l.filter (fun e => !p e.1)).foldl (fun m e => Sparse.set d m e.1 (Sparse.look d l e.1)) []

/-- Writing the values of `l` where its own entries say, over `m`. -/
theorem Sparse.look_foldl_set (l k m : List (Nat × α)) (a : Nat) :
    Sparse.look d (k.foldl (fun m e => Sparse.set d m e.1 (Sparse.look d l e.1)) m) a
      = if a ∈ k.map Prod.fst then Sparse.look d l a else Sparse.look d m a := by
  induction k generalizing m with
  | nil => rfl
  | cons e k ih =>
    rw [List.foldl_cons, ih, Sparse.look_set]
    by_cases hk : a ∈ k.map Prod.fst <;> by_cases ha : a = e.1 <;> simp only [List.map_cons, List.mem_cons, hk, ha] <;> simp

theorem Sparse.wf_foldl_set (l k m : List (Nat × α)) (h : Sparse.wf d m = true) :
    Sparse.wf d (k.foldl (fun m e => Sparse.set d m e.1 (Sparse.look d l e.1)) m) = true := by
  induction k generalizing m with
  | nil => exact h
  | cons e k ih => exact ih _ (Sparse.wf_set _ _ _ h)

omit [DecidableEq α] in
theorem Sparse.look_of_not_mem {l : List (Nat × α)} {a : Nat} (h : a ∉ l.map Prod.fst) : Sparse.look d l a = d := by
  induction l with
  | nil => rfl
  | cons e l ih =>
    obtain ⟨hne, hl⟩ : a ≠ e.1 ∧ a ∉ l.map Prod.fst := by simpa using h
    exact (if_neg hne).trans (ih hl)

theorem Sparse.wf_hide (l : List (Nat × α)) : Sparse.wf d (Sparse.hide d p l) = true := Sparse.wf_foldl_set l _ [] rfl

theorem Sparse.look_hide (l : List (Nat × α)) (a : Nat) :
    Sparse.look d (Sparse.hide d p l) a = if p a then d else Sparse.look d l a := by
  have hmem : a ∈ (l.filter (fun e => !p e.1)).map Prod.fst ↔ p a = false ∧ a ∈ l.map Prod.fst := by
    simp only [List.mem_map, List.mem_filter, Bool.not_eq_true']
    constructor
    · rintro ⟨e, ⟨he, hp⟩, rfl⟩
      exact ⟨hp, e, he, rfl⟩
    · rintro ⟨hp, e, he, rfl⟩
      exact ⟨e, ⟨he, hp⟩, rfl⟩
  rw [Sparse.hide, Sparse.look_foldl_set]
  by_cases hp : p a = true
  · rw [if_neg fun h => by simp [(hmem.mp h).1] at hp, if_pos hp]
    rfl
  · rw [if_neg hp]
    by_cases ha : a ∈ l.map Prod.fst
    · exact if_pos (hmem.mpr ⟨by simpa using hp, ha⟩)
    · rw [if_neg fun h => ha (hmem.mp h).2, Sparse.look_of_not_mem ha]
      rfl

/-- Two stores that read alike where `p` does not hold have the same canonical form there. -/
theorem Sparse.hide_congr {l m : List (Nat × α)} (h : ∀ a, p a = false → Sparse.look d l a = Sparse.look d m a) :
    Sparse.hide d p l = Sparse.hide d p m := by
  refine Sparse.wfFrom_ext _ _ 0 (Sparse.wf_hide l) (Sparse.wf_hide m) fun a => ?_
  rw [Sparse.look_hide, Sparse.look_hide]
  by_cases hp : p a = true
  · rw [if_pos hp, if_pos hp]
  · rw [if_neg hp, if_neg hp, h a (by simpa using hp)]

theorem Sparse.set_hide (l : List (Nat × α)) {a : Nat} (ha : p a = false) (v : α) :
    Sparse.set d (Sparse.hide d p l) a v = Sparse.hide d p (Sparse.set d l a v) := by
  refine Sparse.wfFrom_ext _ _ 0 (Sparse.wf_set _ _ _ (Sparse.wf_hide l)) (Sparse.wf_hide _) fun c => ?_
  rw [Sparse.look_set, Sparse.look_hide, Sparse.look_hide, Sparse.look_set]
  by_cases hc : c = a <;> simp [hc, ha]

theorem Sparse.keep_hide (l : List (Nat × α)) (q : Nat → Bool) : Sparse.keep q (Sparse.hide d p l) = Sparse.hide d p (Sparse.keep q l) := by
  refine Sparse.wfFrom_ext _ _ 0 (Sparse.wf_keep _ _ (Sparse.wf_hide l)) (Sparse.wf_hide _) fun c => ?_
  rw [Sparse.look_keep, Sparse.look_hide, Sparse.look_hide, Sparse.look_keep]
  by_cases hp : p c = true <;> by_cases hq : q c = true <;> simp [hp, hq]

end

/-! ### The veil -/

/-- HRDY is veiled, and with `wide` the count of early ends too. -/
def veils (wide : Bool) (id : Nat) : Bool := id == Pin.HRDY.id || (wide && id == HOST_STAT.ABORTS.id)

/-- The field is veiled. -/
def Fld.veiled (f : Fld) (wide : Bool) : Bool := veils wide f.id

/-- The state with the veiled fields at their reset values. -/
def State.veil (s : State) (wide : Bool) : State := { s with regs := Sparse.hide 0 (veils wide) s.regs }

section
variable {s t : State} {wide : Bool} {f : Fld}

theorem Fld.veiled_eq_false : f.veiled wide = false ↔ f.id ≠ 0x1050000 * 32 ∧ (wide = true → f.id ≠ 0x4044 * 32 + 16) := by
  have hids : Pin.HRDY.id = 0x1050000 * 32 ∧ HOST_STAT.ABORTS.id = 0x4044 * 32 + 16 := by decide
  simp only [Fld.veiled, veils, hids.1, hids.2]
  cases wide <;> simp

theorem State.get_veil_of (h : f.veiled wide = false) : (s.veil wide).get f = s.get f := by
  simp only [State.get, State.veil, Sparse.look_hide]
  rw [if_neg (by simp [show veils wide f.id = false from h])]

theorem State.put_veil_of (h : f.veiled wide = false) (v : Nat) : (s.veil wide).put f v = (s.put f v).veil wide := by
  simp only [State.put, State.veil, Sparse.set_hide s.regs (show veils wide f.id = false from h)]

@[simp] theorem State.keepKeys_veil (p : Nat → Bool) : (s.veil wide).keepKeys p = (s.keepKeys p).veil wide := by
  simp only [State.keepKeys, State.veil, Sparse.keep_hide]

/-- A veiled field that changes is not seen to. -/
theorem State.veil_put (h : f.veiled wide = true) (v : Nat) : (s.put f v).veil wide = s.veil wide := by
  have hregs : Sparse.hide 0 (veils wide) (s.put f v).regs = Sparse.hide 0 (veils wide) s.regs := by
    refine Sparse.hide_congr fun a ha => Sparse.look_set_ne _ _ fun hne => ?_
    simp [Fld.veiled, ← hne, ha] at h
  simp only [State.veil, hregs]
  rfl

end

end Sys2Proof.Machine
end

section
/-! SUPPORT. Under the veil: the fields that are clear of it, and the state's own operations. -/

namespace Sys2Proof.Machine

/-! ### The fields that are clear -/

section
variable {wide : Bool} {c i k l m n p o r : Nat}

theorem Fld.veiled_of_ne (hl : l < 32) (hh : k ≠ 0x1050000 ∨ l ≠ 0) (ha : k ≠ 0x4044 ∨ l ≠ 16) : Fld.veiled ⟨k, l, n, r⟩ wide = false := by
  rw [Fld.veiled_eq_false]
  simp only [Fld.id]
  omega

/-- A register whose number is written out. -/
@[simp] theorem Fld.veiled_const (hl : l < 32) (h : (k ≠ 0x1050000 ∨ l ≠ 0) ∧ (k ≠ 0x4044 ∨ l ≠ 16)) :
    Fld.veiled ⟨k, l, n, r⟩ wide = false :=
  Fld.veiled_of_ne hl h.1 h.2

/-- The internal fields that stand above HRDY. -/
@[simp] theorem Fld.veiled_high (hl : l < 32) (h : 0x1050000 < c) : Fld.veiled ⟨c + o, l, n, r⟩ wide = false :=
  Fld.veiled_of_ne hl (by omega) (by omega)

@[simp] theorem Fld.veiled_high_add (hl : l < 32) (h : 0x1050000 < c) : Fld.veiled ⟨c + o + m, l, n, r⟩ wide = false :=
  Fld.veiled_of_ne hl (by omega) (by omega)

/-- The registers of a page. -/
@[simp] theorem Fld.veiled_page (hl : l < 32) (h : o % 0x1000 ≠ 0 ∧ o % 0x1000 ≠ 0x44) :
    Fld.veiled ⟨p * 0x1000 + o, l, n, r⟩ wide = false :=
  Fld.veiled_of_ne hl (by omega) (by omega)

@[simp] theorem Fld.veiled_page_high (hl : l < 32) (h : 5 ≤ c ∧ o % 0x1000 ≠ 0) : Fld.veiled ⟨(c + p) * 0x1000 + o, l, n, r⟩ wide = false :=
  Fld.veiled_of_ne hl (by omega) (by omega)

/-- The registers of an array: by their number or by their first bit. -/
@[simp] theorem Fld.veiled_array (hl : l < 32) (h : 0x4044 < c ∧ 0x1050000 % k ≠ c % k) : Fld.veiled ⟨c + k * i, l, n, r⟩ wide = false := by
  obtain ⟨hlow, hmod⟩ := h
  refine Fld.veiled_of_ne hl (.inl fun he => hmod ?_) (by omega)
  rw [← he, Nat.add_mul_mod_self_left]

@[simp] theorem Fld.veiled_array_bit (hl : l < 32 ∧ l ≠ 0) (h : 0x4044 < c) : Fld.veiled ⟨c + o, l, n, r⟩ wide = false :=
  Fld.veiled_of_ne hl.1 (.inr hl.2) (by omega)

@[simp] theorem Fld.veiled_page_array (hl : l < 32) (h : 5 ≤ c ∧ o % 16 ≠ 0) :
    Fld.veiled ⟨(c + p) * 0x1000 + o + 0x30 * i, l, n, r⟩ wide = false :=
  Fld.veiled_of_ne hl (by omega) (by omega)

@[simp] theorem Fld.veiled_page_entry (hl : l < 32) (h : 5 ≤ c ∧ 0 < o ∧ o ≤ 0x400) :
    Fld.veiled ⟨(c + p) * 0x1000 + o + 0x30 * (i % 64), l, n, r⟩ wide = false := by
  obtain ⟨hc, hlow, hhigh⟩ := h
  have hrest : ((c + p) * 0x1000 + (o + 0x30 * (i % 64))) % 0x1000 = o + 0x30 * (i % 64) := by
    rw [Nat.mul_add_mod', Nat.mod_eq_of_lt (by omega)]
  exact Fld.veiled_of_ne hl (.inl fun he => by omega) (by omega)

@[simp] theorem Fld.veiled_page_array_bit (hl : l < 32 ∧ l ≠ 0) (h : 5 ≤ c) : Fld.veiled ⟨(c + p) * 0x1000 + o + m, l, n, r⟩ wide = false :=
  Fld.veiled_of_ne hl.1 (.inr hl.2) (by omega)

end

/-! ### The state's own operations -/

section
variable {s : State} {wide : Bool}

@[simp] theorem State.veil_mem : (s.veil wide).mem = s.mem := by rfl
@[simp] theorem State.veil_ret : (s.veil wide).ret = s.ret := by rfl
@[simp] theorem State.veil_ecc : (s.veil wide).ecc = s.ecc := by rfl
@[simp] theorem State.veil_readHold : (s.veil wide).readHold = s.readHold := by rfl
@[simp] theorem State.veil_writeHold : (s.veil wide).writeHold = s.writeHold := by rfl
@[simp] theorem State.veil_codeHold : (s.veil wide).codeHold = s.codeHold := by rfl
@[simp] theorem State.veil_slots : (s.veil wide).slots = s.slots := by rfl
@[simp] theorem State.veil_exec : (s.veil wide).exec = s.exec := by rfl
@[simp] theorem State.veil_coming : (s.veil wide).coming = s.coming := by rfl
@[simp] theorem State.veil_window : (s.veil wide).window = s.window := by rfl
@[simp] theorem State.veil_antq : (s.veil wide).antq = s.antq := by rfl
@[simp] theorem State.veil_rx : (s.veil wide).rx = s.rx := by rfl
@[simp] theorem State.veil_txBuf : (s.veil wide).txBuf = s.txBuf := by rfl
@[simp] theorem State.veil_txMsg : (s.veil wide).txMsg = s.txMsg := by rfl
@[simp] theorem State.veil_staged : (s.veil wide).staged = s.staged := by rfl
@[simp] theorem State.veil_jobs : (s.veil wide).jobs = s.jobs := by rfl
@[simp] theorem State.veil_canq : (s.veil wide).canq = s.canq := by rfl
@[simp] theorem State.veil_sent : (s.veil wide).sent = s.sent := by rfl
@[simp] theorem State.veil_pending : (s.veil wide).pending = s.pending := by rfl

/-- What stands beside the fields changes alike under the veil. -/
@[simp] theorem State.mk_veil {mem ret ecc readHold writeHold codeHold slots exec coming window antq rx txBuf txMsg staged jobs canq
    sent pending} :
    State.mk (s.veil wide).regs mem ret ecc readHold writeHold codeHold slots exec coming window antq rx txBuf txMsg staged jobs canq
        sent pending
      = (State.mk s.regs mem ret ecc readHold writeHold codeHold slots exec coming window antq rx txBuf txMsg staged jobs canq sent
          pending).veil wide := by rfl

section
variable {f g : Fld}

@[simp] theorem State.get_veil : (s.veil wide).get f = if f.veiled wide then f.rst % 2 ^ f.len else s.get f := by
  cases h : f.veiled wide
  · exact State.get_veil_of h
  · simp only [State.get, State.veil, Sparse.look_hide]
    rw [if_pos (show veils wide f.id = true from h), if_pos trivial, Nat.zero_xor]

@[simp] theorem State.put_veil (v : Nat) : (s.veil wide).put f v = if f.veiled wide then { (s.veil wide) with
    regs := Sparse.set 0 (s.veil wide).regs f.id ((v % 2 ^ f.len) ^^^ f.rst) } else (s.put f v).veil wide := by
  cases h : f.veiled wide
  · exact State.put_veil_of h v
  · rfl

@[simp] theorem State.flag_veil : (s.veil wide).flag f = if f.veiled wide then f.rst % 2 ^ f.len != 0 else s.flag f := by
  simp only [State.flag, State.get_veil]
  split <;> rfl
@[simp] theorem State.bit_veil (i : Nat) : (s.veil wide).bit f i = if f.veiled wide then (f.rst % 2 ^ f.len).testBit i else s.bit f i := by
  simp only [State.bit, State.get_veil]
  split <;> rfl
@[simp] theorem State.int_veil : (s.veil wide).int f = if f.veiled wide then toSigned f.len (f.rst % 2 ^ f.len) else s.int f := by
  simp only [State.int, State.get_veil]
  split <;> rfl
@[simp] theorem State.putB_veil (e : Bool) : (s.veil wide).putB f e = if f.veiled wide then (s.veil wide).put f (bitOf e)
    else (s.putB f e).veil wide := by
  cases h : f.veiled wide
  · exact State.put_veil_of h _
  · rfl
@[simp] theorem State.putI_veil (z : Int) : (s.veil wide).putI f z = if f.veiled wide then (s.veil wide).put f (ofSigned f.len z)
    else (s.putI f z).veil wide := by
  cases h : f.veiled wide
  · exact State.put_veil_of h _
  · rfl
@[simp] theorem State.putSat_veil (v : Nat) : (s.veil wide).putSat f v = if f.veiled wide then (s.veil wide).put f (min v (2 ^ f.len - 1))
    else (s.putSat f v).veil wide := by
  cases h : f.veiled wide
  · exact State.put_veil_of h _
  · rfl
@[simp] theorem State.orF_veil (m : Nat) : (s.veil wide).orF f m = if f.veiled wide then (s.veil wide).put f (f.rst % 2 ^ f.len ||| m)
    else (s.orF f m).veil wide := by
  cases h : f.veiled wide <;> simp [State.orF, h]
@[simp] theorem State.clrF_veil (m : Nat) :
    (s.veil wide).clrF f m = if f.veiled wide then (s.veil wide).put f (andNot (f.rst % 2 ^ f.len) m)
    else (s.clrF f m).veil wide := by
  cases h : f.veiled wide <;> simp [State.clrF, h]
@[simp] theorem State.putBit_veil (i : Nat) (e : Bool) : (s.veil wide).putBit f i e = if f.veiled wide then
    (if e then (s.veil wide).put f (f.rst % 2 ^ f.len ||| (1 <<< i)) else (s.veil wide).put f (andNot (f.rst % 2 ^ f.len) (1 <<< i)))
    else (s.putBit f i e).veil wide := by
  cases e <;> simp [State.putBit]
@[simp] theorem State.inc_veil : (s.veil wide).inc f = if f.veiled wide then (s.veil wide).putSat f (f.rst % 2 ^ f.len + 1)
    else (s.inc f).veil wide := by
  cases h : f.veiled wide <;> simp [State.inc, h]
@[simp] theorem State.wrapInc_veil : (s.veil wide).wrapInc f = if f.veiled wide then (s.veil wide).put f (f.rst % 2 ^ f.len + 1)
    else (s.wrapInc f).veil wide := by
  cases h : f.veiled wide <;> simp [State.wrapInc, h]
@[simp] theorem State.get64_veil (h : f.veiled wide = false ∧ g.veiled wide = false) : (s.veil wide).get64 f g = s.get64 f g := by
  simp [State.get64, h.1, h.2]
@[simp] theorem State.put64_veil (h : f.veiled wide = false ∧ g.veiled wide = false) (v : Nat) :
    (s.veil wide).put64 f g v = (s.put64 f g v).veil wide := by
  simp [State.put64, h.1, h.2]

end

@[simp] theorem State.ite_veil {P : Prop} [Decidable P] {t : State} :
    (if P then s.veil wide else t.veil wide) = (if P then s else t).veil wide := by
  split <;> rfl

@[simp] theorem State.on_veil {e : Bool} {g : State → State} (h : ∀ u : State, g (u.veil wide) = (g u).veil wide) :
    (s.veil wide).on e g = (s.on e g).veil wide := by
  cases e
  · rfl
  · exact h s

theorem State.each_veil_mem {α : Type} {l : List α} {g : State → α → State}
    (h : ∀ (u : State), ∀ x ∈ l, g (u.veil wide) x = (g u x).veil wide) : (s.veil wide).each l g = (s.each l g).veil wide := by
  induction l generalizing s with
  | nil => rfl
  | cons x l ih =>
    have hx : g (s.veil wide) x = (g s x).veil wide := h s x (by simp)
    simp only [State.each, List.foldl_cons, hx]
    exact ih fun u y hy => h u y (by simp [hy])

@[simp] theorem State.each_veil {α : Type} {l : List α} {g : State → α → State} (h : ∀ (u : State) (x : α), g (u.veil wide) x =
    (g u x).veil wide) :
    (s.veil wide).each l g = (s.each l g).veil wide := State.each_veil_mem fun u x _ => h u x

/-- What an operation answers beside its state is the same under the veil. -/
def veilFst {α : Type} (wide : Bool) (r : State × α) : State × α := (r.1.veil wide, r.2)

section
variable {α : Type} {v : α} {r q : State × α}

@[simp] theorem veilFst_fst : (veilFst wide r).1 = r.1.veil wide := rfl
@[simp] theorem veilFst_snd : (veilFst wide r).2 = r.2 := rfl
@[simp] theorem mk_veilFst : (s.veil wide, v) = veilFst wide (s, v) := rfl
@[simp] theorem ite_veilFst {P : Prop} [Decidable P] :
    (if P then veilFst wide r else veilFst wide q) = veilFst wide (if P then r else q) := by
  split <;> rfl

end

@[simp] theorem State.fresh_veil : (s.veil wide).fresh = (s.fresh.1, s.fresh.2.veil wide) := by simp [State.fresh]

/-! ### Memory -/

@[simp] theorem State.byte_veil (a : Nat) : (s.veil wide).byte a = s.byte a := by rfl
@[simp] theorem State.retByte_veil (a : Nat) : (s.veil wide).retByte a = s.retByte a := by rfl
@[simp] theorem State.retWord_veil (a : Nat) : (s.veil wide).retWord a = s.retWord a := by rfl
@[simp] theorem State.setByte_veil (a : Nat) (v : BitVec 8) : (s.veil wide).setByte a v = (s.setByte a v).veil wide := by rfl
@[simp] theorem State.setRetByte_veil (a : Nat) (v : BitVec 8) : (s.veil wide).setRetByte a v = (s.setRetByte a v).veil wide := by rfl
@[simp] theorem State.clearMem_veil (lo hi : Nat) : (s.veil wide).clearMem lo hi = (s.clearMem lo hi).veil wide := by rfl
@[simp] theorem State.send_veil (m : Sent) : (s.veil wide).send m = (s.send m).veil wide := by rfl

@[simp] theorem State.leNat_veil (a n : Nat) : (s.veil wide).leNat a n = s.leNat a n := by
  induction n generalizing a with
  | zero => rfl
  | succ n ih => simp [State.leNat, ih]

@[simp] theorem State.word_veil (a : Nat) : (s.veil wide).word a = s.word a := by simp [State.word]

@[simp] theorem State.setLe_veil (a v n : Nat) : (s.veil wide).setLe a v n = (s.setLe a v n).veil wide := by
  induction n generalizing s a v with
  | zero => rfl
  | succ n ih => simp [State.setLe, ih]

@[simp] theorem State.eccStore_veil (w : Nat) : (s.veil wide).eccStore w = (s.eccStore w).veil wide := by simp [State.eccStore]
@[simp] theorem State.eccHalf_veil (w h : Nat) : (s.veil wide).eccHalf w h = (s.eccHalf w h).veil wide := by simp [State.eccHalf]
@[simp] theorem State.setWord_veil (a v : Nat) : (s.veil wide).setWord a v = (s.setWord a v).veil wide := by simp [State.setWord]
@[simp] theorem State.setDouble_veil (a v : Nat) : (s.veil wide).setDouble a v = (s.setDouble a v).veil wide := by simp [State.setDouble]
@[simp] theorem State.setRetWord_veil (a v : Nat) :
    (s.veil wide).setRetWord a v = (s.setRetWord a v).veil wide := by simp [State.setRetWord]

end

end Sys2Proof.Machine
end

section
/-! SUPPORT. Each field of a register stands in the register's page; no register beside the host port's holds a veiled field (R9). -/

namespace Sys2Proof.Machine

/-- No field of the layout is veiled. -/
def Layout.Open (l : Layout) (wide : Bool) : Prop := ∀ q ∈ l, q.1.veiled wide = false

/-- Every field of the layout stands in page `p`. -/
def Layout.InPage (l : Layout) (p : Nat) : Prop := ∀ q ∈ l, q.1.key / 0x1000 = p ∧ q.1.lo < 32

@[simp] theorem Layout.inPage_nil {p : Nat} : Layout.InPage [] p := by simp [Layout.InPage]

@[simp] theorem Layout.inPage_cons {q : Fld × Ty} {l : Layout} {p : Nat} :
    Layout.InPage (q :: l) p ↔ (q.1.key / 0x1000 = p ∧ q.1.lo < 32) ∧ Layout.InPage l p := by
  simp [Layout.InPage]

theorem Layout.InPage.of_eq {l : Layout} {p q : Nat} (h : l.InPage p) (hpq : p = q) : l.InPage q := hpq ▸ h

theorem Layout.InPage.open_of {l : Layout} {p : Nat} {wide : Bool} (h : l.InPage p) (hp : p < 0x100) (hh : p ≠ 0x04 ∨ wide = false) :
    l.Open wide := by
  intro q hq
  obtain ⟨hkey, hlo⟩ := h q hq
  rw [Fld.veiled_eq_false]
  simp only [Fld.id]
  refine ⟨by omega, fun hw => ?_⟩
  have hne : p ≠ 0x04 := hh.resolve_right (by simp [hw])
  omega

section
variable {off : Nat}

theorem pageLayout_inPage (p : Nat) : (pageLayout p off).InPage p := by
  unfold pageLayout
  split <;> simp <;> omega

theorem hiveLayout_inPage : (hiveLayout off).InPage 0x00 := by
  unfold hiveLayout
  split <;> simp

theorem clkLayout_inPage : (clkLayout off).InPage 0x01 := by
  unfold clkLayout
  split <;> simp

theorem pwrLayout_inPage : (pwrLayout off).InPage 0x02 := by
  unfold pwrLayout
  split <;> simp

theorem hostLayout_inPage : (hostLayout off).InPage 0x04 := by
  unfold hostLayout
  split <;> simp

theorem pinsLayout_inPage : (pinsLayout off).InPage 0x0C := by
  unfold pinsLayout
  split <;> simp

theorem hksLayout_inPage : (hksLayout off).InPage 0x68 := by
  unfold hksLayout
  repeat' split
  all_goals simp <;> omega

theorem mmtLayout_inPage : (mmtLayout off).InPage 0x78 := by
  unfold mmtLayout
  repeat' split
  all_goals simp <;> omega

theorem tagLayout_inPage : (tagLayout off).InPage 0xA2 := by
  unfold tagLayout
  repeat' split
  all_goals simp <;> omega

theorem thmLayout_inPage : (thmLayout off).InPage 0x80 := by
  unfold thmLayout
  repeat' split
  all_goals simp <;> omega

theorem intcLayout_inPage : (intcLayout off).InPage 0x08 := by
  unfold intcLayout
  repeat' split
  all_goals simp <;> omega

theorem wdgLayout_inPage : (wdgLayout off).InPage 0x09 := by
  unfold wdgLayout
  split <;> simp

theorem swLayout_inPage : (swLayout off).InPage 0x98 := by
  unfold swLayout
  repeat' split
  all_goals simp <;> omega

theorem tblLayout_inPage : (tblLayout off).InPage 0x90 := by
  unfold tblLayout
  split <;> simp

theorem maintLayout_inPage : (maintLayout off).InPage 0xB0 := by
  unfold maintLayout
  repeat' split
  all_goals simp <;> omega

theorem canLayout_inPage (n : Nat) : (canLayout n off).InPage (0x05 + n) := by
  unfold canLayout
  split <;> simp <;> omega

theorem phLayout_inPage (n : Nat) : (phLayout n off).InPage (0x20 + n) := by
  unfold phLayout
  split <;> simp <;> omega

theorem cmbLayout_inPage (n : Nat) : (cmbLayout n off).InPage (0x10 + n) := by
  unfold cmbLayout
  split <;> simp <;> omega

theorem portLayout_inPage (n : Nat) : (portLayout n off).InPage (0x30 + n) := by
  unfold portLayout
  split <;> simp <;> omega

theorem pdpLayout_inPage (n : Nat) : (pdpLayout n off).InPage (0x60 + n) := by
  unfold pdpLayout
  repeat' split
  all_goals simp <;> omega

theorem hkcLayout_inPage (n : Nat) : (hkcLayout n off).InPage (0x69 + n) := by
  unfold hkcLayout
  split <;> simp <;> omega

theorem accLayout_inPage (n : Nat) : (accLayout n off).InPage (0x70 + n) := by
  unfold accLayout
  repeat' split
  all_goals simp <;> omega

theorem chgLayout_inPage (n : Nat) : (chgLayout n off).InPage (0x88 + n) := by
  unfold chgLayout
  split <;> simp <;> omega

theorem memLayout_inPage (n : Nat) : (memLayout n off).InPage (0xA0 + n) := by
  unfold memLayout
  split <;> simp <;> omega

theorem portpdLayout_inPage (n : Nat) : (portpdLayout n off).InPage (0x30 + (12 * n + 11)) := by
  unfold portpdLayout
  split <;> simp <;> omega

theorem portPageLayout_inPage (n : Nat) : (portPageLayout n off).InPage (0x30 + n) := by
  unfold portPageLayout
  split
  · next hkind =>
    have hn : 12 * (n / 12) + 11 = n := by
      unfold portKind at hkind
      split_ifs at hkind <;> omega
    split
    · exact portLayout_inPage n
    · exact (portpdLayout_inPage (n / 12)).of_eq (by omega)
  · exact fun q hq => portLayout_inPage n q (List.mem_of_mem_filter hq)

/-- A page belongs to a block that begins at or below it; a block of one page is that page. -/
theorem pageKind_bounds {p k : Nat} (h : pageKind p = some k) : p < 0x100 ∧ k ≤ p
    ∧ (k = p ∨ k = 0x05 ∨ k = 0x10 ∨ k = 0x20 ∨ k = 0x30 ∨ k = 0x60 ∨ k = 0x69 ∨ k = 0x70 ∨ k = 0x88) := by
  simp only [pageKind, ite_eq_iff, Option.some.injEq, reduceCtorEq, and_false, or_false] at h
  omega

theorem regLayout_inPage (p : Nat) : (regLayout p off).InPage p := by
  unfold regLayout
  split
  · exact Layout.inPage_nil
  · next k hk =>
    obtain ⟨-, hle, hone⟩ := pageKind_bounds hk
    split
    · exact pageLayout_inPage p
    · split
      · exact hiveLayout_inPage.of_eq (by omega)
      · exact clkLayout_inPage.of_eq (by omega)
      · exact pwrLayout_inPage.of_eq (by omega)
      · exact hostLayout_inPage.of_eq (by omega)
      · exact (canLayout_inPage _).of_eq (by omega)
      · exact intcLayout_inPage.of_eq (by omega)
      · exact wdgLayout_inPage.of_eq (by omega)
      · exact pinsLayout_inPage.of_eq (by omega)
      · exact (cmbLayout_inPage _).of_eq (by omega)
      · exact (phLayout_inPage _).of_eq (by omega)
      · exact (portPageLayout_inPage _).of_eq (by omega)
      · exact (pdpLayout_inPage _).of_eq (by omega)
      · exact hksLayout_inPage.of_eq (by omega)
      · exact (hkcLayout_inPage _).of_eq (by omega)
      · exact (accLayout_inPage _).of_eq (by omega)
      · exact mmtLayout_inPage.of_eq (by omega)
      · exact thmLayout_inPage.of_eq (by omega)
      · exact (chgLayout_inPage _).of_eq (by omega)
      · exact tblLayout_inPage.of_eq (by omega)
      · exact swLayout_inPage.of_eq (by omega)
      · exact (memLayout_inPage 0).of_eq (by omega)
      · exact (memLayout_inPage 1).of_eq (by omega)
      · exact tagLayout_inPage.of_eq (by omega)
      · exact maintLayout_inPage.of_eq (by omega)
      · exact Layout.inPage_nil

theorem regLayout_open_of {p : Nat} {wide : Bool} (h : p ≠ 0x04 ∨ wide = false) : (regLayout p off).Open wide := by
  cases hk : pageKind p with
  | none => simp [regLayout, hk, Layout.Open]
  | some k => exact (regLayout_inPage p).open_of (pageKind_bounds hk).1 h

theorem Layout.Open.filter {l : Layout} {wide : Bool} (h : l.Open wide) {g : Fld × Ty → Bool} : Layout.Open (l.filter g) wide :=
  fun q hq => h q (List.mem_of_mem_filter hq)

@[simp] theorem regLayout_open {p : Nat} : (regLayout p off).Open false := regLayout_open_of (.inr rfl)

end

end Sys2Proof.Machine
end

section
/-! SUPPORT. Under the veil, in the order of the model: the fault fields, register accesses, and the plans that every squash needs.
What reads the state reads the same, what changes it changes it alike. -/

namespace Sys2Proof.Machine

variable {s : State} {wide : Bool}

/-! ### Event bits, the error pin and the fault log (R85, R384 to R394) -/

@[simp] theorem absent_veil : absent (s.veil wide) = absent s := by
  funext p
  simp [absent]

@[simp] theorem evt_veil {p i : Nat} : State.evt (s.veil wide) p i = (State.evt s p i).veil wide := by simp [State.evt]

@[simp] theorem pageActive_veil : pageActive (s.veil wide) = pageActive s := by
  funext p
  simp [pageActive]

@[simp] theorem errWanted_veil : errWanted (s.veil wide) = errWanted s := by simp [errWanted]
@[simp] theorem errUpdate_veil {p : Nat} : errUpdate (s.veil wide) p = (errUpdate s p).veil wide := by simp [errUpdate]
@[simp] theorem fltStat_veil {p : Nat} : fltStat (s.veil wide) p = fltStat s p := by simp [fltStat]

@[simp] theorem logFault_veil {p cause attr kind : Nat} :
    logFault (s.veil wide) p cause attr kind = (logFault s p cause attr kind).veil wide := by simp [logFault]

@[simp] theorem classActive_veil {p n : Nat} : classActive (s.veil wide) p n = classActive s p n := by simp [classActive]
@[simp] theorem classActed_veil {p n : Nat} : classActed (s.veil wide) p n = classActed s p n := by simp [classActed]
@[simp] theorem ownActed_veil {p : Nat} : ownActed (s.veil wide) p = ownActed s p := by simp [ownActed]
@[simp] theorem classPresent_veil {p n : Nat} : classPresent (s.veil wide) p n = classPresent s p n := by simp [classPresent]

@[simp] theorem quietUpdate_veil {p n : Nat} :
    quietUpdate (s.veil wide) p n = (quietUpdate s p n).veil wide := by simp [quietUpdate]

@[simp] theorem raiseClass_veil {c : Cause} : raiseClass (s.veil wide) c = raiseClass s c := by simp [raiseClass]
@[simp] theorem muted_veil {p : Nat} : muted (s.veil wide) p = muted s p := by simp [muted]
@[simp] theorem recordRaise_veil {c : Cause} : recordRaise (s.veil wide) c = (recordRaise s c).veil wide := by simp [recordRaise]
@[simp] theorem causeEnds_veil {p i : Nat} : causeEnds (s.veil wide) p i = (causeEnds s p i).veil wide := by simp [causeEnds]

@[simp] theorem recordAction_veil {p n : Nat} :
    recordAction (s.veil wide) p n = (recordAction s p n).veil wide := by simp [recordAction]

@[simp] theorem recovery_veil : recovery (s.veil wide) = recovery s := by simp [recovery]
@[simp] theorem inSafeBoot_veil : inSafeBoot (s.veil wide) = inSafeBoot s := by simp [inSafeBoot]
@[simp] theorem inFull_veil : inFull (s.veil wide) = inFull s := by simp [inFull]

/-! ### Register accesses: views, type codes and refusals (R9, R80, R90) -/

@[simp] theorem served_veil : served (s.veil wide) = served s := by simp [served]
@[simp] theorem refusal_veil {p code : Nat} : refusal (s.veil wide) p code = (refusal s p code).veil wide := by simp [refusal]

@[simp] theorem fieldCode_veil {k exempt : Bool} {p : Nat} {ty : Ty} :
    fieldCode (s.veil wide) k exempt p ty = fieldCode s k exempt p ty := by simp [fieldCode]

@[simp] theorem presentField_veil {f : Fld} (h : f.veiled wide = false) {ty : Ty} :
    presentField (s.veil wide) f ty = presentField s f ty := by
  simp [presentField, h]

@[simp] theorem judge_veil {k exempt : Bool} {p : Nat} {l : Layout} (h : l.Open wide) {w : Nat} :
    judge (s.veil wide) k exempt p l w = judge s k exempt p l w := by
  induction l with
  | nil => rfl
  | cons q l ih =>
    have hq : q.1.veiled wide = false := h q (by simp)
    simp [judge, ih fun r hr => h r (by simp [hr]), hq]

@[simp] theorem storeField_veil {w : Nat} {f : Fld} (h : f.veiled wide = false) {ty : Ty} :
    storeField (s.veil wide) w f ty = (storeField s w f ty).veil wide := by
  cases ty <;> simp [storeField, h]

@[simp] theorem storeFields_veil {w : Nat} {l : Layout} (h : l.Open wide) :
    storeFields (s.veil wide) w l = (storeFields s w l).veil wide :=
  State.each_veil_mem fun _ q hq => storeField_veil (h q hq)

section
variable {k exempt : Bool} {p off w : Nat} (hopen : (regLayout p off).Open wide)
include hopen

@[simp] theorem specialRes_veil {g : State → Nat → Res} (h : ∀ u v, g (u.veil wide) v = veilFst wide (g u v)) :
    specialRes (s.veil wide) k p off w exempt g = veilFst wide (specialRes s k p off w exempt g) := by
  simp [specialRes, hopen, h]

@[simp] theorem specialWrite_veil {g : State → Nat → State} (h : ∀ u v, g (u.veil wide) v = (g u v).veil wide) :
    specialWrite (s.veil wide) k p off w exempt g = veilFst wide (specialWrite s k p off w exempt g) :=
  specialRes_veil hopen fun u v => by simp [h]

@[simp] theorem plainWrite_veil : plainWrite (s.veil wide) k p off w = veilFst wide (plainWrite s k p off w) :=
  specialWrite_veil hopen fun _ _ => storeFields_veil hopen

end

@[simp] theorem ceiled_veil {w : Nat} {setp ceil : Fld} (hf : setp.veiled wide = false) {g : State → Nat → State}
    (h : ∀ u v, g (u.veil wide) v = (g u v).veil wide) : ceiled (s.veil wide) w setp ceil g = veilFst wide (ceiled s w setp ceil g) := by
  simp [ceiled, hf, h]

/-! ### Table banks, plans and squashes (R148 to R156, R462) -/

@[simp] theorem eccState_veil {w : Nat} : eccState (s.veil wide) w = eccState s w := by rfl
@[simp] theorem readable_veil {a len : Nat} : readable (s.veil wide) a len = readable s a len := by simp [readable]
@[simp] theorem leInt_veil {a n : Nat} : State.leInt (s.veil wide) a n = State.leInt s a n := by simp [State.leInt]

@[simp] theorem findEntry_veil {b ttype idx : Nat} :
    findEntry (s.veil wide) b ttype idx = findEntry s b ttype idx := by simp [findEntry]

@[simp] theorem entryAddr_veil {b : Nat} : entryAddr (s.veil wide) b = entryAddr s b := by
  funext e
  simp [entryAddr]

@[simp] theorem findTableIn_veil {b ttype idx : Nat} :
    findTableIn (s.veil wide) b ttype idx = findTableIn s b ttype idx := by simp [findTableIn]

@[simp] theorem findTable_veil {ttype idx : Nat} : findTable (s.veil wide) ttype idx = findTable s ttype idx := by simp [findTable]

@[simp] theorem headerOk_veil {a ttype len : Nat} :
    headerOk (s.veil wide) a ttype len = headerOk s a ttype len := by simp [headerOk]

@[simp] theorem gangOf_veil {c : Nat} : gangOf (s.veil wide) c = gangOf s c := by simp [gangOf]
@[simp] theorem gangLead_veil {c : Nat} : gangLead (s.veil wide) c = gangLead s c := by simp [gangLead]
@[simp] theorem gangLow_veil {c : Nat} : gangLow (s.veil wide) c = gangLow s c := by simp [gangLow]
@[simp] theorem modelTable_veil {c : Nat} : modelTable (s.veil wide) c = modelTable s c := by simp [modelTable]

@[simp] theorem modelForm_veil : modelForm (s.veil wide) = modelForm s := by
  funext a
  simp [modelForm]

@[simp] theorem modelValid_veil {c : Nat} : modelValid (s.veil wide) c = modelValid s c := by
  funext a
  simp [modelValid]

theorem State.leNat_lt (s : State) (a n : Nat) : s.leNat a n < 256 ^ n := by
  induction n generalizing a with
  | zero => simp [State.leNat]
  | succ n ih =>
    have hb := (s.byte a).isLt
    have hn := ih (a + 1)
    rw [State.leNat, Nat.pow_succ]
    omega

/-- A sensor that a table names in two bytes. -/
@[simp] theorem veiled_sensor {a : Nat} : (THS_VAL.T (s.leNat a 2)).veiled wide = false := by
  have hlt := s.leNat_lt a 2
  exact Fld.veiled_of_ne (by decide) (by omega) (by omega)

@[simp] theorem coefRecompute_veil {c : Nat} : coefRecompute (s.veil wide) c = (coefRecompute s c).veil wide := by
  unfold coefRecompute
  simp only [modelTable_veil]
  split <;> simp

@[simp] theorem antMean_veil {c : Fin 4} {x k : Nat} : antMean (s.veil wide) c x k = antMean s c x k := by simp [antMean]
@[simp] theorem cPerA_veil {p : Nat} : cPerA (s.veil wide) p = cPerA s p := by simp [cPerA]
@[simp] theorem measured_veil {p : Nat} : measured (s.veil wide) p = measured s p := by simp [measured]

@[simp] theorem degraded_veil : degraded (s.veil wide) = degraded s := by
  funext p
  simp [degraded]

@[simp] theorem phDraw_veil {p : Fin 16} {x k : Nat} : phDraw (s.veil wide) p x k = phDraw s p x k := by simp [phDraw]
@[simp] theorem busDraw_veil {c : Fin 4} {x k : Nat} : busDraw (s.veil wide) c x k = busDraw s c x k := by simp [busDraw]
@[simp] theorem busEsr_veil {c x : Nat} : busEsr (s.veil wide) c x = busEsr s c x := by simp [busEsr]

@[simp] theorem busCap_veil {c : Fin 4} {x k : Nat} : busCap (s.veil wide) c x k = busCap s c x k := by
  induction k with
  | zero => simp [busCap]
  | succ k ih => simp [busCap, ih]

@[simp] theorem busVolt_veil {c : Fin 4} {x k : Nat} : busVolt (s.veil wide) c x k = busVolt s c x k := by simp [busVolt]
@[simp] theorem busMeas_veil {c x : Nat} : busMeas (s.veil wide) c x = busMeas s c x := by simp [busMeas]
@[simp] theorem busEstimate_veil {c : Fin 4} {x : Nat} : busEstimate (s.veil wide) c x = busEstimate s c x := by simp [busEstimate]

@[simp] theorem busTake_veil {d x : Nat} {e : Int × Int} :
    busTake (s.veil wide) d x e = (busTake s d x e).veil wide := by simp [busTake]

@[simp] theorem busCheckpoint_veil {c : Fin 4} :
    busCheckpoint (s.veil wide) c = (busCheckpoint s c).veil wide := by simp [busCheckpoint]

@[simp] theorem busRestore_veil {c : Nat} : busRestore (s.veil wide) c = (busRestore s c).veil wide := by simp [busRestore]

@[simp] theorem highStart_veil {p : Nat} {low : Nat} {ord : Bool} :
    highStart (s.veil wide) p low ord = highStart s p low ord := by simp [highStart]

@[simp] theorem legSpans_veil {p dly per : Nat} {prev cur : Nat × Nat × Bool} :
    legSpans (s.veil wide) p dly per prev cur = legSpans s p dly per prev cur := by simp [legSpans]

@[simp] theorem deadTime_veil {p : Nat} {e : Timing} {i : Int} :
    deadTime (s.veil wide) p e i = deadTime s p e i := by simp [deadTime]

@[simp] theorem inductance_veil {p a : Nat} {i : Int} : inductance (s.veil wide) p a i = inductance s p a i := by simp [inductance]

@[simp] theorem meanCurrent_veil {p : Fin 16} {a : Nat} {prev cur : Timing} {start : Int} {k : Nat} :
    meanCurrent (s.veil wide) p a prev cur start k = meanCurrent s p a prev cur start k := by simp [meanCurrent]

@[simp] theorem deltaC_veil {p : Fin 16} {a : Nat} {prev cur : Timing} {iAvg : Int} {k : Nat} :
    deltaC (s.veil wide) p a prev cur iAvg k = deltaC s p a prev cur iAvg k := by simp [deltaC]

@[simp] theorem combStorm_veil {c : Nat} : combStorm (s.veil wide) c = combStorm s c := by simp [combStorm]

@[simp] theorem bandOf_veil {p a n : Nat} {iStart iPred : Int} {ant : Bool} :
    bandOf (s.veil wide) p a n iStart iPred ant = bandOf s p a n iStart iPred ant := by simp [bandOf]

@[simp] theorem cpTiming_veil {p : Nat} : cpTiming (s.veil wide) p = cpTiming s p := by simp [cpTiming]
@[simp] theorem before_veil {p : Fin 16} {idx : BitVec 8} : before (s.veil wide) p idx = before s p idx := by simp [before]
@[simp] theorem ahead_veil {p : Nat} {idx : BitVec 8} : ahead (s.veil wide) p idx = ahead s p idx := by simp [ahead]

@[simp] theorem repredict_veil {p : Fin 16} {a : Nat} {prev : Timing} {start : Int} {l : List PlanEntry} :
    repredict (s.veil wide) p a prev start l = repredict s p a prev start l := by
  induction l generalizing prev start with
  | nil => rfl
  | cons e l ih => simp [repredict, ih]

@[simp] theorem squashPlans_veil {p : Fin 16} : squashPlans (s.veil wide) p = (squashPlans s p).veil wide := by simp [squashPlans]

@[simp] theorem squashOne_veil {p : Fin 16} : squashOne (s.veil wide) p = (squashOne s p).veil wide := by
  cases ha : modelTable (squashPlans s p) (p.val / 4) <;> cases hl : (squashPlans s p).window[p.val] <;> simp [squashOne, ha, hl]

@[simp] theorem inSet_veil {p : Nat} : inSet (s.veil wide) p = inSet s p := by simp [inSet]
@[simp] theorem squashBus_veil {c : Nat} : squashBus (s.veil wide) c = (squashBus s c).veil wide := by simp [squashBus]
@[simp] theorem squashCount_veil {c : Nat} : squashCount (s.veil wide) c = (squashCount s c).veil wide := by simp [squashCount]

@[simp] theorem squashList_veil {c : Nat} {l : List (Fin 16)} :
    squashList (s.veil wide) c l = (squashList s c l).veil wide := by simp [squashList]

@[simp] theorem squashComb_veil {c : Nat} : squashComb (s.veil wide) c = (squashComb s c).veil wide := by simp [squashComb]
@[simp] theorem squashEvery_veil {c : Nat} : squashEvery (s.veil wide) c = (squashEvery s c).veil wide := by simp [squashEvery]
@[simp] theorem gangRelay_veil {c : Nat} : gangRelay (s.veil wide) c = (gangRelay s c).veil wide := by simp [gangRelay]
@[simp] theorem setSquash_veil {p : Fin 16} : setSquash (s.veil wide) p = (setSquash s p).veil wide := by simp [setSquash]
@[simp] theorem stormCount_veil {c : Nat} : stormCount (s.veil wide) c = stormCount s c := by simp [stormCount]
@[simp] theorem missSquash_veil {p : Fin 16} : missSquash (s.veil wide) p = (missSquash s p).veil wide := by simp [missSquash]

@[simp] theorem veiled_missField {p : Nat} : (missField p).veiled wide = false := by
  unfold missField
  split <;> simp

@[simp] theorem missRecord_veil {p : Fin 16} {idx cause : Nat} {dev : Int} :
    missRecord (s.veil wide) p idx cause dev = (missRecord s p idx cause dev).veil wide := by simp [missRecord]

end Sys2Proof.Machine
end

section
/-! SUPPORT. Under the veil, in the order of the model: the class actions and what they need of a charge engine.
What reads the state reads the same, what changes it changes it alike. -/

namespace Sys2Proof.Machine

variable {s : State} {wide : Bool}

/-! ### Class actions (R390) -/

@[simp] theorem phClockLost_veil {p : Nat} : phClockLost (s.veil wide) p = phClockLost s p := by simp [phClockLost]
@[simp] theorem portClockLost_veil {n : Nat} : portClockLost (s.veil wide) n = portClockLost s n := by simp [portClockLost]
@[simp] theorem dieShutdown_veil : dieShutdown (s.veil wide) = dieShutdown s := by simp [dieShutdown]
@[simp] theorem stageShutdown_veil {p : Nat} : stageShutdown (s.veil wide) p = stageShutdown s p := by simp [stageShutdown]
@[simp] theorem phActionHold_veil {p : Nat} : phActionHold (s.veil wide) p = phActionHold s p := by simp [phActionHold]
@[simp] theorem combLive_veil {c : Nat} : combLive (s.veil wide) c = combLive s c := by simp [combLive]
@[simp] theorem foragerRuns_veil {c : Nat} : foragerRuns (s.veil wide) c = foragerRuns s c := by simp [foragerRuns]
@[simp] theorem phForced_veil {p : Nat} : phForced (s.veil wide) p = phForced s p := by simp [phForced]
@[simp] theorem phHeld_veil {p : Nat} : phHeld (s.veil wide) p = phHeld s p := by simp [phHeld]
@[simp] theorem phCause_veil {p : Nat} {under : Bool} : phCause (s.veil wide) p under = phCause s p under := by simp [phCause]
@[simp] theorem clearSlots_veil {p : Fin 16} : clearSlots (s.veil wide) p = (clearSlots s p).veil wide := by simp [clearSlots]
@[simp] theorem underEnds_veil {p : Nat} : underEnds (s.veil wide) p = (underEnds s p).veil wide := by simp [underEnds]
@[simp] theorem clipEnds_veil {p : Nat} : clipEnds (s.veil wide) p = (clipEnds s p).veil wide := by simp [clipEnds]
@[simp] theorem limitEnds_veil {p : Nat} : limitEnds (s.veil wide) p = (limitEnds s p).veil wide := by simp [limitEnds]
@[simp] theorem runsEnd_veil {p : Nat} : runsEnd (s.veil wide) p = (runsEnd s p).veil wide := by simp [runsEnd]
@[simp] theorem planAnew_veil {p : Nat} : planAnew (s.veil wide) p = (planAnew s p).veil wide := by simp [planAnew]

@[simp] theorem holdLock_veil {p : Fin 16} : holdLock (s.veil wide) p = (holdLock s p).veil wide := by
  cases h : s.exec[p.val] <;> simp [holdLock, h]

@[simp] theorem phRest_veil {p : Fin 16} : phRest (s.veil wide) p = (phRest s p).veil wide := by simp [phRest]

@[simp] theorem phHold_veil {p : Fin 16} {allOff under : Bool} :
    phHold (s.veil wide) p allOff under = (phHold s p allOff under).veil wide := by
  simp [phHold]
  split <;> rfl

@[simp] theorem sendRecord_veil {c : Nat} {w : Nat} :
    sendRecord (s.veil wide) c w = (sendRecord s c w).veil wide := by simp [sendRecord]

@[simp] theorem portState_veil {n : Nat} {st : Nat} :
    portState (s.veil wide) n st = (portState s n st).veil wide := by simp [portState]

@[simp] theorem portPg_veil {n : Nat} {on : Bool} : portPg (s.veil wide) n on = (portPg s n on).veil wide := by simp [portPg]
@[simp] theorem gateUp_veil {n : Nat} : gateUp (s.veil wide) n = gateUp s n := by simp [gateUp]
@[simp] theorem portPullDown_veil {n : Nat} : portPullDown (s.veil wide) n = (portPullDown s n).veil wide := by simp [portPullDown]
@[simp] theorem portCancel_veil {n : Nat} : portCancel (s.veil wide) n = (portCancel s n).veil wide := by simp [portCancel]
@[simp] theorem portScale_veil {n : Nat} : portScale (s.veil wide) n = (portScale s n).veil wide := by simp [portScale]
@[simp] theorem feederOn_veil {n : Nat} : feederOn (s.veil wide) n = feederOn s n := by simp [feederOn]
@[simp] theorem shedPri_veil {c k : Nat} : shedPri (s.veil wide) c k = shedPri s c k := by simp [shedPri]
@[simp] theorem shedChoice_veil {c : Nat} : shedChoice (s.veil wide) c = shedChoice s c := by simp [shedChoice]
@[simp] theorem wakeEnabled_veil {src : Nat} : wakeEnabled (s.veil wide) src = wakeEnabled s src := by simp [wakeEnabled]
@[simp] theorem wakeFires_veil {src : Nat} : wakeFires (s.veil wide) src = (wakeFires s src).veil wide := by simp [wakeFires]
@[simp] theorem portTrip_veil {n i : Nat} : portTrip (s.veil wide) n i = (portTrip s n i).veil wide := by simp [portTrip]
@[simp] theorem portOff_veil {n : Nat} : portOff (s.veil wide) n = (portOff s n).veil wide := by simp [portOff]

@[simp] theorem onWindow_veil {p : Fin 16} {g : List PlanEntry → List PlanEntry} :
    onWindow (s.veil wide) p g = (onWindow s p g).veil wide := by simp [onWindow]

@[simp] theorem phStop_veil {p : Fin 16} {allOff : Bool} :
    phStop (s.veil wide) p allOff = (phStop s p allOff).veil wide := by simp [phStop]

@[simp] theorem combSquash_veil {c : Nat} : combSquash (s.veil wide) c = (combSquash s c).veil wide := by simp [combSquash]

@[simp] theorem leavePlan_veil {p : Fin 16} {before : Bool} :
    leavePlan (s.veil wide) p before = (leavePlan s p before).veil wide := by simp [leavePlan]

@[simp] theorem combStop_veil {c : Nat} : combStop (s.veil wide) c = (combStop s c).veil wide := by simp [combStop]
@[simp] theorem pdPhase_veil {c : Nat} : pdPhase (s.veil wide) c = pdPhase s c := by simp [pdPhase]
@[simp] theorem plans_veil {p : Nat} : plans (s.veil wide) p = plans s p := by simp [plans]
@[simp] theorem dropRecords_veil {c : Nat} : dropRecords (s.veil wide) c = (dropRecords s c).veil wide := by simp [dropRecords]
@[simp] theorem detachMiss_veil {c : Fin 4} : detachMiss (s.veil wide) c = (detachMiss s c).veil wide := by simp [detachMiss]
@[simp] theorem pdSwitch_veil {c st : Nat} : pdSwitch (s.veil wide) c st = (pdSwitch s c st).veil wide := by simp [pdSwitch]
@[simp] theorem disReview_veil {c : Nat} : disReview (s.veil wide) c = (disReview s c).veil wide := by simp [disReview]
@[simp] theorem refRamp_veil {c goal : Nat} : refRamp (s.veil wide) c goal = (refRamp s c goal).veil wide := by simp [refRamp]
@[simp] theorem refAt_veil {c v : Nat} : refAt (s.veil wide) c v = (refAt s c v).veil wide := by simp [refAt]

@[simp] theorem pdCancelTransition_veil {c : Nat} :
    pdCancelTransition (s.veil wide) c = (pdCancelTransition s c).veil wide := by simp [pdCancelTransition]

@[simp] theorem pdSegment_veil {c start : Nat} :
    pdSegment (s.veil wide) c start = (pdSegment s c start).veil wide := by simp [pdSegment]

@[simp] theorem vbusTgt_veil {c : Nat} : vbusTgt (s.veil wide) c = vbusTgt s c := by simp [vbusTgt]

@[simp] theorem pdAnnounce_veil {c start : Nat} :
    pdAnnounce (s.veil wide) c start = (pdAnnounce s c start).veil wide := by simp [pdAnnounce]

@[simp] theorem pdOpen_veil {c : Nat} : pdOpen (s.veil wide) c = (pdOpen s c).veil wide := by simp [pdOpen]
@[simp] theorem pdQuiet_veil {c : Nat} : pdQuiet (s.veil wide) c = (pdQuiet s c).veil wide := by simp [pdQuiet]

@[simp] theorem pdErrorRecovery_veil {c : Nat} :
    pdErrorRecovery (s.veil wide) c = (pdErrorRecovery s c).veil wide := by simp [pdErrorRecovery]

@[simp] theorem pdDisable_veil {c : Nat} : pdDisable (s.veil wide) c = (pdDisable s c).veil wide := by simp [pdDisable]
@[simp] theorem pdUnattached_veil {c : Nat} : pdUnattached (s.veil wide) c = (pdUnattached s c).veil wide := by simp [pdUnattached]
@[simp] theorem pdBarred_veil {c : Nat} : pdBarred (s.veil wide) c = pdBarred s c := by simp [pdBarred]
@[simp] theorem pdStartAgain_veil {c : Nat} : pdStartAgain (s.veil wide) c = (pdStartAgain s c).veil wide := by simp [pdStartAgain]
@[simp] theorem pdSinkOnly_veil {c : Nat} : pdSinkOnly (s.veil wide) c = (pdSinkOnly s c).veil wide := by simp [pdSinkOnly]
@[simp] theorem pdClose_veil {c : Nat} : pdClose (s.veil wide) c = (pdClose s c).veil wide := by simp [pdClose]
@[simp] theorem pdRecent_veil {c : Nat} : pdRecent (s.veil wide) c = pdRecent s c := by simp [pdRecent]
@[simp] theorem noteRaise_veil {c : Cause} : noteRaise (s.veil wide) c = (noteRaise s c).veil wide := by simp [noteRaise]
@[simp] theorem pdCount_veil {c : Nat} : pdCount (s.veil wide) c = (pdCount s c).veil wide := by simp [pdCount]
@[simp] theorem pdLatch_veil {c : Nat} : pdLatch (s.veil wide) c = (pdLatch s c).veil wide := by simp [pdLatch]

@[simp] theorem pdProtect_veil {c : Fin 4} {i : Nat} :
    pdProtect (s.veil wide) c i = (pdProtect s c i).veil wide := by simp [pdProtect]

@[simp] theorem laneConv_veil {m : Nat} : laneConv (s.veil wide) m = laneConv s m := by simp [laneConv]
@[simp] theorem setLane_veil {m k : Nat} : setLane (s.veil wide) m k = (setLane s m k).veil wide := by simp [setLane]
@[simp] theorem convRole_veil {k r : Nat} : convRole (s.veil wide) k r = (convRole s k r).veil wide := by simp [convRole]
@[simp] theorem calBreak_veil {k : Nat} : calBreak (s.veil wide) k = (calBreak s k).veil wide := by simp [calBreak]

@[simp] theorem convWithdraw_veil {k : Nat} : convWithdraw (s.veil wide) k = (convWithdraw s k).veil wide := by
  cases h : (List.range 4).find? (fun m => laneConv s m == k) <;> simp [convWithdraw, h]

@[simp] theorem stepAwaits_veil {kind : Nat} : stepAwaits (s.veil wide) kind = stepAwaits s kind := by simp [stepAwaits]
@[simp] theorem builtinHeld_veil : builtinHeld (s.veil wide) = builtinHeld s := by simp [builtinHeld]
@[simp] theorem builtinGives_veil : builtinGives (s.veil wide) = builtinGives s := by simp [builtinGives]
@[simp] theorem builtinReview_veil : builtinReview (s.veil wide) = (builtinReview s).veil wide := by simp [builtinReview]
@[simp] theorem chgOpen_veil {n : Nat} : chgOpen (s.veil wide) n = (chgOpen s n).veil wide := by simp [chgOpen]
@[simp] theorem portClosed_veil {n : Nat} : portClosed (s.veil wide) n = portClosed s n := by simp [portClosed]

@[simp] theorem closedEngines_veil : closedEngines (s.veil wide) = closedEngines s := by
  funext d
  simp [closedEngines]

@[simp] theorem engineLead_veil {n : Nat} : engineLead (s.veil wide) n = engineLead s n := by simp [engineLead]
@[simp] theorem enginePair_veil {n : Nat} : enginePair (s.veil wide) n = enginePair s n := by simp [enginePair]

@[simp] theorem impAccs_veil : impAccs (s.veil wide) = impAccs s := by
  funext n
  simp [impAccs]

@[simp] theorem impUnclaim_veil {n : Nat} : impUnclaim (s.veil wide) n = (impUnclaim s n).veil wide := by
  simp only [impUnclaim, enginePair_veil, impAccs_veil]
  exact State.each_veil fun u a => by simp

@[simp] theorem pointRuns_veil : pointRuns (s.veil wide) = pointRuns s := by
  funext q
  simp [pointRuns]

@[simp] theorem sweepsOn_veil {c : Nat} : sweepsOn (s.veil wide) c = sweepsOn s c := by simp [sweepsOn]
@[simp] theorem impDisturb_veil {c : Nat} : impDisturb (s.veil wide) c = (impDisturb s c).veil wide := by simp [impDisturb]

/-! ### Charge engines as class actions need them (R232) -/

@[simp] theorem nStates_veil {a : Nat} : nStates (s.veil wide) a = nStates s a := by simp [nStates]
@[simp] theorem exitWord_veil {a st e : Nat} : exitWord (s.veil wide) a st e = exitWord s a st e := by simp [exitWord]
@[simp] theorem exitValid_veil {a w : Nat} : exitValid (s.veil wide) a w = exitValid s a w := by simp [exitValid]

@[simp] theorem profileValid_veil : profileValid (s.veil wide) = profileValid s := by
  funext a
  simp [profileValid]

@[simp] theorem engineBank_veil {n : Nat} : engineBank (s.veil wide) n = engineBank s n := by simp [engineBank]
@[simp] theorem profileOf_veil {n : Nat} : profileOf (s.veil wide) n = profileOf s n := by simp [profileOf]
@[simp] theorem stMode_veil {a st : Nat} : stMode (s.veil wide) a st = stMode s a st := by simp [stMode]
@[simp] theorem stDv_veil {a st : Nat} : stDv (s.veil wide) a st = stDv s a st := by simp [stDv]
@[simp] theorem stKind_veil {a st : Nat} : stKind (s.veil wide) a st = stKind s a st := by simp [stKind]
@[simp] theorem stLamp_veil {a st : Nat} : stLamp (s.veil wide) a st = stLamp s a st := by simp [stLamp]
@[simp] theorem hasState_veil {n : Nat} : hasState (s.veil wide) n = hasState s n := by simp [hasState]
@[simp] theorem impStop_veil {n : Nat} : impStop (s.veil wide) n = (impStop s n).veil wide := by simp [impStop]
@[simp] theorem pointsClear_veil {n : Nat} : pointsClear (s.veil wide) n = (pointsClear s n).veil wide := by simp [pointsClear]

@[simp] theorem rearm_veil {n : Nat} : rearm (s.veil wide) n = (rearm s n).veil wide := by
  cases h : profileOf s n <;> simp [rearm, h]

@[simp] theorem impAbort_veil {n : Nat} : impAbort (s.veil wide) n = (impAbort s n).veil wide := by simp [impAbort]
@[simp] theorem impState_veil {n : Nat} : impState (s.veil wide) n = (impState s n).veil wide := by simp [impState]

@[simp] theorem showState_veil {n a st : Nat} :
    showState (s.veil wide) n a st = (showState s n a st).veil wide := by simp [showState]

@[simp] theorem lastPut_veil {n cause ex next : Nat} :
    lastPut (s.veil wide) n cause ex next = (lastPut s n cause ex next).veil wide := by simp [lastPut]

@[simp] theorem zeroState_veil {n : Nat} : zeroState (s.veil wide) n = (zeroState s n).veil wide := by simp [zeroState]

@[simp] theorem stateEnter_veil {n a st cause ex : Nat} :
    stateEnter (s.veil wide) n a st cause ex = (stateEnter s n a st cause ex).veil wide := by simp [stateEnter]

@[simp] theorem timeoutEnter_veil {n : Nat} : timeoutEnter (s.veil wide) n = (timeoutEnter s n).veil wide := by
  cases h : profileOf s n <;> simp [timeoutEnter, h]

@[simp] theorem chgZero_veil {n : Nat} : chgZero (s.veil wide) n = (chgZero s n).veil wide := by
  cases h : profileOf s ((engineLead s n).getD n) <;> simp [chgZero, h]

end Sys2Proof.Machine
end

section
/-! SUPPORT. Under the veil, in the order of the model: fault reaction, tags, and the ports.
What reads the state reads the same, what changes it changes it alike. -/

namespace Sys2Proof.Machine

variable {s : State} {wide : Bool}

/-! ### Charge engines as class actions need them (R232) -/

@[simp] theorem stringOpen_veil {n : Nat} : stringOpen (s.veil wide) n = (stringOpen s n).veil wide := by simp [stringOpen]

/-! ### Sensors, zones and levels (chapter 15) -/

@[simp] theorem thKept_veil {k : Nat} : thKept (s.veil wide) k = thKept s k := by simp [thKept]
@[simp] theorem sensorLevel_veil {k : Nat} : sensorLevel (s.veil wide) k = sensorLevel s k := by simp [sensorLevel]
@[simp] theorem zoneSensors_veil {z : Nat} : zoneSensors (s.veil wide) z = zoneSensors s z := by simp [zoneSensors]
@[simp] theorem zoneLevel_veil {z : Nat} : zoneLevel (s.veil wide) z = zoneLevel s z := by simp [zoneLevel]
@[simp] theorem zoneEvt_veil {z i : Nat} : zoneEvt (s.veil wide) z i = (zoneEvt s z i).veil wide := by simp [zoneEvt]
@[simp] theorem thermalActed_veil : thermalActed (s.veil wide) = thermalActed s := by simp [thermalActed]
@[simp] theorem zoneReview_veil {z : Nat} : zoneReview (s.veil wide) z = (zoneReview s z).veil wide := by simp [zoneReview]
@[simp] theorem dieAction_veil : dieAction (s.veil wide) = (dieAction s).veil wide := by simp [dieAction]

/-! ### Fault reaction (chapter 16) -/

@[simp] theorem actionEffect_veil {p n i : Nat} {esc : Bool} :
    actionEffect (s.veil wide) p n i esc = (actionEffect s p n i esc).veil wide := by
  unfold actionEffect
  split <;> simp

@[simp] theorem takeAction_veil {p n : Nat} : takeAction (s.veil wide) p n = (takeAction s p n).veil wide := by simp [takeAction]
@[simp] theorem raiseActs_veil {c : Cause} {n : Nat} : raiseActs (s.veil wide) c n = raiseActs s c n := by simp [raiseActs]
@[simp] theorem raiseFault_veil {c : Cause} : raiseFault (s.veil wide) c = (raiseFault s c).veil wide := by simp [raiseFault]
@[simp] theorem raiseEvent_veil {p i : Nat} : raiseEvent (s.veil wide) p i = (raiseEvent s p i).veil wide := by simp [raiseEvent]
@[simp] theorem raiseHeld_veil {p i : Nat} : raiseHeld (s.veil wide) p i = (raiseHeld s p i).veil wide := by simp [raiseHeld]
@[simp] theorem applyClass_veil {p n : Nat} : applyClass (s.veil wide) p n = (applyClass s p n).veil wide := by simp [applyClass]
@[simp] theorem ackClass_veil {p n : Nat} : ackClass (s.veil wide) p n = (ackClass s p n).veil wide := by simp [ackClass]
@[simp] theorem dutyPossible_veil {c : Nat} : dutyPossible (s.veil wide) c = dutyPossible s c := by simp [dutyPossible]
@[simp] theorem dutyReview_veil {c : Nat} : dutyReview (s.veil wide) c = (dutyReview s c).veil wide := by simp [dutyReview]

@[simp] theorem faultAckWrite_veil {k : Bool} {p w : Nat} :
    faultAckWrite (s.veil false) k p w = veilFst false (faultAckWrite s k p w) := by simp [faultAckWrite]

@[simp] theorem timerExpires_veil {p n : Nat} :
    timerExpires (s.veil wide) p n = (timerExpires s p n).veil wide := by simp [timerExpires]

/-! ### Tags and the check of a word (R346 to R358) -/

@[simp] theorem retDouble_veil {w : Nat} : retDouble (s.veil wide) w = retDouble s w := by simp [retDouble]
@[simp] theorem shadowMend_veil {w : Nat} : shadowMend (s.veil wide) w = (shadowMend s w).veil wide := by simp [shadowMend]

@[simp] theorem eccRead_veil {w : Nat} : eccRead (s.veil wide) w = (eccRead s w).veil wide := by
  match h : eccState s w with
  | 0 | 1 | _ + 2 => simp [eccRead, h]

@[simp] theorem blockRead_veil {a len : Nat} : blockRead (s.veil wide) a len = (blockRead s a len).veil wide := by simp [blockRead]

/-! ### The FET model of a port (R274) -/

@[simp] theorem maintEnd_veil {result : Nat} : maintEnd (s.veil wide) result = (maintEnd s result).veil wide := by simp [maintEnd]
@[simp] theorem restoreFails_veil : restoreFails (s.veil wide) = (restoreFails s).veil wide := by simp [restoreFails]

@[simp] theorem convMark_veil {x : Nat} {out : Bool} :
    convMark (s.veil wide) x out = (convMark s x out).veil wide := by simp [convMark]

@[simp] theorem fetValid_veil : fetValid (s.veil wide) = fetValid s := by
  funext a
  simp [fetValid]

@[simp] theorem fetFields_veil {a : Nat} : fetFields (s.veil wide) a = fetFields s a := by simp [fetFields]
@[simp] theorem fetTable_veil {n : Nat} : fetTable (s.veil wide) n = fetTable s n := by simp [fetTable]

@[simp] theorem fetLoad_veil {n : Nat} : fetLoad (s.veil wide) n = (fetLoad s n).veil wide := by
  cases h : fetTable s n <;> simp [fetLoad, h]

/-! ### Port islands (chapter 11) -/

@[simp] theorem portStalled_veil {n : Nat} : portStalled (s.veil wide) n = portStalled s n := by simp [portStalled]
@[simp] theorem isShed_veil {n : Nat} : isShed (s.veil wide) n = isShed s n := by simp [isShed]
@[simp] theorem portFree_veil {n : Nat} : portFree (s.veil wide) n = portFree s n := by simp [portFree]
@[simp] theorem chargePermitted_veil {n : Nat} : chargePermitted (s.veil wide) n = chargePermitted s n := by simp [chargePermitted]
@[simp] theorem portReady_veil {n : Nat} : portReady (s.veil wide) n = portReady s n := by simp [portReady]
@[simp] theorem preVolts_veil {n : Nat} : preVolts (s.veil wide) n = preVolts s n := by simp [preVolts]
@[simp] theorem preNeeded_veil {n : Nat} : preNeeded (s.veil wide) n = preNeeded s n := by simp [preNeeded]
@[simp] theorem antLead_veil {n : Nat} : antLead (s.veil wide) n = antLead s n := by simp [antLead]
@[simp] theorem insLeft_veil {n : Nat} : insLeft (s.veil wide) n = insLeft s n := by simp [insLeft]

@[simp] theorem sendMain_veil {n start : Nat} :
    sendMain (s.veil wide) n start = (sendMain s n start).veil wide := by simp [sendMain]

@[simp] theorem schedule_veil {n : Nat} : schedule (s.veil wide) n = (schedule s n).veil wide := by simp [schedule]
@[simp] theorem startPre_veil {n : Nat} : startPre (s.veil wide) n = (startPre s n).veil wide := by simp [startPre]
@[simp] theorem startEnhance_veil {n : Nat} : startEnhance (s.veil wide) n = (startEnhance s n).veil wide := by simp [startEnhance]

@[simp] theorem feederReview_veil {n : Nat} : feederReview (s.veil wide) n = (feederReview s n).veil wide := by
  simp [feederReview]
  split <;> rfl

@[simp] theorem pairReview_veil {n : Nat} : pairReview (s.veil wide) n = (pairReview s n).veil wide := by
  simp [pairReview]
  split <;> rfl

@[simp] theorem portReview_veil {n : Nat} : portReview (s.veil wide) n = (portReview s n).veil wide := by
  simp [portReview]
  split
  · rfl
  · split <;> rfl

@[simp] theorem insRestart_veil {n : Nat} : insRestart (s.veil wide) n = (insRestart s n).veil wide := by simp [insRestart]

@[simp] theorem feederTurnOff_veil {n : Nat} :
    feederTurnOff (s.veil wide) n = (feederTurnOff s n).veil wide := by simp [feederTurnOff]

@[simp] theorem portTurnOff_veil {n : Nat} : portTurnOff (s.veil wide) n = (portTurnOff s n).veil wide := by simp [portTurnOff]
@[simp] theorem latchEnd_veil {n : Nat} : latchEnd (s.veil wide) n = (latchEnd s n).veil wide := by simp [latchEnd]
@[simp] theorem enableSeen_veil {n : Nat} : enableSeen (s.veil wide) n = (enableSeen s n).veil wide := by simp [enableSeen]
@[simp] theorem disableSeen_veil {n : Nat} : disableSeen (s.veil wide) n = (disableSeen s n).veil wide := by simp [disableSeen]

@[simp] theorem storeKind_veil {w : Nat} {l : Layout} (h : l.Open wide) {krw : Bool} :
    storeKind (s.veil wide) w l krw = (storeKind s w l krw).veil wide := by
  refine State.each_veil_mem fun u q hq => ?_
  simp [h q hq]

@[simp] theorem portRegWrite_veil {k : Bool} {p off w : Nat} :
    portRegWrite (s.veil false) k p off w = (portRegWrite s k p off w).veil false := by
  have hheld : (s.veil false).flag (Port.HELD (p - 0x30)) = s.flag (Port.HELD (p - 0x30)) := by simp
  have hlock : (s.veil false).flag (PAGE_LOCK.CFG p) = s.flag (PAGE_LOCK.CFG p) := by simp
  simp only [portRegWrite, hheld, hlock]
  split
  · split <;> simp
  · rfl

@[simp] theorem enChanged_veil {n : Nat} {was : Bool} :
    enChanged (s.veil wide) n was = (enChanged s n was).veil wide := by simp [enChanged]

@[simp] theorem portCtlWrite_veil {k : Bool} {n : Nat} {w : Nat} :
    portCtlWrite (s.veil false) k n w = veilFst false (portCtlWrite s k n w) := by simp [portCtlWrite]

@[simp] theorem modelKeep_veil {n : Nat} : modelKeep (s.veil wide) n = (modelKeep s n).veil wide := by simp [modelKeep]

@[simp] theorem portTmWrite_veil {k : Bool} {n : Nat} {w : Nat} :
    portTmWrite (s.veil false) k n w = veilFst false (portTmWrite s k n w) := by simp [portTmWrite]

@[simp] theorem portResume_veil {n : Nat} : portResume (s.veil wide) n = (portResume s n).veil wide := by
  simp [portResume]
  split
  · rfl
  · split <;> simp

/-! ### USB Power Delivery ports (chapter 12) -/

@[simp] theorem pdActs_veil {c : Nat} : pdActs (s.veil wide) c = pdActs s c := by simp [pdActs]
@[simp] theorem pdAttached_veil {c : Nat} : pdAttached (s.veil wide) c = pdAttached s c := by simp [pdAttached]
@[simp] theorem pdRequest_veil {c : Nat} : pdRequest (s.veil wide) c = (pdRequest s c).veil wide := by simp [pdRequest]

@[simp] theorem pdWantsDuty_veil {c ref : Nat} :
    pdWantsDuty (s.veil wide) c ref = (pdWantsDuty s c ref).veil wide := by simp [pdWantsDuty]

@[simp] theorem frsReview_veil {c : Nat} : frsReview (s.veil wide) c = (frsReview s c).veil wide := by simp [frsReview]

end Sys2Proof.Machine
end

section
/-! SUPPORT. Under the veil, in the order of the model: Power Delivery, accumulators, and the phases.
What reads the state reads the same, what changes it changes it alike. -/

namespace Sys2Proof.Machine

variable {s : State} {wide : Bool}

/-! ### USB Power Delivery ports (chapter 12) -/

@[simp] theorem pdMaySource_veil {c : Nat} : pdMaySource (s.veil wide) c = pdMaySource s c := by simp [pdMaySource]

@[simp] theorem pdVconn_veil {c : Nat} {swap : Bool} :
    pdVconn (s.veil wide) c swap = (pdVconn s c swap).veil wide := by simp [pdVconn]

@[simp] theorem msgIdsClear_veil {c : Nat} : msgIdsClear (s.veil wide) c = (msgIdsClear s c).veil wide := by simp [msgIdsClear]
@[simp] theorem pdTimersOff_veil {c : Nat} : pdTimersOff (s.veil wide) c = (pdTimersOff s c).veil wide := by simp [pdTimersOff]
@[simp] theorem pdDetach_veil {c : Fin 4} : pdDetach (s.veil wide) c = (pdDetach s c).veil wide := by simp [pdDetach]
@[simp] theorem pdWait_veil {c : Nat} : pdWait (s.veil wide) c = (pdWait s c).veil wide := by simp [pdWait]
@[simp] theorem pdTransition_veil {c : Nat} : pdTransition (s.veil wide) c = (pdTransition s c).veil wide := by simp [pdTransition]

@[simp] theorem vbusWrite_veil {k : Bool} {c : Fin 4} {w : Nat} :
    vbusWrite (s.veil false) k c w = veilFst false (vbusWrite s k c w) :=
  specialRes_veil regLayout_open fun u v => by simp

@[simp] theorem transWrite_veil {k : Bool} {c : Fin 4} {w : Nat} :
    transWrite (s.veil false) k c w = veilFst false (transWrite s k c w) := by simp [transWrite]

@[simp] theorem txAppend_veil {c : Fin 4} {w : Nat} : txAppend (s.veil wide) c w = (txAppend s c w).veil wide := by simp [txAppend]
@[simp] theorem txGo_veil {c : Fin 4} : txGo (s.veil wide) c = (txGo s c).veil wide := by simp [txGo]

@[simp] theorem txWrite_veil {k : Bool} {c : Fin 4} {w : Nat} :
    txWrite (s.veil false) k c w = veilFst false (txWrite s k c w) := by simp [txWrite]

@[simp] theorem pdHrSource_veil {c : Nat} : pdHrSource (s.veil wide) c = (pdHrSource s c).veil wide := by simp [pdHrSource]

@[simp] theorem pdAbandon_veil {c : Nat} {received : Bool} :
    pdAbandon (s.veil wide) c received = (pdAbandon s c received).veil wide := by simp [pdAbandon]

@[simp] theorem pdHardReset_veil {c : Nat} {received : Bool} :
    pdHardReset (s.veil wide) c received = (pdHardReset s c received).veil wide := by simp [pdHardReset]

@[simp] theorem pdSignal_veil {c op : Nat} : pdSignal (s.veil wide) c op = (pdSignal s c op).veil wide := by
  simp [pdSignal]
  split
  · rfl
  · split <;> simp

@[simp] theorem sigWrite_veil {k : Bool} {c : Fin 4} {w : Nat} :
    sigWrite (s.veil false) k c w = veilFst false (sigWrite s k c w) := by simp [sigWrite]

@[simp] theorem pdTimerWrite_veil {k : Bool} {c : Fin 4} {t : Fin 8} {w : Nat} :
    pdTimerWrite (s.veil false) k c t w = veilFst false (pdTimerWrite s k c t w) :=
  specialWrite_veil regLayout_open fun u v => by simp

@[simp] theorem pdConducts_veil {c : Nat} : pdConducts (s.veil wide) c = pdConducts s c := by simp [pdConducts]
@[simp] theorem pdEnOff_veil {c : Fin 4} : pdEnOff (s.veil wide) c = (pdEnOff s c).veil wide := by simp [pdEnOff]
@[simp] theorem pdEnOn_veil {c : Fin 4} : pdEnOn (s.veil wide) c = (pdEnOn s c).veil wide := by simp [pdEnOn]

@[simp] theorem pdpCtlStore_veil {c : Fin 4} {w' : Nat} :
    pdpCtlStore (s.veil false) c w' = (pdpCtlStore s c w').veil false := by simp [pdpCtlStore]

@[simp] theorem pdpCtlWrite_veil {k : Bool} {c : Fin 4} {w : Nat} :
    pdpCtlWrite (s.veil false) k c w = veilFst false (pdpCtlWrite s k c w) := by simp [pdpCtlWrite]

/-! ### Accumulators and trackers (R326 to R333) -/

@[simp] theorem accSum_veil {a : Nat} : accSum (s.veil wide) a = accSum s a := by simp [accSum]
@[simp] theorem accCnt_veil {a : Nat} : accCnt (s.veil wide) a = accCnt s a := by simp [accCnt]
@[simp] theorem accClear_veil {a : Nat} : accClear (s.veil wide) a = (accClear s a).veil wide := by simp [accClear]

@[simp] theorem mmtClear_veil {t : Nat} (ht : t < 0x1000) : mmtClear (s.veil wide) t = (mmtClear s t).veil wide := by
  have hmax : (MMT_MAX.VALUE t).veiled wide = false := Fld.veiled_of_ne (by decide) (by omega) (by omega)
  simp [mmtClear, hmax]

/-- The fields of an open layout are compared with a written word alike under the veil. -/
theorem Layout.Open.any_veil {l : Layout} (h : l.Open wide) {g : Fld × Ty → Bool} {w : Nat} :
    l.any (fun q => g q && fieldOf w q.1 != (s.veil wide).get q.1) = l.any (fun q => g q && fieldOf w q.1 != s.get q.1) := by
  rw [Bool.eq_iff_iff, List.any_eq_true, List.any_eq_true]
  refine exists_congr fun q => and_congr_right fun hq => ?_
  rw [State.get_veil_of (h q hq)]

@[simp] theorem accCfgWrite_veil {k : Bool} {a w : Nat} :
    accCfgWrite (s.veil false) k a w = veilFst false (accCfgWrite s k a w) := by
  have hclaim : (s.veil false).get (Acc.CLAIM a) = s.get (Acc.CLAIM a) := by simp
  simp only [accCfgWrite, regLayout_open.any_veil, hclaim]
  split
  · simp
  · exact specialWrite_veil regLayout_open fun u v => by simp [regLayout_open.filter]

@[simp] theorem mmtCfgWrite_veil {k : Bool} {t w : Nat} (ht : t < 0x1000) :
    mmtCfgWrite (s.veil false) k t w = veilFst false (mmtCfgWrite s k t w) :=
  specialWrite_veil regLayout_open fun u v => by simp [regLayout_open.filter, ht]

/-! ### Phase islands (chapter 6) -/

@[simp] theorem markComb_veil {c : Nat} : markComb (s.veil wide) c = markComb s c := by simp [markComb]
@[simp] theorem slowest_veil : slowest (s.veil wide) = slowest s := by simp [slowest]
@[simp] theorem phPeriod_veil {p : Nat} : phPeriod (s.veil wide) p = phPeriod s p := by simp [phPeriod]
@[simp] theorem phTarget_veil {p : Nat} : phTarget (s.veil wide) p = phTarget s p := by simp [phTarget]

@[simp] theorem bounds_veil {c : Nat} : bounds (s.veil wide) c = bounds s c := by
  funext r
  simp [bounds]

@[simp] theorem setTarget_veil {c : Fin 4} {k : Nat} : setTarget (s.veil wide) c k = setTarget s c k := by simp [setTarget]

@[simp] theorem ilvWrite_veil {k : Bool} {p : Fin 16} {w : Nat} :
    ilvWrite (s.veil false) k p w = veilFst false (ilvWrite s k p w) :=
  specialWrite_veil regLayout_open fun u v => by simp

@[simp] theorem recause_veil {p : Fin 16} : recause (s.veil wide) p = (recause s p).veil wide := by simp [recause]
@[simp] theorem runSet_veil {p : Fin 16} : runSet (s.veil wide) p = (runSet s p).veil wide := by simp [runSet]

@[simp] theorem runClear_veil {p : Fin 16} : runClear (s.veil wide) p = (runClear s p).veil wide := by
  simp [runClear]
  split
  · rfl
  · split <;> rfl

@[simp] theorem phCtlWrite_veil {k : Bool} {p : Fin 16} {w : Nat} :
    phCtlWrite (s.veil false) k p w = veilFst false (phCtlWrite s k p w) := by simp [phCtlWrite]

@[simp] theorem tbPerWrite_veil {k : Bool} {p : Fin 16} {w : Nat} :
    tbPerWrite (s.veil false) k p w = veilFst false (tbPerWrite s k p w) := by simp [tbPerWrite]

/-! ### The Forager (chapter 7) -/

@[simp] theorem ownDepth_veil {c : Nat} : ownDepth (s.veil wide) c = ownDepth s c := by simp [ownDepth]
@[simp] theorem depthOf_veil {c : Nat} : depthOf (s.veil wide) c = depthOf s c := by simp [depthOf]

@[simp] theorem poolPhases_veil : poolPhases (s.veil wide) = poolPhases s := by
  funext d
  simp [poolPhases]

@[simp] theorem inHeadroom_veil {c : Fin 4} {x : Nat} {amp : Int} {k : Nat} :
    inHeadroom (s.veil wide) c x amp k = inHeadroom s c x amp k := by simp [inHeadroom]

@[simp] theorem biasSteps_veil {c : Fin 4} {r : Queued} {k : Nat} :
    biasSteps (s.veil wide) c r k = biasSteps s c r k := by simp [biasSteps]

@[simp] theorem recShare_veil {c : Fin 4} {r : Queued} {k : Nat} :
    recShare (s.veil wide) c r k = recShare s c r k := by simp [recShare]

@[simp] theorem preBias_veil {c : Fin 4} {bus : Bool} {n k : Nat} :
    preBias (s.veil wide) c bus n k = preBias s c bus n k := by simp [preBias]

@[simp] theorem drainSlew_veil {c : Nat} : drainSlew (s.veil wide) c = drainSlew s c := by simp [drainSlew]
@[simp] theorem ramps_veil {p : Nat} : ramps (s.veil wide) p = ramps s p := by simp [ramps]
@[simp] theorem rampAt_veil {p k : Nat} {e : Int} : rampAt (s.veil wide) p k e = rampAt s p k e := by simp [rampAt]
@[simp] theorem setPool_veil {c : Nat} : setPool (s.veil wide) c = setPool s c := by simp [setPool]
@[simp] theorem aheadTarget_veil {c k : Nat} : aheadTarget (s.veil wide) c k = aheadTarget s c k := by simp [aheadTarget]
@[simp] theorem equalShare_veil {c k : Nat} : equalShare (s.veil wide) c k = equalShare s c k := by simp [equalShare]
@[simp] theorem aheadGoal_veil {c : Fin 4} {p k : Nat} : aheadGoal (s.veil wide) c p k = aheadGoal s c p k := by simp [aheadGoal]
@[simp] theorem heldShare_veil {p : Nat} : heldShare (s.veil wide) p = heldShare s p := by simp [heldShare]

end Sys2Proof.Machine
end

section
/-! SUPPORT. Under the veil, in the order of the model: the Forager and the power path.
What reads the state reads the same, what changes it changes it alike. -/

namespace Sys2Proof.Machine

variable {s : State} {wide : Bool}

/-! ### The Forager (chapter 7) -/

@[simp] theorem withdrawBeyond_veil {c : Nat} :
    withdrawBeyond (s.veil wide) c = (withdrawBeyond s c).veil wide := by simp [withdrawBeyond]

@[simp] theorem firstAffected_veil {c : Fin 4} {w u0 : Nat} {p : Fin 16} :
    firstAffected (s.veil wide) c w u0 p = firstAffected s c w u0 p := by simp [firstAffected]

@[simp] theorem lateIn_veil {c : Fin 4} {w u0 : Nat} {p : Fin 16} :
    lateIn (s.veil wide) c w u0 p = lateIn s c w u0 p := by simp [lateIn]

@[simp] theorem replanFrom_veil {c : Fin 4} {w u0 : Nat} {p : Fin 16} :
    replanFrom (s.veil wide) c w u0 p = (replanFrom s c w u0 p).veil wide := by simp [replanFrom]

@[simp] theorem enqueue_veil {c : Fin 4} {w : Nat} : enqueue (s.veil wide) c w = (enqueue s c w).veil wide := by simp [enqueue]

@[simp] theorem postRecord_veil {c : Fin 4} {w : Nat} :
    postRecord (s.veil wide) c w = (postRecord s c w).veil wide := by simp [postRecord]

@[simp] theorem hostPost_veil {c : Fin 4} {w : Nat} : hostPost (s.veil wide) c w = (hostPost s c w).veil wide := by simp [hostPost]
@[simp] theorem dropPlanned_veil {c : Nat} : dropPlanned (s.veil wide) c = (dropPlanned s c).veil wide := by simp [dropPlanned]
@[simp] theorem stagedPeriods_veil {d : Nat} : stagedPeriods (s.veil wide) d = stagedPeriods s d := by simp [stagedPeriods]

@[simp] theorem markWrite_veil {k : Bool} {c : Fin 4} {w : Nat} :
    markWrite (s.veil false) k c w = veilFst false (markWrite s k c w) :=
  specialWrite_veil regLayout_open fun u v => by simp

@[simp] theorem modelCheck_veil {c : Fin 4} : modelCheck (s.veil wide) c = (modelCheck s c).veil wide := by
  cases h : (modelTable s c).filter (modelValid s c) <;> simp [modelCheck, h]

@[simp] theorem planCtlWrite_veil {k : Bool} {c : Fin 4} {w : Nat} :
    planCtlWrite (s.veil false) k c w = veilFst false (planCtlWrite s k c w) := by simp [planCtlWrite]

@[simp] theorem cmbCtlWrite_veil {k : Bool} {c : Fin 4} {w : Nat} :
    cmbCtlWrite (s.veil false) k c w = veilFst false (cmbCtlWrite s k c w) := by simp [cmbCtlWrite]

@[simp] theorem gangAsked_veil {c : Nat} : gangAsked (s.veil wide) c = gangAsked s c := by simp [gangAsked]

@[simp] theorem gangWrite_veil {k : Bool} {c : Fin 4} {w : Nat} :
    gangWrite (s.veil false) k c w = veilFst false (gangWrite s k c w) :=
  specialWrite_veil regLayout_open fun u v => by simp

/-! ### The power-path arbiter (chapter 8) -/

@[simp] theorem ppEvt_veil {c i : Nat} : ppEvt (s.veil wide) c i = (ppEvt s c i).veil wide := by simp [ppEvt]
@[simp] theorem arbRuns_veil {c : Nat} : arbRuns (s.veil wide) c = arbRuns s c := by simp [arbRuns]
@[simp] theorem iSrc_veil {c : Nat} : iSrc (s.veil wide) c = iSrc s c := by simp [iSrc]
@[simp] theorem iFdr_veil {c : Nat} : iFdr (s.veil wide) c = iFdr s c := by simp [iFdr]
@[simp] theorem sourceOn_veil {c : Nat} : sourceOn (s.veil wide) c = sourceOn s c := by simp [sourceOn]
@[simp] theorem sourceBudget_veil {c m : Nat} : sourceBudget (s.veil wide) c m = sourceBudget s c m := by simp [sourceBudget]
@[simp] theorem drawTarget_veil {c : Nat} : drawTarget (s.veil wide) c = drawTarget s c := by simp [drawTarget]
@[simp] theorem slew_veil {c : Nat} : slew (s.veil wide) c = slew s c := by simp [slew]

@[simp] theorem budgetSegment_veil {c : Nat} :
    budgetSegment (s.veil wide) c = (budgetSegment s c).veil wide := by simp [budgetSegment]

@[simp] theorem rampStart_veil {c new : Nat} : rampStart (s.veil wide) c new = (rampStart s c new).veil wide := by simp [rampStart]
@[simp] theorem limitCut_veil {c : Nat} : limitCut (s.veil wide) c = (limitCut s c).veil wide := by simp [limitCut]

@[simp] theorem budgetWriteReg_veil {k : Bool} {c : Fin 4} {which w : Nat} :
    budgetWriteReg (s.veil false) k c which w = veilFst false (budgetWriteReg s k c which w) := by
  match which with
  | 0 | 1 | _ + 2 =>
    simp only [budgetWriteReg]
    exact specialRes_veil regLayout_open fun u v => by simp

@[simp] theorem pdCutTo_veil {c v : Nat} : pdCutTo (s.veil wide) c v = (pdCutTo s c v).veil wide := by simp [pdCutTo]
@[simp] theorem pdBudget_veil {c : Nat} : pdBudget (s.veil wide) c = pdBudget s c := by simp [pdBudget]

@[simp] theorem pdBudgetWrite_veil {k : Bool} {c : Fin 4} {w : Nat} :
    pdBudgetWrite (s.veil false) k c w = veilFst false (pdBudgetWrite s k c w) :=
  specialRes_veil regLayout_open fun u v => by simp

@[simp] theorem qualified_veil {c m : Nat} : qualified (s.veil wide) c m = qualified s c m := by simp [qualified]
@[simp] theorem pickSource_veil {c : Nat} : pickSource (s.veil wide) c = pickSource s c := by simp [pickSource]

@[simp] theorem planChangeover_veil {c : Nat} :
    planChangeover (s.veil wide) c = (planChangeover s c).veil wide := by simp [planChangeover]

@[simp] theorem selectsAway_veil {c : Nat} : selectsAway (s.veil wide) c = selectsAway s c := by simp [selectsAway]

@[simp] theorem ppCtlWrite_veil {k : Bool} {c : Fin 4} {w : Nat} :
    ppCtlWrite (s.veil false) k c w = veilFst false (ppCtlWrite s k c w) := by simp [ppCtlWrite]

@[simp] theorem shedStatWrite_veil {k : Bool} {c : Fin 4} {w : Nat} :
    shedStatWrite (s.veil false) k c w = veilFst false (shedStatWrite s k c w) := by simp [shedStatWrite]

/-! ### Housekeeping conversion (chapter 13) -/

@[simp] theorem inputAbsent_veil {i : Nat} : inputAbsent (s.veil wide) i = inputAbsent s i := by simp [inputAbsent]
@[simp] theorem laneRef_veil {m : Nat} : laneRef (s.veil wide) m = laneRef s m := by simp [laneRef]
@[simp] theorem chRef_veil {i : Nat} : chRef (s.veil wide) i = chRef s i := by simp [chRef]
@[simp] theorem laneFits_veil {m i : Nat} : laneFits (s.veil wide) m i = laneFits s m i := by simp [laneFits]
@[simp] theorem laneFree_veil {m : Nat} : laneFree (s.veil wide) m = laneFree s m := by simp [laneFree]
@[simp] theorem testState_veil {i : Nat} : testState (s.veil wide) i = testState s i := by simp [testState]

@[simp] theorem convStart_veil {m i kind who : Nat} :
    convStart (s.veil wide) m i kind who = (convStart s m i kind who).veil wide := by simp [convStart]

@[simp] theorem refSwitch_veil {k r : Nat} : refSwitch (s.veil wide) k r = (refSwitch s k r).veil wide := by simp [refSwitch]
@[simp] theorem refReview_veil : refReview (s.veil wide) = (refReview s).veil wide := by simp [refReview]

@[simp] theorem laneRefWriteReg_veil {k : Bool} {w : Nat} :
    laneRefWriteReg (s.veil false) k w = veilFst false (laneRefWriteReg s k w) := by simp [laneRefWriteReg]

end Sys2Proof.Machine
end

section
/-! SUPPORT. Under the veil, in the order of the model: housekeeping, slots and the charge engines.
What reads the state reads the same, what changes it changes it alike. -/

namespace Sys2Proof.Machine

variable {s : State} {wide : Bool}

/-! ### Housekeeping conversion (chapter 13) -/

@[simp] theorem strict_veil : strict (s.veil wide) = strict s := by simp [strict]
@[simp] theorem urgentBusy_veil {who : Nat} : urgentBusy (s.veil wide) who = urgentBusy s who := by simp [urgentBusy]
@[simp] theorem urgentDrop_veil {who : Nat} : urgentDrop (s.veil wide) who = (urgentDrop s who).veil wide := by simp [urgentDrop]
@[simp] theorem impPair_veil {n : Nat} : impPair (s.veil wide) n = (impPair s n).veil wide := by simp [impPair]
@[simp] theorem pairsFirst_veil : pairsFirst (s.veil wide) = (pairsFirst s).veil wide := by simp [pairsFirst]

@[simp] theorem urgentRequest_veil {who i : Nat} : urgentRequest (s.veil wide) who i = (urgentRequest s who i).veil wide := by
  simp [urgentRequest]
  repeat' split
  all_goals rfl

@[simp] theorem urgentWrite_veil {k : Bool} {w : Nat} : urgentWrite (s.veil false) k w = veilFst false (urgentWrite s k w) :=
  specialWrite_veil regLayout_open fun u v => by simp

@[simp] theorem seqSteps_veil {a q : Nat} : seqSteps (s.veil wide) a q = seqSteps s a q := by simp [seqSteps]
@[simp] theorem seqLane_veil {a q j m : Nat} : seqLane (s.veil wide) a q j m = seqLane s a q j m := by simp [seqLane]

@[simp] theorem seqValid_veil : seqValid (s.veil wide) = seqValid s := by
  funext a
  simp [seqValid]

@[simp] theorem seqTable_veil : seqTable (s.veil wide) = seqTable s := by simp [seqTable]

@[simp] theorem seqReview_veil : seqReview (s.veil wide) = (seqReview s).veil wide := by
  cases h : seqTable s <;> simp [seqReview, h]

@[simp] theorem hksCtlWrite_veil {k : Bool} {w : Nat} :
    hksCtlWrite (s.veil false) k w = veilFst false (hksCtlWrite s k w) := by simp [hksCtlWrite]

@[simp] theorem trigDrop_veil : trigDrop (s.veil wide) = (trigDrop s).veil wide := by simp [trigDrop]
@[simp] theorem seqDue_veil {q : Nat} : seqDue (s.veil wide) q = (seqDue s q).veil wide := by simp [seqDue]
@[simp] theorem seqTrigger_veil {q : Nat} : seqTrigger (s.veil wide) q = (seqTrigger s q).veil wide := by simp [seqTrigger]

@[simp] theorem swTrigWrite_veil {k : Bool} {w : Nat} :
    swTrigWrite (s.veil false) k w = veilFst false (swTrigWrite s k w) := by simp [swTrigWrite]

@[simp] theorem calConvert_veil {x : Nat} : calConvert (s.veil wide) x = (calConvert s x).veil wide := by simp [calConvert]
@[simp] theorem calLane_veil {m : Nat} : calLane (s.veil wide) m = (calLane s m).veil wide := by simp [calLane]
@[simp] theorem calEnd_veil : calEnd (s.veil wide) = (calEnd s).veil wide := by simp [calEnd]

@[simp] theorem calGo_veil {target : Nat} : calGo (s.veil wide) target = (calGo s target).veil wide := by
  cases h : (List.range 4).find? (fun m => laneConv s m == target) <;> simp [calGo, h]

@[simp] theorem hksCalWrite_veil {k : Bool} {w : Nat} : hksCalWrite (s.veil false) k w = veilFst false (hksCalWrite s k w) :=
  specialWrite_veil regLayout_open fun u v => by simp [regLayout_open.filter]

@[simp] theorem testDiscard_veil {i : Nat} : testDiscard (s.veil wide) i = (testDiscard s i).veil wide := by simp [testDiscard]

@[simp] theorem tdacWriteReg_veil {k : Bool} {w : Nat} : tdacWriteReg (s.veil false) k w = veilFst false (tdacWriteReg s k w) :=
  specialWrite_veil regLayout_open fun u v => by simp

@[simp] theorem chWrite_veil {k : Bool} {off w : Nat} :
    chWrite (s.veil false) k off w = veilFst false (chWrite s k off w) := by simp [chWrite]

/-! ### Failures, records and slots of the watchdog (chapter 18) -/

@[simp] theorem wdgRecords_veil : wdgRecords (s.veil wide) = wdgRecords s := by simp [wdgRecords]
@[simp] theorem wdgNewest_veil : wdgNewest (s.veil wide) = wdgNewest s := by simp [wdgNewest]

@[simp] theorem wdgRecord_veil {cause slot : Nat} :
    wdgRecord (s.veil wide) cause slot = (wdgRecord s cause slot).veil wide := by simp [wdgRecord]

@[simp] theorem wdgCauseBit_veil {cause slot : Nat} :
    wdgCauseBit (s.veil wide) cause slot = (wdgCauseBit s cause slot).veil wide := by
  unfold wdgCauseBit
  split <;> simp

@[simp] theorem wdgCycleBit_veil {cause slot : Nat} :
    wdgCycleBit (s.veil wide) cause slot = (wdgCycleBit s cause slot).veil wide := by
  unfold wdgCycleBit
  split <;> simp

@[simp] theorem wdgFail_veil {cause slot : Nat} :
    wdgFail (s.veil wide) cause slot = (wdgFail s cause slot).veil wide := by simp [wdgFail]

@[simp] theorem slotCode_veil {n : Nat} : slotCode (s.veil wide) n = slotCode s n := by simp [slotCode]
@[simp] theorem slotsMissing_veil : slotsMissing (s.veil wide) = slotsMissing s := by simp [slotsMissing]
@[simp] theorem wdgOpen_veil : wdgOpen (s.veil wide) = wdgOpen s := by simp [wdgOpen]
@[simp] theorem wdgServed_veil : wdgServed (s.veil wide) = (wdgServed s).veil wide := by simp [wdgServed]
@[simp] theorem checkSlot_veil {n : Nat} : checkSlot (s.veil wide) n = (checkSlot s n).veil wide := by simp [checkSlot]

/-! ### Charge engines (chapter 9) -/

@[simp] theorem accEpoch_veil {a : Nat} : accEpoch (s.veil wide) a = accEpoch s a := by simp [accEpoch]
@[simp] theorem engineLive_veil {n : Nat} : engineLive (s.veil wide) n = engineLive s n := by simp [engineLive]
@[simp] theorem engineRuns_veil {n : Nat} : engineRuns (s.veil wide) n = engineRuns s n := by simp [engineRuns]

end Sys2Proof.Machine
end

section
/-! SUPPORT. Under the veil, in the order of the model: impedance diagnostics and data integrity.
What reads the state reads the same, what changes it changes it alike. -/

namespace Sys2Proof.Machine

variable {s : State} {wide : Bool}

/-! ### Charge engines (chapter 9) -/

@[simp] theorem profileReview_veil {n : Nat} :
    profileReview (s.veil wide) n = (profileReview s n).veil wide := by simp [profileReview]

@[simp] theorem chgCtlWrite_veil {k : Bool} {n w : Nat} : chgCtlWrite (s.veil false) k n w = veilFst false (chgCtlWrite s k n w) :=
  specialWrite_veil regLayout_open fun u v => by simp

@[simp] theorem chgCmdWrite_veil {k : Bool} {n w : Nat} : chgCmdWrite (s.veil false) k n w = veilFst false (chgCmdWrite s k n w) :=
  specialWrite_veil regLayout_open fun u v => by
    split <;> simp

@[simp] theorem chgAbsWrite_veil {k : Bool} {n w : Nat} :
    chgAbsWrite (s.veil false) k n w = veilFst false (chgAbsWrite s k n w) := by simp [chgAbsWrite]

@[simp] theorem chgAccWrite_veil {k : Bool} {n w : Nat} : chgAccWrite (s.veil false) k n w = veilFst false (chgAccWrite s k n w) :=
  specialWrite_veil regLayout_open fun u v => by simp

@[simp] theorem chgTrimWrite_veil {k : Bool} {n w : Nat} :
    chgTrimWrite (s.veil false) k n w = veilFst false (chgTrimWrite s k n w) :=
  specialRes_veil regLayout_open fun u v => by simp

/-! ### Impedance diagnostics (chapter 10) -/

@[simp] theorem sweepPts_veil {a : Nat} : sweepPts (s.veil wide) a = sweepPts s a := by simp [sweepPts]
@[simp] theorem pointWord_veil {a p : Nat} : pointWord (s.veil wide) a p = pointWord s a p := by simp [pointWord]

@[simp] theorem sweepValid_veil : sweepValid (s.veil wide) = sweepValid s := by
  funext a
  simp [sweepValid]

@[simp] theorem sweepTable_veil {i : Nat} : sweepTable (s.veil wide) i = sweepTable s i := by simp [sweepTable]
@[simp] theorem stSweep_veil {n : Nat} : stSweep (s.veil wide) n = stSweep s n := by simp [stSweep]
@[simp] theorem sweepRefused_veil {n : Nat} : sweepRefused (s.veil wide) n = sweepRefused s n := by simp [sweepRefused]
@[simp] theorem impRequest_veil {n : Nat} : impRequest (s.veil wide) n = (impRequest s n).veil wide := by simp [impRequest]

@[simp] theorem impCtlWrite_veil {k : Bool} {n w : Nat} :
    impCtlWrite (s.veil false) k n w = veilFst false (impCtlWrite s k n w) := by simp [impCtlWrite]

/-! ### Data integrity and the windows (chapter 14) -/

@[simp] theorem retAccess_veil {k : Bool} {w : Option Nat} : retAccess (s.veil wide) k w = veilFst wide (retAccess s k w) := by
  unfold retAccess
  split <;> simp

@[simp] theorem injCode_veil {k : Bool} {p : Nat} {changed on : Bool} :
    injCode (s.veil wide) k p changed on = injCode s k p changed on := by simp [injCode]

@[simp] theorem memInjWrite_veil {k : Bool} {n w : Nat} :
    memInjWrite (s.veil false) k n w = veilFst false (memInjWrite s k n w) := by simp [memInjWrite]

@[simp] theorem tagInjWrite_veil {k : Bool} {w : Nat} : tagInjWrite (s.veil false) k w = veilFst false (tagInjWrite s k w) := by
  simp only [tagInjWrite, List.any_filter, regLayout_open.any_veil]
  simp [regLayout_open.filter]

@[simp] theorem memScrubWrite_veil {k : Bool} {n w : Nat} :
    memScrubWrite (s.veil false) k n w = veilFst false (memScrubWrite s k n w) :=
  specialWrite_veil regLayout_open fun u v => by simp

@[simp] theorem testEnds_veil : testEnds (s.veil wide) = (testEnds s).veil wide := by simp [testEnds]
@[simp] theorem inBootedSlot_veil {a : Nat} : inBootedSlot (s.veil wide) a = inBootedSlot s a := by simp [inBootedSlot]

@[simp] theorem windowCode_veil {k write : Bool} {a : Nat} :
    windowCode (s.veil wide) k write a = windowCode s k write a := by simp [windowCode]

@[simp] theorem attemptsClear_veil {i : Nat} :
    attemptsClear (s.veil wide) i = (attemptsClear s i).veil wide := by simp [attemptsClear]

@[simp] theorem windowStore_veil {a w : Nat} :
    windowStore (s.veil wide) a w = (windowStore s a w).veil wide := by simp [windowStore]

@[simp] theorem windowWrite_veil {k : Bool} {a w : Nat} :
    windowWrite (s.veil false) k a w = veilFst false (windowWrite s k a w) := by simp [windowWrite]

/-! ### The thermal block (chapter 15) -/

@[simp] theorem curveTable_veil : curveTable (s.veil wide) = curveTable s := by simp [curveTable]
@[simp] theorem curveReview_veil : curveReview (s.veil wide) = (curveReview s).veil wide := by simp [curveReview]
@[simp] theorem sdLevel_veil {k : Nat} : sdLevel (s.veil wide) k = sdLevel s k := by simp [sdLevel]

end Sys2Proof.Machine
end

section
/-! SUPPORT. Under the veil, in the order of the model: the thermal block, interrupts, resets and the watchdog.
What reads the state reads the same, what changes it changes it alike. -/

namespace Sys2Proof.Machine

variable {s : State} {wide : Bool}

/-! ### The thermal block (chapter 15) -/

theorem sensorBit_veil {f : Nat → Fld} {k : Nat} {b : Bool} (h : (f (k / 32)).veiled wide = false) :
    sensorBit (s.veil wide) f k b = (sensorBit s f k b).veil wide := by simp [sensorBit, h]

@[simp] theorem eventRecord_veil {lo hi : Nat} :
    eventRecord (s.veil wide) lo hi = (eventRecord s lo hi).veil wide := by simp [eventRecord]

@[simp] theorem thermalRecord_veil {type k : Nat} :
    thermalRecord (s.veil wide) type k = (thermalRecord s type k).veil wide := by simp [thermalRecord]

@[simp] theorem pendShow_veil {k : Nat} (hk : k < 88) : pendShow (s.veil wide) k = (pendShow s k).veil wide := by
  have hpend : (THM_PEND.PEND (k / 32)).veiled wide = false := Fld.veiled_of_ne (by decide) (by omega) (by omega)
  simp [pendShow, sensorBit_veil hpend]

@[simp] theorem dieRestart_veil : dieRestart (s.veil wide) = (dieRestart s).veil wide := by simp [dieRestart]

@[simp] theorem restartAction_veil {k : Nat} : restartAction (s.veil wide) k = (restartAction s k).veil wide := by
  unfold restartAction
  split <;> simp

@[simp] theorem shutEnd_veil {k : Nat} : shutEnd (s.veil wide) k = (shutEnd s k).veil wide := by simp [shutEnd]

@[simp] theorem thermalAck_veil {k : Nat} (hk : k < 88) :
    thermalAck (s.veil wide) k = (thermalAck s k).veil wide := by simp [thermalAck, hk]

@[simp] theorem thmAckWrite_veil {k : Bool} {w : Nat} : thmAckWrite (s.veil false) k w = veilFst false (thmAckWrite s k w) := by
  by_cases hk : w % 128 < 88 <;> simp [thmAckWrite, hk]

@[simp] theorem sdLocked_veil {k : Nat} : sdLocked (s.veil wide) k = sdLocked s k := by simp [sdLocked]
@[simp] theorem sdSet_veil {k v : Nat} : sdSet (s.veil wide) k v = (sdSet s k v).veil wide := by simp [sdSet]

@[simp] theorem thsSdWrite_veil {k : Bool} {t w : Nat} :
    thsSdWrite (s.veil false) k t w = veilFst false (thsSdWrite s k t w) := by simp [thsSdWrite]

@[simp] theorem lockLevels_veil : lockLevels (s.veil wide) = (lockLevels s).veil wide := by simp [lockLevels]

@[simp] theorem thsThWrite_veil {k : Bool} {t w : Nat} :
    thsThWrite (s.veil false) k t w = veilFst false (thsThWrite s k t w) := by simp [thsThWrite]

@[simp] theorem thsCfgWrite_veil {k : Bool} {t w : Nat} : thsCfgWrite (s.veil false) k t w = veilFst false (thsCfgWrite s k t w) :=
  specialWrite_veil regLayout_open fun u v => by simp

@[simp] theorem thmCtlWrite_veil {k : Bool} {w : Nat} :
    thmCtlWrite (s.veil false) k w = veilFst false (thmCtlWrite s k w) := by simp [thmCtlWrite]

/-! ### The interrupt controller (chapter 17) -/

@[simp] theorem evtWord_veil {p : Nat} : evtWord (s.veil wide) p = evtWord s p := by simp [evtWord]
@[simp] theorem gateOpen_veil {p : Nat} : gateOpen (s.veil wide) p = gateOpen s p := by simp [gateOpen]
@[simp] theorem pageLine_veil {p m : Nat} : pageLine (s.veil wide) p m = pageLine s p m := by simp [pageLine]

@[simp] theorem regLine_veil {p : Nat} {evt en : Fld} {m : Nat} (h : evt.veiled wide = false ∧ en.veiled wide = false) :
    regLine (s.veil wide) p evt en m = regLine s p evt en m := by simp [regLine, h]

/-- The events of an accumulator page: two registers. -/
theorem accLine_veil {p j m : Nat} (hj : j < 2) :
    regLine (s.veil wide) (0x70 + p) (ACC_THR_EVT.EVT p j) (ACC_THR_EN.EN p j) m =
      regLine s (0x70 + p) (ACC_THR_EVT.EVT p j) (ACC_THR_EN.EN p j) m :=
  regLine_veil ⟨Fld.veiled_of_ne (by decide) (by omega) (by omega), Fld.veiled_of_ne (by decide) (by omega) (by omega)⟩

/-- The events of the monitors: eight registers. -/
theorem mmtLine_veil {j m : Nat} (hj : j < 8) :
    regLine (s.veil wide) 0x78 (MMT_EVT.EVT j) (MMT_EN.EN j) m = regLine s 0x78 (MMT_EVT.EVT j) (MMT_EN.EN j) m :=
  regLine_veil ⟨Fld.veiled_of_ne (by decide) (by omega) (by omega), Fld.veiled_of_ne (by decide) (by omega) (by omega)⟩

@[simp] theorem srcLine_veil {n : Nat} : srcLine (s.veil wide) n = srcLine s n := by
  have hacc : n % 4 / 2 < 2 := by omega
  by_cases hn : n < 236
  · have hmmt : (n - 220) / 2 < 8 := by omega
    simp [srcLine, accLine_veil hacc, mmtLine_veil hmmt]
  · simp [srcLine, accLine_veil hacc, hn]

@[simp] theorem stackDepth_veil {t : Nat} : stackDepth (s.veil wide) t = stackDepth s t := by simp [stackDepth]
@[simp] theorem runPrio_veil {t : Nat} : runPrio (s.veil wide) t = runPrio s t := by simp [runPrio]

/-- The priority of a source. -/
theorem veiled_prio {n : Nat} (hn : n < 256) : (INTC_SRC_CFG.PRIO n).veiled wide = false :=
  Fld.veiled_of_ne (by decide) (by omega) (by omega)

@[simp] theorem presentable_veil {n : Nat} (hn : n < 256) : presentable (s.veil wide) n = presentable s n := by
  funext t
  simp [presentable, veiled_prio hn]

@[simp] theorem owner_veil {n : Nat} (hn : n < 256) : owner (s.veil wide) n = owner s n := by simp [owner, hn]

theorem foldl_congr_of_bound {g h : Option Nat → Nat → Option Nat} {l : List Nat} {m : Option Nat} {b : Nat} (hl : ∀ n ∈ l, n < b)
    (hm : ∀ k, m = some k → k < b)
    (hgh : ∀ m n, n < b → (∀ k, m = some k → k < b) → g m n = h m n ∧ ∀ k, h m n = some k → k < b) :
    l.foldl g m = l.foldl h m := by
  induction l generalizing m with
  | nil => rfl
  | cons n l ih =>
    obtain ⟨heq, hb⟩ := hgh m n (hl n (by simp)) hm
    simp only [List.foldl_cons, heq]
    exact ih (fun k hk => hl k (by simp [hk])) hb

@[simp] theorem candidate_veil {t : Nat} : candidate (s.veil wide) t = candidate s t := by
  have hown : (List.range 256).filter (fun n => (s.veil wide).flag (INTC_SRC_CFG.PEND n) && owner (s.veil wide) n == some t) =
      (List.range 256).filter (fun n => s.flag (INTC_SRC_CFG.PEND n) && owner s n == some t) :=
    List.filter_congr fun n hn => by simp [List.mem_range.1 hn]
  rw [candidate, candidate, hown]
  refine foldl_congr_of_bound (b := 256) (fun n hn => List.mem_range.1 (List.mem_filter.1 hn).1) (by simp) fun m n hn hm => ?_
  cases m with
  | none => simp [hn]
  | some k =>
    have hk : k < 256 := hm k rfl
    simp only [State.get_veil_of (veiled_prio hk), State.get_veil_of (veiled_prio hn), true_and]
    split <;> simp [hn, hk]

@[simp] theorem intcReview_veil : intcReview (s.veil wide) = (intcReview s).veil wide := by simp [intcReview]

@[simp] theorem registerLine_veil {n : Nat} {v : Bool} :
    registerLine (s.veil wide) n v = (registerLine s n v).veil wide := by simp [registerLine]

@[simp] theorem pendSetWrite_veil {j w : Nat} :
    pendSetWrite (s.veil false) j w = veilFst false (pendSetWrite s j w) := by simp [pendSetWrite]

@[simp] theorem pendClrWrite_veil {j w : Nat} :
    pendClrWrite (s.veil false) j w = veilFst false (pendClrWrite s j w) := by simp [pendClrWrite]

@[simp] theorem endInterrupt_veil {t n : Nat} :
    endInterrupt (s.veil wide) t n = (endInterrupt s t n).veil wide := by simp [endInterrupt]

@[simp] theorem srcCfgWrite_veil {k : Bool} {n w : Nat} : srcCfgWrite (s.veil false) k n w = veilFst false (srcCfgWrite s k n w) :=
  specialWrite_veil regLayout_open fun u v => by simp

@[simp] theorem intcPlainWrite_veil {k : Bool} {off w : Nat} :
    intcPlainWrite (s.veil false) k off w = veilFst false (intcPlainWrite s k off w) := by simp [intcPlainWrite]

@[simp] theorem intcClear_veil : intcClear (s.veil wide) = (intcClear s).veil wide := by simp [intcClear]
@[simp] theorem intcSample_veil : intcSample (s.veil wide) = (intcSample s).veil wide := by simp [intcSample]

/-! ### Reset triggers (R59, R62) -/

@[simp] theorem resetClear_veil {por : Bool} : resetClear (s.veil wide) por = (resetClear s por).veil wide := by simp [resetClear]
@[simp] theorem saveFaults_veil : saveFaults (s.veil wide) = (saveFaults s).veil wide := by simp [saveFaults]
@[simp] theorem resetPd_veil {c : Nat} : resetPd (s.veil wide) c = (resetPd s c).veil wide := by simp [resetPd]
@[simp] theorem resetBegin_veil {code : Nat} : resetBegin (s.veil wide) code = (resetBegin s code).veil wide := by simp [resetBegin]

@[simp] theorem triggerReset_veil {code : Nat} :
    triggerReset (s.veil wide) code = (triggerReset s code).veil wide := by simp [triggerReset]

/-! ### The watchdog (chapter 18) -/

@[simp] theorem hostCheckin_veil {n : Nat} : hostCheckin (s.veil wide) n = (hostCheckin s n).veil wide := by simp [hostCheckin]
@[simp] theorem expectedKey_veil : expectedKey (s.veil wide) = expectedKey s := by simp [expectedKey]
@[simp] theorem judgePair_veil : judgePair (s.veil wide) = (judgePair s).veil wide := by simp [judgePair]
@[simp] theorem svcWrite_veil {w : Nat} : svcWrite (s.veil false) w = veilFst false (svcWrite s w) := by simp [svcWrite]

/-! ### Keeper sessions (R92 to R95) -/

@[simp] theorem sessionShow_veil : sessionShow (s.veil wide) = (sessionShow s).veil wide := by simp [sessionShow]

@[simp] theorem codeLoWrite_veil {p : Fin 4} {w : BitVec 32} :
    codeLoWrite (s.veil wide) p w = (codeLoWrite s p w).veil wide := by simp [codeLoWrite]

@[simp] theorem attemptFails_veil : attemptFails (s.veil wide) = (attemptFails s).veil wide := by simp [attemptFails]

@[simp] theorem codeOpens_veil {p : Fin 4} {node : BitVec 16} :
    codeOpens (s.veil wide) p node = (codeOpens s p node).veil wide := by simp [codeOpens]

end Sys2Proof.Machine
end

section
/-! SUPPORT. Under the veil, in the order of the model: the Swarm link.
What reads the state reads the same, what changes it changes it alike. -/

namespace Sys2Proof.Machine

variable {s : State} {wide : Bool}

/-! ### Keeper sessions (R92 to R95) -/

@[simp] theorem attempt_veil {p : Fin 4} {node : BitVec 16} {w : BitVec 32} :
    attempt (s.veil wide) p node w = (attempt s p node w).veil wide := by
  cases h : s.codeHold[p.val] <;> simp [attempt, h]

@[simp] theorem codeCloses_veil {p : Nat} : codeCloses (s.veil wide) p = (codeCloses s p).veil wide := by simp [codeCloses]

@[simp] theorem ksessCtlWrite_veil {k : Bool} {p : Fin 4} {w : Nat} :
    ksessCtlWrite (s.veil false) k p w = veilFst false (ksessCtlWrite s k p w) :=
  specialWrite_veil regLayout_open fun u v => by simp

/-! ### The Swarm link (chapter 19) -/

/-- The fields of a port of the Swarm link. -/
@[simp] theorem veiled_swPort {w : Nat} : (swUp w).veiled wide = false
    ∧ (swPartner w).veiled wide = false ∧ (swMode w).veiled wide = false
    ∧ (swRouteLo w).veiled wide = false ∧ (swRouteHi w).veiled wide = false := by
  unfold swUp swPartner swMode swRouteLo swRouteHi
  split <;> simp

@[simp] theorem swOn_veil {w : Nat} : swOn (s.veil wide) w = swOn s w := by simp [swOn]

@[simp] theorem swLocal_veil : swLocal (s.veil wide) = swLocal s := by
  funext w
  simp [swLocal]

@[simp] theorem swGateway_veil {w seg : Nat} : swGateway (s.veil wide) w seg = swGateway s w seg := by simp [swGateway]
@[simp] theorem ownNode_veil : ownNode (s.veil wide) = ownNode s := by simp [ownNode]

@[simp] theorem ownAddr_veil : ownAddr (s.veil wide) = ownAddr s := by simp [ownAddr]
@[simp] theorem isOwn_veil {addr : BitVec 16} : isOwn (s.veil wide) addr = isOwn s addr := by simp [isOwn]

@[simp] theorem swReach_veil {n : Nat} : swReach (s.veil wide) n = swReach s n := by simp [swReach]
@[simp] theorem hopsBy_veil {w n : Nat} : hopsBy (s.veil wide) w n = hopsBy s w n := by simp [hopsBy]

@[simp] theorem sendBytes_veil {w : Nat} {bytes : List (BitVec 8)} {bad : Bool} :
    sendBytes (s.veil wide) w bytes bad = (sendBytes s w bytes bad).veil wide := by simp [sendBytes]

@[simp] theorem swRoutes_veil {arrived dst : Nat} :
    swRoutes (s.veil wide) arrived dst = swRoutes s arrived dst := by simp [swRoutes]

@[simp] theorem noRoute_veil : noRoute (s.veil wide) = (noRoute s).veil wide := by simp [noRoute]

@[simp] theorem originate_veil {ty : Nat} {keeper bcast : Bool} {dst : Nat} {payload : List (BitVec 8)} :
    originate (s.veil wide) ty keeper bcast dst payload = (originate s ty keeper bcast dst payload).veil wide := by simp [originate]

@[simp] theorem broadcast_veil {ty : Nat} {payload : List (BitVec 8)} :
    broadcast (s.veil wide) ty payload = (broadcast s ty payload).veil wide := by simp [broadcast]

@[simp] theorem eligible_veil : eligible (s.veil wide) = eligible s := by simp [eligible]
@[simp] theorem candidates_veil : candidates (s.veil wide) = candidates s := by simp [candidates]
@[simp] theorem heirNow_veil : heirNow (s.veil wide) = heirNow s := by simp [heirNow]
@[simp] theorem nodeCount_veil : nodeCount (s.veil wide) = nodeCount s := by simp [nodeCount]
@[simp] theorem roleNow_veil : roleNow (s.veil wide) = roleNow s := by simp [roleNow]
@[simp] theorem announce_veil : announce (s.veil wide) = (announce s).veil wide := by simp [announce]

@[simp] theorem swReview_veil : swReview (s.veil wide) = (swReview s).veil wide := by
  simp [swReview]
  split <;> simp

@[simp] theorem swPortDown_veil {w : Nat} : swPortDown (s.veil wide) w = (swPortDown s w).veil wide := by simp [swPortDown]
@[simp] theorem addressTake_veil {n : Nat} : addressTake (s.veil wide) n = (addressTake s n).veil wide := by simp [addressTake]
@[simp] theorem addressLost_veil : addressLost (s.veil wide) = (addressLost s).veil wide := by simp [addressLost]
@[simp] theorem isMember_veil {c : Nat} : isMember (s.veil wide) c = isMember s c := by simp [isMember]
@[simp] theorem roster_veil {g : Nat} : roster (s.veil wide) g = roster s g := by simp [roster]

@[simp] theorem memReach_veil : memReach (s.veil wide) = memReach s := by
  funext m
  simp [memReach]

@[simp] theorem reportEntry_veil {node g : Nat} {en : Bool} {c wt deficit : Nat} :
    reportEntry (s.veil wide) node g en c wt deficit = (reportEntry s node g en c wt deficit).veil wide := by simp [reportEntry]

@[simp] theorem reportSend_veil : reportSend (s.veil wide) = (reportSend s).veil wide := by simp [reportSend]
@[simp] theorem totalSet_veil {g t : Nat} : totalSet (s.veil wide) g t = (totalSet s g t).veil wide := by simp [totalSet]

@[simp] theorem groupSet_veil {b t : Nat} : groupSet (s.veil wide) b t = (groupSet s b t).veil wide := by
  have hdrop : (s.veil wide).on (b.testBit 7) (fun s => s.each ((roster s (b % 16)).filter (fun m => !memReach s m))
      (fun s m => s.put (Sw.MEM m) 0)) = (s.on (b.testBit 7) (fun s => s.each ((roster s (b % 16)).filter (fun m => !memReach s m))
      (fun s m => s.put (Sw.MEM m) 0))).veil wide := State.on_veil fun u => by simp
  simp [groupSet, hdrop]

@[simp] theorem groupSend_veil {b t : Nat} : groupSend (s.veil wide) b t = (groupSend s b t).veil wide := by simp [groupSend]
@[simp] theorem grpSel_veil : grpSel (s.veil wide) = grpSel s := by simp [grpSel]

@[simp] theorem grpTotalWrite_veil {k : Bool} {w : Nat} :
    grpTotalWrite (s.veil false) k w = veilFst false (grpTotalWrite s k w) := by simp [grpTotalWrite]

@[simp] theorem grpSelWrite_veil {k : Bool} {w : Nat} : grpSelWrite (s.veil false) k w = veilFst false (grpSelWrite s k w) :=
  specialWrite_veil regLayout_open fun u v => by simp

@[simp] theorem swAddrWrite_veil {k : Bool} {w : Nat} :
    swAddrWrite (s.veil false) k w = veilFst false (swAddrWrite s k w) := by simp [swAddrWrite]

@[simp] theorem swCtlWrite_veil {k : Bool} {off w : Nat} :
    swCtlWrite (s.veil false) k off w = veilFst false (swCtlWrite s k off w) := by simp [swCtlWrite]

@[simp] theorem swCmdWrite_veil {k : Bool} {w : Nat} :
    swCmdWrite (s.veil false) k w = veilFst false (swCmdWrite s k w) := by simp [swCmdWrite]

/-! ### Live maintenance (chapter 20) -/

@[simp] theorem inactiveBank_veil : inactiveBank (s.veil wide) = inactiveBank s := by simp [inactiveBank]
@[simp] theorem tblRefuse_veil {why : Nat} : tblRefuse (s.veil wide) why = (tblRefuse s why).veil wide := by simp [tblRefuse]
@[simp] theorem tblStart_veil {op : Nat} : tblStart (s.veil wide) op = (tblStart s op).veil wide := by simp [tblStart]
@[simp] theorem tblEnd_veil {result : Nat} : tblEnd (s.veil wide) result = (tblEnd s result).veil wide := by simp [tblEnd]
@[simp] theorem bankWhy_veil : bankWhy (s.veil wide) = bankWhy s := by simp [bankWhy]
@[simp] theorem commitWhy_veil : commitWhy (s.veil wide) = commitWhy s := by simp [commitWhy]
@[simp] theorem checkedSlot_veil : checkedSlot (s.veil wide) = checkedSlot s := by simp [checkedSlot]

@[simp] theorem tblCommand_veil {op : Nat} : tblCommand (s.veil wide) op = (tblCommand s op).veil wide := by
  unfold tblCommand
  split <;> simp

@[simp] theorem tblCmdWrite_veil {k : Bool} {w : Nat} :
    tblCmdWrite (s.veil false) k w = veilFst false (tblCmdWrite s k w) := by simp [tblCmdWrite]

end Sys2Proof.Machine
end

section
/-! SUPPORT. Under the veil, in the order of the model: live maintenance, clocks and boot.
What reads the state reads the same, what changes it changes it alike. -/

namespace Sys2Proof.Machine

variable {s : State} {wide : Bool}

/-! ### Live maintenance (chapter 20) -/

@[simp] theorem entType_veil {b e : Nat} : entType (s.veil wide) b e = entType s b e := by simp [entType]

@[simp] theorem loadCtlWrite_veil {k : Bool} {w : Nat} : loadCtlWrite (s.veil false) k w = veilFst false (loadCtlWrite s k w) :=
  specialWrite_veil regLayout_open fun u v => by simp

@[simp] theorem loadPartition_veil : loadPartition (s.veil wide) = loadPartition s := by
  simp [loadPartition]
  split <;> rfl

@[simp] theorem bankBusy_veil : bankBusy (s.veil wide) = bankBusy s := by simp [bankBusy]
@[simp] theorem loadRefuse_veil {code : Nat} : loadRefuse (s.veil wide) code = (loadRefuse s code).veil wide := by simp [loadRefuse]
@[simp] theorem loadWord_veil {w : Nat} : loadWord (s.veil wide) w = (loadWord s w).veil wide := by simp [loadWord]

@[simp] theorem loadHeader_veil {w : Nat} : loadHeader (s.veil wide) w = (loadHeader s w).veil wide := by
  rcases h : loadPartition s with _ | ⟨a, size⟩ <;> simp [loadHeader, h]

@[simp] theorem loadData_veil {w : Nat} : loadData (s.veil wide) w = (loadData s w).veil wide := by
  match h : s.get TBL_LD_STAT.CODE with
  | 0 | 1 | 2 | _ + 3 => simp [loadData, h]

@[simp] theorem loadDataWrite_veil {k : Bool} {w : Nat} :
    loadDataWrite (s.veil false) k w = veilFst false (loadDataWrite s k w) := by simp [loadDataWrite]

@[simp] theorem commitAbandon_veil : commitAbandon (s.veil wide) = (commitAbandon s).veil wide := by simp [commitAbandon]

@[simp] theorem maintRefuse_veil {op arg why : Nat} :
    maintRefuse (s.veil wide) op arg why = (maintRefuse s op arg why).veil wide := by simp [maintRefuse]

@[simp] theorem maintStart_veil {op arg : Nat} :
    maintStart (s.veil wide) op arg = (maintStart s op arg).veil wide := by simp [maintStart]

@[simp] theorem runAhead_veil {c : Nat} : runAhead (s.veil wide) c = runAhead s c := by simp [runAhead]

@[simp] theorem respace_veil {c : Nat} : respace (s.veil wide) c = (respace s c).veil wide := by
  simp [respace]
  exact State.each_veil fun u x => by simp

@[simp] theorem maintShow_veil {c : Nat} : maintShow (s.veil wide) c = (maintShow s c).veil wide := by simp [maintShow]
@[simp] theorem onBattery_veil {c : Nat} : onBattery (s.veil wide) c = onBattery s c := by simp [onBattery]
@[simp] theorem phaseOutWhy_veil {p : Nat} : phaseOutWhy (s.veil wide) p = phaseOutWhy s p := by simp [phaseOutWhy]
@[simp] theorem combOut_veil {c : Nat} : combOut (s.veil wide) c = combOut s c := by simp [combOut]
@[simp] theorem combDrained_veil {c : Nat} : combDrained (s.veil wide) c = (combDrained s c).veil wide := by simp [combDrained]
@[simp] theorem phaseBack_veil {p : Fin 16} : phaseBack (s.veil wide) p = (phaseBack s p).veil wide := by simp [phaseBack]
@[simp] theorem modelDescribes_veil {p : Nat} : modelDescribes (s.veil wide) p = modelDescribes s p := by simp [modelDescribes]
@[simp] theorem cannotRun_veil {p : Nat} : cannotRun (s.veil wide) p = cannotRun s p := by simp [cannotRun]
@[simp] theorem combDrainWhy_veil {c : Nat} : combDrainWhy (s.veil wide) c = combDrainWhy s c := by simp [combDrainWhy]
@[simp] theorem combDrain_veil {c : Nat} : combDrain (s.veil wide) c = (combDrain s c).veil wide := by simp [combDrain]
@[simp] theorem combRestore_veil {c : Nat} : combRestore (s.veil wide) c = (combRestore s c).veil wide := by simp [combRestore]

@[simp] theorem sensorMark_veil {k : Nat} {out : Bool} (hk : k < 0x10000) :
    sensorMark (s.veil wide) k out = (sensorMark s k out).veil wide := by
  have hout : (MAINT_SENS.OUT (k / 32)).veiled wide = false := Fld.veiled_of_ne (by decide) (by omega) (by omega)
  simp [sensorMark, hout]
@[simp] theorem portMark_veil {n : Nat} {held : Bool} : portMark (s.veil wide) n held = (portMark s n held).veil wide := by
  unfold portMark
  split <;> simp

@[simp] theorem sensorOutWhy_veil {k : Nat} : sensorOutWhy (s.veil wide) k = sensorOutWhy s k := by simp [sensorOutWhy]
@[simp] theorem portFreed_veil {n : Fin 48} : portFreed (s.veil wide) n = (portFreed s n).veil wide := by simp [portFreed]

@[simp] theorem portRelease_veil {n : Fin 48} : portRelease (s.veil wide) n = (portRelease s n).veil wide := by
  have hopen (off : Nat) : (regLayout (0x30 + n) off).Open wide := regLayout_open_of (.inl (by omega))
  simp [portRelease, hopen]

@[simp] theorem convLane_veil {x : Nat} : convLane (s.veil wide) x = convLane s x := by simp [convLane]
@[simp] theorem convOutWhy_veil {x : Nat} : convOutWhy (s.veil wide) x = convOutWhy s x := by simp [convOutWhy]

@[simp] theorem convOut_veil {x : Nat} : convOut (s.veil wide) x = (convOut s x).veil wide := by
  cases h : convLane s x <;> simp [convOut, h]

@[simp] theorem maintPerform_veil {op arg : Nat} (harg : arg < 0x10000) :
    maintPerform (s.veil wide) op arg = (maintPerform s op arg).veil wide := by
  simp [maintPerform, harg]
  split <;> rfl

@[simp] theorem maintWhy_veil {op arg : Nat} : maintWhy (s.veil wide) op arg = maintWhy s op arg := by simp [maintWhy]

@[simp] theorem maintCommand_veil {op arg : Nat} (harg : arg < 0x10000) :
    maintCommand (s.veil wide) op arg = (maintCommand s op arg).veil wide := by simp [maintCommand, harg]

@[simp] theorem maintCmdWrite_veil {k : Bool} {w : Nat} :
    maintCmdWrite (s.veil false) k w = veilFst false (maintCmdWrite s k w) := by
  have harg (u : State) : u.get MAINT_CMD.ARG < 0x10000 := u.get_lt _
  simp [maintCmdWrite]
  exact specialWrite_veil regLayout_open fun u v => by simp [harg]

@[simp] theorem drainReturns_veil : drainReturns (s.veil wide) = (drainReturns s).veil wide := by
  simp [drainReturns]
  split <;> rfl

@[simp] theorem drainRuns_veil : drainRuns (s.veil wide) = drainRuns s := by simp [drainRuns]

/-! ### Clock supervision (R26 to R30) -/

@[simp] theorem refPick_veil : refPick (s.veil wide) = refPick s := by simp [refPick]
@[simp] theorem refReady_veil : refReady (s.veil wide) = refReady s := by simp [refReady]
@[simp] theorem readyReview_veil : readyReview (s.veil wide) = (readyReview s).veil wide := by simp [readyReview]
@[simp] theorem onBackup_veil : onBackup (s.veil wide) = (onBackup s).veil wide := by simp [onBackup]

@[simp] theorem clkCtlWrite_veil {k : Bool} {w : Nat} : clkCtlWrite (s.veil false) k w = veilFst false (clkCtlWrite s k w) :=
  specialWrite_veil regLayout_open fun u v => by
    simp
    repeat' split
    all_goals rfl

/-! ### Boot, resets and hive-sleep (R44 to R78) -/

@[simp] theorem releaseComb_veil {c : Fin 4} : releaseComb (s.veil wide) c = (releaseComb s c).veil wide := by simp [releaseComb]

@[simp] theorem claimProceeds_veil {kind : Nat} :
    claimProceeds (s.veil wide) kind = (claimProceeds s kind).veil wide := by simp [claimProceeds]

@[simp] theorem safePortsOff_veil {c : Nat} : safePortsOff (s.veil wide) c = (safePortsOff s c).veil wide := by simp [safePortsOff]
@[simp] theorem pdSafe_veil {c : Nat} : pdSafe (s.veil wide) c = (pdSafe s c).veil wide := by simp [pdSafe]
@[simp] theorem reactNow_veil : reactNow (s.veil wide) = (reactNow s).veil wide := by simp [reactNow]
@[simp] theorem enterSafe_veil : enterSafe (s.veil wide) = (enterSafe s).veil wide := by simp [enterSafe]
@[simp] theorem claim_veil : claim (s.veil wide) = (claim s).veil wide := by simp [claim]

end Sys2Proof.Machine
end

section
/-! SUPPORT. Under the veil, in the order of the model: hive-sleep, injection and the 64-bit registers.
What reads the state reads the same, what changes it changes it alike. -/

namespace Sys2Proof.Machine

variable {s : State} {wide : Bool}

/-! ### Boot, resets and hive-sleep (R44 to R78) -/

@[simp] theorem claimRefused_veil : claimRefused (s.veil wide) = (claimRefused s).veil wide := by simp [claimRefused]
@[simp] theorem sleepEntry_veil : sleepEntry (s.veil wide) = (sleepEntry s).veil wide := by simp [sleepEntry]
@[simp] theorem hiveSleep_veil : hiveSleep (s.veil wide) = (hiveSleep s).veil wide := by simp [hiveSleep]

@[simp] theorem hiveCmdWrite_veil {k : Bool} {p : Fin 4} {w : Nat} :
    hiveCmdWrite (s.veil false) k p w = veilFst false (hiveCmdWrite s k p w) := by simp [hiveCmdWrite]

/-! ### Fault injection (R395) -/

@[simp] theorem injectedAction_veil {p i : Nat} : injectedAction (s.veil wide) p i = (injectedAction s p i).veil wide := by
  unfold injectedAction
  split <;> simp

@[simp] theorem injectEdge_veil {p : Nat} {l : List Nat} :
    injectEdge (s.veil wide) p l = (injectEdge s p l).veil wide := by simp [injectEdge]

@[simp] theorem faultInjectWrite_veil {k : Bool} {p w : Nat} :
    faultInjectWrite (s.veil false) k p w = veilFst false (faultInjectWrite s k p w) := by simp [faultInjectWrite]

/-! ### Register accesses (R79, R84 to R99) -/

@[simp] theorem holdLow_veil {path : Fin 4} {key w : Nat} :
    holdLow (s.veil wide) path key w = (holdLow s path key w).veil wide := by simp [holdLow]

@[simp] theorem heldLow_veil {path : Fin 4} {key : Nat} : heldLow (s.veil wide) path key = heldLow s path key := by simp [heldLow]

@[simp] theorem commitHigh_veil {path : Fin 4} {key w : Nat} :
    commitHigh (s.veil wide) path key w = (commitHigh s path key w).veil wide := by
  cases h : s.writeHold[path.val] <;> simp [commitHigh, h]

end Sys2Proof.Machine
end

section
/-! SUPPORT. Under the veil, in the order of the model: the write of any register and of any word.
What reads the state reads the same, what changes it changes it alike. -/

namespace Sys2Proof.Machine

variable {s : State} {wide : Bool}

/-! ### Register accesses (R79, R84 to R99) -/

@[simp] theorem pageCtlWrite_veil {k : Bool} {p w : Nat} :
    pageCtlWrite (s.veil false) k p w = veilFst false (pageCtlWrite s k p w) := by simp [pageCtlWrite]

@[simp] theorem irqSetWrite_veil {p w : Nat} :
    irqSetWrite (s.veil wide) p w = (irqSetWrite s p w).veil wide := by simp [irqSetWrite]

@[simp] theorem lockWrite_veil {k : Bool} {p w : Nat} :
    lockWrite (s.veil false) k p w = veilFst false (lockWrite s k p w) := by simp [lockWrite]

@[simp] theorem headerWrite_veil {k : Bool} {p off w : Nat} :
    headerWrite (s.veil false) k p off w = veilFst false (headerWrite s k p off w) := by
  unfold headerWrite
  split <;> simp

@[simp] theorem hiveModeWrite_veil {k : Bool} {w : Nat} :
    hiveModeWrite (s.veil false) k w = veilFst false (hiveModeWrite s k w) := by simp [hiveModeWrite]

@[simp] theorem hiveWakeWrite_veil {k : Bool} {w : Nat} :
    hiveWakeWrite (s.veil false) k w = veilFst false (hiveWakeWrite s k w) := by simp [hiveWakeWrite]

@[simp] theorem hiveWrite_veil {k : Bool} {path : Fin 4} {node : BitVec 16} {off w : Nat} :
    hiveWrite (s.veil false) k path node off w = veilFst false (hiveWrite s k path node off w) := by
  unfold hiveWrite
  split <;> simp

@[simp] theorem intcWrite_veil {k : Bool} {off w : Nat} :
    intcWrite (s.veil false) k off w = veilFst false (intcWrite s k off w) := by simp [intcWrite]

@[simp] theorem wdgWrite_veil {k : Bool} {off w : Nat} : wdgWrite (s.veil false) k off w = veilFst false (wdgWrite s k off w) := by
  unfold wdgWrite
  split <;> simp

@[simp] theorem combWrite_veil {k : Bool} {c : Fin 4} {off w : Nat} :
    combWrite (s.veil false) k c off w = veilFst false (combWrite s k c off w) := by
  unfold combWrite
  split <;> simp

@[simp] theorem phaseWrite_veil {k : Bool} {p : Fin 16} {off w : Nat} :
    phaseWrite (s.veil false) k p off w = veilFst false (phaseWrite s k p off w) := by
  unfold phaseWrite
  split <;> simp

@[simp] theorem portWrite_veil {k : Bool} {n off w : Nat} :
    portWrite (s.veil false) k n off w = veilFst false (portWrite s k n off w) := by simp [portWrite]

@[simp] theorem pdpWrite_veil {k : Bool} {c : Fin 4} {off w : Nat} :
    pdpWrite (s.veil false) k c off w = veilFst false (pdpWrite s k c off w) := by
  unfold pdpWrite
  repeat' split
  all_goals simp

@[simp] theorem hksWrite_veil {k : Bool} {off w : Nat} : hksWrite (s.veil false) k off w = veilFst false (hksWrite s k off w) := by
  unfold hksWrite
  split <;> simp

@[simp] theorem accWrite_veil {k : Bool} {n off w : Nat} :
    accWrite (s.veil false) k n off w = veilFst false (accWrite s k n off w) := by simp [accWrite]

@[simp] theorem mmtWrite_veil {k : Bool} {off w : Nat} : mmtWrite (s.veil false) k off w = veilFst false (mmtWrite s k off w) := by
  unfold mmtWrite
  split
  next h =>
    have ht : (off - 0x100) / 12 < 0x1000 := by omega
    simp [ht]
  next => simp

@[simp] theorem thermWrite_veil {k : Bool} {off w : Nat} :
    thermWrite (s.veil false) k off w = veilFst false (thermWrite s k off w) := by
  unfold thermWrite
  repeat' split
  all_goals simp

@[simp] theorem engineWrite_veil {k : Bool} {n off w : Nat} :
    engineWrite (s.veil false) k n off w = veilFst false (engineWrite s k n off w) := by
  unfold engineWrite
  split <;> simp

@[simp] theorem tblWrite_veil {k : Bool} {off w : Nat} : tblWrite (s.veil false) k off w = veilFst false (tblWrite s k off w) := by
  unfold tblWrite
  split <;> simp

@[simp] theorem swarmWrite_veil {k : Bool} {off w : Nat} :
    swarmWrite (s.veil false) k off w = veilFst false (swarmWrite s k off w) := by
  unfold swarmWrite
  split <;> simp

@[simp] theorem memWrite_veil {k : Bool} {n off w : Nat} :
    memWrite (s.veil false) k n off w = veilFst false (memWrite s k n off w) := by
  unfold memWrite
  split <;> simp

@[simp] theorem blockWrite_veil {k : Bool} {path : Fin 4} {node : BitVec 16} {p off w : Nat} :
    blockWrite (s.veil false) k path node p off w = veilFst false (blockWrite s k path node p off w) := by
  unfold blockWrite
  split <;> simp

@[simp] theorem regWrite_veil {k : Bool} {path : Fin 4} {node : BitVec 16} {p off w : Nat} :
    regWrite (s.veil false) k path node p off w = veilFst false (regWrite s k path node p off w) := by
  unfold regWrite
  repeat' split
  all_goals simp

@[simp] theorem wordTouch_veil {kf : Bool} {path : Fin 4} {addr : Nat} :
    wordTouch (s.veil wide) kf path addr = (wordTouch s kf path addr).veil wide := by simp [wordTouch]

@[simp] theorem wordWrite_veil {kf : Bool} {path : Fin 4} {node : BitVec 16} {addr w : Nat} :
    wordWrite (s.veil false) kf path node addr w = veilFst false (wordWrite s kf path node addr w) := by simp [wordWrite]

end Sys2Proof.Machine
end

section
/-! SUPPORT. Under the veil: what a read of any register and of any word answers and does (R97, R99, R110).
Under the wide veil the host's own page reads otherwise, and changes nothing. -/

namespace Sys2Proof.Machine

variable {s : State} {wide : Bool}

/-! ### Event bits, the error pin and the fault log (R85, R384 to R394) -/

@[simp] theorem activePages_veil : activePages (s.veil wide) = activePages s := by simp [activePages]
@[simp] theorem errLow_veil : errLow (s.veil wide) = errLow s := by simp [errLow]

/-! ### Register accesses: views, type codes and refusals (R9, R80, R90) -/

theorem readField_veil {k : Bool} {f : Fld} {ty : Ty} (h : f.veiled wide = false) :
    readField (s.veil wide) k f ty = readField s k f ty := by
  cases ty <;> simp [readField, h]

theorem Layout.Open.foldl_readField_veil {l : Layout} {k : Bool} {m : Nat} (h : l.Open wide) :
    l.foldl (fun w q => w + (readField (s.veil wide) k q.1 q.2) <<< q.1.lo) m =
      l.foldl (fun w q => w + (readField s k q.1 q.2) <<< q.1.lo) m := by
  induction l generalizing m with
  | nil => rfl
  | cons q l ih =>
    simp only [List.foldl_cons, readField_veil (h q (by simp))]
    exact ih fun r hr => h r (by simp [hr])

@[simp] theorem plainRead_veil {k : Bool} {p off : Nat} (h : p ≠ 0x04 ∨ wide = false) :
    plainRead (s.veil wide) k p off = plainRead s k p off :=
  (regLayout_open_of h).foldl_readField_veil

/-! ### USB Power Delivery ports (chapter 12) -/

@[simp] theorem rxShow_veil {c : Fin 4} : rxShow (s.veil wide) c = (rxShow s c).veil wide := by simp [rxShow]
@[simp] theorem rxWord_veil {c : Fin 4} : rxWord (s.veil wide) c = rxWord s c := by simp [rxWord]

@[simp] theorem rxNext_veil {c : Fin 4} : rxNext (s.veil wide) c = (rxNext s c).veil wide := by
  cases h : s.rx[c.val] <;> simp [rxNext, h]

/-! ### Accumulators and trackers (R326 to R333) -/

@[simp] theorem accMode_veil {a : Nat} : accMode (s.veil wide) a = accMode s a := by simp [accMode]
@[simp] theorem accSrc_veil {a : Nat} : accSrc (s.veil wide) a = accSrc s a := by simp [accSrc]
@[simp] theorem accIqch_veil {a : Nat} : accIqch (s.veil wide) a = accIqch s a := by simp [accIqch]
@[simp] theorem accSq_veil {a : Nat} : accSq (s.veil wide) a = accSq s a := by simp [accSq]
@[simp] theorem accClass_veil {a cls : Nat} : accClass (s.veil wide) a cls = accClass s a cls := by simp [accClass]
@[simp] theorem sumTag_veil {a cls : Nat} : sumTag (s.veil wide) a cls = sumTag s a cls := by simp [sumTag]
@[simp] theorem sqTag_veil {a : Nat} : sqTag (s.veil wide) a = sqTag s a := by simp [sqTag]

/-! ### The Forager (chapter 7) -/

@[simp] theorem peekCapture_veil {c : Fin 4} : peekCapture (s.veil wide) c = (peekCapture s c).veil wide := by simp [peekCapture]

/-! ### Housekeeping conversion (chapter 13) -/

@[simp] theorem chK_veil {i : Nat} : chK (s.veil wide) i = chK s i := by simp [chK]
@[simp] theorem chKi_veil {i : Nat} : chKi (s.veil wide) i = chKi s i := by simp [chKi]
@[simp] theorem chRead_veil {off : Nat} : chRead (s.veil wide) off = chRead s off := by simp [chRead]

@[simp] theorem accCapture_veil {path : Fin 4} {a : Nat} :
    accCapture (s.veil wide) path a = (accCapture s path a).veil wide := by simp [accCapture]

/-! ### Impedance diagnostics (chapter 10) -/

@[simp] theorem impChannel_veil {n : Nat} : impChannel (s.veil wide) n = impChannel s n := by simp [impChannel]
@[simp] theorem impRead_veil {n off : Nat} : impRead (s.veil wide) n off = impRead s n off := by simp [impRead]

/-! ### Data integrity and the windows (chapter 14) -/

@[simp] theorem tagReturn_veil {path : Fin 4} {tag : Nat} :
    tagReturn (s.veil wide) path tag = veilFst wide (tagReturn s path tag) := by simp [tagReturn]

@[simp] theorem windowRead_veil {k : Bool} {a : Nat} :
    windowRead (s.veil wide) k a = (veilFst wide (windowRead s k a).1, (windowRead s k a).2) := by
  by_cases h : windowCode s k false a = 0 <;> simp [windowRead, h]

/-! ### The interrupt controller (chapter 17) -/

@[simp] theorem claimSource_veil {t n : Nat} (hn : n < 256) : claimSource (s.veil wide) t n = (claimSource s t n).veil wide := by
  simp [claimSource, veiled_prio hn]

@[simp] theorem claimRead_veil {t : Nat} : claimRead (s.veil wide) t = veilFst wide (claimRead s t) := by
  cases h : candidate s t with
  | none => simp [claimRead, h]
  | some n => simp [claimRead, h, candidate_lt h, veiled_prio (candidate_lt h)]

@[simp] theorem intcView_veil {off : Nat} : intcView (s.veil wide) off = intcView s off := by simp [intcView]

/-! ### The Swarm link (chapter 19) -/

@[simp] theorem swView_veil {off : Nat} : swView (s.veil wide) off = swView s off := by simp [swView]

/-! ### Register accesses (R79, R84 to R99) -/

@[simp] theorem pageLive_veil {p : Nat} : pageLive (s.veil wide) p = pageLive s p := by simp [pageLive]
@[simp] theorem pageReady_veil {p : Nat} : pageReady (s.veil wide) p = pageReady s p := by simp [pageReady]
@[simp] theorem headerView_veil {p off w : Nat} : headerView (s.veil wide) p off w = headerView s p off w := by simp [headerView]
@[simp] theorem tagPages_veil {j : Nat} : tagPages (s.veil wide) j = tagPages s j := by simp [tagPages]
@[simp] theorem accView_veil {acc w : Nat} : accView (s.veil wide) acc w = accView s acc w := by simp [accView]
@[simp] theorem combView_veil {c w : Nat} : combView (s.veil wide) c w = combView s c w := by simp [combView]

@[simp] theorem blockView_veil {k : Bool} {p off w : Nat} : blockView (s.veil wide) k p off w = blockView s k p off w := by
  have himp (n : Nat) : 0x88 + impChannel s n ≠ 0x04 ∨ wide = false := .inl (by omega)
  simp [blockView, himp]

@[simp] theorem regView_veil {k : Bool} {p off : Nat} (h : p ≠ 0x04 ∨ wide = false) :
    regView (s.veil wide) k p off = regView s k p off := by
  simp [regView, h]

@[simp] theorem regTag_veil {p off : Nat} : regTag (s.veil wide) p off = regTag s p off := by
  by_cases hoff : off < 0x7E0
  · have hval : (THS_VAL.T ((off - 0x100) / 0x14)).veiled wide = false := Fld.veiled_of_ne (by decide) (by omega) (by omega)
    simp [regTag, hval]
  · simp [regTag, hoff]

@[simp] theorem captureWide_veil {path : Fin 4} {key : Nat} (h : key / 0x1000 ≠ 0x04 ∨ wide = false) :
    captureWide (s.veil wide) path key = (captureWide s path key).veil wide := by simp [captureWide, h]

@[simp] theorem heldAt_veil {path : Fin 4} {key : Nat} : heldAt (s.veil wide) path key = heldAt s path key := by simp [heldAt]

@[simp] theorem readWide_veil {path : Fin 4} {key : Nat} {high : Bool} (h : key / 0x1000 ≠ 0x04 ∨ wide = false) :
    readWide (s.veil wide) path key high = veilFst wide (readWide s path key high) := by
  simp [readWide, h]
  split <;> rfl

@[simp] theorem captureAcc_veil {path : Fin 4} {acc : Nat} :
    captureAcc (s.veil wide) path acc = (captureAcc s path acc).veil wide := by simp [captureAcc]

@[simp] theorem accHeld_veil {path : Fin 4} {acc : Nat} : accHeld (s.veil wide) path acc = accHeld s path acc := by simp [accHeld]

@[simp] theorem readAcc_veil {path : Fin 4} {acc r : Nat} :
    readAcc (s.veil wide) path acc r = veilFst wide (readAcc s path acc r) := by
  simp [readAcc]
  repeat' split
  all_goals rfl

/-- The 64-bit registers stand above the pages of the hive. -/
theorem wide_page {p off key : Nat} {high : Bool} (h : Machine.wide p off = some (key, high)) : 0x10 ≤ key / 0x1000 := by
  cases hk : pageKind p with
  | none => simp [Machine.wide, hk] at h
  | some k =>
    obtain ⟨-, hp, -⟩ := pageKind_bounds hk
    simp only [Machine.wide, hk] at h
    repeat' split at h
    all_goals cases h
    all_goals
      simp only [Option.some.injEq] at *
      omega

@[simp] theorem readEffect_veil {k : Bool} {path : Fin 4} {p off : Nat} (h : p ≠ 0x04 ∨ wide = false) :
    readEffect (s.veil wide) k path p off = veilFst wide (readEffect s k path p off) := by
  cases hw : Machine.wide p off with
  | none =>
    simp [readEffect, h, hw]
    split <;> rfl
  | some q =>
    obtain ⟨key, high⟩ := q
    have hkey : key / 0x1000 ≠ 0x04 ∨ wide = false := .inl (by have := wide_page hw; omega)
    simp [readEffect, h, hw, hkey]
    split <;> rfl

@[simp] theorem regRead_veil {k : Bool} {path : Fin 4} {p off : Nat} (h : p ≠ 0x04 ∨ wide = false) :
    regRead (s.veil wide) k path p off = veilFst wide (regRead s k path p off) := by
  cases hp : pageKind p <;> simp [regRead, h, hp]

@[simp] theorem wordRead_veil {kf : Bool} {path : Fin 4} {addr : Nat} (h : addr / 0x1000 % 256 ≠ 0x04 ∨ wide = false) :
    wordRead (s.veil wide) kf path addr = veilFst wide (wordRead s kf path addr) := by
  simp [wordRead, h]

/-- A register of the host page changes nothing when it is read. -/
theorem wordRead_hostPage {kf : Bool} {path : Fin 4} {addr : Nat} (hlow : addr < 0x200000) (hpage : addr / 0x1000 % 256 = 0x04) :
    wordRead s kf path addr = (wordTouch s kf path addr,
      regView (wordTouch s kf path addr) (wordKeeper kf addr) 0x04 (addr % 0x1000), 0, 0) := by
  simp [wordRead, hlow, hpage, regRead, readEffect, tagReturn, regTag, pageKind]

/-- What a read does and its code are the same under either veil: only the value of a register of the host page may differ. -/
theorem wordRead_veil_effect {kf : Bool} {path : Fin 4} {addr : Nat} :
    (wordRead (s.veil wide) kf path addr).1 = (wordRead s kf path addr).1.veil wide
    ∧ (wordRead (s.veil wide) kf path addr).2.2.2 = (wordRead s kf path addr).2.2.2 := by
  by_cases hpage : addr / 0x1000 % 256 = 0x04
  · by_cases hlow : addr < 0x200000
    · simp [wordRead_hostPage hlow hpage]
    · simp [wordRead, hlow]
  · simp [hpage]

end Sys2Proof.Machine
end

section
/-! SUPPORT. The frames of the host port: how one is taken, what stands when its words have been performed, and what a completed one
leaves (R105, R108, R109). -/

namespace Sys2Proof.Machine

variable {F : Footprint} {s t u : State} {wide : Bool} {op addr len rcrc code : Nat} {data : List (BitVec 32)} {j : Job}

/-! ### What a footprint leaves alone -/

theorem Fld.id_of_veiled {f : Fld} (h : f.veiled wide = true) : f.id = Pin.HRDY.id ∨ wide = true ∧ f.id = HOST_STAT.ABORTS.id := by
  by_contra hne
  rw [not_or, not_and] at hne
  have hclear : f.veiled wide = false := Fld.veiled_eq_false.2 hne
  rw [hclear] at h
  cases h

section
variable (hF : ∀ f : Fld, f.veiled wide = true → F.fld f.id = true)
include hF

/-- The veil hides what the footprint allows to change. -/
theorem Frame.veil (s : State) : Frame F s (s.veil wide) ∧ Frame F (s.veil wide) s := by
  have hget (f : Fld) (hf : F.fld f.id = false) : (s.veil wide).get f = s.get f := by
    refine State.get_veil_of (Bool.eq_false_iff.2 fun hv => ?_)
    rw [hF f hv] at hf
    cases hf
  exact ⟨⟨hget, fun _ _ => rfl, fun _ _ => rfl, fun _ _ => rfl, fun q _ => by cases q <;> rfl⟩,
    ⟨fun f hf => (hget f hf).symm, fun _ _ => rfl, fun _ _ => rfl, fun _ _ => rfl, fun q _ => by cases q <;> rfl⟩⟩

/-- Two states that agree under the veil differ in what it hides alone. -/
theorem Frame.of_veil (h : t.veil wide = s.veil wide) : Frame F s t :=
  (Frame.veil hF s).1.trans (h ▸ (Frame.veil hF t).2)

end

protected theorem Frame.setJobs (h : Frame F s t) {i : Fin 4} {o : Option Job} (hi : F.part (.jobs i) = true) :
    Frame F s { t with jobs := t.jobs.set i o } := by
  refine ⟨h.fld, h.mem, h.ret, h.ecc, fun q hq => Part.same_trans (h.part q hq) ?_⟩
  cases q with
  | jobs k =>
    refine Vector.getElem_set_ne i.isLt k.isLt fun he => ?_
    rw [Fin.ext he, hq] at hi
    cases hi
  | _ => rfl

@[simp] theorem jobs_keepJob : (keepJob s 0 j).jobs[0] = some j := Vector.getElem_set_self (by decide)

@[simp] theorem jobs_dropJob : (dropJob s 0).jobs[0] = none := Vector.getElem_set_self (by decide)

/-- The paths are served as before where the PLLs, the clocks, a held reset and hive-sleep are left alone. -/
theorem served_congr (h : Frame F s t)
    (hF : ∀ f ∈ [Boot.PLL, Boot.HELD, Clk.LOST 73, Sleep.STATE, Sleep.STEP], F.fld f.id = false) : served t = served s := by
  have hget (f : Fld) (hf : f ∈ [Boot.PLL, Boot.HELD, Clk.LOST 73, Sleep.STATE, Sleep.STEP]) : t.get f = s.get f := h.fld f (hF f hf)
  simp [served, State.flag, hget]

theorem held_of_served (h : served s = true) : s.flag Boot.HELD = false := by
  simp only [served, Bool.and_eq_true, Bool.not_eq_true'] at h
  exact h.1.1.2

theorem held_of_get (h : s.get Boot.HELD = 0) : s.flag Boot.HELD = false := by simp [State.flag, h]

@[simp] theorem held_put_hrdy {v : Nat} : (s.put Pin.HRDY v).flag Boot.HELD = s.flag Boot.HELD :=
  State.flag_congr (State.get_put_ne _ _ (by decide))

/-! ### A word with HRDY low (R105) -/

/-- A word is performed alike whatever HRDY stands at: no register shows it, and no effect looks at it. -/
theorem wordRead_hrdy {kf : Bool} {path : Fin 4} {v : Nat} :
    veilFst false (wordRead (s.put Pin.HRDY v) kf path addr) = veilFst false (wordRead s kf path addr) := by
  rw [← wordRead_veil (.inr rfl), ← wordRead_veil (.inr rfl), State.veil_put (by decide)]

theorem wordWrite_hrdy {kf : Bool} {path : Fin 4} {node : BitVec 16} {w v : Nat} :
    veilFst false (wordWrite (s.put Pin.HRDY v) kf path node addr w) = veilFst false (wordWrite s kf path node addr w) := by
  rw [← wordWrite_veil, ← wordWrite_veil, State.veil_put (by decide)]

/-- A word that is read in a frame that ends is performed alike whatever ABORTS stands at too, but for the value of a register that
may show it. -/
theorem wordRead_ended {kf : Bool} {path : Fin 4} :
    (wordRead ((s.inc HOST_STAT.ABORTS).put Pin.HRDY 0) kf path addr).1.veil true = (wordRead s kf path addr).1.veil true
    ∧ (wordRead ((s.inc HOST_STAT.ABORTS).put Pin.HRDY 0) kf path addr).2.2.2 = (wordRead s kf path addr).2.2.2 := by
  have hveil : ((s.inc HOST_STAT.ABORTS).put Pin.HRDY 0).veil true = s.veil true :=
    (State.veil_put (by decide) _).trans (State.veil_put (by decide) _)
  obtain ⟨hstate, hcode⟩ := wordRead_veil_effect (s := (s.inc HOST_STAT.ABORTS).put Pin.HRDY 0) (wide := true) (kf := kf) (path := path)
    (addr := addr)
  obtain ⟨hstate', hcode'⟩ := wordRead_veil_effect (s := s) (wide := true) (kf := kf) (path := path) (addr := addr)
  rw [hveil] at hstate hcode
  exact ⟨hstate.symm.trans hstate', hcode.symm.trans hcode'⟩

/-! ### A frame is taken (R101, R103, R108) -/

/-- A frame as the host port takes it, its words still outstanding. -/
def hostJob (s : State) (op addr len : Nat) (data : List (BitVec 32)) (code : Nat) : Job :=
  let j := newJob 0 op addr len data (op.testBit 7 && sessionOpen s .host 0) code
  let f := 64 * 2 ^ s.get HOST_CFG.FIFO
  { j with fifo := f, quota := if j.write then j.quota else min f j.quota }

theorem hostOpen_none (h : s.jobs[0] = none) : hostOpen s = none := congrArg (Option.filter _) h

theorem hostOpen_some (h : s.jobs[0] = some j) (hk : j.kind = 0) : hostOpen s = some j := by
  simp only [hostOpen, h, Option.filter_some, hk]
  rfl

theorem hostClose_none (h : s.jobs[0] = none) : hostClose s = s := by rw [hostClose, hostOpen_none h]

theorem hostFrame_unserved (h : served s = false) : hostFrame s op addr len data rcrc = s := by
  rw [hostFrame, if_pos (by simp [h])]

section
variable (hs : served s = true) (hj : s.jobs[0] = none)
include hs hj

theorem hostReady_free : hostReady s = true := by simp [hostReady, hs, hj]

/-- A frame whose RCRC is that of its bytes. -/
theorem hostFrame_taken (hfit : data.length = if opWrites op then len + 1 else 0)
    (hcrc : crc16 0xFFFF (requestBytes op addr len data) = rcrc) : hostFrame s op addr len data rcrc
      = advance (s.put Pin.HRDY 0) 0 0 (hostJob s op addr len data (frameCode op addr len 255 0xFFFFFC)) := by
  have hready := hostReady_free hs hj
  simp [hostFrame, hs, hostClose_none hj, hready, hfit, hcrc, hostJob]

/-- A frame whose RCRC is another. -/
theorem hostFrame_crc (hcrc : crc16 0xFFFF (requestBytes op addr len data) ≠ rcrc) : hostFrame s op addr len data rcrc
    = advance ((hostCrcError s).put Pin.HRDY 0) 0 0 (hostJob s op addr len data 5) := by
  have hready := hostReady_free hs hj
  have hne : (crc16 0xFFFF (requestBytes op addr len data) == rcrc) = false := beq_eq_false_iff_ne.2 hcrc
  simp [hostFrame, hs, hostClose_none hj, hready, hne, hostJob]

end

/-- A check that fails: the frame stands with its words blank (R111). -/
theorem advance_hostJob_refused (hc : 5 ≤ code) (hh : u.flag Boot.HELD = false) :
    ∃ i, advance u 0 0 (hostJob s op addr len data code) = keepJob u 0 i
      ∧ Blanked (hostJob s op addr len data code) (hostJob s op addr len data code).quota i := by
  have hi := blanked_iterate (hostJob s op addr len data code) (hostJob s op addr len data code).quota
  exact ⟨_, (advance_refused hc rfl hh).trans (settle_host hh hi.kind), hi⟩

/-! ### The words of a chunk (R105) -/

/-- How many words of a read frame that stands in the register pages and windows have been performed. -/
structure ReadOn (j : Job) (n : Nat) (i : Job) : Prop where
  kind : i.kind = j.kind
  write : i.write = false
  fixed : i.fixed = false
  wait : i.wait = j.wait
  fifo : i.fifo = j.fifo
  addr : i.addr = j.addr + 4 * n
  left : i.left = j.left - n
  quota : i.quota = j.quota - n
  done : i.done = j.done + n
  out : i.out.length = j.out.length + 6 * n

theorem jobWords_readOn {v g c : Nat} (hw : j.write = false) (hf : j.fixed = false) : ReadOn j 1 (jobWords j 1 (wordBytes v g) c 0) where
  kind := rfl
  write := hw
  fixed := hf
  wait := rfl
  fifo := rfl
  addr := by simp [jobWords, hf]
  left := rfl
  quota := rfl
  done := rfl
  out := by simp [jobWords, hw, wordBytes]

theorem ReadOn.trans {i k : Job} {m n : Nat} (h : ReadOn j m i) (h' : ReadOn i n k) : ReadOn j (m + n) k where
  kind := h'.kind.trans h.kind
  write := h'.write
  fixed := h'.fixed
  wait := h'.wait.trans h.wait
  fifo := h'.fifo.trans h.fifo
  addr := by rw [h'.addr, h.addr]; omega
  left := by rw [h'.left, h.left]; omega
  quota := by rw [h'.quota, h.quota]; omega
  done := by rw [h'.done, h.done]; omega
  out := by rw [h'.out, h.out]; omega

/-- A word of such a frame leaves the frames and HRDY alone. -/
theorem jobStep_read {path : Fin 4} {node : BitVec 16} (hw : j.write = false) (hf : j.fixed = false) (ha : j.addr < 0x700000) :
    Frame wordFp s (jobStep s path node j).1 ∧ ReadOn j 1 (jobStep s path node j).2 := by
  have hremote : isRemote j = false := by simp [isRemote]; omega
  rw [jobStep, if_neg (by simp [hremote])]
  by_cases hc : 5 ≤ j.code
  · rw [localWord, if_pos hc]
    exact ⟨Frame.refl _ s, jobWords_readOn hw hf⟩
  · rw [localWord_read (by omega) hw]
    exact ⟨(Frame.refl _ s).wordRead, jobWords_readOn hw hf⟩

theorem runJob_read {path : Fin 4} {node : BitVec 16} {n : Nat} (hq : j.quota = n) (hw : j.write = false) (hf : j.fixed = false)
    (hwait : j.wait = 0) (ha : j.addr + 4 * n < 0x700004) (hh : s.flag Boot.HELD = false) :
    Frame wordFp s (runJob path node n s j).1 ∧ ReadOn j n (runJob path node n s j).2 := by
  induction n generalizing s j with
  | zero => exact ⟨Frame.refl _ s, rfl, hw, hf, rfl, rfl, rfl, rfl, rfl, rfl, rfl⟩
  | succ n ih =>
    obtain ⟨hstep, hj⟩ := jobStep_read (s := s) (path := path) (node := node) hw hf (by omega)
    have hheld : (jobStep s path node j).1.flag Boot.HELD = false := (State.flag_congr (hstep.fld _ rfl)).trans hh
    rw [runJob, if_neg (by simp [hq, hwait, hh])]
    obtain ⟨hrest, hi⟩ := ih (by rw [hj.quota, hq]; rfl) hj.write hj.fixed (hj.wait.trans hwait) (by rw [hj.addr]; omega) hheld
    exact ⟨hstep.trans hrest, Nat.add_comm 1 n ▸ hj.trans hi⟩

/-! ### A frame is over (R105, R109) -/

/-- What a frame that has ended leaves: its code and index stand in HOST_STAT, and HRDY stands as the port is served. -/
structure Ended (s : State) (j : Job) (t : State) : Prop where
  jobs : t.jobs[0] = none
  code : t.get HOST_STAT.CODE = j.code % 16
  index : t.get HOST_STAT.INDEX = j.index % 256
  aborts : t.get HOST_STAT.ABORTS = s.get HOST_STAT.ABORTS
  hrdy : t.get Pin.HRDY = bitOf (served s)
  frame : Frame (.any [.fields [HOST_STAT.CODE, HOST_STAT.INDEX, Pin.HRDY], .parts [.jobs 0]]) s t

theorem hostStat_get (s : State) (code index : Nat) : (hostStat s code index).get HOST_STAT.CODE = code % 16
    ∧ (hostStat s code index).get HOST_STAT.INDEX = index % 256 :=
  ⟨(State.get_put_ne _ _ (by decide)).trans (State.get_put_same ..), State.get_put_same ..⟩

theorem hostStat_frame (h : Frame F s t) (hF : (Footprint.fields [HOST_STAT.CODE, HOST_STAT.INDEX]).le F) (code index : Nat) :
    Frame F s (hostStat t code index) :=
  (h.put (hF.fld _ (by decide)) _).put (hF.fld _ (by decide)) _

theorem hostDone_ended (s : State) (j : Job) : Ended s j (hostDone s j false) := by
  have hframe : Frame (.any [.fields [HOST_STAT.CODE, HOST_STAT.INDEX, Pin.HRDY], .parts [.jobs 0]]) s
      (hostStat (dropJob s 0) j.code j.index) :=
    hostStat_frame ((Frame.refl _ s).setJobs (by decide)) (Footprint.fields_le (by decide)) _ _
  obtain ⟨hcode, hindex⟩ := hostStat_get (dropJob s 0) j.code j.index
  exact {
    jobs := jobs_dropJob (s := s)
    code := (State.get_put_ne _ _ (by decide)).trans hcode
    index := (State.get_put_ne _ _ (by decide)).trans hindex
    aborts := (State.get_put_ne _ _ (by decide)).trans (hframe.fld _ (by decide))
    hrdy := by
      have hbit : bitOf (served s) % 2 = bitOf (served s) := by cases served s <;> rfl
      exact ((State.get_put_same ..).trans (congrArg (bitOf · % 2) (served_congr hframe (by decide)))).trans hbit
    frame := hframe.putB (by decide) _ }

end Sys2Proof.Machine
end

section
/-! SUPPORT. O51: a frame at its check: refused, empty, or with the words of its first chunk performed (R101 to R103, R108, R111,
R112). -/

namespace Sys2Proof.Machine

variable {F : Footprint} {s t u : State} {kb : Bool} {addr : BitVec 24} {len op : BitVec 8} {data : List (BitVec 32)}
  {w : BitVec 32} {rcrc : BitVec 16}

/-! ### Opcodes (R102) -/

theorem opWrites_of_opReads {op : Nat} (h : opReads op = true) : opWrites op = false := by
  simp only [opReads, opWrites, Bool.or_eq_true, Bool.or_eq_false_iff, beq_iff_eq, beq_eq_false_iff_ne] at h ⊢
  omega

/-- An opcode with its Keeper bit. -/
theorem testBit_hostOp {k : Nat} (hk : k < 128) : (k + 128 * bitOf kb).testBit 7 = kb := by
  rw [Nat.testBit_eq_decide_div_mod_eq]
  cases kb <;> simp [bitOf] <;> omega

theorem frameCode_word {op addr : Nat} (hop : opReads op = true ∨ opWrites op = true) (halign : addr % 4 = 0) (haddr : addr < 0x700000) :
    frameCode op addr 0 255 0xFFFFFC = 0 := by
  have hlisted : (opReads op || opWrites op || op % 128 == 5) = true := by rcases hop with h | h <;> simp [h]
  simp only [frameCode, hlisted, halign]
  simp
  omega

theorem length_hostData {op : Nat} (h : opWrites op = false) :
    ([] : List (BitVec 32)).length = if opWrites op then len.toNat + 1 else 0 := by
  simp [h]

/-! ### The frame that stands -/

/-- The first chunk of a read frame: as many words as fit in it (R105). -/
theorem quota_hostJob_read {op addr len code : Nat} (hr : opReads op = true) :
    (hostJob s op addr len data code).quota = min (64 * 2 ^ s.get HOST_CFG.FIFO) (len + 1) := by
  simp [hostJob, newJob, hr, opWrites_of_opReads hr]

/-- A frame without words to perform. -/
theorem quota_hostJob_empty {op addr len code : Nat} (h : (opReads op || (opWrites op && code == 0)) = false) :
    (hostJob s op addr len data code).quota = 0 ∧ (hostJob s op addr len data code).left = 0 := by
  simp [hostJob, newJob, h]

theorem keepJob_frame (h : Frame F s t) {j : Job} (hF : F.part (.jobs 0) = true) : Frame F s (keepJob t 0 j) := h.setJobs hF

/-- A frame that stands where HRDY has fallen. -/
theorem taken_frame (s : State) (j : Job) : (keepJob (s.put Pin.HRDY 0) 0 j).get Pin.HRDY = 0
    ∧ Frame (.any [.fields [Pin.HRDY], .parts [.jobs 0]]) s (keepJob (s.put Pin.HRDY 0) 0 j) :=
  ⟨State.get_put_same s Pin.HRDY 0, keepJob_frame ((Frame.refl _ s).put (by decide) 0) (by decide)⟩

/-! ### RCRC differs (R103, R111, R398) -/

/-- What a failed check of RCRC may change. -/
def crcFp : Footprint := .any [.fields [Pin.HRDY, HOST_STAT.CRC_ERRS, Flt.BURST 0x04], .parts [.jobs 0], raiseFp 0x04]

theorem crcFp_spares : crcFp.fld Boot.HELD.id = false ∧ (raiseFp 0x04).fld HOST_STAT.CRC_ERRS.id = false := by decide

theorem raiseEvent_frame_host (h : Frame F s t) {i : Nat} (hi : i < 16) (hF : (raiseFp 0x04).le F) :
    Frame F s (raiseEvent t 0x04 i) :=
  raiseFault_frame_passive h _ hi (show pageKind 0x04 ≠ some 0x20 by decide) (fun _ _ _ => rfl) hF

theorem hostCrcError_get (s : State) : (hostCrcError s).get HOST_STAT.CRC_ERRS = min 255 (s.get HOST_STAT.CRC_ERRS + 1) := by
  have hcount : ((s.inc HOST_STAT.CRC_ERRS).inc (Flt.BURST 0x04)).get HOST_STAT.CRC_ERRS = min 255 (s.get HOST_STAT.CRC_ERRS + 1) :=
    (State.get_put_ne _ _ (by decide)).trans (State.get_inc ..)
  exact (((Frame.refl (raiseFp 0x04) _).on _ fun _ h => raiseEvent_frame_host (i := 0) h (by decide) (Footprint.le_refl _)).fld _
    crcFp_spares.2).trans hcount

theorem hostCrcError_frame (s : State) : Frame crcFp s (hostCrcError s) := by
  have hfield : ∀ f ∈ [Pin.HRDY, HOST_STAT.CRC_ERRS, Flt.BURST 0x04], crcFp.fld f.id = true :=
    fun f hf => (Footprint.le_any (by simp)).fld _ (Footprint.mem_fields hf)
  have hcounted : Frame crcFp s ((s.inc HOST_STAT.CRC_ERRS).inc (Flt.BURST 0x04)) :=
    ((Frame.refl _ s).inc (hfield HOST_STAT.CRC_ERRS (by simp))).inc (hfield (Flt.BURST 0x04) (by simp))
  exact hcounted.on (g := fun s => raiseEvent s 0x04 0) _ fun _ h =>
    raiseEvent_frame_host (i := 0) h (by decide) (Footprint.le_any (by simp))

/-- What stands where the check of RCRC has refused a frame. -/
theorem crcRefused (s : State) (j : Job) : (keepJob ((hostCrcError s).put Pin.HRDY 0) 0 j).get Pin.HRDY = 0
    ∧ (keepJob ((hostCrcError s).put Pin.HRDY 0) 0 j).get HOST_STAT.CRC_ERRS = min 255 (s.get HOST_STAT.CRC_ERRS + 1)
    ∧ Frame crcFp s (keepJob ((hostCrcError s).put Pin.HRDY 0) 0 j) :=
  ⟨State.get_put_same (hostCrcError s) Pin.HRDY 0,
    (State.get_put_ne (f := Pin.HRDY) (hostCrcError s) 0 (by decide)).trans (hostCrcError_get s),
    keepJob_frame ((hostCrcError_frame s).put (by decide) 0) (by decide)⟩

section
variable {i : Job} {op addr len code : Nat} (h : Blanked (hostJob s op addr len data code) (hostJob s op addr len data code).quota i)
include h

theorem Blanked.done_first {n : Nat} (hn : (hostJob s op addr len data code).quota = n) : i.done = n :=
  h.done.trans ((Nat.zero_add _).trans hn)

theorem Blanked.out_zero : ∀ b ∈ i.out, b = 0 := fun b hb => (h.out b hb).resolve_left List.not_mem_nil

end

section
variable (hs : served s = true) (hj : s.jobs[0] = none)
include hs hj

/-- A frame that the check of RCRC refuses. -/
theorem hostFrame_refused_crc {op addr len rcrc : Nat} (hcrc : crc16 0xFFFF (requestBytes op addr len data) ≠ rcrc) :
    ∃ i, hostFrame s op addr len data rcrc = keepJob ((hostCrcError s).put Pin.HRDY 0) 0 i
      ∧ Blanked (hostJob s op addr len data 5) (hostJob s op addr len data 5).quota i := by
  have hheld : ((hostCrcError s).put Pin.HRDY 0).flag Boot.HELD = false :=
    held_put_hrdy.trans ((State.flag_congr ((hostCrcError_frame s).fld _ crcFp_spares.1)).trans (held_of_served hs))
  obtain ⟨i, hi, hblank⟩ := advance_hostJob_refused (s := s) (op := op) (addr := addr) (len := len) (data := data) (code := 5)
    (by decide) hheld
  exact ⟨i, (hostFrame_crc hs hj hcrc).trans hi, hblank⟩


/-- A write that the check of RCRC refuses performs nothing. -/
theorem wr_crc (hcrc : crc16 0xFFFF (requestBytes (2 + 128 * bitOf kb) addr.toNat len.toNat data) ≠ rcrc.toNat) :
    ∃ t, exec (.wr kb addr len data rcrc) s = .next t
      ∧ t.jobs[0].map (fun j => (j.kind, j.code, j.index, j.left)) = some (0, 5, 0, 0) ∧ t.get Pin.HRDY = 0
      ∧ t.get HOST_STAT.CRC_ERRS = min 255 (s.get HOST_STAT.CRC_ERRS + 1)
      ∧ Frame crcFp s t := by
  obtain ⟨i, hi, hblank⟩ := hostFrame_refused_crc hs hj hcrc
  have hempty : (opReads (2 + 128 * bitOf kb) || (opWrites (2 + 128 * bitOf kb) && (5 == 0))) = false := by cases kb <;> rfl
  obtain ⟨hquota, hleft⟩ := quota_hostJob_empty (s := s) (addr := addr.toNat) (len := len.toNat) (data := data) hempty
  obtain ⟨hlow, hcount, hframe⟩ := crcRefused s i
  refine ⟨_, congrArg Host.Outcome.next hi, ?_, hlow, hcount, hframe⟩
  rw [jobs_keepJob, Option.map_some, hblank.kind, hblank.code, hblank.index, hblank.left, hquota, hleft]
  rfl

/-- A read that the check of RCRC refuses answers zeros at full length. -/
theorem rdn_crc (hcrc : crc16 0xFFFF (requestBytes (3 + 128 * bitOf kb) addr.toNat len.toNat []) ≠ rcrc.toNat) :
    ∃ t, exec (.rdn kb addr len rcrc) s = .next t
      ∧ t.jobs[0].map (fun j => (j.kind, j.code, j.index, j.done)) = some (0, 5, 0, min (64 * 2 ^ s.get HOST_CFG.FIFO) (len.toNat + 1))
      ∧ (∀ b ∈ (t.jobs[0].map (·.out)).getD [], b = 0)
      ∧ t.get HOST_STAT.CRC_ERRS = min 255 (s.get HOST_STAT.CRC_ERRS + 1)
      ∧ Frame crcFp s t := by
  obtain ⟨i, hi, hblank⟩ := hostFrame_refused_crc hs hj hcrc
  obtain ⟨-, hcount, hframe⟩ := crcRefused s i
  have hdone := hblank.done_first (quota_hostJob_read (by cases kb <;> rfl))
  refine ⟨_, congrArg Host.Outcome.next hi, ?_, ?_, hcount, hframe⟩
  · rw [jobs_keepJob, Option.map_some, hblank.kind, hblank.code, hblank.index, hdone]
    rfl
  · rw [jobs_keepJob]
    exact hblank.out_zero

/-! ### NOP, and opcodes that are not listed (R102, R111) -/

/-- A frame that performs no word and answers none. -/
theorem nop_taken (hop : op.toNat % 128 = 0 ∨ 5 ≤ op.toNat % 128) :
    ∃ t, exec (.nop op addr len (BitVec.ofNat 16 (crc16 0xFFFF (requestBytes op.toNat addr.toNat len.toNat [])))) s = .next t
      ∧ t.get Pin.HRDY = 0
      ∧ t.jobs[0].map (fun j => (j.kind, j.code, j.left, j.out)) = some (0, if op.toNat % 128 = 5 then 0 else 6, 0, [])
      ∧ Frame (.any [.fields [Pin.HRDY], .parts [.jobs 0]]) s t := by
  have hr : opReads op.toNat = false := by simp [opReads]; omega
  have hw : opWrites op.toNat = false := by simp [opWrites]; omega
  have hcode : frameCode op.toNat addr.toNat len.toNat 255 0xFFFFFC = if op.toNat % 128 = 5 then 0 else 6 := by
    by_cases h5 : op.toNat % 128 = 5 <;> simp [frameCode, hr, hw, h5]
  obtain ⟨hquota, hleft⟩ := quota_hostJob_empty (s := s) (op := op.toNat) (addr := addr.toNat) (len := len.toNat) (data := [])
    (code := frameCode op.toNat addr.toNat len.toNat 255 0xFFFFFC) (by simp [hr, hw])
  have htaken := (hostFrame_taken hs hj (length_hostData hw) (toNat_ofNat_crc16 _).symm).trans
    ((advance_complete hquota).trans (settle_host (held_put_hrdy.trans (held_of_served hs)) rfl))
  obtain ⟨hlow, hframe⟩ := taken_frame s
    (hostJob s op.toNat addr.toNat len.toNat [] (frameCode op.toNat addr.toNat len.toNat 255 0xFFFFFC))
  refine ⟨_, congrArg Host.Outcome.next htaken, hlow, ?_, hframe⟩
  rw [jobs_keepJob, Option.map_some, hleft, ← hcode]
  rfl

/-! ### MISALIGNED and RANGE (R111, R112) -/

theorem rd_unplaced (hplace : addr.toNat % 4 ≠ 0 ∨ 0xFFFFFC < addr.toNat + 4 * len.toNat) :
    ∃ t, exec (.rd kb addr len (BitVec.ofNat 16 (crc16 0xFFFF (requestBytes (1 + 128 * bitOf kb) addr.toNat len.toNat [])))) s = .next t
      ∧ t.jobs[0].map (fun j => (j.kind, j.code, j.index, j.done)) = some (0, if addr.toNat % 4 = 0 then 9 else 8, 0,
          min (64 * 2 ^ s.get HOST_CFG.FIFO) (len.toNat + 1))
      ∧ (∀ b ∈ (t.jobs[0].map (·.out)).getD [], b = 0) ∧ t.get Pin.HRDY = 0
      ∧ Frame (.any [.fields [Pin.HRDY], .parts [.jobs 0]]) s t := by
  have hr : opReads (1 + 128 * bitOf kb) = true := by cases kb <;> rfl
  have hadv : opAdvances (1 + 128 * bitOf kb) = true := by cases kb <;> rfl
  have hlen : ¬255 < len.toNat := by have := len.isLt; omega
  have hcode : frameCode (1 + 128 * bitOf kb) addr.toNat len.toNat 255 0xFFFFFC = if addr.toNat % 4 = 0 then 9 else 8 := by
    by_cases halign : addr.toNat % 4 = 0
    · have hlast : 0xFFFFFC < addr.toNat + 4 * len.toNat := hplace.resolve_left (not_not_intro halign)
      simp [frameCode, hr, hlen, halign, hadv, hlast]
    · simp [frameCode, hr, hlen, halign]
  have hrefused : 5 ≤ frameCode (1 + 128 * bitOf kb) addr.toNat len.toNat 255 0xFFFFFC := by rw [hcode]; split <;> decide
  obtain ⟨i, hi, hblank⟩ := advance_hostJob_refused (s := s) (op := 1 + 128 * bitOf kb) (addr := addr.toNat) (len := len.toNat)
    (data := []) hrefused (held_put_hrdy.trans (held_of_served hs))
  have htaken := (hostFrame_taken hs hj (length_hostData (opWrites_of_opReads hr)) (toNat_ofNat_crc16 _).symm).trans hi
  have hdone := hblank.done_first (quota_hostJob_read hr)
  obtain ⟨hlow, hframe⟩ := taken_frame s i
  refine ⟨_, congrArg Host.Outcome.next htaken, ?_, ?_, hlow, hframe⟩
  · rw [jobs_keepJob, Option.map_some, hblank.kind, hblank.code, hblank.index, hdone, ← hcode]
    rfl
  · rw [jobs_keepJob]
    exact hblank.out_zero

end

end Sys2Proof.Machine
end

section
/-! SUPPORT. O51: the words that a host-port frame performs at its check (R105, R108). -/

namespace Sys2Proof.Machine

variable {s t u : State} {kb : Bool} {addr : BitVec 24} {len : BitVec 8} {w : BitVec 32}

/-- What a word of the frame may change beside its own effect. -/
theorem veiled_hrdy {f : Fld} (h : f.veiled false = true) :
    (Footprint.any [.fields [Pin.HRDY], .parts [.jobs 0]]).fld f.id = true := by
  rcases Fld.id_of_veiled h with hid | ⟨hwide, -⟩
  · rw [hid]
    decide
  · cases hwide

theorem held_wordRead {kf : Bool} {path : Fin 4} {addr : Nat} : (wordRead s kf path addr).1.flag Boot.HELD = s.flag Boot.HELD :=
  State.flag_congr ((Frame.refl _ s).wordRead.fld _ rfl)

theorem hostJob_one {op addr : Nat} {data : List (BitVec 32)} (hop : opReads op = true ∨ opWrites op = true) :
    (hostJob s op addr 0 data 0).quota = 1 ∧ (hostJob s op addr 0 data 0).left = 1 := by
  have hfifo : 1 ≤ 64 * 2 ^ s.get HOST_CFG.FIFO := by have := Nat.two_pow_pos (s.get HOST_CFG.FIFO); omega
  have hleft : (newJob 0 op addr 0 data (op.testBit 7 && sessionOpen s .host 0) 0).left = 1 := by
    rcases hop with h | h <;> simp [newJob, h]
  have hquota : (newJob 0 op addr 0 data (op.testBit 7 && sessionOpen s .host 0) 0).quota = 1 := hleft
  refine ⟨?_, hleft⟩
  simp only [hostJob, hquota]
  split
  · rfl
  · exact Nat.min_eq_right hfifo

/-- The word of a frame that reads one, and the job that it leaves. -/
theorem advance_hostJob_read {op addr : Nat} (hr : opReads op = true) (hbit : op.testBit 7 = kb) (haddr : addr < 0x700000)
    (hh : u.flag Boot.HELD = false) : advance u 0 0 (hostJob s op addr 0 [] 0)
      = keepJob (wordRead u (kb && sessionOpen s .host 0) 0 addr).1 0 (jobWords (hostJob s op addr 0 [] 0) 1
          (wordBytes (wordRead u (kb && sessionOpen s .host 0) 0 addr).2.1 (wordRead u (kb && sessionOpen s .host 0) 0 addr).2.2.1)
          (wordRead u (kb && sessionOpen s .host 0) 0 addr).2.2.2 0) := by
  have hwrite : (hostJob s op addr 0 [] 0).write = false := opWrites_of_opReads hr
  have hkeeper : (hostJob s op addr 0 [] 0).keeper = (kb && sessionOpen s .host 0) := congrArg (· && sessionOpen s .host 0) hbit
  have haddr' : (hostJob s op addr 0 [] 0).addr = addr := rfl
  rw [advance_one (hostJob_one (.inl hr)).1 rfl haddr hh, localWord_read (show 0 < 5 by decide) hwrite, hkeeper, haddr',
    settle_host (held_wordRead.trans hh) rfl]

/-- The job of a frame of one word, once it has been performed. -/
theorem jobWords_first {j : Job} {out : List (BitVec 8)} {c : Nat} (hk : j.kind = 0) (hc : j.code = 0) (hi : j.index = 0) (hd : j.done = 0)
    (hl : j.left = 1) (ho : j.out = []) : (some (jobWords j 1 out c 0)).map (fun j => (j.kind, j.code, j.index, j.left, j.out))
      = some (0, c, 0, 0, if j.write then [] else out) := by
  by_cases hc0 : c = 0 <;> simp [jobWords, hk, hc, hi, hd, hl, ho, hc0]

theorem advance_hostJob_write {op addr : Nat} (hw : opWrites op = true) (hbit : op.testBit 7 = kb) (haddr : addr < 0x700000)
    (hh : u.flag Boot.HELD = false) (hh' : (wordWrite u (kb && sessionOpen s .host 0) 0 0 addr w.toNat).1.flag Boot.HELD = false) :
    advance u 0 0 (hostJob s op addr 0 [w] 0)
      = keepJob (wordWrite u (kb && sessionOpen s .host 0) 0 0 addr w.toNat).1 0 (jobWords (hostJob s op addr 0 [w] 0) 1 []
          (wordWrite u (kb && sessionOpen s .host 0) 0 0 addr w.toNat).2 0) := by
  have hwrite : (hostJob s op addr 0 [w] 0).write = true := hw
  have hkeeper : (hostJob s op addr 0 [w] 0).keeper = (kb && sessionOpen s .host 0) := congrArg (· && sessionOpen s .host 0) hbit
  have haddr' : (hostJob s op addr 0 [w] 0).addr = addr := rfl
  have hdata : ((hostJob s op addr 0 [w] 0).data.head?.getD 0).toNat = w.toNat := rfl
  rw [advance_one (hostJob_one (.inr hw)).1 rfl haddr hh, localWord_write (show 0 < 5 by decide) hwrite, hkeeper, haddr', hdata,
    settle_host hh' rfl]

section
variable (hs : served s = true) (hj : s.jobs[0] = none)
include hs hj

/-! ### One word -/

/-- A frame that reads one word of the register pages and windows. -/
theorem hostFrame_read {op addr rcrc : Nat} (hcrc : crc16 0xFFFF (requestBytes op addr 0 []) = rcrc) (hr : opReads op = true)
    (hbit : op.testBit 7 = kb)
    (halign : addr % 4 = 0) (haddr : addr < 0x700000) :
    (hostFrame s op addr 0 [] rcrc).jobs[0].map (fun j => (j.kind, j.code, j.index, j.left, j.out))
      = some (0, (wordRead s (kb && sessionOpen s .host 0) 0 addr).2.2.2, 0, 0,
          beBytes 4 (wordRead s (kb && sessionOpen s .host 0) 0 addr).2.1
            ++ beBytes 2 (wordRead s (kb && sessionOpen s .host 0) 0 addr).2.2.1)
    ∧ Frame (.any [.fields [Pin.HRDY], .parts [.jobs 0]]) (wordRead s (kb && sessionOpen s .host 0) 0 addr).1
        (hostFrame s op addr 0 [] rcrc) := by
  have hw := opWrites_of_opReads hr
  have hheld : (s.put Pin.HRDY 0).flag Boot.HELD = false := held_put_hrdy.trans (held_of_served hs)
  have hsame := wordRead_hrdy (s := s) (kf := kb && sessionOpen s .host 0) (path := 0) (addr := addr) (v := 0)
  have hstate := congrArg Prod.fst hsame
  have hvalue := congrArg Prod.snd hsame
  simp only [veilFst_fst, veilFst_snd] at hstate hvalue
  rw [hostFrame_taken hs hj (by simp [hw]) hcrc, frameCode_word (.inl hr) halign haddr, advance_hostJob_read hr hbit haddr hheld]
  refine ⟨?_, keepJob_frame (Frame.of_veil (fun _ => veiled_hrdy) hstate) (by decide)⟩
  rw [jobs_keepJob, jobWords_first rfl rfl rfl rfl (hostJob_one (.inl hr)).2 rfl, ← hvalue, if_neg (by simp [hostJob, newJob, hw])]
  rfl

/-- A frame that writes one word there, where no reset begins with it. -/
theorem hostFrame_write {op addr rcrc : Nat} (hcrc : crc16 0xFFFF (requestBytes op addr 0 [w]) = rcrc) (hw : opWrites op = true)
    (hbit : op.testBit 7 = kb)
    (halign : addr % 4 = 0) (haddr : addr < 0x700000)
    (hheld : (wordWrite s (kb && sessionOpen s .host 0) 0 0 addr w.toNat).1.get Boot.HELD = 0) :
    (hostFrame s op addr 0 [w] rcrc).jobs[0].map (fun j => (j.kind, j.code, j.index, j.left, j.out))
      = some (0, (wordWrite s (kb && sessionOpen s .host 0) 0 0 addr w.toNat).2, 0, 0, [])
    ∧ Frame (.any [.fields [Pin.HRDY], .parts [.jobs 0]]) (wordWrite s (kb && sessionOpen s .host 0) 0 0 addr w.toNat).1
        (hostFrame s op addr 0 [w] rcrc) := by
  have hsame := wordWrite_hrdy (s := s) (kf := kb && sessionOpen s .host 0) (path := 0) (node := 0) (addr := addr) (w := w.toNat) (v := 0)
  have hstate := congrArg Prod.fst hsame
  have hcode := congrArg Prod.snd hsame
  simp only [veilFst_fst, veilFst_snd] at hstate hcode
  have hframe := Frame.of_veil (F := .any [.fields [Pin.HRDY], .parts [.jobs 0]]) (fun _ => veiled_hrdy) hstate
  have hheld' := (State.flag_congr (hframe.fld Boot.HELD (by decide))).trans (held_of_get hheld)
  rw [hostFrame_taken hs hj (by simp [hw]) hcrc, frameCode_word (.inr hw) halign haddr,
    advance_hostJob_write hw hbit haddr (held_put_hrdy.trans (held_of_served hs)) hheld']
  refine ⟨?_, keepJob_frame hframe (by decide)⟩
  rw [jobs_keepJob, jobWords_first rfl rfl rfl rfl (hostJob_one (.inr hw)).2 rfl, ← hcode, if_pos (by simp [hostJob, newJob, hw])]

/-! ### The first chunk (R105) -/

/-- A read of the windows fills its first chunk with as many words as fit. -/
theorem rd_chunk (halign : addr.toNat % 4 = 0) (haddr : addr.toNat + 4 * len.toNat < 0x700000) :
    ∃ t, exec (.rd kb addr len (BitVec.ofNat 16 (crc16 0xFFFF (requestBytes (1 + 128 * bitOf kb) addr.toNat len.toNat [])))) s = .next t
      ∧ t.jobs[0].map (fun j => (j.kind, j.write, j.left, j.done, j.fifo, j.addr, j.out.length)) =
          some (0, false, len.toNat + 1 - min (64 * 2 ^ s.get HOST_CFG.FIFO) (len.toNat + 1),
            min (64 * 2 ^ s.get HOST_CFG.FIFO) (len.toNat + 1), 64 * 2 ^ s.get HOST_CFG.FIFO,
            addr.toNat + 4 * min (64 * 2 ^ s.get HOST_CFG.FIFO) (len.toNat + 1), 6 * min (64 * 2 ^ s.get HOST_CFG.FIFO) (len.toNat + 1))
      ∧ t.get Pin.HRDY = 0 := by
  have hr : opReads (1 + 128 * bitOf kb) = true := by cases kb <;> rfl
  have hfixed : opAdvances (1 + 128 * bitOf kb) = true := by cases kb <;> rfl
  have hheld : (s.put Pin.HRDY 0).flag Boot.HELD = false := held_put_hrdy.trans (held_of_served hs)
  have hquota := quota_hostJob_read (s := s) (addr := addr.toNat) (len := len.toNat) (data := []) (code := 0) hr
  have hleft : (hostJob s (1 + 128 * bitOf kb) addr.toNat len.toNat [] 0).left = len.toNat + 1 := by simp [hostJob, newJob, hr]
  have hcode : frameCode (1 + 128 * bitOf kb) addr.toNat len.toNat 255 0xFFFFFC = 0 := by
    have hlen : ¬255 < len.toNat := by have := len.isLt; omega
    have hlast : ¬0xFFFFFC < addr.toNat + 4 * len.toNat := by omega
    simp [frameCode, hr, hlen, halign, hlast]
  obtain ⟨hframe, hread⟩ := runJob_read (s := s.put Pin.HRDY 0) (path := 0) (node := 0) hquota (opWrites_of_opReads hr)
    (by simp [hostJob, newJob, hfixed]) rfl (show addr.toNat + 4 * _ < 0x700004 by omega) hheld
  have htaken := hostFrame_taken hs hj (length_hostData (len := len) (opWrites_of_opReads hr))
    (toNat_ofNat_crc16 _).symm (addr := addr.toNat)
  rw [hcode, advance, hquota, settle_host ((State.flag_congr (hframe.fld _ rfl)).trans hheld) hread.kind] at htaken
  refine ⟨_, congrArg Host.Outcome.next htaken, ?_, (hframe.fld Pin.HRDY rfl).trans (State.get_put_same s Pin.HRDY 0)⟩
  rw [jobs_keepJob, Option.map_some, hread.kind, hread.write, hread.left, hread.done, hread.fifo, hread.addr, hread.out, hleft]
  simp [hostJob, newJob]

end

end Sys2Proof.Machine
end

section
/-! SUPPORT. O51: the chunks of a response, and frames that end before and after their check (R104, R105, R107, R109). -/

namespace Sys2Proof.Machine

variable {s t u : State} {j : Job}

/-! ### Chunks (R105) -/

theorem chunkReady_idle (h : s.jobs[0] = none ∨ s.get Pin.HRDY = 1) : exec .chunkReady s = .next s := by
  refine congrArg Host.Outcome.next ?_
  unfold chunkReady
  split
  · rfl
  · next i hi =>
    have hbusy : s.get Pin.HRDY = 1 := h.resolve_left fun hn => by simp [hostOpen_none hn] at hi
    simp [State.flag, hbusy]

theorem chunkReady_sent (hj : s.jobs[0] = some j) (hk : j.kind = 0) (hwait : j.wait = 0) (hquota : j.quota = 0)
    (hlow : s.get Pin.HRDY = 0) :
    ∃ t, exec .chunkReady s = .next t
      ∧ t.sent = s.sent ++ [.hostResponse (j.out ++ (if j.left = 0 then beBytes 2 (j.code * 4096 + j.index % 256)
          ++ beBytes 2 (crc16 (crc16 j.crc j.out) (beBytes 2 (j.code * 4096 + j.index % 256))) else []))]
      ∧ t.jobs[0] = some { j with crc := crc16 j.crc j.out, out := [] } ∧ (served s = true → t.get Pin.HRDY = 1)
      ∧ Frame (.any [.fields [Pin.HRDY], .parts [.jobs 0, .sent]]) s t := by
  have hready : chunkReady s = hrdyUp (keepJob
      (s.send (.hostResponse (j.out ++ (if j.left = 0 then hostTail j (crc16 j.crc j.out) else []))))
      0 { j with crc := crc16 j.crc j.out, out := [] }) := by
    simp [chunkReady, hostOpen_some hj hk, State.flag, hlow, hwait, hquota]
  refine ⟨_, congrArg Host.Outcome.next hready, rfl, jobs_keepJob, fun hs => ?_, ?_⟩
  · exact (State.get_put_same ..).trans (congrArg (bitOf · % 2) hs)
  · exact (((Frame.refl _ s).send (by decide) _).setJobs (by decide)).putB (by decide) _

theorem chunkDrained_idle (h : s.jobs[0] = none ∨ s.get Pin.HRDY = 0) : exec .chunkDrained s = .next s := by
  refine congrArg Host.Outcome.next ?_
  unfold chunkDrained
  split
  · rfl
  · next i hi =>
    have hlow : s.get Pin.HRDY = 0 := h.resolve_left fun hn => by simp [hostOpen_none hn] at hi
    simp [State.flag, hlow]

/-- The last chunk of a frame. -/
theorem chunkDrained_last (hj : s.jobs[0] = some j) (hk : j.kind = 0) (hhigh : s.get Pin.HRDY = 1) (hleft : j.left = 0) :
    ∃ t, exec .chunkDrained s = .next t
      ∧ t.jobs[0] = none ∧ t.get HOST_STAT.CODE = j.code % 16 ∧ t.get HOST_STAT.INDEX = j.index % 256
      ∧ Frame (.any [.fields [HOST_STAT.CODE, HOST_STAT.INDEX], .parts [.jobs 0]]) s t := by
  have hlast : chunkDrained s = hostStat (dropJob s 0) j.code j.index := by
    simp [chunkDrained, hostOpen_some hj hk, State.flag, hhigh, hleft]
  obtain ⟨hcode, hindex⟩ := hostStat_get (dropJob s 0) j.code j.index
  exact ⟨_, congrArg Host.Outcome.next hlast, jobs_dropJob (s := s), hcode, hindex,
    hostStat_frame ((Frame.refl _ s).setJobs (by decide)) (Footprint.fields_le (by decide)) _ _⟩

/-- A frame whose next chunk is to be filled. -/
def nextChunk (j : Job) : Job := { j with quota := min j.fifo j.left }

/-- A later chunk of a frame that has been refused. -/
theorem chunkDrained_refused (hj : s.jobs[0] = some j) (hk : j.kind = 0) (hhigh : s.get Pin.HRDY = 1) (hleft : j.left ≠ 0) (hc : 5 ≤ j.code)
    (hheld : s.get Boot.HELD = 0) (hwait : j.wait = 0) :
    ∃ t, exec .chunkDrained s = .next t
      ∧ t.get Pin.HRDY = 0
      ∧ t.jobs[0].map (fun q => (q.left, q.done, q.code)) = some (j.left - min j.fifo j.left, j.done + min j.fifo j.left, j.code)
      ∧ Frame (.any [.fields [Pin.HRDY], .parts [.jobs 0]]) s t := by
  have hblank := blanked_iterate (nextChunk j) (min j.fifo j.left)
  have hheld' : (s.put Pin.HRDY 0).flag Boot.HELD = false := held_put_hrdy.trans (held_of_get hheld)
  have hfilled : chunkDrained s = advance (s.put Pin.HRDY 0) 0 0 (nextChunk j) := by
    simp [chunkDrained, hostOpen_some hj hk, State.flag, hhigh, hleft, nextChunk]
  have hnext : chunkDrained s = keepJob (s.put Pin.HRDY 0) 0 (blankWord^[min j.fifo j.left] (nextChunk j)) :=
    hfilled.trans ((advance_refused (j := nextChunk j) hc hwait hheld').trans (settle_host hheld' (hblank.kind.trans hk)))
  obtain ⟨hlow, hframe⟩ := taken_frame s (blankWord^[min j.fifo j.left] (nextChunk j))
  refine ⟨_, congrArg Host.Outcome.next hnext, hlow, ?_, hframe⟩
  rw [jobs_keepJob, Option.map_some, hblank.left, hblank.done, hblank.code]
  rfl

/-! ### A frame that ends before its check (R109) -/

theorem hostAbort_unserved (h : served s = false) : hostAbort s = s := if_pos (by simp [h])

/-- What an abort before the check leaves. -/
theorem hostAbort_counted (hs : served s = true) (hj : s.jobs[0] = none) :
    (hostAbort s).get HOST_STAT.ABORTS = min 255 (s.get HOST_STAT.ABORTS + 1)
      ∧ (hostAbort s).get HOST_STAT.CODE = 0xA ∧ (hostAbort s).get HOST_STAT.INDEX = 0
      ∧ Frame (.fields [HOST_STAT.ABORTS, HOST_STAT.CODE, HOST_STAT.INDEX]) s (hostAbort s) := by
  have habort : hostAbort s = hostStat (s.inc HOST_STAT.ABORTS) 0xA 0 := by
    simp [hostAbort, hs, hostClose_none hj, hostReady_free hs hj]
  obtain ⟨hcode, hindex⟩ := hostStat_get (s.inc HOST_STAT.ABORTS) 0xA 0
  have hkeep : (hostStat (s.inc HOST_STAT.ABORTS) 0xA 0).get HOST_STAT.ABORTS = (s.inc HOST_STAT.ABORTS).get HOST_STAT.ABORTS :=
    (hostStat_frame (Frame.refl (.fields [HOST_STAT.CODE, HOST_STAT.INDEX]) _) (Footprint.le_refl _) 0xA 0).fld _ (by decide)
  rw [habort]
  exact ⟨hkeep.trans (State.get_inc ..), hcode, hindex,
    hostStat_frame ((Frame.refl _ s).inc (by decide)) (Footprint.fields_le (by decide)) _ _⟩

/-! ### A frame that ends after its check (R109) -/

/-- The state in which the words that remain of an ended frame are performed. -/
def endStart (s : State) : State := (s.inc HOST_STAT.ABORTS).put Pin.HRDY 0

/-- A frame that is to perform what remains of it, and answers no more. -/
def endedJob (j : Job) : Job := { j with kind := 3, quota := j.left, out := [] }

theorem hostEnd_eq : hostEnd s j = advance (endStart s) 0 0 (endedJob j) := rfl

/-- What the end of a frame may change beside its words. -/
def hostEndFp : Footprint := .any [.fields [HOST_STAT.ABORTS, HOST_STAT.CODE, HOST_STAT.INDEX, Pin.HRDY], .parts [.jobs 0]]

theorem endStart_frame (s : State) : Frame (.fields [HOST_STAT.ABORTS, Pin.HRDY]) s (endStart s) :=
  ((Frame.refl _ s).inc (by decide)).put (by decide) 0

theorem Ended.hostEndFp (hu : Frame hostEndFp s u) (h : Ended u j t) : Frame hostEndFp s t := by
  refine hu.trans (h.frame.mono (Footprint.any_le fun G hG => ?_))
  simp only [List.mem_cons, List.not_mem_nil, or_false] at hG
  rcases hG with rfl | rfl
  · exact Footprint.fields_le (by decide)
  · exact Footprint.le_any (by simp)

theorem aborts_endStart (s : State) : (endStart s).get HOST_STAT.ABORTS = min 255 (s.get HOST_STAT.ABORTS + 1) :=
  (State.get_put_ne _ _ (by decide)).trans (State.get_inc ..)

theorem held_endStart (h : s.get Boot.HELD = 0) : (endStart s).flag Boot.HELD = false :=
  held_of_get (((endStart_frame s).fld _ (by decide)).trans h)

/-- The words that remain of a refused frame, or of one that has none left, are blank. -/
theorem hostEnd_blank (hwait : j.wait = 0) (hleft : j.left = 0 ∨ 5 ≤ j.code) (hheld : s.get Boot.HELD = 0) :
    ∃ i, hostEnd s j = hostDone (endStart s) i false ∧ i.code = j.code ∧ i.index = j.index := by
  have hblank := blanked_iterate (endedJob j) j.left
  have hsettle := settle_ended (path := 0) (held_endStart hheld) hblank.kind (hblank.wait.trans hwait)
    (hblank.quota.trans (Nat.sub_self _))
  refine ⟨_, (hostEnd_eq.trans ?_).trans hsettle, hblank.code, hblank.index⟩
  rcases hleft with h0 | hc
  · rw [h0, Function.iterate_zero_apply]
    exact advance_complete h0
  · exact advance_refused (j := endedJob j) hc hwait (held_endStart hheld)

/-- What such an end leaves. -/
theorem hostEnd_ended (hwait : j.wait = 0) (hleft : j.left = 0 ∨ 5 ≤ j.code) (hheld : s.get Boot.HELD = 0) :
    (hostEnd s j).jobs[0] = none ∧ (hostEnd s j).get HOST_STAT.ABORTS = min 255 (s.get HOST_STAT.ABORTS + 1)
      ∧ (hostEnd s j).get HOST_STAT.CODE = j.code % 16 ∧ (hostEnd s j).get HOST_STAT.INDEX = j.index % 256
      ∧ (hostEnd s j).get Pin.HRDY = bitOf (served s) ∧ Frame hostEndFp s (hostEnd s j) := by
  obtain ⟨i, hi, hcode, hindex⟩ := hostEnd_blank hwait hleft hheld
  have hend := hostDone_ended (endStart s) i
  rw [hi]
  exact ⟨hend.jobs, hend.aborts.trans (aborts_endStart s), hend.code.trans (congrArg (· % 16) hcode),
    hend.index.trans (congrArg (· % 256) hindex), hend.hrdy.trans (congrArg bitOf (served_congr (endStart_frame s) (by decide))),
    hend.hostEndFp ((endStart_frame s).mono (Footprint.fields_le (by decide)))⟩

/-- The last word of an ended frame, a read one. -/
theorem advance_ended_read (hk : j.kind = 3) (hquota : j.quota = 1) (hwait : j.wait = 0) (hw : j.write = false) (hc : j.code = 0)
    (haddr : j.addr < 0x700000) (hh : u.flag Boot.HELD = false) :
    ∃ i, advance u 0 0 j = hostDone (wordRead u j.keeper 0 j.addr).1 i false ∧ i.code = (wordRead u j.keeper 0 j.addr).2.2.2 := by
  refine ⟨jobWords j 1 (wordBytes (wordRead u j.keeper 0 j.addr).2.1 (wordRead u j.keeper 0 j.addr).2.2.1)
    (wordRead u j.keeper 0 j.addr).2.2.2 0, ?_, ?_⟩
  · rw [advance_one hquota hwait haddr hh, localWord_read (by omega) hw]
    exact settle_ended (held_wordRead.trans hh) hk hwait (congrArg (· - 1) hquota)
  · by_cases hc0 : (wordRead u j.keeper 0 j.addr).2.2.2 = 0 <;> simp [jobWords, hc, hc0]

/-- What the veil hides, an end may change. -/
theorem veiled_end {f : Fld} (h : f.veiled true = true) : hostEndFp.fld f.id = true := by
  rcases Fld.id_of_veiled h with hid | ⟨-, hid⟩ <;> rw [hid] <;> decide

/-- The one word that remains of a read frame is performed at its end. -/
theorem hostEnd_read (hwait : j.wait = 0) (hw : j.write = false) (hc : j.code = 0) (hleft : j.left = 1) (haddr : j.addr < 0x700000)
    (hheld : s.get Boot.HELD = 0) :
    (hostEnd s j).get HOST_STAT.CODE = (wordRead s j.keeper 0 j.addr).2.2.2 % 16
      ∧ Frame hostEndFp (wordRead s j.keeper 0 j.addr).1 (hostEnd s j) := by
  obtain ⟨hstate, hcode⟩ := wordRead_ended (s := s) (kf := j.keeper) (path := 0) (addr := j.addr)
  obtain ⟨i, hi, hicode⟩ := advance_ended_read (j := endedJob j) rfl hleft hwait hw hc haddr (held_endStart hheld)
  have hend := hostDone_ended (wordRead (endStart s) j.keeper 0 j.addr).1 i
  rw [hostEnd_eq, hi]
  exact ⟨hend.code.trans (congrArg (· % 16) (hicode.trans hcode)), hend.hostEndFp (Frame.of_veil (fun _ => veiled_end) hstate)⟩

/-! ### The commands (R107, R109) -/

theorem exec_frameEndAfterCheck_none (hj : s.jobs[0] = none) : exec .frameEndAfterCheck s = .next s := by
  refine congrArg Host.Outcome.next ?_
  rw [hostOpen_none hj]

theorem exec_frameEndAfterCheck_some (hj : s.jobs[0] = some j) (hk : j.kind = 0) : exec .frameEndAfterCheck s = .next (hostEnd s j) := by
  refine congrArg Host.Outcome.next ?_
  rw [hostOpen_some hj hk]

section
variable (hstall : s.get HOST_CFG.STALL ≠ 0) (hhigh : s.get Pin.HRDY = 1)
include hstall hhigh

/-- A pause ends an open frame. -/
theorem exec_stall_some (hj : s.jobs[0] = some j) (hk : j.kind = 0) : exec .stall s = .next (hostEnd s j) := by
  refine congrArg Host.Outcome.next ?_
  simp [hostOpen_some hj hk, hstall, State.flag, hhigh]

/-- A pause before the check aborts. -/
theorem exec_stall_none (hj : s.jobs[0] = none) : exec .stall s = .next (hostAbort s) := by
  refine congrArg Host.Outcome.next ?_
  simp [hostOpen_none hj, hstall, State.flag, hhigh]

end

theorem exec_stall_idle (h : s.get HOST_CFG.STALL = 0 ∨ s.get Pin.HRDY = 0) : exec .stall s = .next s := by
  refine congrArg Host.Outcome.next (if_pos ?_)
  rcases h with h | h <;> simp [State.flag, h]

/-! ### O51 -/

/-- Settles O51: each clause by the shape in which the frame's words leave it. The words of an accepted frame are performed with HRDY
already low, and those of an ended one with ABORTS counted, which the veil shows to make no difference. -/
theorem hostFramesAndChunks : Obligations.HostFramesAndChunks := by
  unfold Obligations.HostFramesAndChunks
  refine ⟨fun s kb addr len data w op rcrc => ⟨fun hs => ?_, fun hs hj => ⟨wr_crc hs hj, rdn_crc hs hj, fun hop => ?_, fun hop => ?_,
      rd_unplaced hs hj, fun halign _ haddr => rd_chunk hs hj halign haddr,
      fun halign haddr => ⟨_, rfl, hostFrame_read (op := 1 + 128 * bitOf kb) hs hj (toNat_ofNat_crc16 _).symm (by cases kb <;> rfl)
        (testBit_hostOp (by decide)) halign haddr⟩,
      fun halign haddr => ⟨_, rfl, hostFrame_read (op := 3 + 128 * bitOf kb) hs hj (toNat_ofNat_crc16 _).symm (by cases kb <;> rfl)
        (testBit_hostOp (by decide)) halign haddr⟩,
      fun halign haddr hheld => ⟨_, rfl, hostFrame_write (op := 2 + 128 * bitOf kb) hs hj (toNat_ofNat_crc16 _).symm (by cases kb <;> rfl)
        (testBit_hostOp (by decide)) halign haddr hheld⟩,
      fun halign haddr hheld => ⟨_, rfl, hostFrame_write (op := 4 + 128 * bitOf kb) hs hj (toNat_ofNat_crc16 _).symm (by cases kb <;> rfl)
        (testBit_hostOp (by decide)) halign haddr hheld⟩⟩⟩,
    fun s j => ⟨chunkReady_sent, chunkReady_idle, chunkDrained_last,
      fun hj hk hhigh hleft hc _ => chunkDrained_refused hj hk hhigh hleft hc, chunkDrained_idle,
      fun hs => congrArg Host.Outcome.next (hostAbort_unserved hs), fun hs hj => ⟨_, rfl, hostAbort_counted hs hj⟩,
      exec_frameEndAfterCheck_none,
      fun hj hk hwait hleft hheld => ⟨_, exec_frameEndAfterCheck_some hj hk, hostEnd_ended hwait hleft hheld⟩,
      fun hj hk hwait hw hc hleft haddr hheld => ⟨_, exec_frameEndAfterCheck_some hj hk, hostEnd_read hwait hw hc hleft haddr hheld⟩,
      exec_stall_idle,
      fun hstall hhigh hj hk => ⟨_, exec_stall_some hstall hhigh hj hk, exec_frameEndAfterCheck_some hj hk⟩,
      fun hstall hhigh hj hk hwait hleft hheld => ⟨_, exec_stall_some hstall hhigh hj hk, ?_⟩,
      fun hstall hhigh hj hs => ⟨_, exec_stall_none hstall hhigh hj, hostAbort_counted hs hj⟩⟩⟩
  · exact ⟨⟨_, rfl, hostFrame_unserved hs⟩, ⟨_, rfl, hostFrame_unserved hs⟩, ⟨_, rfl, hostFrame_unserved hs⟩,
      ⟨_, rfl, hostFrame_unserved hs⟩, ⟨_, rfl, hostFrame_unserved hs⟩⟩
  · have hnop := nop_taken (addr := addr) (len := len) hs hj (op := op) (.inr (by omega))
    rwa [if_pos hop] at hnop
  · have hnop := nop_taken (addr := addr) (len := len) hs hj (op := op) (by omega)
    rwa [if_neg (by omega)] at hnop
  · obtain ⟨hjobs, haborts, hcode, hindex, -, hframe⟩ := hostEnd_ended hwait hleft hheld
    exact ⟨hjobs, haborts, hcode, hindex, hframe⟩

end Sys2Proof.Machine
end
